-- ==== Sys2Proof/Word.lean ====
section
/-! DEFINITION. Word.lean: the register word of the control window, the bit-field reference, access
codes (R12), and the sparse table type in which every large store of the block is kept. -/

namespace Sys2Proof

/-- A 32-bit control-window register. -/
abbrev Word := BitVec 32

/-- One 4,096-byte block as it lies in a sector slot (R74): byte b is bits 8b+7:8b. -/
abbrev Block := BitVec 32768

/-- A sparse table: keys strictly rising; an absent key reads as the table's default. -/
abbrev Tbl (α : Type) := List (Nat × α)

/-- A field of a register: the register's control-window address, lowest bit and width (R10). -/
structure RF where
  addr : Nat
  lo : Nat
  w : Nat
  deriving DecidableEq, Repr

/-- Access codes of R12. -/
inductive Acc where
  | ro | rw | w1c | rc | wo | rwl
  deriving DecidableEq, Repr

/-- One field of a register description: lowest bit, width, access code, reset value. -/
structure FieldDesc where
  lo : Nat
  w : Nat
  acc : Acc
  rst : Nat
  deriving DecidableEq, Repr

/-- A register, or an array of registers with up to two indices, of the control window. -/
structure RegDesc where
  base : Nat
  n1 : Nat
  s1 : Nat
  n2 : Nat
  s2 : Nat
  fields : List FieldDesc
  deriving DecidableEq, Repr

end Sys2Proof
end

