-- ==== Sys2Proof/Syntax.lean ====
section
/-! DEFINITION. Syntax.lean: the commands of the block, one constructor per row of the table: first those with operands, then
those without, each in the table's order. What the outside world decides (what arrives, what is measured, when a timer
expires) is an operand. -/

namespace Sys2Proof

/-- What a sector operation is for. -/
inductive Purpose where
  /-- A read some command or engine waits for. -/
  | demand
  /-- Re-read number i of rung 5 (R123). -/
  | reread (i : Nat)
  /-- Verify of a sector just written; attempt number (R143). -/
  | verify (attempt : Nat)
  /-- Verify of a sector on an adjacent track (R140). -/
  | adjacent
  /-- A source of a reconstruction (R264, R744). -/
  | source
  /-- A strip write of a stripe write (R251). -/
  | strip
  /-- A rewrite in place; attempt number (R134, R141). -/
  | rewrite (attempt : Nat)
  /-- A spill copy (R300). -/
  | spill
  deriving DecidableEq, Repr

/-- A sector operation as the command scheduler supplies it (R71, R75): `wedge` is the track's starting wedge. -/
structure SecOp where
  member : Nat
  mba : Nat
  zone : Nat
  sector : Nat
  purpose : Purpose
  wedge : Nat := 0
  deriving DecidableEq, Repr

/-- What the demodulator sees of one slot at a wedge (R151–R153): the instant of a SAM in ns of timebase, if any came, Gray
parity good, wedge number, Gray track number, chevron fraction of each reader in 1/4,096 track, and chevron amplitude of each
reader in % of nominal. -/
structure SlotDemod where
  sam : Option Nat
  parity : Bool
  wedge : Nat
  track : Nat
  frac0 : Int
  frac1 : Int
  amp0 : Nat
  amp1 : Nat
  deriving DecidableEq, Repr

/-- The results of a wedge (R154): the four slots, and how many wedges the engine took from the demodulator's crossing FIFO
since the wedge before (R35). -/
structure WedgeResults where
  slots : List SlotDemod
  taken : Nat
  deriving DecidableEq, Repr

/-- Every function with an EN field (R52). -/
inductive Func where
  | lk | qm | cm | hc | dm | bm | jn | ar | rb | mc
  | vol (v : Fin 64)
  | ch (c : Fin 32)
  | ld (c : Fin 32)
  | sv (a : Fin 8)
  | sp (sp : Fin 4)
  | dmch (n : Fin 64)
  deriving DecidableEq, Repr


/-- Who reads a word of buffer memory (R538). -/
inductive BufUser where
  /-- Instruction fetch of a control core; the error bits of the mirror word. -/
  | fetch (core : Fin 4) (mirror : BitVec 80)
  | load (core : Fin 4)
  /-- A journal commit reading the payload of a write, or the egress of a read: the command. -/
  | commit (id : Nat)
  | egress (id : Nat)
  | dma (n : Fin 64)
  /-- A queue-context read, the parity engine, a stripe write or a lookup: their own rows act on the word. -/
  | other
  deriving DecidableEq, Repr

/-- A word of an on-die SRAM (R544). -/
inductive SramWord where
  | sample (c : Fin 32) (slot : Fin 4)
  | hcLine (i : Fin 48)
  | merge (i : Fin 8)
  | doorbells (w : Fin 32768)
  | context (q : BitVec 20)
  /-- Command table: the command, and whether its data is affected. -/
  | command (id : Nat) (data : Bool)
  | micro (a : Fin 16384)
  | nano (a : Fin 2048)
  | directory (i : Fin 131072)
  | presence (v : Fin 64)
  | runout (a : Fin 8) (i : Fin 8192)
  | capture (a : Fin 8) (i : Fin 4096)
  deriving DecidableEq, Repr

/-- A command or event of the block. -/
inductive Instr where
  /-- REGISTER_WRITE (R12). A write of one control-window register; core: by a control core, else over the link
  (R739); sets: bits the block itself sets in the same handshake (R13). -/
  | registerWrite (addr : BitVec 24) (value : Word) (core : Bool) (sets : Word)
  /-- RC_REGISTER_READ (R14). A read of one register; adds: what the handshake adds to its RC fields (R14). -/
  | rcRegisterRead (addr : BitVec 24) (core : Bool) (adds : Word)
  /-- PACE_WINDOW_END (R19). Handshakes of the window per block, in the order LK QM CM HC DM BM JN AR, C0-C31,
  A0-A7, MC (R19); vmeas: the measured core supply, mV. -/
  | paceWindowEnd (counts : List Nat) (vmeas : BitVec 10)
  /-- FUNCTION_ENABLE (R53). EN = 1 is written (R53). -/
  | functionEnable (f : Func)
  /-- FUNCTION_DISABLE (R53). EN = 0 is written (R53). -/
  | functionDisable (f : Func)
  /-- FUNCTION_STARTUP_DONE (R56). The start-up sequence ends; bad: DDR5 channels that failed training, for BM only
  (R559). -/
  | functionStartupDone (f : Func) (bad : BitVec 4)
  /-- FUNCTION_SHUTDOWN_DONE (R54). The shut-down sequence ends (R54). -/
  | functionShutdownDone (f : Func)
  /-- CONTROL_WRITE_FRAME (R49). A control-window WRITE frame addressed to the ZH8 is applied in arrival order and
  answered. -/
  | controlWriteFrame (src : BitVec 12) (tag : BitVec 16) (addr : BitVec 64) (len : Fin 4097) (data : Word) (rspReq fcrc
      : Bool) (sets : Word)
  /-- CONTROL_READ_FRAME (R49). A control-window READ frame addressed to the ZH8 is answered with READ_CPL.
  Operands: `door` a READ of the doorbell window, which returns 0 (R51). -/
  | controlReadFrame (src : BitVec 12) (tag : BitVec 16) (addr : BitVec 64) (len : Fin 4097) (door fcrc : Bool) (adds :
      Word)
  /-- DOORBELL_WRITE (R407). A doorbell write sets the pending-doorbell bit of its SQ or CQ. -/
  | doorbellWrite (q : BitVec 20) (cq : Bool) (src : BitVec 12) (tag : BitVec 16) (rspReq : Bool)
  /-- HEADSEL_WRITE (R59). A new selection, by firmware or by the command scheduler (R59). -/
  | headselWrite (c : Fin 32) (head : Fin 16) (fw : Bool)
  /-- HEAD_SELECT_APPLY (R60). The gate drops at the end of the current sector (R60). -/
  | headSelectApply (c : Fin 32)
  /-- HEAD_SETTLE_DONE (R60). The preamp settle time has passed (R60). -/
  | headSettleDone (c : Fin 32)
  /-- PREAMP_ACCESS (R67). Firmware writes CH_PA_CMD.GO (R67). -/
  | preampAccess (a : Fin 8) (addr : Fin 128) (write : Bool) (data : BitVec 16)
  /-- PREAMP_READ_RESPONSE (R64). The preamp's 24-bit answer (R64); late: to a request whose timeout was granted
  (R65). -/
  | preampReadResponse (a : Fin 8) (data : BitVec 16) (crc : BitVec 8) (late : Bool)
  /-- PREAMP_TIMEOUT (R65). 2 us pass without a response (R65). -/
  | preampTimeout (a : Fin 8)
  /-- PREAMP_FAULT (R69). PA_FLT_N goes low (R69). -/
  | preampFault (a : Fin 8)
  /-- SECTOR_READ (R88). A sector passes under a read head: the detected bits 84-139 of the slot, the bits around
  each resync mark, the frequency offset, the samples, an uncorrectable error in the slot, and whether the gate
  drops after it. -/
  | sectorRead (c : Fin 32) (op : SecOp) (around : BitVec 56) (resync : List (BitVec 46)) (fofs : BitVec 16) (s0 s1 :
      BitVec 221184) (ue last : Bool)
  /-- DECODE_DONE (R86). The normal-path decoder ends with hard decisions cw (R86). -/
  | decodeDone (c : Fin 32) (cw : BitVec 36480) (iter : Nat)
  /-- SECTOR_WRITE (R90). A sector write runs; vcrcOk: the recomputed VCRC equals the stored one (R472); completed:
  permission held to the last postamble bit (R139); last: the gate drops after it. -/
  | sectorWrite (c : Fin 32) (op : SecOp) (vcrcOk completed last : Bool)
  /-- SMEM_DATA_READ (R104). A read of CH_SMEM_DATA (R104). -/
  | smemDataRead (c : Fin 32)
  /-- LADDER_SECTOR_START (R105). The ladder engine takes its next sector (R105). -/
  | ladderSectorStart (a : Fin 8)
  /-- LADDER_DECODE_DONE (R110). A ladder pass and decode ends; unsat: unsatisfied checks. -/
  | ladderDecodeDone (a : Fin 8) (cw : BitVec 36480) (iter unsat : Nat)
  /-- LADDER_TIME_LIMIT (R130). TLIM of that sector's ladder expires (R130). -/
  | ladderTimeLimit (c : Fin 32) (mba : BitVec 40)
  /-- VERIFY_DONE (R144). A verify decode ends (R144, R145). -/
  | verifyDone (c : Fin 32) (cw : BitVec 36480) (iter : Nat)
  /-- WEDGE_FAST_CHECK (R154). The demodulator results of a wedge are complete: the four slots, in order (R154). -/
  | wedgeFastCheck (a : Fin 8) (r : WedgeResults)
  /-- WEDGE_OUTPUT_ARRIVAL (R166). The output set that the engine computes reaches the output register; t5: what SV_TIMING
  shows of it (R166, R202). -/
  | wedgeOutputArrival (a : Fin 8) (t5 : BitVec 14)
  /-- WEDGE_DEADLINE (R166). The deadline of step 6 of R165 passes (R166). -/
  | wedgeDeadline (a : Fin 8)
  /-- SEEK_START (R186). Target tracks per slot from the command scheduler (R156, R186). -/
  | seekStart (a : Fin 8) (targets : List (Nat × BitVec 20))
  /-- SETTLE_TIMEOUT (R189). The 512th wedge of SETTLING (R189). -/
  | settleTimeout (a : Fin 8)
  /-- ACCEL_SAMPLE (R180). A sample of an accelerometer, signed, 2,048 to the g (R180, R732). -/
  | accelSample (sensor : Fin 2) (x y z : BitVec 16)
  /-- ACCEL_SILENT (R182). No sample for 20 us (R182). -/
  | accelSilent (sensor : Fin 2)
  /-- LOAD (R190). SV_CMD.OP = LOAD (R190). -/
  | load (a : Fin 8)
  /-- UNLOAD (R193). SV_CMD.OP = UNLOAD (R193). -/
  | unload (a : Fin 8)
  /-- SEEK (R186). SV_CMD.OP = SEEK (R186). -/
  | seek (a : Fin 8)
  /-- LOAD_TIMEOUT (R191). LOAD_TMO expires (R191). -/
  | loadTimeout (a : Fin 8)
  /-- UNLOAD_TICK (R190, R193). A 5 us update of an unload or a load: the coil voltage, uV; the current is the one State holds. -/
  | unloadTick (a : Fin 8) (uv : Int)
  /-- HEADS_PARKED (R193). The park is detected (R193). -/
  | headsParked (a : Fin 8)
  /-- UNLOAD_TIMEOUT (R194). TMO expires (R194). -/
  | unloadTimeout (a : Fin 8)
  /-- UNLOAD_PUSH_END (R194). The 50 ms push ends (R194). -/
  | unloadPushEnd (a : Fin 8)
  /-- SV_DRV_FAULT (R196). A driver fault: a micro-actuator driver, or the voice coil's (R196). -/
  | svDrvFault (a : Fin 8) (head : Option (Fin 12))
  /-- TEST_INJECTION (R199). A write of SV_TSI_CTL (R199). -/
  | testInjection (a : Fin 8) (en : Bool) (point slot : Fin 4) (amp : BitVec 16)
  /-- CAPTURE_ARM (R200). SV_CAP_CTL.ARM = 1 (R200). -/
  | captureArm (a : Fin 8)
  /-- CAPTURE_DATA_READ (R202). A read of SV_CAP_DATA (R202). -/
  | captureDataRead (a : Fin 8)
  /-- RUNOUT_CLEAR (R185). SV_RC_CTL.CLEAR = 1 (R185). -/
  | runoutClear (a : Fin 8)
  /-- RUNOUT_DATA_ACCESS (R185). An access of SV_RC_DATA (R185). -/
  | runoutDataAccess (a : Fin 8) (write : Option (BitVec 16))
  /-- COEF_WRITE (R163). A write of SV_COEFk (R163). -/
  | coefWrite (a : Fin 8) (k : Fin 64) (v : BitVec 30)
  /-- PWM_PERIOD (R204). A PWM period: phase currents mA, quiet window 10 ns, innovation 0.5 percent (R204). -/
  | pwmPeriod (sp : Fin 4) (ia ib : BitVec 16) (quiet innov : Nat)
  /-- DUTY_SET_ARRIVAL (R205). The duty set that the control computed reaches the PWM timer (R205). -/
  | dutySetArrival (sp : Fin 4)
  /-- PWM_DEADLINE (R205). 12.0 us after the sampling instant (R205). -/
  | pwmDeadline (sp : Fin 4)
  /-- MP_OVERCURRENT (R206). A phase current reaches its limit (R206). -/
  | mpOvercurrent (sp : Fin 4)
  /-- SPIN (R214). SP_CMD.OP = SPIN (R214). -/
  | spin (sp : Fin 4)
  /-- STOP (R214). SP_CMD.OP = STOP (R214). -/
  | stop (sp : Fin 4)
  /-- SHORT (R214). SP_CMD.OP = SHORT (R214). -/
  | shortCmd (sp : Fin 4)
  /-- SPINDLE_SPEED_SAMPLE (R207). The speed measured over one revolution, 1/8 rpm (R207). -/
  | spindleSpeedSample (sp : Fin 4) (meas : BitVec 16)
  /-- SPINDLE_REGULATED (R215). The 32nd consecutive revolution within REG_WIN (R215). -/
  | spindleRegulated (sp : Fin 4)
  /-- SPINUP_START (R218). A spindle in WAIT may enter START (R218). -/
  | spinupStart (sp : Fin 4)
  /-- ROTOR_ANGLE_FOUND (R219). Inductive test pulses found the angle (R219). -/
  | rotorAngleFound (sp : Fin 4)
  /-- OBSERVER_LOCK (R219). The observer locks at 300 rpm (R219). -/
  | observerLock (sp : Fin 4)
  /-- START_ATTEMPT_FAIL (R219). A start attempt fails (R219). -/
  | startAttemptFail (sp : Fin 4)
  /-- START_RETRY (R219). 0.5 s after a failed attempt (R219). -/
  | startRetry (sp : Fin 4)
  /-- SPINUP_TIMEOUT (R220). The 18 s spin-up timer expires (R220). -/
  | spinupTimeout (sp : Fin 4)
  /-- SHORT_STANDSTILL (R222). The back-EMF has stayed below detection for 1 s (R222). -/
  | shortStandstill (sp : Fin 4)
  /-- CHOPPER_SWITCH (R223). The motor bus, 10 mV, crosses a chopper threshold (R223). -/
  | chopperSwitch (bus : BitVec 11)
  /-- CHOPPER_CURRENT_TIMEOUT (R224). 20 us after the chopper turned on; current in 0.25 A (R224). -/
  | chopperCurrentTimeout (sp : Fin 4) (amps : Nat)
  /-- CHOPPER_BUS_TIMEOUT (R224). CHOP_TMO expires (R224). -/
  | chopperBusTimeout (sp : Fin 4)
  /-- BUS_OVERVOLTAGE (R226). The PM comparator sees 14.6 V (R226). -/
  | busOvervoltage (bus : BitVec 11)
  /-- BEMF_ZERO_CROSSING (R229). A zero crossing, with the interval since the last, ns, and the sixth of an electrical cycle
  that it begins (R229). -/
  | bemfZeroCrossing (sp : Fin 4) (ns : Nat) (sector : Fin 6)
  /-- REACQ_TIMEOUT (R231). ACQ_TMO expires, or the speed has fallen 3.0 percent (R231). -/
  | reacqTimeout (sp : Fin 4)
  /-- MOTOR_BUS_COLLAPSE (R233). The motor bus falls below 4.5 V (R233). -/
  | motorBusCollapse (sp : Fin 4)
  /-- SAFE_SPINDLE_HOLD_END (R227). 200 ms after entry to SAFE (R227). -/
  | safeSpindleHoldEnd (sp : Fin 4)
  /-- STRIPE_WRITE_START (R251). A stripe write starts: its STRIPE record is committed, then parity and strip writes
  are issued. -/
  | stripeWriteStart (slot : Fin 64) (stripe : BitVec 40) (u0 u1 : Fin 256) (ce : Nat) (lost : List (Nat × Bool))
  /-- STRIP_WRITE_DONE (R253). A strip write completes; the stripe may retire and catch-up may advance. -/
  | stripWriteDone (jseq : BitVec 64) (member : Fin 96)
  /-- UNAVAIL_TIMEOUT (R258). A member UNAVAILABLE for UNAVAIL_TMO is declared FAILED and added to the failure
  lists. -/
  | unavailTimeout (member : Fin 96)
  /-- PARITY_JOB_SUBMIT (R272). A write of AR_PE_SUB_HI submits a parity job, or discards it when the queue is full.
  -/
  | parityJobSubmit (hi : Word)
  /-- PARITY_JOB_DONE (R270). A parity job ends, writes its status record and signals its submitter. Operands:
  `recon` names a reconstruction by its place among those in progress; otherwise the oldest job of the software
  queue ends. -/
  | parityJobDone (recon : Option (Fin 65536))
  /-- PATTERN_DATA_ACCESS (R273). An access to AR_PAT_DATA reads or writes a pattern word and advances AR_PAT_ADDR.
  -/
  | patternDataAccess (write : Option Word)
  /-- COMMIT_DURABLE (R283). Both JD dies acknowledge the record, it is durable and the extent directory points at
  it. Operands: the commit that runs is acknowledged by the dies in service; `late` names the dies whose
  acknowledgement meets a granted timeout. -/
  | commitDurable (late : BitVec 2)
  /-- JD_ACCESS_TIMEOUT (R294). A JD access unacknowledged within DIE_TMO fails the die, and the journal continues
  on the other die. -/
  | jdAccessTimeout (d : Fin 2)
  /-- JD_DIE_FAULT (R295). A JD die reports an internal fault and is failed. -/
  | jdDieFault (d : Fin 2)
  /-- JN_REPLAY (R311). JN start-up finds the superblock, scans the records and builds the extent directory, then
  goes ON in REDO. Operands: `dies` the dies found in service, `sb` whether some superblock is valid on either, and
  the JSEQs of records uncorrectable on every copy, each with whether the blocks a STRIPE record carried can all be
  read. -/
  | jnReplay (dies : BitVec 2) (sb : Bool) (ce : Nat) (lost : List (Nat × Bool))
  /-- SLOW_TIMEOUT (R319). A member operation unfinished within SLOW_TMO fails the member. -/
  | slowTimeout (member : Fin 96) (mba : BitVec 40)
  /-- RB_FAIL (R321). RB_CMD.OP = FAIL declares a member FAILED. -/
  | rbFail (arg : Fin 128)
  /-- RB_CLEAR (R322). RB_CMD.OP = CLEAR returns a FAILED member to UNAVAILABLE in MAINT. -/
  | rbClear (arg : Fin 128)
  /-- RB_RESHAPE (R346). RB_CMD.OP = RESHAPE starts a reshape of a volume into its shadow slot. -/
  | rbReshape (arg : Fin 128) (shadow : Fin 64)
  /-- RB_FT_CLEAR (R345). RB_CMD.OP = FT_CLEAR removes every forfeit entry of a volume and unfreezes it. -/
  | rbFtClear (arg : Fin 128)
  /-- RB_FORGET (R355). RB_CMD.OP = FORGET sets a volume's checkpoint record absent. -/
  | rbForget (arg : Fin 128)
  /-- REBUILD_ROW_DONE (R329). Every spare strip of the row at the cursor is written and verified, and the cursor
  advances. Operands: the row at the cursor. `lost` names its unreadable source sectors as stripe, position and
  offset, `cur` the medium's current data of the blocks that could be read, `bad` a spare's member whose write
  failed. -/
  | rebuildRowDone (v : Fin 64) (lost : List (Nat × Nat × Nat)) (cur : List (Nat × Block)) (bad : Option (Fin 96))
  /-- RESHAPE_STRIPE_MOVED (R348). A new-layout stripe has been read, journalled and written in the new layout.
  Operands: a new-layout stripe, or a dirty one again, is carried into the new layout once every DATA record that
  touches it has retired. `cur` is what the old layout gave; a block it does not give is lost. -/
  | reshapeStripeMoved (stripe : BitVec 40) (cur : List (Nat × Block))
  /-- BLOCK_RECEIVE (R363). A link block arrives, is corrected or found uncorrectable, and is accepted in BSEQ order
  or NAKed. Operands: `bits` the scrambled header and flits as they came, `errs` symbols in error of a 56 Gb/s
  codeword, or damage on a slower hop, `drained` the bytes that left the crossing FIFO of a lane since the block before. The
  frames and control flits it carries are rows of their own. -/
  | blockReceive (p : Fin 2) (bits : BitVec 5140) (errs : Fin 545) (drained : Nat)
  /-- LCF_RECEIVE (R365). A link control flit returns credits and may NAK, which starts a resend. -/
  | lcfReceive (p : Fin 2) (cr0 cr1 cr2 cr3 : BitVec 16) (nak : Option (BitVec 10))
  /-- REPLAY_TIMEOUT (R364). ACKSEQ has not advanced for 4 us, so the transmitter resends from the oldest
  unacknowledged block. -/
  | replayTimeout (p : Fin 2)
  /-- PORT_SIGNAL_DETECT (R367). Signal energy seen on a port's lanes starts training. -/
  | portSignalDetect (p : Fin 2) (partnerMax : Fin 4)
  /-- RATE_TRIAL_DONE (R367). A rate trial ends; on failure the next lower rate is tried. -/
  | rateTrialDone (p : Fin 2) (lanes : BitVec 8)
  /-- PORT_TRAINED (R367). Training words, deskew and alignment complete, and PSTATE becomes UP. Operands: the partner's TAG and
  versions, the lanes, its next BSEQ, its credits by VC, the worst skew between lanes, ns (R361), and the last 58 line
  bits received, from which the descrambler goes on (R359). -/
  | portTrained (p : Fin 2) (tag : Word) (v1 v2 : Option (Fin 16)) (lanes : BitVec 8) (next : BitVec 10) (cr0 cr1 cr2
      cr3 : BitVec 16) (skew : Nat) (line : BitVec 58)
  /-- LK_SHUTDOWN_DRAIN (R374). Every held block is acknowledged or 100 us pass, and the pass closes. Operands:
  every held block is acknowledged, or `expired` 100 µs have passed. -/
  | lkShutdownDrain (expired : Bool)
  /-- FRAME_FORWARD (R381). A frame not addressed to the ZH8 has HOPS decremented and is forwarded by the other
  port. Operands: a frame that arrives on a port and is not the ZH8's; `hcrc` its header is good. One of an
  undefined type that is addressed to the ZH8 is answered ACCESS_ERROR; in BOOT every frame addressed to it that has
  no row of its own is answered UNREACHABLE (R633). -/
  | frameForward (p : Fin 2) (kind : Fin 8) (dst src : BitVec 12) (vc : Fin 4) (hops : BitVec 8) (tag : BitVec 16) (len
      : Fin 4097) (addr : BitVec 64) (space : BitVec 8) (data : BitVec 32768) (code : BitVec 8) (hcrc : Bool)
  /-- ENUM_RECEIVE (R380). An ENUM frame assigns the ID if none is held and lowers the version floor. -/
  | enumReceive (p : Fin 2) (loop : Fin 32) (next : Fin 64) (floor : BitVec 8)
  /-- READ_CPL_RECEIVE (R390). A READ_CPL for an outstanding transaction delivers its data, and a stray one is
  discarded. -/
  | readCplReceive (tag : BitVec 16) (data : BitVec 32768)
  /-- WRITE_RSP_RECEIVE (R390). A WRITE_RSP completes an outstanding write, retiring merging-buffer entries and DMA
  frames. -/
  | writeRspReceive (tag : BitVec 16)
  /-- ERROR_RSP_RECEIVE (R392). An ERROR_RSP ends its transaction with an error that the requesting block handles.
  -/
  | errorRspReceive (tag : BitVec 16) (status : BitVec 8)
  /-- LINK_TRANSACTION_TIMEOUT (R392). A READ or a WRITE with RSP_REQ gets no response within LK_CFG.TMO, and its
  requester is told. -/
  | linkTransactionTimeout (tag : BitVec 16)
  /-- LANE_FAIL (R393). A lane that loses lock or exceeds its error limit is failed, and the port retrains on the
  remaining lanes. Operands: 10 µs without lock, or `errors` above the lane's limit; the port trains again, at its
  rate, on the remaining lanes. -/
  | laneFail (p : Fin 2) (lane : Fin 8) (errors : Bool)
  /-- PORT_DOWN (R394). A dead port is declared DOWN; requests for it are answered UNREACHABLE and the loop wraps.
  -/
  | portDown (p : Fin 2)
  /-- PORT_RETRY (R395). Every 100 ms a DOWN port is trained again. -/
  | portRetry (p : Fin 2)
  /-- DOORBELL_SERVE (R408). A pending-doorbell bit is served in round-robin order: it is cleared and its shadow
  word is read. Operands: `ue` an uncorrectable map word sets every bit of its word first (R409); the read bypasses
  the cache. -/
  | doorbellServe (ue : Option (Fin 32768))
  /-- SQ_PI_READ_RETURN (R411). An SQ producer index returns, is checked and advances SQ_PI_SEEN, and the scan
  starts. -/
  | sqPiReadReturn (q : BitVec 20)
  /-- CQ_CI_READ_RETURN (R427). A CQ consumer index returns, is checked and advances CQ_CI_SEEN, freeing slots. -/
  | cqCiReadReturn (q : BitVec 20)
  /-- ENTRY_TAKEN (R413). All 64 bytes of an owned entry are held on die; SQ_CI advances and the entry is checked.
  -/
  | entryTaken (q : BitVec 20)
  /-- COMPLETION_WRITE (R418). A completed command's CQ entry is written to the ring or to the spill area. Operands:
  a formed completion is written; `shadow` where the producer-shadow write follows at once, else a later one covers
  the entry (R419). Nothing is sent while halted (R432). -/
  | completionWrite (id : Nat) (shadow : Bool)
  /-- INTERRUPT_TIMER (R420). COAL_TIME expires after the first unsignalled entry, and an interrupt is sent. -/
  | interruptTimer (q : BitVec 20)
  /-- READ (R445). A READ transfers blocks from the buffer, the journal or the medium to the host; ce: JD words
  corrected on the way; lost: JSEQs of records uncorrectable on every copy, each with whether the blocks a STRIPE
  record carried can be read. -/
  | read (id ce : Nat) (lost : List (Nat × Bool))
  /-- WRITE (R445). A WRITE fetches host data and journals it, completing at durability or as FUA states. -/
  | write (id : Nat)
  /-- READ_STREAM (R464). A READ_STREAM reads under its own deadline and may be dropped if late. -/
  | readStream (id : Nat)
  /-- FLUSH (R469). A FLUSH waits until every write that was durable when it was taken has reached the medium. -/
  | flush (id : Nat)
  /-- FLUSH_DONE (R470). The covered writes are on the medium, and the FLUSH completes with HELD as appropriate. -/
  | flushDone (id : Nat)
  /-- VERIFY (R447). A VERIFY reads the range from the medium without transfer. -/
  | verify (id : Nat)
  /-- DEALLOCATE (R446). A DEALLOCATE reads its range list and journals the ranges as zero. -/
  | deallocate (id : Nat)
  /-- WRITE_ZEROES (R445). A WRITE_ZEROES journals its range as zero. -/
  | writeZeroes (id : Nat)
  /-- VOL_DEFINE (R449). Opcode VOL_DEFINE writes a volume's geometry registers. -/
  | volDefine (id : Nat)
  /-- VOL_ENABLE (R449). Opcode VOL_ENABLE enables a volume and completes at S3 or at the failing check. -/
  | volEnable (id : Nat)
  /-- VOL_DISABLE (R449). Opcode VOL_DISABLE disables a volume and completes at T3. -/
  | volDisable (id : Nat)
  /-- PATTERN_LOAD (R449). Opcode PATTERN_LOAD writes the 96 member bytes of a pattern. -/
  | patternLoad (id : Nat)
  /-- MEMBER_FAIL (R449). Opcode MEMBER_FAIL runs RB_CMD FAIL. -/
  | memberFail (id : Nat)
  /-- MEMBER_CLEAR (R449). Opcode MEMBER_CLEAR runs RB_CMD CLEAR. -/
  | memberClear (id : Nat)
  /-- RESHAPE (R449). Opcode RESHAPE runs RB_CMD RESHAPE. -/
  | reshape (id : Nat)
  /-- RESHAPE_PAUSE (R449). Opcode RESHAPE_PAUSE runs RB_CMD PAUSE and completes at the checkpoint. -/
  | reshapePause (id : Nat)
  /-- RESHAPE_RESUME (R449). Opcode RESHAPE_RESUME runs RB_CMD RESUME. -/
  | reshapeResume (id : Nat)
  /-- FORFEIT_CLEAR (R449). Opcode FORFEIT_CLEAR runs RB_CMD FT_CLEAR. -/
  | forfeitClear (id : Nat)
  /-- VOL_FORGET (R449). Opcode VOL_FORGET runs RB_CMD FORGET. -/
  | volForget (id : Nat)
  /-- IDENTIFY (R451). IDENTIFY writes the identify structure to the host. -/
  | identify (id : Nat)
  /-- QUEUE_CREATE (R452). QUEUE_CREATE checks a context image and makes both queues of the pair ACTIVE. -/
  | queueCreate (id : Nat)
  /-- QUEUE_DELETE (R453). QUEUE_DELETE moves a pair to DELETING. -/
  | queueDelete (id : Nat)
  /-- QUEUE_DELETE_DONE (R453). Both queues of the pair reach DISABLED, and QUEUE_DELETE completes. -/
  | queueDeleteDone (id : Nat)
  /-- GET_LOG (R454). GET_LOG copies part of a log to host memory. -/
  | getLog (id : Nat)
  /-- SET_FEATURE (R455). SET_FEATURE writes a feature register and returns the value read back. -/
  | setFeature (id : Nat)
  /-- GET_FEATURE (R450). GET_FEATURE returns a feature register's value in RESULT. -/
  | getFeature (id : Nat)
  /-- FW_STAGE (R707). FW_STAGE writes a contiguous piece of an image into the staging slot. -/
  | fwStage (id : Nat)
  /-- FW_ACTIVATE (R478). FW_ACTIVATE checks the staged slot and starts the drain. -/
  | fwActivate (id : Nat)
  /-- ATTEST (R714). ATTEST reads a nonce and writes back a signed attestation report. -/
  | attest (id : Nat)
  /-- KEY_ENROLL (R716). KEY_ENROLL enrols or removes a customer key in MAINT. -/
  | keyEnroll (id : Nat)
  /-- MICRO_LOAD (R594). MICRO_LOAD stores a piece of a customer image, and the last piece runs the image checks. -/
  | microLoad (id : Nat)
  /-- ABORT (R475). ABORT targets a taken command, which is aborted unless it has passed its point of no return. -/
  | abort (id : Nat)
  /-- ACTUATOR_SCHEDULE (R462). An actuator picks its next operation by deadline window and least estimated access.
  Operands: `est` the estimates of access time by member and MBA in µs, none 0; `bg` issues background I/O instead,
  privileged or not, and its actuator time in µs. -/
  | actuatorSchedule (a : Fin 8) (est : List (Nat × Nat × Nat)) (bg : Option (Bool × Nat))
  /-- DEADLINE_EXPIRY (R464). A DROP READ_STREAM's deadline is granted before its first data write, and it completes
  DEADLINE_MISSED. -/
  | deadlineExpiry (id : Nat)
  /-- CACHE_READ (R484). A requester's read hits a line, waits on a fill, or misses and starts a fill. Operands: a
  read by a requester; `ue` an uncorrectable word of the line. -/
  | cacheRead (req : Fin 16) (addr : BitVec 64) (ue : Bool)
  /-- CACHE_WRITE (R485). A requester's write updates a present line and merges into the merging buffer. -/
  | cacheWrite (req : Fin 16) (addr : BitVec 64) (len : Fin 129) (data : BitVec 1024)
  /-- MERGE_HOLD_EXPIRY (R492). WB_HOLD passes since an entry was allocated, and the entry is issued. Operands: The
  oldest entry not issued is issued (R492); `ue` an uncorrectable error found in it (R498). The queue manager's
  bytes are formed again and written; another requester's write counts as one that timed out. -/
  | mergeHoldExpiry (ue : Bool)
  /-- DM_CH_GO (R503). A write of DM_CH_CTL.GO starts the active set, or halts the channel with cause CFG. -/
  | dmChGo (n : Fin 64)
  /-- DMA_PAUSE (R508). A write of PAUSE = 1 stops new source reads and drains the channel. -/
  | dmaPause (n : Fin 64)
  /-- DMA_UNPAUSE (R508). A write of PAUSE = 0 resumes the transfer from its registers. -/
  | dmaUnpause (n : Fin 64)
  /-- SHADOW_ARM (R506). A write of DM_CH_SH_CTL.ARM marks the shadow set valid, and it starts at once on an idle
  channel. -/
  | shadowArm (n : Fin 64)
  /-- PERIPHERAL_REQUEST (R505). A peripheral asserts its request line, and a paced channel issues one burst. -/
  | peripheralRequest (line : Fin 128)
  /-- PERIPHERAL_WITHDRAW (R510). A peripheral withdraws its request; the burst is cancelled or poisoned, and the
  channel halts. -/
  | peripheralWithdraw (line : Fin 128) (started : Bool)
  /-- DM_RESUME (R523). A write of DM_RESUME continues a faulted transfer or fails its command. -/
  | dmResume (n : Fin 64) (fail : Bool)
  /-- FAULT_TIMER_EXPIRY (R524). No RESUME within FAULT_TMO completes the command with HOST_ACCESS_ERROR. -/
  | faultTimerExpiry (n : Fin 64)
  /-- HWT_DATA_ACCESS (R519). A write of word 3 through DM_HWT_DATA makes a staged window entry take effect, and the
  address advances. -/
  | hwtDataAccess (write : Option Word)
  /-- BUFFER_READ (R534). A buffer word is read and classified by syndrome as CLEAN, CE, POISON or UE. Operands:
  `flips` the error bits that have appeared in the stored word; `row` and `first` its DDR5 row and that row's first
  address, `rank` its rank. -/
  | bufferRead (addr : BitVec 64) (flips : BitVec 80) (row : Nat) (first : BitVec 64) (rank : Fin 2) (who : BufUser)
  /-- SCRUB_BURST (R540). The scrubber reads one burst per channel at its interval and writes back corrected or
  poisoned words. Operands: the next burst of every channel; `flips` error bits that have appeared in words of it,
  with the row of each word and that row's first address. -/
  | scrubBurst (flips : List (Nat × BitVec 80)) (row : Nat) (first : BitVec 64)
  /-- SRAM_SCRUB (R543). The SRAM scrubber reads an on-die word and corrects CE words. -/
  | sramScrub (word : SramWord) (ue : Bool)
  /-- ED_REBUILD_DONE (R554). The volume's DIRTY and SPILLED entries have been rebuilt, and the volume is released.
  -/
  | edRebuildDone (v : Fin 64)
  /-- MR4_POLL (R529). Mode register 4 is read every 32 ms to choose refresh and read the device temperature. -/
  | mr4Poll (chan : Fin 4) (fine : Bool) (temp : BitVec 8)
  /-- CONTEXT_DISPATCH (R568). An accepted command gets a context, which starts at its dispatch entry's micro-
  address. -/
  | contextDispatch (id : Nat)
  /-- MICROWORD_EXECUTE (R575). A sequencer executes one microword of a READY context as a unit. Operands: a trap
  that is due, or one microword. `imgUe` says that the copy a firmware word would be reloaded from is uncorrectable
  too; of a context at trap level, that its handler's word is (R588). -/
  | microwordExecute (n : Fin 256) (imgUe : Bool)
  /-- SEQ_NEXT (R569). SEQ NEXT continues at UPC + 1. -/
  | seqNext (n : Fin 256)
  /-- SEQ_JUMP (R569). SEQ JUMP continues at TARGET. -/
  | seqJump (n : Fin 256)
  /-- SEQ_BRANCH (R569). SEQ BRANCH continues at TARGET if the nanoword's condition holds. -/
  | seqBranch (n : Fin 256)
  /-- SEQ_CALL (R570). SEQ CALL pushes UPC + 1 and jumps to TARGET, or traps on a full stack. -/
  | seqCall (n : Fin 256)
  /-- SEQ_RETURN (R570). SEQ RETURN pops the return stack, or traps on an empty stack. -/
  | seqReturn (n : Fin 256)
  /-- SEQ_WAIT (R569). SEQ WAIT suspends the context until its wait event occurs. -/
  | seqWait (n : Fin 256)
  /-- WAIT_EVENT_DONE (R573). A context's wait event occurs, and the context becomes READY at UPC + 1. -/
  | waitEventDone (n : Fin 256)
  /-- SEQ_DISPATCH (R569). SEQ DISPATCH continues at the low 14 bits of a register. -/
  | seqDispatch (n : Fin 256)
  /-- SEQ_END (R571). SEQ END writes the completion, releases the context's channels and frees the context. -/
  | seqEnd (n : Fin 256)
  /-- ALU_PASS (R573). The ALU operation PASS copies operand B without changing the flags. -/
  | aluPass (n : Fin 256)
  /-- ALU_ADD (R576). The ALU operation ADD adds the operands and sets the flags. -/
  | aluAdd (n : Fin 256)
  /-- ALU_SUB (R576). The ALU operation SUB subtracts operand B from operand A and sets the flags. -/
  | aluSub (n : Fin 256)
  /-- ALU_AND (R573). The ALU operation AND combines the operands bitwise. -/
  | aluAnd (n : Fin 256)
  /-- ALU_OR (R573). The ALU operation OR combines the operands bitwise. -/
  | aluOr (n : Fin 256)
  /-- ALU_XOR (R573). The ALU operation XOR combines the operands bitwise. -/
  | aluXor (n : Fin 256)
  /-- ALU_SHL (R576). The ALU operation SHL shifts left by IMM2. -/
  | aluShl (n : Fin 256)
  /-- ALU_SHR (R576). The ALU operation SHR shifts right by IMM2. -/
  | aluShr (n : Fin 256)
  /-- ALU_CMP (R576). The ALU operation CMP sets the flags from A minus B without writing DST. -/
  | aluCmp (n : Fin 256)
  /-- ALU_CRC32C (R573). The ALU operation CRC32C advances a CRC-32C over 8 bytes. -/
  | aluCrc32c (n : Fin 256)
  /-- ALU_MIN (R573). The ALU operation MIN selects the smaller operand. -/
  | aluMin (n : Fin 256)
  /-- ALU_MAX (R573). The ALU operation MAX selects the larger operand. -/
  | aluMax (n : Fin 256)
  /-- ALU_EXTRACT (R573). The ALU operation EXTRACT takes a bit field given by IMM2. -/
  | aluExtract (n : Fin 256)
  /-- ALU_MUL (R576). The ALU operation MUL multiplies the operands, keeping the low 64 bits. -/
  | aluMul (n : Fin 256)
  /-- BUF_LOAD (R578). A BUF load reads buffer memory, checked against the customer slice. -/
  | bufLoad (n : Fin 256)
  /-- BUF_STORE (R578). A BUF store writes buffer memory, checked against the customer slice. -/
  | bufStore (n : Fin 256)
  /-- HOST_LOAD (R581). A HOST load reads through the host memory cache and sets MEM_ERR on failure. -/
  | hostLoad (n : Fin 256)
  /-- HOST_STORE (R581). A HOST store writes through the host memory cache and sets MEM_ERR on failure. -/
  | hostStore (n : Fin 256)
  /-- DMA_CLAIM (R574). The unit operation DMA_CLAIM claims a free channel of 48 to 63, waiting while none is free.
  -/
  | dmaClaim (n : Fin 256)
  /-- UNIT_DMA_GO (R579). The unit operation DMA_GO programs and starts a held channel, or traps ILLEGAL. -/
  | unitDmaGo (n : Fin 256)
  /-- UNIT_DMA_ARM (R579). The unit operation DMA_ARM programs a held channel's shadow set and arms it. -/
  | unitDmaArm (n : Fin 256)
  /-- DMA_RELEASE (R574). The unit operation DMA_RELEASE releases a held channel. -/
  | dmaRelease (n : Fin 256)
  /-- PE_SUB (R580). The unit operation PE_SUB submits a parity job and sets UNIT_OK if it is accepted. -/
  | peSub (n : Fin 256)
  /-- SREQ (R574). The unit operation SREQ asserts one soft request line for one request. -/
  | sreq (n : Fin 256)
  /-- SET_STATUS (R574). The unit operation SET_STATUS loads the STATUS latch. -/
  | setStatus (n : Fin 256)
  /-- PARK (R574). The firmware unit operation PARK parks the command and frees its context. -/
  | park (n : Fin 256)
  /-- FRAME (R574). The firmware unit operation FRAME performs its firmware action. -/
  | frame (n : Fin 256)
  /-- TRET (R585). The firmware unit operation TRET restores the trap frame and resumes at UPC. -/
  | tret (n : Fin 256)
  /-- DMA_ANY (R574). The firmware unit operation DMA_ANY performs its firmware action. -/
  | dmaAny (n : Fin 256)
  /-- JCOMMIT (R574). The firmware unit operation JCOMMIT performs its firmware action. -/
  | jcommit (n : Fin 256)
  /-- SCHED (R574). The firmware unit operation SCHED performs its firmware action. -/
  | sched (n : Fin 256)
  /-- VOL_READ (R582). The library service VOL_READ reads volume blocks into the slice with VCRC checks. -/
  | volRead (n : Fin 256)
  /-- VOL_WRITE (R582). The library service VOL_WRITE journals blocks from the slice and returns at durability. -/
  | volWrite (n : Fin 256)
  /-- VOL_FLUSH (R582). The library service VOL_FLUSH flushes a volume as FLUSH does. -/
  | volFlush (n : Fin 256)
  /-- VCRC (R582). The library service VCRC computes the VCRC of a block in the slice. -/
  | vcrc (n : Fin 256)
  /-- LIBRARY_UNDEFINED (R582). A CALL to an undefined library address returns with LIB_ERR and INVALID_OPCODE. -/
  | libraryUndefined (n : Fin 256)
  /-- POWER_ON (R609). At power-on, PM starts chain A or, failing it, chain B, and then enters BOOT. -/
  | powerOn (feedA feedB chainA chainB : Bool)
  /-- FEED_LOSS (R602). A feed below 10.4 V for 5 us is lost, and the other feed carries the load. -/
  | feedLoss (feed : Bool) (v : BitVec 11)
  /-- FEED_RETURN (R602). A lost feed that stays in range for 10 ms counts as present again, and a return after the
  grant is counted late. Operands: the return to 10.4 V comes after the grant and is discarded; `held` says that the
  feed has stayed in range for 10 ms, so that it counts as present again. -/
  | feedReturn (feed held : Bool) (v : BitVec 11)
  /-- FEED_OVERVOLTAGE (R603). A feed above 14.0 V for 1 us has both of its switches opened. -/
  | feedOvervoltage (feed : Bool) (v : BitVec 11)
  /-- FEED_OV_RECOVER (R603). An isolated feed that stays in range for 10 ms has its switches closed again. -/
  | feedOvRecover (feed : Bool) (v : BitVec 11)
  /-- HOLDUP_MEASURE (R606). The bank charges from 10 V to 26 V and its usable energy is measured. Operands: the
  bank took `t` µs from 10.0 V to 26.0 V at 50 mA: C = 0.05 A × t / 16.0 V, and EST = 360 × C joules, 9 t / 8,000
  mJ. -/
  | holdupMeasure (t : BitVec 32)
  /-- CHAIN_FAIL (R610). A rail out of window for 10 us fails the active chain and starts the switch-over gap.
  Operands: a rail of the active chain stayed out of its window for 10 µs; or, `late`, it returns after that was
  granted. -/
  | chainFail (late : Bool)
  /-- STANDBY_REGULATED (R611). The cold chain reaches regulation, the load transfers and GAP clears. Operands: the
  starting chain is within ±2 % after `us` µs; late after a granted timeout. -/
  | standbyRegulated (us : BitVec 10)
  /-- RESYNC_HOLD_DONE (R616). A resynchronising chain that held ±2 % for 100 ms is powered down to COLD, or stays
  FAILED. Operands: the 100 ms end, `ok` within ±2 % throughout. -/
  | resyncHoldDone (ok : Bool)
  /-- TEST_STANDBY_LOAD_DONE (R617). The tested chain has carried the load alone for 10 ms, and the chains swap
  roles, or the test fails. Operands: the tested chain carried the load alone for 10 ms, `ok` within ±4 %. -/
  | testStandbyLoadDone (ok : Bool)
  /-- SF_OVERSPEED (R621). A spindle above SF_LIM_SPD.OVS for two revolutions has its bridge turned off and its
  actuators retracted. -/
  | sfOverspeed (sp : Fin 4)
  /-- VCM_OVERCURRENT (R621). A coil current above VCM_ABS for VCM_TIME switches the driver to its retract path. -/
  | vcmOvercurrent (a : Fin 8) (ma : Int)
  /-- TEMP_SAMPLE (R621). Die temperatures are sampled every 100 us and compared with the warning and trip levels.
  -/
  | tempSample (temps : BitVec 64)
  /-- SELFTEST_DONE (R625). The self-test completes and its results are shown in SF_TEST. -/
  | selftestDone (res : BitVec 22)
  /-- SAFE_REQUEST (R634). A safety trip or an L3 escalation enters SAFE: entries stop and the actuators unload.
  Operands: `l3` for an escalation, else the safety monitor. -/
  | safeRequest (l3 : Bool)
  /-- IDLE_TIMER_EXPIRY (R643). An idle timer of a group expires, the target level is derived, and a step down
  starts if allowed. -/
  | idleTimerExpiry (group : Fin 16) (level : Fin 4)
  /-- WAKE (R654). A frame for the saved ID, or a safety trip, wakes the device from REST and restores its power. -/
  | wake (trip : Bool)
  /-- IDLE_CFG_WRITE (R661). A write to MD_IDLE_CFG sets the timer named by GROUP and LEVEL. -/
  | idleCfgWrite (group : Fin 16) (level : Fin 4) (time : BitVec 24)
  /-- HOURGLASS_EXPIRY (R668). A unit's hourglass expires, the unit escalates one level and takes that level's
  action. -/
  | hourglassExpiry (u : Fin 60)
  /-- FAULT_ACK (R666). A write of FT_U_ACK acknowledges classes, and the hourglass is cancelled when none are
  pending. Operands: `late` where it met an expiry that was granted and would have emptied FT_U_PEND. -/
  | faultAck (u : Fin 60) (mask : Word) (late : Bool)
  /-- FAULT_PULSE_END (R676). 12 us after its last trigger, the FAULT_N pulse ends. -/
  | faultPulseEnd (monitor : Bool)
  /-- RESET_PIN (R736). RESET_N held low for 1 us or longer causes a device reset, and its release enters BOOT. -/
  | resetPin (low : Bool)
  /-- HISTORY_SNAP (R674). A write of FT_U_CTL.SNAP copies the history queue into FT_U_HISTn. -/
  | historySnap (u : Fin 60)
  /-- HISTORY_CLEAR (R674). A write of FT_U_CTL.CLEAR empties the history queue. -/
  | historyClear (u : Fin 60)
  /-- RATE_TOKEN_RETURN (R684). A token returns to a code's count each period. -/
  | rateTokenReturn (code : BitVec 16)
  /-- PREAMP_FAULT_RELEASE (R69). PA_FLT_N returns high, so write gates on the actuator may be allowed again once
  PA_FAULT is clear in all four channels. -/
  | preampFaultRelease (a : Fin 8)
  /-- PM_SHORT_RELEASE (R226). PM releases the forced short on all four MP dies, after which each forcibly shorted
  spindle may pass to STOPPED. -/
  | pmShortRelease (bus : BitVec 11)
  /-- DMA_BURST_DONE (R507). A DMA burst to buffer memory or a peripheral completes, LEN decreases and the transfer
  may reach DONE or halt on poison. Operands: a burst to buffer memory or a peripheral ends; `data` and `poison`
  what a peripheral gave. -/
  | dmaBurstDone (n : Fin 64) (data : BitVec 32768) (poison : Bool)
  /-- LANE_LOCK_LOSS (R393). A lane loses or regains clock or block lock, which arms or cancels the 10 us lane and
  100 us port timers. -/
  | laneLockLoss (p : Fin 2) (lane : Fin 8) (loss : Bool)
  /-- HOLDUP_VOLTAGE_CHANGE (R606). The hold-up bank voltage crosses 27.0 V, which sets or ends a HOLDUP_LOW
  excursion and changes PW_HOLDUP.OK. -/
  | holdupVoltageChange (v : BitVec 9)
  /-- COMMIT_START (R283). When a record's data is complete and the previous commit is durable, the commit starts
  and takes a JSEQ. -/
  | commitStart
  /-- SUPERBLOCK_WRITE (R292). The tail's JSEQ and granule are written into the older superblock, freeing ring space
  behind the tail. -/
  | superblockWrite
  /-- JN_RESYNC (R297). JN_CMD.OP = RESYNC starts copying the ring, superblocks and system areas to the failed die.
  -/
  | jnResync
  /-- JN_RESYNC_DONE (R297). The copy completes and the die's JN_MIRROR bit is set. -/
  | jnResyncDone
  /-- JN_FORMAT (R313). JN_CMD.OP = FORMAT in MAINT empties the ring and writes new superblocks. -/
  | jnFormat
  /-- SPILL_INDEX_WRITE (R301). Once both verified spill copies are written, the spill index entry is written and
  the ring space is freed. -/
  | spillIndexWrite
  /-- RB_PAUSE (R352). RB_CMD.OP = PAUSE stops the reshape at its next checkpoint. -/
  | rbPause
  /-- RB_RESUME (R352). RB_CMD.OP = RESUME restarts the reshape and ends RS_WAIT. -/
  | rbResume
  /-- RESHAPE_CHECKPOINT (R350). After 64 clean moved stripes, MARK is written and routing advances. -/
  | reshapeCheckpoint
  /-- FT_DATA_READ (R355). A read of RB_FT_DATA returns a word of a forfeit entry and advances RB_FT_ADDR. -/
  | ftDataRead
  /-- RETRAIN_W (R367). A write of LK_CTL.RETRAIN_W = 1 retrains port W. -/
  | retrainW
  /-- RETRAIN_E (R367). A write of LK_CTL.RETRAIN_E = 1 retrains port E. -/
  | retrainE
  /-- TAP_TRAINING_DONE (R373). Tap training completes; the pass opens at a block boundary and both ports train. -/
  | tapTrainingDone
  /-- HALT_PARK (R433). 2 s after a halt in SERVICE, the device steps to I2 and the heads unload. -/
  | haltPark
  /-- QM_READ (R436). QM_Q_CMD.OP = READ copies a pair's context into the snapshot registers. -/
  | qmRead
  /-- QM_CREATE (R436). QM_Q_CMD.OP = CREATE checks the staged words and creates pair 0. -/
  | qmCreate
  /-- QM_RECOVER (R430). QM_Q_CMD.OP = RECOVER re-reads the host shadow words of a pair in ERROR. -/
  | qmRecover
  /-- QM_RECOVER_DONE (R430). The re-reads of RECOVER end, each queue returns to ACTIVE or stays in ERROR, and BUSY
  clears. -/
  | qmRecoverDone
  /-- QM_DELETE (R436). QM_Q_CMD.OP = DELETE in MAINT moves pair 0 to DELETING. -/
  | qmDelete
  /-- ATTEST_DONE (R715). Signing of the report completes, and the signature and BT_ATT.SEQ are replaced together.
  -/
  | attestDone
  /-- CM_RESET (R476). CM_CMD.OP = RESET stops taking entries and stops commands at their step boundaries. -/
  | cmReset
  /-- CM_RESET_COMPLETE (R476). After commits become durable, the halt is cleared, taken commands complete
  ABORTED_RESET and fetching resumes. -/
  | cmResetComplete
  /-- CM_SHUTDOWN_LIMIT (R480). Commands still in flight 600 ms after CM STOPPING began complete with ABORTED_RESET.
  -/
  | cmShutdownLimit
  /-- ACTIVATION_DRAIN_LIMIT (R479). The 600 ms drain limit is granted, and the remaining commands complete
  ABORTED_ACTIVATE. -/
  | activationDrainLimit
  /-- ACTIVATION_SWITCH (R711). After the drain, the cores stop, the gate loads the new slot's stages and the new
  firmware starts. -/
  | activationSwitch
  /-- ACTIVATION_DONE (R478). The queue manager restarts with KEEP = 1, and FW_ACTIVATE completes. -/
  | activationDone
  /-- INVAL_LINE (R494). HC_MAINT.OP = INVAL_LINE invalidates the line holding HC_MAINT_ADDR. -/
  | invalLine
  /-- INVAL_RANGE (R494). HC_MAINT.OP = INVAL_RANGE invalidates every line meeting a range. -/
  | invalRange
  /-- INVAL_ALL (R494). HC_MAINT.OP = INVAL_ALL invalidates every line. -/
  | invalAll
  /-- DRAIN (R494). HC_MAINT.OP = DRAIN is applied once every merging-buffer entry present at acceptance has been
  retired. -/
  | drain
  /-- MICRO_IMAGE_INSTALL (R595). When no customer routine runs, a checked image is installed and dispatch resumes.
  -/
  | microImageInstall
  /-- CTX_SNAP (R600). A write of MC_CTX_SEL.SNAP copies a context's status and trap frame at one instant. -/
  | ctxSnap
  /-- DISP_DATA_READ (R600). A read of MC_DISP_DATA returns a dispatch entry and advances OPC. -/
  | dispDataRead
  /-- STORE_DATA_READ (R600). A read of MC_STORE_DATA returns a corrected store word and advances the address. -/
  | storeDataRead
  /-- POWER_FAIL_SIGNAL (R604). Both feeds lost, or a failed standby, raise the power-fail signal and start power-
  down on hold-up. -/
  | powerFailSignal
  /-- POWER_DOWN_COMPLETE (R607). At 4.000 ms the core supply is removed, the pass closes and the mode is OFF. -/
  | powerDownComplete
  /-- STANDBY_TIMEOUT (R613). The cold chain is not regulated within 800 us, so the standby has failed and power-
  fail is raised. -/
  | standbyTimeout
  /-- RESYNC_TIMER (R616). 60 s after a chain fails, resynchronisation of the FAILED chain starts. -/
  | resyncTimer
  /-- TEST_STANDBY (R617). PW_CMD.OP = TEST_STANDBY starts the standby chain into its isolated outputs. -/
  | testStandby
  /-- FORCE_SWITCH (R619). PW_CMD.OP = FORCE_SWITCH isolates the active chain and runs the switch-over. -/
  | forceSwitch
  /-- PW_RESYNC (R616). PW_CMD.OP = RESYNC resynchronises a FAILED chain. -/
  | pwResync
  /-- HEARTBEAT (R622). A core heartbeat pulse restarts the HB_TMO timer, or is counted late after a trip. -/
  | heartbeat
  /-- HEARTBEAT_TIMEOUT (R621). No heartbeat for HB_TMO retracts every actuator, turns the bridges off and requests
  SAFE. -/
  | heartbeatTimeout
  /-- RETRACT_HOLD_END (R621). RET_HOLD after a safety retract, the spindles concerned are shorted. -/
  | retractHoldEnd
  /-- SELFTEST (R625). SF_CMD.OP = SELFTEST drives test levels into every safety comparator and timer. -/
  | selftest
  /-- CLEAR_CAUSE (R623). SF_CMD.OP = CLEAR_CAUSE clears SF_CAUSE once every trip condition has cleared. -/
  | clearCause
  /-- GOTO_SERVICE (R631). MD_CMD.OP = GOTO_SERVICE changes the mode to SERVICE, or to SAFE if a SAFE request is
  latched. -/
  | gotoService
  /-- GOTO_MAINT (R631). MD_CMD.OP = GOTO_MAINT changes the mode to MAINT, including the exit from SAFE. -/
  | gotoMaint
  /-- GOTO_REST (R650). MD_CMD.OP = GOTO_REST sets the idle target to REST. -/
  | gotoRest
  /-- TIMEBASE_SWITCH (R638). A write of MD_TB.SWITCH moves the timebase to the crystal-locked source, or is refused
  without lock. -/
  | timebaseSwitch
  /-- IDLE_STEP_DONE (R641). An idle step completes, and a latched demand starts the exit. -/
  | idleStepDone
  /-- DEMAND (R645). A medium operation that the idle level does not allow starts the exit to I0. -/
  | demand
  /-- REST_SPINDLES_STOPPED (R651). The spindles have stopped; the blocks shut down, state is saved and buffer
  memory enters self-refresh. -/
  | restSpindlesStopped
  /-- REST_POWER_OFF (R651). LK shuts down, the pass closes, VCORE and VAD are removed and the mode is REST. -/
  | restPowerOff
  /-- REST_EXIT_COMPLETE (R655). Registers and arrays are restored, the blocks start, the mode is SERVICE and the
  spindles spin. -/
  | restExitComplete
  /-- TIME_LO_READ (R662). A read of MD_TIME_LO latches the timebase's high word into MD_TIME_HI. -/
  | timeLoRead
  /-- DEVICE_RESET (R677). After the reset record is durable and the pulse is complete, PM closes the pass, every
  register resets and BOOT begins. -/
  | deviceReset
  /-- EVENT_RECORD_WRITTEN (R683). A queued record is written durably to its slots, and the positions are updated.
  -/
  | eventRecordWritten
  /-- HOURS_UPDATE (R681). Every 1/256 hour the operating hours are written to MRAM. -/
  | hoursUpdate
  /-- CLEAR_FIRST (R688). EV_CMD.OP = CLEAR_FIRST clears the first area and stores EV_CLEARED first. -/
  | clearFirst
  /-- CLEAR_LAST (R688). EV_CMD.OP = CLEAR_LAST clears the last area and stores EV_CLEARED first. -/
  | clearLast
  /-- EVENT_READ_DATA (R687). A read of EV_RD_DATA returns a slot word and advances EV_RD_ADDR. -/
  | eventReadData
  /-- ROM_BOOT (R697). On entry to BOOT, the ROM chooses a slot, verifies its header and BOOT stage, and jumps to
  it. -/
  | romBoot
  /-- GATE (R701). BT_CMD.OP = GATE loads and hashes a stage into its target. -/
  | gate
  /-- GATE_COMPLETE (R701). The gate finishes a stage, marks it done or fails it and marks the slot. -/
  | gateComplete
  /-- COMMIT_SVN (R705). BT_CMD.OP = COMMIT_SVN blows fuses until FUSE_CNT equals the running SVN. -/
  | commitSvn
  /-- REVOKE_VK0 (R706). BT_CMD.OP = REVOKE_VK0 revokes vendor key 0. -/
  | revokeVk0
  /-- STORE_OP_DONE (R709). A firmware-store erase or program completes, and the piece becomes durable. -/
  | storeOpDone
  /-- STORE_TIMEOUT (R709). A store operation unfinished in 2 s fails the piece and restarts staging. -/
  | storeTimeout
  /-- BOOT_RECORD_WRITE (R712). After a successful activation, the boot record is rewritten to name the new slot. -/
  | bootRecordWrite
  /-- SIG_DATA_READ (R715). A read of BT_SIG_DATA returns a signature word and advances WORD. -/
  | sigDataRead
  /-- BACKGROUND_WINDOW_END (R337). A 100 ms window of actuator time ends, and the background-I/O share and floor
  accounting restart for each actuator. -/
  | backgroundWindowEnd
  /-- COMMIT_SVN_DONE (R705). The fuse blowing of COMMIT_SVN ends within 20 ms, BUSY clears and event BT_SVN_COMMIT
  is recorded. -/
  | commitSvnDone
  /-- EV_CLEAR_DONE (R688). A CLEAR_FIRST or CLEAR_LAST finishes zeroing its area, stores EV_CLEARED and the records
  that waited, and clears BUSY. -/
  | evClearDone
  /-- CRYSTAL_LOCK (R700). The crystal-locked source reports lock, after which the ROM makes the timebase switch it
  requested and enables LK. -/
  | crystalLock
  deriving DecidableEq, Repr

end Sys2Proof
end

