-- ==== Sys2Proof/Decode.lean ====
section
/-! DEFINITION. Decode.lean: the command a table word spells. The table gives no row any bits, so no word spells one. -/

namespace Sys2Proof

/-- No row of the table gives bits: a command reaches the queue from outside, with its operands. -/
def decodeTableWord (_nbits _w : Nat) : Option Instr := none

end Sys2Proof
end

