-- ==== Sys2Proof/Machine/RegMap.lean ====
section
/-! DEFINITION. Machine/RegMap.lean: the control window of R47 as data. For every register of the
spec its address (a function of the indices its chapter gives), for every field a field reference, and
the table of access codes (R12) and reset values (R17). Registers and fields carry the spec's names. -/

namespace Sys2Proof.Machine.Reg

def MD_ID : Nat := 0x0
def MD_ID_PART : RF := ⟨MD_ID, 0, 1⟩
def MD_ID_STEP : RF := ⟨MD_ID, 1, 2⟩
def MD_ID_HEADS : RF := ⟨MD_ID, 3, 7⟩
def MD_MODE : Nat := 0x4
def MD_MODE_MODE : RF := ⟨MD_MODE, 0, 3⟩
def MD_MODE_PREV : RF := ⟨MD_MODE, 3, 3⟩
def MD_MODE_SAFE_SRC : RF := ⟨MD_MODE, 6, 2⟩
def MD_MODE_HELD : RF := ⟨MD_MODE, 8, 1⟩
def MD_CMD : Nat := 0x8
def MD_CMD_OP : RF := ⟨MD_CMD, 0, 4⟩
def MD_CMD_ERR : RF := ⟨MD_CMD, 4, 3⟩
def MD_LOCK : Nat := 0xC
def MD_LOCK_LOCK : RF := ⟨MD_LOCK, 0, 1⟩
def MD_STAT : Nat := 0x10
def MD_STAT_PACK_BAD : RF := ⟨MD_STAT, 0, 1⟩
def MD_STAT_SAFE : RF := ⟨MD_STAT, 1, 1⟩
def MD_STAT_SAFE_EXIT : RF := ⟨MD_STAT, 2, 1⟩
def MD_STAT_REST_EXIT : RF := ⟨MD_STAT, 3, 1⟩
def MD_STAT_TB_SWITCH : RF := ⟨MD_STAT, 4, 1⟩
def MD_STAT_PFR_BAD : RF := ⟨MD_STAT, 5, 1⟩
def MD_INT_EN : Nat := 0x14
def MD_INT_EN_PACK_BAD : RF := ⟨MD_INT_EN, 0, 1⟩
def MD_INT_EN_SAFE : RF := ⟨MD_INT_EN, 1, 1⟩
def MD_INT_EN_SAFE_EXIT : RF := ⟨MD_INT_EN, 2, 1⟩
def MD_INT_EN_REST_EXIT : RF := ⟨MD_INT_EN, 3, 1⟩
def MD_INT_EN_TB_SWITCH : RF := ⟨MD_INT_EN, 4, 1⟩
def MD_INT_EN_PFR_BAD : RF := ⟨MD_INT_EN, 5, 1⟩
def MD_TB : Nat := 0x18
def MD_TB_SRC : RF := ⟨MD_TB, 0, 2⟩
def MD_TB_LOCK : RF := ⟨MD_TB, 2, 1⟩
def MD_TB_SWITCH : RF := ⟨MD_TB, 3, 1⟩
def MD_TB_REFUSED : RF := ⟨MD_TB, 4, 1⟩
def MD_TIME_LO : Nat := 0x1C
def MD_TIME_LO_NS : RF := ⟨MD_TIME_LO, 0, 32⟩
def MD_TIME_HI : Nat := 0x20
def MD_TIME_HI_NS : RF := ⟨MD_TIME_HI, 0, 32⟩
def MD_IDLE_CTL : Nat := 0x24
def MD_IDLE_CTL_HOLD : RF := ⟨MD_IDLE_CTL, 0, 1⟩
def MD_IDLE_CTL_SAVE_EN : RF := ⟨MD_IDLE_CTL, 1, 1⟩
def MD_IDLE_CFG : Nat := 0x28
def MD_IDLE_CFG_GROUP : RF := ⟨MD_IDLE_CFG, 0, 4⟩
def MD_IDLE_CFG_LEVEL : RF := ⟨MD_IDLE_CFG, 4, 2⟩
def MD_IDLE_CFG_TIME : RF := ⟨MD_IDLE_CFG, 8, 24⟩
def MD_IDLE_STAT : Nat := 0x2C
def MD_IDLE_STAT_LEVEL : RF := ⟨MD_IDLE_STAT, 0, 3⟩
def MD_IDLE_STAT_TARGET : RF := ⟨MD_IDLE_STAT, 3, 3⟩
def MD_IDLE_STAT_STEPPING : RF := ⟨MD_IDLE_STAT, 6, 1⟩
def MD_IDLE_STAT_EXIT_PEND : RF := ⟨MD_IDLE_STAT, 7, 1⟩
def MD_IDLE_STAT_BLOCK : RF := ⟨MD_IDLE_STAT, 8, 4⟩
def MD_SAVE_BASE_LO : Nat := 0x30
def MD_SAVE_BASE_LO_ADDR : RF := ⟨MD_SAVE_BASE_LO, 0, 32⟩
def MD_SAVE_BASE_HI : Nat := 0x34
def MD_SAVE_BASE_HI_ADDR : RF := ⟨MD_SAVE_BASE_HI, 0, 32⟩
def MD_REST_CNT : Nat := 0x38
def MD_REST_CNT_COUNT : RF := ⟨MD_REST_CNT, 0, 32⟩
def MD_PEND_CNT : Nat := 0x3C
def MD_PEND_CNT_COUNT : RF := ⟨MD_PEND_CNT, 0, 32⟩
def MD_EXIT_LAT (n : Nat) : Nat := 0x40 + 4 * n
def MD_EXIT_LAT_US (n : Nat) : RF := ⟨MD_EXIT_LAT n, 0, 32⟩
def BT_STAT : Nat := 0x10000
def BT_STAT_SLOT_BAD : RF := ⟨BT_STAT, 0, 1⟩
def BT_STAT_NO_IMAGE : RF := ⟨BT_STAT, 1, 1⟩
def BT_STAT_GATE_FAIL : RF := ⟨BT_STAT, 2, 1⟩
def BT_STAT_FS_TMO : RF := ⟨BT_STAT, 3, 1⟩
def BT_STAT_FS_LATE : RF := ⟨BT_STAT, 4, 1⟩
def BT_INT_EN : Nat := 0x10004
def BT_INT_EN_SLOT_BAD : RF := ⟨BT_INT_EN, 0, 1⟩
def BT_INT_EN_NO_IMAGE : RF := ⟨BT_INT_EN, 1, 1⟩
def BT_INT_EN_GATE_FAIL : RF := ⟨BT_INT_EN, 2, 1⟩
def BT_INT_EN_FS_TMO : RF := ⟨BT_INT_EN, 3, 1⟩
def BT_INT_EN_FS_LATE : RF := ⟨BT_INT_EN, 4, 1⟩
def BT_CMD : Nat := 0x10008
def BT_CMD_OP : RF := ⟨BT_CMD, 0, 4⟩
def BT_CMD_ERR : RF := ⟨BT_CMD, 4, 3⟩
def BT_CMD_BUSY : RF := ⟨BT_CMD, 7, 1⟩
def BT_BOOT : Nat := 0x1000C
def BT_BOOT_STAGE : RF := ⟨BT_BOOT, 0, 2⟩
def BT_BOOT_SLOT : RF := ⟨BT_BOOT, 2, 1⟩
def BT_BOOT_FALLBACK : RF := ⟨BT_BOOT, 3, 1⟩
def BT_BOOT_WHY : RF := ⟨BT_BOOT, 4, 3⟩
def BT_BOOT_REC_DONE : RF := ⟨BT_BOOT, 7, 1⟩
def BT_SVN : Nat := 0x10010
def BT_SVN_SVN : RF := ⟨BT_SVN, 0, 7⟩
def BT_SVN_FUSE_CNT : RF := ⟨BT_SVN, 8, 7⟩
def BT_SVN_VK : RF := ⟨BT_SVN, 15, 1⟩
def BT_SVN_VK0_REVOKED : RF := ⟨BT_SVN, 16, 1⟩
def BT_STG : Nat := 0x10014
def BT_STG_SLOT : RF := ⟨BT_STG, 0, 1⟩
def BT_STG_COMPLETE : RF := ⟨BT_STG, 1, 1⟩
def BT_STG_WHY : RF := ⟨BT_STG, 2, 3⟩
def BT_STG_NEXT : RF := ⟨BT_STG, 8, 12⟩
def BT_GATE : Nat := 0x10018
def BT_GATE_STAGE : RF := ⟨BT_GATE, 0, 2⟩
def BT_GATE_DONE : RF := ⟨BT_GATE, 4, 4⟩
def BT_GATE_DST_LO : Nat := 0x1001C
def BT_GATE_DST_LO_ADDR : RF := ⟨BT_GATE_DST_LO, 0, 32⟩
def BT_GATE_DST_HI : Nat := 0x10034
def BT_GATE_DST_HI_ADDR : RF := ⟨BT_GATE_DST_HI, 0, 32⟩
def BT_ATT : Nat := 0x10020
def BT_ATT_SEQ : RF := ⟨BT_ATT, 0, 32⟩
def BT_SIG_ADDR : Nat := 0x10024
def BT_SIG_ADDR_WORD : RF := ⟨BT_SIG_ADDR, 0, 13⟩
def BT_SIG_ADDR_SEL : RF := ⟨BT_SIG_ADDR, 13, 1⟩
def BT_SIG_DATA : Nat := 0x10028
def BT_SIG_DATA_DATA : RF := ⟨BT_SIG_DATA, 0, 32⟩
def BT_KEYS : Nat := 0x1002C
def BT_KEYS_VALID : RF := ⟨BT_KEYS, 0, 4⟩
def BT_LATE_CNT : Nat := 0x10030
def BT_LATE_CNT_COUNT : RF := ⟨BT_LATE_CNT, 0, 32⟩
def BT_UID (n : Nat) : Nat := 0x10040 + 4 * n
def BT_UID_DATA (n : Nat) : RF := ⟨BT_UID n, 0, 32⟩
def BT_DPK (n : Nat) : Nat := 0x10060 + 4 * n
def BT_DPK_DATA (n : Nat) : RF := ⟨BT_DPK n, 0, 32⟩
def BT_MFW (n : Nat) : Nat := 0x10100 + 4 * n
def BT_MFW_DATA (n : Nat) : RF := ⟨BT_MFW n, 0, 32⟩
def BT_MCUST (n : Nat) : Nat := 0x10120 + 4 * n
def BT_MCUST_DATA (n : Nat) : RF := ⟨BT_MCUST n, 0, 32⟩
def BT_MKEY (n : Nat) : Nat := 0x10140 + 4 * n
def BT_MKEY_DATA (n : Nat) : RF := ⟨BT_MKEY n, 0, 32⟩
def PW_STAT : Nat := 0x20000
def PW_STAT_FEED_A_LOST : RF := ⟨PW_STAT, 0, 1⟩
def PW_STAT_FEED_B_LOST : RF := ⟨PW_STAT, 1, 1⟩
def PW_STAT_FEED_A_OV : RF := ⟨PW_STAT, 2, 1⟩
def PW_STAT_FEED_B_OV : RF := ⟨PW_STAT, 3, 1⟩
def PW_STAT_CHAIN_FAIL : RF := ⟨PW_STAT, 4, 1⟩
def PW_STAT_SWITCHED : RF := ⟨PW_STAT, 5, 1⟩
def PW_STAT_STBY_FAIL : RF := ⟨PW_STAT, 6, 1⟩
def PW_STAT_RESYNC_DONE : RF := ⟨PW_STAT, 7, 1⟩
def PW_STAT_HOLDUP_LOW : RF := ⟨PW_STAT, 8, 1⟩
def PW_STAT_PACE_FAULT : RF := ⟨PW_STAT, 9, 1⟩
def PW_STAT_FEED_LATE : RF := ⟨PW_STAT, 10, 1⟩
def PW_STAT_CHAIN_LATE : RF := ⟨PW_STAT, 11, 1⟩
def PW_STAT_STBY_LATE : RF := ⟨PW_STAT, 12, 1⟩
def PW_STAT_TEST_DUE : RF := ⟨PW_STAT, 13, 1⟩
def PW_INT_EN : Nat := 0x20004
def PW_INT_EN_FEED_A_LOST : RF := ⟨PW_INT_EN, 0, 1⟩
def PW_INT_EN_FEED_B_LOST : RF := ⟨PW_INT_EN, 1, 1⟩
def PW_INT_EN_FEED_A_OV : RF := ⟨PW_INT_EN, 2, 1⟩
def PW_INT_EN_FEED_B_OV : RF := ⟨PW_INT_EN, 3, 1⟩
def PW_INT_EN_CHAIN_FAIL : RF := ⟨PW_INT_EN, 4, 1⟩
def PW_INT_EN_SWITCHED : RF := ⟨PW_INT_EN, 5, 1⟩
def PW_INT_EN_STBY_FAIL : RF := ⟨PW_INT_EN, 6, 1⟩
def PW_INT_EN_RESYNC_DONE : RF := ⟨PW_INT_EN, 7, 1⟩
def PW_INT_EN_HOLDUP_LOW : RF := ⟨PW_INT_EN, 8, 1⟩
def PW_INT_EN_PACE_FAULT : RF := ⟨PW_INT_EN, 9, 1⟩
def PW_INT_EN_FEED_LATE : RF := ⟨PW_INT_EN, 10, 1⟩
def PW_INT_EN_CHAIN_LATE : RF := ⟨PW_INT_EN, 11, 1⟩
def PW_INT_EN_STBY_LATE : RF := ⟨PW_INT_EN, 12, 1⟩
def PW_INT_EN_TEST_DUE : RF := ⟨PW_INT_EN, 13, 1⟩
def PW_CFG : Nat := 0x20008
def PW_CFG_AUTO_RESYNC : RF := ⟨PW_CFG, 0, 1⟩
def PW_CMD : Nat := 0x2000C
def PW_CMD_OP : RF := ⟨PW_CMD, 0, 4⟩
def PW_CMD_ERR : RF := ⟨PW_CMD, 4, 3⟩
def PW_CMD_BUSY : RF := ⟨PW_CMD, 7, 1⟩
def PW_FEED : Nat := 0x20010
def PW_FEED_VA : RF := ⟨PW_FEED, 0, 11⟩
def PW_FEED_A_OK : RF := ⟨PW_FEED, 11, 1⟩
def PW_FEED_VB : RF := ⟨PW_FEED, 16, 11⟩
def PW_FEED_B_OK : RF := ⟨PW_FEED, 27, 1⟩
def PW_CHAIN : Nat := 0x20014
def PW_CHAIN_A_STATE : RF := ⟨PW_CHAIN, 0, 3⟩
def PW_CHAIN_B_STATE : RF := ⟨PW_CHAIN, 3, 3⟩
def PW_CHAIN_ACTIVE : RF := ⟨PW_CHAIN, 6, 1⟩
def PW_CHAIN_GAP : RF := ⟨PW_CHAIN, 7, 1⟩
def PW_GOV : Nat := 0x20018
def PW_GOV_VF : RF := ⟨PW_GOV, 0, 6⟩
def PW_CORE : Nat := 0x2001C
def PW_CORE_VSET : RF := ⟨PW_CORE, 0, 10⟩
def PW_CORE_VMEAS : RF := ⟨PW_CORE, 16, 10⟩
def PW_CORE_AT_MAX : RF := ⟨PW_CORE, 26, 1⟩
def PW_HOLDUP : Nat := 0x20020
def PW_HOLDUP_VHU : RF := ⟨PW_HOLDUP, 0, 9⟩
def PW_HOLDUP_CHG : RF := ⟨PW_HOLDUP, 9, 1⟩
def PW_HOLDUP_OK : RF := ⟨PW_HOLDUP, 10, 1⟩
def PW_HOLDUP_EST : RF := ⟨PW_HOLDUP, 16, 16⟩
def PW_TEST : Nat := 0x20024
def PW_TEST_RESULT : RF := ⟨PW_TEST, 0, 2⟩
def PW_TEST_CHAIN : RF := ⟨PW_TEST, 2, 1⟩
def PW_TEST_T_REG : RF := ⟨PW_TEST, 4, 10⟩
def PW_TEST_HOURS : RF := ⟨PW_TEST, 16, 16⟩
def PW_LATE_CNT : Nat := 0x20028
def PW_LATE_CNT_FEED : RF := ⟨PW_LATE_CNT, 0, 8⟩
def PW_LATE_CNT_CHAIN : RF := ⟨PW_LATE_CNT, 8, 8⟩
def PW_LATE_CNT_STBY : RF := ⟨PW_LATE_CNT, 16, 8⟩
def PW_SW_CNT : Nat := 0x2002C
def PW_SW_CNT_SWITCHES : RF := ⟨PW_SW_CNT, 0, 16⟩
def PW_SW_CNT_FAILS : RF := ⟨PW_SW_CNT, 16, 16⟩
def PW_FLOOR (n : Nat) : Nat := 0x20100 + 4 * n
def PW_FLOOR_FLOOR (n : Nat) : RF := ⟨PW_FLOOR n, 0, 16⟩
def SF_STAT : Nat := 0x28000
def SF_STAT_BUS_OV : RF := ⟨SF_STAT, 0, 1⟩
def SF_STAT_OVERSPEED : RF := ⟨SF_STAT, 1, 1⟩
def SF_STAT_VCM_OC : RF := ⟨SF_STAT, 2, 1⟩
def SF_STAT_TEMP_WARN : RF := ⟨SF_STAT, 3, 1⟩
def SF_STAT_TEMP_TRIP : RF := ⟨SF_STAT, 4, 1⟩
def SF_STAT_HB_LOST : RF := ⟨SF_STAT, 5, 1⟩
def SF_STAT_HB_LATE : RF := ⟨SF_STAT, 6, 1⟩
def SF_STAT_TEST_FAIL : RF := ⟨SF_STAT, 7, 1⟩
def SF_STAT_TEST_DONE : RF := ⟨SF_STAT, 8, 1⟩
def SF_INT_EN : Nat := 0x28004
def SF_INT_EN_BUS_OV : RF := ⟨SF_INT_EN, 0, 1⟩
def SF_INT_EN_OVERSPEED : RF := ⟨SF_INT_EN, 1, 1⟩
def SF_INT_EN_VCM_OC : RF := ⟨SF_INT_EN, 2, 1⟩
def SF_INT_EN_TEMP_WARN : RF := ⟨SF_INT_EN, 3, 1⟩
def SF_INT_EN_TEMP_TRIP : RF := ⟨SF_INT_EN, 4, 1⟩
def SF_INT_EN_HB_LOST : RF := ⟨SF_INT_EN, 5, 1⟩
def SF_INT_EN_HB_LATE : RF := ⟨SF_INT_EN, 6, 1⟩
def SF_INT_EN_TEST_FAIL : RF := ⟨SF_INT_EN, 7, 1⟩
def SF_INT_EN_TEST_DONE : RF := ⟨SF_INT_EN, 8, 1⟩
def SF_CFG : Nat := 0x28008
def SF_CFG_HB_TMO : RF := ⟨SF_CFG, 0, 8⟩
def SF_CFG_RET_HOLD : RF := ⟨SF_CFG, 8, 8⟩
def SF_LIM_SPD : Nat := 0x2800C
def SF_LIM_SPD_OVS : RF := ⟨SF_LIM_SPD, 0, 13⟩
def SF_LIM_VCM : Nat := 0x28010
def SF_LIM_VCM_VCM_ABS : RF := ⟨SF_LIM_VCM, 0, 16⟩
def SF_LIM_VCM_VCM_TIME : RF := ⟨SF_LIM_VCM, 16, 8⟩
def SF_LIM_TEMP : Nat := 0x28014
def SF_LIM_TEMP_CD_WARN : RF := ⟨SF_LIM_TEMP, 0, 8⟩
def SF_LIM_TEMP_MP_WARN : RF := ⟨SF_LIM_TEMP, 8, 8⟩
def SF_CAUSE : Nat := 0x28018
def SF_CAUSE_CAUSE : RF := ⟨SF_CAUSE, 0, 4⟩
def SF_CAUSE_UNIT : RF := ⟨SF_CAUSE, 4, 4⟩
def SF_TEMP0 : Nat := 0x2801C
def SF_TEMP0_T : RF := ⟨SF_TEMP0, 0, 32⟩
def SF_TEMP1 : Nat := 0x28020
def SF_TEMP1_T : RF := ⟨SF_TEMP1, 0, 32⟩
def SF_CMD : Nat := 0x28024
def SF_CMD_OP : RF := ⟨SF_CMD, 0, 4⟩
def SF_CMD_ERR : RF := ⟨SF_CMD, 4, 3⟩
def SF_TEST : Nat := 0x28028
def SF_TEST_BUS : RF := ⟨SF_TEST, 0, 1⟩
def SF_TEST_SPD : RF := ⟨SF_TEST, 1, 4⟩
def SF_TEST_VCM : RF := ⟨SF_TEST, 5, 8⟩
def SF_TEST_TEMP : RF := ⟨SF_TEST, 13, 8⟩
def SF_TEST_HB : RF := ⟨SF_TEST, 21, 1⟩
def SF_LATE_CNT : Nat := 0x2802C
def SF_LATE_CNT_HB : RF := ⟨SF_LATE_CNT, 0, 8⟩
def FT_U_STAT (u : Nat) : Nat := 0x30000 + 0x100 * u
def FT_U_STAT_LEVEL (u : Nat) : RF := ⟨FT_U_STAT u, 0, 3⟩
def FT_U_STAT_HG (u : Nat) : RF := ⟨FT_U_STAT u, 3, 1⟩
def FT_U_STAT_IRQ (u : Nat) : RF := ⟨FT_U_STAT u, 4, 1⟩
def FT_U_STAT_HIST_CNT (u : Nat) : RF := ⟨FT_U_STAT u, 5, 4⟩
def FT_U_STAT_HIST_OVF (u : Nat) : RF := ⟨FT_U_STAT u, 9, 1⟩
def FT_U_STAT_ACK_LATE (u : Nat) : RF := ⟨FT_U_STAT u, 10, 1⟩
def FT_U_CFG (u : Nat) : Nat := 0x30004 + 0x100 * u
def FT_U_CFG_TIME (u : Nat) : RF := ⟨FT_U_CFG u, 0, 14⟩
def FT_U_CFG_CAP (u : Nat) : RF := ⟨FT_U_CFG u, 16, 3⟩
def FT_U_ACK (u : Nat) : Nat := 0x30008 + 0x100 * u
def FT_U_ACK_MASK (u : Nat) : RF := ⟨FT_U_ACK u, 0, 32⟩
def FT_U_PEND (u : Nat) : Nat := 0x3000C + 0x100 * u
def FT_U_PEND_MASK (u : Nat) : RF := ⟨FT_U_PEND u, 0, 32⟩
def FT_U_CTL (u : Nat) : Nat := 0x30010 + 0x100 * u
def FT_U_CTL_SNAP (u : Nat) : RF := ⟨FT_U_CTL u, 0, 1⟩
def FT_U_CTL_CLEAR (u : Nat) : RF := ⟨FT_U_CTL u, 1, 1⟩
def FT_U_HIST (u : Nat) (n : Nat) : Nat := 0x30040 + 0x100 * u + 4 * n
def FT_U_HIST_DATA (u : Nat) (n : Nat) : RF := ⟨FT_U_HIST u n, 0, 32⟩
def FT_PIN : Nat := 0x37000
def FT_PIN_HOLD : RF := ⟨FT_PIN, 0, 1⟩
def FT_PIN_LEVEL : RF := ⟨FT_PIN, 1, 1⟩
def FT_PEND_LO : Nat := 0x37004
def FT_PEND_LO_UNITS : RF := ⟨FT_PEND_LO, 0, 32⟩
def FT_PEND_HI : Nat := 0x37008
def FT_PEND_HI_UNITS : RF := ⟨FT_PEND_HI, 0, 32⟩
def FT_CORE_STAT : Nat := 0x3700C
def FT_CORE_STAT_MCHECK : RF := ⟨FT_CORE_STAT, 0, 4⟩
def FT_CORE_INT_EN : Nat := 0x37010
def FT_CORE_INT_EN_MCHECK : RF := ⟨FT_CORE_INT_EN, 0, 4⟩
def FT_LATE_CNT : Nat := 0x37014
def FT_LATE_CNT_COUNT : RF := ⟨FT_LATE_CNT, 0, 32⟩
def FT_ESC_CNT : Nat := 0x37018
def FT_ESC_CNT_COUNT : RF := ⟨FT_ESC_CNT, 0, 32⟩
def EV_STAT : Nat := 0x38000
def EV_STAT_DROPPED : RF := ⟨EV_STAT, 0, 1⟩
def EV_STAT_FIRST_FULL : RF := ⟨EV_STAT, 1, 1⟩
def EV_STAT_CLEARED : RF := ⟨EV_STAT, 2, 1⟩
def EV_STAT_SOLO : RF := ⟨EV_STAT, 3, 1⟩
def EV_INT_EN : Nat := 0x38004
def EV_INT_EN_DROPPED : RF := ⟨EV_INT_EN, 0, 1⟩
def EV_INT_EN_FIRST_FULL : RF := ⟨EV_INT_EN, 1, 1⟩
def EV_INT_EN_CLEARED : RF := ⟨EV_INT_EN, 2, 1⟩
def EV_CFG : Nat := 0x38008
def EV_CFG_SEND : RF := ⟨EV_CFG, 0, 2⟩
def EV_CFG_BURST : RF := ⟨EV_CFG, 4, 4⟩
def EV_CFG_PERIOD : RF := ⟨EV_CFG, 8, 8⟩
def EV_CMD : Nat := 0x3800C
def EV_CMD_OP : RF := ⟨EV_CMD, 0, 2⟩
def EV_CMD_BUSY : RF := ⟨EV_CMD, 2, 1⟩
def EV_CMD_ERR : RF := ⟨EV_CMD, 3, 3⟩
def EV_POS : Nat := 0x38010
def EV_POS_FIRST_CNT : RF := ⟨EV_POS, 0, 11⟩
def EV_POS_LAST_HEAD : RF := ⟨EV_POS, 16, 12⟩
def EV_POS_LAST_WRAP : RF := ⟨EV_POS, 28, 1⟩
def EV_SEQ : Nat := 0x38014
def EV_SEQ_SEQ : RF := ⟨EV_SEQ, 0, 32⟩
def EV_PCYC : Nat := 0x38018
def EV_PCYC_COUNT : RF := ⟨EV_PCYC, 0, 32⟩
def EV_HOURS : Nat := 0x3801C
def EV_HOURS_HOURS : RF := ⟨EV_HOURS, 0, 32⟩
def EV_RD_ADDR : Nat := 0x38020
def EV_RD_ADDR_WORD : RF := ⟨EV_RD_ADDR, 0, 3⟩
def EV_RD_ADDR_INDEX : RF := ⟨EV_RD_ADDR, 3, 12⟩
def EV_RD_ADDR_AREA : RF := ⟨EV_RD_ADDR, 15, 1⟩
def EV_RD_DATA : Nat := 0x38024
def EV_RD_DATA_DATA : RF := ⟨EV_RD_DATA, 0, 32⟩
def EV_DROP_CNT : Nat := 0x38028
def EV_DROP_CNT_COUNT : RF := ⟨EV_DROP_CNT, 0, 32⟩
def EV_SUPP_CNT : Nat := 0x3802C
def EV_SUPP_CNT_COUNT : RF := ⟨EV_SUPP_CNT, 0, 32⟩
def EV_OVR (n : Nat) : Nat := 0x38040 + 4 * n
def EV_OVR_CODE (n : Nat) : RF := ⟨EV_OVR n, 0, 16⟩
def EV_OVR_BURST (n : Nat) : RF := ⟨EV_OVR n, 16, 4⟩
def EV_OVR_PERIOD (n : Nat) : RF := ⟨EV_OVR n, 20, 8⟩
def EV_OVR_EN (n : Nat) : RF := ⟨EV_OVR n, 31, 1⟩
def LK_CTL : Nat := 0x40000
def LK_CTL_EN : RF := ⟨LK_CTL, 0, 1⟩
def LK_CTL_ENABLE_PENDING : RF := ⟨LK_CTL, 1, 1⟩
def LK_CTL_STATE : RF := ⟨LK_CTL, 2, 2⟩
def LK_CTL_PASS : RF := ⟨LK_CTL, 4, 1⟩
def LK_CTL_RETRAIN_W : RF := ⟨LK_CTL, 5, 1⟩
def LK_CTL_RETRAIN_E : RF := ⟨LK_CTL, 6, 1⟩
def LK_STAT : Nat := 0x40004
def LK_STAT_LANE_FAIL : RF := ⟨LK_STAT, 0, 1⟩
def LK_STAT_PORT_DOWN : RF := ⟨LK_STAT, 1, 1⟩
def LK_STAT_PORT_UP : RF := ⟨LK_STAT, 2, 1⟩
def LK_STAT_PARTNER_CHG : RF := ⟨LK_STAT, 3, 1⟩
def LK_STAT_RSP_LATE : RF := ⟨LK_STAT, 4, 1⟩
def LK_STAT_PROTO_ERR : RF := ⟨LK_STAT, 5, 1⟩
def LK_STAT_UNTRANSLATABLE : RF := ⟨LK_STAT, 6, 1⟩
def LK_STAT_FCRC : RF := ⟨LK_STAT, 7, 1⟩
def LK_STAT_HOPS : RF := ⟨LK_STAT, 8, 1⟩
def LK_STAT_WRAPPED : RF := ⟨LK_STAT, 9, 1⟩
def LK_INT_EN : Nat := 0x40008
def LK_INT_EN_LANE_FAIL : RF := ⟨LK_INT_EN, 0, 1⟩
def LK_INT_EN_PORT_DOWN : RF := ⟨LK_INT_EN, 1, 1⟩
def LK_INT_EN_PORT_UP : RF := ⟨LK_INT_EN, 2, 1⟩
def LK_INT_EN_PARTNER_CHG : RF := ⟨LK_INT_EN, 3, 1⟩
def LK_INT_EN_RSP_LATE : RF := ⟨LK_INT_EN, 4, 1⟩
def LK_INT_EN_PROTO_ERR : RF := ⟨LK_INT_EN, 5, 1⟩
def LK_INT_EN_UNTRANSLATABLE : RF := ⟨LK_INT_EN, 6, 1⟩
def LK_INT_EN_FCRC : RF := ⟨LK_INT_EN, 7, 1⟩
def LK_INT_EN_HOPS : RF := ⟨LK_INT_EN, 8, 1⟩
def LK_INT_EN_WRAPPED : RF := ⟨LK_INT_EN, 9, 1⟩
def LK_ID : Nat := 0x4000C
def LK_ID_ID : RF := ⟨LK_ID, 0, 11⟩
def LK_ID_VALID : RF := ⟨LK_ID, 11, 1⟩
def LK_ID_FLOOR : RF := ⟨LK_ID, 16, 8⟩
def LK_CFG : Nat := 0x40010
def LK_CFG_TMO : RF := ⟨LK_CFG, 0, 8⟩
def LK_CFG_HOME : RF := ⟨LK_CFG, 8, 1⟩
def LK_VER : Nat := 0x40014
def LK_VER_MAX : RF := ⟨LK_VER, 0, 8⟩
def LK_VER_MIN : RF := ⟨LK_VER, 8, 8⟩
def LK_LATE_CNT : Nat := 0x40018
def LK_LATE_CNT_COUNT : RF := ⟨LK_LATE_CNT, 0, 32⟩
def LK_DUP_CNT : Nat := 0x4001C
def LK_DUP_CNT_COUNT : RF := ⟨LK_DUP_CNT, 0, 32⟩
def LK_FCRC_CNT : Nat := 0x40020
def LK_FCRC_CNT_COUNT : RF := ⟨LK_FCRC_CNT, 0, 32⟩
def LK_UNTR_CNT : Nat := 0x40024
def LK_UNTR_CNT_COUNT : RF := ⟨LK_UNTR_CNT, 0, 32⟩
def LK_PACE : Nat := 0x47FF0
def LK_PACE_VALID : RF := ⟨LK_PACE, 31, 1⟩
def LK_PACE_BELOW_CNT : RF := ⟨LK_PACE, 16, 8⟩
def LK_PACE_PACE : RF := ⟨LK_PACE, 0, 16⟩
def LK_PORT_STAT (p : Nat) : Nat := 0x41000 + 0x1000 * p
def LK_PORT_STAT_PSTATE (p : Nat) : RF := ⟨LK_PORT_STAT p, 0, 3⟩
def LK_PORT_STAT_RATE (p : Nat) : RF := ⟨LK_PORT_STAT p, 3, 2⟩
def LK_PORT_STAT_LANES (p : Nat) : RF := ⟨LK_PORT_STAT p, 8, 4⟩
def LK_PORT_STAT_VER (p : Nat) : RF := ⟨LK_PORT_STAT p, 16, 8⟩
def LK_PORT_STAT_LANEMASK (p : Nat) : RF := ⟨LK_PORT_STAT p, 24, 8⟩
def LK_PORT_CFG (p : Nat) : Nat := 0x41004 + 0x1000 * p
def LK_PORT_CFG_MAXRATE (p : Nat) : RF := ⟨LK_PORT_CFG p, 0, 2⟩
def LK_PORT_CFG_ALLOW_V1 (p : Nat) : RF := ⟨LK_PORT_CFG p, 2, 1⟩
def LK_PORT_CFG_LANE_LIM (p : Nat) : RF := ⟨LK_PORT_CFG p, 8, 8⟩
def LK_FEC_CNT (p : Nat) : Nat := 0x41008 + 0x1000 * p
def LK_FEC_CNT_COUNT (p : Nat) : RF := ⟨LK_FEC_CNT p, 0, 32⟩
def LK_UNCORR_CNT (p : Nat) : Nat := 0x4100C + 0x1000 * p
def LK_UNCORR_CNT_COUNT (p : Nat) : RF := ⟨LK_UNCORR_CNT p, 0, 32⟩
def LK_REPLAY_CNT (p : Nat) : Nat := 0x41010 + 0x1000 * p
def LK_REPLAY_CNT_COUNT (p : Nat) : RF := ⟨LK_REPLAY_CNT p, 0, 32⟩
def LK_PARTNER (p : Nat) : Nat := 0x41014 + 0x1000 * p
def LK_PARTNER_TAG (p : Nat) : RF := ⟨LK_PARTNER p, 0, 32⟩
def QM_CTL : Nat := 0x80000
def QM_CTL_EN : RF := ⟨QM_CTL, 0, 1⟩
def QM_CTL_ENABLE_PENDING : RF := ⟨QM_CTL, 1, 1⟩
def QM_CTL_STATE : RF := ⟨QM_CTL, 2, 2⟩
def QM_STAT : Nat := 0x80004
def QM_STAT_HALT : RF := ⟨QM_STAT, 0, 1⟩
def QM_STAT_CQ_FULL : RF := ⟨QM_STAT, 1, 1⟩
def QM_STAT_BACKPRESSURE : RF := ⟨QM_STAT, 2, 1⟩
def QM_STAT_SQ_ERROR : RF := ⟨QM_STAT, 3, 1⟩
def QM_STAT_CQ_ERROR : RF := ⟨QM_STAT, 4, 1⟩
def QM_STAT_DB_DROP : RF := ⟨QM_STAT, 5, 1⟩
def QM_STAT_CTX_UE : RF := ⟨QM_STAT, 6, 1⟩
def QM_INT_EN : Nat := 0x80008
def QM_INT_EN_HALT : RF := ⟨QM_INT_EN, 0, 1⟩
def QM_INT_EN_CQ_FULL : RF := ⟨QM_INT_EN, 1, 1⟩
def QM_INT_EN_BACKPRESSURE : RF := ⟨QM_INT_EN, 2, 1⟩
def QM_INT_EN_SQ_ERROR : RF := ⟨QM_INT_EN, 3, 1⟩
def QM_INT_EN_CQ_ERROR : RF := ⟨QM_INT_EN, 4, 1⟩
def QM_INT_EN_DB_DROP : RF := ⟨QM_INT_EN, 5, 1⟩
def QM_INT_EN_CTX_UE : RF := ⟨QM_INT_EN, 6, 1⟩
def QM_CFG : Nat := 0x8000C
def QM_CFG_PF_LINES : RF := ⟨QM_CFG, 0, 4⟩
def QM_CFG_BURST : RF := ⟨QM_CFG, 4, 4⟩
def QM_CFG_KEEP : RF := ⟨QM_CFG, 8, 1⟩
def QM_CTX_BASE_LO : Nat := 0x80010
def QM_CTX_BASE_LO_ADDR : RF := ⟨QM_CTX_BASE_LO, 0, 32⟩
def QM_CTX_BASE_HI : Nat := 0x80014
def QM_CTX_BASE_HI_ADDR : RF := ⟨QM_CTX_BASE_HI, 0, 32⟩
def QM_OVF_BASE_LO : Nat := 0x80018
def QM_OVF_BASE_LO_ADDR : RF := ⟨QM_OVF_BASE_LO, 0, 32⟩
def QM_OVF_BASE_HI : Nat := 0x8001C
def QM_OVF_BASE_HI_ADDR : RF := ⟨QM_OVF_BASE_HI, 0, 32⟩
def QM_OVF_CHUNKS : Nat := 0x80020
def QM_OVF_CHUNKS_COUNT : RF := ⟨QM_OVF_CHUNKS, 0, 24⟩
def QM_OVF_FREE : Nat := 0x80024
def QM_OVF_FREE_COUNT : RF := ⟨QM_OVF_FREE, 0, 24⟩
def QM_IRQ_BASE_LO : Nat := 0x80028
def QM_IRQ_BASE_LO_ADDR : RF := ⟨QM_IRQ_BASE_LO, 0, 32⟩
def QM_IRQ_BASE_HI : Nat := 0x8002C
def QM_IRQ_BASE_HI_ADDR : RF := ⟨QM_IRQ_BASE_HI, 0, 32⟩
def QM_Q_SEL : Nat := 0x80030
def QM_Q_SEL_QID : RF := ⟨QM_Q_SEL, 0, 20⟩
def QM_Q_CMD : Nat := 0x80034
def QM_Q_CMD_OP : RF := ⟨QM_Q_CMD, 0, 3⟩
def QM_Q_CMD_BUSY : RF := ⟨QM_Q_CMD, 3, 1⟩
def QM_Q_CMD_ERR : RF := ⟨QM_Q_CMD, 4, 3⟩
def QM_Q_CMD_WHY : RF := ⟨QM_Q_CMD, 7, 3⟩
def QM_HALT : Nat := 0x80038
def QM_HALT_QID : RF := ⟨QM_HALT, 0, 20⟩
def QM_HALT_CAUSE : RF := ⟨QM_HALT, 20, 4⟩
def QM_HALT_HALTED : RF := ⟨QM_HALT, 24, 1⟩
def QM_HALT_PARKED : RF := ⟨QM_HALT, 25, 1⟩
def QM_HALT_SLOT : Nat := 0x8003C
def QM_HALT_SLOT_INDEX : RF := ⟨QM_HALT_SLOT, 0, 17⟩
def QM_DB_DROP_CNT : Nat := 0x80040
def QM_DB_DROP_CNT_COUNT : RF := ⟨QM_DB_DROP_CNT, 0, 32⟩
def QM_SPILL_CNT : Nat := 0x80044
def QM_SPILL_CNT_COUNT : RF := ⟨QM_SPILL_CNT, 0, 32⟩
def QM_CTX_MISS_CNT : Nat := 0x80048
def QM_CTX_MISS_CNT_COUNT : RF := ⟨QM_CTX_MISS_CNT, 0, 32⟩
def QM_CTX_CE_CNT : Nat := 0x8004C
def QM_CTX_CE_CNT_COUNT : RF := ⟨QM_CTX_CE_CNT, 0, 32⟩
def QM_CPL_LOST_CNT : Nat := 0x80050
def QM_CPL_LOST_CNT_COUNT : RF := ⟨QM_CPL_LOST_CNT, 0, 32⟩
def QM_SQ_CTX (n : Nat) : Nat := 0x80100 + 4 * n
def QM_SQ_CTX_DATA (n : Nat) : RF := ⟨QM_SQ_CTX n, 0, 32⟩
def QM_CQ_CTX (n : Nat) : Nat := 0x80140 + 4 * n
def QM_CQ_CTX_DATA (n : Nat) : RF := ⟨QM_CQ_CTX n, 0, 32⟩
def QM_PACE : Nat := 0x87FF0
def QM_PACE_VALID : RF := ⟨QM_PACE, 31, 1⟩
def QM_PACE_BELOW_CNT : RF := ⟨QM_PACE, 16, 8⟩
def QM_PACE_PACE : RF := ⟨QM_PACE, 0, 16⟩
def CM_CTL : Nat := 0xA0000
def CM_CTL_EN : RF := ⟨CM_CTL, 0, 1⟩
def CM_CTL_ENABLE_PENDING : RF := ⟨CM_CTL, 1, 1⟩
def CM_CTL_STATE : RF := ⟨CM_CTL, 2, 2⟩
def CM_STAT : Nat := 0xA0004
def CM_STAT_E2E : RF := ⟨CM_STAT, 0, 1⟩
def CM_STAT_DL_LATE : RF := ⟨CM_STAT, 1, 1⟩
def CM_STAT_SEEK_FAIL : RF := ⟨CM_STAT, 2, 1⟩
def CM_STAT_RESET_DONE : RF := ⟨CM_STAT, 3, 1⟩
def CM_STAT_ACT_DONE : RF := ⟨CM_STAT, 4, 1⟩
def CM_STAT_ACT_LATE : RF := ⟨CM_STAT, 5, 1⟩
def CM_STAT_TABLE_FULL : RF := ⟨CM_STAT, 6, 1⟩
def CM_INT_EN : Nat := 0xA0008
def CM_INT_EN_E2E : RF := ⟨CM_INT_EN, 0, 1⟩
def CM_INT_EN_DL_LATE : RF := ⟨CM_INT_EN, 1, 1⟩
def CM_INT_EN_SEEK_FAIL : RF := ⟨CM_INT_EN, 2, 1⟩
def CM_INT_EN_RESET_DONE : RF := ⟨CM_INT_EN, 3, 1⟩
def CM_INT_EN_ACT_DONE : RF := ⟨CM_INT_EN, 4, 1⟩
def CM_INT_EN_ACT_LATE : RF := ⟨CM_INT_EN, 5, 1⟩
def CM_INT_EN_TABLE_FULL : RF := ⟨CM_INT_EN, 6, 1⟩
def CM_CFG : Nat := 0xA000C
def CM_CFG_SLACK : RF := ⟨CM_CFG, 0, 8⟩
def CM_CFG_DEF_DL : RF := ⟨CM_CFG, 8, 8⟩
def CM_CFG_WB_DL : RF := ⟨CM_CFG, 16, 8⟩
def CM_CFG_SEEK_RETRY : RF := ⟨CM_CFG, 24, 2⟩
def CM_RA_CFG : Nat := 0xA0010
def CM_RA_CFG_TRIG : RF := ⟨CM_RA_CFG, 0, 4⟩
def CM_RA_CFG_DEPTH : RF := ⟨CM_RA_CFG, 4, 8⟩
def CM_RA_CFG_LEAD : RF := ⟨CM_RA_CFG, 12, 8⟩
def CM_CMD : Nat := 0xA0014
def CM_CMD_OP : RF := ⟨CM_CMD, 0, 4⟩
def CM_CMD_ERR : RF := ⟨CM_CMD, 4, 3⟩
def CM_CMD_BUSY : RF := ⟨CM_CMD, 7, 1⟩
def CM_ACT : Nat := 0xA0018
def CM_ACT_PHASE : RF := ⟨CM_ACT, 0, 3⟩
def CM_ACT_LAST_MS : RF := ⟨CM_ACT, 16, 10⟩
def CM_OCC : Nat := 0xA001C
def CM_OCC_CMDS : RF := ⟨CM_OCC, 0, 16⟩
def CM_OCC_TRK : RF := ⟨CM_OCC, 16, 13⟩
def CM_DROP_CNT : Nat := 0xA0020
def CM_DROP_CNT_COUNT : RF := ⟨CM_DROP_CNT, 0, 32⟩
def CM_MISS_CNT : Nat := 0xA0024
def CM_MISS_CNT_COUNT : RF := ⟨CM_MISS_CNT, 0, 32⟩
def CM_LATE_CNT : Nat := 0xA0028
def CM_LATE_CNT_DL : RF := ⟨CM_LATE_CNT, 0, 16⟩
def CM_LATE_CNT_ACT : RF := ⟨CM_LATE_CNT, 16, 16⟩
def CM_E2E_CNT : Nat := 0xA002C
def CM_E2E_CNT_COUNT : RF := ⟨CM_E2E_CNT, 0, 32⟩
def CM_RA_HIT_CNT : Nat := 0xA0030
def CM_RA_HIT_CNT_COUNT : RF := ⟨CM_RA_HIT_CNT, 0, 32⟩
def CM_SEEK_FAIL_CNT : Nat := 0xA0034
def CM_SEEK_FAIL_CNT_COUNT : RF := ⟨CM_SEEK_FAIL_CNT, 0, 32⟩
def CM_PACE : Nat := 0xA7FF0
def CM_PACE_VALID : RF := ⟨CM_PACE, 31, 1⟩
def CM_PACE_BELOW_CNT : RF := ⟨CM_PACE, 16, 8⟩
def CM_PACE_PACE : RF := ⟨CM_PACE, 0, 16⟩
def HC_CTL : Nat := 0xC0000
def HC_CTL_EN : RF := ⟨HC_CTL, 0, 1⟩
def HC_CTL_ENABLE_PENDING : RF := ⟨HC_CTL, 1, 1⟩
def HC_CTL_STATE : RF := ⟨HC_CTL, 2, 2⟩
def HC_STAT : Nat := 0xC0004
def HC_STAT_LINE_UE : RF := ⟨HC_STAT, 0, 1⟩
def HC_STAT_WB_UE : RF := ⟨HC_STAT, 1, 1⟩
def HC_STAT_FILL_ERR : RF := ⟨HC_STAT, 2, 1⟩
def HC_INT_EN : Nat := 0xC0008
def HC_INT_EN_LINE_UE : RF := ⟨HC_INT_EN, 0, 1⟩
def HC_INT_EN_WB_UE : RF := ⟨HC_INT_EN, 1, 1⟩
def HC_INT_EN_FILL_ERR : RF := ⟨HC_INT_EN, 2, 1⟩
def HC_CFG : Nat := 0xC000C
def HC_CFG_PF_DEPTH : RF := ⟨HC_CFG, 0, 4⟩
def HC_CFG_WB_HOLD : RF := ⟨HC_CFG, 4, 8⟩
def HC_CFG_PF_EN : RF := ⟨HC_CFG, 12, 1⟩
def HC_DIE : Nat := 0xC0010
def HC_DIE_STATE : RF := ⟨HC_DIE, 0, 16⟩
def HC_MAINT : Nat := 0xC0014
def HC_MAINT_OP : RF := ⟨HC_MAINT, 0, 3⟩
def HC_MAINT_BUSY : RF := ⟨HC_MAINT, 3, 1⟩
def HC_MAINT_ADDR_LO : Nat := 0xC0018
def HC_MAINT_ADDR_LO_ADDR : RF := ⟨HC_MAINT_ADDR_LO, 0, 32⟩
def HC_MAINT_ADDR_HI : Nat := 0xC001C
def HC_MAINT_ADDR_HI_ADDR : RF := ⟨HC_MAINT_ADDR_HI, 0, 32⟩
def HC_MAINT_LEN : Nat := 0xC0020
def HC_MAINT_LEN_LEN : RF := ⟨HC_MAINT_LEN, 0, 32⟩
def HC_OCC : Nat := 0xC0024
def HC_OCC_LINES : RF := ⟨HC_OCC, 0, 6⟩
def HC_OCC_WB : RF := ⟨HC_OCC, 8, 4⟩
def HC_OCC_LOCKED : RF := ⟨HC_OCC, 16, 16⟩
def HC_HIT_CNT : Nat := 0xC0030
def HC_HIT_CNT_COUNT : RF := ⟨HC_HIT_CNT, 0, 32⟩
def HC_MISS_CNT : Nat := 0xC0034
def HC_MISS_CNT_COUNT : RF := ⟨HC_MISS_CNT, 0, 32⟩
def HC_PF_CNT : Nat := 0xC0038
def HC_PF_CNT_COUNT : RF := ⟨HC_PF_CNT, 0, 32⟩
def HC_PF_USED_CNT : Nat := 0xC003C
def HC_PF_USED_CNT_COUNT : RF := ⟨HC_PF_USED_CNT, 0, 32⟩
def HC_UE_CNT : Nat := 0xC0040
def HC_UE_CNT_COUNT : RF := ⟨HC_UE_CNT, 0, 32⟩
def HC_PACE : Nat := 0xC7FF0
def HC_PACE_VALID : RF := ⟨HC_PACE, 31, 1⟩
def HC_PACE_BELOW_CNT : RF := ⟨HC_PACE, 16, 8⟩
def HC_PACE_PACE : RF := ⟨HC_PACE, 0, 16⟩
def DM_CTL : Nat := 0xD0000
def DM_CTL_EN : RF := ⟨DM_CTL, 0, 1⟩
def DM_CTL_ENABLE_PENDING : RF := ⟨DM_CTL, 1, 1⟩
def DM_CTL_STATE : RF := ⟨DM_CTL, 2, 2⟩
def DM_STAT : Nat := 0xD0004
def DM_STAT_REQ_LATE : RF := ⟨DM_STAT, 0, 1⟩
def DM_STAT_HALT : RF := ⟨DM_STAT, 1, 1⟩
def DM_STAT_XLAT_FAULT : RF := ⟨DM_STAT, 2, 1⟩
def DM_STAT_RESUME_LATE : RF := ⟨DM_STAT, 3, 1⟩
def DM_STAT_FAULT_TMO : RF := ⟨DM_STAT, 4, 1⟩
def DM_INT_EN : Nat := 0xD0008
def DM_INT_EN_REQ_LATE : RF := ⟨DM_INT_EN, 0, 1⟩
def DM_INT_EN_HALT : RF := ⟨DM_INT_EN, 1, 1⟩
def DM_INT_EN_XLAT_FAULT : RF := ⟨DM_INT_EN, 2, 1⟩
def DM_INT_EN_RESUME_LATE : RF := ⟨DM_INT_EN, 3, 1⟩
def DM_INT_EN_FAULT_TMO : RF := ⟨DM_INT_EN, 4, 1⟩
def DM_CFG : Nat := 0xD000C
def DM_CFG_FAULT_TMO : RF := ⟨DM_CFG, 0, 8⟩
def DM_RESUME : Nat := 0xD0010
def DM_RESUME_CH : RF := ⟨DM_RESUME, 0, 6⟩
def DM_RESUME_VERDICT : RF := ⟨DM_RESUME, 8, 1⟩
def DM_FAULT_LO : Nat := 0xD0014
def DM_FAULT_LO_CHANS : RF := ⟨DM_FAULT_LO, 0, 32⟩
def DM_FAULT_HI : Nat := 0xD0018
def DM_FAULT_HI_CHANS : RF := ⟨DM_FAULT_HI, 0, 32⟩
def DM_HWT_CTL : Nat := 0xD0020
def DM_HWT_CTL_EN : RF := ⟨DM_HWT_CTL, 0, 1⟩
def DM_HWT_ADDR : Nat := 0xD0024
def DM_HWT_ADDR_WORD : RF := ⟨DM_HWT_ADDR, 0, 2⟩
def DM_HWT_ADDR_INDEX : RF := ⟨DM_HWT_ADDR, 2, 14⟩
def DM_HWT_DATA : Nat := 0xD0028
def DM_HWT_DATA_DATA : RF := ⟨DM_HWT_DATA, 0, 32⟩
def DM_LATE_CNT : Nat := 0xD0030
def DM_LATE_CNT_COUNT : RF := ⟨DM_LATE_CNT, 0, 32⟩
def DM_POISON_CNT : Nat := 0xD0034
def DM_POISON_CNT_COUNT : RF := ⟨DM_POISON_CNT, 0, 32⟩
def DM_FAULT_CNT : Nat := 0xD0038
def DM_FAULT_CNT_COUNT : RF := ⟨DM_FAULT_CNT, 0, 32⟩
def DM_REQ_LATE_CNT : Nat := 0xD003C
def DM_REQ_LATE_CNT_COUNT : RF := ⟨DM_REQ_LATE_CNT, 0, 32⟩
def DM_PACE : Nat := 0xD7FF0
def DM_PACE_VALID : RF := ⟨DM_PACE, 31, 1⟩
def DM_PACE_BELOW_CNT : RF := ⟨DM_PACE, 16, 8⟩
def DM_PACE_PACE : RF := ⟨DM_PACE, 0, 16⟩
def DM_CH_CTL (n : Nat) : Nat := 0xE0000 + 0x100 * n
def DM_CH_CTL_EN (n : Nat) : RF := ⟨DM_CH_CTL n, 0, 1⟩
def DM_CH_CTL_ENABLE_PENDING (n : Nat) : RF := ⟨DM_CH_CTL n, 1, 1⟩
def DM_CH_CTL_STATE (n : Nat) : RF := ⟨DM_CH_CTL n, 2, 2⟩
def DM_CH_CTL_GO (n : Nat) : RF := ⟨DM_CH_CTL n, 4, 1⟩
def DM_CH_CTL_PAUSE (n : Nat) : RF := ⟨DM_CH_CTL n, 5, 1⟩
def DM_CH_STAT (n : Nat) : Nat := 0xE0004 + 0x100 * n
def DM_CH_STAT_BUSY (n : Nat) : RF := ⟨DM_CH_STAT n, 0, 1⟩
def DM_CH_STAT_PAUSED (n : Nat) : RF := ⟨DM_CH_STAT n, 1, 1⟩
def DM_CH_STAT_HALTED (n : Nat) : RF := ⟨DM_CH_STAT n, 2, 1⟩
def DM_CH_STAT_FAULTED (n : Nat) : RF := ⟨DM_CH_STAT n, 3, 1⟩
def DM_CH_STAT_SH_VALID (n : Nat) : RF := ⟨DM_CH_STAT n, 4, 1⟩
def DM_CH_STAT_DONE (n : Nat) : RF := ⟨DM_CH_STAT n, 5, 1⟩
def DM_CH_STAT_REQ_LATE (n : Nat) : RF := ⟨DM_CH_STAT n, 6, 1⟩
def DM_CH_STAT_HCAUSE (n : Nat) : RF := ⟨DM_CH_STAT n, 8, 4⟩
def DM_CH_STAT_OUTST (n : Nat) : RF := ⟨DM_CH_STAT n, 16, 4⟩
def DM_CH_CFG (n : Nat) : Nat := 0xE0008 + 0x100 * n
def DM_CH_CFG_SRC_SP (n : Nat) : RF := ⟨DM_CH_CFG n, 0, 2⟩
def DM_CH_CFG_DST_SP (n : Nat) : RF := ⟨DM_CH_CFG n, 2, 2⟩
def DM_CH_CFG_REQ_LINE (n : Nat) : RF := ⟨DM_CH_CFG n, 4, 7⟩
def DM_CH_CFG_PACED (n : Nat) : RF := ⟨DM_CH_CFG n, 11, 1⟩
def DM_CH_CFG_BURST (n : Nat) : RF := ⟨DM_CH_CFG n, 12, 3⟩
def DM_CH_CFG_CHAIN (n : Nat) : RF := ⟨DM_CH_CFG n, 15, 1⟩
def DM_CH_CFG_CTX (n : Nat) : RF := ⟨DM_CH_CFG n, 16, 8⟩
def DM_CH_SRC_LO (n : Nat) : Nat := 0xE000C + 0x100 * n
def DM_CH_SRC_LO_ADDR (n : Nat) : RF := ⟨DM_CH_SRC_LO n, 0, 32⟩
def DM_CH_SRC_HI (n : Nat) : Nat := 0xE0010 + 0x100 * n
def DM_CH_SRC_HI_ADDR (n : Nat) : RF := ⟨DM_CH_SRC_HI n, 0, 32⟩
def DM_CH_DST_LO (n : Nat) : Nat := 0xE0014 + 0x100 * n
def DM_CH_DST_LO_ADDR (n : Nat) : RF := ⟨DM_CH_DST_LO n, 0, 32⟩
def DM_CH_DST_HI (n : Nat) : Nat := 0xE0018 + 0x100 * n
def DM_CH_DST_HI_ADDR (n : Nat) : RF := ⟨DM_CH_DST_HI n, 0, 32⟩
def DM_CH_LEN (n : Nat) : Nat := 0xE001C + 0x100 * n
def DM_CH_LEN_LEN (n : Nat) : RF := ⟨DM_CH_LEN n, 0, 25⟩
def DM_CH_SH_CTL (n : Nat) : Nat := 0xE0040 + 0x100 * n
def DM_CH_SH_CTL_ARM (n : Nat) : RF := ⟨DM_CH_SH_CTL n, 0, 1⟩
def DM_CH_SH_CFG (n : Nat) : Nat := 0xE0048 + 0x100 * n
def DM_CH_SH_CFG_SRC_SP (n : Nat) : RF := ⟨DM_CH_SH_CFG n, 0, 2⟩
def DM_CH_SH_CFG_DST_SP (n : Nat) : RF := ⟨DM_CH_SH_CFG n, 2, 2⟩
def DM_CH_SH_CFG_REQ_LINE (n : Nat) : RF := ⟨DM_CH_SH_CFG n, 4, 7⟩
def DM_CH_SH_CFG_PACED (n : Nat) : RF := ⟨DM_CH_SH_CFG n, 11, 1⟩
def DM_CH_SH_CFG_BURST (n : Nat) : RF := ⟨DM_CH_SH_CFG n, 12, 3⟩
def DM_CH_SH_CFG_CHAIN (n : Nat) : RF := ⟨DM_CH_SH_CFG n, 15, 1⟩
def DM_CH_SH_CFG_CTX (n : Nat) : RF := ⟨DM_CH_SH_CFG n, 16, 8⟩
def DM_CH_SH_SRC_LO (n : Nat) : Nat := 0xE004C + 0x100 * n
def DM_CH_SH_SRC_LO_ADDR (n : Nat) : RF := ⟨DM_CH_SH_SRC_LO n, 0, 32⟩
def DM_CH_SH_SRC_HI (n : Nat) : Nat := 0xE0050 + 0x100 * n
def DM_CH_SH_SRC_HI_ADDR (n : Nat) : RF := ⟨DM_CH_SH_SRC_HI n, 0, 32⟩
def DM_CH_SH_DST_LO (n : Nat) : Nat := 0xE0054 + 0x100 * n
def DM_CH_SH_DST_LO_ADDR (n : Nat) : RF := ⟨DM_CH_SH_DST_LO n, 0, 32⟩
def DM_CH_SH_DST_HI (n : Nat) : Nat := 0xE0058 + 0x100 * n
def DM_CH_SH_DST_HI_ADDR (n : Nat) : RF := ⟨DM_CH_SH_DST_HI n, 0, 32⟩
def DM_CH_SH_LEN (n : Nat) : Nat := 0xE005C + 0x100 * n
def DM_CH_SH_LEN_LEN (n : Nat) : RF := ⟨DM_CH_SH_LEN n, 0, 25⟩
def DM_CH_FADDR_LO (n : Nat) : Nat := 0xE0060 + 0x100 * n
def DM_CH_FADDR_LO_ADDR (n : Nat) : RF := ⟨DM_CH_FADDR_LO n, 0, 32⟩
def DM_CH_FADDR_HI (n : Nat) : Nat := 0xE0064 + 0x100 * n
def DM_CH_FADDR_HI_ADDR (n : Nat) : RF := ⟨DM_CH_FADDR_HI n, 0, 32⟩
def DM_CH_HOPS (n : Nat) : Nat := 0xE0068 + 0x100 * n
def DM_CH_HOPS_HOPS (n : Nat) : RF := ⟨DM_CH_HOPS n, 0, 13⟩
def BM_CTL : Nat := 0x100000
def BM_CTL_EN : RF := ⟨BM_CTL, 0, 1⟩
def BM_CTL_ENABLE_PENDING : RF := ⟨BM_CTL, 1, 1⟩
def BM_CTL_STATE : RF := ⟨BM_CTL, 2, 2⟩
def BM_STAT : Nat := 0x100004
def BM_STAT_CE : RF := ⟨BM_STAT, 0, 1⟩
def BM_STAT_UE : RF := ⟨BM_STAT, 1, 1⟩
def BM_STAT_POISON : RF := ⟨BM_STAT, 2, 1⟩
def BM_STAT_FETCH_UE : RF := ⟨BM_STAT, 3, 1⟩
def BM_STAT_ROW_WEAK : RF := ⟨BM_STAT, 4, 1⟩
def BM_STAT_TRAIN_BAD : RF := ⟨BM_STAT, 5, 1⟩
def BM_STAT_TEMP_HIGH : RF := ⟨BM_STAT, 6, 1⟩
def BM_STAT_ED_FULL : RF := ⟨BM_STAT, 7, 1⟩
def BM_STAT_ED_UE : RF := ⟨BM_STAT, 8, 1⟩
def BM_STAT_SRAM_UE : RF := ⟨BM_STAT, 9, 1⟩
def BM_STAT_SCRUB_DONE : RF := ⟨BM_STAT, 10, 1⟩
def BM_INT_EN : Nat := 0x100008
def BM_INT_EN_CE : RF := ⟨BM_INT_EN, 0, 1⟩
def BM_INT_EN_UE : RF := ⟨BM_INT_EN, 1, 1⟩
def BM_INT_EN_POISON : RF := ⟨BM_INT_EN, 2, 1⟩
def BM_INT_EN_FETCH_UE : RF := ⟨BM_INT_EN, 3, 1⟩
def BM_INT_EN_ROW_WEAK : RF := ⟨BM_INT_EN, 4, 1⟩
def BM_INT_EN_TRAIN_BAD : RF := ⟨BM_INT_EN, 5, 1⟩
def BM_INT_EN_TEMP_HIGH : RF := ⟨BM_INT_EN, 6, 1⟩
def BM_INT_EN_ED_FULL : RF := ⟨BM_INT_EN, 7, 1⟩
def BM_INT_EN_ED_UE : RF := ⟨BM_INT_EN, 8, 1⟩
def BM_INT_EN_SRAM_UE : RF := ⟨BM_INT_EN, 9, 1⟩
def BM_INT_EN_SCRUB_DONE : RF := ⟨BM_INT_EN, 10, 1⟩
def BM_CFG : Nat := 0x10000C
def BM_CFG_RATE : RF := ⟨BM_CFG, 0, 2⟩
def BM_CFG_WIDTH : RF := ⟨BM_CFG, 2, 1⟩
def BM_CFG_DENS : RF := ⟨BM_CFG, 3, 1⟩
def BM_CFG_RANKS : RF := ⟨BM_CFG, 4, 1⟩
def BM_CFG_ROW_CE_LIM : RF := ⟨BM_CFG, 8, 8⟩
def BM_CFG_TEMP_LIM : RF := ⟨BM_CFG, 16, 8⟩
def BM_SIZE : Nat := 0x100010
def BM_SIZE_MIB : RF := ⟨BM_SIZE, 0, 17⟩
def BM_SCRUB_CFG : Nat := 0x100014
def BM_SCRUB_CFG_PERIOD : RF := ⟨BM_SCRUB_CFG, 0, 8⟩
def BM_SCRUB_CFG_SRAM_EN : RF := ⟨BM_SCRUB_CFG, 8, 1⟩
def BM_SCRUB_CFG_SRAM_PERIOD : RF := ⟨BM_SCRUB_CFG, 16, 8⟩
def BM_SCRUB_STAT : Nat := 0x100018
def BM_SCRUB_STAT_PCT : RF := ⟨BM_SCRUB_STAT, 0, 7⟩
def BM_SCRUB_STAT_PASSES : RF := ⟨BM_SCRUB_STAT, 8, 24⟩
def BM_ERR_INFO : Nat := 0x10001C
def BM_ERR_INFO_CHAN : RF := ⟨BM_ERR_INFO, 0, 2⟩
def BM_ERR_INFO_SUB : RF := ⟨BM_ERR_INFO, 2, 1⟩
def BM_ERR_INFO_RANK : RF := ⟨BM_ERR_INFO, 3, 1⟩
def BM_ERR_INFO_KIND : RF := ⟨BM_ERR_INFO, 4, 2⟩
def BM_ERR_INFO_BITS : RF := ⟨BM_ERR_INFO, 6, 2⟩
def BM_ERR_INFO_SYND : RF := ⟨BM_ERR_INFO, 8, 16⟩
def BM_ERR_INFO_CHAN_MASK : RF := ⟨BM_ERR_INFO, 24, 4⟩
def BM_ERR_ADDR_LO : Nat := 0x100020
def BM_ERR_ADDR_LO_ADDR : RF := ⟨BM_ERR_ADDR_LO, 0, 32⟩
def BM_ERR_ADDR_HI : Nat := 0x100024
def BM_ERR_ADDR_HI_ADDR : RF := ⟨BM_ERR_ADDR_HI, 0, 32⟩
def BM_CODE_BASE_LO : Nat := 0x100028
def BM_CODE_BASE_LO_ADDR : RF := ⟨BM_CODE_BASE_LO, 0, 32⟩
def BM_CODE_BASE_HI : Nat := 0x10002C
def BM_CODE_BASE_HI_ADDR : RF := ⟨BM_CODE_BASE_HI, 0, 32⟩
def BM_CODE_SIZE : Nat := 0x100030
def BM_CODE_SIZE_MIB : RF := ⟨BM_CODE_SIZE, 0, 12⟩
def BM_CACHE_BASE_LO : Nat := 0x100034
def BM_CACHE_BASE_LO_ADDR : RF := ⟨BM_CACHE_BASE_LO, 0, 32⟩
def BM_CACHE_BASE_HI : Nat := 0x100038
def BM_CACHE_BASE_HI_ADDR : RF := ⟨BM_CACHE_BASE_HI, 0, 32⟩
def BM_CACHE_SIZE : Nat := 0x10003C
def BM_CACHE_SIZE_MIB : RF := ⟨BM_CACHE_SIZE, 0, 17⟩
def BM_ED_CFG : Nat := 0x100040
def BM_ED_CFG_DIRTY_MAX : RF := ⟨BM_ED_CFG, 0, 17⟩
def BM_ED_CFG_RA_MAX : RF := ⟨BM_ED_CFG, 17, 7⟩
def BM_ED_CFG_CACHE_RD : RF := ⟨BM_ED_CFG, 24, 1⟩
def BM_ED_DIRTY : Nat := 0x100044
def BM_ED_DIRTY_COUNT : RF := ⟨BM_ED_DIRTY, 0, 18⟩
def BM_TEMP : Nat := 0x100048
def BM_TEMP_T : RF := ⟨BM_TEMP, 0, 32⟩
def BM_ED_CLEAN : Nat := 0x10004C
def BM_ED_CLEAN_COUNT : RF := ⟨BM_ED_CLEAN, 0, 18⟩
def BM_CE_CNT : Nat := 0x100050
def BM_CE_CNT_COUNT : RF := ⟨BM_CE_CNT, 0, 32⟩
def BM_UE_CNT : Nat := 0x100054
def BM_UE_CNT_COUNT : RF := ⟨BM_UE_CNT, 0, 32⟩
def BM_POISON_CNT : Nat := 0x100058
def BM_POISON_CNT_COUNT : RF := ⟨BM_POISON_CNT, 0, 32⟩
def BM_SRAM_CE_CNT : Nat := 0x10005C
def BM_SRAM_CE_CNT_COUNT : RF := ⟨BM_SRAM_CE_CNT, 0, 32⟩
def BM_SRAM_UE_CNT : Nat := 0x100060
def BM_SRAM_UE_CNT_COUNT : RF := ⟨BM_SRAM_UE_CNT, 0, 32⟩
def BM_ED_HIT_CNT : Nat := 0x100064
def BM_ED_HIT_CNT_COUNT : RF := ⟨BM_ED_HIT_CNT, 0, 32⟩
def BM_ED_MISS_CNT : Nat := 0x100068
def BM_ED_MISS_CNT_COUNT : RF := ⟨BM_ED_MISS_CNT, 0, 32⟩
def BM_PACE : Nat := 0x107FF0
def BM_PACE_VALID : RF := ⟨BM_PACE, 31, 1⟩
def BM_PACE_BELOW_CNT : RF := ⟨BM_PACE, 16, 8⟩
def BM_PACE_PACE : RF := ⟨BM_PACE, 0, 16⟩
def JN_CTL : Nat := 0x110000
def JN_CTL_EN : RF := ⟨JN_CTL, 0, 1⟩
def JN_CTL_ENABLE_PENDING : RF := ⟨JN_CTL, 1, 1⟩
def JN_CTL_STATE : RF := ⟨JN_CTL, 2, 2⟩
def JN_STAT : Nat := 0x110004
def JN_STAT_MIRROR_LOST : RF := ⟨JN_STAT, 0, 1⟩
def JN_STAT_DIE_LATE : RF := ⟨JN_STAT, 1, 1⟩
def JN_STAT_CE : RF := ⟨JN_STAT, 2, 1⟩
def JN_STAT_REC_LOST : RF := ⟨JN_STAT, 3, 1⟩
def JN_STAT_RING_FULL : RF := ⟨JN_STAT, 4, 1⟩
def JN_STAT_SPILL_NOPAIR : RF := ⟨JN_STAT, 6, 1⟩
def JN_STAT_SPILL_FULL : RF := ⟨JN_STAT, 7, 1⟩
def JN_STAT_SPILL_COPY_LOST : RF := ⟨JN_STAT, 8, 1⟩
def JN_STAT_SB_BAD : RF := ⟨JN_STAT, 9, 1⟩
def JN_STAT_REPLAYED : RF := ⟨JN_STAT, 10, 1⟩
def JN_STAT_TORN : RF := ⟨JN_STAT, 11, 1⟩
def JN_STAT_SPILL_CFG_BAD : RF := ⟨JN_STAT, 12, 1⟩
def JN_INT_EN : Nat := 0x110008
def JN_INT_EN_MIRROR_LOST : RF := ⟨JN_INT_EN, 0, 1⟩
def JN_INT_EN_DIE_LATE : RF := ⟨JN_INT_EN, 1, 1⟩
def JN_INT_EN_CE : RF := ⟨JN_INT_EN, 2, 1⟩
def JN_INT_EN_REC_LOST : RF := ⟨JN_INT_EN, 3, 1⟩
def JN_INT_EN_RING_FULL : RF := ⟨JN_INT_EN, 4, 1⟩
def JN_INT_EN_SPILL_NOPAIR : RF := ⟨JN_INT_EN, 6, 1⟩
def JN_INT_EN_SPILL_FULL : RF := ⟨JN_INT_EN, 7, 1⟩
def JN_INT_EN_SPILL_COPY_LOST : RF := ⟨JN_INT_EN, 8, 1⟩
def JN_INT_EN_SB_BAD : RF := ⟨JN_INT_EN, 9, 1⟩
def JN_INT_EN_REPLAYED : RF := ⟨JN_INT_EN, 10, 1⟩
def JN_INT_EN_TORN : RF := ⟨JN_INT_EN, 11, 1⟩
def JN_INT_EN_SPILL_CFG_BAD : RF := ⟨JN_INT_EN, 12, 1⟩
def JN_CFG : Nat := 0x11000C
def JN_CFG_SPILL_HI : RF := ⟨JN_CFG, 0, 7⟩
def JN_CFG_SPILL_LO : RF := ⟨JN_CFG, 8, 7⟩
def JN_CFG_DIE_TMO : RF := ⟨JN_CFG, 16, 8⟩
def JN_CFG_SOLO : RF := ⟨JN_CFG, 24, 1⟩
def JN_CMD : Nat := 0x110010
def JN_CMD_OP : RF := ⟨JN_CMD, 0, 4⟩
def JN_CMD_ERR : RF := ⟨JN_CMD, 4, 3⟩
def JN_MIRROR : Nat := 0x110014
def JN_MIRROR_D0_OK : RF := ⟨JN_MIRROR, 0, 1⟩
def JN_MIRROR_D1_OK : RF := ⟨JN_MIRROR, 1, 1⟩
def JN_MIRROR_RESYNC : RF := ⟨JN_MIRROR, 2, 1⟩
def JN_MIRROR_PCT : RF := ⟨JN_MIRROR, 8, 7⟩
def JN_HEAD_LO : Nat := 0x110018
def JN_HEAD_LO_JSEQ : RF := ⟨JN_HEAD_LO, 0, 32⟩
def JN_HEAD_HI : Nat := 0x11001C
def JN_HEAD_HI_JSEQ : RF := ⟨JN_HEAD_HI, 0, 32⟩
def JN_TAIL_LO : Nat := 0x110020
def JN_TAIL_LO_JSEQ : RF := ⟨JN_TAIL_LO, 0, 32⟩
def JN_TAIL_HI : Nat := 0x110024
def JN_TAIL_HI_JSEQ : RF := ⟨JN_TAIL_HI, 0, 32⟩
def JN_FILL : Nat := 0x110028
def JN_FILL_RING : RF := ⟨JN_FILL, 0, 7⟩
def JN_FILL_SPILL : RF := ⟨JN_FILL, 8, 7⟩
def JN_FILL_IDX : RF := ⟨JN_FILL, 16, 7⟩
def JN_HELD : Nat := 0x11002C
def JN_HELD_HELD : RF := ⟨JN_HELD, 0, 7⟩
def JN_REPLAY : Nat := 0x110030
def JN_REPLAY_PHASE : RF := ⟨JN_REPLAY, 0, 3⟩
def JN_REPLAY_TORN : RF := ⟨JN_REPLAY, 8, 8⟩
def JN_REPLAY_RECS : RF := ⟨JN_REPLAY, 16, 16⟩
def JN_SPILL_STAT : Nat := 0x110034
def JN_SPILL_STAT_USABLE : RF := ⟨JN_SPILL_STAT, 0, 8⟩
def JN_SPILL_STAT_COPYLOST : RF := ⟨JN_SPILL_STAT, 8, 8⟩
def JN_COMMIT_CNT : Nat := 0x110038
def JN_COMMIT_CNT_COUNT : RF := ⟨JN_COMMIT_CNT, 0, 32⟩
def JN_LATE_CNT : Nat := 0x11003C
def JN_LATE_CNT_D0 : RF := ⟨JN_LATE_CNT, 0, 8⟩
def JN_LATE_CNT_D1 : RF := ⟨JN_LATE_CNT, 8, 8⟩
def JN_CE_CNT : Nat := 0x110040
def JN_CE_CNT_COUNT : RF := ⟨JN_CE_CNT, 0, 32⟩
def JN_LOST_CNT : Nat := 0x110044
def JN_LOST_CNT_COUNT : RF := ⟨JN_LOST_CNT, 0, 32⟩
def JN_PACE : Nat := 0x117FF0
def JN_PACE_VALID : RF := ⟨JN_PACE, 31, 1⟩
def JN_PACE_BELOW_CNT : RF := ⟨JN_PACE, 16, 8⟩
def JN_PACE_PACE : RF := ⟨JN_PACE, 0, 16⟩
def JN_EXT_MEM (e : Nat) : Nat := 0x110080 + 0x10 * e
def JN_EXT_MEM_MEMBER (e : Nat) : RF := ⟨JN_EXT_MEM e, 0, 7⟩
def JN_EXT_MEM_EN (e : Nat) : RF := ⟨JN_EXT_MEM e, 7, 1⟩
def JN_EXT_MBA_LO (e : Nat) : Nat := 0x110084 + 0x10 * e
def JN_EXT_MBA_LO_MBA (e : Nat) : RF := ⟨JN_EXT_MBA_LO e, 0, 32⟩
def JN_EXT_MBA_HI (e : Nat) : Nat := 0x110088 + 0x10 * e
def JN_EXT_MBA_HI_MBA (e : Nat) : RF := ⟨JN_EXT_MBA_HI e, 0, 8⟩
def JN_EXT_LEN (e : Nat) : Nat := 0x11008C + 0x10 * e
def JN_EXT_LEN_BLOCKS (e : Nat) : RF := ⟨JN_EXT_LEN e, 0, 25⟩
def AR_CTL : Nat := 0x120000
def AR_CTL_EN : RF := ⟨AR_CTL, 0, 1⟩
def AR_CTL_ENABLE_PENDING : RF := ⟨AR_CTL, 1, 1⟩
def AR_CTL_STATE : RF := ⟨AR_CTL, 2, 2⟩
def AR_STAT : Nat := 0x120004
def AR_STAT_MEMBER_UNAVAIL : RF := ⟨AR_STAT, 0, 1⟩
def AR_STAT_MEMBER_FAILED : RF := ⟨AR_STAT, 1, 1⟩
def AR_STAT_LATE : RF := ⟨AR_STAT, 2, 1⟩
def AR_STAT_WSEQ_MISMATCH : RF := ⟨AR_STAT, 3, 1⟩
def AR_STAT_CLASS_DEGRADED : RF := ⟨AR_STAT, 4, 1⟩
def AR_STAT_CFG_BAD : RF := ⟨AR_STAT, 5, 1⟩
def AR_STAT_PE_POISON : RF := ⟨AR_STAT, 6, 1⟩
def AR_STAT_PE_OVF : RF := ⟨AR_STAT, 7, 1⟩
def AR_STAT_HOLD_LIM : RF := ⟨AR_STAT, 8, 1⟩
def AR_INT_EN : Nat := 0x120008
def AR_INT_EN_MEMBER_UNAVAIL : RF := ⟨AR_INT_EN, 0, 1⟩
def AR_INT_EN_MEMBER_FAILED : RF := ⟨AR_INT_EN, 1, 1⟩
def AR_INT_EN_LATE : RF := ⟨AR_INT_EN, 2, 1⟩
def AR_INT_EN_WSEQ_MISMATCH : RF := ⟨AR_INT_EN, 3, 1⟩
def AR_INT_EN_CLASS_DEGRADED : RF := ⟨AR_INT_EN, 4, 1⟩
def AR_INT_EN_CFG_BAD : RF := ⟨AR_INT_EN, 5, 1⟩
def AR_INT_EN_PE_POISON : RF := ⟨AR_INT_EN, 6, 1⟩
def AR_INT_EN_PE_OVF : RF := ⟨AR_INT_EN, 7, 1⟩
def AR_INT_EN_HOLD_LIM : RF := ⟨AR_INT_EN, 8, 1⟩
def AR_CFG : Nat := 0x12000C
def AR_CFG_UNAVAIL_TMO : RF := ⟨AR_CFG, 0, 8⟩
def AR_CFG_HOLD_LIM : RF := ⟨AR_CFG, 8, 8⟩
def AR_WSEQ : Nat := 0x120010
def AR_WSEQ_SEQ : RF := ⟨AR_WSEQ, 0, 32⟩
def AR_PE_STAT : Nat := 0x120014
def AR_PE_STAT_FREE : RF := ⟨AR_PE_STAT, 0, 7⟩
def AR_PE_STAT_BUSY : RF := ⟨AR_PE_STAT, 8, 1⟩
def AR_PE_SUB_LO : Nat := 0x120018
def AR_PE_SUB_LO_ADDR : RF := ⟨AR_PE_SUB_LO, 0, 32⟩
def AR_PE_SUB_HI : Nat := 0x12001C
def AR_PE_SUB_HI_ADDR : RF := ⟨AR_PE_SUB_HI, 0, 32⟩
def AR_PAT_ADDR : Nat := 0x120020
def AR_PAT_ADDR_WORD : RF := ⟨AR_PAT_ADDR, 0, 5⟩
def AR_PAT_ADDR_PATTERN : RF := ⟨AR_PAT_ADDR, 5, 10⟩
def AR_PAT_DATA : Nat := 0x120024
def AR_PAT_DATA_MEMBERS : RF := ⟨AR_PAT_DATA, 0, 32⟩
def AR_RECON_CNT : Nat := 0x120028
def AR_RECON_CNT_COUNT : RF := ⟨AR_RECON_CNT, 0, 32⟩
def AR_LATE_CNT : Nat := 0x12002C
def AR_LATE_CNT_COUNT : RF := ⟨AR_LATE_CNT, 0, 32⟩
def AR_WSEQ_ERR_CNT : Nat := 0x120030
def AR_WSEQ_ERR_CNT_COUNT : RF := ⟨AR_WSEQ_ERR_CNT, 0, 32⟩
def AR_MEMSTATE (n : Nat) : Nat := 0x120040 + 4 * n
def AR_MEMSTATE_STATE (n : Nat) : RF := ⟨AR_MEMSTATE n, 0, 32⟩
def AR_PACE : Nat := 0x127FF0
def AR_PACE_VALID : RF := ⟨AR_PACE, 31, 1⟩
def AR_PACE_BELOW_CNT : RF := ⟨AR_PACE, 16, 8⟩
def AR_PACE_PACE : RF := ⟨AR_PACE, 0, 16⟩
def AR_VOL_CTL (v : Nat) : Nat := 0x121000 + 0x40 * v
def AR_VOL_CTL_EN (v : Nat) : RF := ⟨AR_VOL_CTL v, 0, 1⟩
def AR_VOL_CTL_ENABLE_PENDING (v : Nat) : RF := ⟨AR_VOL_CTL v, 1, 1⟩
def AR_VOL_CTL_STATE (v : Nat) : RF := ⟨AR_VOL_CTL v, 2, 2⟩
def AR_VOL_GEOM (v : Nat) : Nat := 0x121004 + 0x40 * v
def AR_VOL_GEOM_K (v : Nat) : RF := ⟨AR_VOL_GEOM v, 0, 5⟩
def AR_VOL_GEOM_P (v : Nat) : RF := ⟨AR_VOL_GEOM v, 5, 3⟩
def AR_VOL_GEOM_CLASS (v : Nat) : RF := ⟨AR_VOL_GEOM v, 8, 2⟩
def AR_VOL_GEOM_SLOG2 (v : Nat) : RF := ⟨AR_VOL_GEOM v, 10, 4⟩
def AR_VOL_SET (v : Nat) (n : Nat) : Nat := 0x121008 + 0x40 * v + 4 * n
def AR_VOL_SET_MEMBERS (v : Nat) (n : Nat) : RF := ⟨AR_VOL_SET v n, 0, 32⟩
def AR_VOL_MBA_LO (v : Nat) : Nat := 0x121014 + 0x40 * v
def AR_VOL_MBA_LO_MBA (v : Nat) : RF := ⟨AR_VOL_MBA_LO v, 0, 32⟩
def AR_VOL_MBA_HI (v : Nat) : Nat := 0x121018 + 0x40 * v
def AR_VOL_MBA_HI_MBA (v : Nat) : RF := ⟨AR_VOL_MBA_HI v, 0, 8⟩
def AR_VOL_ROWS (v : Nat) : Nat := 0x12101C + 0x40 * v
def AR_VOL_ROWS_ROWS (v : Nat) : RF := ⟨AR_VOL_ROWS v, 0, 32⟩
def AR_VOL_PAT (v : Nat) : Nat := 0x121020 + 0x40 * v
def AR_VOL_PAT_BASE (v : Nat) : RF := ⟨AR_VOL_PAT v, 0, 10⟩
def AR_VOL_PAT_CNT (v : Nat) : RF := ⟨AR_VOL_PAT v, 16, 7⟩
def AR_VOL_CAP_LO (v : Nat) : Nat := 0x121024 + 0x40 * v
def AR_VOL_CAP_LO_CAP (v : Nat) : RF := ⟨AR_VOL_CAP_LO v, 0, 32⟩
def AR_VOL_CAP_HI (v : Nat) : Nat := 0x121028 + 0x40 * v
def AR_VOL_CAP_HI_CAP (v : Nat) : RF := ⟨AR_VOL_CAP_HI v, 0, 8⟩
def AR_VOL_CAP_HI_CAP40 (v : Nat) : RF := ⟨AR_VOL_CAP_HI v, 8, 1⟩
def AR_VOL_STAT (v : Nat) : Nat := 0x12102C + 0x40 * v
def AR_VOL_STAT_CFG_BAD (v : Nat) : RF := ⟨AR_VOL_STAT v, 0, 1⟩
def AR_VOL_STAT_CLASS_DEGRADED (v : Nat) : RF := ⟨AR_VOL_STAT v, 1, 1⟩
def AR_VOL_STAT_WSEQ_MISMATCH (v : Nat) : RF := ⟨AR_VOL_STAT v, 2, 1⟩
def AR_VOL_STAT_CFG_WHY (v : Nat) : RF := ⟨AR_VOL_STAT v, 4, 4⟩
def AR_VOL_STAT_FAILCNT (v : Nat) : RF := ⟨AR_VOL_STAT v, 8, 3⟩
def AR_VOL_STAT_WORST (v : Nat) : RF := ⟨AR_VOL_STAT v, 11, 3⟩
def AR_VOL_STAT_COND (v : Nat) : RF := ⟨AR_VOL_STAT v, 14, 2⟩
def AR_VOL_FAIL (v : Nat) : Nat := 0x121030 + 0x40 * v
def AR_VOL_FAIL_LIST (v : Nat) : RF := ⟨AR_VOL_FAIL v, 0, 32⟩
def AR_VOL_RECON_CNT (v : Nat) : Nat := 0x121034 + 0x40 * v
def AR_VOL_RECON_CNT_COUNT (v : Nat) : RF := ⟨AR_VOL_RECON_CNT v, 0, 32⟩
def RB_CTL : Nat := 0x180000
def RB_CTL_EN : RF := ⟨RB_CTL, 0, 1⟩
def RB_CTL_ENABLE_PENDING : RF := ⟨RB_CTL, 1, 1⟩
def RB_CTL_STATE : RF := ⟨RB_CTL, 2, 2⟩
def RB_STAT : Nat := 0x180004
def RB_STAT_SLOW_FAIL : RF := ⟨RB_STAT, 0, 1⟩
def RB_STAT_LATE : RF := ⟨RB_STAT, 1, 1⟩
def RB_STAT_REBUILD_DONE : RF := ⟨RB_STAT, 2, 1⟩
def RB_STAT_REBUILD_RESTART : RF := ⟨RB_STAT, 3, 1⟩
def RB_STAT_FORFEIT : RF := ⟨RB_STAT, 4, 1⟩
def RB_STAT_FT_FULL : RF := ⟨RB_STAT, 5, 1⟩
def RB_STAT_RS_DONE : RF := ⟨RB_STAT, 6, 1⟩
def RB_STAT_RS_WAIT : RF := ⟨RB_STAT, 7, 1⟩
def RB_STAT_CKPT_BAD : RF := ⟨RB_STAT, 8, 1⟩
def RB_STAT_CMD_FAIL : RF := ⟨RB_STAT, 9, 1⟩
def RB_INT_EN : Nat := 0x180008
def RB_INT_EN_SLOW_FAIL : RF := ⟨RB_INT_EN, 0, 1⟩
def RB_INT_EN_LATE : RF := ⟨RB_INT_EN, 1, 1⟩
def RB_INT_EN_REBUILD_DONE : RF := ⟨RB_INT_EN, 2, 1⟩
def RB_INT_EN_REBUILD_RESTART : RF := ⟨RB_INT_EN, 3, 1⟩
def RB_INT_EN_FORFEIT : RF := ⟨RB_INT_EN, 4, 1⟩
def RB_INT_EN_FT_FULL : RF := ⟨RB_INT_EN, 5, 1⟩
def RB_INT_EN_RS_DONE : RF := ⟨RB_INT_EN, 6, 1⟩
def RB_INT_EN_RS_WAIT : RF := ⟨RB_INT_EN, 7, 1⟩
def RB_INT_EN_CKPT_BAD : RF := ⟨RB_INT_EN, 8, 1⟩
def RB_INT_EN_CMD_FAIL : RF := ⟨RB_INT_EN, 9, 1⟩
def RB_CFG : Nat := 0x18000C
def RB_CFG_SLOW_TMO : RF := ⟨RB_CFG, 0, 8⟩
def RB_CFG_SHARE : RF := ⟨RB_CFG, 8, 7⟩
def RB_CFG_FLOOR : RF := ⟨RB_CFG, 16, 7⟩
def RB_CMD : Nat := 0x180010
def RB_CMD_OP : RF := ⟨RB_CMD, 0, 4⟩
def RB_CMD_ARG : RF := ⟨RB_CMD, 4, 7⟩
def RB_CMD_SHADOW : RF := ⟨RB_CMD, 12, 6⟩
def RB_CMD_ERR : RF := ⟨RB_CMD, 20, 3⟩
def RB_PRIV : Nat := 0x180014
def RB_PRIV_SLOTS : RF := ⟨RB_PRIV, 0, 32⟩
def RB_ACTIVE_LO : Nat := 0x180018
def RB_ACTIVE_LO_VOLS : RF := ⟨RB_ACTIVE_LO, 0, 32⟩
def RB_ACTIVE_HI : Nat := 0x18001C
def RB_ACTIVE_HI_VOLS : RF := ⟨RB_ACTIVE_HI, 0, 32⟩
def RB_RS_STAT : Nat := 0x180020
def RB_RS_STAT_VOL : RF := ⟨RB_RS_STAT, 0, 6⟩
def RB_RS_STAT_SHADOW : RF := ⟨RB_RS_STAT, 6, 6⟩
def RB_RS_STAT_STATE : RF := ⟨RB_RS_STAT, 12, 3⟩
def RB_RS_STAT_WINDOW : RF := ⟨RB_RS_STAT, 16, 7⟩
def RB_RS_STAT_ROUND : RF := ⟨RB_RS_STAT, 23, 3⟩
def RB_RS_MARK_LO : Nat := 0x180024
def RB_RS_MARK_LO_MARK : RF := ⟨RB_RS_MARK_LO, 0, 32⟩
def RB_RS_MARK_HI : Nat := 0x180028
def RB_RS_MARK_HI_MARK : RF := ⟨RB_RS_MARK_HI, 0, 8⟩
def RB_FT_STAT : Nat := 0x18002C
def RB_FT_STAT_USED : RF := ⟨RB_FT_STAT, 0, 15⟩
def RB_FT_ADDR : Nat := 0x180030
def RB_FT_ADDR_WORD : RF := ⟨RB_FT_ADDR, 0, 2⟩
def RB_FT_ADDR_INDEX : RF := ⟨RB_FT_ADDR, 2, 14⟩
def RB_FT_DATA : Nat := 0x180034
def RB_FT_DATA_DATA : RF := ⟨RB_FT_DATA, 0, 32⟩
def RB_FROZEN_LO : Nat := 0x180038
def RB_FROZEN_LO_VOLS : RF := ⟨RB_FROZEN_LO, 0, 32⟩
def RB_FROZEN_HI : Nat := 0x18003C
def RB_FROZEN_HI_VOLS : RF := ⟨RB_FROZEN_HI, 0, 32⟩
def RB_SLOW_CNT : Nat := 0x180040
def RB_SLOW_CNT_COUNT : RF := ⟨RB_SLOW_CNT, 0, 32⟩
def RB_LATE_CNT : Nat := 0x180044
def RB_LATE_CNT_COUNT : RF := ⟨RB_LATE_CNT, 0, 32⟩
def RB_STRIP_CNT : Nat := 0x180048
def RB_STRIP_CNT_COUNT : RF := ⟨RB_STRIP_CNT, 0, 32⟩
def RB_FT_ADD_CNT : Nat := 0x18004C
def RB_FT_ADD_CNT_COUNT : RF := ⟨RB_FT_ADD_CNT, 0, 32⟩
def RB_CURSOR (v : Nat) : Nat := 0x180100 + 4 * v
def RB_CURSOR_ROW (v : Nat) : RF := ⟨RB_CURSOR v, 0, 32⟩
def CH_CTL (c : Nat) : Nat := 0x200000 + 0x10000 * c
def CH_CTL_EN (c : Nat) : RF := ⟨CH_CTL c, 0, 1⟩
def CH_CTL_ENABLE_PENDING (c : Nat) : RF := ⟨CH_CTL c, 1, 1⟩
def CH_CTL_STATE (c : Nat) : RF := ⟨CH_CTL c, 2, 2⟩
def CH_CTL_LOOPBACK (c : Nat) : RF := ⟨CH_CTL c, 4, 1⟩
def CH_CTL_SMEM_FREEZE (c : Nat) : RF := ⟨CH_CTL c, 5, 1⟩
def CH_STAT (c : Nat) : Nat := 0x200004 + 0x10000 * c
def CH_STAT_PA_FAULT (c : Nat) : RF := ⟨CH_STAT c, 0, 1⟩
def CH_STAT_HSEL_ERR (c : Nat) : RF := ⟨CH_STAT c, 1, 1⟩
def CH_STAT_SYNC_MISS (c : Nat) : RF := ⟨CH_STAT c, 2, 1⟩
def CH_STAT_UNDECODED (c : Nat) : RF := ⟨CH_STAT c, 3, 1⟩
def CH_STAT_WG_DENIED (c : Nat) : RF := ⟨CH_STAT c, 4, 1⟩
def CH_STAT_SMEM_PIN_FULL (c : Nat) : RF := ⟨CH_STAT c, 5, 1⟩
def CH_STAT_TR_RANGE (c : Nat) : RF := ⟨CH_STAT c, 6, 1⟩
def CH_STAT_SMEM_CE (c : Nat) : RF := ⟨CH_STAT c, 7, 1⟩
def CH_STAT_SMEM_UE (c : Nat) : RF := ⟨CH_STAT c, 8, 1⟩
def CH_STAT_PA_TIMEOUT (c : Nat) : RF := ⟨CH_STAT c, 9, 1⟩
def CH_STAT_ZT_BAD (c : Nat) : RF := ⟨CH_STAT c, 10, 1⟩
def CH_STAT_OOS (c : Nat) : RF := ⟨CH_STAT c, 11, 1⟩
def CH_INT_EN (c : Nat) : Nat := 0x200008 + 0x10000 * c
def CH_INT_EN_PA_FAULT (c : Nat) : RF := ⟨CH_INT_EN c, 0, 1⟩
def CH_INT_EN_HSEL_ERR (c : Nat) : RF := ⟨CH_INT_EN c, 1, 1⟩
def CH_INT_EN_SYNC_MISS (c : Nat) : RF := ⟨CH_INT_EN c, 2, 1⟩
def CH_INT_EN_UNDECODED (c : Nat) : RF := ⟨CH_INT_EN c, 3, 1⟩
def CH_INT_EN_WG_DENIED (c : Nat) : RF := ⟨CH_INT_EN c, 4, 1⟩
def CH_INT_EN_SMEM_PIN_FULL (c : Nat) : RF := ⟨CH_INT_EN c, 5, 1⟩
def CH_INT_EN_TR_RANGE (c : Nat) : RF := ⟨CH_INT_EN c, 6, 1⟩
def CH_INT_EN_SMEM_CE (c : Nat) : RF := ⟨CH_INT_EN c, 7, 1⟩
def CH_INT_EN_SMEM_UE (c : Nat) : RF := ⟨CH_INT_EN c, 8, 1⟩
def CH_INT_EN_PA_TIMEOUT (c : Nat) : RF := ⟨CH_INT_EN c, 9, 1⟩
def CH_INT_EN_ZT_BAD (c : Nat) : RF := ⟨CH_INT_EN c, 10, 1⟩
def CH_INT_EN_OOS (c : Nat) : RF := ⟨CH_INT_EN c, 11, 1⟩
def CH_HEADSEL (c : Nat) : Nat := 0x20000C + 0x10000 * c
def CH_HEADSEL_HEAD (c : Nat) : RF := ⟨CH_HEADSEL c, 0, 4⟩
def CH_HEADSEL_PENDING (c : Nat) : RF := ⟨CH_HEADSEL c, 4, 1⟩
def CH_HEADSEL_ACTIVE (c : Nat) : RF := ⟨CH_HEADSEL c, 8, 4⟩
def CH_OPSTAT (c : Nat) : Nat := 0x200010 + 0x10000 * c
def CH_OPSTAT_ZONE (c : Nat) : RF := ⟨CH_OPSTAT c, 0, 5⟩
def CH_OPSTAT_DIR (c : Nat) : RF := ⟨CH_OPSTAT c, 5, 2⟩
def CH_OPSTAT_SECTOR (c : Nat) : RF := ⟨CH_OPSTAT c, 8, 11⟩
def CH_SYNC_CFG (c : Nat) : Nat := 0x200014 + 0x10000 * c
def CH_SYNC_CFG_WINDOW (c : Nat) : RF := ⟨CH_SYNC_CFG c, 0, 4⟩
def CH_SYNC_CFG_THRESH (c : Nat) : RF := ⟨CH_SYNC_CFG c, 4, 3⟩
def CH_SYNC_CFG_RESYNC_WINDOW (c : Nat) : RF := ⟨CH_SYNC_CFG c, 8, 3⟩
def CH_SYNC_CFG_RESYNC_THRESH (c : Nat) : RF := ⟨CH_SYNC_CFG c, 11, 3⟩
def CH_SYNC_PAT (c : Nat) : Nat := 0x200018 + 0x10000 * c
def CH_SYNC_PAT_PAT (c : Nat) : RF := ⟨CH_SYNC_PAT c, 0, 32⟩
def CH_RESYNC_PAT (c : Nat) : Nat := 0x20001C + 0x10000 * c
def CH_RESYNC_PAT_PAT (c : Nat) : RF := ⟨CH_RESYNC_PAT c, 0, 32⟩
def CH_AGC (c : Nat) : Nat := 0x200020 + 0x10000 * c
def CH_AGC_TARGET (c : Nat) : RF := ⟨CH_AGC c, 0, 6⟩
def CH_AGC_HOLD (c : Nat) : RF := ⟨CH_AGC c, 6, 1⟩
def CH_AGC_GAIN0 (c : Nat) : RF := ⟨CH_AGC c, 8, 8⟩
def CH_AGC_GAIN1 (c : Nat) : RF := ⟨CH_AGC c, 16, 8⟩
def CH_TR_CFG (c : Nat) : Nat := 0x200024 + 0x10000 * c
def CH_TR_CFG_KP (c : Nat) : RF := ⟨CH_TR_CFG c, 0, 4⟩
def CH_TR_CFG_KI (c : Nat) : RF := ⟨CH_TR_CFG c, 4, 4⟩
def CH_TR_CFG_ACQ_LEN (c : Nat) : RF := ⟨CH_TR_CFG c, 8, 8⟩
def CH_TR_STAT (c : Nat) : Nat := 0x200028 + 0x10000 * c
def CH_TR_STAT_FOFS (c : Nat) : RF := ⟨CH_TR_STAT c, 0, 16⟩
def CH_TR_STAT_LOCK (c : Nat) : RF := ⟨CH_TR_STAT c, 16, 1⟩
def CH_EQ_CTL (c : Nat) : Nat := 0x20002C + 0x10000 * c
def CH_EQ_CTL_ADAPT (c : Nat) : RF := ⟨CH_EQ_CTL c, 0, 1⟩
def CH_EQ_CTL_MU (c : Nat) : RF := ⟨CH_EQ_CTL c, 1, 3⟩
def CH_EQ_CTL_FREEZE_ON_FAIL (c : Nat) : RF := ⟨CH_EQ_CTL c, 4, 1⟩
def CH_DEC_CFG (c : Nat) : Nat := 0x200030 + 0x10000 * c
def CH_DEC_CFG_MAX_ITER (c : Nat) : RF := ⟨CH_DEC_CFG c, 0, 5⟩
def CH_DEC_CFG_EARLY_STOP (c : Nat) : RF := ⟨CH_DEC_CFG c, 5, 1⟩
def CH_LAST_OUT (c : Nat) : Nat := 0x200034 + 0x10000 * c
def CH_LAST_OUT_OUTCOME (c : Nat) : RF := ⟨CH_LAST_OUT c, 0, 4⟩
def CH_LAST_OUT_ITER (c : Nat) : RF := ⟨CH_LAST_OUT c, 4, 7⟩
def CH_LAST_OUT_SYNC_ERR (c : Nat) : RF := ⟨CH_LAST_OUT c, 12, 3⟩
def CH_LAST_OUT_SYNC_OFS (c : Nat) : RF := ⟨CH_LAST_OUT c, 15, 5⟩
def CH_SMEM_STAT (c : Nat) : Nat := 0x200064 + 0x10000 * c
def CH_SMEM_STAT_VALID (c : Nat) : RF := ⟨CH_SMEM_STAT c, 0, 4⟩
def CH_SMEM_STAT_PINNED (c : Nat) : RF := ⟨CH_SMEM_STAT c, 4, 4⟩
def CH_SMEM_STAT_POISON (c : Nat) : RF := ⟨CH_SMEM_STAT c, 8, 4⟩
def CH_SMEM_ADDR (c : Nat) : Nat := 0x200038 + 0x10000 * c
def CH_SMEM_ADDR_POS (c : Nat) : RF := ⟨CH_SMEM_ADDR c, 0, 16⟩
def CH_SMEM_ADDR_READER (c : Nat) : RF := ⟨CH_SMEM_ADDR c, 16, 1⟩
def CH_SMEM_ADDR_SLOT (c : Nat) : RF := ⟨CH_SMEM_ADDR c, 17, 2⟩
def CH_SMEM_DATA (c : Nat) : Nat := 0x20003C + 0x10000 * c
def CH_SMEM_DATA_SAMPLES (c : Nat) : RF := ⟨CH_SMEM_DATA c, 0, 30⟩
def CH_SMEM_DATA_STALE (c : Nat) : RF := ⟨CH_SMEM_DATA c, 31, 1⟩
def CH_SECT_CNT (c : Nat) : Nat := 0x200050 + 0x10000 * c
def CH_SECT_CNT_COUNT (c : Nat) : RF := ⟨CH_SECT_CNT c, 0, 32⟩
def CH_FAIL_CNT (c : Nat) : Nat := 0x200054 + 0x10000 * c
def CH_FAIL_CNT_COUNT (c : Nat) : RF := ⟨CH_FAIL_CNT c, 0, 32⟩
def CH_SYNC_MISS_CNT (c : Nat) : Nat := 0x200058 + 0x10000 * c
def CH_SYNC_MISS_CNT_COUNT (c : Nat) : RF := ⟨CH_SYNC_MISS_CNT c, 0, 32⟩
def CH_UNDEC_CNT (c : Nat) : Nat := 0x20005C + 0x10000 * c
def CH_UNDEC_CNT_COUNT (c : Nat) : RF := ⟨CH_UNDEC_CNT c, 0, 32⟩
def CH_LATE_CNT (c : Nat) : Nat := 0x200060 + 0x10000 * c
def CH_LATE_CNT_PA_LATE (c : Nat) : RF := ⟨CH_LATE_CNT c, 0, 8⟩
def CH_EQ_TAP (c : Nat) (n : Nat) : Nat := 0x200100 + 0x10000 * c + 4 * n
def CH_EQ_TAP_COEF (c : Nat) (n : Nat) : RF := ⟨CH_EQ_TAP c n, 0, 10⟩
def CH_ZTA (c : Nat) (z : Nat) : Nat := 0x200200 + 0x10000 * c + 8 * z
def CH_ZTA_RATE (c : Nat) (z : Nat) : RF := ⟨CH_ZTA c z, 0, 13⟩
def CH_ZTA_SPT (c : Nat) (z : Nat) : RF := ⟨CH_ZTA c z, 13, 11⟩
def CH_ZTB (c : Nat) (z : Nat) : Nat := 0x200204 + 0x10000 * c + 8 * z
def CH_ZTB_PC1 (c : Nat) (z : Nat) : RF := ⟨CH_ZTB c z, 0, 5⟩
def CH_ZTB_PC2 (c : Nat) (z : Nat) : RF := ⟨CH_ZTB c z, 5, 5⟩
def CH_ZTB_PC3 (c : Nat) (z : Nat) : RF := ⟨CH_ZTB c z, 10, 5⟩
def CH_PACE (c : Nat) : Nat := 0x207FF0 + 0x10000 * c
def CH_PACE_VALID (c : Nat) : RF := ⟨CH_PACE c, 31, 1⟩
def CH_PACE_BELOW_CNT (c : Nat) : RF := ⟨CH_PACE c, 16, 8⟩
def CH_PACE_PACE (c : Nat) : RF := ⟨CH_PACE c, 0, 16⟩
def CH_PA_CFG (c : Nat) : Nat := 0x200040 + 0x10000 * c
def CH_PA_CFG_SETTLE (c : Nat) : RF := ⟨CH_PA_CFG c, 0, 4⟩
def CH_PA_CMD (c : Nat) : Nat := 0x200044 + 0x10000 * c
def CH_PA_CMD_ADDR (c : Nat) : RF := ⟨CH_PA_CMD c, 0, 7⟩
def CH_PA_CMD_WRITE (c : Nat) : RF := ⟨CH_PA_CMD c, 7, 1⟩
def CH_PA_CMD_GO (c : Nat) : RF := ⟨CH_PA_CMD c, 8, 1⟩
def CH_PA_CMD_BUSY (c : Nat) : RF := ⟨CH_PA_CMD c, 9, 1⟩
def CH_PA_CMD_ERR (c : Nat) : RF := ⟨CH_PA_CMD c, 10, 2⟩
def CH_PA_DATA (c : Nat) : Nat := 0x200048 + 0x10000 * c
def CH_PA_DATA_DATA (c : Nat) : RF := ⟨CH_PA_DATA c, 0, 16⟩
def LD_CTL (c : Nat) : Nat := 0x208000 + 0x10000 * c
def LD_CTL_EN (c : Nat) : RF := ⟨LD_CTL c, 0, 1⟩
def LD_CTL_ENABLE_PENDING (c : Nat) : RF := ⟨LD_CTL c, 1, 1⟩
def LD_CTL_STATE (c : Nat) : RF := ⟨LD_CTL c, 2, 2⟩
def LD_CTL_RUNGS (c : Nat) : RF := ⟨LD_CTL c, 4, 5⟩
def LD_CTL_RECON_AT (c : Nat) : RF := ⟨LD_CTL c, 9, 3⟩
def LD_CTL_REWRITE_AT (c : Nat) : RF := ⟨LD_CTL c, 12, 3⟩
def LD_CTL_TLIM (c : Nat) : RF := ⟨LD_CTL c, 16, 8⟩
def LD_STAT (c : Nat) : Nat := 0x208004 + 0x10000 * c
def LD_STAT_SEED (c : Nat) : RF := ⟨LD_STAT c, 0, 1⟩
def LD_STAT_MISDIRECT (c : Nat) : RF := ⟨LD_STAT c, 1, 1⟩
def LD_STAT_RECON_WON (c : Nat) : RF := ⟨LD_STAT c, 2, 1⟩
def LD_STAT_GAVE_UP (c : Nat) : RF := ⟨LD_STAT c, 3, 1⟩
def LD_STAT_LATE (c : Nat) : RF := ⟨LD_STAT c, 4, 1⟩
def LD_STAT_ENCROACH (c : Nat) : RF := ⟨LD_STAT c, 5, 1⟩
def LD_STAT_WG_FAIL (c : Nat) : RF := ⟨LD_STAT c, 6, 1⟩
def LD_STAT_RDR_SUSPECT (c : Nat) : RF := ⟨LD_STAT c, 7, 1⟩
def LD_INT_EN (c : Nat) : Nat := 0x208008 + 0x10000 * c
def LD_INT_EN_SEED (c : Nat) : RF := ⟨LD_INT_EN c, 0, 1⟩
def LD_INT_EN_MISDIRECT (c : Nat) : RF := ⟨LD_INT_EN c, 1, 1⟩
def LD_INT_EN_RECON_WON (c : Nat) : RF := ⟨LD_INT_EN c, 2, 1⟩
def LD_INT_EN_GAVE_UP (c : Nat) : RF := ⟨LD_INT_EN c, 3, 1⟩
def LD_INT_EN_LATE (c : Nat) : RF := ⟨LD_INT_EN c, 4, 1⟩
def LD_INT_EN_ENCROACH (c : Nat) : RF := ⟨LD_INT_EN c, 5, 1⟩
def LD_INT_EN_WG_FAIL (c : Nat) : RF := ⟨LD_INT_EN c, 6, 1⟩
def LD_INT_EN_RDR_SUSPECT (c : Nat) : RF := ⟨LD_INT_EN c, 7, 1⟩
def LD_ACTIVE (c : Nat) : Nat := 0x20800C + 0x10000 * c
def LD_ACTIVE_BUSY (c : Nat) : RF := ⟨LD_ACTIVE c, 0, 2⟩
def LD_ACTIVE_RUNG (c : Nat) : RF := ⟨LD_ACTIVE c, 2, 3⟩
def LD_ACTIVE_TRIAL (c : Nat) : RF := ⟨LD_ACTIVE c, 5, 3⟩
def LD_R1_CFG (c : Nat) : Nat := 0x208010 + 0x10000 * c
def LD_R1_CFG_THRESH (c : Nat) : RF := ⟨LD_R1_CFG c, 0, 3⟩
def LD_R1_CFG_ALL (c : Nat) : RF := ⟨LD_R1_CFG c, 3, 1⟩
def LD_R2_CFG (c : Nat) : Nat := 0x208014 + 0x10000 * c
def LD_R2_CFG_TRIALS (c : Nat) : RF := ⟨LD_R2_CFG c, 0, 4⟩
def LD_R3_CFG (c : Nat) : Nat := 0x208018 + 0x10000 * c
def LD_R3_CFG_TRIALS (c : Nat) : RF := ⟨LD_R3_CFG c, 0, 3⟩
def LD_R3_CFG_MU (c : Nat) : RF := ⟨LD_R3_CFG c, 3, 3⟩
def LD_R4_CFG (c : Nat) : Nat := 0x20801C + 0x10000 * c
def LD_R4_CFG_MAX_ITER (c : Nat) : RF := ⟨LD_R4_CFG c, 0, 7⟩
def LD_R4_CFG_LLR_SCALE (c : Nat) : RF := ⟨LD_R4_CFG c, 7, 2⟩
def LD_R5_CFG (c : Nat) : Nat := 0x208020 + 0x10000 * c
def LD_R5_CFG_COUNT (c : Nat) : RF := ⟨LD_R5_CFG c, 0, 4⟩
def LD_R5_CFG_OFS (c : Nat) : RF := ⟨LD_R5_CFG c, 4, 8⟩
def LD_LAST (c : Nat) : Nat := 0x208030 + 0x10000 * c
def LD_LAST_RESULT (c : Nat) : RF := ⟨LD_LAST c, 0, 3⟩
def LD_LAST_RUNG (c : Nat) : RF := ⟨LD_LAST c, 3, 3⟩
def LD_LAST_TRIAL (c : Nat) : RF := ⟨LD_LAST c, 6, 2⟩
def LD_LAST_OFS (c : Nat) : RF := ⟨LD_LAST c, 8, 5⟩
def LD_LAST_ITER (c : Nat) : RF := ⟨LD_LAST c, 13, 7⟩
def LD_WG_CFG (c : Nat) : Nat := 0x208040 + 0x10000 * c
def LD_WG_CFG_PES_LIM (c : Nat) : RF := ⟨LD_WG_CFG c, 0, 8⟩
def LD_WG_CFG_ENC_LIM (c : Nat) : RF := ⟨LD_WG_CFG c, 8, 8⟩
def LD_WG_CFG_SHOCK_LIM (c : Nat) : RF := ⟨LD_WG_CFG c, 16, 8⟩
def LD_WG_CFG_HOLD (c : Nat) : RF := ⟨LD_WG_CFG c, 24, 4⟩
def LD_WG_CFG_RETRY (c : Nat) : RF := ⟨LD_WG_CFG c, 28, 3⟩
def LD_WG_CFG_VERIFY_ALL (c : Nat) : RF := ⟨LD_WG_CFG c, 31, 1⟩
def LD_VFY_CFG (c : Nat) : Nat := 0x208044 + 0x10000 * c
def LD_VFY_CFG_MAX_ITER (c : Nat) : RF := ⟨LD_VFY_CFG c, 0, 5⟩
def LD_VFY_CFG_RDR_LIM (c : Nat) : RF := ⟨LD_VFY_CFG c, 8, 8⟩
def LD_RECON_CNT (c : Nat) : Nat := 0x208050 + 0x10000 * c
def LD_RECON_CNT_COUNT (c : Nat) : RF := ⟨LD_RECON_CNT c, 0, 32⟩
def LD_GIVEUP_CNT (c : Nat) : Nat := 0x208054 + 0x10000 * c
def LD_GIVEUP_CNT_COUNT (c : Nat) : RF := ⟨LD_GIVEUP_CNT c, 0, 32⟩
def LD_SEED_CNT (c : Nat) : Nat := 0x208058 + 0x10000 * c
def LD_SEED_CNT_COUNT (c : Nat) : RF := ⟨LD_SEED_CNT c, 0, 32⟩
def LD_LATE_CNT (c : Nat) : Nat := 0x20805C + 0x10000 * c
def LD_LATE_CNT_COUNT (c : Nat) : RF := ⟨LD_LATE_CNT c, 0, 32⟩
def LD_RUNG_CNT (c : Nat) (n : Nat) : Nat := 0x208060 + 0x10000 * c + 4 * n
def LD_RUNG_CNT_COUNT (c : Nat) (n : Nat) : RF := ⟨LD_RUNG_CNT c n, 0, 32⟩
def LD_WG_CNT (c : Nat) : Nat := 0x208074 + 0x10000 * c
def LD_WG_CNT_COUNT (c : Nat) : RF := ⟨LD_WG_CNT c, 0, 32⟩
def LD_RDR_CNT (c : Nat) : Nat := 0x208078 + 0x10000 * c
def LD_RDR_CNT_READER0 (c : Nat) : RF := ⟨LD_RDR_CNT c, 0, 16⟩
def LD_RDR_CNT_READER1 (c : Nat) : RF := ⟨LD_RDR_CNT c, 16, 16⟩
def LD_RTAP (c : Nat) (n : Nat) : Nat := 0x208100 + 0x10000 * c + 4 * n
def LD_RTAP_COEF (c : Nat) (n : Nat) : RF := ⟨LD_RTAP c n, 0, 10⟩
def LD_RDR_OFF (c : Nat) : Nat := 0x20807C + 0x10000 * c
def LD_RDR_OFF_OFF0 (c : Nat) : RF := ⟨LD_RDR_OFF c, 0, 12⟩
def LD_RDR_OFF_OFF1 (c : Nat) : RF := ⟨LD_RDR_OFF c, 16, 12⟩
def SV_CTL (a : Nat) : Nat := 0x400000 + 0x10000 * a
def SV_CTL_EN (a : Nat) : RF := ⟨SV_CTL a, 0, 1⟩
def SV_CTL_ENABLE_PENDING (a : Nat) : RF := ⟨SV_CTL a, 1, 1⟩
def SV_CTL_STATE (a : Nat) : RF := ⟨SV_CTL a, 2, 2⟩
def SV_CTL_COEF_HOLD (a : Nat) : RF := ⟨SV_CTL a, 4, 1⟩
def SV_CTL_MA_EN (a : Nat) : RF := ⟨SV_CTL a, 5, 1⟩
def SV_CTL_FF_EN (a : Nat) : RF := ⟨SV_CTL a, 6, 1⟩
def SV_STAT (a : Nat) : Nat := 0x400004 + 0x10000 * a
def SV_STAT_OVR (a : Nat) : RF := ⟨SV_STAT a, 0, 1⟩
def SV_STAT_LATE (a : Nat) : RF := ⟨SV_STAT a, 1, 1⟩
def SV_STAT_WR_WITHDRAWN (a : Nat) : RF := ⟨SV_STAT a, 2, 1⟩
def SV_STAT_FB_LOST (a : Nat) : RF := ⟨SV_STAT a, 3, 1⟩
def SV_STAT_PREDICT (a : Nat) : RF := ⟨SV_STAT a, 4, 1⟩
def SV_STAT_HEAD_LOST (a : Nat) : RF := ⟨SV_STAT a, 5, 1⟩
def SV_STAT_SAT (a : Nat) : RF := ⟨SV_STAT a, 6, 1⟩
def SV_STAT_SPAN_ERR (a : Nat) : RF := ⟨SV_STAT a, 7, 1⟩
def SV_STAT_SETTLE_TMO (a : Nat) : RF := ⟨SV_STAT a, 8, 1⟩
def SV_STAT_OVR_UNLOAD (a : Nat) : RF := ⟨SV_STAT a, 9, 1⟩
def SV_STAT_FB_UNLOAD (a : Nat) : RF := ⟨SV_STAT a, 10, 1⟩
def SV_STAT_LOAD_FAIL (a : Nat) : RF := ⟨SV_STAT a, 11, 1⟩
def SV_STAT_UNLOAD_TMO (a : Nat) : RF := ⟨SV_STAT a, 12, 1⟩
def SV_STAT_DRV_FAULT (a : Nat) : RF := ⟨SV_STAT a, 13, 1⟩
def SV_STAT_ACC_FAIL (a : Nat) : RF := ⟨SV_STAT a, 14, 1⟩
def SV_STAT_COEF_BAD (a : Nat) : RF := ⟨SV_STAT a, 15, 1⟩
def SV_STAT_SEQ_LATE (a : Nat) : RF := ⟨SV_STAT a, 16, 1⟩
def SV_INT_EN (a : Nat) : Nat := 0x400008 + 0x10000 * a
def SV_INT_EN_OVR (a : Nat) : RF := ⟨SV_INT_EN a, 0, 1⟩
def SV_INT_EN_LATE (a : Nat) : RF := ⟨SV_INT_EN a, 1, 1⟩
def SV_INT_EN_WR_WITHDRAWN (a : Nat) : RF := ⟨SV_INT_EN a, 2, 1⟩
def SV_INT_EN_FB_LOST (a : Nat) : RF := ⟨SV_INT_EN a, 3, 1⟩
def SV_INT_EN_PREDICT (a : Nat) : RF := ⟨SV_INT_EN a, 4, 1⟩
def SV_INT_EN_HEAD_LOST (a : Nat) : RF := ⟨SV_INT_EN a, 5, 1⟩
def SV_INT_EN_SAT (a : Nat) : RF := ⟨SV_INT_EN a, 6, 1⟩
def SV_INT_EN_SPAN_ERR (a : Nat) : RF := ⟨SV_INT_EN a, 7, 1⟩
def SV_INT_EN_SETTLE_TMO (a : Nat) : RF := ⟨SV_INT_EN a, 8, 1⟩
def SV_INT_EN_OVR_UNLOAD (a : Nat) : RF := ⟨SV_INT_EN a, 9, 1⟩
def SV_INT_EN_FB_UNLOAD (a : Nat) : RF := ⟨SV_INT_EN a, 10, 1⟩
def SV_INT_EN_LOAD_FAIL (a : Nat) : RF := ⟨SV_INT_EN a, 11, 1⟩
def SV_INT_EN_UNLOAD_TMO (a : Nat) : RF := ⟨SV_INT_EN a, 12, 1⟩
def SV_INT_EN_DRV_FAULT (a : Nat) : RF := ⟨SV_INT_EN a, 13, 1⟩
def SV_INT_EN_ACC_FAIL (a : Nat) : RF := ⟨SV_INT_EN a, 14, 1⟩
def SV_INT_EN_COEF_BAD (a : Nat) : RF := ⟨SV_INT_EN a, 15, 1⟩
def SV_INT_EN_SEQ_LATE (a : Nat) : RF := ⟨SV_INT_EN a, 16, 1⟩
def SV_MODE (a : Nat) : Nat := 0x40000C + 0x10000 * a
def SV_MODE_ASTATE (a : Nat) : RF := ⟨SV_MODE a, 0, 4⟩
def SV_MODE_UNLOAD_CAUSE (a : Nat) : RF := ⟨SV_MODE a, 4, 4⟩
def SV_MODE_LOAD_PENDING (a : Nat) : RF := ⟨SV_MODE a, 8, 1⟩
def SV_MODE_OVR_RUN (a : Nat) : RF := ⟨SV_MODE a, 9, 2⟩
def SV_MODE_PRED_RUN (a : Nat) : RF := ⟨SV_MODE a, 11, 3⟩
def SV_CMD (a : Nat) : Nat := 0x400010 + 0x10000 * a
def SV_CMD_OP (a : Nat) : RF := ⟨SV_CMD a, 0, 4⟩
def SV_CMD_ERR (a : Nat) : RF := ⟨SV_CMD a, 4, 3⟩
def SV_TARGET (a : Nat) : Nat := 0x400014 + 0x10000 * a
def SV_TARGET_TRACK (a : Nat) : RF := ⟨SV_TARGET a, 0, 20⟩
def SV_POS (a : Nat) : Nat := 0x400018 + 0x10000 * a
def SV_POS_TRACK (a : Nat) : RF := ⟨SV_POS a, 0, 20⟩
def SV_POS_WEDGE (a : Nat) : RF := ⟨SV_POS a, 20, 9⟩
def SV_HEADS (a : Nat) : Nat := 0x40001C + 0x10000 * a
def SV_HEADS_HEAD (a : Nat) : RF := ⟨SV_HEADS a, 0, 16⟩
def SV_HEADS_VALID (a : Nat) : RF := ⟨SV_HEADS a, 16, 4⟩
def SV_HEADS_LOST (a : Nat) : RF := ⟨SV_HEADS a, 20, 4⟩
def SV_HEADS_WR_OK (a : Nat) : RF := ⟨SV_HEADS a, 24, 4⟩
def SV_HEADS_RD_OK (a : Nat) : RF := ⟨SV_HEADS a, 28, 4⟩
def SV_PES (a : Nat) : Nat := 0x400020 + 0x10000 * a
def SV_PES_PES (a : Nat) : RF := ⟨SV_PES a, 0, 32⟩
def SV_SETTLE (a : Nat) : Nat := 0x400024 + 0x10000 * a
def SV_SETTLE_RD_WIN (a : Nat) : RF := ⟨SV_SETTLE a, 0, 8⟩
def SV_SETTLE_RD_CNT (a : Nat) : RF := ⟨SV_SETTLE a, 8, 4⟩
def SV_SETTLE_WR_WIN (a : Nat) : RF := ⟨SV_SETTLE a, 12, 8⟩
def SV_SETTLE_WR_CNT (a : Nat) : RF := ⟨SV_SETTLE a, 20, 4⟩
def SV_SEEK_CFG (a : Nat) : Nat := 0x400028 + 0x10000 * a
def SV_SEEK_CFG_IMAX (a : Nat) : RF := ⟨SV_SEEK_CFG a, 0, 8⟩
def SV_SEEK_CFG_VMAX (a : Nat) : RF := ⟨SV_SEEK_CFG a, 8, 12⟩
def SV_SEEK_CFG_MA_SPAN (a : Nat) : RF := ⟨SV_SEEK_CFG a, 20, 5⟩
def SV_LIM (a : Nat) : Nat := 0x40002C + 0x10000 * a
def SV_LIM_VCM_ILIM (a : Nat) : RF := ⟨SV_LIM a, 0, 16⟩
def SV_LIM_MA_VLIM (a : Nat) : RF := ⟨SV_LIM a, 16, 8⟩
def SV_FB_CFG (a : Nat) : Nat := 0x400030 + 0x10000 * a
def SV_FB_CFG_PRED_MAX (a : Nat) : RF := ⟨SV_FB_CFG a, 0, 3⟩
def SV_FB_CFG_SAM_WIN (a : Nat) : RF := ⟨SV_FB_CFG a, 3, 8⟩
def SV_FB_CFG_CHEV_MIN (a : Nat) : RF := ⟨SV_FB_CFG a, 11, 7⟩
def SV_UNLOAD (a : Nat) : Nat := 0x400034 + 0x10000 * a
def SV_UNLOAD_VEL (a : Nat) : RF := ⟨SV_UNLOAD a, 0, 8⟩
def SV_UNLOAD_LVEL (a : Nat) : RF := ⟨SV_UNLOAD a, 8, 8⟩
def SV_UNLOAD_TMO (a : Nat) : RF := ⟨SV_UNLOAD a, 16, 8⟩
def SV_UNLOAD_LOAD_TMO (a : Nat) : RF := ⟨SV_UNLOAD a, 24, 8⟩
def SV_BEMF (a : Nat) : Nat := 0x400038 + 0x10000 * a
def SV_BEMF_RCOIL (a : Nat) : RF := ⟨SV_BEMF a, 0, 16⟩
def SV_BEMF_KB (a : Nat) : RF := ⟨SV_BEMF a, 16, 16⟩
def SV_RC_CTL (a : Nat) : Nat := 0x40003C + 0x10000 * a
def SV_RC_CTL_LEARN (a : Nat) : RF := ⟨SV_RC_CTL a, 0, 1⟩
def SV_RC_CTL_APPLY (a : Nat) : RF := ⟨SV_RC_CTL a, 1, 1⟩
def SV_RC_CTL_GAIN (a : Nat) : RF := ⟨SV_RC_CTL a, 2, 4⟩
def SV_RC_CTL_FORGET (a : Nat) : RF := ⟨SV_RC_CTL a, 6, 4⟩
def SV_RC_CTL_LEAD (a : Nat) : RF := ⟨SV_RC_CTL a, 10, 5⟩
def SV_RC_CTL_CLEAR (a : Nat) : RF := ⟨SV_RC_CTL a, 15, 1⟩
def SV_RC_ADDR (a : Nat) : Nat := 0x400040 + 0x10000 * a
def SV_RC_ADDR_WEDGE (a : Nat) : RF := ⟨SV_RC_ADDR a, 0, 9⟩
def SV_RC_ADDR_TABLE (a : Nat) : RF := ⟨SV_RC_ADDR a, 9, 4⟩
def SV_RC_DATA (a : Nat) : Nat := 0x400044 + 0x10000 * a
def SV_RC_DATA_VALUE (a : Nat) : RF := ⟨SV_RC_DATA a, 0, 16⟩
def SV_TSI_CTL (a : Nat) : Nat := 0x400048 + 0x10000 * a
def SV_TSI_CTL_EN (a : Nat) : RF := ⟨SV_TSI_CTL a, 0, 1⟩
def SV_TSI_CTL_POINT (a : Nat) : RF := ⟨SV_TSI_CTL a, 1, 2⟩
def SV_TSI_CTL_SLOT (a : Nat) : RF := ⟨SV_TSI_CTL a, 3, 2⟩
def SV_TSI_CTL_AMP (a : Nat) : RF := ⟨SV_TSI_CTL a, 16, 16⟩
def SV_TSI_FREQ (a : Nat) : Nat := 0x40004C + 0x10000 * a
def SV_TSI_FREQ_FREQ (a : Nat) : RF := ⟨SV_TSI_FREQ a, 0, 32⟩
def SV_CAP_CTL (a : Nat) : Nat := 0x400050 + 0x10000 * a
def SV_CAP_CTL_SEL0 (a : Nat) : RF := ⟨SV_CAP_CTL a, 0, 4⟩
def SV_CAP_CTL_SEL1 (a : Nat) : RF := ⟨SV_CAP_CTL a, 4, 4⟩
def SV_CAP_CTL_MODE (a : Nat) : RF := ⟨SV_CAP_CTL a, 8, 2⟩
def SV_CAP_CTL_ARM (a : Nat) : RF := ⟨SV_CAP_CTL a, 10, 1⟩
def SV_CAP_CTL_DONE (a : Nat) : RF := ⟨SV_CAP_CTL a, 11, 1⟩
def SV_CAP_CTL_POST (a : Nat) : RF := ⟨SV_CAP_CTL a, 12, 12⟩
def SV_CAP_ADDR (a : Nat) : Nat := 0x400054 + 0x10000 * a
def SV_CAP_ADDR_INDEX (a : Nat) : RF := ⟨SV_CAP_ADDR a, 0, 12⟩
def SV_CAP_ADDR_LAST (a : Nat) : RF := ⟨SV_CAP_ADDR a, 16, 12⟩
def SV_CAP_DATA (a : Nat) : Nat := 0x400058 + 0x10000 * a
def SV_CAP_DATA_SIG0 (a : Nat) : RF := ⟨SV_CAP_DATA a, 0, 16⟩
def SV_CAP_DATA_SIG1 (a : Nat) : RF := ⟨SV_CAP_DATA a, 16, 16⟩
def SV_SAT (a : Nat) : Nat := 0x40005C + 0x10000 * a
def SV_SAT_VCM_OUT (a : Nat) : RF := ⟨SV_SAT a, 0, 1⟩
def SV_SAT_VCM_STATE (a : Nat) : RF := ⟨SV_SAT a, 1, 1⟩
def SV_SAT_MA_OUT (a : Nat) : RF := ⟨SV_SAT a, 2, 4⟩
def SV_SAT_MA_STATE (a : Nat) : RF := ⟨SV_SAT a, 6, 4⟩
def SV_SAT_RC (a : Nat) : RF := ⟨SV_SAT a, 10, 1⟩
def SV_SAT_FF (a : Nat) : RF := ⟨SV_SAT a, 11, 1⟩
def SV_OVR_CNT (a : Nat) : Nat := 0x400060 + 0x10000 * a
def SV_OVR_CNT_COUNT (a : Nat) : RF := ⟨SV_OVR_CNT a, 0, 32⟩
def SV_LATE_CNT (a : Nat) : Nat := 0x400064 + 0x10000 * a
def SV_LATE_CNT_COUNT (a : Nat) : RF := ⟨SV_LATE_CNT a, 0, 32⟩
def SV_FBL_CNT (a : Nat) : Nat := 0x400068 + 0x10000 * a
def SV_FBL_CNT_COUNT (a : Nat) : RF := ⟨SV_FBL_CNT a, 0, 32⟩
def SV_TIMING (a : Nat) : Nat := 0x40006C + 0x10000 * a
def SV_TIMING_LAST (a : Nat) : RF := ⟨SV_TIMING a, 0, 14⟩
def SV_TIMING_MAX (a : Nat) : RF := ⟨SV_TIMING a, 16, 14⟩
def SV_SEQ_LATE_CNT (a : Nat) : Nat := 0x400074 + 0x10000 * a
def SV_SEQ_LATE_CNT_LOAD (a : Nat) : RF := ⟨SV_SEQ_LATE_CNT a, 0, 8⟩
def SV_SEQ_LATE_CNT_UNLOAD (a : Nat) : RF := ⟨SV_SEQ_LATE_CNT a, 8, 8⟩
def SV_SEQ_LATE_CNT_SETTLE (a : Nat) : RF := ⟨SV_SEQ_LATE_CNT a, 16, 8⟩
def SV_HOFS (a : Nat) (n : Nat) : Nat := 0x400080 + 0x10000 * a + 4 * n
def SV_HOFS_OFS (a : Nat) (n : Nat) : RF := ⟨SV_HOFS a n, 0, 16⟩
def SV_COEF (a : Nat) (k : Nat) : Nat := 0x400100 + 0x10000 * a + 4 * k
def SV_COEF_MANT (a : Nat) (k : Nat) : RF := ⟨SV_COEF a k, 0, 24⟩
def SV_COEF_EXP (a : Nat) (k : Nat) : RF := ⟨SV_COEF a k, 24, 6⟩
def SV_PACE (a : Nat) : Nat := 0x407FF0 + 0x10000 * a
def SV_PACE_VALID (a : Nat) : RF := ⟨SV_PACE a, 31, 1⟩
def SV_PACE_BELOW_CNT (a : Nat) : RF := ⟨SV_PACE a, 16, 8⟩
def SV_PACE_PACE (a : Nat) : RF := ⟨SV_PACE a, 0, 16⟩
def SV_ACC (a : Nat) : Nat := 0x400070 + 0x10000 * a
def SV_ACC_PEAK0 (a : Nat) : RF := ⟨SV_ACC a, 0, 9⟩
def SV_ACC_PEAK1 (a : Nat) : RF := ⟨SV_ACC a, 9, 9⟩
def SV_ACC_FAIL0 (a : Nat) : RF := ⟨SV_ACC a, 18, 1⟩
def SV_ACC_FAIL1 (a : Nat) : RF := ⟨SV_ACC a, 19, 1⟩
def SP_CTL (s : Nat) : Nat := 0x480000 + 0x10000 * s
def SP_CTL_EN (s : Nat) : RF := ⟨SP_CTL s, 0, 1⟩
def SP_CTL_ENABLE_PENDING (s : Nat) : RF := ⟨SP_CTL s, 1, 1⟩
def SP_CTL_STATE (s : Nat) : RF := ⟨SP_CTL s, 2, 2⟩
def SP_STAT (s : Nat) : Nat := 0x480004 + 0x10000 * s
def SP_STAT_OBS_LOST (s : Nat) : RF := ⟨SP_STAT s, 0, 1⟩
def SP_STAT_REACQ_FAIL (s : Nat) : RF := ⟨SP_STAT s, 1, 1⟩
def SP_STAT_CHOP_FAULT (s : Nat) : RF := ⟨SP_STAT s, 2, 1⟩
def SP_STAT_SHORT_FORCED (s : Nat) : RF := ⟨SP_STAT s, 3, 1⟩
def SP_STAT_SPINUP_FAIL (s : Nat) : RF := ⟨SP_STAT s, 4, 1⟩
def SP_STAT_DEPTH_TIGHT (s : Nat) : RF := ⟨SP_STAT s, 5, 1⟩
def SP_STAT_SAMPLE_FAIL (s : Nat) : RF := ⟨SP_STAT s, 6, 1⟩
def SP_STAT_OC (s : Nat) : RF := ⟨SP_STAT s, 7, 1⟩
def SP_STAT_OVERSPEED (s : Nat) : RF := ⟨SP_STAT s, 8, 1⟩
def SP_STAT_REG_LOST (s : Nat) : RF := ⟨SP_STAT s, 9, 1⟩
def SP_STAT_PWM_LATE (s : Nat) : RF := ⟨SP_STAT s, 10, 1⟩
def SP_STAT_CHOP_LATE (s : Nat) : RF := ⟨SP_STAT s, 11, 1⟩
def SP_STAT_ACQ_LATE (s : Nat) : RF := ⟨SP_STAT s, 12, 1⟩
def SP_STAT_SPINUP_LATE (s : Nat) : RF := ⟨SP_STAT s, 13, 1⟩
def SP_STAT_MOTOR_BAD (s : Nat) : RF := ⟨SP_STAT s, 14, 1⟩
def SP_INT_EN (s : Nat) : Nat := 0x480008 + 0x10000 * s
def SP_INT_EN_OBS_LOST (s : Nat) : RF := ⟨SP_INT_EN s, 0, 1⟩
def SP_INT_EN_REACQ_FAIL (s : Nat) : RF := ⟨SP_INT_EN s, 1, 1⟩
def SP_INT_EN_CHOP_FAULT (s : Nat) : RF := ⟨SP_INT_EN s, 2, 1⟩
def SP_INT_EN_SHORT_FORCED (s : Nat) : RF := ⟨SP_INT_EN s, 3, 1⟩
def SP_INT_EN_SPINUP_FAIL (s : Nat) : RF := ⟨SP_INT_EN s, 4, 1⟩
def SP_INT_EN_DEPTH_TIGHT (s : Nat) : RF := ⟨SP_INT_EN s, 5, 1⟩
def SP_INT_EN_SAMPLE_FAIL (s : Nat) : RF := ⟨SP_INT_EN s, 6, 1⟩
def SP_INT_EN_OC (s : Nat) : RF := ⟨SP_INT_EN s, 7, 1⟩
def SP_INT_EN_OVERSPEED (s : Nat) : RF := ⟨SP_INT_EN s, 8, 1⟩
def SP_INT_EN_REG_LOST (s : Nat) : RF := ⟨SP_INT_EN s, 9, 1⟩
def SP_INT_EN_PWM_LATE (s : Nat) : RF := ⟨SP_INT_EN s, 10, 1⟩
def SP_INT_EN_CHOP_LATE (s : Nat) : RF := ⟨SP_INT_EN s, 11, 1⟩
def SP_INT_EN_ACQ_LATE (s : Nat) : RF := ⟨SP_INT_EN s, 12, 1⟩
def SP_INT_EN_SPINUP_LATE (s : Nat) : RF := ⟨SP_INT_EN s, 13, 1⟩
def SP_INT_EN_MOTOR_BAD (s : Nat) : RF := ⟨SP_INT_EN s, 14, 1⟩
def SP_MODE (s : Nat) : Nat := 0x48000C + 0x10000 * s
def SP_MODE_PHASE (s : Nat) : RF := ⟨SP_MODE s, 0, 4⟩
def SP_MODE_REG (s : Nat) : RF := ⟨SP_MODE s, 4, 1⟩
def SP_MODE_DEPTH_LIM (s : Nat) : RF := ⟨SP_MODE s, 5, 9⟩
def SP_MODE_START_TRY (s : Nat) : RF := ⟨SP_MODE s, 14, 2⟩
def SP_MODE_PRED_RUN (s : Nat) : RF := ⟨SP_MODE s, 16, 5⟩
def SP_CMD (s : Nat) : Nat := 0x480010 + 0x10000 * s
def SP_CMD_OP (s : Nat) : RF := ⟨SP_CMD s, 0, 4⟩
def SP_CMD_ERR (s : Nat) : RF := ⟨SP_CMD s, 4, 3⟩
def SP_SET (s : Nat) : Nat := 0x480014 + 0x10000 * s
def SP_SET_RPM (s : Nat) : RF := ⟨SP_SET s, 0, 13⟩
def SP_SPEED (s : Nat) : Nat := 0x480018 + 0x10000 * s
def SP_SPEED_MEAS (s : Nat) : RF := ⟨SP_SPEED s, 0, 16⟩
def SP_SPEED_SRC (s : Nat) : RF := ⟨SP_SPEED s, 16, 1⟩
def SP_BUS (s : Nat) : Nat := 0x48001C + 0x10000 * s
def SP_BUS_VBUS (s : Nat) : RF := ⟨SP_BUS s, 0, 11⟩
def SP_BUS_CHOP_ON (s : Nat) : RF := ⟨SP_BUS s, 11, 1⟩
def SP_BUS_SHORT_FORCED (s : Nat) : RF := ⟨SP_BUS s, 12, 1⟩
def SP_CURR (s : Nat) : Nat := 0x480020 + 0x10000 * s
def SP_CURR_IA (s : Nat) : RF := ⟨SP_CURR s, 0, 16⟩
def SP_CURR_IB (s : Nat) : RF := ⟨SP_CURR s, 16, 16⟩
def SP_MOTOR (s : Nat) : Nat := 0x480024 + 0x10000 * s
def SP_MOTOR_POLES (s : Nat) : RF := ⟨SP_MOTOR s, 0, 4⟩
def SP_MOTOR_KE (s : Nat) : RF := ⟨SP_MOTOR s, 4, 11⟩
def SP_MOTOR_RS (s : Nat) : RF := ⟨SP_MOTOR s, 15, 9⟩
def SP_MOTOR_LS (s : Nat) : RF := ⟨SP_MOTOR s, 24, 8⟩
def SP_LIM (s : Nat) : Nat := 0x480028 + 0x10000 * s
def SP_LIM_IACC (s : Nat) : RF := ⟨SP_LIM s, 0, 8⟩
def SP_LIM_ILIM (s : Nat) : RF := ⟨SP_LIM s, 8, 8⟩
def SP_LIM_OVS (s : Nat) : RF := ⟨SP_LIM s, 16, 13⟩
def SP_REG_CFG (s : Nat) : Nat := 0x48002C + 0x10000 * s
def SP_REG_CFG_KP (s : Nat) : RF := ⟨SP_REG_CFG s, 0, 4⟩
def SP_REG_CFG_KI (s : Nat) : RF := ⟨SP_REG_CFG s, 4, 4⟩
def SP_REG_CFG_REG_WIN (s : Nat) : RF := ⟨SP_REG_CFG s, 8, 8⟩
def SP_REG_CFG_DROP_WIN (s : Nat) : RF := ⟨SP_REG_CFG s, 16, 8⟩
def SP_PWM_CFG (s : Nat) : Nat := 0x480030 + 0x10000 * s
def SP_PWM_CFG_DEPTH_MAX (s : Nat) : RF := ⟨SP_PWM_CFG s, 0, 9⟩
def SP_PWM_CFG_DEPTH_FLOOR (s : Nat) : RF := ⟨SP_PWM_CFG s, 9, 9⟩
def SP_PWM_CFG_STEP (s : Nat) : RF := ⟨SP_PWM_CFG s, 18, 4⟩
def SP_PWM_CFG_TMIN (s : Nat) : RF := ⟨SP_PWM_CFG s, 22, 7⟩
def SP_OBS_CFG (s : Nat) : Nat := 0x480034 + 0x10000 * s
def SP_OBS_CFG_LOSS_TH (s : Nat) : RF := ⟨SP_OBS_CFG s, 0, 8⟩
def SP_OBS_CFG_LOSS_CNT (s : Nat) : RF := ⟨SP_OBS_CFG s, 8, 4⟩
def SP_OBS_CFG_ACQ_TMO (s : Nat) : RF := ⟨SP_OBS_CFG s, 12, 8⟩
def SP_OBS_CFG_ACQ_XINGS (s : Nat) : RF := ⟨SP_OBS_CFG s, 20, 3⟩
def SP_BRAKE_CFG (s : Nat) : Nat := 0x480038 + 0x10000 * s
def SP_BRAKE_CFG_VBUS_REG (s : Nat) : RF := ⟨SP_BRAKE_CFG s, 0, 11⟩
def SP_BRAKE_CFG_IDEC (s : Nat) : RF := ⟨SP_BRAKE_CFG s, 11, 8⟩
def SP_BRAKE_CFG_CHOP_TMO (s : Nat) : RF := ⟨SP_BRAKE_CFG s, 19, 8⟩
def SP_BRAKE_CFG_CHOP_IMIN (s : Nat) : RF := ⟨SP_BRAKE_CFG s, 27, 5⟩
def SP_LATE_CNT (s : Nat) : Nat := 0x48003C + 0x10000 * s
def SP_LATE_CNT_PWM (s : Nat) : RF := ⟨SP_LATE_CNT s, 0, 8⟩
def SP_LATE_CNT_CHOP (s : Nat) : RF := ⟨SP_LATE_CNT s, 8, 8⟩
def SP_LATE_CNT_ACQ (s : Nat) : RF := ⟨SP_LATE_CNT s, 16, 8⟩
def SP_LATE_CNT_SPINUP (s : Nat) : RF := ⟨SP_LATE_CNT s, 24, 8⟩
def SP_LOSS_CNT (s : Nat) : Nat := 0x480040 + 0x10000 * s
def SP_LOSS_CNT_LOST (s : Nat) : RF := ⟨SP_LOSS_CNT s, 0, 16⟩
def SP_LOSS_CNT_REACQ (s : Nat) : RF := ⟨SP_LOSS_CNT s, 16, 16⟩
def MC_CTL : Nat := 0x500000
def MC_CTL_EN : RF := ⟨MC_CTL, 0, 1⟩
def MC_CTL_ENABLE_PENDING : RF := ⟨MC_CTL, 1, 1⟩
def MC_CTL_STATE : RF := ⟨MC_CTL, 2, 2⟩
def MC_STAT : Nat := 0x500004
def MC_STAT_FETCH_UE : RF := ⟨MC_STAT, 0, 1⟩
def MC_STAT_TRAP_DOUBLE : RF := ⟨MC_STAT, 1, 1⟩
def MC_STAT_ILLEGAL : RF := ⟨MC_STAT, 2, 1⟩
def MC_STAT_LOAD_OK : RF := ⟨MC_STAT, 3, 1⟩
def MC_STAT_LOAD_BAD : RF := ⟨MC_STAT, 4, 1⟩
def MC_STAT_IMG_UE : RF := ⟨MC_STAT, 5, 1⟩
def MC_INT_EN : Nat := 0x500008
def MC_INT_EN_FETCH_UE : RF := ⟨MC_INT_EN, 0, 1⟩
def MC_INT_EN_TRAP_DOUBLE : RF := ⟨MC_INT_EN, 1, 1⟩
def MC_INT_EN_ILLEGAL : RF := ⟨MC_INT_EN, 2, 1⟩
def MC_INT_EN_LOAD_OK : RF := ⟨MC_INT_EN, 3, 1⟩
def MC_INT_EN_LOAD_BAD : RF := ⟨MC_INT_EN, 4, 1⟩
def MC_INT_EN_IMG_UE : RF := ⟨MC_INT_EN, 5, 1⟩
def MC_CFG : Nat := 0x50000C
def MC_CFG_CUST_CTX : RF := ⟨MC_CFG, 0, 9⟩
def MC_IFV : Nat := 0x500010
def MC_IFV_MINOR : RF := ⟨MC_IFV, 0, 8⟩
def MC_IFV_MAJOR : RF := ⟨MC_IFV, 8, 8⟩
def MC_LOAD : Nat := 0x500014
def MC_LOAD_LOADED : RF := ⟨MC_LOAD, 0, 1⟩
def MC_LOAD_KEYSLOT : RF := ⟨MC_LOAD, 1, 2⟩
def MC_LOAD_ERR : RF := ⟨MC_LOAD, 3, 3⟩
def MC_LOAD_PIECES : RF := ⟨MC_LOAD, 16, 10⟩
def MC_IMG_VER : Nat := 0x500018
def MC_IMG_VER_VER : RF := ⟨MC_IMG_VER, 0, 32⟩
def MC_OCC : Nat := 0x50001C
def MC_OCC_BUSY : RF := ⟨MC_OCC, 0, 9⟩
def MC_OCC_CUST : RF := ⟨MC_OCC, 9, 9⟩
def MC_CTX_SEL : Nat := 0x500020
def MC_CTX_SEL_CTX : RF := ⟨MC_CTX_SEL, 0, 8⟩
def MC_CTX_SEL_SNAP : RF := ⟨MC_CTX_SEL, 8, 1⟩
def MC_CTX_STAT : Nat := 0x500024
def MC_CTX_STAT_STATE : RF := ⟨MC_CTX_STAT, 0, 2⟩
def MC_CTX_STAT_LEVEL : RF := ⟨MC_CTX_STAT, 2, 1⟩
def MC_CTX_STAT_MODE : RF := ⟨MC_CTX_STAT, 3, 1⟩
def MC_CTX_STAT_CUST : RF := ⟨MC_CTX_STAT, 4, 1⟩
def MC_CTX_STAT_OPC : RF := ⟨MC_CTX_STAT, 5, 8⟩
def MC_CTX_STAT_SEQ : RF := ⟨MC_CTX_STAT, 13, 3⟩
def MC_CTX_STAT_UPC : RF := ⟨MC_CTX_STAT, 16, 14⟩
def MC_FRAME (n : Nat) : Nat := 0x500040 + 4 * n
def MC_FRAME_DATA (n : Nat) : RF := ⟨MC_FRAME n, 0, 32⟩
def MC_DISP_ADDR : Nat := 0x500080
def MC_DISP_ADDR_OPC : RF := ⟨MC_DISP_ADDR, 0, 8⟩
def MC_DISP_DATA : Nat := 0x500084
def MC_DISP_DATA_ENTRY : RF := ⟨MC_DISP_DATA, 0, 32⟩
def MC_STORE_ADDR : Nat := 0x500088
def MC_STORE_ADDR_ADDR : RF := ⟨MC_STORE_ADDR, 0, 14⟩
def MC_STORE_ADDR_STORE : RF := ⟨MC_STORE_ADDR, 14, 1⟩
def MC_STORE_ADDR_WORD : RF := ⟨MC_STORE_ADDR, 15, 3⟩
def MC_STORE_DATA : Nat := 0x50008C
def MC_STORE_DATA_DATA : RF := ⟨MC_STORE_DATA, 0, 32⟩
def MC_IMG_BASE_LO : Nat := 0x500090
def MC_IMG_BASE_LO_ADDR : RF := ⟨MC_IMG_BASE_LO, 0, 32⟩
def MC_IMG_BASE_HI : Nat := 0x500094
def MC_IMG_BASE_HI_ADDR : RF := ⟨MC_IMG_BASE_HI, 0, 32⟩
def MC_CUST_BASE_LO : Nat := 0x500098
def MC_CUST_BASE_LO_ADDR : RF := ⟨MC_CUST_BASE_LO, 0, 32⟩
def MC_CUST_BASE_HI : Nat := 0x50009C
def MC_CUST_BASE_HI_ADDR : RF := ⟨MC_CUST_BASE_HI, 0, 32⟩
def MC_CUST_SIZE : Nat := 0x5000A0
def MC_CUST_SIZE_MIB : RF := ⟨MC_CUST_SIZE, 0, 12⟩
def MC_TRAP_CNT : Nat := 0x5000B0
def MC_TRAP_CNT_COUNT : RF := ⟨MC_TRAP_CNT, 0, 32⟩
def MC_DEFER_CNT : Nat := 0x5000B4
def MC_DEFER_CNT_COUNT : RF := ⟨MC_DEFER_CNT, 0, 32⟩
def MC_ILLEGAL_CNT : Nat := 0x5000B8
def MC_ILLEGAL_CNT_COUNT : RF := ⟨MC_ILLEGAL_CNT, 0, 32⟩
def MC_UE_CNT : Nat := 0x5000BC
def MC_UE_CNT_COUNT : RF := ⟨MC_UE_CNT, 0, 32⟩
def MC_PACE : Nat := 0x507FF0
def MC_PACE_VALID : RF := ⟨MC_PACE, 31, 1⟩
def MC_PACE_BELOW_CNT : RF := ⟨MC_PACE, 16, 8⟩
def MC_PACE_PACE : RF := ⟨MC_PACE, 0, 16⟩

/-- The register table, part 1 of 19: base, block count and stride, entry count and stride, fields. -/
def rows0 : List RegDesc := [
  ⟨0x0, 1, 0x1000000, 1, 4, [⟨0, 1, .ro, 0x0⟩, ⟨1, 2, .ro, 0x0⟩, ⟨3, 7, .ro, 0x0⟩]⟩, -- MD_ID
  ⟨0x4, 1, 0x1000000, 1, 4, [⟨0, 3, .ro, 0x1⟩, ⟨3, 3, .ro, 0x0⟩, ⟨6, 2, .ro, 0x0⟩, ⟨8, 1, .ro, 0x0⟩]⟩, -- MD_MODE
  ⟨0x8, 1, 0x1000000, 1, 4, [⟨0, 4, .wo, 0x0⟩, ⟨4, 3, .ro, 0x0⟩]⟩, -- MD_CMD
  ⟨0xC, 1, 0x1000000, 1, 4, [⟨0, 1, .rwl, 0x0⟩]⟩, -- MD_LOCK
  ⟨0x10, 1, 0x1000000, 1, 4, [⟨0, 1, .w1c, 0x0⟩, ⟨1, 1, .w1c, 0x0⟩, ⟨2, 1, .w1c, 0x0⟩, ⟨3, 1, .w1c, 0x0⟩, ⟨4, 1, .w1c, 0x0⟩, ⟨5, 1, .w1c, 0x0⟩]⟩, -- MD_STAT
  ⟨0x14, 1, 0x1000000, 1, 4, [⟨0, 1, .rw, 0x0⟩, ⟨1, 1, .rw, 0x0⟩, ⟨2, 1, .rw, 0x0⟩, ⟨3, 1, .rw, 0x0⟩, ⟨4, 1, .rw, 0x0⟩, ⟨5, 1, .rw, 0x0⟩]⟩, -- MD_INT_EN
  ⟨0x18, 1, 0x1000000, 1, 4, [⟨0, 2, .ro, 0x0⟩, ⟨2, 1, .ro, 0x0⟩, ⟨3, 1, .wo, 0x0⟩, ⟨4, 1, .ro, 0x0⟩]⟩, -- MD_TB
  ⟨0x1C, 1, 0x1000000, 1, 4, [⟨0, 32, .ro, 0x0⟩]⟩, -- MD_TIME_LO
  ⟨0x20, 1, 0x1000000, 1, 4, [⟨0, 32, .ro, 0x0⟩]⟩, -- MD_TIME_HI
  ⟨0x24, 1, 0x1000000, 1, 4, [⟨0, 1, .rw, 0x0⟩, ⟨1, 1, .rwl, 0x0⟩]⟩, -- MD_IDLE_CTL
  ⟨0x28, 1, 0x1000000, 1, 4, [⟨0, 4, .rw, 0x0⟩, ⟨4, 2, .rw, 0x0⟩, ⟨8, 24, .rw, 0x32⟩]⟩, -- MD_IDLE_CFG
  ⟨0x2C, 1, 0x1000000, 1, 4, [⟨0, 3, .ro, 0x0⟩, ⟨3, 3, .ro, 0x0⟩, ⟨6, 1, .ro, 0x0⟩, ⟨7, 1, .ro, 0x0⟩, ⟨8, 4, .ro, 0x0⟩]⟩, -- MD_IDLE_STAT
  ⟨0x30, 1, 0x1000000, 1, 4, [⟨0, 32, .rwl, 0x0⟩]⟩, -- MD_SAVE_BASE_LO
  ⟨0x34, 1, 0x1000000, 1, 4, [⟨0, 32, .rwl, 0x0⟩]⟩, -- MD_SAVE_BASE_HI
  ⟨0x38, 1, 0x1000000, 1, 4, [⟨0, 32, .ro, 0x0⟩]⟩, -- MD_REST_CNT
  ⟨0x3C, 1, 0x1000000, 1, 4, [⟨0, 32, .rc, 0x0⟩]⟩, -- MD_PEND_CNT
  ⟨0x40, 1, 0x1000000, 1, 4, [⟨0, 32, .ro, 0x1F4⟩]⟩, -- MD_EXIT_LAT n=0
  ⟨0x44, 1, 0x1000000, 1, 4, [⟨0, 32, .ro, 0x3D090⟩]⟩, -- MD_EXIT_LAT n=1
  ⟨0x48, 1, 0x1000000, 1, 4, [⟨0, 32, .ro, 0x3D0900⟩]⟩, -- MD_EXIT_LAT n=2
  ⟨0x4C, 1, 0x1000000, 1, 4, [⟨0, 32, .ro, 0x112A880⟩]⟩, -- MD_EXIT_LAT n=3
  ⟨0x10000, 1, 0x1000000, 1, 4, [⟨0, 1, .w1c, 0x0⟩, ⟨1, 1, .w1c, 0x0⟩, ⟨2, 1, .w1c, 0x0⟩, ⟨3, 1, .w1c, 0x0⟩, ⟨4, 1, .w1c, 0x0⟩]⟩, -- BT_STAT
  ⟨0x10004, 1, 0x1000000, 1, 4, [⟨0, 1, .rw, 0x0⟩, ⟨1, 1, .rw, 0x0⟩, ⟨2, 1, .rw, 0x0⟩, ⟨3, 1, .rw, 0x0⟩, ⟨4, 1, .rw, 0x0⟩]⟩, -- BT_INT_EN
  ⟨0x10008, 1, 0x1000000, 1, 4, [⟨0, 4, .wo, 0x0⟩, ⟨4, 3, .ro, 0x0⟩, ⟨7, 1, .ro, 0x0⟩]⟩, -- BT_CMD
  ⟨0x1000C, 1, 0x1000000, 1, 4, [⟨0, 2, .ro, 0x0⟩, ⟨2, 1, .ro, 0x0⟩, ⟨3, 1, .ro, 0x0⟩, ⟨4, 3, .ro, 0x0⟩, ⟨7, 1, .ro, 0x0⟩]⟩ -- BT_BOOT
]

/-- The register table, part 2 of 19: base, block count and stride, entry count and stride, fields. -/
def rows1 : List RegDesc := [
  ⟨0x10010, 1, 0x1000000, 1, 4, [⟨0, 7, .ro, 0x0⟩, ⟨8, 7, .ro, 0x0⟩, ⟨15, 1, .ro, 0x0⟩, ⟨16, 1, .ro, 0x0⟩]⟩, -- BT_SVN
  ⟨0x10014, 1, 0x1000000, 1, 4, [⟨0, 1, .ro, 0x0⟩, ⟨1, 1, .ro, 0x0⟩, ⟨2, 3, .ro, 0x0⟩, ⟨8, 12, .ro, 0x0⟩]⟩, -- BT_STG
  ⟨0x10018, 1, 0x1000000, 1, 4, [⟨0, 2, .rw, 0x0⟩, ⟨4, 4, .ro, 0x0⟩]⟩, -- BT_GATE
  ⟨0x1001C, 1, 0x1000000, 1, 4, [⟨0, 32, .rw, 0x0⟩]⟩, -- BT_GATE_DST_LO
  ⟨0x10034, 1, 0x1000000, 1, 4, [⟨0, 32, .rw, 0x0⟩]⟩, -- BT_GATE_DST_HI
  ⟨0x10020, 1, 0x1000000, 1, 4, [⟨0, 32, .ro, 0x0⟩]⟩, -- BT_ATT
  ⟨0x10024, 1, 0x1000000, 1, 4, [⟨0, 13, .rw, 0x0⟩, ⟨13, 1, .rw, 0x0⟩]⟩, -- BT_SIG_ADDR
  ⟨0x10028, 1, 0x1000000, 1, 4, [⟨0, 32, .ro, 0x0⟩]⟩, -- BT_SIG_DATA
  ⟨0x1002C, 1, 0x1000000, 1, 4, [⟨0, 4, .ro, 0x0⟩]⟩, -- BT_KEYS
  ⟨0x10030, 1, 0x1000000, 1, 4, [⟨0, 32, .rc, 0x0⟩]⟩, -- BT_LATE_CNT
  ⟨0x10040, 1, 0x1000000, 4, 4, [⟨0, 32, .ro, 0x0⟩]⟩, -- BT_UID
  ⟨0x10060, 1, 0x1000000, 8, 4, [⟨0, 32, .ro, 0x0⟩]⟩, -- BT_DPK
  ⟨0x10100, 1, 0x1000000, 8, 4, [⟨0, 32, .ro, 0x0⟩]⟩, -- BT_MFW
  ⟨0x10120, 1, 0x1000000, 8, 4, [⟨0, 32, .ro, 0x0⟩]⟩, -- BT_MCUST
  ⟨0x10140, 1, 0x1000000, 8, 4, [⟨0, 32, .ro, 0x0⟩]⟩, -- BT_MKEY
  ⟨0x20000, 1, 0x1000000, 1, 4, [⟨0, 1, .w1c, 0x0⟩, ⟨1, 1, .w1c, 0x0⟩, ⟨2, 1, .w1c, 0x0⟩, ⟨3, 1, .w1c, 0x0⟩, ⟨4, 1, .w1c, 0x0⟩, ⟨5, 1, .w1c, 0x0⟩, ⟨6, 1, .w1c, 0x0⟩, ⟨7, 1, .w1c, 0x0⟩, ⟨8, 1, .w1c, 0x0⟩, ⟨9, 1, .w1c, 0x0⟩, ⟨10, 1, .w1c, 0x0⟩, ⟨11, 1, .w1c, 0x0⟩, ⟨12, 1, .w1c, 0x0⟩, ⟨13, 1, .w1c, 0x0⟩]⟩, -- PW_STAT
  ⟨0x20004, 1, 0x1000000, 1, 4, [⟨0, 1, .rw, 0x0⟩, ⟨1, 1, .rw, 0x0⟩, ⟨2, 1, .rw, 0x0⟩, ⟨3, 1, .rw, 0x0⟩, ⟨4, 1, .rw, 0x0⟩, ⟨5, 1, .rw, 0x0⟩, ⟨6, 1, .rw, 0x0⟩, ⟨7, 1, .rw, 0x0⟩, ⟨8, 1, .rw, 0x0⟩, ⟨9, 1, .rw, 0x0⟩, ⟨10, 1, .rw, 0x0⟩, ⟨11, 1, .rw, 0x0⟩, ⟨12, 1, .rw, 0x0⟩, ⟨13, 1, .rw, 0x0⟩]⟩, -- PW_INT_EN
  ⟨0x20008, 1, 0x1000000, 1, 4, [⟨0, 1, .rw, 0x1⟩]⟩, -- PW_CFG
  ⟨0x2000C, 1, 0x1000000, 1, 4, [⟨0, 4, .wo, 0x0⟩, ⟨4, 3, .ro, 0x0⟩, ⟨7, 1, .ro, 0x0⟩]⟩, -- PW_CMD
  ⟨0x20010, 1, 0x1000000, 1, 4, [⟨0, 11, .ro, 0x0⟩, ⟨11, 1, .ro, 0x0⟩, ⟨16, 11, .ro, 0x0⟩, ⟨27, 1, .ro, 0x0⟩]⟩, -- PW_FEED
  ⟨0x20014, 1, 0x1000000, 1, 4, [⟨0, 3, .ro, 0x1⟩, ⟨3, 3, .ro, 0x0⟩, ⟨6, 1, .ro, 0x0⟩, ⟨7, 1, .ro, 0x0⟩]⟩, -- PW_CHAIN
  ⟨0x20018, 1, 0x1000000, 1, 4, [⟨0, 6, .rw, 0x18⟩]⟩, -- PW_GOV
  ⟨0x2001C, 1, 0x1000000, 1, 4, [⟨0, 10, .ro, 0x2D0⟩, ⟨16, 10, .ro, 0x0⟩, ⟨26, 1, .ro, 0x0⟩]⟩, -- PW_CORE
  ⟨0x20020, 1, 0x1000000, 1, 4, [⟨0, 9, .ro, 0x0⟩, ⟨9, 1, .ro, 0x0⟩, ⟨10, 1, .ro, 0x0⟩, ⟨16, 16, .ro, 0x0⟩]⟩ -- PW_HOLDUP
]

/-- The register table, part 3 of 19: base, block count and stride, entry count and stride, fields. -/
def rows2 : List RegDesc := [
  ⟨0x20024, 1, 0x1000000, 1, 4, [⟨0, 2, .ro, 0x0⟩, ⟨2, 1, .ro, 0x0⟩, ⟨4, 10, .ro, 0x0⟩, ⟨16, 16, .ro, 0x0⟩]⟩, -- PW_TEST
  ⟨0x20028, 1, 0x1000000, 1, 4, [⟨0, 8, .rc, 0x0⟩, ⟨8, 8, .rc, 0x0⟩, ⟨16, 8, .rc, 0x0⟩]⟩, -- PW_LATE_CNT
  ⟨0x2002C, 1, 0x1000000, 1, 4, [⟨0, 16, .ro, 0x0⟩, ⟨16, 16, .ro, 0x0⟩]⟩, -- PW_SW_CNT
  ⟨0x20100, 1, 0x1000000, 1, 4, [⟨0, 16, .rw, 0x384⟩]⟩, -- PW_FLOOR n=0
  ⟨0x20104, 1, 0x1000000, 1, 4, [⟨0, 16, .rw, 0x640⟩]⟩, -- PW_FLOOR n=1
  ⟨0x20108, 1, 0x1000000, 1, 4, [⟨0, 16, .rw, 0x4B0⟩]⟩, -- PW_FLOOR n=2
  ⟨0x2010C, 1, 0x1000000, 1, 4, [⟨0, 16, .rw, 0x7D0⟩]⟩, -- PW_FLOOR n=3
  ⟨0x20110, 1, 0x1000000, 1, 4, [⟨0, 16, .rw, 0x960⟩]⟩, -- PW_FLOOR n=4
  ⟨0x20114, 1, 0x1000000, 1, 4, [⟨0, 16, .rw, 0xC80⟩]⟩, -- PW_FLOOR n=5
  ⟨0x20118, 1, 0x1000000, 1, 4, [⟨0, 16, .rw, 0x3E8⟩]⟩, -- PW_FLOOR n=6
  ⟨0x2011C, 1, 0x1000000, 1, 4, [⟨0, 16, .rw, 0x708⟩]⟩, -- PW_FLOOR n=7
  ⟨0x20120, 1, 0x1000000, 1, 4, [⟨0, 16, .rw, 0x578⟩]⟩, -- PW_FLOOR n=8
  ⟨0x20124, 1, 0x1000000, 1, 4, [⟨0, 16, .rw, 0x258⟩]⟩, -- PW_FLOOR n=9
  ⟨0x20128, 1, 0x1000000, 1, 4, [⟨0, 16, .rw, 0x4B0⟩]⟩, -- PW_FLOOR n=10
  ⟨0x28000, 1, 0x1000000, 1, 4, [⟨0, 1, .w1c, 0x0⟩, ⟨1, 1, .w1c, 0x0⟩, ⟨2, 1, .w1c, 0x0⟩, ⟨3, 1, .w1c, 0x0⟩, ⟨4, 1, .w1c, 0x0⟩, ⟨5, 1, .w1c, 0x0⟩, ⟨6, 1, .w1c, 0x0⟩, ⟨7, 1, .w1c, 0x0⟩, ⟨8, 1, .w1c, 0x0⟩]⟩, -- SF_STAT
  ⟨0x28004, 1, 0x1000000, 1, 4, [⟨0, 1, .rw, 0x0⟩, ⟨1, 1, .rw, 0x0⟩, ⟨2, 1, .rw, 0x0⟩, ⟨3, 1, .rw, 0x0⟩, ⟨4, 1, .rw, 0x0⟩, ⟨5, 1, .rw, 0x0⟩, ⟨6, 1, .rw, 0x0⟩, ⟨7, 1, .rw, 0x0⟩, ⟨8, 1, .rw, 0x0⟩]⟩, -- SF_INT_EN
  ⟨0x28008, 1, 0x1000000, 1, 4, [⟨0, 8, .rwl, 0xA⟩, ⟨8, 8, .rwl, 0x14⟩]⟩, -- SF_CFG
  ⟨0x2800C, 1, 0x1000000, 1, 4, [⟨0, 13, .rwl, 0x1D88⟩]⟩, -- SF_LIM_SPD
  ⟨0x28010, 1, 0x1000000, 1, 4, [⟨0, 16, .rwl, 0x7D0⟩, ⟨16, 8, .rwl, 0x32⟩]⟩, -- SF_LIM_VCM
  ⟨0x28014, 1, 0x1000000, 1, 4, [⟨0, 8, .rw, 0x5F⟩, ⟨8, 8, .rw, 0x73⟩]⟩, -- SF_LIM_TEMP
  ⟨0x28018, 1, 0x1000000, 1, 4, [⟨0, 4, .ro, 0x0⟩, ⟨4, 4, .ro, 0x0⟩]⟩, -- SF_CAUSE
  ⟨0x2801C, 1, 0x1000000, 1, 4, [⟨0, 32, .ro, 0x0⟩]⟩, -- SF_TEMP0
  ⟨0x28020, 1, 0x1000000, 1, 4, [⟨0, 32, .ro, 0x0⟩]⟩, -- SF_TEMP1
  ⟨0x28024, 1, 0x1000000, 1, 4, [⟨0, 4, .wo, 0x0⟩, ⟨4, 3, .ro, 0x0⟩]⟩ -- SF_CMD
]

/-- The register table, part 4 of 19: base, block count and stride, entry count and stride, fields. -/
def rows3 : List RegDesc := [
  ⟨0x28028, 1, 0x1000000, 1, 4, [⟨0, 1, .ro, 0x0⟩, ⟨1, 4, .ro, 0x0⟩, ⟨5, 8, .ro, 0x0⟩, ⟨13, 8, .ro, 0x0⟩, ⟨21, 1, .ro, 0x0⟩]⟩, -- SF_TEST
  ⟨0x2802C, 1, 0x1000000, 1, 4, [⟨0, 8, .rc, 0x0⟩]⟩, -- SF_LATE_CNT
  ⟨0x30000, 15, 0x100, 1, 4, [⟨0, 3, .ro, 0x0⟩, ⟨3, 1, .ro, 0x0⟩, ⟨4, 1, .ro, 0x0⟩, ⟨5, 4, .ro, 0x0⟩, ⟨9, 1, .ro, 0x0⟩, ⟨10, 1, .w1c, 0x0⟩]⟩, -- FT_U_STAT u<15
  ⟨0x31000, 44, 0x100, 1, 4, [⟨0, 3, .ro, 0x0⟩, ⟨3, 1, .ro, 0x0⟩, ⟨4, 1, .ro, 0x0⟩, ⟨5, 4, .ro, 0x0⟩, ⟨9, 1, .ro, 0x0⟩, ⟨10, 1, .w1c, 0x0⟩]⟩, -- FT_U_STAT 16<=u<60
  ⟨0x30004, 15, 0x100, 1, 4, [⟨0, 14, .rw, 0x3E8⟩, ⟨16, 3, .rwl, 0x4⟩]⟩, -- FT_U_CFG u<15
  ⟨0x31004, 44, 0x100, 1, 4, [⟨0, 14, .rw, 0x3E8⟩, ⟨16, 3, .rwl, 0x4⟩]⟩, -- FT_U_CFG 16<=u<60
  ⟨0x30008, 15, 0x100, 1, 4, [⟨0, 32, .wo, 0x0⟩]⟩, -- FT_U_ACK u<15
  ⟨0x31008, 44, 0x100, 1, 4, [⟨0, 32, .wo, 0x0⟩]⟩, -- FT_U_ACK 16<=u<60
  ⟨0x3000C, 15, 0x100, 1, 4, [⟨0, 32, .ro, 0x0⟩]⟩, -- FT_U_PEND u<15
  ⟨0x3100C, 44, 0x100, 1, 4, [⟨0, 32, .ro, 0x0⟩]⟩, -- FT_U_PEND 16<=u<60
  ⟨0x30010, 15, 0x100, 1, 4, [⟨0, 1, .wo, 0x0⟩, ⟨1, 1, .wo, 0x0⟩]⟩, -- FT_U_CTL u<15
  ⟨0x31010, 44, 0x100, 1, 4, [⟨0, 1, .wo, 0x0⟩, ⟨1, 1, .wo, 0x0⟩]⟩, -- FT_U_CTL 16<=u<60
  ⟨0x30040, 15, 0x100, 16, 4, [⟨0, 32, .ro, 0x0⟩]⟩, -- FT_U_HIST u<15
  ⟨0x31040, 44, 0x100, 16, 4, [⟨0, 32, .ro, 0x0⟩]⟩, -- FT_U_HIST 16<=u<60
  ⟨0x37000, 1, 0x1000000, 1, 4, [⟨0, 1, .rw, 0x0⟩, ⟨1, 1, .ro, 0x1⟩]⟩, -- FT_PIN
  ⟨0x37004, 1, 0x1000000, 1, 4, [⟨0, 32, .ro, 0x0⟩]⟩, -- FT_PEND_LO
  ⟨0x37008, 1, 0x1000000, 1, 4, [⟨0, 32, .ro, 0x0⟩]⟩, -- FT_PEND_HI
  ⟨0x3700C, 1, 0x1000000, 1, 4, [⟨0, 4, .w1c, 0x0⟩]⟩, -- FT_CORE_STAT
  ⟨0x37010, 1, 0x1000000, 1, 4, [⟨0, 4, .rw, 0x0⟩]⟩, -- FT_CORE_INT_EN
  ⟨0x37014, 1, 0x1000000, 1, 4, [⟨0, 32, .rc, 0x0⟩]⟩, -- FT_LATE_CNT
  ⟨0x37018, 1, 0x1000000, 1, 4, [⟨0, 32, .ro, 0x0⟩]⟩, -- FT_ESC_CNT
  ⟨0x38000, 1, 0x1000000, 1, 4, [⟨0, 1, .w1c, 0x0⟩, ⟨1, 1, .w1c, 0x0⟩, ⟨2, 1, .w1c, 0x0⟩, ⟨3, 1, .ro, 0x0⟩]⟩, -- EV_STAT
  ⟨0x38004, 1, 0x1000000, 1, 4, [⟨0, 1, .rw, 0x0⟩, ⟨1, 1, .rw, 0x0⟩, ⟨2, 1, .rw, 0x0⟩]⟩, -- EV_INT_EN
  ⟨0x38008, 1, 0x1000000, 1, 4, [⟨0, 2, .rw, 0x1⟩, ⟨4, 4, .rw, 0x8⟩, ⟨8, 8, .rw, 0xA⟩]⟩ -- EV_CFG
]

/-- The register table, part 5 of 19: base, block count and stride, entry count and stride, fields. -/
def rows4 : List RegDesc := [
  ⟨0x3800C, 1, 0x1000000, 1, 4, [⟨0, 2, .wo, 0x0⟩, ⟨2, 1, .ro, 0x0⟩, ⟨3, 3, .ro, 0x0⟩]⟩, -- EV_CMD
  ⟨0x38010, 1, 0x1000000, 1, 4, [⟨0, 11, .ro, 0x0⟩, ⟨16, 12, .ro, 0x0⟩, ⟨28, 1, .ro, 0x0⟩]⟩, -- EV_POS
  ⟨0x38014, 1, 0x1000000, 1, 4, [⟨0, 32, .ro, 0x0⟩]⟩, -- EV_SEQ
  ⟨0x38018, 1, 0x1000000, 1, 4, [⟨0, 32, .ro, 0x0⟩]⟩, -- EV_PCYC
  ⟨0x3801C, 1, 0x1000000, 1, 4, [⟨0, 32, .ro, 0x0⟩]⟩, -- EV_HOURS
  ⟨0x38020, 1, 0x1000000, 1, 4, [⟨0, 3, .rw, 0x0⟩, ⟨3, 12, .rw, 0x0⟩, ⟨15, 1, .rw, 0x0⟩]⟩, -- EV_RD_ADDR
  ⟨0x38024, 1, 0x1000000, 1, 4, [⟨0, 32, .ro, 0x0⟩]⟩, -- EV_RD_DATA
  ⟨0x38028, 1, 0x1000000, 1, 4, [⟨0, 32, .rc, 0x0⟩]⟩, -- EV_DROP_CNT
  ⟨0x3802C, 1, 0x1000000, 1, 4, [⟨0, 32, .rc, 0x0⟩]⟩, -- EV_SUPP_CNT
  ⟨0x38040, 1, 0x1000000, 8, 4, [⟨0, 16, .rw, 0x0⟩, ⟨16, 4, .rw, 0x0⟩, ⟨20, 8, .rw, 0x0⟩, ⟨31, 1, .rw, 0x0⟩]⟩, -- EV_OVR
  ⟨0x40000, 1, 0x1000000, 1, 4, [⟨0, 1, .rw, 0x0⟩, ⟨1, 1, .ro, 0x0⟩, ⟨2, 2, .ro, 0x0⟩, ⟨4, 1, .ro, 0x1⟩, ⟨5, 1, .wo, 0x0⟩, ⟨6, 1, .wo, 0x0⟩]⟩, -- LK_CTL
  ⟨0x40004, 1, 0x1000000, 1, 4, [⟨0, 1, .w1c, 0x0⟩, ⟨1, 1, .w1c, 0x0⟩, ⟨2, 1, .w1c, 0x0⟩, ⟨3, 1, .w1c, 0x0⟩, ⟨4, 1, .w1c, 0x0⟩, ⟨5, 1, .w1c, 0x0⟩, ⟨6, 1, .w1c, 0x0⟩, ⟨7, 1, .w1c, 0x0⟩, ⟨8, 1, .w1c, 0x0⟩, ⟨9, 1, .ro, 0x0⟩]⟩, -- LK_STAT
  ⟨0x40008, 1, 0x1000000, 1, 4, [⟨0, 1, .rw, 0x0⟩, ⟨1, 1, .rw, 0x0⟩, ⟨2, 1, .rw, 0x0⟩, ⟨3, 1, .rw, 0x0⟩, ⟨4, 1, .rw, 0x0⟩, ⟨5, 1, .rw, 0x0⟩, ⟨6, 1, .rw, 0x0⟩, ⟨7, 1, .rw, 0x0⟩, ⟨8, 1, .rw, 0x0⟩, ⟨9, 1, .rw, 0x0⟩]⟩, -- LK_INT_EN
  ⟨0x4000C, 1, 0x1000000, 1, 4, [⟨0, 11, .ro, 0x0⟩, ⟨11, 1, .ro, 0x0⟩, ⟨16, 8, .ro, 0x0⟩]⟩, -- LK_ID
  ⟨0x40010, 1, 0x1000000, 1, 4, [⟨0, 8, .rw, 0x14⟩, ⟨8, 1, .rw, 0x0⟩]⟩, -- LK_CFG
  ⟨0x40014, 1, 0x1000000, 1, 4, [⟨0, 8, .ro, 0x21⟩, ⟨8, 8, .ro, 0x10⟩]⟩, -- LK_VER
  ⟨0x40018, 1, 0x1000000, 1, 4, [⟨0, 32, .rc, 0x0⟩]⟩, -- LK_LATE_CNT
  ⟨0x4001C, 1, 0x1000000, 1, 4, [⟨0, 32, .rc, 0x0⟩]⟩, -- LK_DUP_CNT
  ⟨0x40020, 1, 0x1000000, 1, 4, [⟨0, 32, .rc, 0x0⟩]⟩, -- LK_FCRC_CNT
  ⟨0x40024, 1, 0x1000000, 1, 4, [⟨0, 32, .rc, 0x0⟩]⟩, -- LK_UNTR_CNT
  ⟨0x47FF0, 1, 0x1000000, 1, 4, [⟨31, 1, .ro, 0x0⟩, ⟨16, 8, .rc, 0x0⟩, ⟨0, 16, .ro, 0x0⟩]⟩, -- LK_PACE
  ⟨0x41000, 2, 0x1000, 1, 4, [⟨0, 3, .ro, 0x0⟩, ⟨3, 2, .ro, 0x0⟩, ⟨8, 4, .ro, 0x0⟩, ⟨16, 8, .ro, 0x0⟩, ⟨24, 8, .ro, 0x0⟩]⟩, -- LK_PORT_STAT
  ⟨0x41004, 2, 0x1000, 1, 4, [⟨0, 2, .rwl, 0x3⟩, ⟨2, 1, .rwl, 0x1⟩, ⟨8, 8, .rw, 0x40⟩]⟩, -- LK_PORT_CFG
  ⟨0x41008, 2, 0x1000, 1, 4, [⟨0, 32, .rc, 0x0⟩]⟩ -- LK_FEC_CNT
]

/-- The register table, part 6 of 19: base, block count and stride, entry count and stride, fields. -/
def rows5 : List RegDesc := [
  ⟨0x4100C, 2, 0x1000, 1, 4, [⟨0, 32, .rc, 0x0⟩]⟩, -- LK_UNCORR_CNT
  ⟨0x41010, 2, 0x1000, 1, 4, [⟨0, 32, .rc, 0x0⟩]⟩, -- LK_REPLAY_CNT
  ⟨0x41014, 2, 0x1000, 1, 4, [⟨0, 32, .ro, 0x0⟩]⟩, -- LK_PARTNER
  ⟨0x80000, 1, 0x1000000, 1, 4, [⟨0, 1, .rw, 0x0⟩, ⟨1, 1, .ro, 0x0⟩, ⟨2, 2, .ro, 0x0⟩]⟩, -- QM_CTL
  ⟨0x80004, 1, 0x1000000, 1, 4, [⟨0, 1, .w1c, 0x0⟩, ⟨1, 1, .w1c, 0x0⟩, ⟨2, 1, .w1c, 0x0⟩, ⟨3, 1, .w1c, 0x0⟩, ⟨4, 1, .w1c, 0x0⟩, ⟨5, 1, .w1c, 0x0⟩, ⟨6, 1, .w1c, 0x0⟩]⟩, -- QM_STAT
  ⟨0x80008, 1, 0x1000000, 1, 4, [⟨0, 1, .rw, 0x0⟩, ⟨1, 1, .rw, 0x0⟩, ⟨2, 1, .rw, 0x0⟩, ⟨3, 1, .rw, 0x0⟩, ⟨4, 1, .rw, 0x0⟩, ⟨5, 1, .rw, 0x0⟩, ⟨6, 1, .rw, 0x0⟩]⟩, -- QM_INT_EN
  ⟨0x8000C, 1, 0x1000000, 1, 4, [⟨0, 4, .rw, 0x2⟩, ⟨4, 4, .rw, 0x8⟩, ⟨8, 1, .rw, 0x0⟩]⟩, -- QM_CFG
  ⟨0x80010, 1, 0x1000000, 1, 4, [⟨0, 32, .rwl, 0x0⟩]⟩, -- QM_CTX_BASE_LO
  ⟨0x80014, 1, 0x1000000, 1, 4, [⟨0, 32, .rwl, 0x0⟩]⟩, -- QM_CTX_BASE_HI
  ⟨0x80018, 1, 0x1000000, 1, 4, [⟨0, 32, .rwl, 0x0⟩]⟩, -- QM_OVF_BASE_LO
  ⟨0x8001C, 1, 0x1000000, 1, 4, [⟨0, 32, .rwl, 0x0⟩]⟩, -- QM_OVF_BASE_HI
  ⟨0x80020, 1, 0x1000000, 1, 4, [⟨0, 24, .rwl, 0x0⟩]⟩, -- QM_OVF_CHUNKS
  ⟨0x80024, 1, 0x1000000, 1, 4, [⟨0, 24, .ro, 0x0⟩]⟩, -- QM_OVF_FREE
  ⟨0x80028, 1, 0x1000000, 1, 4, [⟨0, 32, .rw, 0x0⟩]⟩, -- QM_IRQ_BASE_LO
  ⟨0x8002C, 1, 0x1000000, 1, 4, [⟨0, 32, .rw, 0x0⟩]⟩, -- QM_IRQ_BASE_HI
  ⟨0x80030, 1, 0x1000000, 1, 4, [⟨0, 20, .rw, 0x0⟩]⟩, -- QM_Q_SEL
  ⟨0x80034, 1, 0x1000000, 1, 4, [⟨0, 3, .wo, 0x0⟩, ⟨3, 1, .ro, 0x0⟩, ⟨4, 3, .ro, 0x0⟩, ⟨7, 3, .ro, 0x0⟩]⟩, -- QM_Q_CMD
  ⟨0x80038, 1, 0x1000000, 1, 4, [⟨0, 20, .ro, 0x0⟩, ⟨20, 4, .ro, 0x0⟩, ⟨24, 1, .ro, 0x0⟩, ⟨25, 1, .ro, 0x0⟩]⟩, -- QM_HALT
  ⟨0x8003C, 1, 0x1000000, 1, 4, [⟨0, 17, .ro, 0x0⟩]⟩, -- QM_HALT_SLOT
  ⟨0x80040, 1, 0x1000000, 1, 4, [⟨0, 32, .rc, 0x0⟩]⟩, -- QM_DB_DROP_CNT
  ⟨0x80044, 1, 0x1000000, 1, 4, [⟨0, 32, .rc, 0x0⟩]⟩, -- QM_SPILL_CNT
  ⟨0x80048, 1, 0x1000000, 1, 4, [⟨0, 32, .rc, 0x0⟩]⟩, -- QM_CTX_MISS_CNT
  ⟨0x8004C, 1, 0x1000000, 1, 4, [⟨0, 32, .rc, 0x0⟩]⟩, -- QM_CTX_CE_CNT
  ⟨0x80050, 1, 0x1000000, 1, 4, [⟨0, 32, .rc, 0x0⟩]⟩ -- QM_CPL_LOST_CNT
]

/-- The register table, part 7 of 19: base, block count and stride, entry count and stride, fields. -/
def rows6 : List RegDesc := [
  ⟨0x80100, 1, 0x1000000, 12, 4, [⟨0, 32, .rw, 0x0⟩]⟩, -- QM_SQ_CTX
  ⟨0x80140, 1, 0x1000000, 12, 4, [⟨0, 32, .rw, 0x0⟩]⟩, -- QM_CQ_CTX
  ⟨0x87FF0, 1, 0x1000000, 1, 4, [⟨31, 1, .ro, 0x0⟩, ⟨16, 8, .rc, 0x0⟩, ⟨0, 16, .ro, 0x0⟩]⟩, -- QM_PACE
  ⟨0xA0000, 1, 0x1000000, 1, 4, [⟨0, 1, .rw, 0x0⟩, ⟨1, 1, .ro, 0x0⟩, ⟨2, 2, .ro, 0x0⟩]⟩, -- CM_CTL
  ⟨0xA0004, 1, 0x1000000, 1, 4, [⟨0, 1, .w1c, 0x0⟩, ⟨1, 1, .w1c, 0x0⟩, ⟨2, 1, .w1c, 0x0⟩, ⟨3, 1, .w1c, 0x0⟩, ⟨4, 1, .w1c, 0x0⟩, ⟨5, 1, .w1c, 0x0⟩, ⟨6, 1, .w1c, 0x0⟩]⟩, -- CM_STAT
  ⟨0xA0008, 1, 0x1000000, 1, 4, [⟨0, 1, .rw, 0x0⟩, ⟨1, 1, .rw, 0x0⟩, ⟨2, 1, .rw, 0x0⟩, ⟨3, 1, .rw, 0x0⟩, ⟨4, 1, .rw, 0x0⟩, ⟨5, 1, .rw, 0x0⟩, ⟨6, 1, .rw, 0x0⟩]⟩, -- CM_INT_EN
  ⟨0xA000C, 1, 0x1000000, 1, 4, [⟨0, 8, .rw, 0x2⟩, ⟨8, 8, .rw, 0x32⟩, ⟨16, 8, .rw, 0x14⟩, ⟨24, 2, .rw, 0x2⟩]⟩, -- CM_CFG
  ⟨0xA0010, 1, 0x1000000, 1, 4, [⟨0, 4, .rw, 0x2⟩, ⟨4, 8, .rw, 0x40⟩, ⟨12, 8, .rw, 0x14⟩]⟩, -- CM_RA_CFG
  ⟨0xA0014, 1, 0x1000000, 1, 4, [⟨0, 4, .wo, 0x0⟩, ⟨4, 3, .ro, 0x0⟩, ⟨7, 1, .ro, 0x0⟩]⟩, -- CM_CMD
  ⟨0xA0018, 1, 0x1000000, 1, 4, [⟨0, 3, .ro, 0x0⟩, ⟨16, 10, .ro, 0x0⟩]⟩, -- CM_ACT
  ⟨0xA001C, 1, 0x1000000, 1, 4, [⟨0, 16, .ro, 0x0⟩, ⟨16, 13, .ro, 0x0⟩]⟩, -- CM_OCC
  ⟨0xA0020, 1, 0x1000000, 1, 4, [⟨0, 32, .rc, 0x0⟩]⟩, -- CM_DROP_CNT
  ⟨0xA0024, 1, 0x1000000, 1, 4, [⟨0, 32, .rc, 0x0⟩]⟩, -- CM_MISS_CNT
  ⟨0xA0028, 1, 0x1000000, 1, 4, [⟨0, 16, .rc, 0x0⟩, ⟨16, 16, .rc, 0x0⟩]⟩, -- CM_LATE_CNT
  ⟨0xA002C, 1, 0x1000000, 1, 4, [⟨0, 32, .rc, 0x0⟩]⟩, -- CM_E2E_CNT
  ⟨0xA0030, 1, 0x1000000, 1, 4, [⟨0, 32, .ro, 0x0⟩]⟩, -- CM_RA_HIT_CNT
  ⟨0xA0034, 1, 0x1000000, 1, 4, [⟨0, 32, .rc, 0x0⟩]⟩, -- CM_SEEK_FAIL_CNT
  ⟨0xA7FF0, 1, 0x1000000, 1, 4, [⟨31, 1, .ro, 0x0⟩, ⟨16, 8, .rc, 0x0⟩, ⟨0, 16, .ro, 0x0⟩]⟩, -- CM_PACE
  ⟨0xC0000, 1, 0x1000000, 1, 4, [⟨0, 1, .rw, 0x0⟩, ⟨1, 1, .ro, 0x0⟩, ⟨2, 2, .ro, 0x0⟩]⟩, -- HC_CTL
  ⟨0xC0004, 1, 0x1000000, 1, 4, [⟨0, 1, .w1c, 0x0⟩, ⟨1, 1, .w1c, 0x0⟩, ⟨2, 1, .w1c, 0x0⟩]⟩, -- HC_STAT
  ⟨0xC0008, 1, 0x1000000, 1, 4, [⟨0, 1, .rw, 0x0⟩, ⟨1, 1, .rw, 0x0⟩, ⟨2, 1, .rw, 0x0⟩]⟩, -- HC_INT_EN
  ⟨0xC000C, 1, 0x1000000, 1, 4, [⟨0, 4, .rw, 0x2⟩, ⟨4, 8, .rw, 0xA⟩, ⟨12, 1, .rw, 0x1⟩]⟩, -- HC_CFG
  ⟨0xC0010, 1, 0x1000000, 1, 4, [⟨0, 16, .rw, 0xACE1⟩]⟩, -- HC_DIE
  ⟨0xC0014, 1, 0x1000000, 1, 4, [⟨0, 3, .wo, 0x0⟩, ⟨3, 1, .ro, 0x0⟩]⟩ -- HC_MAINT
]

/-- The register table, part 8 of 19: base, block count and stride, entry count and stride, fields. -/
def rows7 : List RegDesc := [
  ⟨0xC0018, 1, 0x1000000, 1, 4, [⟨0, 32, .rw, 0x0⟩]⟩, -- HC_MAINT_ADDR_LO
  ⟨0xC001C, 1, 0x1000000, 1, 4, [⟨0, 32, .rw, 0x0⟩]⟩, -- HC_MAINT_ADDR_HI
  ⟨0xC0020, 1, 0x1000000, 1, 4, [⟨0, 32, .rw, 0x0⟩]⟩, -- HC_MAINT_LEN
  ⟨0xC0024, 1, 0x1000000, 1, 4, [⟨0, 6, .ro, 0x0⟩, ⟨8, 4, .ro, 0x0⟩, ⟨16, 16, .ro, 0x0⟩]⟩, -- HC_OCC
  ⟨0xC0030, 1, 0x1000000, 1, 4, [⟨0, 32, .ro, 0x0⟩]⟩, -- HC_HIT_CNT
  ⟨0xC0034, 1, 0x1000000, 1, 4, [⟨0, 32, .ro, 0x0⟩]⟩, -- HC_MISS_CNT
  ⟨0xC0038, 1, 0x1000000, 1, 4, [⟨0, 32, .ro, 0x0⟩]⟩, -- HC_PF_CNT
  ⟨0xC003C, 1, 0x1000000, 1, 4, [⟨0, 32, .ro, 0x0⟩]⟩, -- HC_PF_USED_CNT
  ⟨0xC0040, 1, 0x1000000, 1, 4, [⟨0, 32, .rc, 0x0⟩]⟩, -- HC_UE_CNT
  ⟨0xC7FF0, 1, 0x1000000, 1, 4, [⟨31, 1, .ro, 0x0⟩, ⟨16, 8, .rc, 0x0⟩, ⟨0, 16, .ro, 0x0⟩]⟩, -- HC_PACE
  ⟨0xD0000, 1, 0x1000000, 1, 4, [⟨0, 1, .rw, 0x0⟩, ⟨1, 1, .ro, 0x0⟩, ⟨2, 2, .ro, 0x0⟩]⟩, -- DM_CTL
  ⟨0xD0004, 1, 0x1000000, 1, 4, [⟨0, 1, .w1c, 0x0⟩, ⟨1, 1, .w1c, 0x0⟩, ⟨2, 1, .w1c, 0x0⟩, ⟨3, 1, .w1c, 0x0⟩, ⟨4, 1, .w1c, 0x0⟩]⟩, -- DM_STAT
  ⟨0xD0008, 1, 0x1000000, 1, 4, [⟨0, 1, .rw, 0x0⟩, ⟨1, 1, .rw, 0x0⟩, ⟨2, 1, .rw, 0x0⟩, ⟨3, 1, .rw, 0x0⟩, ⟨4, 1, .rw, 0x0⟩]⟩, -- DM_INT_EN
  ⟨0xD000C, 1, 0x1000000, 1, 4, [⟨0, 8, .rw, 0x64⟩]⟩, -- DM_CFG
  ⟨0xD0010, 1, 0x1000000, 1, 4, [⟨0, 6, .wo, 0x0⟩, ⟨8, 1, .wo, 0x0⟩]⟩, -- DM_RESUME
  ⟨0xD0014, 1, 0x1000000, 1, 4, [⟨0, 32, .ro, 0x0⟩]⟩, -- DM_FAULT_LO
  ⟨0xD0018, 1, 0x1000000, 1, 4, [⟨0, 32, .ro, 0x0⟩]⟩, -- DM_FAULT_HI
  ⟨0xD0020, 1, 0x1000000, 1, 4, [⟨0, 1, .rwl, 0x0⟩]⟩, -- DM_HWT_CTL
  ⟨0xD0024, 1, 0x1000000, 1, 4, [⟨0, 2, .rw, 0x0⟩, ⟨2, 14, .rw, 0x0⟩]⟩, -- DM_HWT_ADDR
  ⟨0xD0028, 1, 0x1000000, 1, 4, [⟨0, 32, .rw, 0x0⟩]⟩, -- DM_HWT_DATA
  ⟨0xD0030, 1, 0x1000000, 1, 4, [⟨0, 32, .rc, 0x0⟩]⟩, -- DM_LATE_CNT
  ⟨0xD0034, 1, 0x1000000, 1, 4, [⟨0, 32, .rc, 0x0⟩]⟩, -- DM_POISON_CNT
  ⟨0xD0038, 1, 0x1000000, 1, 4, [⟨0, 32, .rc, 0x0⟩]⟩, -- DM_FAULT_CNT
  ⟨0xD003C, 1, 0x1000000, 1, 4, [⟨0, 32, .rc, 0x0⟩]⟩ -- DM_REQ_LATE_CNT
]

/-- The register table, part 9 of 19: base, block count and stride, entry count and stride, fields. -/
def rows8 : List RegDesc := [
  ⟨0xD7FF0, 1, 0x1000000, 1, 4, [⟨31, 1, .ro, 0x0⟩, ⟨16, 8, .rc, 0x0⟩, ⟨0, 16, .ro, 0x0⟩]⟩, -- DM_PACE
  ⟨0xE0000, 64, 0x100, 1, 4, [⟨0, 1, .rw, 0x0⟩, ⟨1, 1, .ro, 0x0⟩, ⟨2, 2, .ro, 0x0⟩, ⟨4, 1, .wo, 0x0⟩, ⟨5, 1, .rw, 0x0⟩]⟩, -- DM_CH_CTL
  ⟨0xE0004, 64, 0x100, 1, 4, [⟨0, 1, .ro, 0x0⟩, ⟨1, 1, .ro, 0x0⟩, ⟨2, 1, .ro, 0x0⟩, ⟨3, 1, .ro, 0x0⟩, ⟨4, 1, .ro, 0x0⟩, ⟨5, 1, .w1c, 0x0⟩, ⟨6, 1, .w1c, 0x0⟩, ⟨8, 4, .ro, 0x0⟩, ⟨16, 4, .ro, 0x0⟩]⟩, -- DM_CH_STAT
  ⟨0xE0008, 64, 0x100, 1, 4, [⟨0, 2, .rw, 0x0⟩, ⟨2, 2, .rw, 0x0⟩, ⟨4, 7, .rw, 0x0⟩, ⟨11, 1, .rw, 0x0⟩, ⟨12, 3, .rw, 0x6⟩, ⟨15, 1, .rw, 0x0⟩, ⟨16, 8, .ro, 0x0⟩]⟩, -- DM_CH_CFG
  ⟨0xE000C, 64, 0x100, 1, 4, [⟨0, 32, .rw, 0x0⟩]⟩, -- DM_CH_SRC_LO
  ⟨0xE0010, 64, 0x100, 1, 4, [⟨0, 32, .rw, 0x0⟩]⟩, -- DM_CH_SRC_HI
  ⟨0xE0014, 64, 0x100, 1, 4, [⟨0, 32, .rw, 0x0⟩]⟩, -- DM_CH_DST_LO
  ⟨0xE0018, 64, 0x100, 1, 4, [⟨0, 32, .rw, 0x0⟩]⟩, -- DM_CH_DST_HI
  ⟨0xE001C, 64, 0x100, 1, 4, [⟨0, 25, .rw, 0x0⟩]⟩, -- DM_CH_LEN
  ⟨0xE0040, 64, 0x100, 1, 4, [⟨0, 1, .wo, 0x0⟩]⟩, -- DM_CH_SH_CTL
  ⟨0xE0048, 64, 0x100, 1, 4, [⟨0, 2, .rw, 0x0⟩, ⟨2, 2, .rw, 0x0⟩, ⟨4, 7, .rw, 0x0⟩, ⟨11, 1, .rw, 0x0⟩, ⟨12, 3, .rw, 0x6⟩, ⟨15, 1, .rw, 0x0⟩, ⟨16, 8, .ro, 0x0⟩]⟩, -- DM_CH_SH_CFG
  ⟨0xE004C, 64, 0x100, 1, 4, [⟨0, 32, .rw, 0x0⟩]⟩, -- DM_CH_SH_SRC_LO
  ⟨0xE0050, 64, 0x100, 1, 4, [⟨0, 32, .rw, 0x0⟩]⟩, -- DM_CH_SH_SRC_HI
  ⟨0xE0054, 64, 0x100, 1, 4, [⟨0, 32, .rw, 0x0⟩]⟩, -- DM_CH_SH_DST_LO
  ⟨0xE0058, 64, 0x100, 1, 4, [⟨0, 32, .rw, 0x0⟩]⟩, -- DM_CH_SH_DST_HI
  ⟨0xE005C, 64, 0x100, 1, 4, [⟨0, 25, .rw, 0x0⟩]⟩, -- DM_CH_SH_LEN
  ⟨0xE0060, 64, 0x100, 1, 4, [⟨0, 32, .ro, 0x0⟩]⟩, -- DM_CH_FADDR_LO
  ⟨0xE0064, 64, 0x100, 1, 4, [⟨0, 32, .ro, 0x0⟩]⟩, -- DM_CH_FADDR_HI
  ⟨0xE0068, 64, 0x100, 1, 4, [⟨0, 13, .ro, 0x0⟩]⟩, -- DM_CH_HOPS
  ⟨0x100000, 1, 0x1000000, 1, 4, [⟨0, 1, .rw, 0x0⟩, ⟨1, 1, .ro, 0x0⟩, ⟨2, 2, .ro, 0x0⟩]⟩, -- BM_CTL
  ⟨0x100004, 1, 0x1000000, 1, 4, [⟨0, 1, .w1c, 0x0⟩, ⟨1, 1, .w1c, 0x0⟩, ⟨2, 1, .w1c, 0x0⟩, ⟨3, 1, .w1c, 0x0⟩, ⟨4, 1, .w1c, 0x0⟩, ⟨5, 1, .w1c, 0x0⟩, ⟨6, 1, .w1c, 0x0⟩, ⟨7, 1, .w1c, 0x0⟩, ⟨8, 1, .w1c, 0x0⟩, ⟨9, 1, .w1c, 0x0⟩, ⟨10, 1, .w1c, 0x0⟩]⟩, -- BM_STAT
  ⟨0x100008, 1, 0x1000000, 1, 4, [⟨0, 1, .rw, 0x0⟩, ⟨1, 1, .rw, 0x0⟩, ⟨2, 1, .rw, 0x0⟩, ⟨3, 1, .rw, 0x0⟩, ⟨4, 1, .rw, 0x0⟩, ⟨5, 1, .rw, 0x0⟩, ⟨6, 1, .rw, 0x0⟩, ⟨7, 1, .rw, 0x0⟩, ⟨8, 1, .rw, 0x0⟩, ⟨9, 1, .rw, 0x0⟩, ⟨10, 1, .rw, 0x0⟩]⟩, -- BM_INT_EN
  ⟨0x10000C, 1, 0x1000000, 1, 4, [⟨0, 2, .rwl, 0x2⟩, ⟨2, 1, .rwl, 0x1⟩, ⟨3, 1, .rwl, 0x1⟩, ⟨4, 1, .rwl, 0x0⟩, ⟨8, 8, .rw, 0x8⟩, ⟨16, 8, .rw, 0x5F⟩]⟩, -- BM_CFG
  ⟨0x100010, 1, 0x1000000, 1, 4, [⟨0, 17, .ro, 0x0⟩]⟩ -- BM_SIZE
]

/-- The register table, part 10 of 19: base, block count and stride, entry count and stride, fields. -/
def rows9 : List RegDesc := [
  ⟨0x100014, 1, 0x1000000, 1, 4, [⟨0, 8, .rw, 0x18⟩, ⟨8, 1, .rw, 0x1⟩, ⟨16, 8, .rw, 0x3C⟩]⟩, -- BM_SCRUB_CFG
  ⟨0x100018, 1, 0x1000000, 1, 4, [⟨0, 7, .ro, 0x0⟩, ⟨8, 24, .ro, 0x0⟩]⟩, -- BM_SCRUB_STAT
  ⟨0x10001C, 1, 0x1000000, 1, 4, [⟨0, 2, .ro, 0x0⟩, ⟨2, 1, .ro, 0x0⟩, ⟨3, 1, .ro, 0x0⟩, ⟨4, 2, .ro, 0x0⟩, ⟨6, 2, .ro, 0x0⟩, ⟨8, 16, .ro, 0x0⟩, ⟨24, 4, .ro, 0x0⟩]⟩, -- BM_ERR_INFO
  ⟨0x100020, 1, 0x1000000, 1, 4, [⟨0, 32, .ro, 0x0⟩]⟩, -- BM_ERR_ADDR_LO
  ⟨0x100024, 1, 0x1000000, 1, 4, [⟨0, 32, .ro, 0x0⟩]⟩, -- BM_ERR_ADDR_HI
  ⟨0x100028, 1, 0x1000000, 1, 4, [⟨0, 32, .rwl, 0x0⟩]⟩, -- BM_CODE_BASE_LO
  ⟨0x10002C, 1, 0x1000000, 1, 4, [⟨0, 32, .rwl, 0x0⟩]⟩, -- BM_CODE_BASE_HI
  ⟨0x100030, 1, 0x1000000, 1, 4, [⟨0, 12, .rwl, 0x0⟩]⟩, -- BM_CODE_SIZE
  ⟨0x100034, 1, 0x1000000, 1, 4, [⟨0, 32, .rwl, 0x0⟩]⟩, -- BM_CACHE_BASE_LO
  ⟨0x100038, 1, 0x1000000, 1, 4, [⟨0, 32, .rwl, 0x0⟩]⟩, -- BM_CACHE_BASE_HI
  ⟨0x10003C, 1, 0x1000000, 1, 4, [⟨0, 17, .rwl, 0x0⟩]⟩, -- BM_CACHE_SIZE
  ⟨0x100040, 1, 0x1000000, 1, 4, [⟨0, 17, .rw, 0x18000⟩, ⟨17, 7, .rw, 0x32⟩, ⟨24, 1, .rw, 0x1⟩]⟩, -- BM_ED_CFG
  ⟨0x100044, 1, 0x1000000, 1, 4, [⟨0, 18, .ro, 0x0⟩]⟩, -- BM_ED_DIRTY
  ⟨0x100048, 1, 0x1000000, 1, 4, [⟨0, 32, .ro, 0x0⟩]⟩, -- BM_TEMP
  ⟨0x10004C, 1, 0x1000000, 1, 4, [⟨0, 18, .ro, 0x0⟩]⟩, -- BM_ED_CLEAN
  ⟨0x100050, 1, 0x1000000, 1, 4, [⟨0, 32, .rc, 0x0⟩]⟩, -- BM_CE_CNT
  ⟨0x100054, 1, 0x1000000, 1, 4, [⟨0, 32, .rc, 0x0⟩]⟩, -- BM_UE_CNT
  ⟨0x100058, 1, 0x1000000, 1, 4, [⟨0, 32, .rc, 0x0⟩]⟩, -- BM_POISON_CNT
  ⟨0x10005C, 1, 0x1000000, 1, 4, [⟨0, 32, .rc, 0x0⟩]⟩, -- BM_SRAM_CE_CNT
  ⟨0x100060, 1, 0x1000000, 1, 4, [⟨0, 32, .rc, 0x0⟩]⟩, -- BM_SRAM_UE_CNT
  ⟨0x100064, 1, 0x1000000, 1, 4, [⟨0, 32, .ro, 0x0⟩]⟩, -- BM_ED_HIT_CNT
  ⟨0x100068, 1, 0x1000000, 1, 4, [⟨0, 32, .ro, 0x0⟩]⟩, -- BM_ED_MISS_CNT
  ⟨0x107FF0, 1, 0x1000000, 1, 4, [⟨31, 1, .ro, 0x0⟩, ⟨16, 8, .rc, 0x0⟩, ⟨0, 16, .ro, 0x0⟩]⟩, -- BM_PACE
  ⟨0x110000, 1, 0x1000000, 1, 4, [⟨0, 1, .rw, 0x0⟩, ⟨1, 1, .ro, 0x0⟩, ⟨2, 2, .ro, 0x0⟩]⟩ -- JN_CTL
]

/-- The register table, part 11 of 19: base, block count and stride, entry count and stride, fields. -/
def rows10 : List RegDesc := [
  ⟨0x110004, 1, 0x1000000, 1, 4, [⟨0, 1, .w1c, 0x0⟩, ⟨1, 1, .w1c, 0x0⟩, ⟨2, 1, .w1c, 0x0⟩, ⟨3, 1, .w1c, 0x0⟩, ⟨4, 1, .w1c, 0x0⟩, ⟨6, 1, .w1c, 0x0⟩, ⟨7, 1, .w1c, 0x0⟩, ⟨8, 1, .w1c, 0x0⟩, ⟨9, 1, .w1c, 0x0⟩, ⟨10, 1, .w1c, 0x0⟩, ⟨11, 1, .w1c, 0x0⟩, ⟨12, 1, .w1c, 0x0⟩]⟩, -- JN_STAT
  ⟨0x110008, 1, 0x1000000, 1, 4, [⟨0, 1, .rw, 0x0⟩, ⟨1, 1, .rw, 0x0⟩, ⟨2, 1, .rw, 0x0⟩, ⟨3, 1, .rw, 0x0⟩, ⟨4, 1, .rw, 0x0⟩, ⟨6, 1, .rw, 0x0⟩, ⟨7, 1, .rw, 0x0⟩, ⟨8, 1, .rw, 0x0⟩, ⟨9, 1, .rw, 0x0⟩, ⟨10, 1, .rw, 0x0⟩, ⟨11, 1, .rw, 0x0⟩, ⟨12, 1, .rw, 0x0⟩]⟩, -- JN_INT_EN
  ⟨0x11000C, 1, 0x1000000, 1, 4, [⟨0, 7, .rw, 0x50⟩, ⟨8, 7, .rw, 0x3C⟩, ⟨16, 8, .rw, 0x14⟩, ⟨24, 1, .rwl, 0x0⟩]⟩, -- JN_CFG
  ⟨0x110010, 1, 0x1000000, 1, 4, [⟨0, 4, .wo, 0x0⟩, ⟨4, 3, .ro, 0x0⟩]⟩, -- JN_CMD
  ⟨0x110014, 1, 0x1000000, 1, 4, [⟨0, 1, .ro, 0x0⟩, ⟨1, 1, .ro, 0x0⟩, ⟨2, 1, .ro, 0x0⟩, ⟨8, 7, .ro, 0x0⟩]⟩, -- JN_MIRROR
  ⟨0x110018, 1, 0x1000000, 1, 4, [⟨0, 32, .ro, 0x0⟩]⟩, -- JN_HEAD_LO
  ⟨0x11001C, 1, 0x1000000, 1, 4, [⟨0, 32, .ro, 0x0⟩]⟩, -- JN_HEAD_HI
  ⟨0x110020, 1, 0x1000000, 1, 4, [⟨0, 32, .ro, 0x0⟩]⟩, -- JN_TAIL_LO
  ⟨0x110024, 1, 0x1000000, 1, 4, [⟨0, 32, .ro, 0x0⟩]⟩, -- JN_TAIL_HI
  ⟨0x110028, 1, 0x1000000, 1, 4, [⟨0, 7, .ro, 0x0⟩, ⟨8, 7, .ro, 0x0⟩, ⟨16, 7, .ro, 0x0⟩]⟩, -- JN_FILL
  ⟨0x11002C, 1, 0x1000000, 1, 4, [⟨0, 7, .ro, 0x0⟩]⟩, -- JN_HELD
  ⟨0x110030, 1, 0x1000000, 1, 4, [⟨0, 3, .ro, 0x0⟩, ⟨8, 8, .ro, 0x0⟩, ⟨16, 16, .ro, 0x0⟩]⟩, -- JN_REPLAY
  ⟨0x110034, 1, 0x1000000, 1, 4, [⟨0, 8, .ro, 0x0⟩, ⟨8, 8, .ro, 0x0⟩]⟩, -- JN_SPILL_STAT
  ⟨0x110038, 1, 0x1000000, 1, 4, [⟨0, 32, .ro, 0x0⟩]⟩, -- JN_COMMIT_CNT
  ⟨0x11003C, 1, 0x1000000, 1, 4, [⟨0, 8, .rc, 0x0⟩, ⟨8, 8, .rc, 0x0⟩]⟩, -- JN_LATE_CNT
  ⟨0x110040, 1, 0x1000000, 1, 4, [⟨0, 32, .rc, 0x0⟩]⟩, -- JN_CE_CNT
  ⟨0x110044, 1, 0x1000000, 1, 4, [⟨0, 32, .rc, 0x0⟩]⟩, -- JN_LOST_CNT
  ⟨0x117FF0, 1, 0x1000000, 1, 4, [⟨31, 1, .ro, 0x0⟩, ⟨16, 8, .rc, 0x0⟩, ⟨0, 16, .ro, 0x0⟩]⟩, -- JN_PACE
  ⟨0x110080, 16, 0x10, 1, 4, [⟨0, 7, .rwl, 0x0⟩, ⟨7, 1, .rwl, 0x0⟩]⟩, -- JN_EXT_MEM
  ⟨0x110084, 16, 0x10, 1, 4, [⟨0, 32, .rwl, 0x0⟩]⟩, -- JN_EXT_MBA_LO
  ⟨0x110088, 16, 0x10, 1, 4, [⟨0, 8, .rwl, 0x0⟩]⟩, -- JN_EXT_MBA_HI
  ⟨0x11008C, 16, 0x10, 1, 4, [⟨0, 25, .rwl, 0x0⟩]⟩, -- JN_EXT_LEN
  ⟨0x120000, 1, 0x1000000, 1, 4, [⟨0, 1, .rw, 0x0⟩, ⟨1, 1, .ro, 0x0⟩, ⟨2, 2, .ro, 0x0⟩]⟩, -- AR_CTL
  ⟨0x120004, 1, 0x1000000, 1, 4, [⟨0, 1, .w1c, 0x0⟩, ⟨1, 1, .w1c, 0x0⟩, ⟨2, 1, .w1c, 0x0⟩, ⟨3, 1, .w1c, 0x0⟩, ⟨4, 1, .w1c, 0x0⟩, ⟨5, 1, .w1c, 0x0⟩, ⟨6, 1, .w1c, 0x0⟩, ⟨7, 1, .w1c, 0x0⟩, ⟨8, 1, .w1c, 0x0⟩]⟩ -- AR_STAT
]

/-- The register table, part 12 of 19: base, block count and stride, entry count and stride, fields. -/
def rows11 : List RegDesc := [
  ⟨0x120008, 1, 0x1000000, 1, 4, [⟨0, 1, .rw, 0x0⟩, ⟨1, 1, .rw, 0x0⟩, ⟨2, 1, .rw, 0x0⟩, ⟨3, 1, .rw, 0x0⟩, ⟨4, 1, .rw, 0x0⟩, ⟨5, 1, .rw, 0x0⟩, ⟨6, 1, .rw, 0x0⟩, ⟨7, 1, .rw, 0x0⟩, ⟨8, 1, .rw, 0x0⟩]⟩, -- AR_INT_EN
  ⟨0x12000C, 1, 0x1000000, 1, 4, [⟨0, 8, .rw, 0x64⟩, ⟨8, 8, .rw, 0x19⟩]⟩, -- AR_CFG
  ⟨0x120010, 1, 0x1000000, 1, 4, [⟨0, 32, .ro, 0x0⟩]⟩, -- AR_WSEQ
  ⟨0x120014, 1, 0x1000000, 1, 4, [⟨0, 7, .ro, 0x40⟩, ⟨8, 1, .ro, 0x0⟩]⟩, -- AR_PE_STAT
  ⟨0x120018, 1, 0x1000000, 1, 4, [⟨0, 32, .rw, 0x0⟩]⟩, -- AR_PE_SUB_LO
  ⟨0x12001C, 1, 0x1000000, 1, 4, [⟨0, 32, .rw, 0x0⟩]⟩, -- AR_PE_SUB_HI
  ⟨0x120020, 1, 0x1000000, 1, 4, [⟨0, 5, .rw, 0x0⟩, ⟨5, 10, .rw, 0x0⟩]⟩, -- AR_PAT_ADDR
  ⟨0x120024, 1, 0x1000000, 1, 4, [⟨0, 32, .rw, 0xFFFFFFFF⟩]⟩, -- AR_PAT_DATA
  ⟨0x120028, 1, 0x1000000, 1, 4, [⟨0, 32, .rc, 0x0⟩]⟩, -- AR_RECON_CNT
  ⟨0x12002C, 1, 0x1000000, 1, 4, [⟨0, 32, .rc, 0x0⟩]⟩, -- AR_LATE_CNT
  ⟨0x120030, 1, 0x1000000, 1, 4, [⟨0, 32, .rc, 0x0⟩]⟩, -- AR_WSEQ_ERR_CNT
  ⟨0x120040, 1, 0x1000000, 12, 4, [⟨0, 32, .ro, 0x0⟩]⟩, -- AR_MEMSTATE
  ⟨0x127FF0, 1, 0x1000000, 1, 4, [⟨31, 1, .ro, 0x0⟩, ⟨16, 8, .rc, 0x0⟩, ⟨0, 16, .ro, 0x0⟩]⟩, -- AR_PACE
  ⟨0x121000, 64, 0x40, 1, 4, [⟨0, 1, .rw, 0x0⟩, ⟨1, 1, .ro, 0x0⟩, ⟨2, 2, .ro, 0x0⟩]⟩, -- AR_VOL_CTL
  ⟨0x121004, 64, 0x40, 1, 4, [⟨0, 5, .rw, 0x0⟩, ⟨5, 3, .rw, 0x0⟩, ⟨8, 2, .rw, 0x0⟩, ⟨10, 4, .rw, 0x0⟩]⟩, -- AR_VOL_GEOM
  ⟨0x121008, 64, 0x40, 3, 4, [⟨0, 32, .rw, 0x0⟩]⟩, -- AR_VOL_SET
  ⟨0x121014, 64, 0x40, 1, 4, [⟨0, 32, .rw, 0x0⟩]⟩, -- AR_VOL_MBA_LO
  ⟨0x121018, 64, 0x40, 1, 4, [⟨0, 8, .rw, 0x0⟩]⟩, -- AR_VOL_MBA_HI
  ⟨0x12101C, 64, 0x40, 1, 4, [⟨0, 32, .rw, 0x0⟩]⟩, -- AR_VOL_ROWS
  ⟨0x121020, 64, 0x40, 1, 4, [⟨0, 10, .rw, 0x0⟩, ⟨16, 7, .rw, 0x0⟩]⟩, -- AR_VOL_PAT
  ⟨0x121024, 64, 0x40, 1, 4, [⟨0, 32, .ro, 0x0⟩]⟩, -- AR_VOL_CAP_LO
  ⟨0x121028, 64, 0x40, 1, 4, [⟨0, 8, .ro, 0x0⟩, ⟨8, 1, .ro, 0x0⟩]⟩, -- AR_VOL_CAP_HI
  ⟨0x12102C, 64, 0x40, 1, 4, [⟨0, 1, .w1c, 0x0⟩, ⟨1, 1, .w1c, 0x0⟩, ⟨2, 1, .w1c, 0x0⟩, ⟨4, 4, .ro, 0x0⟩, ⟨8, 3, .ro, 0x0⟩, ⟨11, 3, .ro, 0x0⟩, ⟨14, 2, .ro, 0x0⟩]⟩, -- AR_VOL_STAT
  ⟨0x121030, 64, 0x40, 1, 4, [⟨0, 32, .ro, 0x7F7F7F7F⟩]⟩ -- AR_VOL_FAIL
]

/-- The register table, part 13 of 19: base, block count and stride, entry count and stride, fields. -/
def rows12 : List RegDesc := [
  ⟨0x121034, 64, 0x40, 1, 4, [⟨0, 32, .rc, 0x0⟩]⟩, -- AR_VOL_RECON_CNT
  ⟨0x180000, 1, 0x1000000, 1, 4, [⟨0, 1, .rw, 0x0⟩, ⟨1, 1, .ro, 0x0⟩, ⟨2, 2, .ro, 0x0⟩]⟩, -- RB_CTL
  ⟨0x180004, 1, 0x1000000, 1, 4, [⟨0, 1, .w1c, 0x0⟩, ⟨1, 1, .w1c, 0x0⟩, ⟨2, 1, .w1c, 0x0⟩, ⟨3, 1, .w1c, 0x0⟩, ⟨4, 1, .w1c, 0x0⟩, ⟨5, 1, .w1c, 0x0⟩, ⟨6, 1, .w1c, 0x0⟩, ⟨7, 1, .w1c, 0x0⟩, ⟨8, 1, .w1c, 0x0⟩, ⟨9, 1, .w1c, 0x0⟩]⟩, -- RB_STAT
  ⟨0x180008, 1, 0x1000000, 1, 4, [⟨0, 1, .rw, 0x0⟩, ⟨1, 1, .rw, 0x0⟩, ⟨2, 1, .rw, 0x0⟩, ⟨3, 1, .rw, 0x0⟩, ⟨4, 1, .rw, 0x0⟩, ⟨5, 1, .rw, 0x0⟩, ⟨6, 1, .rw, 0x0⟩, ⟨7, 1, .rw, 0x0⟩, ⟨8, 1, .rw, 0x0⟩, ⟨9, 1, .rw, 0x0⟩]⟩, -- RB_INT_EN
  ⟨0x18000C, 1, 0x1000000, 1, 4, [⟨0, 8, .rw, 0x28⟩, ⟨8, 7, .rw, 0x14⟩, ⟨16, 7, .rw, 0xA⟩]⟩, -- RB_CFG
  ⟨0x180010, 1, 0x1000000, 1, 4, [⟨0, 4, .wo, 0x0⟩, ⟨4, 7, .rw, 0x0⟩, ⟨12, 6, .rw, 0x0⟩, ⟨20, 3, .ro, 0x0⟩]⟩, -- RB_CMD
  ⟨0x180014, 1, 0x1000000, 1, 4, [⟨0, 32, .rw, 0x0⟩]⟩, -- RB_PRIV
  ⟨0x180018, 1, 0x1000000, 1, 4, [⟨0, 32, .ro, 0x0⟩]⟩, -- RB_ACTIVE_LO
  ⟨0x18001C, 1, 0x1000000, 1, 4, [⟨0, 32, .ro, 0x0⟩]⟩, -- RB_ACTIVE_HI
  ⟨0x180020, 1, 0x1000000, 1, 4, [⟨0, 6, .ro, 0x0⟩, ⟨6, 6, .ro, 0x0⟩, ⟨12, 3, .ro, 0x0⟩, ⟨16, 7, .ro, 0x0⟩, ⟨23, 3, .ro, 0x0⟩]⟩, -- RB_RS_STAT
  ⟨0x180024, 1, 0x1000000, 1, 4, [⟨0, 32, .ro, 0x0⟩]⟩, -- RB_RS_MARK_LO
  ⟨0x180028, 1, 0x1000000, 1, 4, [⟨0, 8, .ro, 0x0⟩]⟩, -- RB_RS_MARK_HI
  ⟨0x18002C, 1, 0x1000000, 1, 4, [⟨0, 15, .ro, 0x0⟩]⟩, -- RB_FT_STAT
  ⟨0x180030, 1, 0x1000000, 1, 4, [⟨0, 2, .rw, 0x0⟩, ⟨2, 14, .rw, 0x0⟩]⟩, -- RB_FT_ADDR
  ⟨0x180034, 1, 0x1000000, 1, 4, [⟨0, 32, .ro, 0x0⟩]⟩, -- RB_FT_DATA
  ⟨0x180038, 1, 0x1000000, 1, 4, [⟨0, 32, .ro, 0x0⟩]⟩, -- RB_FROZEN_LO
  ⟨0x18003C, 1, 0x1000000, 1, 4, [⟨0, 32, .ro, 0x0⟩]⟩, -- RB_FROZEN_HI
  ⟨0x180040, 1, 0x1000000, 1, 4, [⟨0, 32, .rc, 0x0⟩]⟩, -- RB_SLOW_CNT
  ⟨0x180044, 1, 0x1000000, 1, 4, [⟨0, 32, .rc, 0x0⟩]⟩, -- RB_LATE_CNT
  ⟨0x180048, 1, 0x1000000, 1, 4, [⟨0, 32, .ro, 0x0⟩]⟩, -- RB_STRIP_CNT
  ⟨0x18004C, 1, 0x1000000, 1, 4, [⟨0, 32, .rc, 0x0⟩]⟩, -- RB_FT_ADD_CNT
  ⟨0x180100, 1, 0x1000000, 64, 4, [⟨0, 32, .ro, 0x0⟩]⟩, -- RB_CURSOR
  ⟨0x200000, 32, 0x10000, 1, 4, [⟨0, 1, .rw, 0x0⟩, ⟨1, 1, .ro, 0x0⟩, ⟨2, 2, .ro, 0x0⟩, ⟨4, 1, .rw, 0x0⟩, ⟨5, 1, .rw, 0x0⟩]⟩, -- CH_CTL
  ⟨0x200004, 32, 0x10000, 1, 4, [⟨0, 1, .w1c, 0x0⟩, ⟨1, 1, .w1c, 0x0⟩, ⟨2, 1, .w1c, 0x0⟩, ⟨3, 1, .w1c, 0x0⟩, ⟨4, 1, .w1c, 0x0⟩, ⟨5, 1, .w1c, 0x0⟩, ⟨6, 1, .w1c, 0x0⟩, ⟨7, 1, .w1c, 0x0⟩, ⟨8, 1, .w1c, 0x0⟩, ⟨9, 1, .w1c, 0x0⟩, ⟨10, 1, .w1c, 0x0⟩, ⟨11, 1, .w1c, 0x0⟩]⟩ -- CH_STAT
]

/-- The register table, part 14 of 19: base, block count and stride, entry count and stride, fields. -/
def rows13 : List RegDesc := [
  ⟨0x200008, 32, 0x10000, 1, 4, [⟨0, 1, .rw, 0x0⟩, ⟨1, 1, .rw, 0x0⟩, ⟨2, 1, .rw, 0x0⟩, ⟨3, 1, .rw, 0x0⟩, ⟨4, 1, .rw, 0x0⟩, ⟨5, 1, .rw, 0x0⟩, ⟨6, 1, .rw, 0x0⟩, ⟨7, 1, .rw, 0x0⟩, ⟨8, 1, .rw, 0x0⟩, ⟨9, 1, .rw, 0x0⟩, ⟨10, 1, .rw, 0x0⟩, ⟨11, 1, .rw, 0x0⟩]⟩, -- CH_INT_EN
  ⟨0x20000C, 32, 0x10000, 1, 4, [⟨0, 4, .rw, 0xF⟩, ⟨4, 1, .ro, 0x0⟩, ⟨8, 4, .ro, 0xF⟩]⟩, -- CH_HEADSEL
  ⟨0x200010, 32, 0x10000, 1, 4, [⟨0, 5, .ro, 0x0⟩, ⟨5, 2, .ro, 0x0⟩, ⟨8, 11, .ro, 0x0⟩]⟩, -- CH_OPSTAT
  ⟨0x200014, 32, 0x10000, 1, 4, [⟨0, 4, .rw, 0x6⟩, ⟨4, 3, .rw, 0x3⟩, ⟨8, 3, .rw, 0x4⟩, ⟨11, 3, .rw, 0x2⟩]⟩, -- CH_SYNC_CFG
  ⟨0x200018, 32, 0x10000, 1, 4, [⟨0, 32, .rwl, 0x3F2CA1B6⟩]⟩, -- CH_SYNC_PAT
  ⟨0x20001C, 32, 0x10000, 1, 4, [⟨0, 32, .rwl, 0xD0E53A4C⟩]⟩, -- CH_RESYNC_PAT
  ⟨0x200020, 32, 0x10000, 1, 4, [⟨0, 6, .rw, 0x14⟩, ⟨6, 1, .rw, 0x0⟩, ⟨8, 8, .ro, 0x80⟩, ⟨16, 8, .ro, 0x80⟩]⟩, -- CH_AGC
  ⟨0x200024, 32, 0x10000, 1, 4, [⟨0, 4, .rw, 0x6⟩, ⟨4, 4, .rw, 0xA⟩, ⟨8, 8, .rw, 0x40⟩]⟩, -- CH_TR_CFG
  ⟨0x200028, 32, 0x10000, 1, 4, [⟨0, 16, .ro, 0x0⟩, ⟨16, 1, .ro, 0x0⟩]⟩, -- CH_TR_STAT
  ⟨0x20002C, 32, 0x10000, 1, 4, [⟨0, 1, .rw, 0x1⟩, ⟨1, 3, .rw, 0x3⟩, ⟨4, 1, .rw, 0x1⟩]⟩, -- CH_EQ_CTL
  ⟨0x200030, 32, 0x10000, 1, 4, [⟨0, 5, .rw, 0x10⟩, ⟨5, 1, .rw, 0x1⟩]⟩, -- CH_DEC_CFG
  ⟨0x200034, 32, 0x10000, 1, 4, [⟨0, 4, .ro, 0x0⟩, ⟨4, 7, .ro, 0x0⟩, ⟨12, 3, .ro, 0x0⟩, ⟨15, 5, .ro, 0x0⟩]⟩, -- CH_LAST_OUT
  ⟨0x200064, 32, 0x10000, 1, 4, [⟨0, 4, .ro, 0x0⟩, ⟨4, 4, .ro, 0x0⟩, ⟨8, 4, .ro, 0x0⟩]⟩, -- CH_SMEM_STAT
  ⟨0x200038, 32, 0x10000, 1, 4, [⟨0, 16, .rw, 0x0⟩, ⟨16, 1, .rw, 0x0⟩, ⟨17, 2, .rw, 0x0⟩]⟩, -- CH_SMEM_ADDR
  ⟨0x20003C, 32, 0x10000, 1, 4, [⟨0, 30, .ro, 0x0⟩, ⟨31, 1, .ro, 0x0⟩]⟩, -- CH_SMEM_DATA
  ⟨0x200050, 32, 0x10000, 1, 4, [⟨0, 32, .ro, 0x0⟩]⟩, -- CH_SECT_CNT
  ⟨0x200054, 32, 0x10000, 1, 4, [⟨0, 32, .rc, 0x0⟩]⟩, -- CH_FAIL_CNT
  ⟨0x200058, 32, 0x10000, 1, 4, [⟨0, 32, .rc, 0x0⟩]⟩, -- CH_SYNC_MISS_CNT
  ⟨0x20005C, 32, 0x10000, 1, 4, [⟨0, 32, .rc, 0x0⟩]⟩, -- CH_UNDEC_CNT
  ⟨0x200060, 32, 0x10000, 1, 4, [⟨0, 8, .rc, 0x0⟩]⟩, -- CH_LATE_CNT
  ⟨0x200114, 32, 0x10000, 1, 4, [⟨0, 10, .rw, 0x80⟩]⟩, -- CH_EQ_TAP n=5
  ⟨0x200144, 32, 0x10000, 1, 4, [⟨0, 10, .rw, 0x80⟩]⟩, -- CH_EQ_TAP n=17
  ⟨0x200100, 32, 0x10000, 24, 4, [⟨0, 10, .rw, 0x0⟩]⟩, -- CH_EQ_TAP
  ⟨0x200200, 32, 0x10000, 32, 8, [⟨0, 13, .rwl, 0x0⟩, ⟨13, 11, .rwl, 0x0⟩]⟩ -- CH_ZTA
]

/-- The register table, part 15 of 19: base, block count and stride, entry count and stride, fields. -/
def rows14 : List RegDesc := [
  ⟨0x200204, 32, 0x10000, 32, 8, [⟨0, 5, .rwl, 0x0⟩, ⟨5, 5, .rwl, 0x0⟩, ⟨10, 5, .rwl, 0x0⟩]⟩, -- CH_ZTB
  ⟨0x207FF0, 32, 0x10000, 1, 4, [⟨31, 1, .ro, 0x0⟩, ⟨16, 8, .rc, 0x0⟩, ⟨0, 16, .ro, 0x0⟩]⟩, -- CH_PACE
  ⟨0x200040, 8, 0x40000, 1, 4, [⟨0, 4, .rw, 0x2⟩]⟩, -- CH_PA_CFG
  ⟨0x200044, 8, 0x40000, 1, 4, [⟨0, 7, .rw, 0x0⟩, ⟨7, 1, .rw, 0x0⟩, ⟨8, 1, .wo, 0x0⟩, ⟨9, 1, .ro, 0x0⟩, ⟨10, 2, .ro, 0x0⟩]⟩, -- CH_PA_CMD
  ⟨0x200048, 8, 0x40000, 1, 4, [⟨0, 16, .rw, 0x0⟩]⟩, -- CH_PA_DATA
  ⟨0x208000, 32, 0x10000, 1, 4, [⟨0, 1, .rw, 0x0⟩, ⟨1, 1, .ro, 0x0⟩, ⟨2, 2, .ro, 0x0⟩, ⟨4, 5, .rw, 0x1F⟩, ⟨9, 3, .rw, 0x4⟩, ⟨12, 3, .rw, 0x4⟩, ⟨16, 8, .rw, 0x32⟩]⟩, -- LD_CTL
  ⟨0x208004, 32, 0x10000, 1, 4, [⟨0, 1, .w1c, 0x0⟩, ⟨1, 1, .w1c, 0x0⟩, ⟨2, 1, .w1c, 0x0⟩, ⟨3, 1, .w1c, 0x0⟩, ⟨4, 1, .w1c, 0x0⟩, ⟨5, 1, .w1c, 0x0⟩, ⟨6, 1, .w1c, 0x0⟩, ⟨7, 1, .w1c, 0x0⟩]⟩, -- LD_STAT
  ⟨0x208008, 32, 0x10000, 1, 4, [⟨0, 1, .rw, 0x0⟩, ⟨1, 1, .rw, 0x0⟩, ⟨2, 1, .rw, 0x0⟩, ⟨3, 1, .rw, 0x0⟩, ⟨4, 1, .rw, 0x0⟩, ⟨5, 1, .rw, 0x0⟩, ⟨6, 1, .rw, 0x0⟩, ⟨7, 1, .rw, 0x0⟩]⟩, -- LD_INT_EN
  ⟨0x20800C, 32, 0x10000, 1, 4, [⟨0, 2, .ro, 0x0⟩, ⟨2, 3, .ro, 0x0⟩, ⟨5, 3, .ro, 0x0⟩]⟩, -- LD_ACTIVE
  ⟨0x208010, 32, 0x10000, 1, 4, [⟨0, 3, .rw, 0x6⟩, ⟨3, 1, .rw, 0x1⟩]⟩, -- LD_R1_CFG
  ⟨0x208014, 32, 0x10000, 1, 4, [⟨0, 4, .rw, 0xF⟩]⟩, -- LD_R2_CFG
  ⟨0x208018, 32, 0x10000, 1, 4, [⟨0, 3, .rw, 0x7⟩, ⟨3, 3, .rw, 0x2⟩]⟩, -- LD_R3_CFG
  ⟨0x20801C, 32, 0x10000, 1, 4, [⟨0, 7, .rw, 0x60⟩, ⟨7, 2, .rw, 0x2⟩]⟩, -- LD_R4_CFG
  ⟨0x208020, 32, 0x10000, 1, 4, [⟨0, 4, .rw, 0x4⟩, ⟨4, 8, .rw, 0xC⟩]⟩, -- LD_R5_CFG
  ⟨0x208030, 32, 0x10000, 1, 4, [⟨0, 3, .ro, 0x0⟩, ⟨3, 3, .ro, 0x0⟩, ⟨6, 2, .ro, 0x0⟩, ⟨8, 5, .ro, 0x0⟩, ⟨13, 7, .ro, 0x0⟩]⟩, -- LD_LAST
  ⟨0x208040, 32, 0x10000, 1, 4, [⟨0, 8, .rwl, 0x1A⟩, ⟨8, 8, .rwl, 0x33⟩, ⟨16, 8, .rwl, 0xF⟩, ⟨24, 4, .rw, 0x8⟩, ⟨28, 3, .rw, 0x3⟩, ⟨31, 1, .rw, 0x0⟩]⟩, -- LD_WG_CFG
  ⟨0x208044, 32, 0x10000, 1, 4, [⟨0, 5, .rw, 0x8⟩, ⟨8, 8, .rw, 0x10⟩]⟩, -- LD_VFY_CFG
  ⟨0x208050, 32, 0x10000, 1, 4, [⟨0, 32, .rc, 0x0⟩]⟩, -- LD_RECON_CNT
  ⟨0x208054, 32, 0x10000, 1, 4, [⟨0, 32, .rc, 0x0⟩]⟩, -- LD_GIVEUP_CNT
  ⟨0x208058, 32, 0x10000, 1, 4, [⟨0, 32, .rc, 0x0⟩]⟩, -- LD_SEED_CNT
  ⟨0x20805C, 32, 0x10000, 1, 4, [⟨0, 32, .rc, 0x0⟩]⟩, -- LD_LATE_CNT
  ⟨0x208060, 32, 0x10000, 5, 4, [⟨0, 32, .rc, 0x0⟩]⟩, -- LD_RUNG_CNT
  ⟨0x208074, 32, 0x10000, 1, 4, [⟨0, 32, .rc, 0x0⟩]⟩, -- LD_WG_CNT
  ⟨0x208078, 32, 0x10000, 1, 4, [⟨0, 16, .rc, 0x0⟩, ⟨16, 16, .rc, 0x0⟩]⟩ -- LD_RDR_CNT
]

/-- The register table, part 16 of 19: base, block count and stride, entry count and stride, fields. -/
def rows15 : List RegDesc := [
  ⟨0x208114, 32, 0x10000, 1, 4, [⟨0, 10, .rw, 0x80⟩]⟩, -- LD_RTAP n=5
  ⟨0x208144, 32, 0x10000, 1, 4, [⟨0, 10, .rw, 0x80⟩]⟩, -- LD_RTAP n=17
  ⟨0x208100, 32, 0x10000, 24, 4, [⟨0, 10, .rw, 0x0⟩]⟩, -- LD_RTAP
  ⟨0x20807C, 8, 0x40000, 1, 4, [⟨0, 12, .rw, 0x0⟩, ⟨16, 12, .rw, 0x0⟩]⟩, -- LD_RDR_OFF
  ⟨0x400000, 8, 0x10000, 1, 4, [⟨0, 1, .rw, 0x0⟩, ⟨1, 1, .ro, 0x0⟩, ⟨2, 2, .ro, 0x0⟩, ⟨4, 1, .rw, 0x0⟩, ⟨5, 1, .rw, 0x1⟩, ⟨6, 1, .rw, 0x1⟩]⟩, -- SV_CTL
  ⟨0x400004, 8, 0x10000, 1, 4, [⟨0, 1, .w1c, 0x0⟩, ⟨1, 1, .w1c, 0x0⟩, ⟨2, 1, .w1c, 0x0⟩, ⟨3, 1, .w1c, 0x0⟩, ⟨4, 1, .w1c, 0x0⟩, ⟨5, 1, .w1c, 0x0⟩, ⟨6, 1, .w1c, 0x0⟩, ⟨7, 1, .w1c, 0x0⟩, ⟨8, 1, .w1c, 0x0⟩, ⟨9, 1, .w1c, 0x0⟩, ⟨10, 1, .w1c, 0x0⟩, ⟨11, 1, .w1c, 0x0⟩, ⟨12, 1, .w1c, 0x0⟩, ⟨13, 1, .w1c, 0x0⟩, ⟨14, 1, .w1c, 0x0⟩, ⟨15, 1, .w1c, 0x0⟩, ⟨16, 1, .w1c, 0x0⟩]⟩, -- SV_STAT
  ⟨0x400008, 8, 0x10000, 1, 4, [⟨0, 1, .rw, 0x0⟩, ⟨1, 1, .rw, 0x0⟩, ⟨2, 1, .rw, 0x0⟩, ⟨3, 1, .rw, 0x0⟩, ⟨4, 1, .rw, 0x0⟩, ⟨5, 1, .rw, 0x0⟩, ⟨6, 1, .rw, 0x0⟩, ⟨7, 1, .rw, 0x0⟩, ⟨8, 1, .rw, 0x0⟩, ⟨9, 1, .rw, 0x0⟩, ⟨10, 1, .rw, 0x0⟩, ⟨11, 1, .rw, 0x0⟩, ⟨12, 1, .rw, 0x0⟩, ⟨13, 1, .rw, 0x0⟩, ⟨14, 1, .rw, 0x0⟩, ⟨15, 1, .rw, 0x0⟩, ⟨16, 1, .rw, 0x0⟩]⟩, -- SV_INT_EN
  ⟨0x40000C, 8, 0x10000, 1, 4, [⟨0, 4, .ro, 0x0⟩, ⟨4, 4, .ro, 0x0⟩, ⟨8, 1, .ro, 0x0⟩, ⟨9, 2, .ro, 0x0⟩, ⟨11, 3, .ro, 0x0⟩]⟩, -- SV_MODE
  ⟨0x400010, 8, 0x10000, 1, 4, [⟨0, 4, .wo, 0x0⟩, ⟨4, 3, .ro, 0x0⟩]⟩, -- SV_CMD
  ⟨0x400014, 8, 0x10000, 1, 4, [⟨0, 20, .rw, 0x0⟩]⟩, -- SV_TARGET
  ⟨0x400018, 8, 0x10000, 1, 4, [⟨0, 20, .ro, 0x0⟩, ⟨20, 9, .ro, 0x0⟩]⟩, -- SV_POS
  ⟨0x40001C, 8, 0x10000, 1, 4, [⟨0, 16, .ro, 0xFFFF⟩, ⟨16, 4, .ro, 0x0⟩, ⟨20, 4, .ro, 0x0⟩, ⟨24, 4, .ro, 0x0⟩, ⟨28, 4, .ro, 0x0⟩]⟩, -- SV_HEADS
  ⟨0x400020, 8, 0x10000, 1, 4, [⟨0, 32, .ro, 0x0⟩]⟩, -- SV_PES
  ⟨0x400024, 8, 0x10000, 1, 4, [⟨0, 8, .rw, 0x20⟩, ⟨8, 4, .rw, 0x3⟩, ⟨12, 8, .rw, 0x10⟩, ⟨20, 4, .rw, 0x6⟩]⟩, -- SV_SETTLE
  ⟨0x400028, 8, 0x10000, 1, 4, [⟨0, 8, .rw, 0xF0⟩, ⟨8, 12, .rw, 0x190⟩, ⟨20, 5, .rw, 0xA⟩]⟩, -- SV_SEEK_CFG
  ⟨0x40002C, 8, 0x10000, 1, 4, [⟨0, 16, .rwl, 0x5DC⟩, ⟨16, 8, .rwl, 0x50⟩]⟩, -- SV_LIM
  ⟨0x400030, 8, 0x10000, 1, 4, [⟨0, 3, .rw, 0x4⟩, ⟨3, 8, .rw, 0x28⟩, ⟨11, 7, .rw, 0x19⟩]⟩, -- SV_FB_CFG
  ⟨0x400034, 8, 0x10000, 1, 4, [⟨0, 8, .rw, 0x96⟩, ⟨8, 8, .rw, 0x32⟩, ⟨16, 8, .rw, 0x64⟩, ⟨24, 8, .rw, 0x96⟩]⟩, -- SV_UNLOAD
  ⟨0x400038, 8, 0x10000, 1, 4, [⟨0, 16, .rwl, 0x1F40⟩, ⟨16, 16, .rwl, 0x190⟩]⟩, -- SV_BEMF
  ⟨0x40003C, 8, 0x10000, 1, 4, [⟨0, 1, .rw, 0x0⟩, ⟨1, 1, .rw, 0x0⟩, ⟨2, 4, .rw, 0x6⟩, ⟨6, 4, .rw, 0x0⟩, ⟨10, 5, .rw, 0x2⟩, ⟨15, 1, .wo, 0x0⟩]⟩, -- SV_RC_CTL
  ⟨0x400040, 8, 0x10000, 1, 4, [⟨0, 9, .rw, 0x0⟩, ⟨9, 4, .rw, 0x0⟩]⟩, -- SV_RC_ADDR
  ⟨0x400044, 8, 0x10000, 1, 4, [⟨0, 16, .rw, 0x0⟩]⟩, -- SV_RC_DATA
  ⟨0x400048, 8, 0x10000, 1, 4, [⟨0, 1, .rw, 0x0⟩, ⟨1, 2, .rw, 0x0⟩, ⟨3, 2, .rw, 0x0⟩, ⟨16, 16, .rw, 0x0⟩]⟩, -- SV_TSI_CTL
  ⟨0x40004C, 8, 0x10000, 1, 4, [⟨0, 32, .rw, 0x0⟩]⟩ -- SV_TSI_FREQ
]

/-- The register table, part 17 of 19: base, block count and stride, entry count and stride, fields. -/
def rows16 : List RegDesc := [
  ⟨0x400050, 8, 0x10000, 1, 4, [⟨0, 4, .rw, 0x0⟩, ⟨4, 4, .rw, 0x0⟩, ⟨8, 2, .rw, 0x0⟩, ⟨10, 1, .wo, 0x0⟩, ⟨11, 1, .ro, 0x0⟩, ⟨12, 12, .rw, 0x800⟩]⟩, -- SV_CAP_CTL
  ⟨0x400054, 8, 0x10000, 1, 4, [⟨0, 12, .rw, 0x0⟩, ⟨16, 12, .ro, 0x0⟩]⟩, -- SV_CAP_ADDR
  ⟨0x400058, 8, 0x10000, 1, 4, [⟨0, 16, .ro, 0x0⟩, ⟨16, 16, .ro, 0x0⟩]⟩, -- SV_CAP_DATA
  ⟨0x40005C, 8, 0x10000, 1, 4, [⟨0, 1, .w1c, 0x0⟩, ⟨1, 1, .w1c, 0x0⟩, ⟨2, 4, .w1c, 0x0⟩, ⟨6, 4, .w1c, 0x0⟩, ⟨10, 1, .w1c, 0x0⟩, ⟨11, 1, .w1c, 0x0⟩]⟩, -- SV_SAT
  ⟨0x400060, 8, 0x10000, 1, 4, [⟨0, 32, .rc, 0x0⟩]⟩, -- SV_OVR_CNT
  ⟨0x400064, 8, 0x10000, 1, 4, [⟨0, 32, .rc, 0x0⟩]⟩, -- SV_LATE_CNT
  ⟨0x400068, 8, 0x10000, 1, 4, [⟨0, 32, .rc, 0x0⟩]⟩, -- SV_FBL_CNT
  ⟨0x40006C, 8, 0x10000, 1, 4, [⟨0, 14, .ro, 0x0⟩, ⟨16, 14, .rc, 0x0⟩]⟩, -- SV_TIMING
  ⟨0x400074, 8, 0x10000, 1, 4, [⟨0, 8, .rc, 0x0⟩, ⟨8, 8, .rc, 0x0⟩, ⟨16, 8, .rc, 0x0⟩]⟩, -- SV_SEQ_LATE_CNT
  ⟨0x400080, 8, 0x10000, 12, 4, [⟨0, 16, .rwl, 0x0⟩]⟩, -- SV_HOFS
  ⟨0x400100, 8, 0x10000, 64, 4, [⟨0, 24, .rwl, 0x0⟩, ⟨24, 6, .rwl, 0x0⟩]⟩, -- SV_COEF
  ⟨0x407FF0, 8, 0x10000, 1, 4, [⟨31, 1, .ro, 0x0⟩, ⟨16, 8, .rc, 0x0⟩, ⟨0, 16, .ro, 0x0⟩]⟩, -- SV_PACE
  ⟨0x400070, 1, 0x1000000, 1, 4, [⟨0, 9, .ro, 0x0⟩, ⟨9, 9, .ro, 0x0⟩, ⟨18, 1, .ro, 0x0⟩, ⟨19, 1, .ro, 0x0⟩]⟩, -- SV_ACC
  ⟨0x480000, 4, 0x10000, 1, 4, [⟨0, 1, .rw, 0x0⟩, ⟨1, 1, .ro, 0x0⟩, ⟨2, 2, .ro, 0x0⟩]⟩, -- SP_CTL
  ⟨0x480004, 4, 0x10000, 1, 4, [⟨0, 1, .w1c, 0x0⟩, ⟨1, 1, .w1c, 0x0⟩, ⟨2, 1, .w1c, 0x0⟩, ⟨3, 1, .w1c, 0x0⟩, ⟨4, 1, .w1c, 0x0⟩, ⟨5, 1, .w1c, 0x0⟩, ⟨6, 1, .w1c, 0x0⟩, ⟨7, 1, .w1c, 0x0⟩, ⟨8, 1, .w1c, 0x0⟩, ⟨9, 1, .w1c, 0x0⟩, ⟨10, 1, .w1c, 0x0⟩, ⟨11, 1, .w1c, 0x0⟩, ⟨12, 1, .w1c, 0x0⟩, ⟨13, 1, .w1c, 0x0⟩, ⟨14, 1, .w1c, 0x0⟩]⟩, -- SP_STAT
  ⟨0x480008, 4, 0x10000, 1, 4, [⟨0, 1, .rw, 0x0⟩, ⟨1, 1, .rw, 0x0⟩, ⟨2, 1, .rw, 0x0⟩, ⟨3, 1, .rw, 0x0⟩, ⟨4, 1, .rw, 0x0⟩, ⟨5, 1, .rw, 0x0⟩, ⟨6, 1, .rw, 0x0⟩, ⟨7, 1, .rw, 0x0⟩, ⟨8, 1, .rw, 0x0⟩, ⟨9, 1, .rw, 0x0⟩, ⟨10, 1, .rw, 0x0⟩, ⟨11, 1, .rw, 0x0⟩, ⟨12, 1, .rw, 0x0⟩, ⟨13, 1, .rw, 0x0⟩, ⟨14, 1, .rw, 0x0⟩]⟩, -- SP_INT_EN
  ⟨0x48000C, 4, 0x10000, 1, 4, [⟨0, 4, .ro, 0x0⟩, ⟨4, 1, .ro, 0x0⟩, ⟨5, 9, .ro, 0x17C⟩, ⟨14, 2, .ro, 0x0⟩, ⟨16, 5, .ro, 0x0⟩]⟩, -- SP_MODE
  ⟨0x480010, 4, 0x10000, 1, 4, [⟨0, 4, .wo, 0x0⟩, ⟨4, 3, .ro, 0x0⟩]⟩, -- SP_CMD
  ⟨0x480014, 4, 0x10000, 1, 4, [⟨0, 13, .rw, 0x1C20⟩]⟩, -- SP_SET
  ⟨0x480018, 4, 0x10000, 1, 4, [⟨0, 16, .ro, 0x0⟩, ⟨16, 1, .ro, 0x0⟩]⟩, -- SP_SPEED
  ⟨0x48001C, 4, 0x10000, 1, 4, [⟨0, 11, .ro, 0x0⟩, ⟨11, 1, .ro, 0x0⟩, ⟨12, 1, .ro, 0x0⟩]⟩, -- SP_BUS
  ⟨0x480020, 4, 0x10000, 1, 4, [⟨0, 16, .ro, 0x0⟩, ⟨16, 16, .ro, 0x0⟩]⟩, -- SP_CURR
  ⟨0x480024, 4, 0x10000, 1, 4, [⟨0, 4, .rwl, 0x0⟩, ⟨4, 11, .rwl, 0x0⟩, ⟨15, 9, .rwl, 0x0⟩, ⟨24, 8, .rwl, 0x0⟩]⟩, -- SP_MOTOR
  ⟨0x480028, 4, 0x10000, 1, 4, [⟨0, 8, .rwl, 0x78⟩, ⟨8, 8, .rwl, 0xA0⟩, ⟨16, 13, .rwl, 0x1CE8⟩]⟩ -- SP_LIM
]

/-- The register table, part 18 of 19: base, block count and stride, entry count and stride, fields. -/
def rows17 : List RegDesc := [
  ⟨0x48002C, 4, 0x10000, 1, 4, [⟨0, 4, .rw, 0x5⟩, ⟨4, 4, .rw, 0x9⟩, ⟨8, 8, .rw, 0x5⟩, ⟨16, 8, .rw, 0x64⟩]⟩, -- SP_REG_CFG
  ⟨0x480030, 4, 0x10000, 1, 4, [⟨0, 9, .rwl, 0x17C⟩, ⟨9, 9, .rwl, 0x154⟩, ⟨18, 4, .rw, 0x4⟩, ⟨22, 7, .rwl, 0x64⟩]⟩, -- SP_PWM_CFG
  ⟨0x480034, 4, 0x10000, 1, 4, [⟨0, 8, .rw, 0x28⟩, ⟨8, 4, .rw, 0x8⟩, ⟨12, 8, .rw, 0x14⟩, ⟨20, 3, .rw, 0x6⟩]⟩, -- SP_OBS_CFG
  ⟨0x480038, 4, 0x10000, 1, 4, [⟨0, 11, .rwl, 0x53C⟩, ⟨11, 8, .rw, 0x50⟩, ⟨19, 8, .rwl, 0x32⟩, ⟨27, 5, .rwl, 0x8⟩]⟩, -- SP_BRAKE_CFG
  ⟨0x48003C, 4, 0x10000, 1, 4, [⟨0, 8, .rc, 0x0⟩, ⟨8, 8, .rc, 0x0⟩, ⟨16, 8, .rc, 0x0⟩, ⟨24, 8, .rc, 0x0⟩]⟩, -- SP_LATE_CNT
  ⟨0x480040, 4, 0x10000, 1, 4, [⟨0, 16, .rc, 0x0⟩, ⟨16, 16, .rc, 0x0⟩]⟩, -- SP_LOSS_CNT
  ⟨0x500000, 1, 0x1000000, 1, 4, [⟨0, 1, .rw, 0x0⟩, ⟨1, 1, .ro, 0x0⟩, ⟨2, 2, .ro, 0x0⟩]⟩, -- MC_CTL
  ⟨0x500004, 1, 0x1000000, 1, 4, [⟨0, 1, .w1c, 0x0⟩, ⟨1, 1, .w1c, 0x0⟩, ⟨2, 1, .w1c, 0x0⟩, ⟨3, 1, .w1c, 0x0⟩, ⟨4, 1, .w1c, 0x0⟩, ⟨5, 1, .w1c, 0x0⟩]⟩, -- MC_STAT
  ⟨0x500008, 1, 0x1000000, 1, 4, [⟨0, 1, .rw, 0x0⟩, ⟨1, 1, .rw, 0x0⟩, ⟨2, 1, .rw, 0x0⟩, ⟨3, 1, .rw, 0x0⟩, ⟨4, 1, .rw, 0x0⟩, ⟨5, 1, .rw, 0x0⟩]⟩, -- MC_INT_EN
  ⟨0x50000C, 1, 0x1000000, 1, 4, [⟨0, 9, .rwl, 0x40⟩]⟩, -- MC_CFG
  ⟨0x500010, 1, 0x1000000, 1, 4, [⟨0, 8, .ro, 0x2⟩, ⟨8, 8, .ro, 0x1⟩]⟩, -- MC_IFV
  ⟨0x500014, 1, 0x1000000, 1, 4, [⟨0, 1, .ro, 0x0⟩, ⟨1, 2, .ro, 0x0⟩, ⟨3, 3, .ro, 0x0⟩, ⟨16, 10, .ro, 0x0⟩]⟩, -- MC_LOAD
  ⟨0x500018, 1, 0x1000000, 1, 4, [⟨0, 32, .ro, 0x0⟩]⟩, -- MC_IMG_VER
  ⟨0x50001C, 1, 0x1000000, 1, 4, [⟨0, 9, .ro, 0x0⟩, ⟨9, 9, .ro, 0x0⟩]⟩, -- MC_OCC
  ⟨0x500020, 1, 0x1000000, 1, 4, [⟨0, 8, .rw, 0x0⟩, ⟨8, 1, .wo, 0x0⟩]⟩, -- MC_CTX_SEL
  ⟨0x500024, 1, 0x1000000, 1, 4, [⟨0, 2, .ro, 0x0⟩, ⟨2, 1, .ro, 0x0⟩, ⟨3, 1, .ro, 0x0⟩, ⟨4, 1, .ro, 0x0⟩, ⟨5, 8, .ro, 0x0⟩, ⟨13, 3, .ro, 0x0⟩, ⟨16, 14, .ro, 0x0⟩]⟩, -- MC_CTX_STAT
  ⟨0x500040, 1, 0x1000000, 16, 4, [⟨0, 32, .ro, 0x0⟩]⟩, -- MC_FRAME
  ⟨0x500080, 1, 0x1000000, 1, 4, [⟨0, 8, .rw, 0x0⟩]⟩, -- MC_DISP_ADDR
  ⟨0x500084, 1, 0x1000000, 1, 4, [⟨0, 32, .ro, 0x0⟩]⟩, -- MC_DISP_DATA
  ⟨0x500088, 1, 0x1000000, 1, 4, [⟨0, 14, .rw, 0x0⟩, ⟨14, 1, .rw, 0x0⟩, ⟨15, 3, .rw, 0x0⟩]⟩, -- MC_STORE_ADDR
  ⟨0x50008C, 1, 0x1000000, 1, 4, [⟨0, 32, .ro, 0x0⟩]⟩, -- MC_STORE_DATA
  ⟨0x500090, 1, 0x1000000, 1, 4, [⟨0, 32, .rwl, 0x0⟩]⟩, -- MC_IMG_BASE_LO
  ⟨0x500094, 1, 0x1000000, 1, 4, [⟨0, 32, .rwl, 0x0⟩]⟩, -- MC_IMG_BASE_HI
  ⟨0x500098, 1, 0x1000000, 1, 4, [⟨0, 32, .rwl, 0x0⟩]⟩ -- MC_CUST_BASE_LO
]

/-- The register table, part 19 of 19: base, block count and stride, entry count and stride, fields. -/
def rows18 : List RegDesc := [
  ⟨0x50009C, 1, 0x1000000, 1, 4, [⟨0, 32, .rwl, 0x0⟩]⟩, -- MC_CUST_BASE_HI
  ⟨0x5000A0, 1, 0x1000000, 1, 4, [⟨0, 12, .rwl, 0x0⟩]⟩, -- MC_CUST_SIZE
  ⟨0x5000B0, 1, 0x1000000, 1, 4, [⟨0, 32, .ro, 0x0⟩]⟩, -- MC_TRAP_CNT
  ⟨0x5000B4, 1, 0x1000000, 1, 4, [⟨0, 32, .rc, 0x0⟩]⟩, -- MC_DEFER_CNT
  ⟨0x5000B8, 1, 0x1000000, 1, 4, [⟨0, 32, .rc, 0x0⟩]⟩, -- MC_ILLEGAL_CNT
  ⟨0x5000BC, 1, 0x1000000, 1, 4, [⟨0, 32, .rc, 0x0⟩]⟩, -- MC_UE_CNT
  ⟨0x507FF0, 1, 0x1000000, 1, 4, [⟨31, 1, .ro, 0x0⟩, ⟨16, 8, .rc, 0x0⟩, ⟨0, 16, .ro, 0x0⟩]⟩ -- MC_PACE
]

/-- Every register of the control window that the spec names. -/
def rows : List RegDesc := rows0 ++ rows1 ++ rows2 ++ rows3 ++ rows4 ++ rows5 ++ rows6 ++ rows7 ++ rows8 ++ rows9 ++ rows10 ++ rows11 ++ rows12 ++ rows13 ++ rows14 ++ rows15 ++ rows16 ++ rows17 ++ rows18

end Sys2Proof.Machine.Reg
end

