-- ==== Sys2Proof/Machine/Tbl.lean ====
section
/-! DEFINITION. Machine/Tbl.lean: the operations on sparse tables (keys strictly rising, no entry equal
to the default), on register words and on bit fields, and the small list and byte helpers used by every family. -/

namespace Sys2Proof

/-- The entry at key `k`, if it is listed. -/
def Tbl.find {α : Type} : Tbl α → Nat → Option α
  | [], _ => none
  | (j, v) :: t, k => if j = k then some v else Tbl.find t k

/-- The table without key `k`. -/
def Tbl.drop {α : Type} : Tbl α → Nat → Tbl α
  | [], _ => []
  | (j, v) :: t, k => if j = k then Tbl.drop t k else (j, v) :: Tbl.drop t k

/-- The table with `v` at key `k`, the keys kept rising. -/
def Tbl.ins {α : Type} : Tbl α → Nat → α → Tbl α
  | [], k, v => [(k, v)]
  | (j, x) :: t, k, v =>
    if k < j then (k, v) :: (j, x) :: t
    else if k = j then (k, v) :: t
    else (j, x) :: Tbl.ins t k v

/-- The entry at `k`, or the default `d`. -/
def Tbl.getD {α : Type} (t : Tbl α) (k : Nat) (d : α) : α := (t.find k).getD d

/-- The table with `v` at `k`; an entry equal to the default `d` is not listed. -/
def Tbl.putD {α : Type} [DecidableEq α] (t : Tbl α) (k : Nat) (d v : α) : Tbl α :=
  if v = d then t.drop k else t.ins k v

/-- Keys strictly rising. -/
def Tbl.rising {α : Type} : Tbl α → Bool
  | [] => true
  | [_] => true
  | (a, _) :: (b, y) :: t => decide (a < b) && Tbl.rising ((b, y) :: t)

/-- The bits `lo + w - 1 : lo` of a register word (R10). -/
def fieldOf (v : Word) (lo w : Nat) : Nat := (v.toNat / 2 ^ lo) % 2 ^ w

/-- The register word `v` with bits `lo + w - 1 : lo` replaced by `x`, taken modulo the width. -/
def setField (v : Word) (lo w x : Nat) : Word :=
  BitVec.ofNat 32 (v.toNat - fieldOf v lo w * 2 ^ lo + (x % 2 ^ w) * 2 ^ lo)

/-- One bit of a number. -/
def bitOf (n i : Nat) : Nat := (n / 2 ^ i) % 2

/-- The number with bit `i` set. -/
def setBit (n i : Nat) : Nat := if bitOf n i = 1 then n else n + 2 ^ i

/-- The number with bit `i` cleared. -/
def clrBit (n i : Nat) : Nat := if bitOf n i = 1 then n - 2 ^ i else n

/-- A field of a number that is no register. -/
def bitsOf (n lo w : Nat) : Nat := (n / 2 ^ lo) % 2 ^ w

/-- Values packed from bit 0 upward, each at its own width (R679). -/
def pk : List (Nat × Nat) → Nat
  | [] => 0
  | (v, w) :: t => v % 2 ^ w + 2 ^ w * pk t

/-- A signed value from its two's-complement code of `w` bits. -/
def sgn (w n : Nat) : Int := if n % 2 ^ w < 2 ^ (w - 1) then (n % 2 ^ w : Nat) else (n % 2 ^ w : Nat) - (2 ^ w : Nat)

/-- The two's-complement code of `w` bits of a signed value. -/
def unsgn (w : Nat) (i : Int) : Nat := (i % ((2 ^ w : Nat) : Int)).toNat

/-- A number clamped into a range. -/
def clampN (lo hi n : Nat) : Nat := if n < lo then lo else if n > hi then hi else n

/-- A signed number clamped into a range. -/
def clampI (lo hi i : Int) : Int := if i < lo then lo else if i > hi then hi else i

/-- `b` as a register bit. -/
def b2n (b : Bool) : Nat := if b then 1 else 0

/-- A value of which 0 acts as 1. -/
def atLeast1 (n : Nat) : Nat := if n = 0 then 1 else n

/-- The numbers below `n`. -/
def upTo (n : Nat) : List Nat := List.range n

/-- The number of set bits among the low `w`. -/
def popCount (n w : Nat) : Nat := ((upTo w).filter (fun i => bitOf n i = 1)).length

/-- The register description that covers an address, if any. -/
def RegDesc.covers (r : RegDesc) (addr : Nat) : Bool :=
  let o := addr - r.base
  let i := o / r.s1
  let m := o % r.s1
  decide (r.base ≤ addr) && decide (i < r.n1) && decide (m % r.s2 = 0) && decide (m / r.s2 < r.n2)

/-- The fields of the register at an address; none for a reserved address (R47). -/
def regFields (addr : Nat) : Option (List FieldDesc) :=
  (Machine.Reg.rows.find? (fun r => r.covers addr)).map (·.fields)

/-- The value with the reset value of every field in place (R17). -/
def assemble : List FieldDesc → Nat
  | [] => 0
  | f :: t => f.rst * 2 ^ f.lo + assemble t

end Sys2Proof
end

