-- ==== Sys2Proof/Machine/Code.lean ====
section
/-! DEFINITION. Machine/Code.lean: the codes of the block as pure functions: CRC-8 (R63), CRC-32C (R76), the scrambler
(R77), the quasi-cyclic LDPC code (R78), and the mark searches (R82, R84). -/

namespace Sys2Proof.Code

/-- CRC-8 of `n` bits of `data`, most significant first, from `c` (R63: x^8 + x^2 + x + 1). -/
def crc8From : Nat → Nat → Nat → Nat
  | 0, _, c => c
  | n + 1, data, c =>
    let fb := (c / 128 + data / 2 ^ n) % 2
    crc8From n data (if fb = 1 then ((c * 2) % 256) ^^^ 0x07 else (c * 2) % 256)

/-- CRC-8 with initial value 0 (R63, R64). -/
def crc8 (n data : Nat) : Nat := crc8From n data 0

/-- One step of the reflected CRC-32C: the polynomial 0x1EDC6F41 bit-reversed. -/
def crc32Step (c bit : Nat) : Nat := if (c + bit) % 2 = 1 then (c / 2) ^^^ 0x82F63B78 else c / 2

/-- `n` bits of `data`, least significant first, through the CRC register `c`. -/
def crc32From : Nat → Nat → Nat → Nat
  | 0, _, c => c
  | n + 1, data, c => crc32From n (data / 2) (crc32Step c (data % 2))

/-- CRC-32C of `n` bits, bytes least significant first (R76). -/
def crc32c (n data : Nat) : Nat := crc32From n data 0xFFFFFFFF ^^^ 0xFFFFFFFF

/-- The seed of a sector (R75). -/
def seed (member mba : Nat) : Nat := mba % 2 ^ 40 + (member % 128) * 2 ^ 40

/-- BCRC over seed, data and metadata (R76). -/
def bcrc (sd data metaWord : Nat) : Nat := crc32c 32848 (sd + data * 2 ^ 48 + metaWord * 2 ^ 32816)

/-- The block CRC without a seed: over the 4,096 user bytes (R473 and the transfers that carry VCRC). -/
def blockCrc (data : Nat) : Nat := crc32c 32768 data

/-- The first `n` bits of the scrambler from a state, bit 0 first (R77). DESIGN CHOICE 4: each bit is state bit 30 xor
state bit 27, and enters the state at bit 0. -/
def scramBits : Nat → Nat → Nat → Nat → Nat
  | 0, _, _, acc => acc
  | n + 1, st, k, acc =>
    let b := (st / 2 ^ 30 + st / 2 ^ 27) % 2
    scramBits n ((st * 2) % 2 ^ 31 + b) (k + 1) (acc + b * 2 ^ k)

/-- The scrambler's output for a sector (R77). -/
def scrambler (sd : Nat) : Nat :=
  let c := crc32c 48 sd % 2 ^ 31
  scramBits 32832 (if c = 0 then 0x7FFFFFFF else c) 0 0

/-- Column block `j` of a codeword. -/
def blk (cw j : Nat) : Nat := (cw / 2 ^ (456 * j)) % 2 ^ 456

/-- The circulant of shift `s` applied to a 456-bit block (R78). -/
def rot (x s : Nat) : Nat := (x / 2 ^ s + x * 2 ^ (456 - s)) % 2 ^ 456

/-- The shift of R78 for j from 0 to 71. -/
def shift (i j : Nat) : Nat := (37 * (i + 1) * (j + 1) + 11 * i * i) % 456

/-- The block rows with a circulant in column block j, j from 0 to 71 (R78). -/
def inRow (i j : Nat) : Bool := i == j % 8 || i == (j + 3) % 8 || i == (j + 5) % 8

/-- The sum of the data blocks in block row i. -/
def rowSum (cw i : Nat) : Nat :=
  (List.range 72).foldl (fun acc j => if inRow i j then acc ^^^ rot (blk cw j) (shift i j) else acc) 0

/-- The syndrome of block row i (R78). -/
def syndrome (cw i : Nat) : Nat :=
  rowSum cw i ^^^ blk cw (72 + i) ^^^ (if i = 0 then 0 else blk cw (71 + i))

/-- Every check is satisfied. -/
def converged (cw : Nat) : Bool := (List.range 8).all (fun i => syndrome cw i == 0)

/-- Parity by accumulation, row after row (R78): block rows from `i`, with the parity block of the row before. -/
def parityFrom (cw : Nat) : Nat → Nat → Nat → Nat
  | 0, _, _ => 0
  | n + 1, i, prev =>
    let p := rowSum cw i ^^^ prev
    p + 2 ^ 456 * parityFrom cw n (i + 1) p

/-- The codeword of a sector (R74–R78). -/
def encode (sd data metaWord : Nat) : Nat :=
  let plain := data + metaWord * 2 ^ 32768 + bcrc sd data metaWord * 2 ^ 32800
  let info := plain ^^^ scrambler sd
  info + 2 ^ 32832 * parityFrom info 8 0 0

/-- What a codeword holds once descrambled with a seed. -/
structure Plain where
  data : Nat
  metaWord : Nat
  crc : Nat
  deriving DecidableEq, Repr

/-- Descrambling (R77). -/
def descramble (sd cw : Nat) : Plain :=
  let p := (cw % 2 ^ 32832) ^^^ scrambler sd
  { data := p % 2 ^ 32768, metaWord := (p / 2 ^ 32768) % 2 ^ 32, crc := p / 2 ^ 32800 }

/-- A sector read is accepted (R79). -/
def accepts (sd : Nat) (p : Plain) : Bool := p.crc == bcrc sd p.data p.metaWord

/-- The bits of a mark reversed: bit 31 of the pattern comes first in the stream. -/
def rev32 (v : Nat) : Nat := (List.range 32).foldl (fun acc k => acc + ((v / 2 ^ k) % 2) * 2 ^ (31 - k)) 0

/-- Mismatched bits of a mark at stream position `at_` of `bits`. -/
def mismatch (pat bits pos : Nat) : Nat := popCount (((bits / 2 ^ pos) % 2 ^ 32) ^^^ rev32 pat) 32

/-- The first position from −window to +window with at most `thresh` mismatches (R82, R84): `mid` is the position of
offset 0 in `bits`. The offset and its mismatches. -/
def searchMark (pat bits mid window thresh : Nat) : Option (Int × Nat) :=
  ((List.range (2 * window + 1)).map (fun (k : Nat) => ((((k : Nat) : Int) - (window : Int)), mismatch pat bits ((mid + k) - window)))).find?
    (fun x => decide (x.2 ≤ thresh))

/-! The sector slot (R70–R73, R89). -/

/-- Bits of a sector slot, of them those written, and the stream bit of the sync mark. -/
def slotLen : Nat := 36992
def slotWritten : Nat := 36672
def markAt : Nat := 96

/-- `n` nibbles of the pattern 0b0011, first bit 0, as a number whose bit 0 is first in the stream. -/
def preamble : Nat → Nat
  | 0 => 0
  | n + 1 => 0xC + 16 * preamble n

/-- The written bits of a slot (R70): preamble, sync mark with bit 31 first, codeword, postamble. -/
def slotBits (pat cw : Nat) : Nat :=
  preamble 24 + rev32 pat * 2 ^ markAt + cw % 2 ^ 36480 * 2 ^ 128 + preamble 16 * 2 ^ 36608

/-- Stream bit `i` differs from the one before it: a transition of the magnetization (R73). Stream bit 0 has none before it. -/
def transition (bits i : Nat) : Bool := decide (0 < i) && decide ((bits / 2 ^ i) % 2 ≠ (bits / 2 ^ (i - 1)) % 2)

/-- The delay of the transition at stream bit `i` in 1/64 bit (R89): `pc` holds PC1, PC2 and PC3. -/
def delayAt (pc : List Nat) (bits i : Nat) : Nat :=
  if !transition bits i then 0
  else match decide (1 ≤ i) && transition bits (i - 1), decide (2 ≤ i) && transition bits (i - 2) with
    | true, true => pc.getD 2 0
    | true, false => pc.getD 0 0
    | false, true => pc.getD 1 0
    | false, false => 0

/-- Data bits of one data interval at a zone rate in Mb/s (R98). -/
def interval (rate : Nat) : Nat := rate * 17739 / 1000 - 64

/-- First data-stream bit of sector k (R71). -/
def sectorStart (k : Nat) : Nat := k * slotLen

/-- The wedge before which data-stream bit `b` of a track lies, `w` its starting wedge (R71). -/
def wedgeAt (rate w b : Nat) : Nat := (w + b / atLeast1 (interval rate)) % 440

/-- Wedges straddled by slot bits `lo` to `hi` of sector k: the data intervals that begin between them (R84, R114). -/
def straddled (rate w k : Nat) (lo hi : Nat) : List Nat :=
  let d := atLeast1 (interval rate)
  let a := (sectorStart k + lo) / d
  (upTo ((sectorStart k + hi) / d - a)).map (fun i => (w + a + 1 + i) % 440)

/-! GF(2^8) for the parity strips; the polynomial is x^8 + x^4 + x^3 + x^2 + 1 (R238). -/

end Sys2Proof.Code
end

