-- ==== Sys2Proof/Config.lean ====
section
/-! DEFINITION. Config.lean: what the part fuses or a pack maker chooses, and the free values, each an opaque
constant that no proof can look into. -/

namespace Sys2Proof.Config

/-- MD_ID.PART, fused: 0 for ZH8-080, 1 for ZH8-096 (R662). -/
opaque part : BitVec 1

/-- MD_ID.STEP, fused: the silicon stepping (R662). -/
opaque stepping : BitVec 2

/-- A value the spec leaves open after a step that goes on: the n-th such value. -/
opaque freeVal : Nat → Nat

/-- How the ZH8 rounds a quotient that is not whole, where the spec does not say. -/
opaque roundQuot : Int → Int → Int

/-- The magnitude of an acceleration in 0.1 g, from 25 times its square in LSB, where it is not whole (R180: the spec does
not say how it is rounded). -/
opaque roundRoot : Nat → Nat

/-- sin(2π φ) within the first quarter of a cycle, φ in 2^−32 cycle (R199: the spec does not say how the engine rounds it). -/
opaque sine : Nat → ℚ

/-- The SAM interval the demodulator expects after the two it saw last, newest first (R152: the spec does not say how). -/
opaque samNext : Nat → Nat → Nat

/-- The estimator's state vector once a reference position, in tracks, is first measured (R160: the spec does not say). -/
opaque estInit : ℚ → List ℚ

/-- One step of the 4-state model: its 12 coefficients, the state vector, and the voice-coil output (R160, R162: the spec does
not say which coefficient stands where). -/
opaque estModel : List ℚ → List ℚ → ℚ → List ℚ

/-- The reference position, in tracks, and the velocity, in tracks per wedge, that a state vector stands for. -/
opaque estPos : List ℚ → ℚ
opaque estVel : List ℚ → ℚ

/-- The voice-coil demand of the seek trajectory (R186): from position, velocity, reference track, current limit and velocity
limit. The spec gives its limits, not its law. -/
opaque seekDemand : ℚ → ℚ → Nat → Nat → Nat → Int

/-- The coil current the sequencer asks for (R190, R193): from the velocity it wants in mm/s, the velocity it measures in µm/s
and the current that flows. The spec gives its limit, not its law. -/
opaque seqCurrent : Int → Int → Int → Int

/-- The rotor-axis currents d and q, from the angle in electrical cycles and the three phase currents in mA (R204: the spec does
not say how the engine rounds them). -/
opaque rotor : ℚ → Int → Int → Int → ℚ × ℚ

/-- A PI current loop (R204): its output and its new integral, from the error and the integral. The spec gives no gains. -/
opaque currentPi : ℚ → ℚ → ℚ × ℚ

/-- Centre-aligned space-vector PWM (R204): the duty of each phase in 0.25 %, from the angle and the d and q outputs. -/
opaque svpwm : ℚ → ℚ → ℚ → Nat × Nat × Nat

/-- The observer (R204, R209): from SP_MOTOR, angle, speed in 1/8 rpm, phase currents and duty set in force, the angle and the
phase currents A and B that it expects a period later. -/
opaque observe : BitVec 32 → ℚ → Nat → Int → Int → List Nat → ℚ × Int × Int

/-- The braking current in mA as it is reduced (R222), from the bus voltage above VBUS_REG in 10 mV and the current before. -/
opaque brakeTrim : Nat → Nat → Nat

/-- The alignment marker of a lane, from its lane number and the marker count (R361: the spec does not lay out its 120 bits). -/
opaque marker : Nat → Nat → BitVec 120

/-- The content of the host window table after power-on, word by word (R519: indeterminate). -/
opaque hwtPowerOn : Nat → BitVec 32

/-- The fused SHA-256 digest of vendor key 0 or 1 (R696), byte 0 in bits 7:0. -/
opaque vkDigest : Nat → BitVec 256

/-- Whether a signature is valid for a message under a public key: SLH-DSA-SHA2-128s of FIPS 205 (R593, R696). -/
opaque slhVerify : Nat → Nat → Nat → Bool

/-- The SLH-DSA-SHA2-128f signature of the first 256 bytes of a report under the fused attestation key (R713, R715). -/
opaque slhSign : Nat → BitVec 136704

/-- BT_UIDn, fused (R713). -/
opaque uid : BitVec 128

/-- DEVICE_PK, derived from the fused attestation seed (R713). -/
opaque devicePk : BitVec 256

/-- PART and SERIAL of the identify structure (R451), set at manufacture. -/
opaque partCode : BitVec 128
opaque serial : BitVec 128

/-- The MBAs of the sectors of a member's track that lie within the data interval after a wedge: the pack's format, which the
spec leaves to the pack's maker (R140; R71 gives the stream, not the track's MBAs). -/
opaque trackSectors : Nat → Nat → Nat → List (BitVec 40)

end Sys2Proof.Config
end

