-- ==== Sys2Proof/Machine/State.lean ====
section
/-! DEFINITION. Machine/State.lean: the whole state of the ZH8 as plain data. Every register of the control window
lives in `regs`; what the spec gives the machine beside its registers stands in one structure per chapter.
Instances (channels, actuators, spindles, units, ports) are sparse tables: an absent entry is the entry as it is
after reset. The queue of waiting commands is `pending`. -/

namespace Sys2Proof.Machine

/-- Why a step stops. The spec lets every command of the table go on, so no meaning stops. -/
inductive Fault where
  /-- Reserved for a state no command reaches; raised by no meaning (safe). -/
  | stuck
  deriving DecidableEq, Repr

/-- Why a command has no meaning here. -/
inductive Refusal where
  /-- Raised by an arm of `exec` for a row that has no meaning yet (safe: nothing is concluded from it). -/
  | notModelled (mnemonic : String)
  deriving DecidableEq, Repr

/-- A frame the ZH8 sends on the link (R377, R386). -/
structure OutFrame where
  /-- 0 READ, 1 WRITE, 2 READ_CPL, 3 WRITE_RSP, 4 ERROR_RSP, 5 EVENT, 6 ENUM; 7 any other type in transit; 8 an LCF with NAK. -/
  kind : Nat
  /-- Destination (R378); of the ZH8's own requests and events, the adapter end in use. -/
  dst : Nat
  tag : Nat
  addr : Nat
  len : Nat
  /-- Payload, byte k in bits 8k+7:8k. -/
  data : Nat
  /-- STATUS of a response; RSP_REQ of a WRITE; NAKSEQ of an LCF; TYPE of a frame of another type. -/
  code : Nat
  vc : Nat := 0
  /-- Source and hops left of a frame in transit (R381); the ZH8's own frames have `transit` false. -/
  src : Nat := 0
  hops : Nat := 66
  space : Nat := 0
  transit : Bool := false
  /-- The credits of the LCF sent in the slot after it (R365, R366). -/
  ctl : Option (List Nat) := none
  deriving DecidableEq, Repr

/-- A sector between its last sample and its outcome (R86): the operation, its sample slot, and what the clocked
front end found. -/
structure DecJob where
  op : SecOp
  /-- CH_EQ_CTL as it stood when the sector was read (R102): ADAPT and FREEZE_ON_FAIL. -/
  adaptOn : Bool := false
  freeze : Bool := false
  /-- In loopback: the codeword that the write path drives (R104). -/
  looped : Option (BitVec 36480) := none
  /-- Sample slot; none while no slot could be filled (R92, R96). -/
  slot : Option Nat
  /-- Accepted sync offset; none after SYNC_MISS (R82, R83). -/
  sync : Option Int
  syncErr : Nat
  /-- Limits and readers out of use as they stood when the sector was read (R102, R148): bit 0 reader 0, bit 1 reader 1. -/
  maxIter : Nat
  early : Bool
  off : Nat
  /-- The sample memory was frozen when the sector was read (R96). -/
  frozen : Bool := false
  deriving DecidableEq, Repr

/-- One sample-memory slot (R92–R96). -/
structure SmemSlot where
  valid : Bool := false
  pinned : Bool := false
  poison : Bool := false
  /-- A decode of the slot is running (R92). -/
  busy : Bool := false
  /-- Order of the last fill: larger is newer. -/
  age : Nat := 0
  /-- The slot was rewritten since CH_SMEM_ADDR was last written (STALE). -/
  stale : Bool := false
  /-- Samples of reader 0 and reader 1, six bits each. -/
  s0 : BitVec 221184 := 0
  s1 : BitVec 221184 := 0
  /-- Detected bits 84 to 139 of the sector's slot, and the bits around the resync mark of each data interval that begins
  within it: what the mark searches of the ladder compare (R111, R114). -/
  around : BitVec 56 := 0
  bursts : List (BitVec 46) := []
  /-- Resync alignment found per data interval; none where carried over (R84). -/
  resync : List (Option Int) := []
  deriving DecidableEq, Repr

/-- Timing recovery and gain control of the sector last read (R80, R104): the settings it ran with, and for each servo
blanking the sector straddled the wedge and the frequency offset held across it, after which phase is reacquired. -/
structure TrUse where
  /-- Bits of preamble used for phase and frequency, and for gain. -/
  acq : Nat := 0
  gain : Nat := 0
  /-- Loop gains 2^-KP and 2^-KI, and the preamble RMS target. -/
  kp : Nat := 0
  ki : Nat := 0
  target : Nat := 0
  held : List (Nat × Int) := []
  deriving DecidableEq, Repr

/-- A channel beside its CH_ registers. -/
structure ChState where
  rdGate : Bool := false
  wrGate : Bool := false
  /-- The last selection was invalid: gates refused until a valid one (R61). -/
  selBad : Bool := false
  /-- Head whose select frame was sent and whose settle time runs. -/
  settling : Option Nat := none
  /-- Taken out of service by R103 and not enabled again since (R256). -/
  oos : Bool := false
  /-- LOOPBACK as it stood when the channel last left OFF (R104). -/
  loop : Bool := false
  /-- The sector in progress has lost its gate: 1 a write cut off, 2 a read that met PA_FLT_N low (R69, R88, R90). -/
  cut : Nat := 0
  /-- In the decoder (first) and in the crossing FIFO (R35, R88). -/
  dec : List DecJob := []
  slots : Tbl SmemSlot := []
  fills : Nat := 0
  /-- The sector slot last driven on the write path, stream bits 0 to 36,671 (R70), and the PC1, PC2 and PC3 it was
  precompensated with (R89). -/
  lastSlot : BitVec 36672 := 0
  lastPc : List Nat := []
  /-- Timing recovery of the sector last read (R80). -/
  tr : TrUse := {}
  /-- First wedge and first stream bit of the sector last operated on (R71). -/
  place : Nat × Nat := (0, 0)
  deriving DecidableEq, Repr

/-- A request for the preamp bus (R63). -/
structure PaFrame where
  write : Bool
  addr : Nat
  data : Nat
  deriving DecidableEq, Repr

/-- The preamp bus of an actuator (R63–R69). -/
structure PaState where
  /-- A firmware read access that waits for its response. -/
  reading : Bool := false
  /-- A frame, or the time of a read's response, occupies the bus; `asked` says that it is a read. -/
  busy : Bool := false
  asked : Bool := false
  /-- Head-select and mode frames that wait, oldest first; the firmware frame that waits, and how many of the former went
  before it (R68). -/
  hw : List PaFrame := []
  fw : Option PaFrame := none
  passed : Nat := 0
  /-- Preamp mode last requested (R66): 0 sleep, 1 idle, 2 read, 3 write. -/
  mode : Nat := 0
  /-- Responses still due after a granted timeout (R65). -/
  lateDue : Nat := 0
  /-- PA_FLT_N is low (R69). -/
  fltLow : Bool := false
  /-- The last frame sent on PA_DAT (R63). -/
  frame : BitVec 32 := 0
  deriving DecidableEq, Repr

/-- What a decode of the ladder engine runs with (R114, R119–R122, R148): the scaling of each reader's equalizer output, the
engine's copy of the taps, the step of their retraining (rung 3, trial 0), whether the detector predicts noise, the scale of the
soft inputs, and the resync alignments. -/
structure DecSet where
  w0 : ℚ := 1
  w1 : ℚ := 1
  taps : List Nat := []
  step : ℚ := 0
  noise : Bool := true
  llr : ℚ := 1
  align : List (Option Int) := []
  deriving DecidableEq, Repr

/-- A ladder in progress or waiting for its engine (R105–R136). -/
structure Ladder where
  ch : Nat
  op : SecOp
  /-- Channel and slot pinned; none where rungs 1–4 are not used (R94, R95). -/
  slot : Option (Nat × Nat)
  /-- Offset accepted on the normal path (R113, R116). -/
  sync : Option Int
  undec : Bool
  /-- Readers out of use for the sector (R148). -/
  off : Nat := 0
  /-- 0 waits for the engine, 1 the engine runs, 2 a re-read is requested, 3 it is being read or decoded (R105, R126). -/
  phase : Nat := 0
  /-- Rung the engine runs or will start, 1–4; 5 while re-reads are made. -/
  rung : Nat := 1
  /-- Place in the engine's order: that of the normal-path outcome (R105). -/
  turn : Nat := 0
  /-- Offsets of rung 1, or trials of rungs 2 and 3, still to decode, in order. -/
  left : List Int := []
  /-- Offset and unsatisfied checks of the best rung-1 decode (R116). -/
  best : Option (Int × Nat) := none
  /-- Settings of the decode last ended, and unsatisfied checks and settings of the best decode of rungs 1 to 3 (R121). -/
  used : Option DecSet := none
  bestSet : Option (Nat × DecSet) := none
  /-- Re-reads made (R123). -/
  rereads : Nat := 0
  /-- Rung-4 decode before rung 5 ended CRC_SEED (R118). -/
  seed4 : Bool := false
  /-- Re-reads counted toward misdirection (R118). -/
  misdir : Nat := 0
  /-- A reconstruction was requested (R128), and it was granted (R129). -/
  recon : Bool := false
  won : Bool := false
  /-- Some command needed the sector when it entered (R133). -/
  needed : Bool := false
  /-- A write to the block was journalled since the sector entered (R135). -/
  stale : Bool := false
  /-- Offset and iterations of the last decode (LD_LAST). -/
  lastOfs : Int := 0
  lastIter : Nat := 0
  deriving DecidableEq, Repr

/-- A ladder that ended without success, or was skipped (R108), and whose block a reconstruction may still supply (R131,
R132). -/
structure LadEnd where
  ch : Nat
  op : SecOp
  /-- Its time limit was granted. -/
  tlim : Bool := false
  /-- LD was not ON: no ladder ran. -/
  skip : Bool := false
  stale : Bool := false
  lastOfs : Int := 0
  lastIter : Nat := 0
  deriving DecidableEq, Repr

/-- A read verify whose two-reader decode failed: which single-reader decodes are still due (R145). -/
structure SoloVerify where
  ch : Nat
  op : SecOp
  slot : Nat
  reader : Nat
  /-- Readers out of use (R148). -/
  off : Nat := 0
  /-- Reader 0 alone passed. -/
  ok0 : Bool := false
  deriving DecidableEq, Repr

/-- A sector to be rewritten, or written and to be verified (`op.purpose`), on a later revolution (R134, R141, R143):
rewrite attempts made, and whether it belongs to a stripe write. -/
structure Rewrite where
  op : SecOp
  attempts : Nat
  stripe : Bool
  /-- What is written in place: the block and its metadata word (R134). A rewrite of a strip takes both from its stripe write,
  one of a spill copy from its record. -/
  data : Nat := 0
  metaWord : Nat := 0
  /-- A newer write to the block was journalled (R135): no attempt follows. -/
  stale : Bool := false
  /-- Timebase when it was issued to the scheduler, ns (R749). -/
  time : Nat := 0
  deriving DecidableEq, Repr

/-- The ladder engine of an actuator, its sectors in the order of entry, and the actuator's rewrites and verifies. -/
structure LdState where
  queue : List Ladder := []
  nextTurn : Nat := 0
  ended : List LadEnd := []
  /-- Channel of a ladder whose engine decode still runs after its time limit was granted (R130). -/
  lateRun : Option Nat := none
  /-- Re-reads being read or decoded whose ladder's time limit was granted: channel and operation (R130). -/
  late : List (Nat × SecOp) := []
  solo : List SoloVerify := []
  rewrites : List Rewrite := []
  /-- Adjacent-track verifies scheduled by R140: member and MBA, and when each was issued (R749). -/
  adjacent : List ((Nat × Nat) × Nat) := []
  deriving DecidableEq, Repr
/-- One active-head slot of an actuator (R153, R176, R188). -/
structure SvSlot where
  target : Nat := 0
  validRun : Nat := 0
  invalidRun : Nat := 0
  rdRun : Nat := 0
  wrRun : Nat := 0
  rdSettled : Bool := false
  wrSettled : Bool := false
  /-- Instants of the last SAMs, newest first, at most three, in ns of timebase: seen, or predicted where the search missed
  one (R152); whether the last one was found. -/
  sams : List Nat := []
  samOk : Bool := false
  /-- Consecutive wedges with identical raw positions, and the last ones, reader 0 and reader 1, 1/4,096 track (R153). -/
  rawRun : Nat := 0
  raw0 : Int := 0
  raw1 : Int := 0
  /-- PES at the last valid wedge, 1/8,192 track, so that the mean of two raw positions is whole (R151). -/
  pes : Int := 0
  /-- Wedges at which a write gate was asserted while |PES| exceeded ENC_LIM (R140), since the last sector written ended. -/
  enc : List Nat := []
  /-- Further wedges of shock hold (R138). -/
  hold : Nat := 0
  /-- The head was selected since the last wedge: its micro output is to be prepositioned (R158). -/
  fresh : Bool := true
  /-- Filter states of the two micro sections, s1 and s2 of each (R162). -/
  z : List ℚ := []
  deriving DecidableEq, Repr

/-- A wedge whose results reached the engine (R154, R165). -/
structure WedgeJob where
  wedge : Nat
  /-- Slots that stand in the mean of R155: bit n. -/
  valid : Nat
  /-- The coefficients the computation uses (R163). -/
  coef : List Nat
  /-- The feed-forward term (R181). -/
  ff : ℚ
  /-- Accelerometer 0 peak, 0.1 g (R200). -/
  peak : Nat
  /-- The demodulator's crossing FIFO was full: the wedge never reaches the engine (R35). -/
  dropped : Bool
  deriving DecidableEq, Repr

/-- An actuator beside its SV_ registers (R150–R202). -/
structure ActState where
  slots : Tbl SvSlot := []
  /-- The wedge being computed. -/
  job : Option WedgeJob := none
  /-- The deadline of the wedge being computed was granted (R168). -/
  overdue : Bool := false
  /-- Wedges since the last granted output (R169). -/
  since : Nat := 0
  /-- Targets that wait for the gates to drop (R186). -/
  seekWait : Option (List (Nat × Nat)) := none
  /-- Wedges spent in SETTLING, and whether the limit of R189 was granted. -/
  settling : Nat := 0
  settleGranted : Bool := false
  settleLateDone : Bool := false
  /-- The position, in tracks, at which a failed settle holds the arm (R189). -/
  holdAt : Option ℚ := none
  /-- Wedges in the demodulator's crossing FIFO, at most 2 (R35). -/
  fifo : Nat := 0
  /-- Consecutive wedges with SAM found during a load; the LOAD_TMO expiry was granted (R190, R191). -/
  samRun : Nat := 0
  loadGranted : Bool := false
  /-- Causes raised during the unload that runs (R195). -/
  causes : List Nat := []
  /-- The retract runs through the driver's current-limited path (R196, R621). -/
  limited : Bool := false
  /-- Ticks of 5 µs with velocity below 5 % of VEL while VEL is demanded (R193). -/
  slow : Nat := 0
  /-- TMO was granted and the 50 ms push runs (R194). -/
  pushing : Bool := false
  /-- A park may still be detected after a granted TMO. -/
  parkLate : Bool := false
  /-- Measured velocity, µm/s, and coil current, mA (R193). -/
  vel : Int := 0
  coil : Int := 0
  /-- Voice-coil output and micro output per head (R155). -/
  vcm : Int := 0
  micro : Tbl Int := []
  /-- Filter states of the four voice-coil sections (R162). -/
  zv : List ℚ := []
  /-- Runout tables: key 512 × table + wedge (R183–R185). -/
  runout : Tbl Int := []
  /-- Capture ring, its next index, and the entries left after the trigger (R200). -/
  ring : Tbl Nat := []
  ringAt : Nat := 0
  armed : Bool := false
  post : Option Nat := none
  /-- Injection phase, 2^−32 cycle (R199). -/
  phase : Nat := 0
  /-- Coefficients written under COEF_HOLD: index, and the value in force before (R163). -/
  held : List (Nat × Nat) := []
  /-- Largest squared magnitude of each accelerometer since this actuator's previous wedge centre, in the squared LSB of an
  axis, 16 g / 32,768 (R180). -/
  peak0 : Nat := 0
  peak1 : Nat := 0
  /-- The estimator's state vector at the last granted wedge (R160, R161, R169); none before the first one of a load. -/
  est : Option (List ℚ) := none
  /-- The last capture entry (R200). -/
  capLast : Nat := 0
  deriving DecidableEq, Repr

/-- An accelerometer of the pack (R180–R182). -/
structure AccState where
  x : Int := 0
  y : Int := 0
  z : Int := 0
  same : Nat := 0
  failed : Bool := false
  deriving DecidableEq, Repr

/-- How far a timer that meets its arrival has come (R37). -/
inductive Race where
  | idle
  | armed
  /-- The expiry was granted; the late arrival may still come. -/
  | granted
  deriving DecidableEq, Repr

/-- Steps 3–5 of a spin-up (R219). -/
inductive StartStep where
  | none
  | angle
  | ramp
  | pause
  deriving DecidableEq, Repr

/-- Field-oriented control of a spindle (R204): the observer's angle in electrical cycles; phase currents A and B of the last
period, measured or predicted, and those the observer predicts for the next, in mA (R209); rotor-axis currents; integrals of the
d loop, the q loop and the speed regulator; the q-axis reference and the braking current in force, in mA (R222); the duty set on
its way to the timer; and the start of the ramp of R229, in ns. -/
structure Foc where
  angle : ℚ := 0
  ia : Int := 0
  ib : Int := 0
  predA : Int := 0
  predB : Int := 0
  d : ℚ := 0
  q : ℚ := 0
  intD : ℚ := 0
  intQ : ℚ := 0
  intW : Int := 0
  qRef : Int := 0
  brk : Nat := 0
  next : List Nat := []
  ramp : Option Nat := none
  deriving DecidableEq, Repr

/-- A spindle beside its SP_ registers (R203–R236). -/
structure SpState where
  step : StartStep := .none
  spinup : Race := .idle
  acq : Race := .idle
  pwm : Race := .idle
  chopBus : Race := .idle
  chopCur : Race := .idle
  /-- Consecutive late duty sets (R205). -/
  lateRun : Nat := 0
  /-- Consecutive measured samples (R211). -/
  measRun : Nat := 0
  /-- Consecutive predicted periods at DEPTH_FLOOR (R212). -/
  floorRun : Nat := 0
  /-- Consecutive periods above LOSS_TH (R228). -/
  innRun : Nat := 0
  /-- Time of the last overcurrent (R206). -/
  ocAt : Option Nat := none
  /-- Consecutive revolutions within REG_WIN (R215). -/
  revs : Nat := 0
  /-- The speed error of R216 that lasts has been reported. -/
  dropped : Bool := false
  /-- Latest zero-crossing intervals, ns, newest first (R229). -/
  xings : List Nat := []
  /-- A STOP follows once both actuators are UNLOADED (R235, R670). -/
  stopAfter : Bool := false
  /-- SHORT follows once both actuators are UNLOADED (R217, R231). -/
  shortAfter : Bool := false
  /-- The 200 ms of R227 run. -/
  safeHold : Bool := false
  /-- PM forces the short now (R226). -/
  forced : Bool := false
  /-- DECEL ends at a lower speed target and not at standstill (R214, R642). -/
  toSpeed : Bool := false
  /-- The duty set in force, per phase, 0.25 %. -/
  duty : List Nat := []
  foc : Foc := {}
  /-- Bridge off after an overspeed (R217), and whether the last speed measured was above OVS. -/
  bridgeOff : Bool := false
  fast : Bool := false
  /-- Forcibly shorted: it stays in SHORT until it stops (R226). -/
  stuck : Bool := false
  deriving DecidableEq, Repr

/-- One strip of a stripe write (R251): its position, where it goes, and its blocks by offset u. -/
structure Strip where
  pos : Nat
  member : Nat
  mba : Nat
  blocks : Tbl Nat := []
  /-- Offsets written, and verified where a verify is due; and a report under R142 since the strip was last issued. -/
  done : List Nat := []
  bad : Bool := false
  /-- Held for an UNAVAILABLE member or one in CATCHUP (R253, R257). -/
  held : Bool := false
  deriving DecidableEq, Repr

/-- A stripe write in progress (R251–R254). -/
structure StripeWrite where
  vol : Nat
  stripe : Nat
  u0 : Nat
  u1 : Nat
  wseq : Nat
  /-- JSEQ of its STRIPE record. -/
  jseq : Nat
  /-- The STRIPE record is durable and strips may be written (R288). -/
  going : Bool := false
  /-- Every sector is verified (R143, R286). -/
  verify : Bool := false
  strips : List Strip := []
  deadline : Nat := 0
  deriving DecidableEq, Repr

/-- A stripe write that reads the unchanged blocks it needs before it starts (R745): its layout slot and range, the blocks read,
volume block and data, and those that are lost. -/
structure Gather where
  vol : Nat
  stripe : Nat
  u0 : Nat
  u1 : Nat
  got : List (Nat × Nat) := []
  lost : List Nat := []
  deriving DecidableEq, Repr

/-- A parity-engine job (R269, R270): the 32-byte descriptor and who submitted it. -/
structure PeJob where
  desc : Nat
  addr : Nat
  /-- Context that submitted it with PE_SUB; none for a register write. -/
  ctx : Option Nat
  /-- The command of that context, and of a customer routine its slice: base and size (R580). -/
  cmd : Nat := 0
  slice : Option (Nat × Nat) := none
  deriving DecidableEq, Repr

/-- The array beside its AR_ registers. -/
structure ArState where
  /-- Causes of R256 that hold per member: bit 0 unload, bit 1 head lost, bit 2 channels out of service. -/
  causes : Tbl Nat := []
  /-- UNAVAILABLE members, the one longest UNAVAILABLE first (R260). -/
  order : List Nat := []
  /-- Members whose timer of R258 runs. -/
  armed : List Nat := []
  /-- Members whose expiry was granted and whose return has not come (R259). -/
  granted : List Nat := []
  /-- Actuators whose first load since device reset reached FOLLOWING: bit a (R743). -/
  followed : Nat := 0
  /-- Pattern memory: key 96 × pattern + position, absent 0xFF (R240). -/
  pat : Tbl Nat := []
  stripes : List StripeWrite := []
  gather : List Gather := []
  /-- Failure lists as they stood when their volumes reached OFF, for the stripe writes that go on (R746). -/
  failKept : Tbl (List Nat) := []
  /-- Parity jobs, the running one first (R268, R272). -/
  pe : List PeJob := []
  /-- Volumes whose CLASS_DEGRADED was recorded (R248): bit v. -/
  classDone : Nat := 0
  deriving DecidableEq, Repr

/-- A journal record (R278, R279). -/
structure JRec where
  jseq : Nat := 0
  /-- 1 DATA, 2 STRIPE, 3 RETIRE, 4 PAD. -/
  typ : Nat
  /-- Granules, header included, and the granule it starts at, counted on without wrapping. -/
  len : Nat := 1
  gran : Nat := 0
  last : Bool := false
  fua : Bool := false
  zero : Bool := false
  qid : Nat := 0
  vol : Nat := 0
  cid : Nat := 0
  nblk : Nat := 0
  block : Nat := 0
  stripe : Nat := 0
  u0 : Nat := 0
  u1 : Nat := 0
  jmask : Nat := 0
  wseq : Nat := 0
  k : Nat := 0
  p : Nat := 0
  /-- S of the layout it was formed under, which orders a STRIPE record's blocks (R279). -/
  sz : Nat := 0
  /-- RETIRE: the JSEQs named. -/
  rj : List Nat := []
  /-- Blocks carried: volume block and data (DATA, STRIPE). -/
  data : Tbl Nat := []
  /-- Command it belongs to, as it runs. -/
  cmd : Option Nat := none
  durable : Bool := false
  /-- Timebase when it became durable, ns (R749). -/
  time : Nat := 0
  retired : Bool := false
  /-- The LAST record of its command is durable (R285). -/
  ready : Bool := false
  /-- DATA: volume blocks of it that retired stripe writes have put on the medium (R291). -/
  written : List Nat := []
  /-- STRIPE: the DATA records it takes blocks from, JSEQ and volume block (R289). -/
  uses : List (Nat × Nat) := []
  /-- Copied back into the ring from its spill copies with the JSEQ it had (R304; DESIGN CHOICE 102). -/
  back : Bool := false
  /-- Spilled: key in the spill index; its ring space is free (R301). -/
  spill : Option Nat := none
  deriving DecidableEq, Repr

/-- A superblock (R293). -/
structure Superblock where
  gen : Nat := 0
  tailJ : Nat := 0
  tailGran : Nat := 0
  valid : Bool := false
  deriving DecidableEq, Repr

/-- What stands in one JD die of the journal (R274, R275): the records of its ring, the oldest first, each until its granules are
written over, and the superblocks. -/
structure DieLog where
  ring : List JRec := []
  sbA : Superblock := { gen := 1, tailJ := 1, tailGran := 0, valid := true }
  sbB : Superblock := { gen := 0, tailJ := 1, tailGran := 0, valid := true }
  deriving DecidableEq, Repr

/-- A spill index entry (R301). -/
structure SpillEnt where
  jseq : Nat
  ofs : Nat
  blks : Nat
  pair : Nat
  badA : Bool := false
  badB : Bool := false
  deriving DecidableEq, Repr

/-- The journal and the MRAM of JD0 and JD1 beside its JN_ registers. What stands in MRAM survives a device reset and
power loss (R274, R314). -/
structure JnState where
  /-- Records from the tail on, oldest first, as the ZH8 works with them; a spilled one is known by the spill index. -/
  recs : List JRec := []
  /-- Records whose data is complete and whose commit has not started, in order (R283, R287). -/
  waiting : List JRec := []
  /-- The commit that runs (R283). -/
  commit : Option JRec := none
  nextJ : Nat := 1
  /-- Granule of the next record, counted on without wrapping; its place in the ring is the remainder. -/
  head : Nat := 0
  /-- The two dies. -/
  jd0 : DieLog := {}
  jd1 : DieLog := {}
  /-- Granule from which ring space is still in use, by the superblock that is durable (R292), counted likewise. -/
  freeFrom : Nat := 0
  idx : Tbl SpillEnt := []
  /-- Next block of each pair's circular log. -/
  logAt : Tbl Nat := []
  /-- Spilling runs (R299). -/
  spilling : Bool := false
  /-- Record being spilled and its pair, and the blocks of it that stand verified on either extent: copy and block (R301). -/
  spillJob : Option (Nat × Nat) := none
  /-- When it was issued (R749). -/
  spillAt : Nat := 0
  spillDone : List (Nat × Nat) := []
  /-- Granted die timeouts whose acknowledgement may still come: die 0 and die 1 (R294). -/
  dieLate0 : Bool := false
  dieLate1 : Bool := false
  /-- STRIPE records of the scan not yet retired (R311). -/
  redo : List Nat := []
  /-- JSEQs whose retirement waits for its RETIRE record to be durable. -/
  retiring : List Nat := []
  deriving DecidableEq, Repr

/-- A forfeit entry (R340). -/
structure FtEnt where
  first : Nat
  vol : Nat
  count : Nat
  cause : Nat
  hours : Nat
  deriving DecidableEq, Repr

/-- A volume checkpoint record, the current copy (R323). -/
structure CkRec where
  gen : Nat := 0
  pass : Bool := false
  reshape : Bool := false
  paused : Bool := false
  frozen : Bool := false
  shadow : Nat := 0
  fail : Nat := 0x7F7F7F7F
  cursor : Nat := 0
  geomCrc : Nat := 0
  newCrc : Nat := 0
  mark : Nat := 0
  deriving DecidableEq, Repr

/-- A member operation under the slow-member timer (R317). -/
structure SlowTimer where
  member : Nat
  mba : Nat
  granted : Bool := false
  deriving DecidableEq, Repr

/-- Rebuild, forfeit table and reshape beside their RB_ registers. The tables and records stand in MRAM. -/
structure RbState where
  ft : Tbl FtEnt := []
  ck : Tbl CkRec := []
  /-- Device record: FAILED mask; none where neither copy is valid (R325, R327). -/
  dev : Option (Nat × Nat) := some (1, 0)
  slow : List SlowTimer := []
  /-- Rows since the cursor of a volume was last checkpointed (R335). -/
  since : Tbl Nat := []
  /-- Stripes a rebuild or a stripe write has claimed: volume, stripe (R331). -/
  claims : List (Nat × Nat) := []
  /-- Reshape window: new-layout stripes moved beyond the checkpoint, and the dirty ones (R349). -/
  moved : List Nat := []
  dirty : List Nat := []
  /-- Host writes to the window wait (R349). -/
  winHold : Bool := false
  /-- PAUSE was accepted; the reshape stops at its next checkpoint (R352). -/
  pausing : Bool := false
  /-- Volumes whose commands are held unfetched under RS_WAIT: bit v (R326). -/
  wait : Nat := 0
  /-- Background actuator time used in this window, µs: non-privileged and privileged, per actuator (R337, R338). -/
  usedN : Tbl Nat := []
  usedP : Tbl Nat := []
  deriving DecidableEq, Repr

/-- Who waits for the response of a frame the ZH8 sent. -/
inductive Req where
  | sqPi (q : Nat)
  | cqCi (q : Nat)
  /-- The consumer-index read before a completion to a full-looking ring (R423). -/
  | cqFull (q : Nat)
  | recSq (q : Nat)
  | recCq (q : Nat)
  /-- A cache fill of the line at an address; true for a prefetch. -/
  | fill (line : Nat) (pf : Bool)
  | wb (id : Nat)
  /-- A DMA frame: channel, offset from the transfer's start, bytes. -/
  | dma (ch off len : Nat)
  /-- The requester has ended, a frame of a command's data with its command; a response changes nothing more. -/
  | gone (cmd : Option Nat)
  deriving DecidableEq, Repr

/-- A transaction outstanding on the link (R390, R392). -/
structure Txn where
  tag : Nat
  write : Bool
  addr : Nat
  len : Nat
  data : Nat
  req : Req
  /-- Its timeout was granted; a response is late. -/
  granted : Bool := false
  deriving DecidableEq, Repr

/-- A VC0 request completed for a requester, with its response (R390). -/
structure Vc0Done where
  src : Nat
  tag : Nat
  /-- None for a WRITE that asked for no response. -/
  rsp : Option OutFrame
  deriving DecidableEq, Repr

/-- A port of the link beside its LK_PORT registers (R356–R373). -/
structure PortState where
  /-- BSEQ of the next new block and of the oldest unacknowledged one, modulo 1,024 (R362). -/
  txNext : Nat := 0
  txOld : Nat := 0
  /-- BSEQ expected next (R363). -/
  rxNext : Nat := 0
  /-- Times the oldest block was sent again without ACKSEQ advancing (R394). -/
  resends : Nat := 0
  /-- A NAK was sent for the missing BSEQ. -/
  naked : Bool := false
  /-- Send credits held per VC, VC0 first (R384). -/
  credits : List Nat := [0, 0, 0, 0]
  /-- Frames that wait for the port, oldest first. -/
  out : List OutFrame := []
  /-- Frames sent in blocks not yet acknowledged, oldest first, with the blocks each takes (R364). -/
  unacked : List (Nat × OutFrame) := []
  /-- VCs whose last frame was the ZH8's own: bit v (R386). -/
  lastOwn : Nat := 0
  /-- Lanes that lost clock or block lock: bit n. -/
  lost : Nat := 0
  /-- Lanes failed: bit n (R393). -/
  failed : Nat := 0
  /-- Lanes locked by the rate trial that succeeded: bit n. -/
  locked : Nat := 0
  /-- The previous partner of LK_PARTNER was a device and not the bypass (R369). -/
  seen : Bool := false
  /-- Rate of the trial that runs, coded as RATE; 0 none. -/
  trial : Nat := 0
  /-- Training failed at every allowed rate (R394). -/
  noRate : Bool := false
  /-- The port is DOWN until it comes UP again (R394, R395). -/
  down : Bool := false
  /-- The last 58 line bits sent and received, the newest in bit 57 (R359). -/
  scr : Nat := 0
  dsc : Nat := 0
  /-- Blocks sent since the last alignment marker, the marker count, and the last marker of each lane (R361). -/
  since : Nat := 0
  marks : Nat := 0
  am : List (BitVec 120) := []
  /-- What each lane in use sent of the last block: PAM4 levels or bits, the first sent first (R360). -/
  wire : List (List Int) := []
  /-- Per VC: flits that left the receive buffer since the last LCF, and credits the partner holds (R365, R384). -/
  owed : List Nat := [0, 0, 0, 0]
  grant : List Nat := [1024, 1024, 1024, 1024]
  /-- Flit slots sent since the last LCF (R366). -/
  slots : Nat := 0
  /-- Flits left of the frame that arrives, and its VC. -/
  rxLeft : Nat := 0
  rxVc : Nat := 0
  /-- Bytes in the crossing FIFO of each lane, at most 512 (R35). -/
  fifo : Nat := 0
  deriving DecidableEq, Repr

/-- The link beside its LK_ registers. -/
structure LkState where
  txns : List Txn := []
  nextTag : Nat := 0
  done : List Vc0Done := []
  ports : Tbl PortState := []
  /-- TAG of the last EVENT frame, kept in MRAM (R391). -/
  evTag : Nat := 0
  /-- The partner tag the ZH8 drew at power-on and sends while it trains (R369): a free value. -/
  ownTag : Nat := 0
  deriving DecidableEq, Repr

/-- The context of a queue pair (R403). -/
structure QmCtx where
  sqBase : Nat := 0
  sqPiAddr : Nat := 0
  sqCiAddr : Nat := 0
  sqSizeM1 : Nat := 0
  csv : Nat := 0
  group : Nat := 0
  seqDet : Nat := 0
  sqCi : Nat := 0
  sqPiSeen : Nat := 0
  cqid : Nat := 0
  sqState : Nat := 0
  sqErr : Nat := 0
  inflight : Nat := 0
  cqBase : Nat := 0
  cqPiAddr : Nat := 0
  cqCiAddr : Nat := 0
  cqSizeM1 : Nat := 0
  ovfLim : Nat := 0
  coalCnt : Nat := 0
  cqPi : Nat := 0
  cqErr : Nat := 0
  cqState : Nat := 0
  cqCiSeen : Nat := 0
  irqVec : Nat := 0
  irqEn : Nat := 0
  ovfBase : Nat := 0
  coalTime : Nat := 0
  ovfHead : Nat := 0
  ovfCnt : Nat := 0
  rsv : Nat := 0
  deriving DecidableEq, Repr

/-- A CQ entry placed in the ring (R418): its slot index, the command that still holds it, its bytes, and whether its
write response has returned OK. -/
structure CqEnt where
  idx : Nat
  cmd : Option Nat
  bits : Nat
  ok : Bool := false
  covered : Bool := false
  deriving DecidableEq, Repr

/-- What a CQ has under way on the link (R418–R420, R742). -/
structure CqRun where
  /-- Entries in the ring that are uncovered or whose response has not returned, oldest first. -/
  entries : List CqEnt := []
  /-- Entries covered since the last interrupt (R420). -/
  covered : Nat := 0
  /-- The interrupt timer runs. -/
  timer : Bool := false
  /-- Completions held for space, oldest first: command (R424). -/
  held : List Nat := []
  /-- The consumer index was read for the completion at hand (R423). -/
  asked : Bool := false
  deriving DecidableEq, Repr

/-- The queue manager beside its QM_ registers. -/
structure QmState where
  /-- Context cache, most recently doorbelled first (R402). -/
  cache : List (Nat × QmCtx) := []
  /-- Pending-doorbell map: key 2 × QID for an SQ, 2 × QID + 1 for a CQ (R407). -/
  db : Tbl Bool := []
  lastServed : Nat := 0
  /-- Shadow words with a read outstanding, keyed alike (R408). -/
  reading : List Nat := []
  /-- Shadow words returned and not yet applied (R411, R427). -/
  returned : Tbl Nat := []
  /-- SQs under scan, with entries taken in this turn (R412). -/
  scan : List (Nat × Nat) := []
  cq : Tbl CqRun := []
  /-- Pairs that are not DISABLED: an index of the contexts, kept by the model. -/
  live : List Nat := []
  /-- Spill pool: owner of each chunk, by chunk number (R422). -/
  chunks : Tbl Nat := []
  /-- RECOVER: re-reads still due (R430): bit 0 CQ, bit 1 SQ. -/
  recover : Nat := 0
  /-- Timebase of the halt, ns (R433). -/
  haltAt : Nat := 0
  /-- The 2 s of R433 run. -/
  parkArmed : Bool := false
  deriving DecidableEq, Repr

/-- A taken command in the command table (R438, R444). The 64-byte entry stands in `sqe`, byte 0 in bits 7:0. -/
structure Cmd where
  id : Nat
  qid : Nat := 0
  /-- SQ index of the entry (R406). -/
  idx : Nat := 0
  csv : Nat := 0x20
  sqe : Nat := 0
  /-- Timebase when it was taken, ns. -/
  taken : Nat := 0
  /-- Its opcode's step ran. -/
  started : Bool := false
  /-- Some step of it needs the medium and waits for it (R635, R645). -/
  medium : Bool := false
  /-- Host bytes gathered, and how many. -/
  buf : Nat := 0
  have_ : Nat := 0
  /-- Blocks not yet delivered, verified or journalled. -/
  left : Nat := 0
  /-- Failed blocks, as offsets (R448). -/
  bad : List Nat := []
  /-- Waits for a free channel: true where its data goes to the host (R502). -/
  wantChan : Option Bool := none
  /-- Guard list of a write (R474): values gathered, and the lines still to be read. -/
  gbuf : Nat := 0
  gleft : List Nat := []
  /-- Blocks served once more after a mismatch of their VCRC, as offsets (R473). -/
  again : List Nat := []
  /-- Lowest failed block, and its status (R448). -/
  fail : Option (Nat × Nat) := none
  /-- Blocks served from buffer or journal. -/
  near : Nat := 0
  recon : Bool := false
  raHit : Bool := false
  /-- Blocks that needed the ladder (VERIFY). -/
  laddered : Nat := 0
  /-- Past its point of no return (R475). -/
  pnr : Bool := false
  /-- The deadline of a DROP command was granted (R464). -/
  dropped : Bool := false
  /-- Completion formed: status and RESULT. -/
  status : Option Nat := none
  result : Nat := 0
  /-- Status with which it was aborted while a commit of it ran (R457). -/
  abort : Option Nat := none
  /-- DEALLOCATE: its ranges, once read (R446). -/
  ranges : Option (List (Nat × Nat)) := none
  /-- The LAST record is durable (R284, R459). -/
  lastDurable : Bool := false
  /-- Blocks of a force-to-medium write not yet on the medium and verified (R286): JSEQ of the record, and the block. -/
  fuaLeft : List (Nat × Nat) := []
  /-- It was taken after mirror loss while SOLO was set: it completes as if force-to-medium (R295). -/
  solo : Bool := false
  /-- Captures held: directory index and JSEQ of the entry, 0 for CLEAN (R552). -/
  caps : List (Nat × Nat) := []
  /-- JSEQs a FLUSH waits for (R469), fixed when it was taken. -/
  cover : List Nat := []
  held : Bool := false
  /-- DMA channel 0–39 in use for its data (R502). -/
  chan : Option Nat := none
  /-- Context that runs it (R568). -/
  ctx : Option Nat := none
  /-- The CQ entry was placed in the ring, and its write response is outstanding. -/
  placed : Bool := false
  /-- Completion held for want of ring and spill space (R424). -/
  waiting : Bool := false
  /-- Uncorrectable words met in its data: fetched or served once more (R538). -/
  tries : Nat := 0
  /-- It reached check 3 of R442 while a customer image was being installed, and waits (R595). -/
  late3 : Bool := false
  /-- A library service of a context (R582): context and buffer address; it has no CQ entry of its own. -/
  lib : Option (Nat × Nat) := none
  deriving DecidableEq, Repr

/-- A block that a command or engine waits for (R264, R458). -/
structure BlkWait where
  /-- Command identifier in the table; none for an engine's own read. -/
  cmd : Option Nat
  vol : Nat
  block : Nat
  member : Nat
  mba : Nat
  /-- Also issued as a reconstruction (R128, R264). -/
  recon : Bool := false
  /-- Read-ahead (R466). -/
  ahead : Bool := false
  /-- An unchanged block that a stripe write reads (R745). -/
  gather : Bool := false
  /-- A write to the block became durable since the read was issued (R555). -/
  stale : Bool := false
  /-- Its command was dropped under its deadline while the read ran (R464). -/
  gone : Bool := false
  /-- Deadline and take time for R462, ns (R749). -/
  deadline : Nat := 0
  take : Nat := 0
  deriving DecidableEq, Repr

/-- A reconstruction in progress (R261, R262, R744): stripe offset, the position wanted, and what its sources gave. -/
structure Recon where
  vol : Nat
  stripe : Nat
  u : Nat
  pos : Nat
  /-- Positions read OK: position, WSEQ, block. -/
  got : List (Nat × Nat × Nat) := []
  /-- Positions erased, and those whose ladder still runs. -/
  bad : List Nat := []
  laddering : List Nat := []
  deriving DecidableEq, Repr

/-- A read-ahead tracker (R466). -/
structure RaTracker where
  qid : Nat
  vol : Nat
  next : Nat
  run : Nat
  /-- End of the blocks read ahead, and how many of them the host has not read. -/
  ahead : Nat := 0
  unread : Nat := 0
  deriving DecidableEq, Repr

/-- The command scheduler beside its CM_ registers. -/
structure CmState where
  table : Tbl Cmd := []
  nextId : Nat := 1
  waits : List BlkWait := []
  recons : List Recon := []
  /-- Trackers, most recently used first. -/
  trackers : List RaTracker := []
  /-- A command-side reset runs; true where a halt held when it was accepted (R476). -/
  resetting : Option Bool := none
  /-- Seek attempts made per actuator (R463). -/
  seekTries : Tbl Nat := []
  /-- Operations chosen per actuator and not yet run (R462). -/
  sched : Tbl (List BlkWait) := []
  /-- Activation: the drain limit was granted (R479), the commands it ended, the start, the command. -/
  actEnded : List Nat := []
  actStart : Nat := 0
  actCmd : Option Nat := none
  /-- Commands whose deadline was granted and whose data may still become ready, with the reads in progress (R464). -/
  dlGone : List (Nat × Nat) := []
  /-- A QUEUE_DELETE, RESHAPE_PAUSE, VOL_ENABLE or VOL_DISABLE waiting: command and what it waits for. -/
  admin : List (Nat × Nat) := []
  deriving DecidableEq, Repr

/-- What waits on a fill (R484). -/
inductive Waiter where
  /-- An SQ entry: QID. -/
  | sqe (q : Nat)
  /-- A chain descriptor of a DMA channel. -/
  | chain (ch : Nat)
  /-- Part of a command's guard list. -/
  | guard (id : Nat)
  /-- A HOST load of a context: address, bytes. -/
  | ctx (n addr size : Nat)
  /-- Requester `r` of R482 with no further effect modelled (cores, guard lists). -/
  | other (r : Nat)
  deriving DecidableEq, Repr

/-- A line of the host memory cache (R483); its number is its key in the line table. -/
structure HcLine where
  /-- Address bits 63:7. -/
  addr : Nat
  /-- 1 FILLING, 2 VALID; an absent line is INVALID. -/
  state : Nat
  data : Nat := 0
  /-- Bytes of `data` written while the line is FILLING (R485). -/
  mask : Nat := 0
  /-- The line is invalidated when its fill completes (R495). -/
  invOnFill : Bool := false
  /-- Filled by a prefetch and not hit since (R488). -/
  prefetched : Bool := false
  waiters : List Waiter := []
  /-- A read that waited on the fill is being served, and counted when it arrived (R484). -/
  served : Bool := false
  /-- Slots of the ring line owned when its read was issued, and those not yet taken (R414, R416): bits 0 and 1. -/
  owned : Nat := 3
  left : Nat := 0
  deriving DecidableEq, Repr

/-- A merging-buffer entry (R490–R493). -/
structure WbEntry where
  id : Nat
  req : Nat
  line : Nat
  /-- Bytes held: bit k for byte k. -/
  mask : Nat
  data : Nat
  issued : Bool := false
  /-- WRITE frames of the entry that await a response. -/
  outst : Nat := 0
  deriving DecidableEq, Repr

/-- A stride tracker (R488): the lines of the last three reads, newest first. -/
structure StrideTracker where
  last : List Nat := []
  /-- Stride it is locked on, in lines. -/
  locked : Option Int := none
  /-- QID of requester 0's reads (R489). -/
  qid : Nat := 0
  deriving DecidableEq, Repr

/-- The host memory cache beside its HC_ registers. -/
structure HcState where
  lines : Tbl HcLine := []
  wb : List WbEntry := []
  nextWb : Nat := 0
  trackers : Tbl StrideTracker := []
  /-- Fills that wait for a line (R486): line address, requester waiting. -/
  fillWait : List (Nat × Waiter) := []
  /-- Writes that wait for an entry (R491): requester, address, bytes, data. -/
  wbWait : List (Nat × Nat × Nat × Nat) := []
  /-- Entries of the merging buffer a DRAIN waits for; none when no DRAIN is pending (R494). -/
  drain : Option (List Nat) := none
  deriving DecidableEq, Repr

/-- A DMA channel beside its DM_CH_ registers (R502–R525). Offsets count bytes from the start of its transfer. -/
structure DmChan where
  /-- Bytes of the transfer, those finished without a gap, and those issued. -/
  total : Nat := 0
  fin : Nat := 0
  issued : Nat := 0
  /-- Channels 0–39: the command served, and the offset of this transfer in its data. Other channels: the command of the
  owning context. -/
  cmd : Option Nat := none
  base : Nat := 0
  /-- Source data read from the host and not yet at its destination: offset, bytes, data. -/
  ahead : List (Nat × Nat × Nat) := []
  /-- Host segments of a chain, in order: window address and bytes; and the walk, next descriptor and hops (R514–R516). -/
  segs : List (Nat × Nat) := []
  chain : Option (Nat × Nat) := none
  /-- Bursts requested on the request line and not yet run (R505). -/
  due : Nat := 0
  /-- PAUSE was written and the channel drains (R508). -/
  draining : Bool := false
  /-- A halt takes effect after the current burst: cause (R510). -/
  haltDue : Nat := 0
  /-- Lowest faulted byte (R520, R521). -/
  faultAt : Option Nat := none
  /-- The fault timer runs (R520 step 5). -/
  timer : Bool := false
  deriving DecidableEq, Repr

/-- The DMA engine beside its DM_ registers. -/
structure DmState where
  ch : Tbl DmChan := []
  /-- Host window table, word by word, where written (R517, R519). -/
  hwt : Tbl Nat := []
  /-- Staged words 0 to 2 of the entry being written. -/
  staged : Tbl Nat := []
  /-- Request lines asserted (R505). -/
  lines : List Nat := []
  deriving DecidableEq, Repr
/-- An extent-directory entry (R545); its index is its key. -/
structure EdEnt where
  first : Nat
  vol : Nat
  /-- 1 CLEAN, 2 DIRTY, 3 SPILLED. -/
  kind : Nat
  count : Nat
  heat : Nat := 0
  ref : Nat := 0
  loc : Nat := 0
  jseq : Nat := 0
  /-- Inserted by read-ahead (R557). -/
  ahead : Bool := false
  deriving DecidableEq, Repr

/-- Buffer memory and the extent directory beside their BM_ registers. -/
structure BmState where
  /-- Buffer memory: addresses strictly rising, no byte 0 listed; an unlisted byte reads 0 (R558 S4). -/
  mem : List Host.Cell := []
  /-- Error bits of a stored 80-bit word, by word address: data in bits 63:0, check bits in 79:64; an unlisted word has
  none. A poisoned word has all 16 check bits inverted (R534). -/
  err : Tbl Nat := []
  ed : Tbl EdEnt := []
  /-- Clock hand, an entry index (R556). -/
  hand : Nat := 0
  /-- Corrected errors seen per DDR5 row since the last pass (R537). -/
  rows : Tbl Nat := []
  /-- Scrubber position, burst number. -/
  scrubAt : Nat := 0
  /-- Volumes held for a directory rebuild: bit v (R554). -/
  hold : Nat := 0
  /-- Channels with a device above TEMP_LIM in an excursion that runs (R561): bit n. -/
  hot : Nat := 0
  /-- Channels in fine-granularity refresh (R529): bit n. -/
  fine : Nat := 0
  /-- BM_CACHE_BASE and BM_CACHE_SIZE as the last start-up found them (R563). -/
  cacheAt : Nat := 0
  cacheMib : Nat := 0
  deriving DecidableEq, Repr

/-- A micro-trap that waits or is served (R585, R586). -/
structure Trap where
  cause : Nat
  detail : Nat := 0
  chan : Nat := 0
  deriving DecidableEq, Repr

/-- What a waiting context waits for (R573). -/
inductive CtxWait where
  | none
  /-- The wait event of a WAIT microword. -/
  | event
  /-- A free channel for DMA_CLAIM. -/
  | claim
  /-- A HOST load that runs, and one whose data is at hand. -/
  | mem
  | memDone
  /-- A library service. -/
  | lib
  /-- The XLAT handler waits (R586). -/
  | xlat
  deriving DecidableEq, Repr

/-- A command context (R567). -/
structure CtxState where
  /-- 0 FREE, 1 READY, 2 WAITING, 3 PARKED. -/
  st : Nat := 0
  cmd : Nat := 0
  opc : Nat := 0
  cust : Bool := false
  zh4 : Bool := false
  slice : Nat := 0
  upc : Nat := 0
  g : Tbl Nat := []
  x : Tbl Nat := []
  t : Nat := 0
  z : Bool := false
  n : Bool := false
  c : Bool := false
  unitOk : Bool := false
  memErr : Bool := false
  libErr : Bool := false
  /-- Return stack, top first. -/
  rs : List Nat := []
  status : Nat := 0
  level : Bool := false
  /-- Trap frame, 512 bits (R585). -/
  frame : Nat := 0
  pend : List Trap := []
  steps : Nat := 0
  /-- Microwords since the last step boundary. -/
  words : Nat := 0
  wait : CtxWait := .none
  /-- DMA channels held. -/
  chans : List Nat := []
  /-- Parity jobs outstanding; those ended and not yet waited for, oldest first, true where the result is not OK; and
  whether the job last waited for failed (R580). -/
  jobs : Nat := 0
  jobRes : List Bool := []
  peFail : Bool := false
  /-- What a HOST load returned (R581). -/
  memVal : Nat := 0
  /-- Host lines the context stored to (R581). -/
  hostLines : List Nat := []
  deriving DecidableEq, Repr

/-- The command engine beside its MC_ registers. -/
structure McState where
  ctx : Tbl CtxState := []
  /-- Micro store (28-bit words), nano store (192-bit words), dispatch table. -/
  micro : Tbl Nat := []
  nano : Tbl Nat := []
  disp : Tbl Nat := []
  /-- Store words with an uncorrectable error: key address, nano words at 16384 + address. -/
  ue : List Nat := []
  /-- Staging area of MICRO_LOAD, byte 0 in bits 7:0 (R594), and the image that waits for installation (R595). -/
  stage : Nat := 0
  install : Option Nat := none
  /-- Stored customer image in the firmware store. -/
  stored : Option Nat := none
  /-- Round-robin turn per sequencer (R566). -/
  turn : Tbl Nat := []
  deriving DecidableEq, Repr

/-- What PM is doing with the standby chain. -/
inductive PwJob where
  | none
  /-- Switch-over gap: the chain starting into its isolated outputs; true after FORCE_SWITCH (R611, R619). -/
  | gap (forced : Bool)
  /-- Steps 1–2 of R617. -/
  | testStart
  /-- Steps 3–4 of R617. -/
  | testLoad
  /-- Step 1 of R616. -/
  | resyncStart
  /-- Step 2 of R616. -/
  | resyncHold
  deriving DecidableEq, Repr

/-- PM beside its PW_ registers (R22–R28, R601–R620). -/
structure PwState where
  lostA : Bool := false
  lostB : Bool := false
  /-- Feeds lost whose return to 10.4 V has not come yet (R602): bit 0 A, bit 1 B. -/
  feedDue : Nat := 0
  /-- Switches opened on overvoltage (R603). -/
  isoA : Bool := false
  isoB : Bool := false
  /-- The standby chain failed during a switch-over, and the power-fail signal is due (R613). -/
  stbyDead : Bool := false
  /-- The power-fail signal is raised (R604). -/
  powerFail : Bool := false
  job : PwJob := .none
  /-- The chain the job concerns: 0 A, 1 B. -/
  jobChain : Nat := 0
  /-- A R613 expiry was granted and its regulation may still arrive (R613). -/
  stbyLate : Bool := false
  /-- Rail returns that may still arrive after a granted failure (R610). -/
  chainLate : Bool := false
  /-- The automatic resynchronisation of the FAILED chain was made (R616). -/
  autoDone : Bool := false
  /-- A HOLDUP_LOW excursion runs (R606). -/
  lowExc : Bool := false
  /-- Consecutive windows with every count at 110 % of its floor (R26). -/
  highRun : Nat := 0
  /-- Consecutive windows at 0.85 V below the floor, per pace register index (R28). -/
  lowRun : Tbl Nat := []
  /-- EV_HOURS at the last PASS of R617, kept in MRAM. -/
  passAt : Nat := 0
  /-- The preceding power-down reached step 4 of R607 (R681). -/
  orderly : Bool := false
  /-- A chain carries the rails; false from the end of a power-down to the next power-on (R607, R609). -/
  powered : Bool := true
  /-- Chain B started at power-on because chain A did not reach regulation (R609). -/
  startedB : Bool := false
  /-- The BOOT that follows comes from a device reset and not from power-on (R681). -/
  fromReset : Bool := true
  deriving DecidableEq, Repr

/-- The safety monitor beside its SF_ registers (R621–R625). -/
structure SfState where
  /-- Consecutive samples at or above the trip, per die (R621). -/
  tripRun : Tbl Nat := []
  /-- Consecutive samples at or above the warning, per die. -/
  warnRun : Tbl Nat := []
  /-- Spindles to be shorted when RET_HOLD ends: bit s. -/
  holdMask : Nat := 0
  /-- The heartbeat timer was granted and no heartbeat has come since. -/
  hbLost : Bool := false
  testing : Bool := false
  deriving DecidableEq, Repr

/-- Where an entry into or exit from REST stands (R651, R655). -/
inductive RestPhase where
  | awake
  /-- Step 2 of R651: no entry is taken, taken commands complete. -/
  | draining
  /-- Step 3: every spindle stops. -/
  | stopping
  /-- Step 4: blocks shut down, registers and arrays saved. -/
  | saved
  /-- Step 5 done: MODE = REST. -/
  | asleep
  /-- R655 steps 1–3 run; true after a safety-monitor trip (R657). -/
  | waking (trip : Bool)
  deriving DecidableEq, Repr

/-- Modes and idle levels beside the MD_ registers (R630–R661). -/
structure MdState where
  /-- Idle timers in ms, key 4 × group + level (0 I1 … 3 REST). -/
  timers : Tbl Nat := []
  /-- Levels whose timer has run out since the group's last entry, per group: bit 0 I1 … bit 3 REST (R643). -/
  reached : Tbl Nat := []
  /-- GOTO_REST has set the target as if every timer had expired (R650). -/
  gotoRest : Bool := false
  /-- The exit to I0 runs (R645, R648). -/
  exiting : Bool := false
  rest : RestPhase := .awake
  /-- Source of a SAFE request latched in BOOT; 0 none (R636). -/
  safeReq : Nat := 0
  /-- Spindles recorded at step 3 of R651 or by R637: bit s. -/
  restSpin : Nat := 0
  /-- Registers saved at step 4 of R651 (R658). -/
  saved : Tbl Word := []
  /-- Actuators whose preamp has given its mask in this BOOT: bit a (R640). -/
  idSeen : Nat := 0
  /-- Populated heads, bit h, as identified (R640). -/
  pop : Nat := 0
  /-- Neither copy of the record was valid, or its POP differs (R640): boot ends in MAINT. -/
  pfrBad : Bool := false
  /-- The pack format record in force, byte 0 in bits 7:0 (R639). -/
  pfr : Nat := 0
  /-- Timer of the halt park or of the idle level is held by a halt (R433). -/
  haltHold : Bool := false
  deriving DecidableEq, Repr

/-- One event record (R678). -/
structure EvRec where
  code : Nat
  fault : Bool
  rate : Bool
  boot : Bool
  dropped : Bool
  level : Nat
  seq : Nat
  time : Nat
  hours : Nat
  pcyc : Nat
  unit : Nat
  supp : Nat
  arg : Nat
  deriving DecidableEq, Repr

/-- The event recorder beside its EV_ registers (R678–R688). `first` and `last` are the two areas in MRAM. -/
structure EvState where
  /-- Accepted records not yet durable, oldest first; at most 16 (R685). -/
  queue : List EvRec := []
  /-- SEQ of the last accepted record (R680). -/
  seqAcc : Nat := 0
  /-- Tokens in use per code (R684): the code's burst limit less its token count. -/
  used : Tbl Nat := []
  /-- Records of the code suppressed since the last stored one (R684). -/
  supp : Tbl Nat := []
  /-- Records dropped since the queue was last found full and not yet reported (R685). -/
  drops : Nat := 0
  /-- The next stored record carries DROPPED (R685). -/
  dropMark : Bool := false
  /-- A clear that runs: 0 the first area, 1 the last, with its accepted EV_CLEARED record (R688). -/
  clearing : Option (Nat × EvRec) := none
  first : Tbl EvRec := []
  last : Tbl EvRec := []
  deriving DecidableEq, Repr

/-- One history entry of a fault unit (R674). -/
structure HistEntry where
  bit : Nat
  level : Nat
  second : Bool
  seq : Nat
  deriving DecidableEq, Repr

/-- A fault unit beside its FT_U registers (R663–R674). -/
structure UnitState where
  /-- Unacknowledged classes, earliest unacknowledged occurrence first (R668). -/
  order : List Nat := []
  /-- History entries, newest first, at most 8 (R674). -/
  hist : List HistEntry := []
  deriving DecidableEq, Repr

/-- Faults common to the device (R671, R675, R677). -/
structure FtState where
  /-- The FAULT_N pulse of R676 runs. -/
  pulse : Bool := false
  /-- The safety monitor's own pulse runs (R621). -/
  sfPulse : Bool := false
  /-- PM holds FAULT_N low (R609: neither chain reached regulation). -/
  pmHold : Bool := false
  /-- An L4 action waits for its record and pulse: unit and class bit (R677). -/
  resetOf : Option (Nat × Nat) := none
  /-- Units whose L2 store quiesce holds (R671). -/
  storeQuiesce : List Nat := []
  /-- RESET_N is held low (R736). -/
  resetLow : Bool := false
  deriving DecidableEq, Repr

/-- What the MRAM system area keeps of a firmware slot: its staging state (R708) and its gate-failure mark (R702). -/
structure BtSlot where
  /-- Next expected offset, in 4 KiB. -/
  next : Nat := 0
  complete : Bool := false
  why : Nat := 0
  /-- SHA-256 of the staged header bytes 0x0000–0x0FFF. -/
  digest : Nat := 0
  mark : Option Nat := none
  deriving DecidableEq, Repr

/-- A piece that FW_STAGE writes into the store (R707): its command, slot, first 4 KiB page in the slot, and pages. -/
structure FsOp where
  id : Nat
  slot : Nat
  page : Nat
  n : Nat
  deriving DecidableEq, Repr

/-- BT beside its BT_ registers (R692–R717): the firmware store, fuses, keys and measurements. -/
structure BtState where
  slots : Tbl BtSlot := []
  /-- The firmware store by 4 KiB page, byte 0 in bits 7:0; an absent page is erased, every bit 1. -/
  store : Tbl Nat := []
  fsOp : Option FsOp := none
  /-- Pieces that wait for the one being written. -/
  fsWait : List Nat := []
  /-- A store timeout was granted and its completion may still come (R709). -/
  fsLate : Bool := false
  /-- Stage entry the gate is loading (R701). -/
  gating : Option Nat := none
  /-- Header of the running slot, 16 KiB, byte 0 in bits 7:0. -/
  hdr : Nat := 0
  /-- Slot of the activation in progress (R707, R711). -/
  actSlot : Option Nat := none
  /-- Reports since power-on (R714), the commands whose nonce is read, oldest first, and the held signature (R715). -/
  reports : Nat := 0
  signing : List Nat := []
  sig : Nat := 0
  /-- Customer keys by slot (R716). -/
  keys : Tbl Nat := []
  /-- The anti-rollback fuses, bits 2i and 2i + 1 for step i, and the revocation fuse of key 0 (R704, R706). -/
  fuse : Nat := 0
  revoked : Bool := false
  /-- The ROM asked for the timebase switch (R700). -/
  wantSwitch : Bool := false
  /-- The boot record is to be written (R712). -/
  recDue : Bool := false
  deriving DecidableEq, Repr

/-- The whole machine. -/
structure State where
  /-- Commands waiting, first in, first out. -/
  pending : List Instr := []
  /-- Timebase, ns, modulo 2^64 (R29). -/
  now : Nat := 0
  /-- Control-window registers that differ from their reset value, by address. -/
  regs : Tbl Word := []
  /-- The model's own count of free values used. -/
  freeCtr : Nat := 0
  /-- The word the last register or data-window read returned. -/
  rdata : Word := 0
  /-- Frames sent on the link, newest first (R377). -/
  sent : List OutFrame := []
  ev : EvState := {}
  unitT : Tbl UnitState := []
  ft : FtState := {}
  pw : PwState := {}
  sf : SfState := {}
  md : MdState := {}
  chT : Tbl ChState := []
  paT : Tbl PaState := []
  ldT : Tbl LdState := []
  actT : Tbl ActState := []
  acc0 : AccState := {}
  acc1 : AccState := {}
  spT : Tbl SpState := []
  /-- Spindles in WAIT, in the order their SPIN was accepted (R218). -/
  spWait : List Nat := []
  ar : ArState := {}
  jn : JnState := {}
  rb : RbState := {}
  lk : LkState := {}
  qm : QmState := {}
  cm : CmState := {}
  hc : HcState := {}
  dm : DmState := {}
  bm : BmState := {}
  mc : McState := {}
  bt : BtState := {}
  deriving DecidableEq, Repr

/-- EV_START of the BOOT that a device reset enters (R677 step 5, R681). -/
def startRec : EvRec :=
  { code := 0x0114, fault := false, rate := false, boot := true, dropped := false, level := 0, seq := 1, time := 0, hours := 0,
    pcyc := 0, unit := 0x40, supp := 0, arg := 1 }

/-- The machine right after a device reset, its MRAM, stores and fuses blank: every register at its reset value, MODE = BOOT,
every queue and buffer empty but for the EV_START record that every entry to BOOT raises. -/
def State.reset : State := { ev := { queue := [startRec], seqAcc := 1 } }

end Sys2Proof.Machine
end

