-- ==== Sys2Proof/Machine/Line.lean ====
section
/-! DEFINITION. Machine/Line.lean: what a port puts on its lanes and takes from them (R356–R366, R376, R384, R396): frame and
control-flit images, the line scrambler, the Reed-Solomon parity, blocks, lanes and alignment markers, and the credits that
the flits of a block use. -/

namespace Sys2Proof.Machine

/-! Scrambler (R359). A history of 58 line bits has the newest in bit 57. -/

/-- The line bits of `x`, 39 at a time, the last time 31, after a history: the bits, and the history after them. -/
def scramLine : Nat → Nat → Nat → Nat × Nat
  | 0, _, h => (0, h)
  | n + 1, x, h =>
    let c := if n = 0 then 31 else 39
    let y := (x ^^^ h ^^^ (h / 2 ^ 19)) % 2 ^ c
    let r := scramLine n (x / 2 ^ c) ((h + y * 2 ^ 58) / 2 ^ c)
    (y + 2 ^ c * r.1, r.2)

/-- The 5,140 bits of a block's header and flits, scrambled. -/
def scramBlock (x h : Nat) : Nat × Nat := scramLine 132 x h

/-- The 5,140 bits descrambled, and the history after them. -/
def descramBlock (y h : Nat) : Nat × Nat :=
  let e := h + y * 2 ^ 58
  ((y ^^^ e ^^^ (e / 2 ^ 19)) % 2 ^ 5140, e / 2 ^ 5140)

/-! RS(544,514) over GF(2^10) (R357). PRESUMED 104: as IEEE 802.3 orders it, the first symbol sent stands for the highest
power, and bit 0 of a symbol is sent first. -/

/-- Multiplication by α, x^10 + x^3 + 1. -/
def rsAlpha (a : Nat) : Nat := if a < 512 then 2 * a else (2 * a) ^^^ 0x409

/-- The product of two elements, over `n` bits of the second. -/
def rsMul : Nat → Nat → Nat → Nat
  | 0, _, _ => 0
  | n + 1, a, b => (if b % 2 = 1 then a else 0) ^^^ rsMul n (rsAlpha a) (b / 2)

/-- (x − α^0) … (x − α^(n−1)), lowest power first, and α^n. -/
def rsGen : Nat → List Nat × Nat
  | 0 => ([1], 1)
  | n + 1 =>
    let g := rsGen n
    (List.zipWith (· ^^^ ·) (0 :: g.1) (g.1.map (rsMul 10 g.2) ++ [0]), rsAlpha g.2)

/-- The remainder, lowest power first, of `n` more symbols of `x`. -/
def rsRest (g : List Nat) : Nat → Nat → List Nat → List Nat
  | 0, _, p => p
  | n + 1, x, p =>
    let fb := (x % 1024) ^^^ p.getD 29 0
    rsRest g n (x / 1024) (List.zipWith (· ^^^ ·) (0 :: p) (g.map (rsMul 10 fb)))

/-- The 300 parity bits of 5,140 scrambled bits, in the order sent. -/
def rsParity (x : Nat) : Nat :=
  pk (((rsRest ((rsGen 30).1.take 30) 514 x (List.replicate 30 0)).take 30).reverse.map (fun s => (s, 10)))

/-! Frames (R365, R376, R396). -/

/-- What a port needs to know to send: whether the hop speaks 1.x, its version, the ZH8's own ID, RATE and LANEMASK. -/
structure Hop where
  v1 : Bool
  ver : Nat
  own : Nat
  rate : Nat
  mask : Nat
  stop : Bool

/-- TYPE (R377); of any other type in transit, as it came. -/
def OutFrame.typ (f : OutFrame) : Nat := match f.kind with
  | 0 => 0x11
  | 1 => 0x10
  | 2 => 0x12
  | 3 => 0x13
  | 4 => 0x14
  | 5 => 0x18
  | 6 => 0x20
  | _ => f.code

/-- Payload bytes. -/
def OutFrame.payload (f : OutFrame) : Nat := if f.kind = 0 || f.kind = 3 || f.kind = 4 then 0 else f.len

/-- Flits of a frame with `n` payload bytes (R376, R396). -/
def flitsOf (v1 : Bool) (n : Nat) : Nat := ((if v1 then 24 else 32) + (n + 3) / 4 * 4 + 4 + 63) / 64

/-- Flits of a frame; an LCF is one. -/
def OutFrame.flits (f : OutFrame) (v1 : Bool) : Nat := if f.kind = 8 then 1 else flitsOf v1 f.payload

/-- An address of R378 in the 1.x coding of R396: bit 11 stands in bit 10. -/
def dst1x (d : Nat) : Nat := d / 2048 * 1024 + d % 1024

/-- A header with its HCRC: 32 bytes in version 2.x, 24 in 1.x (R376, R396). DESIGN CHOICE 107: a frame in transit leaves with
the version 0x21, or that of a 1.x hop. -/
def OutFrame.header (f : OutFrame) (h : Hop) : Nat :=
  let src := if f.transit then f.src else h.own
  let status := if f.kind = 2 || f.kind = 3 || f.kind = 4 then f.code else 0
  let rsp := if f.kind = 1 then f.code else 0
  if h.v1 then
    let b := pk [(f.typ, 8), (h.ver, 8), (dst1x f.dst, 11), (0, 5), (dst1x src, 11), (0, 5), (f.vc, 2), (rsp, 1), (status, 5),
      (f.hops, 8), (f.tag, 16), (f.len, 9), (0, 7), (f.addr, 48), (f.space, 2), (0, 14)]
    b + Code.crc32c 160 b * 2 ^ 160
  else
    let b := pk [(f.typ, 8), (0x21, 8), (f.dst, 12), (0, 4), (src, 12), (0, 4), (f.vc, 2), (rsp, 1), (0, 5), (f.hops, 8), (f.tag, 16),
      (f.payload, 13), (0, 3), (status, 8), (f.space, 8), (0, 16), (f.addr, 64), (if f.kind = 0 then f.len else 0, 13), (0, 19)]
    b + Code.crc32c 224 b * 2 ^ 224

/-- A link control flit (R365): NAK in `len`, NAKSEQ in `code`, CR0 to CR3 in `data`. -/
def OutFrame.lcf (f : OutFrame) : Nat := pk [(1, 8), (f.len, 1), (0, 7), (f.code, 10), (0, 6), (f.data, 64)]

/-- The flits of a frame, byte 0 in the lowest bits (R376). -/
def OutFrame.image (f : OutFrame) (h : Hop) : Nat :=
  if f.kind = 8 then f.lcf
  else
    let n := (if h.v1 then 24 else 32) + (f.payload + 3) / 4 * 4
    let b := f.header h + f.data % 2 ^ (8 * f.payload) * 2 ^ (8 * (if h.v1 then 24 else 32))
    b + Code.crc32c (8 * n) b * 2 ^ (8 * n)

/-- The LCF that returns credits and, with `nak`, asks for a BSEQ again (R363, R365). -/
def lcfFrame (credits : List Nat) (nak : Option Nat) : OutFrame :=
  { kind := 8, dst := 0, tag := 0, addr := 0, len := b2n nak.isSome, code := nak.getD 0,
    data := pk ((upTo 4).map (fun v => (credits.getD v 0, 16))) }

/-! Blocks, lanes and markers (R356, R358, R360–R362). -/

/-- Lanes in use, ascending. -/
def lanesOf (mask : Nat) : List Nat := (upTo 8).filter (fun i => bitOf mask i = 1)

/-- A 10-bit group as a lane sends it: PAM4 levels at 56 Gb/s, the first bit of a pair the most significant, Gray coded; else its
bits. -/
def symbols (rate g : Nat) : List Int :=
  if rate = 3 then (upTo 5).map (fun i => match bitOf g (2 * i), bitOf g (2 * i + 1) with
    | 0, 0 => -3
    | 0, _ => -1
    | _, 0 => 3
    | _, _ => 1)
  else (upTo 10).map (fun i => (bitOf g i : Int))

/-- The line bits of a block: scrambled header and flits, then RS parity, or CRC-32C and 8 zeros (R357, R358). -/
def blockBits (rate y : Nat) : Nat := y + (if rate = 3 then rsParity y else Code.crc32c 5140 y) * 2 ^ 5140

/-- What each lane sends of a block: group g goes to the g-th lane in use, modulo their number (R360). -/
def laneSymbols (h : Hop) (bits : Nat) : List (List Int) :=
  let l := lanesOf h.mask
  (upTo l.length).map (fun j => ((upTo (if h.rate = 3 then 544 else 518)).filter (fun g => g % atLeast1 l.length == j)).flatMap
    (fun g => symbols h.rate (bits / 2 ^ (10 * g) % 1024)))

/-- One block goes out with a BSEQ and the ACKSEQ of the other direction (R362); every 4,096 blocks each lane sends an alignment
marker with its lane number and the marker count (R361). -/
def PortState.block (x : PortState) (h : Hop) (seq flits : Nat) : PortState :=
  let y := scramBlock (seq % 1024 + (x.rxNext + 1023) % 1024 * 1024 + flits % 2 ^ 5120 * 2 ^ 20) x.scr
  let due := decide (x.since + 1 ≥ 4096)
  { x with
    scr := y.2, wire := laneSymbols h (blockBits h.rate y.1), since := if due then 0 else x.since + 1,
    marks := if due then (x.marks + 1) % 65536 else x.marks,
    am := if due then (lanesOf h.mask).map (fun i => Config.marker i x.marks) else x.am }

/-- The last `k` blocks of a frame that begins a block of its own, the first of them with a BSEQ; the LCF of the frame follows it. -/
def PortState.blocksOut (x : PortState) (h : Hop) (seq k : Nat) (f : OutFrame) : PortState :=
  let all := f.image h + (match f.ctl with
    | some c => (lcfFrame c none).lcf * 2 ^ (512 * f.flits h.v1)
    | none => 0)
  let n := (f.flits h.v1 + b2n f.ctl.isSome + 9) / 10
  (upTo k).foldl (fun t i => t.block h (seq + i) (all / 2 ^ (5120 * (n - k + i)))) x

/-! Sending (R364–R366, R384, R386). -/

/-- A frame that begins here, in answer to no other: a READ, a WRITE or an EVENT of the ZH8. -/
def OutFrame.originated (f : OutFrame) : Bool := !f.transit && (f.kind == 0 || f.kind == 1 || f.kind == 5)

/-- The frame a port takes next: VC0, VC3, VC1, VC2, own frames and transit frames in turn, with credits for every flit
(R384, R386). In shut-down no frame is originated (R374). -/
def PortState.pick (x : PortState) (h : Hop) : Option OutFrame :=
  [0, 3, 1, 2].findSome? (fun v =>
    let l := x.out.filter (fun f => f.vc == v && !(h.stop && f.originated))
    let turn := decide (bitOf x.lastOwn v = 1)
    match (match l.find? (fun f => f.transit == turn) with
      | some f => some f
      | none => l.head?) with
    | some f => if f.flits h.v1 ≤ x.credits.getD v 0 then some f else none
    | none => none)

/-- Credits are owed for flits that left the receive buffer (R365, R384). -/
def PortState.owes (x : PortState) : Bool := x.owed.any (fun n => decide (n ≠ 0))

/-- The owed credits are returned. -/
def PortState.pay (x : PortState) : PortState :=
  { x with grant := (upTo 4).map (fun v => x.grant.getD v 0 + x.owed.getD v 0), owed := [0, 0, 0, 0], slots := 0 }

/-- Blocks on their way on a port. -/
def PortState.blocks (x : PortState) : Nat := (x.unacked.map (·.1)).sum

/-- The blocks of a frame enter the replay buffer and go out. -/
def PortState.emit (x : PortState) (h : Hop) (f : OutFrame) : PortState :=
  let n := f.flits h.v1 + b2n f.ctl.isSome
  let k := (n + 9) / 10
  { x.blocksOut h x.txNext k f with
    unacked := x.unacked ++ [(k, f)], txNext := (x.txNext + k) % 1024, slots := x.slots + 10 * k }

/-- An LCF goes out between frames, in a block of its own. -/
def PortState.lcfOut (x : PortState) (h : Hop) (nak : Option Nat) : PortState := (x.emit h (lcfFrame x.owed nak)).pay

/-- A frame leaves in blocks of ten flits. DESIGN CHOICE 59: each frame begins a block of its own. Where credits are owed, an LCF
takes the slot after it if its last block has one; and one goes before it where 256 slots would pass without (R366). -/
def PortState.take (x : PortState) (h : Hop) (f : OutFrame) : PortState :=
  let n := f.flits h.v1
  let x := { x with
    out := x.out.erase f, credits := x.credits.set f.vc (x.credits.getD f.vc 0 - n),
    lastOwn := if f.transit then clrBit x.lastOwn f.vc else setBit x.lastOwn f.vc }
  let x := if x.owes && n % 10 = 0 && decide (x.slots + n ≥ 256) then x.lcfOut h none else x
  if x.owes && n % 10 ≠ 0 then (x.emit h { f with ctl := some x.owed }).pay else x.emit h f

/-- Frames leave while the port may send: with 256 blocks unacknowledged it sends no new one (R364). -/
def PortState.pump (h : Hop) : Nat → PortState → PortState
  | 0, x => x
  | n + 1, x =>
    if x.blocks ≥ 256 then x
    else match x.pick h with
      | some f => PortState.pump h n (x.take h f)
      | none => x

/-- What waits goes out; credits still owed then return in a slot outside a frame (R365). -/
def PortState.flow (x : PortState) (h : Hop) : PortState :=
  let x := x.pump h x.out.length
  if x.owes && decide (x.blocks < 256) then x.lcfOut h none else x

/-- Every unacknowledged block goes out again, oldest first (R364). -/
def PortState.again (x : PortState) (h : Hop) : PortState :=
  (x.unacked.foldl (fun (t : Nat × PortState) u => (t.1 + u.1, t.2.blocksOut h t.1 u.1 u.2)) (x.txOld, x)).2

/-! Receiving (R384, R385). -/

/-- The flits of a block as the receiver counts them: flits left of the frame that arrives, its VC, the credits the partner
holds, the flits freed per VC, and whether one came without a credit. -/
structure FlitIn where
  left : Nat
  vc : Nat
  grant : List Nat
  freed : List Nat
  bare : Bool

/-- A flit of a frame on a VC, after which `left` follow. -/
def FlitIn.count (x : FlitIn) (v left : Nat) : FlitIn :=
  { left := left, vc := v, grant := x.grant.set v (x.grant.getD v 0 - 1), freed := x.freed.set v (x.freed.getD v 0 + 1),
    bare := x.bare || x.grant.getD v 0 == 0 }

/-- One flit: of a frame, IDLE or an LCF, or the first of a frame. -/
def FlitIn.step (v1 : Bool) (x : FlitIn) (fl : Nat) : FlitIn :=
  if x.left > 0 then x.count x.vc (x.left - 1)
  else if fl % 256 ≤ 1 then x
  else x.count (bitsOf fl 48 2) (flitsOf v1 (if fl % 256 = 0x11 then 0 else bitsOf fl 80 (if v1 then 9 else 13)) - 1)

/-- The ten flits of a block. -/
def PortState.flitsIn (x : PortState) (v1 : Bool) (flits : Nat) : FlitIn :=
  (upTo 10).foldl (fun t i => t.step v1 (flits / 2 ^ (512 * i) % 2 ^ 512))
    { left := x.rxLeft, vc := x.rxVc, grant := x.grant, freed := [0, 0, 0, 0], bare := false }

/-- Bytes a block brings each lane, rounded up. -/
def laneBytes (rate mask : Nat) : Nat :=
  let m := atLeast1 (lanesOf mask).length
  ((if rate = 3 then 680 else 648) + m - 1) / m

end Sys2Proof.Machine
end

