-- ==== Sys2Proof/Machine/Ops.lean ====
section
/-! DEFINITION. Machine/Ops.lean: the named operations over the state that every family uses: registers and their
fields, counters, instances, time, free values, and frames sent. -/

namespace Sys2Proof.Machine

open Reg

/-- The reset value of the register at an address (R17); MD_ID is fused (R662); a reserved address reads 0 (R16). -/
def resetVal (addr : Nat) : Word :=
  if addr = MD_ID then BitVec.ofNat 32 (Config.part.toNat + 2 * Config.stepping.toNat)
  else match regFields addr with
    | some fs => BitVec.ofNat 32 (assemble fs)
    | none => 0

/-- The value a register holds. -/
def State.rd (s : State) (addr : Nat) : Word := s.regs.getD addr (resetVal addr)

/-- The register at an address takes a value. -/
def State.wr (s : State) (addr : Nat) (v : Word) : State := { s with regs := s.regs.putD addr (resetVal addr) v }

/-- The value of a register field. -/
def State.g (s : State) (f : RF) : Nat := fieldOf (s.rd f.addr) f.lo f.w

/-- A register field takes a value, modulo its width. -/
def State.p (s : State) (f : RF) (x : Nat) : State := s.wr f.addr (setField (s.rd f.addr) f.lo f.w x)

/-- A one-bit field becomes 1. -/
def State.on (s : State) (f : RF) : State := s.p f 1

/-- A field becomes 0. -/
def State.off (s : State) (f : RF) : State := s.p f 0

/-- A field is not zero. -/
def State.is (s : State) (f : RF) : Bool := decide (s.g f ≠ 0)

/-- A counter that wraps. -/
def State.inc (s : State) (f : RF) : State := s.p f (s.g f + 1)

/-- A counter that saturates at its width. -/
def State.sat (s : State) (f : RF) (n : Nat) : State := s.p f (min (2 ^ f.w - 1) (s.g f + n))

/-- Bit `i` of a wide field is set. -/
def State.onBit (s : State) (f : RF) (i : Nat) : State := s.p f (setBit (s.g f) i)

/-- Bit `i` of a wide field is cleared. -/
def State.offBit (s : State) (f : RF) (i : Nat) : State := s.p f (clrBit (s.g f) i)

/-- Bit `i` of a wide field. -/
def State.bit (s : State) (f : RF) (i : Nat) : Bool := decide (bitOf (s.g f) i = 1)

/-- A step over a list of instances, first to last. -/
def State.each {α : Type} (l : List α) (f : α → State → State) (s : State) : State := l.foldl (fun t x => f x t) s

/-- `f` where the condition holds. -/
def State.when (s : State) (b : Bool) (f : State → State) : State := if b then f s else s

/-- A 64-bit value held in a LO and HI register pair. -/
def State.pair (s : State) (lo hi : Nat) : Nat := (s.rd lo).toNat + 2 ^ 32 * (s.rd hi).toNat

/-- A LO and HI register pair takes a 64-bit value. -/
def State.setPair (s : State) (lo hi n : Nat) : State :=
  (s.wr lo (BitVec.ofNat 32 n)).wr hi (BitVec.ofNat 32 (n / 2 ^ 32))

/-- A free value, and the state with the next one due. -/
def State.free (s : State) : Nat × State := (Config.freeVal s.freeCtr, { s with freeCtr := s.freeCtr + 1 })

/-- A quotient: exact where it is whole, a free rounding where it is not. -/
def quot (n d : Int) : Int := if n % d = 0 then n / d else Config.roundQuot n d

/-! Frames on the link. -/

def State.port (s : State) (p : Nat) : PortState := s.lk.ports.getD p {}
def State.portUp (s : State) (p : Nat) (f : PortState → PortState) : State :=
  { s with lk := { s.lk with ports := s.lk.ports.putD p {} (f (s.port p)) } }

/-- PSTATE values of R399. -/
def psDown : Nat := 0
def psTap : Nat := 1
def psTraining : Nat := 2
def psUp : Nat := 3
def psBypassed : Nat := 4

/-- The hop of a port speaks version 1.x (R368). -/
def State.hopV1 (s : State) (p : Nat) : Bool := s.is (LK_PORT_STAT_VER p) && decide (s.g (LK_PORT_STAT_VER p) < 0x20)

/-- STATE encoding of R52. -/
def stOff : Nat := 0
def stStarting : Nat := 1
def stOn : Nat := 2
def stStopping : Nat := 3

/-- What a port needs to know to send. -/
def State.hop (s : State) (p : Nat) : Hop :=
  { v1 := s.hopV1 p, ver := s.g (LK_PORT_STAT_VER p), own := s.g LK_ID_ID, rate := s.g (LK_PORT_STAT_RATE p),
    mask := s.g (LK_PORT_STAT_LANEMASK p), stop := s.g LK_CTL_STATE = stStopping }

def State.portPump (s : State) (p : Nat) : State :=
  if s.g (LK_PORT_STAT_PSTATE p) = psUp then s.portUp p (fun x => x.flow (s.hop p)) else s

/-- A frame is placed for a port. -/
def State.sendOn (s : State) (p : Nat) (f : OutFrame) : State :=
  (s.portUp p (fun x => { x with out := x.out ++ [f] })).portPump p

/-- The port toward the adapter end of LK_CFG.HOME, or toward the other end while the loop is wrapped (R383, R394). -/
def State.homePort (s : State) : Nat :=
  let h := s.g LK_CFG_HOME
  if s.is LK_STAT_WRAPPED && (s.port h).down then 1 - h else h

/-- The address of the adapter end that a port leads to (R378, R379). -/
def State.endAddr (s : State) (p : Nat) : Nat := 2048 + 64 * (s.g LK_ID_ID / 64) + p

/-- The port toward a destination (R378, R379). -/
def State.portFor (s : State) (dst : Nat) : Nat :=
  if dst ≥ 2048 then dst % 2 else if dst % 64 < s.g LK_ID_ID % 64 then 0 else 1

/-- A frame of the ZH8's own goes out toward the adapter end in use. -/
def State.send (s : State) (f0 : OutFrame) : State :=
  let p := s.homePort
  let f := { f0 with dst := s.endAddr p }
  ({ s with sent := f :: s.sent }).sendOn p f

/-- A response goes back to the source of its request. -/
def State.respond (s : State) (f : OutFrame) : State := ({ s with sent := f :: s.sent }).sendOn (s.portFor f.dst) f

def State.ch (s : State) (c : Nat) : ChState := s.chT.getD c {}
def State.chUp (s : State) (c : Nat) (f : ChState → ChState) : State := { s with chT := s.chT.putD c {} (f (s.ch c)) }
def State.pa (s : State) (a : Nat) : PaState := s.paT.getD a {}
def State.paUp (s : State) (a : Nat) (f : PaState → PaState) : State := { s with paT := s.paT.putD a {} (f (s.pa a)) }
def State.ld (s : State) (a : Nat) : LdState := s.ldT.getD a {}
def State.ldUp (s : State) (a : Nat) (f : LdState → LdState) : State := { s with ldT := s.ldT.putD a {} (f (s.ld a)) }
def State.act (s : State) (a : Nat) : ActState := s.actT.getD a {}
def State.actUp (s : State) (a : Nat) (f : ActState → ActState) : State := { s with actT := s.actT.putD a {} (f (s.act a)) }
def State.sp (s : State) (i : Nat) : SpState := s.spT.getD i {}
def State.spUp (s : State) (i : Nat) (f : SpState → SpState) : State := { s with spT := s.spT.putD i {} (f (s.sp i)) }
def State.unit (s : State) (u : Nat) : UnitState := s.unitT.getD u {}
def State.unitUp (s : State) (u : Nat) (f : UnitState → UnitState) : State :=
  { s with unitT := s.unitT.putD u {} (f (s.unit u)) }

/-! One chapter's state changes. -/

def State.hcU (s : State) (f : HcState → HcState) : State := { s with hc := f s.hc }
def State.cmU (s : State) (f : CmState → CmState) : State := { s with cm := f s.cm }
def State.qmU (s : State) (f : QmState → QmState) : State := { s with qm := f s.qm }
def State.dmU (s : State) (f : DmState → DmState) : State := { s with dm := f s.dm }
def State.bmU (s : State) (f : BmState → BmState) : State := { s with bm := f s.bm }
def State.jnU (s : State) (f : JnState → JnState) : State := { s with jn := f s.jn }
def State.rbU (s : State) (f : RbState → RbState) : State := { s with rb := f s.rb }
def State.arU (s : State) (f : ArState → ArState) : State := { s with ar := f s.ar }
def State.lkU (s : State) (f : LkState → LkState) : State := { s with lk := f s.lk }
def State.mcU (s : State) (f : McState → McState) : State := { s with mc := f s.mc }
def State.pwU (s : State) (f : PwState → PwState) : State := { s with pw := f s.pw }
def State.sfU (s : State) (f : SfState → SfState) : State := { s with sf := f s.sf }
def State.mdU (s : State) (f : MdState → MdState) : State := { s with md := f s.md }
def State.ftU (s : State) (f : FtState → FtState) : State := { s with ft := f s.ft }
def State.evU (s : State) (f : EvState → EvState) : State := { s with ev := f s.ev }
def State.btU (s : State) (f : BtState → BtState) : State := { s with bt := f s.bt }

/-- Modes of R630. -/
def mOff : Nat := 0
def mBoot : Nat := 1
def mService : Nat := 2
def mRest : Nat := 3
def mSafe : Nat := 4
def mMaint : Nat := 5

/-- MD_MODE.MODE. -/
def State.mode (s : State) : Nat := s.g MD_MODE_MODE

/-- The mode changes; PREV keeps the one before (R631). -/
def State.goMode (s : State) (m : Nat) : State := (s.p MD_MODE_PREV s.mode).p MD_MODE_MODE m

/-- SERVICE or MAINT. -/
def State.serving (s : State) : Bool := decide (s.mode = mService) || decide (s.mode = mMaint)

/-- The register with a function's EN, ENABLE_PENDING and STATE (R52): bit 0, bit 1, bits 3:2 in every block. -/
def Func.ctl : Func → Nat
  | .lk => LK_CTL
  | .qm => QM_CTL
  | .cm => CM_CTL
  | .hc => HC_CTL
  | .dm => DM_CTL
  | .bm => BM_CTL
  | .jn => JN_CTL
  | .ar => AR_CTL
  | .rb => RB_CTL
  | .mc => MC_CTL
  | .vol v => AR_VOL_CTL v.val
  | .ch c => CH_CTL c.val
  | .ld c => LD_CTL c.val
  | .sv a => SV_CTL a.val
  | .sp i => SP_CTL i.val
  | .dmch n => DM_CH_CTL n.val

def Func.en (f : Func) : RF := ⟨Func.ctl f, 0, 1⟩
def Func.pend (f : Func) : RF := ⟨Func.ctl f, 1, 1⟩
def Func.st (f : Func) : RF := ⟨Func.ctl f, 2, 2⟩

/-- The switch to the crystal-locked source has completed (R33). -/
def State.switched (s : State) : Bool := decide (s.g MD_TB_SRC = 1)

/-- Timers of the timebase island are held: during a switch-over gap (R612), and in REST from step 4 of R651 to step 3
of R655 (R673). -/
def State.timersHeld (s : State) : Bool :=
  s.is PW_CHAIN_GAP || (match s.md.rest with | .saved | .asleep | .waking _ => true | _ => false)

end Sys2Proof.Machine
end

