-- ==== Sys2Proof/Machine/Events.lean ====
section
/-! DEFINITION. Machine/Events.lean: the event recorder (R678–R688): raising, rate limits, the queue of accepted
records, storing in the two areas, and the EVENT frames. -/

namespace Sys2Proof.Machine

open Reg

/-- Codes that are never limited (R684). -/
def evExempt (code : Nat) : Bool := code == 0x0101 || code == 0x0102 || code == 0x0104 || code == 0x0114

/-- Codes whose frame is always sent (R686: the frames of R394 and R520). -/
def evAlways (code : Nat) : Bool := code == 0x0902 || code == 0x0C13

/-- The first enabled EV_OVRn slot that names the code (R684). -/
def State.evSlot (s : State) (code : Nat) : Option Nat :=
  (upTo 8).find? (fun n => s.is (EV_OVR_EN n) && s.g (EV_OVR_CODE n) == code)

/-- The burst limit in force for a code; none where no limit holds (R684). -/
def State.evBurst (s : State) (code : Nat) : Option Nat :=
  if evExempt code then none
  else match s.evSlot code with
    | some n => if s.g (EV_OVR_PERIOD n) = 0 then none else some (atLeast1 (s.g (EV_OVR_BURST n)))
    | none => some (atLeast1 (s.g EV_CFG_BURST))

/-- The record a raising makes (R678), its SEQ still open. -/
def State.mkRec (s : State) (code unit arg : Nat) (fault : Bool) : EvRec :=
  let n := s.ev.supp.getD code 0
  { code := code, fault := fault || code == 0x0105 || code == 0x0121, rate := decide (n ≠ 0), boot := !s.switched,
    dropped := false, level := if unit < 60 then s.g (FT_U_STAT_LEVEL unit) else 0, seq := 0, time := s.now,
    hours := s.g EV_HOURS_HOURS, pcyc := min 65535 (s.g EV_PCYC_COUNT), unit := unit, supp := n, arg := arg % 2 ^ 64 }

/-- The record as 32 bytes, little-endian (R678). -/
def EvRec.bits (r : EvRec) : Nat :=
  pk [(r.code, 16), (1, 8), (b2n r.fault, 1), (b2n r.rate, 1), (b2n r.boot, 1), (b2n r.dropped, 1), (r.level, 4),
    (r.seq, 32), (r.time, 64), (r.hours, 32), (r.pcyc, 16), (r.unit, 8), (r.supp, 8), (r.arg, 64)]

/-- The EVENT frame of a record, toward LK_CFG.HOME (R686, R377): its TAG is the next count, kept in MRAM (R391). No
frame leaves while LK is not ON (R740). -/
def State.sendEvent (s : State) (r : EvRec) : State :=
  if s.g LK_CTL_STATE = stOn then
    let tag := (s.lk.evTag + 1) % 65536
    ({ s with lk := { s.lk with evTag := tag } }).send
      { kind := 5, dst := 0, tag := tag, addr := 0, len := 32, data := r.bits, code := 0, vc := 3 }
  else s

/-- The SEQ after one: it wraps past 0 to 1 (R678). -/
def nextSeq (n : Nat) : Nat := if n + 1 ≥ 2 ^ 32 then 1 else n + 1

/-- An event is raised (R680, R684, R685): suppressed without a token, dropped on a full queue, else accepted with the
next SEQ. The number is the record's SEQ, 0 where it is not stored. -/
def State.raiseSeq (s : State) (code unit arg : Nat) (fault : Bool) : Nat × State :=
  let r := s.mkRec code unit arg fault
  let limited := match s.evBurst code with
    | some b => decide (b ≤ s.ev.used.getD code 0)
    | none => false
  if limited then
    let t := { s with ev := { s.ev with supp := s.ev.supp.putD code 0 (min 255 (s.ev.supp.getD code 0 + 1)) } }
    let t := t.sat EV_SUPP_CNT_COUNT 1
    (0, if evAlways code then t.sendEvent r else t)
  else if s.ev.queue.length ≥ 16 then
    let t := ({ s with ev := { s.ev with drops := s.ev.drops + 1 } }).sat EV_DROP_CNT_COUNT 1
    (0, if evAlways code then t.sendEvent r else t)
  else
    let n := nextSeq s.ev.seqAcc
    (n, { s with ev := { s.ev with
      queue := s.ev.queue ++ [{ r with seq := n }], seqAcc := n,
      used := if (s.evBurst code).isSome then s.ev.used.putD code 0 (s.ev.used.getD code 0 + 1) else s.ev.used,
      supp := s.ev.supp.putD code 0 0 } })

/-- An event that no class bit raises. -/
def State.raise (s : State) (code unit arg : Nat) : State := (s.raiseSeq code unit arg false).2

/-- A status bit that is no fault sets, with its event (R680). -/
def State.note (s : State) (f : RF) (code unit arg : Nat) : State := (s.on f).raise code unit arg

/-- A record is stored (R682, R683): in the last area, in the first area while that has room, and sent as SEND directs. -/
def State.storeRec (s : State) (r0 : EvRec) : State :=
  let r := { r0 with dropped := r0.dropped || s.ev.dropMark }
  let h := s.g EV_POS_LAST_HEAD
  let s := { s with ev := { s.ev with last := s.ev.last.ins h r, dropMark := false } }
  let s := (s.p EV_POS_LAST_HEAD (h + 1)).when (decide (h = 4095)) (fun t => t.on EV_POS_LAST_WRAP)
  let n := s.g EV_POS_FIRST_CNT
  let s := s.when (decide (n < 1024)) (fun t =>
    ({ t with ev := { t.ev with first := t.ev.first.ins n r } }).p EV_POS_FIRST_CNT (n + 1))
  let s := s.p EV_SEQ_SEQ r.seq
  let send := s.g EV_CFG_SEND
  let s := s.when (decide (send ≥ 2) || (decide (send = 1) && r.fault) || evAlways r.code) (fun t => t.sendEvent r)
  s.when (decide (n = 1023)) (fun t => t.note EV_STAT_FIRST_FULL 0x0113 0x40 0)

/-- Every record of the queue is stored, in SEQ order (R677, R688). -/
def State.flushEvents (s : State) : State :=
  let q := s.ev.queue
  State.each q (fun r t => t.storeRec r) { s with ev := { s.ev with queue := [] } }

/-- Records dropped are reported once the queue has room (R685). -/
def State.reportDrops (s : State) : State :=
  if s.ev.drops = 0 then s
  else
    let n := s.ev.drops
    let s := { s with ev := { s.ev with drops := 0, dropMark := true } }
    s.note EV_STAT_DROPPED 0x0111 0x40 (pk [(n, 32)])

/-- The tokens of every code return at a power-on or device reset: the counts start at the burst limit (R684). -/
def EvState.kept (e : EvState) : EvState := { seqAcc := e.seqAcc, first := e.first, last := e.last }

end Sys2Proof.Machine
end

