-- ==== Sys2Proof/Machine/Geo.lean ====
section
/-! DEFINITION. Machine/Geo.lean: members and volumes: the mapping of R241, the classes of R244, spares (R246–R248), the
code over GF(2^8) of R249 and R250, and the geometry check of R324. -/

namespace Sys2Proof.Machine

open Reg

/-! Members (R255). -/

def memAbsent : Nat := 0
def memAvailable : Nat := 1
def memUnavailable : Nat := 2
def memCatchup : Nat := 3
def memFailed : Nat := 4

/-- The state field of a member in AR_MEMSTATEn (R255). -/
def memField (m : Nat) : RF := ⟨AR_MEMSTATE (m / 8), 4 * (m % 8), 4⟩

def State.mem (s : State) (m : Nat) : Nat := s.g (memField m)
def State.setMem (s : State) (m v : Nat) : State := s.p (memField m) v

/-- The members of an actuator (R4, R6). -/
def membersOf (a : Nat) : List Nat := (upTo 12).map (fun i => 12 * a + i)

def actuatorOf (m : Nat) : Nat := m / 12
def spindleOf (m : Nat) : Nat := m / 24

/-! Volumes. -/

/-- The geometry of a volume as its registers give it (R237). -/
structure Geo where
  k : Nat
  p : Nat
  sz : Nat
  cls : Nat
  set : List Nat
  base : Nat
  rows : Nat
  patBase : Nat
  patCnt : Nat
  deriving DecidableEq, Repr

def Geo.w (g : Geo) : Nat := g.k + g.p
def Geo.m (g : Geo) : Nat := g.set.length
/-- Stripes per row. -/
def Geo.q (g : Geo) : Nat := g.m / atLeast1 g.w

def State.geo (s : State) (v : Nat) : Geo :=
  { k := s.g (AR_VOL_GEOM_K v), p := s.g (AR_VOL_GEOM_P v), sz := 2 ^ s.g (AR_VOL_GEOM_SLOG2 v), cls := s.g (AR_VOL_GEOM_CLASS v),
    set := (upTo 96).filter (fun m => s.bit (AR_VOL_SET_MEMBERS v (m / 32)) (m % 32)),
    base := s.g (AR_VOL_MBA_LO_MBA v) + 2 ^ 32 * s.g (AR_VOL_MBA_HI_MBA v), rows := s.g (AR_VOL_ROWS_ROWS v),
    patBase := s.g (AR_VOL_PAT_BASE v), patCnt := s.g (AR_VOL_PAT_CNT v) }

/-- Capacity (R242). -/
def Geo.cap (g : Geo) : Nat := g.rows * g.q * g.k * g.sz

/-- The member at a position of a pattern (R240). -/
def State.patAt (s : State) (pat pos : Nat) : Nat := s.ar.pat.getD (96 * pat + pos) 0xFF

/-- The member that the pattern of a row gives to a position of stripe i (R241). -/
def State.member (s : State) (g : Geo) (row pos : Nat) : Nat := s.patAt (g.patBase + row % atLeast1 g.patCnt) pos

/-- Where a block lies (R241). -/
structure Loc where
  stripe : Nat
  row : Nat
  i : Nat
  j : Nat
  u : Nat
  member : Nat
  mba : Nat
  deriving DecidableEq, Repr

def State.locate (s : State) (g : Geo) (b : Nat) : Loc :=
  let stripe := b / atLeast1 (g.k * g.sz)
  let row := stripe / atLeast1 g.q
  let i := stripe % atLeast1 g.q
  let j := (b % atLeast1 (g.k * g.sz)) / atLeast1 g.sz
  let u := b % atLeast1 g.sz
  { stripe := stripe, row := row, i := i, j := j, u := u, member := s.member g row (i * g.w + j),
    mba := g.base + row * g.sz + u }

/-- The volume block at position j and offset u of a stripe. -/
def Geo.blockAt (g : Geo) (stripe j u : Nat) : Nat := stripe * (g.k * g.sz) + j * g.sz + u

/-- The members of the positions of a stripe, in order. -/
def State.stripeMembers (s : State) (g : Geo) (stripe : Nat) : List Nat :=
  (upTo g.w).map (fun j => s.member g (stripe / atLeast1 g.q) ((stripe % atLeast1 g.q) * g.w + j))

/-- A stripe's members meet a class (R244). -/
def classOk (cls p : Nat) (ms : List Nat) : Bool :=
  if cls = 0 then decide ms.Nodup
  else if cls = 1 then ms.all (fun m => decide ((ms.filter (fun x => actuatorOf x = actuatorOf m)).length ≤ p))
  else if cls = 2 then ms.all (fun m => decide ((ms.filter (fun x => spindleOf x = spindleOf m)).length ≤ p))
  else false

/-- The failure list of a volume, in order (R246). -/
def State.failList (s : State) (v : Nat) : List Nat :=
  (upTo 4).filterMap (fun i => let m := s.g ⟨AR_VOL_FAIL v, 8 * i, 7⟩; if m = 0x7F then none else some m)

/-- The failure list that gives a volume's spares: its own, or once it is OFF the one kept for its stripe writes (R746). -/
def State.failsOf (s : State) (v : Nat) : List Nat := (s.ar.failKept.find v).getD (s.failList v)

/-- The members of a stripe with the spares given so far in place. -/
def substitute (ms : List Nat) (given : List (Nat × Nat)) : List Nat :=
  ms.map (fun m => match given.find? (fun x => x.1 == m) with
    | some x => x.2
    | none => m)

/-- The spare strips of a row: failed member, spare member, and whether the class had to be given up (R247, R248). -/
def State.spares (s : State) (v : Nat) (g : Geo) (row : Nat) : List (Nat × Nat × Bool) :=
  let n := g.q * g.w
  let pool := (upTo (g.m - n)).map (fun d => s.member g row (n + d))
  (s.failsOf v).foldl (fun acc f =>
    match (upTo n).find? (fun pos => s.member g row pos == f) with
    | none => acc
    | some pos =>
      let stripe := row * g.q + pos / atLeast1 g.w
      let given := acc.map (fun x => (x.1, x.2.1))
      let now := substitute (s.stripeMembers g stripe) given
      let free := pool.filter (fun m => s.mem m = memAvailable && !given.any (fun x => x.2 == m) && !now.contains m)
      match free.find? (fun m => classOk g.cls g.p (now.map (fun x => if x = f then m else x))) with
      | some m => acc ++ [(f, m, false)]
      | none => match free with
        | m :: _ => acc ++ [(f, m, true)]
        | [] => acc) []

/-- The spare given to a failed member in a row. -/
def State.spareOf (s : State) (v : Nat) (g : Geo) (row f : Nat) : Option Nat :=
  ((s.spares v g row).find? (fun x => x.1 == f)).map (fun x => x.2.1)

/-- The member a read of a position goes to directly: its own while AVAILABLE, or a spare below the cursor (R255, R332). -/
def State.direct (s : State) (v : Nat) (g : Geo) (row m : Nat) : Option Nat :=
  if s.mem m = memAvailable then some m
  else if s.mem m = memFailed && row < s.g (RB_CURSOR_ROW v) then
    match s.spareOf v g row m with
    | some x => if s.mem x = memAvailable then some x else none
    | none => none
  else none

/-- The most members not AVAILABLE in any stripe of the volume's patterns, as AR_VOL_STAT.WORST counts (R273, R336). -/
def State.worst (s : State) (v : Nat) : Nat :=
  let g := s.geo v
  let whole (m : Nat) : Bool := s.g (RB_CURSOR_ROW v) == g.rows && decide (g.rows > 0) &&
    (upTo (min g.patCnt g.rows)).all (fun r => !((upTo (g.q * g.w)).any (fun pos => s.member g r pos == m)) ||
      (s.spareOf v g r m).isSome)
  let counts := (upTo g.patCnt).flatMap (fun r => (upTo g.q).map (fun i =>
    ((upTo g.w).filter (fun j => let m := s.member g r (i * g.w + j);
      decide (s.mem m ≠ memAvailable) && !(s.mem m = memFailed && whole m))).length))
  counts.foldl max 0

/-- AR_VOL_STAT.COND for a WORST and a P (R273). -/
def condOf (worst p : Nat) : Nat := if worst = 0 then 0 else if worst > p then 3 else if worst = p then 2 else 1

/-! GF(2^8), modulo 0x11D (R249). -/

def gfMulN : Nat → Nat → Nat → Nat
  | 0, _, _ => 0
  | n + 1, a, b =>
    (if b % 2 = 1 then a else 0) ^^^ gfMulN n (if a ≥ 128 then ((a * 2) % 256) ^^^ 0x1D else a * 2) (b / 2)

def gfMul (a b : Nat) : Nat := gfMulN 8 a b

/-- a^254, the inverse of a. -/
def gfInv (a : Nat) : Nat := (upTo 253).foldl (fun r _ => gfMul r a) a

/-- The coefficient a(i, j) (R249). -/
def coef (i j : Nat) : Nat := if i = 0 then 1 else gfMul (128 ^^^ j) (gfInv (128 ^^^ i ^^^ j))

/-- A strip of bytes times a constant, all bytes at once: `n` bytes. -/
def mulStripN (lo hi : Nat) : Nat → Nat → Nat → Nat
  | 0, _, _ => 0
  | m + 1, c, x =>
    (if c % 2 = 1 then x else 0) ^^^ mulStripN lo hi m (c / 2) (((x &&& lo) * 2) ^^^ (((x &&& hi) / 128) * 0x1D))

/-- The byte 0x7F, and the byte 0x80, in every one of 4,096 bytes. -/
def lowMask : Nat := (2 ^ 32768 - 1) / 255 * 0x7F
def highMask : Nat := (2 ^ 32768 - 1) / 255 * 0x80

/-- A block times a constant of GF(2^8). -/
def mulBlock (c x : Nat) : Nat := mulStripN lowMask highMask 8 c x

/-- Parity block i over data blocks D0 to D(k−1) (R249). -/
def parityBlock (i : Nat) (d : List Nat) : Nat :=
  ((d.zipIdx).map (fun x => mulBlock (coef i x.2) x.1)).foldl (· ^^^ ·) 0

/-- The generator row of a position: its byte as a combination of the data strips. -/
def genRow (k pos : Nat) : List Nat :=
  (upTo k).map (fun j => if pos < k then (if j = pos then 1 else 0) else coef (pos - k) j)

/-- Row `r` cleared of column `c` by a pivot row that has 1 there. -/
def gfElim (pivot r : List Nat) (c : Nat) : List Nat :=
  let f := r.getD c 0
  List.zipWith (fun a b => a ^^^ gfMul f b) r pivot

/-- Gauss–Jordan elimination, column by column: the rows in pivot order, then the rest. -/
def gfSolve : Nat → Nat → List (List Nat) → List (List Nat) → List (List Nat)
  | 0, _, done, _ => done
  | n + 1, c, done, rest =>
    match rest.find? (fun r => r.getD c 0 ≠ 0) with
    | none => gfSolve n (c + 1) (done ++ [[]]) rest
    | some r =>
      let inv := gfInv (r.getD c 0)
      let pv := r.map (gfMul inv)
      let others := (rest.erase r).map (fun x => gfElim pv x c)
      gfSolve n (c + 1) (done.map (fun x => gfElim pv x c) ++ [pv]) others

/-- The combination of k known positions that gives a position: a coefficient for each. -/
def gfCombine (k : Nat) (known : List Nat) (target : Nat) : List Nat :=
  let g := genRow k target
  let rows := (upTo k).map (fun j => known.map (fun p => (genRow k p).getD j 0) ++ [g.getD j 0])
  (gfSolve k 0 [] rows).map (fun r => r.getLastD 0)

/-- The block at a position from k known blocks, position and block (R261, R269). -/
def rebuildBlock (k : Nat) (known : List (Nat × Nat)) (target : Nat) : Nat :=
  let cs := gfCombine k (known.map (·.1)) target
  ((known.zip cs).map (fun x => mulBlock x.2 x.1.2)).foldl (· ^^^ ·) 0

/-! The geometry check (R324). -/

/-- A list of words as bytes, little-endian, with the pattern bytes after it. -/
def State.geomBytes (s : State) (v : Nat) : Nat × Nat :=
  let ws := [AR_VOL_GEOM v, AR_VOL_SET v 0, AR_VOL_SET v 1, AR_VOL_SET v 2, AR_VOL_MBA_LO v, AR_VOL_MBA_HI v,
    AR_VOL_ROWS v, AR_VOL_PAT v].map (fun a => ((s.rd a).toNat, 32))
  let base := s.g (AR_VOL_PAT_BASE v)
  let ps := (upTo (s.g (AR_VOL_PAT_CNT v))).flatMap (fun p => (upTo 96).map (fun k => (s.patAt (base + p) k, 8)))
  (32 * 8 + 768 * s.g (AR_VOL_PAT_CNT v), pk (ws ++ ps))

end Sys2Proof.Machine
end

