-- ==== Sys2Proof/Machine/Member.lean ====
section
/-! DEFINITION. Machine/Member.lean: what follows when a member enters or leaves AVAILABLE (R255–R258): the routing of a
block to a layout (R347), volume checkpoint records (R323), rebuild passes (R328), spill pairs (R298, R304), strips held
for a member, and reconstructions of the reads that wait for it (R264). -/

namespace Sys2Proof.Machine

open Reg

/-! Volumes and their rebuild state. -/

def State.volOn (s : State) (v : Nat) : Bool := decide (s.g (AR_VOL_CTL_STATE v) = stOn)
def State.rbOn (s : State) : Bool := decide (s.g RB_CTL_STATE = stOn)

/-- A bit of a LO and HI register pair that names volumes. -/
def volBit (lo hi : RF) (v : Nat) : RF × Nat := if v < 32 then (lo, v) else (hi, v - 32)

def State.rbActive (s : State) (v : Nat) : Bool :=
  let (f, i) := volBit RB_ACTIVE_LO_VOLS RB_ACTIVE_HI_VOLS v
  s.bit f i
def State.setActiveVol (s : State) (v : Nat) (b : Bool) : State :=
  let (f, i) := volBit RB_ACTIVE_LO_VOLS RB_ACTIVE_HI_VOLS v
  if b then s.onBit f i else s.offBit f i
def State.anyPass (s : State) : Bool := decide (s.g RB_ACTIVE_LO_VOLS ≠ 0) || decide (s.g RB_ACTIVE_HI_VOLS ≠ 0)

/-- RB_RS_STAT.STATE codes (R355). -/
def rsNone : Nat := 0
def rsRun : Nat := 1
def rsPaused : Nat := 2
def rsWait : Nat := 3

/-- The checkpointed marker (R347). -/
def State.mark (s : State) : Nat := s.g RB_RS_MARK_LO_MARK + 2 ^ 32 * s.g RB_RS_MARK_HI_MARK
def State.setMark (s : State) (m : Nat) : State := (s.p RB_RS_MARK_LO_MARK m).p RB_RS_MARK_HI_MARK (m / 2 ^ 32)

/-- The slot whose layout serves a block of a volume (R347). -/
def State.slotOf (s : State) (v block : Nat) : Nat :=
  let w := s.g RB_RS_STAT_SHADOW
  let g := s.geo w
  if s.g RB_RS_STAT_STATE ≠ rsNone && s.g RB_RS_STAT_VOL = v && block < s.mark * (g.k * g.sz) then w else v

/-- The volume a slot's layout belongs to: the one under reshape for its shadow slot. -/
def State.ownerOf (s : State) (slot : Nat) : Nat :=
  if s.g RB_RS_STAT_STATE ≠ rsNone && s.g RB_RS_STAT_SHADOW = slot then s.g RB_RS_STAT_VOL else slot

/-- A volume's current checkpoint record takes a new value: the copy with the smaller GEN is written (R323). -/
def State.ckPut (s : State) (v : Nat) (f : CkRec → CkRec) : State :=
  let c := s.rb.ck.getD v {}
  s.rbU (fun r => { r with ck := r.ck.ins v { f c with gen := c.gen + 1 } })

/-- A pass starts at row 0, or an active one restarts there (R328). -/
def State.passStart (s : State) (v : Nat) : State :=
  if s.rbOn && s.volOn v && s.g RB_RS_STAT_STATE = rsNone then
    let again := s.rbActive v
    let s := (s.off (RB_CURSOR_ROW v)).setActiveVol v true
    let s := s.rbU (fun r => { r with since := r.since.putD v 0 0 })
    let s := s.ckPut v (fun c => { c with pass := true, cursor := 0, fail := (s.rd (AR_VOL_FAIL v)).toNat })
    s.when again (fun t => t.note RB_STAT_REBUILD_RESTART 0x0804 12 0)
  else s

/-- The member stands at a spare position of some pattern of the volume. -/
def State.spareHolder (s : State) (v m : Nat) : Bool :=
  let g := s.geo v
  g.set.contains m && (upTo g.patCnt).any (fun r =>
    (upTo (g.m - g.q * g.w)).any (fun d => s.member g r (g.q * g.w + d) == m))

/-- The spares of some row of the volume give up its class (R248): recorded once for the volume. -/
def State.classNote (s : State) (v : Nat) : State :=
  let g := s.geo v
  let bad := (upTo (min g.patCnt g.rows)).any (fun r => (s.spares v g r).any (fun x => x.2.2))
  if bad && bitOf s.ar.classDone v = 0 then
    let s := s.arU (fun a => { a with classDone := setBit a.classDone v })
    (s.on (AR_VOL_STAT_CLASS_DEGRADED v)).note AR_STAT_CLASS_DEGRADED 0x0605 11 (pk [(v, 6)])
  else s

/-- A member entered or left AVAILABLE (R248, R328). -/
def State.passTouch (s : State) (m : Nat) : State :=
  State.each ((upTo 64).filter (fun v => s.volOn v && s.spareHolder v m)) (fun v t => (t.passStart v).classNote v) s

/-! The JD dies (R274, R295). -/

def State.die (s : State) (d : Nat) : Bool := s.is (if d = 0 then JN_MIRROR_D0_OK else JN_MIRROR_D1_OK)
def State.anyDie (s : State) : Bool := s.die 0 || s.die 1
def State.bothDies (s : State) : Bool := s.die 0 && s.die 1

/-- After mirror loss with SOLO set, writes fetched complete as force-to-medium (R295). -/
def State.soloFua (s : State) : Bool := s.is JN_CFG_SOLO && s.anyDie && !s.bothDies

/-! Spill pairs. -/

def State.extMember (s : State) (e : Nat) : Nat := s.g (JN_EXT_MEM_MEMBER e)
def State.extOn (s : State) (e : Nat) : Bool := s.is (JN_EXT_MEM_EN e)
def State.extMba (s : State) (e : Nat) : Nat := s.g (JN_EXT_MBA_LO_MBA e) + 2 ^ 32 * s.g (JN_EXT_MBA_HI_MBA e)
def State.extLen (s : State) (e : Nat) : Nat := s.g (JN_EXT_LEN_BLOCKS e)

/-- The block count of a member in the pack format record (R639). -/
def State.mblks (s : State) (m : Nat) : Nat := bitsOf s.md.pfr (8 * (0x80 + 8 * m)) 40

/-- The summed LEN of the enabled pairs exceeds 16,777,216 blocks (R298). -/
def State.spillOver (s : State) : Bool :=
  decide (((upTo 8).map (fun i => if s.extOn (2 * i) && s.extOn (2 * i + 1) then s.extLen (2 * i) else 0)).sum > 16777216)

/-- A pair is usable (R298). -/
def State.pairOk (s : State) (i : Nat) : Bool :=
  let a := 2 * i
  let b := 2 * i + 1
  let ext (e : Nat) : Bool :=
    let m := s.extMember e
    decide (m < 96) && s.mem m = memAvailable && decide (s.extMba e + s.extLen e ≤ s.mblks m) &&
      !(upTo 64).any (fun v =>
        let g := s.geo v
        s.volOn v && g.set.contains m && decide (s.extMba e < g.base + g.rows * g.sz) &&
          decide (g.base < s.extMba e + s.extLen e))
  s.extOn a && s.extOn b && s.extLen a = s.extLen b && ext a && ext b &&
    decide (spindleOf (s.extMember a) ≠ spindleOf (s.extMember b))

/-- JN_SPILL_STAT.USABLE after the checks of R298. -/
def State.spillCheck (s : State) : State :=
  if s.spillOver then
    (s.off JN_SPILL_STAT_USABLE).note JN_STAT_SPILL_CFG_BAD 0x070C 10 0
  else s.p JN_SPILL_STAT_USABLE ((upTo 8).foldl (fun n i => if s.pairOk i then n + 2 ^ i else n) 0)

/-- Spill copies of a pair are lost (R304): those that `a` and `b` name on its two extents. -/
def State.copiesBad (s : State) (i : Nat) (a b : SpillEnt → Bool) : State :=
  let hit := s.jn.idx.any (fun x => x.2.pair == i && ((a x.2 && !x.2.badA) || (b x.2 && !x.2.badB)))
  if hit then
    let s := s.jnU (fun j => { j with idx := j.idx.map (fun x => if x.2.pair = i then
      (x.1, { x.2 with badA := x.2.badA || a x.2, badB := x.2.badB || b x.2 }) else x) })
    (s.onBit JN_SPILL_STAT_COPYLOST i).note JN_STAT_SPILL_COPY_LOST 0x0708 10 (pk [(i, 3)])
  else s

/-- The spill copies on a member that leaves AVAILABLE are lost (R304). -/
def State.copiesLost (s : State) (m : Nat) : State :=
  State.each (upTo 8) (fun i t =>
    let on (e : Nat) : Bool := t.extOn e && t.extMember e == m
    let a := on (2 * i)
    let b := on (2 * i + 1)
    t.copiesBad i (fun _ => a) (fun _ => b)) s

/-- The spill copy that a sector holds part of is unreadable (R304). -/
def State.copyUnread (s : State) (m mba : Nat) : State :=
  State.each (upTo 8) (fun i t =>
    let at_ (e : Nat) (x : SpillEnt) : Bool :=
      t.extOn e && t.extMember e == m && decide (t.extMba e ≤ mba) && decide (mba < t.extMba e + t.extLen e) &&
        decide ((mba - t.extMba e + t.extLen e - x.ofs) % atLeast1 (t.extLen e) < x.blks)
    t.copiesBad i (at_ (2 * i)) (at_ (2 * i + 1))) s

/-! Reads that wait. -/

/-- A reconstruction of a block is started once (R261). -/
def State.reconStart (s : State) (slot stripe u pos : Nat) : State :=
  if s.cm.recons.any (fun r => r.vol == slot && r.stripe == stripe && r.u == u && r.pos == pos) then s
  else s.cmU (fun c => { c with recons := c.recons ++ [{ vol := slot, stripe := stripe, u := u, pos := pos }] })

/-- The reads that wait on a member are also issued as reconstructions (R264). -/
def State.reconAll (s : State) (m : Nat) : State :=
  let l := s.cm.waits.filter (fun w => w.member = m && !w.recon)
  let s := s.cmU (fun c => { c with waits := c.waits.map (fun (w : BlkWait) => if w.member = m then { w with recon := true } else w) })
  State.each l (fun w t =>
    let slot := t.slotOf w.vol w.block
    let g := t.geo slot
    let x := t.locate g w.block
    if g.p = 0 then t else t.reconStart slot x.stripe x.u x.j) s

/-! Availability. -/

/-- Strips of stripe writes for a member are held (R253), and its slow-member timers end (R317). -/
def State.stripsHeld (s : State) (m : Nat) : State :=
  let s := s.arU (fun a => { a with stripes := a.stripes.map (fun (w : StripeWrite) => { w with
    strips := w.strips.map (fun (x : Strip) => if x.member = m then { x with held := true } else x) }) })
  s.rbU (fun r => { r with slow := r.slow.filter (fun t => t.member ≠ m || t.granted) })

/-- A member leaves AVAILABLE. -/
def State.memberOut (s : State) (m : Nat) : State := ((((s.stripsHeld m).copiesLost m).spillCheck).passTouch m).reconAll m

/-- Some strip of a stripe write is held for a member. -/
def State.heldFor (s : State) (m : Nat) : Bool :=
  s.ar.stripes.any (fun w => w.strips.any (fun x => x.member == m))

/-- A member becomes AVAILABLE (R257): its timer is cancelled (R258). -/
def State.memberIn (s : State) (m : Nat) : State :=
  let s := (s.setMem m memAvailable).arU (fun a => { a with
    order := a.order.filter (· ≠ m), armed := a.armed.filter (· ≠ m),
    stripes := a.stripes.map (fun (w : StripeWrite) => { w with
      strips := w.strips.map (fun (x : Strip) => if x.member = m then { x with held := false } else x) }) })
  s.spillCheck.passTouch m

/-- A cause of R256 arises for a member: bit 0 unload, bit 1 head lost, bit 2 channels out of service. -/
def State.memberUnavail (s : State) (m bit : Nat) : State :=
  let s := s.arU (fun a => { a with causes := a.causes.putD m 0 (setBit (a.causes.getD m 0) bit) })
  let st := s.mem m
  if st = memAvailable || st = memCatchup then
    let s := (s.setMem m memUnavailable).arU (fun a => { a with
      order := a.order.filter (· ≠ m) ++ [m],
      armed := if st = memAvailable && !a.armed.contains m then a.armed ++ [m] else a.armed })
    let s := s.note AR_STAT_MEMBER_UNAVAIL 0x0601 11 (pk [(m, 7)])
    if st = memAvailable then s.memberOut m else (s.stripsHeld m).spillCheck
  else s

/-- A return that met a granted expiry is discarded (R259). -/
def State.memberLate (s : State) (m : Nat) : State :=
  if s.ar.granted.contains m then
    let s := s.arU (fun a => { a with granted := a.granted.filter (· ≠ m) })
    (s.sat AR_LATE_CNT_COUNT 1).note AR_STAT_LATE 0x0603 11 (pk [(m, 7)])
  else s

/-- A cause of R256 clears for a member (R198, R257). -/
def State.memberClear (s : State) (m bit : Nat) : State :=
  let was := s.ar.causes.getD m 0
  let s := s.arU (fun a => { a with causes := a.causes.putD m 0 (clrBit was bit) })
  if was = 0 || s.ar.causes.getD m 0 ≠ 0 then s
  else if s.mem m = memFailed then s.memberLate m
  else if s.mem m = memUnavailable then
    if s.heldFor m then (s.setMem m memCatchup).spillCheck else s.memberIn m
  else s

end Sys2Proof.Machine
end

