-- ==== Sys2Proof/Machine/Prim.lean ====
section
/-! DEFINITION. Machine/Prim.lean: the actions that more than one block takes: member availability, unloading an actuator,
stopping a spindle, taking a channel out of service, retraining a port, invalidating host-cache lines, starting a
command-side reset, and entering SAFE. Escalation (R670) and the families call them. -/

namespace Sys2Proof.Machine

open Reg

/-! Actuators. -/

/-- ASTATE values of SV_MODE (R202). -/
def aUnloaded : Nat := 0
def aLoading : Nat := 1
def aSeeking : Nat := 2
def aSettling : Nat := 3
def aFollowing : Nat := 4
def aPredicting : Nat := 5
def aUnloading : Nat := 6

def State.astate (s : State) (a : Nat) : Nat := s.g (SV_MODE_ASTATE a)

/-- The heads of an actuator are off the ramp. -/
def State.loaded (s : State) (a : Nat) : Bool := decide (s.astate a ≠ aUnloaded)

/-- UNLOAD_CAUSE codes (R202). -/
def ucCommand : Nat := 0
def ucIdle : Nat := 1
def ucOverruns : Nat := 2
def ucFeedback : Nat := 3
def ucDriver : Nat := 4
def ucSafe : Nat := 5
def ucEscalation : Nat := 6
def ucLoadFail : Nat := 7
def ucShutdown : Nat := 8
def ucSpindle : Nat := 9

/-- The order in which the shown cause is decided among the causes of one unload (R195). -/
def causeOrder : List Nat :=
  [ucDriver, ucFeedback, ucOverruns, ucLoadFail, ucEscalation, ucSpindle, ucShutdown, ucCommand, ucSafe, ucIdle]

/-- The cause shown for the causes raised (R195). -/
def shownCause (l : List Nat) : Nat := (causeOrder.find? (fun c => l.contains c)).getD 0

/-- Causes that clear LOAD_PENDING (R195). -/
def clearsPending (c : Nat) : Bool :=
  c == ucOverruns || c == ucFeedback || c == ucDriver || c == ucSafe || c == ucEscalation

/-- Causes that make the members UNAVAILABLE (R256). -/
def causeUnavail (c : Nat) : Bool := c != ucIdle && c != ucSafe

/-- Write permission is withdrawn on a slot: a write gate drops, and the sector being written is cut (R90). -/
def State.cutWrite (s : State) (a n : Nat) : State :=
  let c := 4 * a + n
  let s := s.offBit (SV_HEADS_WR_OK a) n
  if (s.ch c).wrGate then (s.on (CH_STAT_WG_DENIED c)).chUp c (fun x => { x with wrGate := false, cut := 1 }) else s

/-- Write and read permission is withdrawn on every head of the actuator. -/
def State.dropPerms (s : State) (a : Nat) : State := (State.each (upTo 4) (fun n t => t.cutWrite a n) s).off (SV_HEADS_RD_OK a)

/-- Head index in slot n; 0xF none. -/
def State.headAt (s : State) (a n : Nat) : Nat := s.g ⟨SV_HEADS a, 4 * n, 4⟩
def State.activeSlots (s : State) (a : Nat) : List Nat := (upTo 4).filter (fun n => s.headAt a n ≠ 0xF)
def State.slot (s : State) (a n : Nat) : SvSlot := (s.act a).slots.getD n {}

/-- The mean of the active slots' targets, rounded down (R156). -/
def State.refTrack (s : State) (a : Nat) (target : Nat → Nat) : Nat :=
  let l := s.activeSlots a
  (l.map target).sum / atLeast1 l.length

/-- The loops are closed: the voice coil carries the engine's output. -/
def State.closed (s : State) (a : Nat) : Bool := decide (aSeeking ≤ s.astate a) && decide (s.astate a ≤ aPredicting)

/-- An unload cause is raised (R192, R193, R195). -/
def State.unloadAct (s : State) (a cause : Nat) : State :=
  if s.astate a = aUnloaded then s
  else
    let running := s.astate a = aUnloading
    let causes := if running then (s.act a).causes ++ [cause] else [cause]
    let s := s.dropPerms a
    let s := s.when (clearsPending cause) (fun t => t.off (SV_MODE_LOAD_PENDING a))
    let s := s.p (SV_MODE_UNLOAD_CAUSE a) (shownCause causes)
    let s := s.actUp a (fun x =>
      { x with causes := causes, limited := x.limited || cause == ucDriver })
    let s := if running then s else
      ((s.p (SV_MODE_ASTATE a) aUnloading).off (SV_TSI_CTL_EN a)).actUp a (fun x =>
        { x with coil := if s.closed a then x.vcm else x.coil, slow := 0, pushing := false, parkLate := false, job := none, overdue := false, seekWait := none,
                 micro := [], samRun := 0, settling := 0, settleGranted := false })
    let s := s.off (SV_MODE_PRED_RUN a)
    s.when (causeUnavail (shownCause causes)) (State.each (membersOf a) (fun m t => t.memberUnavail m 0))

/-! Spindles. -/

/-- PHASE values (R213). -/
def phStopped : Nat := 0
def phWait : Nat := 1
def phStart : Nat := 2
def phAccel : Nat := 3
def phRun : Nat := 4
def phDecel : Nat := 5
def phCoast : Nat := 6
def phShort : Nat := 7
def phRectify : Nat := 8

def State.phase (s : State) (i : Nat) : Nat := s.g (SP_MODE_PHASE i)

/-- Any spindle has a chopper fault set (R225). -/
def State.anyChop (s : State) : Bool := (upTo 4).any (fun i => s.is (SP_STAT_CHOP_FAULT i))

/-- A phase other than RUN clears REG (R215). -/
def State.goPhase (s : State) (i ph : Nat) : State :=
  ((s.p (SP_MODE_PHASE i) ph).when (decide (ph ≠ phRun)) (fun t => t.off (SP_MODE_REG i))).spUp i
    (fun x => { x with revs := 0, dropped := false })

/-- SHORT to standstill (R214, R222). -/
def State.goShort (s : State) (i : Nat) : State :=
  (s.goPhase i phShort).spUp i (fun x =>
    { x with step := .none, spinup := .idle, acq := .idle, shortAfter := false, stopAfter := false, safeHold := false,
             toSpeed := false, bridgeOff := false, pwm := .idle, xings := [] })

/-- A stop: from WAIT to STOPPED, else DECEL to standstill, or SHORT while any chopper fault is set (R214, R225, R235). A spindle
in COAST stops once the rotor is found again, or is shorted where it is not (R229, R231). -/
def State.stopSpindle (s : State) (i : Nat) : State :=
  let s := s.spUp i (fun x => { x with stopAfter := false })
  let ph := s.phase i
  if ph = phWait then ({ s with spWait := s.spWait.filter (· ≠ i) }).goPhase i phStopped
  else if phStart ≤ ph && ph ≤ phCoast then
    if s.anyChop then s.goShort i
    else if ph = phCoast then s.spUp i (fun x => { x with stopAfter := true })
    else (s.goPhase i phDecel).spUp i (fun x => { x with toSpeed := false, spinup := .idle, step := .none })
  else s

def State.bothUnloaded (s : State) (i : Nat) : Bool := !s.loaded (2 * i) && !s.loaded (2 * i + 1)

/-- What waits for both actuators of a spindle to be UNLOADED now happens (R217, R227, R231, R235, R670). -/
def State.spindleFree (s : State) (i : Nat) : State :=
  if s.bothUnloaded i then
    if (s.sp i).shortAfter || (s.sp i).safeHold then s.goShort i
    else if (s.sp i).stopAfter then s.stopSpindle i
    else s
  else s

/-- Turning and not yet shorted. -/
def State.turning (s : State) (i : Nat) : Bool :=
  decide (phStart ≤ s.phase i) && decide (s.phase i ≤ phCoast)

/-! Channels. -/

/-- A head is lost (R176, R196), the one cause of R256 that is a head's own. -/
def State.lostHead (s : State) (m : Nat) : Bool := decide (bitOf (s.ar.causes.getD m 0) 1 = 1)

/-- The head a channel routes changes; SV_HEADS mirrors it (R155), and shows a lost head as lost (R176). The reference track
follows the active slots (R156), and the micro output of a head no slot selects is 0 (R158, R159). -/
def State.setActive (s : State) (c h : Nat) : State :=
  let a := c / 4
  let n := c % 4
  let was := s.headAt a n
  let s := s.p (CH_HEADSEL_ACTIVE c) h
  let s := s.p ⟨SV_HEADS a, 4 * n, 4⟩ h
  let s := ((s.p ⟨SV_HEADS a, 16 + n, 1⟩ 0).p ⟨SV_HEADS a, 24 + n, 1⟩ 0).p ⟨SV_HEADS a, 28 + n, 1⟩ 0
  let s := s.p ⟨SV_HEADS a, 20 + n, 1⟩ (b2n (decide (h ≠ 0xF) && s.lostHead (12 * a + h)))
  let s := s.actUp a (fun x => { x with
    slots := x.slots.putD n {} { target := (x.slots.getD n {}).target, hold := (x.slots.getD n {}).hold },
    micro := if (upTo 4).any (fun k => s.headAt a k == was) then x.micro else x.micro.drop was })
  s.when (!(s.activeSlots a).isEmpty) (fun t => t.p (SV_POS_TRACK a) (t.refTrack a (fun k => (t.slot a k).target)))

/-- Block-local recovery takes a channel out of service (R103); with all four out, the members of the actuator are
UNAVAILABLE (R256). -/
def State.outOfService (s : State) (c : Nat) : State :=
  let s := ((s.off (CH_CTL_EN c)).off (CH_CTL_STATE c)).off (CH_CTL_ENABLE_PENDING c)
  let s := s.on (CH_STAT_OOS c)
  let s := s.chUp c (fun x => { x with rdGate := false, wrGate := false, cut := if x.wrGate then 1 else x.cut, settling := none, oos := true })
  let s := s.setActive c 0xF
  let a := c / 4
  s.when ((upTo 4).all (fun n => (s.ch (4 * a + n)).oos))
    (State.each (membersOf a) (fun m t => t.memberUnavail m 2))

/-- Every channel begins T1 of R101; EN keeps its value (R641). -/
def State.chansDown (s : State) : State :=
  State.each (upTo 32) (fun c t => if t.g (CH_CTL_STATE c) = stOn then t.p (CH_CTL_STATE c) stStopping else t) s

/-! Link, host cache, command side. -/

/-- A port trains again (R367): its lanes leave UP, and step 1 waits for signal energy. A closed pass keeps it bypassed. -/
def State.retrain (s : State) (p : Nat) : State :=
  if s.is LK_CTL_PASS then s
  else
    let s := ((s.p (LK_PORT_STAT_PSTATE p) psTraining).off (LK_PORT_STAT_LANES p)).off (LK_PORT_STAT_LANEMASK p)
    s.portUp p (fun x => { x with trial := 0, locked := 0, failed := 0, lost := 0, noRate := false, resends := 0, naked := false })

/-- HC_OCC follows the lines, the merging buffer and the trackers (R501). -/
def State.hcOcc (s : State) : State :=
  let s := s.p HC_OCC_LINES ((s.hc.lines.filter (fun l => l.2.state == 2)).length)
  let s := s.p HC_OCC_WB s.hc.wb.length
  s.p HC_OCC_LOCKED ((upTo 16).foldl (fun n i => if (s.hc.trackers.getD i {}).locked.isSome then n + 2 ^ i else n) 0)

/-- Invalidation of the lines a predicate on the line address names (R494, R495): a FILLING line is tagged
invalidate-on-fill. -/
def State.hcInval (s : State) (hit : Nat → Bool) : State :=
  let lines := (s.hc.lines.filter (fun l => !(hit l.2.addr && l.2.state == 2))).map
    (fun l => if hit l.2.addr then (l.1, { l.2 with invOnFill := true }) else l)
  ({ s with hc := { s.hc with lines := lines } }).hcOcc

/-- Steps 1 and 2 of a command-side reset (R476). -/
def State.cmResetStart (s : State) : State :=
  if s.cm.resetting.isSome then s
  else
    let s := { s with cm := { s.cm with resetting := some (s.is QM_HALT_HALTED) } }
    (s.on CM_CMD_BUSY).raise 0x0B04 6 0

/-- LK's start-up has reached the tap (R373, R398). -/
def State.lkTap (s : State) : State := (s.p (LK_PORT_STAT_PSTATE 0) psTap).p (LK_PORT_STAT_PSTATE 1) psTap

/-- The switch to the crystal-locked source (R31, R638): a start of LK that waited for it goes on. -/
def State.tbSwitch (s : State) : State :=
  let s := ((s.p MD_TB_SRC 1).off MD_TB_REFUSED).note MD_STAT_TB_SWITCH 0x0F06 0 0
  if s.g LK_CTL_STATE = stStarting then s.lkTap else s

/-- MD_TB.SWITCH is written 1 (R32, R638). -/
def State.tbAsk (s : State) : State :=
  if s.switched then s else if s.is MD_TB_LOCK then s.tbSwitch else s.on MD_TB_REFUSED

/-- The ROM starts LK itself (R700): once the switch it asked for is made. -/
def State.romLink (s : State) : State :=
  let s := s.tbAsk
  if s.switched then
    if s.g LK_CTL_STATE = stOff then (((s.on LK_CTL_EN).p LK_CTL_STATE stStarting).lkTap).btU (fun b => { b with wantSwitch := false }) else s
  else s.btU (fun b => { b with wantSwitch := true })

/-- Every ACTIVE, unfinished command that needs the medium completes VOLUME_NOT_READY (R635). -/
def State.cmSafe (s : State) : State :=
  { s with cm := { s.cm with
    table := s.cm.table.map (fun e => if e.2.medium && e.2.status.isNone then
      (e.1, { e.2 with status := some 0x0004 }) else e),
    waits := s.cm.waits.filter (fun w => match w.cmd with
      | some id => !(s.cm.table.getD id { id := id }).medium
      | none => true) } }

/-- The state field of a chain, 0 A and 1 B. -/
def chainState (c : Nat) : RF := if c = 0 then PW_CHAIN_A_STATE else PW_CHAIN_B_STATE

/-- The standby chain (R609). -/
def State.standby (s : State) : Nat := 1 - s.g PW_CHAIN_ACTIVE

/-- Step 1 of R617: the standby starts into its isolated outputs. -/
def State.testStart (s : State) : State :=
  let c := s.standby
  (((s.pwU (fun p => { p with job := .testStart, jobChain := c })).p (chainState c) 2).on PW_CMD_BUSY).p PW_TEST_CHAIN c

/-- The load is transferred to the standby chain, as steps 1 to 5 of R617 do (R620). -/
def State.chainTransfer (s : State) : State :=
  if s.g (chainState s.standby) = 0 && s.pw.job = .none then s.testStart else s

/-! SAFE (R634–R637). -/

/-- The device enters SAFE from a mode in which commands run. -/
def State.safeNow (s : State) (src : Nat) : State :=
  let s := ((s.goMode mSafe).p MD_MODE_SAFE_SRC src).note MD_STAT_SAFE 0x0F02 0 0
  let spin := (upTo 4).foldl (fun m i => if s.turning i || s.phase i = phWait then setBit m i else m) s.md.restSpin
  let s := s.mdU (fun m => { m with rest := .awake, exiting := false, gotoRest := false, restSpin := spin })
  let s := ((s.off MD_IDLE_STAT_STEPPING).off MD_IDLE_STAT_EXIT_PEND).off MD_IDLE_STAT_LEVEL
  let s := State.each (upTo 8) (fun a t => t.unloadAct a ucSafe) s
  let s := State.each (upTo 4) (fun i t => if t.phase i = phWait then
      ({ t with spWait := t.spWait.filter (· ≠ i) }).goPhase i phStopped
    else if t.turning i then (t.spUp i (fun x => { x with safeHold := true })).spindleFree i else t) s
  s.cmSafe

/-- A SAFE request (R634, R636, R657): latched in BOOT, without effect in SAFE and OFF, a wake in REST. -/
def State.enterSafe (s : State) (src : Nat) : State :=
  let m := s.mode
  if m = mBoot then
    ({ s with md := { s.md with safeReq := if s.md.safeReq = 0 then src else s.md.safeReq } }).on MD_STAT_SAFE
  else if m = mSafe || m = mOff then s
  else match s.md.rest with
    | .asleep => { s with md := { s.md with rest := .waking true, safeReq := src } }
    | .waking _ => { s with md := { s.md with rest := .waking true, safeReq := src } }
    | .saved => (s.safeNow src).mdU (fun x => { x with rest := .waking true })
    | _ => s.safeNow src

end Sys2Proof.Machine
end

