-- ==== Sys2Proof/Machine/Faults.lean ====
section
/-! DEFINITION. Machine/Faults.lean: fault units, the hourglass, escalation, history queues and FAULT_N (R663–R677), and
the meanings of the commands of that chapter and of the event recorder. -/

namespace Sys2Proof.Machine

open Reg

/-- An entry is written to a unit's history (R674). -/
def State.history (s : State) (u : Nat) (e : HistEntry) : State :=
  let l := e :: (s.unit u).hist
  let s := s.when (decide (l.length > 8)) (fun t => t.on (FT_U_STAT_HIST_OVF u))
  (s.unitUp u (fun x => { x with hist := l.take 8 })).p (FT_U_STAT_HIST_CNT u) (min 8 l.length)

/-- A FAULT_N pulse starts or restarts (R676). -/
def State.pulse (s : State) : State := { s with ft := { s.ft with pulse := true } }

/-- The hourglass value in 10 µs (R690). -/
def State.hgTime (s : State) (u : Nat) : Nat := clampN 1 10000 (s.g (FT_U_CFG_TIME u))

/-- The highest level of a unit (R690). -/
def State.cap (s : State) (u : Nat) : Nat := clampN 1 4 (s.g (FT_U_CFG_CAP u))

/-- The L1 actions of R670. -/
def State.levelOne (s : State) (u bit : Nat) : State :=
  if 16 ≤ u && u < 48 then s.outOfService (u - 16)
  else if u = 4 then (s.retrain 0).retrain 1
  else if u = 7 then s.hcInval (fun _ => true)
  else if u = 2 && bit = 9 then s.chainTransfer
  else s

/-- The unit's own actuators unload with cause ESCALATION: its channel's, itself, or its spindle's (R192, R670). -/
def State.levelUnload (s : State) (u : Nat) : State :=
  if 16 ≤ u && u < 48 then s.unloadAct ((u - 16) / 4) ucEscalation
  else if 48 ≤ u && u < 56 then s.unloadAct (u - 48) ucEscalation
  else if 56 ≤ u && u < 60 then (s.unloadAct (2 * (u - 56)) ucEscalation).unloadAct (2 * (u - 56) + 1) ucEscalation
  else s

/-- The L2 actions of R670. -/
def State.levelTwo (s : State) (u : Nat) : State :=
  if 16 ≤ u && u < 60 then
    let s := s.levelUnload u
    if u < 56 then s else (s.spUp (u - 56) (fun x => { x with stopAfter := true })).spindleFree (u - 56)
  else if u = 7 || u = 5 || u = 6 || u = 8 || u = 13 || u = 14 then s.cmResetStart
  else if u = 9 || u = 10 || u = 11 || u = 12 then
    { s with ft := { s.ft with storeQuiesce := if s.ft.storeQuiesce.contains u then s.ft.storeQuiesce
      else u :: s.ft.storeQuiesce } }
  else s

/-- The action of a level (R670); L4 starts the device reset of R677. DEDUCED 106: at L3 too the unit's own actuators show cause
ESCALATION, which UNLOAD_CAUSE gives for L2 and L3. -/
def State.levelAction (s : State) (level u bit : Nat) : State :=
  if level = 1 then s.levelOne u bit
  else if level = 2 then s.levelTwo u
  else if level = 3 then (s.levelUnload u).enterSafe 2
  else { s with ft := { s.ft with resetOf := some (u, bit) } }

/-- A unit escalates one level (R668): trigger 0 for an expiry, 1 for a second occurrence. -/
def State.escalate (s : State) (u trig bit : Nat) : State :=
  let level := s.g (FT_U_STAT_LEVEL u) + 1
  let s := s.p (FT_U_STAT_LEVEL u) level
  let s := s.levelAction level u bit
  let (n, s) := s.raiseSeq 0x0101 u (pk [(level, 3), (trig, 1), (bit, 5)]) false
  let s := s.pulse.history u { bit := bit, level := level, second := decide (trig = 1), seq := n }
  let s := s.p (FT_U_STAT_HG u) (b2n (decide (level < s.cap u)))
  let s := s.inc FT_ESC_CNT_COUNT
  s.when (decide (level = 4)) (fun t => t.raise 0x0104 u (pk [(u, 8), (bit, 5)]))

/-- A fault occurs (R665, R669): status bit `f`, unit `u`, class bit `bit`; `n` the SEQ of its event. DEDUCED
109: at CAP, where the hourglass has stopped (R668), no occurrence arms it again. -/
def State.faultSeq (s : State) (f : RF) (u bit n : Nat) : State :=
  let again := s.bit (FT_U_PEND_MASK u) bit
  let s := s.on f
  let s := s.onBit (FT_U_PEND_MASK u) bit
  let s := s.unitUp u (fun x => { x with order := if x.order.contains bit then x.order else x.order ++ [bit] })
  let s := s.history u { bit := bit, level := 0, second := false, seq := n }
  let s := s.pulse
  let s := s.when (decide (s.g (FT_U_STAT_LEVEL u) < s.cap u)) (fun t => t.on (FT_U_STAT_HG u))
  if again then
    let s := s.raise 0x0102 u (pk [(bit, 5)])
    if s.g (FT_U_STAT_LEVEL u) < s.cap u then s.escalate u 1 bit else s
  else s

/-- A fault with the event its table names (R665). -/
def State.fault (s : State) (f : RF) (u bit code arg : Nat) : State :=
  let (n, s) := s.raiseSeq code u arg true
  s.faultSeq f u bit n

/-- A machine check on a control core (R690): FT_CORE_STAT.MCHECK bit n. -/
def State.machineCheck (s : State) (core cause : Nat) : State :=
  s.fault ⟨FT_CORE_STAT, core, 1⟩ 14 core 0x0121 (pk [(core, 2), (cause, 2)])

/-- An acknowledgement takes effect (R666, R671). -/
def State.ack (s : State) (u mask : Nat) : State :=
  let pend := s.g (FT_U_PEND_MASK u)
  let left := (BitVec.ofNat 32 pend &&& ~~~ (BitVec.ofNat 32 mask)).toNat
  let s := s.p (FT_U_PEND_MASK u) left
  let s := s.unitUp u (fun x => { x with order := x.order.filter (fun b => bitOf mask b = 0) })
  if left = 0 then
    let s := (s.off (FT_U_STAT_HG u)).off (FT_U_STAT_LEVEL u)
    { s with ft := { s.ft with storeQuiesce := s.ft.storeQuiesce.filter (· ≠ u) } }
  else s

/-- FAULT_ACK (R666, R667): `late` where it met an expiry that was granted and would have emptied FT_U_PEND. -/
def execFaultAck (u : Fin 60) (mask : Word) (late : Bool) (s : State) : Host.Outcome State Fault Refusal :=
  .next <|
    let pend := s.g (FT_U_PEND_MASK u.val)
    let empties := decide (pend ≠ 0) && decide ((BitVec.ofNat 32 pend &&& ~~~ mask) = 0)
    if late && empties then
      (s.sat FT_LATE_CNT_COUNT 1).note (FT_U_STAT_ACK_LATE u.val) 0x0103 u.val (pk [(mask.toNat, 32)])
    else s.ack u.val mask.toNat

/-- FAULT_PULSE_END (R676); the safety monitor's pulse ends separately (R621). -/
def execFaultPulseEnd (monitor : Bool) (s : State) : Host.Outcome State Fault Refusal :=
  .next <|
    if monitor then { s with ft := { s.ft with sfPulse := false } }
    else if s.timersHeld then s else { s with ft := { s.ft with pulse := false } }

/-- The two words of a history entry (R674). -/
def HistEntry.words (e : HistEntry) : Nat × Nat :=
  (pk [(e.bit, 5), (e.level, 3), (b2n e.second, 1), (1, 1)], e.seq)

/-- The history is copied into FT_U_HISTn, newest first (R674). -/
def State.histSnap (s : State) (u : Nat) : State :=
  let l := (s.unit u).hist
  State.each (upTo 8) (fun k t =>
    let w := match l[k]? with
      | some e => e.words
      | none => (0, 0)
    (t.p (FT_U_HIST_DATA u (2 * k)) w.1).p (FT_U_HIST_DATA u (2 * k + 1)) w.2) s

/-- HISTORY_SNAP (R674). -/
def execHistorySnap (u : Fin 60) (s : State) : Host.Outcome State Fault Refusal := .next (s.histSnap u.val)

/-- The history empties (R674). -/
def State.histClear (s : State) (u : Nat) : State :=
  ((s.unitUp u (fun x => { x with hist := [] })).off (FT_U_STAT_HIST_CNT u)).off (FT_U_STAT_HIST_OVF u)

/-- HISTORY_CLEAR (R674). -/
def execHistoryClear (u : Fin 60) (s : State) : Host.Outcome State Fault Refusal := .next (s.histClear u.val)

/-- EVENT_RECORD_WRITTEN (R683, R685): the oldest queued record becomes durable; nothing is stored while a clear runs. -/
def execEventRecordWritten (s : State) : Host.Outcome State Fault Refusal :=
  .next <|
    if s.ev.clearing.isSome then s
    else match s.ev.queue with
      | [] => s
      | r :: t => (State.storeRec { s with ev := { s.ev with queue := t } } r).reportDrops

/-- RATE_TOKEN_RETURN (R684): one token of a code returns, up to its burst. -/
def execRateTokenReturn (code : BitVec 16) (s : State) : Host.Outcome State Fault Refusal :=
  .next { s with ev := { s.ev with
    used := s.ev.used.putD code.toNat 0 (s.ev.used.getD code.toNat 0 - 1) } }

/-- PW_TEST.HOURS follows the operating hours since the last PASS; at 720 TEST_DUE sets (R618). -/
def State.testHours (s : State) : State :=
  let old := s.g PW_TEST_HOURS
  let new := min 65535 ((s.g EV_HOURS_HOURS - s.pw.passAt) / 256)
  let s := s.p PW_TEST_HOURS new
  s.when (decide (old < 720) && decide (720 ≤ new)) (fun t => t.note PW_STAT_TEST_DUE 0x100C 2 0)

/-- HOURS_UPDATE (R681): 1/256 hour more, in every mode except OFF. -/
def execHoursUpdate (s : State) : Host.Outcome State Fault Refusal :=
  .next (if s.mode = mOff then s else (s.inc EV_HOURS_HOURS).testHours)

/-- A clear of one area starts (R688): queued records are stored, EV_CLEARED is accepted, later records wait. ERR codes
of R691. -/
def State.evClear (s : State) (area : Nat) : State :=
  if s.is EV_CMD_BUSY then s
  else if s.mode ≠ mMaint then s.p EV_CMD_ERR 1
  else
    let s := (s.off EV_CMD_ERR).on EV_CMD_BUSY
    let s := s.flushEvents
    let n := nextSeq s.ev.seqAcc
    let r := { s.mkRec 0x0112 0x40 (pk [(area, 1)]) false with seq := n }
    State.reportDrops { s with ev := { s.ev with clearing := some (area, r), seqAcc := n } }

/-- CLEAR_FIRST (R688). -/
def execClearFirst (s : State) : Host.Outcome State Fault Refusal := .next (s.evClear 0)

/-- CLEAR_LAST (R688). -/
def execClearLast (s : State) : Host.Outcome State Fault Refusal := .next (s.evClear 1)

/-- EV_CLEAR_DONE (R688): the area is empty, EV_CLEARED is its first record, and the records that waited follow. -/
def execEvClearDone (s : State) : Host.Outcome State Fault Refusal :=
  .next <|
    match s.ev.clearing with
    | none => s
    | some (area, r) =>
      let s := if area = 0 then (({ s with ev := { s.ev with first := [], clearing := none } }).off EV_POS_FIRST_CNT)
        else (({ s with ev := { s.ev with last := [], clearing := none } }).off EV_POS_LAST_HEAD).off EV_POS_LAST_WRAP
      let s := (s.storeRec r).on EV_STAT_CLEARED
      (s.flushEvents.reportDrops).off EV_CMD_BUSY

/-- The slot word that EV_RD_ADDR names (R687, R691). -/
def State.evWord (s : State) : Nat :=
  let i := s.g EV_RD_ADDR_INDEX
  let r := if s.g EV_RD_ADDR_AREA = 0 then s.ev.first.find i else s.ev.last.find i
  match r with
  | some r => (r.bits / 2 ^ (32 * s.g EV_RD_ADDR_WORD)) % 2 ^ 32
  | none => 0

/-- A read of EV_RD_DATA returns the word and advances EV_RD_ADDR (R691). -/
def State.evRead (s : State) : State :=
  let s1 := { s with rdata := BitVec.ofNat 32 s.evWord }
  let w := s.g EV_RD_ADDR_WORD
  let s1 := s1.p EV_RD_ADDR_WORD (w + 1)
  s1.when (decide (w = 7)) (fun t => t.p EV_RD_ADDR_INDEX (t.g EV_RD_ADDR_INDEX + 1))

/-- EVENT_READ_DATA (R687). -/
def execEventReadData (s : State) : Host.Outcome State Fault Refusal := .next s.evRead

end Sys2Proof.Machine
end

