-- ==== Sys2Proof/Machine/Mem.lean ====
section
/-! DEFINITION. Machine/Mem.lean: buffer memory, its check code (R532–R536), the extent directory (R545–R553) and the
hit cache (R555–R557). -/

namespace Sys2Proof.Machine

open Reg

/-! Bytes. -/

/-- Memory is in its canonical form: addresses strictly rising, no byte equal to what an unlisted address reads as. -/
def Memory.wf (m : List Host.Cell) : Bool := Tbl.rising m && m.all (fun c => decide (c.2 ≠ 0))

/-- One byte; an unlisted byte reads 0. -/
def Memory.rd (m : List Host.Cell) (a : Nat) : BitVec 8 := Tbl.getD m a 0

/-- One byte is written. -/
def Memory.wr (m : List Host.Cell) (a : Nat) (v : BitVec 8) : List Host.Cell := Tbl.putD m a 0 v

/-- `n` bytes from an address, the first in bits 7:0. -/
def Memory.rdN (m : List Host.Cell) (a : Nat) : Nat → Nat
  | 0 => 0
  | n + 1 => (Memory.rd m a).toNat + 256 * Memory.rdN m (a + 1) n

/-- The listed cells of `n` bytes from an address, the first in bits 7:0. -/
def Memory.cells (a : Nat) : Nat → Nat → List Host.Cell
  | 0, _ => []
  | n + 1, v =>
    if v % 256 = 0 then Memory.cells (a + 1) n (v / 256)
    else (a, BitVec.ofNat 8 v) :: Memory.cells (a + 1) n (v / 256)

/-- `n` bytes are written from an address. -/
def Memory.wrN (m : List Host.Cell) (a n v : Nat) : List Host.Cell :=
  m.filter (fun c => decide (c.1 < a)) ++ Memory.cells a n v ++ m.filter (fun c => decide (a + n ≤ c.1))

/-- A read of buffer memory. -/
def State.bRd (s : State) (a n : Nat) : Nat := Memory.rdN s.bm.mem a n

/-- Good data stands in buffer memory: the words it touches have correct check bits (R536). -/
def State.bPut (s : State) (a n v : Nat) : State :=
  let err := s.bm.err.filter (fun e => decide (a + n ≤ e.1) || decide (e.1 + 8 ≤ a))
  { s with bm := { s.bm with mem := Memory.wrN s.bm.mem a n v, err := err } }

/-- A write of buffer memory; the code region takes none, but from the gate (R701). -/
def State.bWr (s : State) (a n v : Nat) : State :=
  let base := s.pair BM_CODE_BASE_LO BM_CODE_BASE_HI
  let lo := max a base
  let hi := min (a + n) (base + s.g BM_CODE_SIZE_MIB * 2 ^ 20)
  if lo < hi then (s.bPut a (lo - a) v).bPut hi (a + n - hi) (v / 2 ^ (8 * (hi - a))) else s.bPut a n v

/-! The check code. -/

/-- g(x) of R532: (x + 1)(x^7 + x^3 + 1)(x^7 + x^3 + x^2 + x + 1). -/
def eccPoly : Nat := 0xC599

/-- Remainder of `v` by g(x), from bit `14 + n` down to bit 15. -/
def eccRem : Nat → Nat → Nat
  | 0, v => v
  | n + 1, v => eccRem n (if bitOf v (15 + n) = 1 then v ^^^ (eccPoly * 2 ^ n) else v)

/-- The 16 check bits of a data word (R532). -/
def eccCheck (d : Nat) : Nat := eccRem 64 ((d % 2 ^ 64) * 2 ^ 15) + (popCount (d / 2 ^ 32) 32 % 2) * 2 ^ 15

/-- The syndrome of an error pattern on an 80-bit word: the code is linear. -/
def eccSyn (e : Nat) : Nat := eccCheck (e % 2 ^ 64) ^^^ (e / 2 ^ 64 % 2 ^ 16)

/-- The pattern of one or two bits that has a syndrome. -/
def eccFind (syn : Nat) : Option Nat :=
  match (upTo 80).find? (fun i => eccSyn (2 ^ i) == syn) with
  | some i => some (2 ^ i)
  | none =>
    ((upTo 80).findSome? (fun i => ((upTo i).find? (fun j => eccSyn (2 ^ i + 2 ^ j) == syn)).map (fun j => 2 ^ i + 2 ^ j)))

/-- Poison: every check bit inverted (R534). -/
def eccPoison : Nat := 0xFFFF * 2 ^ 64

/-- The classes of R534: 0 CLEAN, 1 CE, 2 UE, 3 POISON, with the pattern corrected. -/
def eccClass (e : Nat) : Nat × Nat :=
  let syn := eccSyn e
  if syn = 0 then (0, 0)
  else if syn = 0xFFFF then (3, 0)
  else match eccFind syn with
    | some p => (1, p)
    | none => (2, 0)

/-- The error pattern of the word that holds an address. -/
def State.bErr (s : State) (a : Nat) : Nat := s.bm.err.getD (a / 8 * 8) 0

/-- A stored word takes an error pattern. -/
def State.bSetErr (s : State) (a e : Nat) : State :=
  { s with bm := { s.bm with err := s.bm.err.putD (a / 8 * 8) 0 (e % 2 ^ 80) } }

/-- Some word of a range is poisoned or uncorrectable. -/
def State.bBad (s : State) (a n : Nat) : Bool :=
  s.bm.err.any (fun e => decide (e.1 < a + n) && decide (a < e.1 + 8) && decide ((eccClass e.2).1 ≥ 2))

/-- The row counts, counters and error record of a read that is not CLEAN (R535, R537, R562). -/
def State.eccNote (s : State) (a : Nat) (bank : Nat) : State :=
  let e := s.bErr a
  let (cls, pat) := eccClass e
  if cls = 0 then s
  else
    let s := if cls = 1 then (s.sat BM_CE_CNT_COUNT 1).on BM_STAT_CE
      else if cls = 3 then (s.sat BM_POISON_CNT_COUNT 1).on BM_STAT_POISON
      else s.sat BM_UE_CNT_COUNT 1
    let keep := cls = 1 && (s.is BM_STAT_UE || s.is BM_STAT_POISON) && decide (s.g BM_ERR_INFO_KIND ≥ 2)
    let s := if keep then s else
      let low := if cls = 1 then pat else e
      let bit := ((upTo 80).find? (fun i => bitOf low i = 1)).getD 0
      let s := s.p BM_ERR_INFO_CHAN (a / 256 % 4)
      let s := s.p BM_ERR_INFO_SUB (b2n ((decide (32 ≤ bit) && decide (bit < 64)) || decide (72 ≤ bit)))
      let s := s.p BM_ERR_INFO_RANK (bank % 2)
      let s := s.p BM_ERR_INFO_KIND cls
      let s := s.p BM_ERR_INFO_BITS (if cls = 1 then popCount pat 80 else 0)
      let s := s.p BM_ERR_INFO_SYND (eccSyn e)
      s.setPair BM_ERR_ADDR_LO BM_ERR_ADDR_HI (a / 8 * 8)
    s.when (decide (cls = 2)) (fun t => t.fault BM_STAT_UE 9 1 0x0D02 (pk [(a / 8 * 8, 64)]))

/-- A corrected error counts for its row; the limit reports a weak row (R537). -/
def State.rowNote (s : State) (row first : Nat) : State :=
  let n := s.bm.rows.getD row 0 + 1
  let s := { s with bm := { s.bm with rows := s.bm.rows.putD row 0 n } }
  s.when (decide (n = atLeast1 (s.g BM_CFG_ROW_CE_LIM))) (fun t => t.note BM_STAT_ROW_WEAK 0x0D01 9 (pk [(first, 64)]))

/-! Volume CRC (R471). -/

def vcrc (vol block data : Nat) : Nat := crc32c' (pk [(vol, 8), (block, 40), (0, 16)] + data * 2 ^ 64)
where
  crc32c' (v : Nat) : Nat := Code.crc32c 32832 v

/-! The extent directory. -/

def edMax : Nat := 131072
def kClean : Nat := 1
def kDirty : Nat := 2
def kSpilled : Nat := 3

def EdEnt.has (e : EdEnt) (vol block : Nat) : Bool :=
  e.vol == vol && decide (e.first ≤ block) && decide (block < e.first + e.count)

/-- The entry that holds a block, with its index. -/
def State.edFind (s : State) (vol block : Nat) : Option (Nat × EdEnt) :=
  s.bm.ed.find? (fun x => x.2.has vol block)

/-- The first number from `n` on that a rising table does not list. -/
def firstGap : Tbl EdEnt → Nat → Nat
  | [], n => n
  | (j, _) :: t, n => if j = n then firstGap t (n + 1) else if j < n then firstGap t n else n

/-- A free entry (R545). -/
def State.edFree (s : State) : Option Nat :=
  let n := firstGap s.bm.ed 0
  if n < edMax then some n else none

/-- BM_ED_DIRTY and BM_ED_CLEAN follow the directory. -/
def State.edSet (s : State) (t : Tbl EdEnt) : State :=
  let s := { s with bm := { s.bm with ed := t } }
  (s.p BM_ED_DIRTY_COUNT ((t.filter (fun x => decide (x.2.kind ≥ 2))).length)).p BM_ED_CLEAN_COUNT
    ((t.filter (fun x => decide (x.2.kind = 1))).length)

/-- The entry without the blocks from `f` to `f + n - 1`: what remains before and after them (R549). -/
def EdEnt.cut (e : EdEnt) (f n : Nat) : Option EdEnt × Option EdEnt :=
  let a := if e.first < f then some { e with count := min e.count (f - e.first) } else none
  let z := e.first + e.count
  let step := if e.kind = 1 then 4096 else if e.kind = 2 then 64 else 2 ^ 20
  let b := if f + n < z then
      some { e with first := f + n, count := z - (f + n), loc := e.loc + step * (f + n - e.first) } else none
  (a, b)

/-- Blocks leave one entry (R549). -/
def State.edCut (s : State) (i : Nat) (e : EdEnt) (f n : Nat) : State :=
  let (a, b) := e.cut f n
  let t := s.bm.ed.drop i
  match a, b with
  | none, none => s.edSet t
  | some x, none => s.edSet (t.ins i x)
  | none, some y => s.edSet (t.ins i y)
  | some x, some y =>
    let t1 := t.ins i x
    let k := firstGap t1 0
    if k < edMax then s.edSet (t1.ins k y)
    else if e.kind = 1 then s.edSet t
    else s.edSet t1

/-- Blocks leave every entry of a volume that a test names (R549). -/
def State.edRemove (s : State) (vol f n : Nat) (only : EdEnt → Bool) : State :=
  let hit := s.bm.ed.filter (fun x => x.2.vol == vol && decide (x.2.first < f + n) &&
    decide (f < x.2.first + x.2.count) && only x.2)
  State.each hit (fun x t => t.edCut x.1 x.2 f n) s

/-- Evicts the first CLEAN entry the clock hand finds with HEAT 0 (R556): over the entries from the hand on, `fuel`
steps. The state, and whether one was evicted. -/
def State.edHand (s : State) (pick : EdEnt → Bool) : Nat → List (Nat × EdEnt) → State × Bool
  | 0, _ => (s, false)
  | _ + 1, [] => (s, false)
  | fuel + 1, (i, _) :: rest =>
    match s.bm.ed.find i with
    | none => State.edHand s pick fuel rest
    | some e =>
      if e.ref > 0 || e.kind ≠ 1 then State.edHand s pick fuel rest
      else if e.heat > 0 then
        State.edHand { s with bm := { s.bm with ed := s.bm.ed.ins i { e with heat := e.heat - 1 }, hand := i + 1 } }
          pick fuel rest
      else if pick e then
        (({ s with bm := { s.bm with hand := i + 1 } }).edSet (s.bm.ed.drop i), true)
      else State.edHand { s with bm := { s.bm with hand := i + 1 } } pick fuel rest

/-- The clock hand runs until it evicts an entry (R556). -/
def State.edEvict (s : State) (pick : EdEnt → Bool) : State × Bool :=
  let cl := s.bm.ed.filter (fun x => decide (x.2.kind = 1))
  let turn := cl.filter (fun x => decide (s.bm.hand ≤ x.1)) ++ cl.filter (fun x => decide (x.1 < s.bm.hand))
  let laps := turn ++ turn ++ turn ++ turn ++ turn
  s.edHand pick laps.length laps

/-- DIRTY and SPILLED entries allowed (R551, R562). -/
def State.dirtyMax (s : State) : Nat := min 0x1F000 (s.g BM_ED_CFG_DIRTY_MAX)

/-! The hit cache. -/

/-- Bytes of the block part of the cache region (R547, R562). -/
def State.cachePart (s : State) : Nat :=
  let m := s.bm.cacheMib
  if m ≤ 128 then 0 else (m - 128) * 2 ^ 20

/-- First address of the block part. -/
def State.cacheBase (s : State) : Nat := s.bm.cacheAt + 128 * 2 ^ 20

/-- The smallest power of two of blocks that holds `n`. -/
def runOf (n : Nat) : Nat := ((upTo 9).map (fun k => 2 ^ k)).find? (fun r => decide (n ≤ r)) |>.getD 256

/-- A free run of `n` blocks (R555). DESIGN CHOICE 9: the lowest. -/
def State.cacheRun (s : State) (n : Nat) : Option Nat :=
  let sz := 4096 * runOf n
  let used := (s.bm.ed.filter (fun x => decide (x.2.kind = 1))).map (fun x => (x.2.loc, 4096 * runOf x.2.count))
  let base := s.cacheBase
  let up (a : Nat) : Nat := (a + sz - 1) / sz * sz
  let cands := up base :: used.map (fun r => up (r.1 + r.2))
  let ok (a : Nat) : Bool := decide (base ≤ a) && decide (a + sz ≤ base + s.cachePart) &&
    used.all (fun r => decide (a + sz ≤ r.1) || decide (r.1 + r.2 ≤ a))
  (cands.filter ok).min?

/-- Read-ahead's bytes in the cache. -/
def State.aheadBytes (s : State) : Nat :=
  ((s.bm.ed.filter (fun x => decide (x.2.kind = 1) && x.2.ahead)).map (fun x => 4096 * runOf x.2.count)).sum

/-- A block is inserted as CLEAN (R555–R557). The VCRC goes into its slot (R547). -/
def State.cleanPut (s : State) (vol block data heat : Nat) (ahead : Bool) : State :=
  if s.cachePart = 0 || (!ahead && !s.is BM_ED_CFG_CACHE_RD) then s
  else if (s.edFind vol block).isSome then s
  else
    let full := ahead && decide (100 * s.aheadBytes > min 100 (s.g BM_ED_CFG_RA_MAX) * s.cachePart)
    let s := if full then (s.edEvict (fun e => e.ahead)).1 else s
    let s := if (s.cacheRun 1).isNone || s.edFree.isNone then (s.edEvict (fun _ => true)).1 else s
    match s.cacheRun 1, s.edFree with
    | some a, some i =>
      let s := s.bWr a 4096 data
      let s := s.bWr (s.cacheBase - 128 * 2 ^ 20 + 1024 * i) 4 (vcrc vol block data)
      s.edSet (s.bm.ed.ins i { first := block, vol := vol, kind := 1, count := 1, heat := heat, loc := a, ahead := ahead })
    | _, _ => s

/-- A capture from a CLEAN entry raises its HEAT (R556). -/
def State.heatUp (s : State) (i : Nat) (e : EdEnt) : State :=
  { s with bm := { s.bm with ed := s.bm.ed.ins i { e with heat := min 3 (e.heat + 1) } } }

end Sys2Proof.Machine
end

