-- ==== Sys2Proof/Machine/Hc.lean ====
section
/-! DEFINITION. Machine/Hc.lean: link transactions the ZH8 starts (R390, R392), the host memory cache and its merging
buffer (R482–R500), and the meanings of their commands. -/

namespace Sys2Proof.Machine

open Reg

/-! Transactions. -/

/-- Payload limit of the ZH8's own frames (R397). -/
def State.maxFrame (s : State) : Nat := if s.g LK_ID_FLOOR < 0x20 then 256 else 4096

/-- A header that cannot be put in 1.x form (R396). -/
def untranslatable (len addr loop space : Nat) (enum : Bool) : Bool :=
  decide (len > 256) || decide (addr ≥ 2 ^ 48) || decide (loop ≥ 16) || (space == 3 && !enum)

/-- A frame refused on a 1.x hop is counted and recorded (R396). -/
def State.refuse1x (s : State) : State := (s.sat LK_UNTR_CNT_COUNT 1).note LK_STAT_UNTRANSLATABLE 0x0907 4 0

/-- A new transaction, its timer armed (R392); `kind` 0 READ, 1 WRITE with RSP_REQ. One that cannot cross its 1.x hop is
not sent: its ERROR_RSP UNTRANSLATABLE is due (R396). -/
def State.txn (s : State) (kind addr len data : Nat) (req : Req) : State :=
  let tag := s.lk.nextTag
  let x : Txn := { tag := tag, write := decide (kind = 1), addr := addr, len := len, data := data, req := req }
  let s := { s with lk := { s.lk with txns := s.lk.txns ++ [x], nextTag := (tag + 1) % 65536 } }
  if s.hopV1 s.homePort && untranslatable len addr (s.g LK_ID_ID / 64) 0 false then s.refuse1x
  else s.send { kind := kind, dst := 0, tag := tag, addr := addr, len := len, data := data, code := 1, vc := kind + 1 }

def State.sendRead (s : State) (addr len : Nat) (req : Req) : State := s.txn 0 addr len 0 req
def State.sendWrite (s : State) (addr len data : Nat) (req : Req) : State := s.txn 1 addr len data req

/-- A range split so that no frame crosses 4 KiB or exceeds the payload limit (R504, R397): offset, address, bytes. -/
def pieces (max : Nat) : Nat → Nat → Nat → Nat → List (Nat × Nat × Nat)
  | 0, _, _, _ => []
  | _ + 1, _, _, 0 => []
  | fuel + 1, off, addr, len =>
    let n := min len (min max (4096 - addr % 4096))
    (off, addr, n) :: pieces max fuel (off + n) (addr + n) (len - n)

def State.framesOf (s : State) (addr len : Nat) : List (Nat × Nat × Nat) :=
  pieces s.maxFrame (len / 64 + 4) 0 addr len

/-! Lines. -/

def hcLines : Nat := 48

/-- The present line that holds a line address. -/
def State.hcFind (s : State) (line : Nat) : Option (Nat × HcLine) := s.hc.lines.find? (fun l => l.2.addr == line)

def State.hcPut (s : State) (i : Nat) (l : HcLine) : State := { s with hc := { s.hc with lines := s.hc.lines.ins i l } }
def State.hcDrop (s : State) (i : Nat) : State := { s with hc := { s.hc with lines := s.hc.lines.drop i } }

/-- One step of the replacement register (R487). -/
def dieStep (x : Nat) : Nat :=
  (x * 2) % 65536 + (bitOf x 15 + bitOf x 13 + bitOf x 12 + bitOf x 10) % 2

/-- Steps until a candidate qualifies: the register and the line, none after 16 steps (R486). -/
def State.dieRun (s : State) : Nat → Nat → Nat × Option Nat
  | 0, x => (x, none)
  | n + 1, x =>
    let y := dieStep x
    let c := y % 64
    if c < hcLines && (match s.hc.lines.find c with | some l => l.state == 2 | none => true) then (y, some c)
    else State.dieRun s n y

/-- The line for a fill (R486), or none while every line is FILLING. -/
def State.hcVictim (s : State) : Option Nat × State :=
  match (upTo hcLines).find? (fun i => (s.hc.lines.find i).isNone) with
  | some i => (some i, s)
  | none =>
    if s.hc.lines.all (fun l => l.2.state == 1) then (none, s)
    else
      let (x, c) := s.dieRun 16 (s.g HC_DIE_STATE)
      let s := s.p HC_DIE_STATE x
      match c with
      | some i => (some i, s)
      | none => ((s.hc.lines.find? (fun l => l.2.state == 2)).map (·.1), s)

/-- A fill starts (R484), or waits for a line. -/
def State.hcFill (s : State) (line : Nat) (pf : Bool) (ws : List Waiter) (owned : Nat) : State :=
  match s.hcVictim with
  | (some i, s) =>
    ((s.hcPut i { addr := line, state := 1, prefetched := pf, waiters := ws, owned := owned, left := owned }).sendRead
      (128 * line) 128 (.fill line pf)).hcOcc
  | (none, s) => if pf then s else
    { s with hc := { s.hc with fillWait := s.hc.fillWait ++ ws.map (fun w => (line, w)) } }

/-- The stride tracker of a requester sees a read (R488, R489); prefetch fills follow while it is locked. -/
def State.hcTrack (s : State) (req line q : Nat) (limit : Nat → Bool) (owned : Nat → Nat) : State :=
  let t0 := s.hc.trackers.getD req {}
  let t := if req = 0 && t0.qid ≠ q then { qid := q } else t0
  let last := (line :: t.last).take 3
  let locked : Option Int := match last with
    | [a, b, c] =>
      let d := (a : Int) - b
      if d = (b : Int) - c && d ≠ 0 && decide (d.natAbs ≤ 16) then some d else none
    | _ => none
  let s := { s with hc := { s.hc with trackers := s.hc.trackers.putD req {} { last := last, locked := locked, qid := t.qid } } }
  let s := match locked with
    | some d =>
      if s.is HC_CFG_PF_EN then
        State.each (upTo (min 8 (s.g HC_CFG_PF_DEPTH))) (fun k u =>
          let m := (line : Int) + d * ((k : Int) + 1)
          if m ≥ 0 && decide (m.toNat / 32 = line / 32) && (u.hcFind m.toNat).isNone && limit m.toNat then
            (u.inc HC_PF_CNT_COUNT).hcFill m.toNat true [] (owned m.toNat)
          else u) s
      else s
    | none => s
  s.hcOcc

/-- A demand read of a line (R484, R496): true where it hits a VALID line. Otherwise the waiter waits on a fill. -/
def State.hcRead (s : State) (line : Nat) (w : Waiter) (owned : Nat) : Bool × State :=
  if s.g HC_CTL_STATE ≠ stOn then (false, { s with hc := { s.hc with fillWait := s.hc.fillWait ++ [(line, w)] } })
  else match s.hcFind line with
    | some (i, l) =>
      if l.state = 2 && l.served then (true, s.hcPut i { l with served := false })
      else if l.state = 2 then
        let s := s.inc HC_HIT_CNT_COUNT
        let s := s.when l.prefetched (fun t => t.inc HC_PF_USED_CNT_COUNT)
        (true, s.hcPut i { l with prefetched := false })
      else if l.invOnFill then (false, { s with hc := { s.hc with fillWait := s.hc.fillWait ++ [(line, w)] } })
      else (false, s.hcPut i { l with waiters := l.waiters ++ [w] })
    | none => (false, (s.inc HC_MISS_CNT_COUNT).hcFill line false [w] owned)

/-- A read of the line now is one that waited on its fill. -/
def State.hcServed (s : State) (line : Nat) : Bool := match s.hcFind line with
  | some (_, l) => l.served
  | none => false

/-- The read served next is one that waited on the fill of a line, or no longer is. -/
def State.hcServe (s : State) (line : Nat) (on : Bool) : State := match s.hcFind line with
  | some (i, l) => s.hcPut i { l with served := on }
  | none => s

/-- The data of a VALID line. -/
def State.hcData (s : State) (line : Nat) : Nat :=
  match s.hcFind line with
  | some (_, l) => l.data
  | none => 0

/-! Merging buffer. -/

/-- `data` with `n` bytes at byte `o` replaced. -/
def overlay (data o n v : Nat) : Nat :=
  data - (data / 2 ^ (8 * o) % 2 ^ (8 * n)) * 2 ^ (8 * o) + (v % 2 ^ (8 * n)) * 2 ^ (8 * o)

/-- The bytes a mask names, laid over a line, byte by byte. -/
def overlayMask (base mask v : Nat) : Nat → Nat
  | 0 => base
  | k + 1 => let b := overlayMask base mask v k
    if bitOf mask k = 1 then overlay b k 1 (v / 2 ^ (8 * k)) else b

/-- The contiguous runs of a 128-bit mask, from bit `k`: first byte and bytes. -/
def maskRuns (mask : Nat) : Nat → Nat → Option Nat → List (Nat × Nat)
  | 0, k, some b => [(b, k - b)]
  | 0, _, none => []
  | n + 1, k, open_ =>
    if bitOf mask k = 1 then maskRuns mask n (k + 1) (some (open_.getD k))
    else match open_ with
      | some b => (b, k - b) :: maskRuns mask n (k + 1) none
      | none => maskRuns mask n (k + 1) none

/-- One entry is issued (R492). -/
def State.wbIssueOne (s : State) (e : WbEntry) : State :=
  let runs := maskRuns e.mask 128 0 none
  let s := { s with hc := { s.hc with wb := s.hc.wb.map (fun (x : WbEntry) =>
    if x.id = e.id then { x with issued := true, outst := runs.length } else x) } }
  State.each runs (fun r t => t.sendWrite (128 * e.line + r.1) r.2 (e.data / 2 ^ (8 * r.1) % 2 ^ (8 * r.2)) (.wb e.id)) s

/-- While the command side is halted no completion, shadow or interrupt write is sent: entries of requester 1 stay (R432). -/
def State.wbHeld (s : State) (e : WbEntry) : Bool := s.is QM_HALT_HALTED && e.req == 1

/-- Entries are issued in allocation order (R492). -/
def State.wbIssue (s : State) (which : WbEntry → Bool) : State :=
  State.each (s.hc.wb.filter (fun e => !e.issued && !s.wbHeld e && which e)) (fun e t => t.wbIssueOne e) s

/-- A write enters the merging buffer (R491); a full mask, or the need for a new entry, issues. While HC is not ON the
write waits (R500). -/
def State.wbPut (s : State) (req addr n data : Nat) : State :=
  let line := addr / 128
  let o := addr % 128
  let bits := (2 ^ n - 1) * 2 ^ o
  let fresh (t : State) : State := t.hcU (fun h => { h with
    wb := h.wb ++ [{ id := h.nextWb, req := req, line := line, mask := bits, data := overlay 0 o n data }],
    nextWb := h.nextWb + 1 })
  let wait (t : State) : State := t.hcU (fun h => { h with wbWait := h.wbWait ++ [(req, addr, n, data)] })
  if s.g HC_CTL_STATE ≠ stOn then wait s else
  let s := match s.hc.wb.getLast? with
    | some e =>
      if e.req = req && e.line = line && !e.issued then
        s.hcU (fun h => { h with wb := h.wb.map (fun (x : WbEntry) => if x.id = e.id then
          { x with mask := x.mask ||| bits, data := overlay x.data o n data } else x) })
      else
        let s := s.wbIssue (fun _ => true)
        if s.hc.wb.length ≥ 8 then wait s
        else fresh s
    | none => fresh s
  (s.wbIssue (fun e => decide (e.mask = 2 ^ 128 - 1))).hcOcc

/-- A write through the cache (R485): the line is updated where VALID or FILLING, and the bytes go to the merging buffer. The
bytes of one write lie in one line. -/
def State.hcWrite (s : State) (req addr n data : Nat) : State :=
  let line := addr / 128
  let s := match s.hcFind line with
    | some (i, l) => s.hcPut i { l with data := overlay l.data (addr % 128) n data, mask := if l.state = 2 then 0 else l.mask ||| ((2 ^ n - 1) * 2 ^ (addr % 128)) }
    | none => s
  s.wbPut req addr n data

/-- A DRAIN or an invalidation that was waiting is applied (R494). -/
def State.maintDone (s : State) : State :=
  match s.hc.drain with
  | some ids =>
    let left := ids.filter (fun i => s.hc.wb.any (fun e => e.id = i))
    if left = [] then
      let s := { s with hc := { s.hc with drain := none } }
      s.off HC_MAINT_BUSY
    else { s with hc := { s.hc with drain := some left } }
  | none => if s.hc.lines.any (fun l => l.2.invOnFill) then s else s.off HC_MAINT_BUSY

/-- Writes that waited for an entry, or for HC to be ON, are tried again (R491, R500). -/
def State.wbRetry (s : State) : State :=
  let w := s.hc.wbWait
  State.each w (fun x t => t.wbPut x.1 x.2.1 x.2.2.1 x.2.2.2) { s with hc := { s.hc with wbWait := [] } }

/-- An entry leaves the buffer; writes that waited for one follow (R491, R493). -/
def State.wbRetire (s : State) (id : Nat) : State :=
  ({ s with hc := { s.hc with wb := s.hc.wb.filter (fun e => e.id ≠ id) } }).wbRetry.maintDone.hcOcc

/-- The bytes of the buffer's entries for a line laid over fill data, in allocation order (R493). -/
def State.wbOver (s : State) (line data : Nat) : Nat :=
  (s.hc.wb.filter (fun e => e.line = line)).foldl (fun d e => overlayMask d e.mask e.data 128) data

/-! Host windows (R517, R518). -/

def State.hwtWord (s : State) (k : Nat) : Nat := (s.dm.hwt.find k).getD (Config.hwtPowerOn k).toNat

/-- An access of `n` bytes at a window address; none is a translation fault (R518). -/
def State.translate (s : State) (addr n : Nat) (write : Bool) : Option Nat :=
  if !s.is DM_HWT_CTL_EN then some addr
  else
    let w := addr / 2 ^ 50 % 16384
    let o := addr % 2 ^ 50
    let base := (s.hwtWord (4 * w) + 2 ^ 32 * s.hwtWord (4 * w + 1)) / 4096 * 4096
    let pages := s.hwtWord (4 * w + 2)
    let f := s.hwtWord (4 * w + 3)
    if bitOf f 0 = 1 && o + n ≤ pages * 4096 && bitOf f (if write then 2 else 1) = 1 && base + o + n ≤ 2 ^ 64 then some (base + o)
    else none

/-- The host address a requester's access goes to (R482): requesters 2, 3 and 8–15 present window addresses. -/
def State.reqAddr (s : State) (req addr n : Nat) (write : Bool) : Option Nat :=
  if req = 2 || req = 3 || decide (req ≥ 8) then s.translate addr n write else some addr

/-! Meanings. -/

/-- CACHE_READ (R484, R497, R518): a read of one beat by a requester; `ue` an uncorrectable word of the line. An address its
window does not translate is not looked up. Requester 1 never reads (R482). -/
def execCacheRead (req : Fin 16) (addr : BitVec 64) (ue : Bool) (s : State) : Host.Outcome State Fault Refusal :=
  .next <|
    match (if req.val = 1 then none else s.reqAddr req.val (addr.toNat / 16 * 16) 16 false) with
    | none => s
    | some host =>
      let line := host / 128
      let s := match s.hcFind line with
        | some (i, l) =>
          if ue && l.state = 2 then (((s.hcDrop i).sat HC_UE_CNT_COUNT 1).note HC_STAT_LINE_UE 0x0C01 7 (pk [(128 * line, 64)])).hcOcc
          else s
        | none => s
      let (_, s) := s.hcRead line (.other req.val) 3
      s.hcTrack req.val line 0 (fun _ => true) (fun _ => 3)

/-- CACHE_WRITE (R485, R491). Requesters 0 and 2 never write (R482). -/
def execCacheWrite (req : Fin 16) (addr : BitVec 64) (len : Fin 129) (data : BitVec 1024) (s : State) :
    Host.Outcome State Fault Refusal :=
  .next <|
    if req.val = 0 || req.val = 2 || decide (len.val = 0) || decide (addr.toNat % 128 + len.val > 128) then s
    else match s.reqAddr req.val addr.toNat len.val true with
      | some host => s.hcWrite req.val host len.val data.toNat
      | none => s

/-- An invalidation starts (R494, R495); BUSY holds until a FILLING line it covers is filled. -/
def State.maint (s : State) (hit : Nat → Bool) : State :=
  if s.is HC_MAINT_BUSY then s else ((s.on HC_MAINT_BUSY).hcInval hit).maintDone

def State.maintAddr (s : State) : Nat := s.pair HC_MAINT_ADDR_LO HC_MAINT_ADDR_HI

/-- INVAL_LINE (R494). -/
def doInvalLine (s : State) : State :=
  s.maint (fun l => decide (l = s.maintAddr / 128))
/-- The row of `doInvalLine`. -/
def execInvalLine (s : State) : Host.Outcome State Fault Refusal := .next (doInvalLine s)

/-- INVAL_RANGE (R494); LEN 0 acts as 1 (R501). -/
def doInvalRange (s : State) : State :=
  s.maint (fun l => decide (s.maintAddr / 128 ≤ l) &&
    decide (l ≤ (s.maintAddr + atLeast1 (s.g HC_MAINT_LEN_LEN) - 1) / 128))
/-- The row of `doInvalRange`. -/
def execInvalRange (s : State) : Host.Outcome State Fault Refusal := .next (doInvalRange s)

/-- INVAL_ALL (R494). -/
def execInvalAll (s : State) : Host.Outcome State Fault Refusal := .next (s.maint (fun _ => true))

/-- DRAIN (R494): every entry is issued, and the operation waits for those present to retire. -/
def doDrain (s : State) : State :=
  if s.is HC_MAINT_BUSY then s
  else
    let s := (s.on HC_MAINT_BUSY).wbIssue (fun _ => true)
    ({ s with hc := { s.hc with drain := some (s.hc.wb.map (fun (e : WbEntry) => e.id)) } }).maintDone
/-- The row of `doDrain`. -/
def execDrain (s : State) : Host.Outcome State Fault Refusal := .next (doDrain s)

end Sys2Proof.Machine
end

