-- ==== Sys2Proof/Machine/Queue.lean ====
section
/-! DEFINITION. Machine/Queue.lean: queue contexts, indices, doorbells, the scan of SQs, the checks of an entry at take,
completions and their spill area, queue errors and the halt (R400–R443). -/

namespace Sys2Proof.Machine

open Reg

/-! Contexts. -/

/-- The 96 bytes of a context (R403). -/
def QmCtx.bits (c : QmCtx) : Nat :=
  pk [(c.sqBase, 64), (c.sqPiAddr, 64), (c.sqCiAddr, 64), (c.sqSizeM1, 16), (c.csv, 8), (c.group, 4), (c.seqDet, 1),
    (0, 3), (c.sqCi, 17), (0, 15), (c.sqPiSeen, 17), (0, 15), (c.cqid, 20), (c.sqState, 4), (c.sqErr, 4), (0, 4),
    (c.inflight, 17), (0, 47), (c.cqBase, 64), (c.cqPiAddr, 64), (c.cqCiAddr, 64), (c.cqSizeM1, 16), (c.ovfLim, 8),
    (c.coalCnt, 8), (c.cqPi, 17), (0, 7), (c.cqErr, 4), (c.cqState, 4), (c.cqCiSeen, 17), (c.irqVec, 11), (c.irqEn, 1),
    (0, 3), (c.ovfBase, 24), (c.coalTime, 8), (c.ovfHead, 14), (c.ovfCnt, 14), (0, 4), (c.rsv, 18), (0, 14)]

/-- A context from its 96 bytes. -/
def QmCtx.ofBits (b : Nat) : QmCtx :=
  { sqBase := bitsOf b 0 64, sqPiAddr := bitsOf b 64 64, sqCiAddr := bitsOf b 128 64, sqSizeM1 := bitsOf b 192 16,
    csv := bitsOf b 208 8, group := bitsOf b 216 4, seqDet := bitsOf b 220 1, sqCi := bitsOf b 224 17,
    sqPiSeen := bitsOf b 256 17, cqid := bitsOf b 288 20, sqState := bitsOf b 308 4, sqErr := bitsOf b 312 4,
    inflight := bitsOf b 320 17, cqBase := bitsOf b 384 64, cqPiAddr := bitsOf b 448 64, cqCiAddr := bitsOf b 512 64,
    cqSizeM1 := bitsOf b 576 16, ovfLim := bitsOf b 592 8, coalCnt := bitsOf b 600 8, cqPi := bitsOf b 608 17,
    cqErr := bitsOf b 632 4, cqState := bitsOf b 636 4, cqCiSeen := bitsOf b 640 17, irqVec := bitsOf b 657 11,
    irqEn := bitsOf b 668 1, ovfBase := bitsOf b 672 24, coalTime := bitsOf b 696 8, ovfHead := bitsOf b 704 14,
    ovfCnt := bitsOf b 718 14, rsv := bitsOf b 736 18 }

def State.ctxAddr (s : State) (q : Nat) : Nat := s.pair QM_CTX_BASE_LO QM_CTX_BASE_HI + 96 * q
def ctxMirror : Nat := 100663296

/-- The context in buffer memory: each word of the first copy, or of the second where that of the first is bad (R401). -/
def State.ctxMem (s : State) (q : Nat) : QmCtx :=
  let a := s.ctxAddr q
  QmCtx.ofBits (if s.bBad a 96 then
    pk ((upTo 12).map (fun k => (s.bRd (if s.bBad (a + 8 * k) 8 then a + ctxMirror + 8 * k else a + 8 * k) 8, 64)))
    else s.bRd a 96)

/-- The context of a pair as the queue manager holds it. -/
def State.ctx (s : State) (q : Nat) : QmCtx :=
  match s.qm.cache.find? (fun x => x.1 == q) with
  | some x => x.2
  | none => s.ctxMem q

/-- Both copies are written (R400). -/
def State.ctxWriteBack (s : State) (q : Nat) (c : QmCtx) : State :=
  (s.bWr (s.ctxAddr q) 96 c.bits).bWr (s.ctxAddr q + ctxMirror) 96 c.bits

/-- A context takes a new value: in the cache, or in both copies. -/
def State.ctxPut (s : State) (q : Nat) (c : QmCtx) : State :=
  if s.qm.cache.any (fun x => x.1 == q) then
    s.qmU (fun m => { m with cache := m.cache.map (fun x => if x.1 = q then (q, c) else x) })
  else s.ctxWriteBack q c

def State.ctxUp (s : State) (q : Nat) (f : QmCtx → QmCtx) : State := s.ctxPut q (f (s.ctx q))
def State.cqr (s : State) (q : Nat) : CqRun := s.qm.cq.getD q {}
def State.cqrUp (s : State) (q : Nat) (f : CqRun → CqRun) : State :=
  s.qmU (fun m => { m with cq := m.cq.putD q {} (f (m.cq.getD q {})) })

/-- A cached context that must not leave (R402). -/
def State.pinned (s : State) (q : Nat) : Bool :=
  s.qm.reading.contains (2 * q) || s.qm.reading.contains (2 * q + 1) || !(s.cqr q).entries.isEmpty ||
    s.qm.scan.any (fun x => x.1 == q)

/-! Indices (R405, R406). -/

def idxNext (i n : Nat) : Nat :=
  let slot := i % 65536
  let turn := i / 65536 % 2
  if slot + 1 = n then (1 - turn) * 65536 else turn * 65536 + (slot + 1)

def idxPos (i n : Nat) : Nat := i % 65536 + (i / 65536 % 2) * n

def idxCount (p c n : Nat) : Nat := (idxPos p n + 2 * n - idxPos c n) % (2 * n)

def QmCtx.sqN (c : QmCtx) : Nat := c.sqSizeM1 + 1
def QmCtx.cqN (c : QmCtx) : Nat := c.cqSizeM1 + 1

/-! Queue states and errors. -/

def qDisabled : Nat := 0
def qActive : Nat := 1
def qError : Nat := 2
def qDeleting : Nat := 3

def State.cmd (s : State) (id : Nat) : Cmd := s.cm.table.getD id { id := id }
def State.cmdUp (s : State) (id : Nat) (f : Cmd → Cmd) : State :=
  match s.cm.table.find id with
  | some c => s.cmU (fun m => { m with table := m.table.ins id (f c) })
  | none => s

/-- CM_OCC follows the table and the trackers (R481). -/
def State.cmOcc (s : State) : State := (s.p CM_OCC_CMDS (s.cm.table.filter (fun x => x.2.lib.isNone)).length).p CM_OCC_TRK s.cm.trackers.length

/-- A command leaves the table (R444). -/
def State.cmdFree (s : State) (id : Nat) : State := (s.cmU (fun m => { m with table := m.table.drop id })).cmOcc

/-- QM_OVF_FREE follows the pool. -/
def State.ovfFree (s : State) : State := s.p QM_OVF_FREE_COUNT (s.g QM_OVF_CHUNKS_COUNT - s.qm.chunks.length)

/-- A queue in DELETING reaches DISABLED when nothing holds it (R403, R453, R741). A CQ still drains its spill area first,
since no completion is dropped (R426). -/
def State.deleteStep (s : State) (q : Nat) : State :=
  let c := s.ctx q
  let s := if c.sqState = qDeleting && c.inflight = 0 then s.ctxPut q { c with sqState := qDisabled } else s
  let c := s.ctx q
  let s := if c.cqState = qDeleting && c.rsv = 0 && c.ovfCnt = 0 &&
      !s.qm.live.any (fun x => (s.ctx x).cqid = q && (s.ctx x).sqState = qActive) then
    ((s.ctxPut q { c with cqState := qDisabled, ovfHead := 0 }).qmU (fun m => { m with
      chunks := m.chunks.filter (fun x => x.2 ≠ q) })).ovfFree
    else s
  let c := s.ctx q
  if c.sqState = qDisabled && c.cqState = qDisabled then s.qmU (fun m => { m with live := m.live.filter (· ≠ q) }) else s

/-- RSV of the CQ and INFLIGHT of the SQ go down for a command, and its table entry is freed (R418, R444). -/
def State.cqPaid (s : State) (q id : Nat) : State :=
  let sq := (s.cmd id).qid
  let s := s.ctxUp q (fun c => { c with rsv := c.rsv - 1 })
  let s := s.ctxUp sq (fun c => { c with inflight := c.inflight - 1 })
  ((s.cmdFree id).deleteStep sq).deleteStep q

/-- Completions of a CQ that writes nothing more are discarded and counted (R401, R741): those owed to it, and with `spill`
those of its spill area. -/
def State.cqDiscard (s : State) (q : Nat) (spill : Bool) : State :=
  let r := s.cqr q
  let c := s.ctx q
  let owed := (r.entries.filter (fun e => !e.ok)).filterMap (·.cmd) ++ r.held
  let s := s.sat QM_CPL_LOST_CNT_COUNT (owed.length + (if spill then c.ovfCnt else 0))
  let s := s.ctxPut q { c with ovfCnt := 0 }
  let s := s.cqrUp q (fun x => { x with entries := [], held := [], timer := false })
  State.each owed (fun id t => t.cqPaid q id) s

/-- Pending bits of a queue are cleared (R410). -/
def State.dbClear (s : State) (key : Nat) : State := s.qmU (fun m => { m with db := m.db.drop key })

/-- An SQ meets an error cause (R428, R741); one in ERROR keeps its cause, but for CTX_UE (R401). -/
def State.sqError (s : State) (q cause : Nat) : State :=
  let c := s.ctx q
  if c.sqState = qDisabled || (c.sqState = qError && cause ≠ 5) then s
  else
    let st := if c.sqState = qDeleting then qDeleting else qError
    let s := s.ctxPut q { c with sqErr := cause, sqState := st }
    let s := s.qmU (fun m => { m with scan := m.scan.filter (fun x => x.1 ≠ q) })
    (s.dbClear (2 * q)).note QM_STAT_SQ_ERROR 0x0A04 5 (pk [(q, 20), (cause, 8)])

/-- The entries of a CQ that enters ERROR (R742): those confirmed and uncovered stay, later ones are taken back to the
spill area ahead of what it holds. -/
def State.takeBack (s : State) (q : Nat) : State :=
  let r := s.cqr q
  let open_ := r.entries.filter (fun e => !e.covered)
  let stay := open_.takeWhile (fun e => e.ok)
  let back := open_.drop stay.length
  let c := s.ctx q
  let pi := match back with
    | e :: _ => e.idx
    | [] => c.cqPi
  let cap := 64 * c.ovfLim
  let n := min back.length (cap - c.ovfCnt)
  let head := if cap = 0 then 0 else (c.ovfHead + cap - n) % cap
  let base := s.pair QM_OVF_BASE_LO QM_OVF_BASE_HI + 1024 * c.ovfBase
  let s := State.each (upTo n) (fun k t => t.bWr (base + 16 * ((head + k) % atLeast1 cap)) 16 ((back[k]?.map (·.bits)).getD 0)) s
  let s := s.ctxPut q { c with cqPi := pi, ovfHead := head, ovfCnt := c.ovfCnt + n, rsv := c.rsv - n }
  let freed := (back.take n).filterMap (·.cmd)
  let kept := (back.drop n).filterMap (·.cmd)
  let s := State.each freed (fun id t =>
    let sq := (t.cmd id).qid
    ((t.ctxUp sq (fun x => { x with inflight := x.inflight - 1 })).cmdFree id).deleteStep sq) s
  s.cqrUp q (fun x => { x with entries := stay, held := kept ++ x.held, timer := false })

/-- A CQ meets an error cause (R401, R429, R741, R742). -/
def State.cqError (s : State) (q cause : Nat) : State :=
  let c := s.ctx q
  if c.cqState = qDisabled || (c.cqState = qError && cause ≠ 3) then s
  else if c.cqState = qDeleting then
    (((s.ctxPut q { c with cqErr := cause }).note QM_STAT_CQ_ERROR 0x0A05 5 (pk [(q, 20), (cause, 8)])).cqDiscard q
      (decide (cause ≠ 3))).deleteStep q
  else
    let s := s.ctxPut q { c with cqErr := cause, cqState := qError }
    let s := (s.dbClear (2 * q + 1)).note QM_STAT_CQ_ERROR 0x0A05 5 (pk [(q, 20), (cause, 8)])
    let s := if cause = 3 then s.cqDiscard q false else s.takeBack q
    State.each (s.qm.live.filter (fun x => (s.ctx x).cqid = q && (s.ctx x).sqState ≠ qDisabled)) (fun x t => t.sqError x 4) s

/-- Both copies of a context are bad (R401). -/
def State.ctxUe (s : State) (q : Nat) : State :=
  let s := s.fault QM_STAT_CTX_UE 5 6 0x0A07 (pk [(q, 20)])
  (s.sqError q 5).cqError q 3

/-- A context is brought into the cache (R401, R402): the least recently doorbelled unpinned one makes room. False while
every slot is pinned. -/
def State.ctxLoad (s : State) (q : Nat) : Bool × State :=
  match s.qm.cache.find? (fun x => x.1 == q) with
  | some x => (true, s.qmU (fun m => { m with cache := x :: m.cache.filter (fun y => y.1 ≠ q) }))
  | none =>
    let s := s.sat QM_CTX_MISS_CNT_COUNT 1
    let victim := s.qm.cache.reverse.find? (fun x => !s.pinned x.1)
    if s.qm.cache.length ≥ 4096 && victim.isNone then (false, s)
    else
      let s := if s.qm.cache.length ≥ 4096 then match victim with
        | some v => (s.ctxWriteBack v.1 v.2).qmU (fun m => { m with cache := m.cache.filter (fun y => y.1 ≠ v.1) })
        | none => s
        else s
      let a := s.ctxAddr q
      let c := s.ctxMem q
      let bad := (upTo 12).filter (fun k => s.bBad (a + 8 * k) 8)
      let ue := bad.any (fun k => s.bBad (a + ctxMirror + 8 * k) 8)
      let s := if bad.isEmpty || ue then s else (s.sat QM_CTX_CE_CNT_COUNT bad.length).bWr a 96 c.bits
      let s := s.qmU (fun m => { m with cache := (q, c) :: m.cache })
      (true, if ue then s.ctxUe q else s)

/-! Commands of the table. -/

def Cmd.opc (c : Cmd) : Nat := bitsOf c.sqe 0 8
def Cmd.fua (c : Cmd) : Bool := bitOf c.sqe 8 == 1
def Cmd.drop (c : Cmd) : Bool := bitOf c.sqe 9 == 1
def Cmd.guard (c : Cmd) : Bool := bitOf c.sqe 10 == 1
def Cmd.dmode (c : Cmd) : Bool := bitOf c.sqe 11 == 1
def Cmd.all (c : Cmd) : Bool := bitOf c.sqe 12 == 1
def Cmd.cid (c : Cmd) : Nat := bitsOf c.sqe 16 16
def Cmd.vol (c : Cmd) : Nat := bitsOf c.sqe 32 6
def Cmd.dptr (c : Cmd) : Nat := bitsOf c.sqe 64 64
def Cmd.dlen (c : Cmd) : Nat := bitsOf c.sqe 128 32
def Cmd.gptr (c : Cmd) : Nat := bitsOf c.sqe 192 64
def Cmd.block (c : Cmd) : Nat := bitsOf c.sqe 256 40
def Cmd.nblk (c : Cmd) : Nat := bitsOf c.sqe 320 16 + 1
def Cmd.deadline (c : Cmd) : Nat := bitsOf c.sqe 352 32
def Cmd.p0 (c : Cmd) : Nat := bitsOf c.sqe 384 64
def Cmd.p1 (c : Cmd) : Nat := bitsOf c.sqe 448 32

/-- The deadline of a command, ns after it was taken: its own, or the default (R464, R749). -/
def State.defDl (s : State) : Nat := 10000000 * atLeast1 (s.g CM_CFG_DEF_DL)
def State.cmdDl (s : State) (c : Cmd) : Nat := if c.opc = 3 && c.deadline ≠ 0 then 1000 * c.deadline else s.defDl

/-- The captures a command holds are released (R552). -/
def State.uncapture (s : State) (id : Nat) : State :=
  let caps := (s.cmd id).caps
  let s := s.bmU (fun b => { b with ed := b.ed.map (fun x =>
    let n := (caps.filter (fun c => c.1 == x.1 && (c.2 == x.2.jseq))).length
    (x.1, { x.2 with ref := x.2.ref - n })) })
  s.cmdUp id (fun c => { c with caps := [] })

/-- A library service ends (R582): the blocks of a VOL_READ stand in the slice, and its context goes on. -/
def State.libEnd (s : State) (id n dst status : Nat) : State :=
  let c := s.cmd id
  let s := if c.opc = 1 then State.each ((upTo c.nblk).filter (fun i => !c.bad.contains i)) (fun i t =>
    t.bWr (dst + 4096 * i) 4096 (c.buf / 2 ^ (32768 * i) % 2 ^ 32768)) s else s
  let s := s.mcU (fun m =>
    let x := m.ctx.getD n {}
    if x.wait = .lib then { m with ctx := m.ctx.putD n {} { x with
      libErr := decide (status ≠ 0), status := if status = 0 then x.status else status, wait := .none, st := 1 } }
    else m)
  s.cmdFree id

/-- A command's completion is formed once: status (class × 256 + code) and RESULT. One formed after its deadline or the
default is counted, and LATE is set where RESULT has it (R465). What it still waited for is dropped. -/
def State.complete (s : State) (id status result : Nat) : State :=
  match s.cm.table.find id with
  | none => s
  | some c =>
    if c.status.isSome then s
    else match c.lib with
    | some (n, dst) => ((s.cmU (fun m => { m with waits := m.waits.filter (fun w => w.cmd ≠ some id) })).uncapture id).libEnd id n dst status
    | none =>
      let late := decide (s.now > c.taken + s.cmdDl c) || decide (s.now > c.taken + s.defDl)
      let s := s.when late (fun t => t.sat CM_MISS_CNT_COUNT 1)
      let r := if late && c.opc = 3 && status = 0 then result / 2 * 2 + 1 else result
      let s := s.cmdUp id (fun x => { x with status := some status, result := r, medium := false, wantChan := none, gleft := [], held := false })
      let s := s.cmU (fun m => { m with waits := m.waits.filter (fun w => w.cmd ≠ some id || w.gone) })
      s.uncapture id

/-! Entry checks (R438–R443). -/

/-- Fields an entry's opcode may set, as bits of the entry (R438, R439). -/
def entryMask (opc : Nat) (guard all v11 : Bool) : Nat :=
  let fld (lo w : Nat) : Nat := (2 ^ w - 1) * 2 ^ lo
  let io := decide (1 ≤ opc) && decide (opc ≤ 7)
  let base := fld 0 8 + fld 11 1 + fld 16 16 + fld 64 64 + fld 128 32 + fld 320 16
  let vol := if opc = 4 && all then 0 else fld 32 6
  let block := if opc = 4 || opc = 6 then 0 else fld 256 40
  let fua := if opc = 2 || opc = 7 then fld 8 1 else 0
  let drop := if opc = 3 && !v11 then fld 9 1 + fld 352 32 else 0
  let grd := if (opc = 1 || opc = 2 || opc = 3) && !v11 then fld 10 1 + (if guard then fld 192 64 else 0) else 0
  let al := if opc = 4 && !v11 then fld 12 1 else 0
  let p0 := if io || opc = 0x80 then 0
    else if 0x40 ≤ opc && opc < 0x80 then
      (if opc = 0x43 then fld 384 10 else if opc = 0x44 || opc = 0x45 then fld 384 7
       else if opc = 0x46 then fld 384 6 + fld 392 6 else if opc = 0x47 || opc = 0x48 then 0 else fld 384 6)
    else fld 384 64
  let p1 := if io || opc = 0x80 || (0x40 ≤ opc && opc < 0x80) then 0 else fld 448 32
  base + vol + block + fua + drop + grd + al + p0 + p1

/-- A reserved format bit is set (R439). For customer opcodes only byte 1 bits 7:5 count. -/
def fmtBad (sqe : Nat) (v11 : Bool) : Bool :=
  let opc := bitsOf sqe 0 8
  if opc ≥ 0xC0 then decide (bitsOf sqe 13 3 ≠ 0)
  else decide ((sqe % 2 ^ 512) &&& (entryMask opc (bitOf sqe 10 == 1) (bitOf sqe 12 == 1) v11) ≠ sqe % 2 ^ 512)

/-- DLEN or NBLK_M1 disagrees with the opcode (R440, R441, R445, R449, R450). -/
def lengthBad (c : Cmd) (v11 : Bool) : Bool :=
  let o := c.opc
  let d := c.dlen
  let n := c.nblk
  if o ≥ 0xC0 then false
  else if v11 && n > 256 then true
  else if o = 1 || o = 2 || o = 3 then d ≠ n * 4096
  else if o = 4 then d ≠ 0 || n ≠ 1
  else if o = 6 then d ≠ 16 * n || n > 256
  else if o = 0x40 then d ≠ 32
  else if o = 0x43 then d ≠ 96
  else if o = 0x80 || o = 0x88 then d ≠ 4096
  else if o = 0x81 then d ≠ 96
  else if o = 0x83 then d % 4 ≠ 0 || d < 4
  else if o = 0x86 || o = 0x8A then d % 4096 ≠ 0
  else if o = 0x89 then d ≠ 64
  else if o = 5 || o = 7 || (0x41 ≤ o && o ≤ 0x4A) || (0x80 ≤ o && o ≤ 0x8B) then d ≠ 0
  else false

/-- The opcode is defined (R442 check 3, R440). -/
def State.opcOk (s : State) (c : Cmd) (v11 : Bool) : Bool :=
  let o := c.opc
  if o ≥ 0xC0 then c.late3 || bitOf (s.mc.disp.getD o 0) 14 == 1
  else if 1 ≤ o && o ≤ 7 then !(v11 && o == 3)
  else if 0x40 ≤ o && o ≤ 0x4A then !v11 && decide (c.qid = 0)
  else if 0x80 ≤ o && o ≤ 0x8B then decide (c.qid = 0)
  else false

/-- Fields outside their ranges (R442 check 4, R449, R450). -/
def fieldBad (c : Cmd) : Bool :=
  let o := c.opc
  if o ≥ 0xC0 then false
  else
    (if c.dmode then c.dptr % 16 ≠ 0 else c.dptr % 4 ≠ 0) || (c.drop && decide (c.deadline = 0)) ||
    (if o = 0x44 || o = 0x45 then c.p0 ≥ 96
     else if o = 0x81 || o = 0x82 then c.p0 ≥ 2 ^ 20
     else if o = 0x83 then c.p0 ≥ 256 || c.p1 % 4 ≠ 0
     else if o = 0x84 || o = 0x85 then c.p0 ≥ 256
     else if o = 0x86 then c.p0 ≥ 2 ^ 32 || bitsOf c.p0 1 7 ≠ 0
     else if o = 0x87 then c.p0 ≥ 2
     else if o = 0x88 then c.p1 < 16 || c.p1 > 64
     else if o = 0x89 then c.p0 ≥ 4
     else if o = 0x8B then c.p0 ≥ 2 ^ 20 || c.p1 ≥ 2 ^ 16
     else false)

/-- A volume's capacity in blocks (R242). -/
def State.volCap (s : State) (v : Nat) : Nat :=
  s.g (AR_VOL_CAP_LO_CAP v) + 2 ^ 32 * s.g (AR_VOL_CAP_HI_CAP v) + 2 ^ 40 * s.g (AR_VOL_CAP_HI_CAP40 v)

def State.frozen (s : State) (v : Nat) : Bool :=
  if v < 32 then s.bit RB_FROZEN_LO_VOLS v else s.bit RB_FROZEN_HI_VOLS (v - 32)

/-- What the checks decide (R442). -/
inductive Verdict where
  | halt (cause : Nat)
  | fail (status : Nat)
  | accept
  deriving DecidableEq, Repr

/-- The checks of R442, in order, with R443. -/
def State.check (s : State) (c : Cmd) (csv : Nat) : Verdict :=
  let v11 := csv == 0x11
  let o := c.opc
  let io := decide (1 ≤ o) && decide (o ≤ 7)
  let needVol := io && !(o == 4 && c.all)
  if fmtBad c.sqe v11 then .halt 1
  else if lengthBad c v11 then .halt 2
  else if !s.opcOk c v11 then .fail 0x0001
  else if fieldBad c then .fail 0x0002
  else if needVol && s.g (AR_VOL_CTL_STATE c.vol) ≠ stOn then .fail 0x0004
  else if io && o ≠ 4 && o ≠ 6 && c.block + c.nblk > s.volCap c.vol then .fail 0x0003
  else if needVol && o ≠ 4 && s.frozen c.vol then .fail 0x0102
  else .accept

/-! The halt. -/

/-- A malformed entry halts the command side (R432). -/
def State.halt (s : State) (q idx cause : Nat) : State :=
  if s.is QM_HALT_HALTED then s
  else
    let s := (((s.on QM_HALT_HALTED).p QM_HALT_CAUSE cause).p QM_HALT_QID q).p QM_HALT_SLOT_INDEX idx
    let s := s.off QM_HALT_PARKED
    (s.qmU (fun m => { m with haltAt := s.now, parkArmed := true })).note QM_STAT_HALT 0x0A03 5 0

/-! Doorbells. -/

/-- A doorbell write (R407, R410). -/
def State.doorbell (s : State) (q : Nat) (cq : Bool) : State :=
  let c := s.ctx q
  let st := if cq then c.cqState else c.sqState
  if s.is QM_HALT_HALTED || st = qDisabled then
    (s.sat QM_DB_DROP_CNT_COUNT 1).note QM_STAT_DB_DROP 0x0A06 5 (pk [(q, 20)])
  else if st = qError || (st = qDeleting && (!cq || decide (c.cqErr ≠ 0))) then s
  else s.qmU (fun m => { m with db := m.db.putD (2 * q + b2n cq) false true })

/-- DOORBELL_WRITE (R50, R407): a WRITE frame to the doorbell window; in BOOT it is answered UNREACHABLE (R633), else with
WRITE_RSP where it asks for a response. One that arrives while QM takes none leaves no other trace. -/
def execDoorbellWrite (q : BitVec 20) (cq : Bool) (src : BitVec 12) (tag : BitVec 16) (rspReq : Bool) (s : State) :
    Host.Outcome State Fault Refusal :=
  .next <|
    let rsp (kind status : Nat) : OutFrame := {
      kind := kind, dst := src.toNat, tag := tag.toNat, addr := 0, len := 0, data := 0, code := status, vc := 3 }
    if s.g LK_CTL_STATE ≠ stOn || !s.is LK_ID_VALID then s
    else if s.mode = mBoot then s.respond (rsp 4 1)
    else
      let s := if s.g QM_CTL_STATE = stOn || s.g QM_CTL_STATE = stStopping then s.doorbell q.toNat cq else s
      if rspReq then s.respond (rsp 3 0) else s

/-- The next pending bit: QID 0 first, then in round-robin order after the last QID served, bits with a read outstanding
passed over (R407, R408). -/
def State.dbNext (s : State) : Option Nat :=
  let keys := (s.qm.db.map (·.1)).filter (fun k => !s.qm.reading.contains k)
  match keys.find? (fun k => decide (k < 2)) with
  | some k => some k
  | none =>
    match keys.find? (fun k => decide (k / 2 > s.qm.lastServed)) with
    | some k => some k
    | none => keys.head?

/-- DOORBELL_SERVE (R408): `ue` an uncorrectable map word sets every bit of its word first (R409); the read bypasses the
cache. -/
def execDoorbellServe (ue : Option (Fin 32768)) (s : State) : Host.Outcome State Fault Refusal :=
  .next <|
    let s := match ue with
      | some w => s.qmU (fun m => { m with db := (upTo 64).foldl (fun d k => d.ins (64 * w.val + k) true) m.db })
      | none => s
    if s.g QM_CTL_STATE ≠ stOn then s
    else match s.dbNext with
      | none => s
      | some key =>
        match s.ctxLoad (key / 2) with
        | (false, s) => s
        | (true, s) =>
          let q := key / 2
          let c := s.ctx q
          let s := (s.dbClear key).qmU (fun m => { m with lastServed := q })
          let cq := key % 2 = 1
          if (if cq then c.cqState ≠ qActive && c.cqState ≠ qDeleting else c.sqState ≠ qActive) then s
          else
            let s := s.qmU (fun m => { m with reading := key :: m.reading })
            s.sendRead (if cq then c.cqCiAddr else c.sqPiAddr) 4 (if cq then .cqCi q else .sqPi q)

/-! The scan (R412–R416). -/

/-- The slot's entry is owned (R414): its distance from SQ_CI is below the count of owned entries. -/
def QmCtx.owned (c : QmCtx) (slot : Nat) : Bool :=
  decide ((slot + c.sqN - c.sqCi % 65536) % atLeast1 c.sqN < idxCount c.sqPiSeen c.sqCi c.sqN)

/-- The line of a slot, and the slots of a line that are owned now: bits 0 and 1. -/
def QmCtx.lineOf (c : QmCtx) (slot : Nat) : Nat := (c.sqBase + 64 * slot) / 128
def QmCtx.lineOwned (c : QmCtx) (line : Nat) : Nat :=
  let k := 2 * (line - c.sqBase / 128)
  b2n (decide (k < c.sqN) && c.owned k) + 2 * b2n (decide (k + 1 < c.sqN) && c.owned (k + 1))

/-- The line at SQ_CI is read, with the tracker's prefetch within PF_LINES (R415, R489). -/
def State.scanRead (s : State) (q : Nat) : State :=
  let c := s.ctx q
  let line := c.lineOf (c.sqCi % 65536)
  let far := c.lineOf (c.sqPiSeen % 65536) + min 8 (s.g QM_CFG_PF_LINES)
  let (_, s) := s.hcRead line (.sqe q) (c.lineOwned line)
  s.hcTrack 0 line q (fun l => decide (l ≤ far) && decide (c.sqBase / 128 ≤ l) && decide (l ≤ c.lineOf (c.sqN - 1))) c.lineOwned

/-- SQ_PI_READ_RETURN (R411, R412): the producer index returned for an SQ is checked, and the scan starts. -/
def State.piReturn (s : State) (q p : Nat) : State :=
  let c := s.ctx q
  let n := c.sqN
  if c.sqState ≠ qActive then s
  else if p % 65536 ≥ n || idxCount p c.sqCi n > n || idxCount p c.sqCi n < idxCount c.sqPiSeen c.sqCi n then s.sqError q 3
  else
    let s := s.ctxPut q { c with sqPiSeen := p }
    if p = c.sqCi then s
    else
      let s := s.qmU (fun m => { m with scan := if m.scan.any (fun x => x.1 == q) then m.scan else m.scan ++ [(q, 0)] })
      s.scanRead q

/-- A returned shadow word is applied once (R408). -/
def State.takeReturn (s : State) (key : Nat) : Option (Nat × State) :=
  match s.qm.returned.find key with
  | none => none
  | some v => some (v % 2 ^ 17, s.qmU (fun m => { m with returned := m.returned.drop key, reading := m.reading.filter (· ≠ key) }))

def execSqPiReadReturn (q : BitVec 20) (s : State) : Host.Outcome State Fault Refusal :=
  .next (match s.takeReturn (2 * q.toNat) with
    | some (p, s) => s.piReturn q.toNat p
    | none => s)

/-! Completions (R417–R426). -/

/-- Slots a CQ may still reserve (R424). -/
def QmCtx.free (c : QmCtx) : Nat :=
  if c.cqState = qError then 64 * c.ovfLim - c.ovfCnt
  else (c.cqN - idxCount c.cqPi c.cqCiSeen c.cqN) + 64 * c.ovfLim - c.ovfCnt

/-- The 16 bytes of a CQ entry (R417). -/
def State.cqe (s : State) (c : Cmd) : Nat :=
  pk [(c.result, 32), (c.qid, 20), (0, 12), ((s.ctx c.qid).sqCi, 17), (0, 15), (c.cid, 16), (c.status.getD 0, 16)]

/-- The host word of an interrupt (R420). -/
def State.irq (s : State) (q : Nat) : State :=
  let c := s.ctx q
  let a := s.pair QM_IRQ_BASE_LO QM_IRQ_BASE_HI + 4 * c.irqVec
  (s.hcWrite 1 a 4 q).cqrUp q (fun r => { r with covered := 0, timer := false })

/-- CQ_PI is written to its shadow word, and the interrupt follows the count (R419, R420). -/
def State.cqShadow (s : State) (q : Nat) : State :=
  let c := s.ctx q
  let s := s.hcWrite 1 c.cqPiAddr 4 c.cqPi
  let n := ((s.cqr q).entries.filter (fun e => !e.covered)).length
  let s := s.cqrUp q (fun r => { r with
    entries := (r.entries.map (fun (e : CqEnt) => { e with covered := true })).filter (fun e => !e.ok),
    covered := r.covered + n })
  let k := (s.cqr q).covered
  if c.irqEn = 0 || k = 0 then s
  else if k ≥ atLeast1 c.coalCnt then s.irq q
  else s.cqrUp q (fun r => { r with timer := r.timer || decide (c.coalTime ≠ 0) })

/-- An entry goes into the ring at CQ_PI (R418). -/
def State.cqRing (s : State) (q : Nat) (cmd : Option Nat) (bits : Nat) : State :=
  let c := s.ctx q
  let s := s.hcWrite 1 (c.cqBase + 16 * (c.cqPi % 65536)) 16 bits
  let s := s.ctxPut q { c with cqPi := idxNext c.cqPi c.cqN }
  s.cqrUp q (fun r => { r with entries := r.entries ++ [{ idx := c.cqPi, cmd := cmd, bits := bits }], asked := false })

/-- A completion goes to the spill area (R423). -/
def State.cqSpill (s : State) (q id : Nat) (bits : Nat) : State :=
  let c := s.ctx q
  let cap := 64 * c.ovfLim
  let base := s.pair QM_OVF_BASE_LO QM_OVF_BASE_HI + 1024 * c.ovfBase
  let s := s.bWr (base + 16 * ((c.ovfHead + c.ovfCnt) % atLeast1 cap)) 16 bits
  let s := if c.ovfCnt = 0 then (s.sat QM_SPILL_CNT_COUNT 1).note QM_STAT_CQ_FULL 0x0A01 5 (pk [(q, 20)]) else s
  let s := s.ctxPut q { c with ovfCnt := c.ovfCnt + 1 }
  (s.cqrUp q (fun r => { r with asked := false })).cqPaid q id

/-- A completion of a command is placed, spilled, held or discarded (R401, R418, R423, R424, R741). -/
def State.cqPut (s : State) (id : Nat) (shadow : Bool) : State :=
  let m := s.cmd id
  let q := (s.ctx m.qid).cqid
  let c := s.ctx q
  let r := s.cqr q
  let bits := s.cqe m
  let hold (t : State) : State :=
    (t.cmdUp id (fun x => { x with waiting := true })).cqrUp q (fun x =>
      { x with held := if x.held.contains id then x.held else x.held ++ [id] })
  let unhold (t : State) : State := t.cqrUp q (fun x => { x with held := x.held.filter (· ≠ id) })
  let full := idxCount c.cqPi c.cqCiSeen c.cqN ≥ c.cqN
  if c.cqErr = 3 || (c.cqState = qDeleting && c.cqErr ≠ 0) || c.cqState = qDisabled then
    ((unhold s).sat QM_CPL_LOST_CNT_COUNT 1).cqPaid q id
  else if (match r.held with | h :: _ => decide (h ≠ id) | [] => false) then hold s
  else if c.cqState ≠ qError && !full && c.ovfCnt = 0 then
    let t := ((unhold s).cqRing q (some id) bits).cmdUp id (fun x => { x with placed := true })
    if shadow then t.cqShadow q else t
  else if c.cqState ≠ qError && full && !r.asked && c.ovfCnt = 0 then
    let t := (hold s).cqrUp q (fun x => { x with asked := true })
    t.sendRead c.cqCiAddr 4 (.cqFull q)
  else if c.ovfCnt < 64 * c.ovfLim then (unhold s).cqSpill q id bits
  else hold s

/-- Held completions of a CQ are tried again in order (R424), not while halted (R432). -/
def State.cqHeld (s : State) (q : Nat) : State :=
  if s.is QM_HALT_HALTED then s else State.each (s.cqr q).held (fun id t => t.cqPut id true) s

/-- A data write of a command still awaits its response (R44). -/
def State.owed (s : State) (id : Nat) : Bool :=
  s.lk.txns.any (fun t => t.write && !t.granted && (match t.req with
    | .dma n _ _ => decide (n < 40) && (s.dm.ch.getD n {}).cmd == some id
    | .gone c => c == some id
    | _ => false))

/-- COMPLETION_WRITE (R44, R418): a formed completion is written, once every data write of the command has its response; `shadow`
where the producer-shadow write follows at once, else a later one covers the entry (R419). Nothing is sent while halted (R432). -/
def execCompletionWrite (id : Nat) (shadow : Bool) (s : State) : Host.Outcome State Fault Refusal :=
  .next <|
    let c := s.cmd id
    if s.cm.actEnded.contains id && (c.placed || (s.cm.table.find id).isNone) then
      let s := s.cmU (fun m => { m with actEnded := m.actEnded.filter (· ≠ id) })
      (s.sat CM_LATE_CNT_ACT 1).note CM_STAT_ACT_LATE 0x0B06 6 0
    else if s.is QM_HALT_HALTED || c.status.isNone || c.placed || s.owed id then s
    else s.cqPut id shadow

/-- INTERRUPT_TIMER (R420). -/
def execInterruptTimer (q : BitVec 20) (s : State) : Host.Outcome State Fault Refusal :=
  .next (if (s.cqr q.toNat).timer && !s.is QM_HALT_HALTED then s.irq q.toNat else s)

/-- Spilled completions move into freed ring slots, oldest first (R425). -/
def State.spillDrain (s : State) (q : Nat) : Nat → State
  | 0 => s
  | n + 1 =>
    let c := s.ctx q
    if c.ovfCnt = 0 || idxCount c.cqPi c.cqCiSeen c.cqN ≥ c.cqN || s.is QM_HALT_HALTED ||
        !(c.cqState = qActive || (c.cqState = qDeleting && c.cqErr = 0)) then s
    else
      let cap := atLeast1 (64 * c.ovfLim)
      let base := s.pair QM_OVF_BASE_LO QM_OVF_BASE_HI + 1024 * c.ovfBase
      let bits := s.bRd (base + 16 * (c.ovfHead % cap)) 16
      let s := s.cqRing q none bits
      State.spillDrain (s.ctxUp q (fun x => { x with ovfHead := (c.ovfHead + 1) % cap, ovfCnt := c.ovfCnt - 1 })) q n

/-- A consumer index of a CQ is checked and applied (R427, R425). -/
def State.ciReturn (s : State) (q ci : Nat) : State :=
  let c := s.ctx q
  let n := c.cqN
  if c.cqState ≠ qActive && !(c.cqState = qDeleting && c.cqErr = 0) then s
  else if ci % 65536 ≥ n || idxCount c.cqPi ci n > idxCount c.cqPi c.cqCiSeen n then s.cqError q 2
  else
    let s := s.ctxPut q { c with cqCiSeen := ci }
    let before := c.ovfCnt
    let s := s.spillDrain q before
    let s := s.when (decide (before ≠ (s.ctx q).ovfCnt)) (fun t => t.cqShadow q)
    (s.cqHeld q).deleteStep q

/-- CQ_CI_READ_RETURN (R427). -/
def execCqCiReadReturn (q : BitVec 20) (s : State) : Host.Outcome State Fault Refusal :=
  .next (match s.takeReturn (2 * q.toNat + 1) with
    | some (p, s) => s.ciReturn q.toNat p
    | none => s)

/-! Taking an entry. -/

/-- Entries may be taken now: QM and CM ON, no halt, reset, activation or shut-down, a mode that takes entries, and no
entry into REST. -/
def State.mayTake (s : State) : Bool :=
  decide (s.g QM_CTL_STATE = stOn) && decide (s.g CM_CTL_STATE = stOn) && !s.is QM_HALT_HALTED && s.cm.resetting.isNone &&
    s.cm.actCmd.isNone && s.serving && decide (s.md.rest = .awake)

/-- A drain of a scan: the SQ leaves it, or its turn ends after BURST entries (R412). -/
def State.scanTurn (s : State) (q : Nat) : State :=
  let c := s.ctx q
  if c.sqCi = c.sqPiSeen || c.sqState ≠ qActive then
    s.qmU (fun m => { m with scan := m.scan.filter (fun x => x.1 ≠ q) })
  else
    let k := ((s.qm.scan.find? (fun x => x.1 == q)).map (·.2)).getD 0 + 1
    if k ≥ atLeast1 (s.g QM_CFG_BURST) then
      s.qmU (fun m => { m with scan := m.scan.filter (fun x => x.1 ≠ q) ++ [(q, 0)] })
    else s.qmU (fun m => { m with scan := m.scan.map (fun x => if x.1 = q then (q, k) else x) })

/-- The DATA records a FLUSH covers: those of the writes whose LAST record is durable when it is taken (R469). -/
def State.flushCover (s : State) (m : Cmd) : List Nat :=
  (s.jn.recs.filter (fun r => r.typ == 1 && r.ready && !r.retired && (m.all || r.vol == m.vol))).map (·.jseq)

/-- The entry at SQ_CI is taken from its line (R413, R416) and checked (R442). -/
def State.take (s : State) (q i : Nat) (l : HcLine) : State :=
  let c := s.ctx q
  let slot := c.sqCi % 65536
  let half := (c.sqBase + 64 * slot) / 64 % 2
  let sqe := l.data / 2 ^ (512 * half) % 2 ^ 512
  let left := clrBit l.left half
  let s := if left = 0 then (s.hcDrop i).hcOcc else s.hcPut i { l with left := left }
  let s := s.ctxPut q { c with sqCi := idxNext c.sqCi c.sqN, inflight := c.inflight + 1 }
  let s := s.ctxUp c.cqid (fun x => { x with rsv := x.rsv + 1 })
  let s := s.hcWrite 1 c.sqCiAddr 4 (s.ctx q).sqCi
  let id := s.cm.nextId
  let m0 : Cmd :=
    { id := id, qid := q, idx := c.sqCi, csv := c.csv, sqe := sqe, taken := s.now,
      late3 := decide (sqe % 256 ≥ 0xC0) && s.mc.install.isSome, solo := s.soloFua }
  let m := if m0.opc = 4 then { m0 with cover := s.flushCover m0 } else m0
  let s := (s.cmU (fun x => { x with table := x.table.ins id m, nextId := id + 1 })).cmOcc
  let s := (s.scanTurn q).mdU (fun x => { x with reached := x.reached.drop c.group, gotoRest := false })
  match s.check m c.csv with
  | .halt cause => s.halt q c.sqCi cause
  | .fail st => s.complete id st 0
  | .accept => s

/-- ENTRY_TAKEN (R413): the next entry of a scanned SQ. A slot not owned when its line was read is read again (R415);
a full table (R444) and a CQ without a free slot (R424) stop fetching. -/
def execEntryTaken (q : BitVec 20) (s : State) : Host.Outcome State Fault Refusal :=
  .next <|
    let qn := q.toNat
    let c := s.ctx qn
    let cq := s.ctx c.cqid
    let line := c.lineOf (c.sqCi % 65536)
    let half := (c.sqBase + 64 * (c.sqCi % 65536)) / 64 % 2
    if !s.mayTake || c.sqState ≠ qActive || c.sqCi = c.sqPiSeen || !s.qm.scan.any (fun x => x.1 == qn) then s
    else if s.cm.table.length ≥ 32768 then
      if s.is CM_STAT_TABLE_FULL then s else s.note CM_STAT_TABLE_FULL 0x0B07 6 0
    else if cq.rsv ≥ cq.free then
      if s.is QM_STAT_BACKPRESSURE then s else s.note QM_STAT_BACKPRESSURE 0x0A02 5 (pk [(c.cqid, 20)])
    else match s.hcFind line with
      | none => s.scanRead qn
      | some (i, l) =>
        if l.state ≠ 2 then s
        else if bitOf l.owned half = 1 then s.take qn i l
        else ((s.hcDrop i).hcFill line false [.sqe qn] (c.lineOwned line))

/-! The register path (R430, R436). -/

/-- The context checks of R404: the number of the first that fails, 0 none. `own` the pair being created. -/
def State.ctxCheck (s : State) (own : Nat) (c : QmCtx) : Nat :=
  let freeRun := (upTo (s.g QM_OVF_CHUNKS_COUNT)).any (fun b => decide (b + c.ovfLim ≤ s.g QM_OVF_CHUNKS_COUNT) &&
    (upTo c.ovfLim).all (fun k => (s.qm.chunks.find (b + k)).isNone))
  if c.sqBase % 128 ≠ 0 || c.cqBase % 128 ≠ 0 || c.sqPiAddr % 4 ≠ 0 || c.sqCiAddr % 4 ≠ 0 || c.cqPiAddr % 4 ≠ 0 ||
    c.cqCiAddr % 4 ≠ 0 then 1
  else if c.sqSizeM1 = 0 || c.cqSizeM1 = 0 then 2
  else if c.cqid ≠ own && (s.ctx c.cqid).cqState ≠ qActive then 3
  else if c.ovfLim ≠ 0 && !freeRun then 4
  else if c.csv ≠ 0x11 && c.csv ≠ 0x20 then 5
  else 0

/-- The lowest run of free chunks (R422). -/
def State.chunkRun (s : State) (n : Nat) : Nat :=
  ((upTo (s.g QM_OVF_CHUNKS_COUNT)).find? (fun b => decide (b + n ≤ s.g QM_OVF_CHUNKS_COUNT) &&
    (upTo n).all (fun k => (s.qm.chunks.find (b + k)).isNone))).getD 0

/-- A pair is created from an image that passed the checks (R436, R452). -/
def State.ctxCreate (s : State) (q : Nat) (c0 : QmCtx) : State :=
  let b := s.chunkRun c0.ovfLim
  let c : QmCtx := { c0 with
    sqCi := 0, sqPiSeen := 0, cqPi := 0, cqCiSeen := 0, sqState := qActive, cqState := qActive, sqErr := 0,
    cqErr := 0, inflight := 0, rsv := 0, ovfBase := b, ovfHead := 0, ovfCnt := 0 }
  let s := s.qmU (fun m => { m with
    chunks := (upTo c.ovfLim).foldl (fun t k => t.ins (b + k) q) m.chunks,
    live := if m.live.contains q then m.live else m.live ++ [q], cq := m.cq.drop q })
  (s.ctxPut q c).ovfFree

/-- A pair goes to DELETING (R436, R453). -/
def State.deleteStart (s : State) (q : Nat) : State :=
  let c := s.ctx q
  let s := s.ctxPut q { c with
    sqState := if c.sqState = qDisabled then qDisabled else qDeleting,
    cqState := if c.cqState = qDisabled then qDisabled else qDeleting }
  let s := (if c.cqErr ≠ 0 && c.cqState ≠ qDisabled then s.cqDiscard q (decide (c.cqErr ≠ 3)) else s).dbClear (2 * q)
  s.qmU (fun m => { m with scan := m.scan.filter (fun x => x.1 ≠ q) })

/-- The 32-bit words of a context in QM_SQ_CTXn and QM_CQ_CTXn (R437). -/
def State.ctxShow (s : State) (bits : Nat) : State :=
  State.each (upTo 12) (fun n t => (t.p (QM_SQ_CTX_DATA n) (bitsOf bits (32 * n) 32)).p (QM_CQ_CTX_DATA n)
    (bitsOf bits (384 + 32 * n) 32)) s

/-- The staged words (R436). -/
def State.ctxStaged (s : State) : Nat :=
  (upTo 12).foldl (fun n k => n + s.g (QM_SQ_CTX_DATA k) * 2 ^ (32 * k) + s.g (QM_CQ_CTX_DATA k) * 2 ^ (384 + 32 * k)) 0

def State.qErr (s : State) (e : Nat) : State := (s.p QM_Q_CMD_ERR e).off QM_Q_CMD_WHY

/-- QM_READ (R436). -/
def doQmRead (s : State) : State :=
  if s.is QM_Q_CMD_BUSY then s else (s.ctxShow (s.ctx (s.g QM_Q_SEL_QID)).bits).qErr 0
/-- The row of `doQmRead`. -/
def execQmRead (s : State) : Host.Outcome State Fault Refusal := .next (doQmRead s)

/-- QM_CREATE (R404, R436). -/
def doQmCreate (s : State) : State :=
  if s.is QM_Q_CMD_BUSY then s
  else if s.is QM_HALT_HALTED then s.qErr 4
  else if s.g QM_Q_SEL_QID ≠ 0 then s.qErr 1
  else if (s.ctx 0).sqState ≠ qDisabled || (s.ctx 0).cqState ≠ qDisabled then s.qErr 3
  else
    let c := QmCtx.ofBits s.ctxStaged
    let why := s.ctxCheck 0 { c with cqid := 0 }
    if why ≠ 0 then (s.p QM_Q_CMD_ERR 2).p QM_Q_CMD_WHY why
    else (s.ctxCreate 0 { c with cqid := 0 }).qErr 0
/-- The row of `doQmCreate`. -/
def execQmCreate (s : State) : Host.Outcome State Fault Refusal := .next (doQmCreate s)

/-- The SQ side of RECOVER: refused while its CQ is not ACTIVE, else read (R430). -/
def State.recoverSq (s : State) (q : Nat) : State :=
  let c := s.ctx q
  if bitOf s.qm.recover 1 = 0 then s.off QM_Q_CMD_BUSY
  else if (s.ctx c.cqid).cqState ≠ qActive then
    ((s.qmU (fun m => { m with recover := 0 })).p QM_Q_CMD_ERR 3).off QM_Q_CMD_BUSY
  else s.sendRead c.sqPiAddr 4 (.recSq q)

/-- QM_RECOVER (R430): the host shadow words of the queues in ERROR are read again, the CQ first. -/
def doQmRecover (s : State) : State :=
  let q := s.g QM_Q_SEL_QID
  let c := s.ctx q
  if s.is QM_Q_CMD_BUSY then s
  else if s.is QM_HALT_HALTED then s.qErr 4
  else if (c.sqState ≠ qError && c.cqState ≠ qError) || c.sqErr = 5 || c.cqErr = 3 then s.qErr 3
  else
    let s := (s.qErr 0).on QM_Q_CMD_BUSY
    let s := s.qmU (fun m => { m with recover := b2n (decide (c.cqState = qError)) + 2 * b2n (decide (c.sqState = qError)) })
    if c.cqState = qError then s.sendRead c.cqCiAddr 4 (.recCq q) else s.recoverSq q
/-- The row of `doQmRecover`. -/
def execQmRecover (s : State) : Host.Outcome State Fault Refusal := .next (doQmRecover s)

/-- A re-read of RECOVER ended (R430): the index, or none where it failed. -/
def State.recovered (s : State) (q : Nat) (cq : Bool) (r : Option Nat) : State :=
  let c := s.ctx q
  if cq then
    let s := s.qmU (fun m => { m with recover := clrBit m.recover 0 })
    let s := if c.cqState ≠ qError then s else match r with
      | none => ((s.ctxPut q { c with cqErr := 4 }).p QM_Q_CMD_ERR 2).off QM_Q_CMD_WHY
      | some v =>
        let i := v % 2 ^ 17
        if i % 65536 ≥ c.cqN || idxCount c.cqPi i c.cqN > idxCount c.cqPi c.cqCiSeen c.cqN then
          ((s.ctxPut q { c with cqErr := 2 }).p QM_Q_CMD_ERR 2).p QM_Q_CMD_WHY 2
        else
          let s := s.ctxPut q { c with cqErr := 0, cqState := qActive, cqCiSeen := i }
          let s := s.when (!(s.cqr q).entries.isEmpty && !s.is QM_HALT_HALTED) (fun t => t.cqShadow q)
          let s := s.spillDrain q c.ovfCnt
          let s := s.when (decide (c.ovfCnt ≠ (s.ctx q).ovfCnt)) (fun t => t.cqShadow q)
          s.cqHeld q
    s.recoverSq q
  else
    let s := s.qmU (fun m => { m with recover := 0 })
    let s := if c.sqState ≠ qError then s else match r with
      | none => ((s.ctxPut q { c with sqErr := 2 }).p QM_Q_CMD_ERR 2).off QM_Q_CMD_WHY
      | some v =>
        let i := v % 2 ^ 17
        if i % 65536 ≥ c.sqN || idxCount i c.sqCi c.sqN > c.sqN ||
          idxCount i c.sqCi c.sqN < idxCount c.sqPiSeen c.sqCi c.sqN then
          ((s.ctxPut q { c with sqErr := 3 }).p QM_Q_CMD_ERR 2).p QM_Q_CMD_WHY 3
        else (s.ctxPut q { c with sqErr := 0, sqState := qActive }).piReturn q i
    s.off QM_Q_CMD_BUSY

/-- QM_RECOVER_DONE (R430): the re-read that is outstanding ends with an index, or with none. -/
def execQmRecoverDone (s : State) : Host.Outcome State Fault Refusal :=
  .next <|
    let q := s.g QM_Q_SEL_QID
    if !s.is QM_Q_CMD_BUSY then s
    else
      let cq := bitOf s.qm.recover 0 = 1
      let key := 2 ^ 22 + b2n cq
      match s.qm.returned.find key with
      | none => s
      | some v =>
        let s := s.qmU (fun m => { m with returned := m.returned.drop key })
        s.recovered q cq (if v ≥ 2 ^ 32 then none else some v)

/-- QM_DELETE (R436). -/
def doQmDelete (s : State) : State :=
  if s.is QM_Q_CMD_BUSY then s
  else if s.is QM_HALT_HALTED then s.qErr 4
  else if s.mode ≠ mMaint then s.qErr 5
  else if s.g QM_Q_SEL_QID ≠ 0 then s.qErr 1
  else ((s.deleteStart 0).deleteStep 0).qErr 0
/-- The row of `doQmDelete`. -/
def execQmDelete (s : State) : Host.Outcome State Fault Refusal := .next (doQmDelete s)

/-- HALT_PARK (R433): 2 s after a halt in SERVICE, the device steps to I2 and every loaded actuator unloads. -/
def execHaltPark (s : State) : Host.Outcome State Fault Refusal :=
  .next <|
    if s.is QM_HALT_HALTED && s.qm.parkArmed && decide (s.mode = mService) then
      let s := (s.on QM_HALT_PARKED).qmU (fun m => { m with parkArmed := false })
      let s := (s.p MD_IDLE_STAT_LEVEL 2).off MD_IDLE_STAT_STEPPING
      let s := s.mdU (fun m => { m with haltHold := true, exiting := false, gotoRest := false })
      State.each (upTo 8) (fun a t => t.unloadAct a ucIdle) s.chansDown
    else s

end Sys2Proof.Machine
end

