-- ==== Sys2Proof/Machine/Recs.lean ====
section
/-! DEFINITION. Machine/Recs.lean: what stands in MRAM byte for byte: journal records (R278–R280), superblocks (R293) and spill
index entries (R301). Every image is a number with byte k in bits 8k+7:8k, multi-byte fields little-endian (R11). -/

namespace Sys2Proof.Machine

/-! Records. -/

def tData : Nat := 1
def tStripe : Nat := 2
def tRetire : Nat := 3
def tPad : Nat := 4

def JRec.blocks (r : JRec) : List Nat := (upTo r.nblk).map (fun i => r.block + i)
def JRec.holds (r : JRec) (v b : Nat) : Bool :=
  r.typ == tData && r.vol == v && decide (r.block ≤ b) && decide (b < r.block + r.nblk)
def JRec.at_ (r : JRec) (b : Nat) : Nat := if r.zero then 0 else r.data.getD b 0

/-- Type-specific fields, bytes 16 to 55 (R279). -/
def JRec.fields (r : JRec) : Nat :=
  if r.typ = tData then
    pk [(r.qid, 20), (r.vol, 6), (0, 6), (r.cid, 16), (r.nblk, 16), (r.block, 40), (0, 24), (r.stripe, 40), (0, 8), (r.u0, 8), (r.u1, 8),
      (r.jmask, 20)]
  else if r.typ = tStripe then
    pk [(0, 20), (r.vol, 6), (0, 6), (r.wseq, 32), (r.stripe, 40), (0, 8), (r.u0, 8), (r.u1, 8), (r.k, 5), (0, 3), (r.p, 3)]
  else if r.typ = tRetire then pk ((r.rj.length, 3) :: (0, 61) :: (r.rj.take 4).map (fun j => (j, 64)))
  else 0

/-- Volume blocks of a STRIPE record's range in source-map order (R279). -/
def JRec.range (r : JRec) : List Nat :=
  (upTo r.k).flatMap (fun j => (upTo (r.u1 + 1 - r.u0)).map (fun i => r.stripe * (r.k * r.sz) + j * r.sz + r.u0 + i))

/-- The source map (R279). -/
def JRec.sourceMap (r : JRec) : Nat := pk (r.range.map (fun b => (b2n (r.data.find b).isSome, 1)))

/-- The payload: a DATA record's blocks, or a STRIPE record's source map in whole granules and the blocks it names. -/
def JRec.payload (r : JRec) : Nat :=
  if r.typ = tData then (if r.zero then 0 else pk (r.blocks.map (fun b => (r.at_ b, 32768))))
  else if r.typ = tStripe then
    pk ((r.sourceMap, 512 * ((r.k * (r.u1 + 1 - r.u0) + 511) / 512)) ::
      ((r.range.filter (fun b => (r.data.find b).isSome)).map (fun b => (r.data.getD b 0, 32768))))
  else 0

/-- The record has a payload. -/
def JRec.loaded (r : JRec) : Bool := (r.typ == tData && !r.zero) || r.typ == tStripe

/-- Header bytes 0 to 59 (R278). -/
def JRec.head60 (r : JRec) : Nat :=
  pk [(r.typ, 8), (1, 8), (b2n r.last, 1), (b2n r.fua, 1), (b2n r.zero, 1), (0, 13), (r.len, 32), (r.jseq, 64), (r.fields, 320),
    (if r.loaded then Code.crc32c (512 * (r.len - 1)) r.payload else 0, 32)]

/-- The header with HCRC. -/
def JRec.header (r : JRec) : Nat := pk [(r.head60, 480), (Code.crc32c 480 r.head60, 32)]

/-- The record as it stands in the ring. -/
def JRec.image (r : JRec) : Nat := r.header + r.payload * 2 ^ 512

/-- What R280 tests of a record's bytes: TYPE and VER are defined, HCRC and PCRC are right, and its JSEQ is the one expected. -/
def imageOk (b jseq : Nat) : Bool :=
  let typ := bitsOf b 0 8
  let len := bitsOf b 32 32
  let bare := typ == tRetire || typ == tPad || (typ == tData && bitOf b 18 = 1)
  decide (1 ≤ typ) && decide (typ ≤ 4) && bitsOf b 8 8 == 1 && decide (bitsOf b 480 32 = Code.crc32c 480 (bitsOf b 0 480)) &&
    decide (bitsOf b 448 32 = if bare then 0 else Code.crc32c (512 * (len - 1)) (bitsOf b 512 (512 * (len - 1)))) &&
    decide (bitsOf b 64 64 = jseq)

/-- Blocks a spilled record takes in each extent: its header's and its payload's (R301). -/
def JRec.spillBlks (r : JRec) : Nat := 1 + (r.len - 1 + 63) / 64

/-- Block `i` of a spill copy (R301): the header with zeros after it, then the payload. -/
def JRec.spillBlk (r : JRec) (i : Nat) : Nat :=
  if i = 0 then r.header else bitsOf r.payload (32768 * (i - 1)) 32768

/-! Superblocks and the spill index. -/

/-- Granules of the ring (R275). -/
def ringLen : Nat := 33030144

/-- The first 64 bytes of a superblock (R293). -/
def Superblock.image (b : Superblock) : Nat :=
  let h := pk [(0x5A484A31, 32), (b.gen, 32), (b.tailJ, 64), (b.tailGran % ringLen, 32), (ringLen, 32), (0, 288)]
  pk [(h, 480), (if b.valid then Code.crc32c 480 h else Code.crc32c 480 h + 1, 32)]

/-- A spill index entry (R301). -/
def SpillEnt.image (e : SpillEnt) : Nat :=
  pk [(e.jseq, 64), (e.ofs, 24), (e.blks, 5), (0, 3), (e.pair, 3), (0, 2), (b2n e.badA, 1), (b2n e.badB, 1), (1, 1), (0, 24)]

/-! Metadata of sectors (R74). -/

/-- The metadata word of a strip's sector, FMT_GEN apart: PARITY, and the low half of the WSEQ (R252). -/
def stripMeta (parity : Bool) (wseq : Nat) : Nat := pk [(0, 8), (b2n parity, 1), (0, 7), (wseq, 16)]

/-- The metadata word of a spill copy's sector, FMT_GEN apart: SPILL, and the low half of the JSEQ (R301). -/
def spillMeta (jseq : Nat) : Nat := pk [(0, 9), (1, 1), (0, 6), (jseq, 16)]

end Sys2Proof.Machine
end

