-- ==== Sys2Proof/Machine/Rung.lean ====
section
/-! DEFINITION. Machine/Rung.lean: what the ladder shows and counts (R104, R136, R149), how it gives up (R132), the grant of
a reconstruction (R129), and the rewrites that R134 and R135 queue and cancel. -/

namespace Sys2Proof.Machine

open Reg

/-- CH_SMEM_STAT follows the slots (R104). -/
def State.smemShow (s : State) (c : Nat) : State :=
  let bits (f : SmemSlot → Bool) : Nat :=
    (upTo 4).foldl (fun n i => if f ((s.ch c).slots.getD i {}) then n + 2 ^ i else n) 0
  ((s.p (CH_SMEM_STAT_VALID c) (bits (·.valid))).p (CH_SMEM_STAT_PINNED c) (bits (·.pinned))).p (CH_SMEM_STAT_POISON c)
    (bits (·.poison))

/-- A slot of the sample memory changes. -/
def State.slotUp (s : State) (c i : Nat) (f : SmemSlot → SmemSlot) : State :=
  (s.chUp c (fun x => { x with slots := x.slots.putD i {} (f (x.slots.getD i {})) })).smemShow c

/-- The ladder releases its pin (R109). -/
def State.unpin (s : State) (l : Ladder) : State := match l.slot with
  | some (c, i) => s.slotUp c i (fun x => { x with pinned := false })
  | none => s

/-- LD_ACTIVE follows the ladders of a channel (R149). DESIGN CHOICE 100: RUNG shows 5 from the first re-read on, also while a
failed re-read waits for the engine. -/
def State.ldShow (s : State) (c : Nat) : State :=
  let l := (s.ld (c / 4)).queue.filter (fun x => x.ch == c)
  let s := s.p (LD_ACTIVE_BUSY c) (min 3 l.length)
  match l.head? with
  | none => (s.p (LD_ACTIVE_RUNG c) 0).p (LD_ACTIVE_TRIAL c) 0
  | some x =>
    let re := decide (x.rereads > 0) || decide (x.phase ≥ 2)
    let trial := if re then min 7 (x.rereads - 1)
      else if x.phase = 1 && (x.rung = 2 || x.rung = 3) then (x.left.headD 0).toNat else 0
    (s.p (LD_ACTIVE_RUNG c) (if re then 5 else if x.phase = 0 then 0 else x.rung)).p (LD_ACTIVE_TRIAL c) trial

/-- LD_LAST records how a ladder ended (R136). -/
def State.ldLast (s : State) (c result rung trial : Nat) (ofs : Int) (iter : Nat) : State :=
  ((((s.p (LD_LAST_RESULT c) result).p (LD_LAST_RUNG c) rung).p (LD_LAST_TRIAL c) trial).p (LD_LAST_OFS c) (unsgn 5 ofs)).p
    (LD_LAST_ITER c) iter

/-- A ladder leaves its engine's list. -/
def State.ladDrop (s : State) (l : Ladder) : State :=
  ((s.ldUp (l.ch / 4) (fun x => { x with queue := x.queue.filter (fun y => y ≠ l) })).unpin l).ldShow l.ch

/-- A ladder changes in place. -/
def State.ladUp (s : State) (l l' : Ladder) : State :=
  (s.ldUp (l.ch / 4) (fun x => { x with queue := x.queue.map (fun y => if y = l then l' else y) })).ldShow l.ch

/-- The ladder of a sector, if one runs. -/
def State.ladderOf (s : State) (m mba : Nat) : Option Ladder :=
  (s.ld (actuatorOf m)).queue.find? (fun l => l.op.member == m && l.op.mba == mba)

/-- The micro-actuator offset of re-read i, 1/256 track (R123). -/
def rereadOfs (i step : Nat) : Int :=
  if i ≤ 1 then 0 else if i % 2 = 0 then ((i / 2 * step : Nat) : Int) else -((i / 2 * step : Nat) : Int)

/-- A sector whose read waits no longer on its actuator: its ladder runs, or has ended and a reconstruction is due. -/
def State.laddered (s : State) (m mba : Nat) : Bool :=
  (s.ladderOf m mba).isSome || (s.ld (actuatorOf m)).ended.any (fun e => e.op.member == m && e.op.mba == mba)

/-- The offset requested for a head (R125, R155): that of the re-read its actuator has been given to make, else 0. -/
def State.headOfs (s : State) (a h : Nat) : Int :=
  match (s.ld a).queue.find? (fun l => l.phase == 2 && l.op.member == 12 * a + h &&
      (s.cm.sched.getD a []).any (fun w => w.member == l.op.member && w.mba == l.op.mba)) with
  | some l => rereadOfs l.rereads (s.g (LD_R5_CFG_OFS l.ch))
  | none => 0

/-- A rewrite in place is queued for a sector (R134, R333): its block and its metadata word. -/
def State.queueRewrite (s : State) (m mba data w : Nat) : State :=
  let op : SecOp := { member := m, mba := mba, zone := 0, sector := 0, purpose := .rewrite 0 }
  s.ldUp (actuatorOf m) (fun l => { l with
    rewrites := l.rewrites ++ [{ op := op, attempts := 0, stripe := false, data := data, metaWord := w, time := s.now }] })

/-- The sector of a ladder is queued for a rewrite where REWRITE_AT asks for it: `rung` of the success, 6 for a
reconstruction (R134), unless a write to its block was journalled meanwhile (R135). -/
def State.rewriteAt (s : State) (c rung : Nat) (stale : Bool) (m mba data w : Nat) : State :=
  let at_ := s.g (LD_CTL_REWRITE_AT c)
  if stale || at_ = 0 || at_ = 7 || rung < at_ then s else s.queueRewrite m mba data w

/-- A write to a sector's block was journalled (R135): rewrites in place are cancelled, whatever their attempt, one that is
being verified has no further attempt, and ladders queue none. -/
def State.rewriteCancel (s : State) (m mba : Nat) : State :=
  let hit (r : Rewrite) : Bool := !r.stripe && r.op.member == m && r.op.mba == mba
  let again (p : Purpose) : Bool := match p with
    | .rewrite _ => true
    | _ => false
  s.ldUp (actuatorOf m) (fun x =>
    { x with
      rewrites := (x.rewrites.filter (fun r => !(hit r && again r.op.purpose))).map (fun r => if hit r then { r with stale := true } else r),
      queue := x.queue.map (fun l => if l.op.member = m && l.op.mba = mba then { l with stale := true } else l),
      ended := x.ended.map (fun l => if l.op.member = m && l.op.mba = mba then { l with stale := true } else l) })

/-- No reconstruction is possible, or it failed (R132). -/
def State.gaveUp (s : State) (e : LadEnd) : State :=
  let s := s.ldUp (e.ch / 4) (fun x => { x with ended := x.ended.filter (fun y => y ≠ e) })
  let s := (s.sat (LD_GIVEUP_CNT_COUNT e.ch) 1).note (LD_STAT_GAVE_UP e.ch) 0x0302 (16 + e.ch) (pk [(e.op.member, 7), (e.op.mba, 40)])
  s.when (!e.skip) (fun t => t.ldLast e.ch (if e.tlim then 5 else 3) 0 0 e.lastOfs e.lastIter)

/-- The reconstruction of a sector's block failed: ladders that ended without success give up (R132). -/
def State.ladLost (s : State) (m mba : Nat) : State :=
  State.each ((s.ld (actuatorOf m)).ended.filter (fun e => e.op.member == m && e.op.mba == mba)) (fun e t => t.gaveUp e) s

/-- A reconstruction of a sector's block was granted (R129, R134): a running decode is let end, any other ladder stops at
once, and one that had ended takes its result. A rewrite in place takes the block and the metadata word `w`. -/
def State.ladWon (s : State) (m mba data w : Nat) : State :=
  let hit (o : SecOp) : Bool := o.member == m && o.mba == mba
  let won (c : Nat) (t : State) : State := (t.on (LD_STAT_RECON_WON c)).sat (LD_RECON_CNT_COUNT c) 1
  let s := State.each ((s.ld (actuatorOf m)).queue.filter (fun l => hit l.op && !l.won)) (fun l t =>
    let t := (won l.ch t).rewriteAt l.ch 6 l.stale m mba data w
    if l.phase = 1 then t.ladUp l { l with won := true }
    else (t.ladDrop l).ldLast l.ch 2 0 0 l.lastOfs l.lastIter) s
  State.each ((s.ld (actuatorOf m)).ended.filter (fun e => hit e.op)) (fun e t =>
    let t := t.ldUp (e.ch / 4) (fun x => { x with ended := x.ended.filter (fun y => y ≠ e) })
    let t := t.rewriteAt e.ch 6 e.stale m mba data w
    if e.skip then t
    else (won e.ch t).ldLast e.ch (if e.tlim then 5 else 2) 0 0 e.lastOfs e.lastIter) s

end Sys2Proof.Machine
end

