-- ==== Sys2Proof/Machine/Journal.lean ====
section
/-! DEFINITION. Machine/Journal.lean: declaring a member FAILED (R258), the forfeit table (R340–R344), and the journal:
records, commits, durability and the directory, retirement, the tail, spilling and replay (R274–R316). -/

namespace Sys2Proof.Machine

open Reg

/-! The forfeit table. -/

def ftMax : Nat := 16384

def FtEnt.has (e : FtEnt) (v b : Nat) : Bool := e.vol == v && decide (e.first ≤ b) && decide (b < e.first + e.count)

def State.ftHas (s : State) (v b : Nat) : Bool := s.rb.ft.any (fun x => x.2.has v b)

/-- The lowest free entry. -/
def ftGap : Tbl FtEnt → Nat → Nat
  | [], n => n
  | (j, _) :: t, n => if j = n then ftGap t (n + 1) else if j < n then ftGap t n else n

def State.ftFree (s : State) : Option Nat :=
  let n := ftGap s.rb.ft 0
  if n < ftMax then some n else none

/-- A volume is frozen (R344). -/
def State.freeze (s : State) (v : Nat) : State :=
  if s.frozen v then s
  else
    let (f, i) := volBit RB_FROZEN_LO_VOLS RB_FROZEN_HI_VOLS v
    ((s.onBit f i).ckPut v (fun c => { c with frozen := true })).fault RB_STAT_FT_FULL 12 5 0x0806 0

/-- One lost block enters the table (R341, R344): merged within its span, or in a free entry. -/
def State.ftAdd (s : State) (v b cause : Nat) : State :=
  if s.ftHas v b then s
  else
    let span (x : Nat) : Nat := x / 256
    let before := s.rb.ft.find? (fun x => x.2.vol == v && x.2.first + x.2.count == b && span x.2.first == span b)
    let after := s.rb.ft.find? (fun x => x.2.vol == v && x.2.first == b + 1 && span x.2.first == span b)
    match before, after with
    | some x, some y =>
      (s.rbU (fun r => { r with ft := (r.ft.drop y.1).ins x.1 { x.2 with count := x.2.count + 1 + y.2.count } })).sat
        RB_FT_ADD_CNT_COUNT 1
    | some x, none => (s.rbU (fun r => { r with ft := r.ft.ins x.1 { x.2 with count := x.2.count + 1 } })).sat RB_FT_ADD_CNT_COUNT 1
    | none, some y =>
      (s.rbU (fun r => { r with ft := r.ft.ins y.1 { y.2 with first := b, count := y.2.count + 1 } })).sat RB_FT_ADD_CNT_COUNT 1
    | none, none =>
      match s.ftFree with
      | some i => (s.rbU (fun r => { r with
          ft := r.ft.ins i { first := b, vol := v, count := 1, cause := cause, hours := s.g EV_HOURS_HOURS } })).sat
          RB_FT_ADD_CNT_COUNT 1
      | none => s.freeze v

/-- Lost blocks are forfeited, with the event (R334, R745); a volume with no parity makes no entry (R345). -/
def State.forfeit (s : State) (v cause : Nat) (bs : List Nat) : State := State.each bs (fun b t => t.ftAdd v b cause) s

def State.forfeitEvent (s : State) : State := s.fault RB_STAT_FORFEIT 12 4 0x0805 0

/-- A block leaves its entry (R343): the state, and false where a split found no free entry (R344). -/
def State.ftDrop (s : State) (v b : Nat) : Bool × State :=
  match s.rb.ft.find? (fun x => x.2.has v b) with
  | none => (true, s)
  | some (i, e) =>
    let lo := b - e.first
    let hi := e.first + e.count - (b + 1)
    if lo = 0 && hi = 0 then (true, s.rbU (fun r => { r with ft := r.ft.drop i }))
    else if lo = 0 then (true, s.rbU (fun r => { r with ft := r.ft.ins i { e with first := b + 1, count := hi } }))
    else if hi = 0 then (true, s.rbU (fun r => { r with ft := r.ft.ins i { e with count := lo } }))
    else match s.ftFree with
      | some k => (true, s.rbU (fun r => { r with
          ft := (r.ft.ins i { e with count := lo }).ins k { e with first := b + 1, count := hi } }))
      | none => (false, s)

/-- Blocks leave the table, all or none: none where a split finds no free entry. -/
def State.ftDropAll (s : State) (v : Nat) (bs : List Nat) : Option State :=
  bs.foldl (fun o b => match o with
    | none => none
    | some t => match t.ftDrop v b with
      | (true, u) => some u
      | (false, _) => none) (some s)

/-! Records. -/

/-- Granules of a STRIPE record (R279). -/
def stripeLen (k n carried : Nat) : Nat := 1 + (k * n + 511) / 512 + 64 * carried

/-- The newest durable unretired DATA record that holds a block. -/
def State.jNewest (s : State) (v b : Nat) (only : JRec → Bool) : Option JRec :=
  (s.jn.recs.filter (fun r => r.holds v b && !r.retired && only r)).getLast?

def State.jRec (s : State) (jseq : Nat) : Option JRec := s.jn.recs.find? (fun r => r.jseq == jseq)

def State.recUp (s : State) (p : JRec → Bool) (f : JRec → JRec) : State :=
  s.jnU (fun j => { j with recs := j.recs.map (fun r => if p r then f r else r) })

/-- A capture holds the record (R552). -/
def State.jCaptured (s : State) (jseq : Nat) : Bool :=
  s.cm.table.any (fun x => x.2.caps.any (fun c => c.2 == jseq && c.2 != 0))

/-- The oldest record in the ring that still needs its space (R292, R301): unretired or captured and not spilled, or in its
commit. -/
def State.tailRec (s : State) : Option JRec :=
  (s.jn.recs.filter (fun r => r.spill.isNone && (!r.retired || s.jCaptured r.jseq)) ++ s.jn.commit.toList).foldl (fun b x =>
    match b with
    | none => some x
    | some y => if x.gran < y.gran then some x else b) none

def State.tailJ (s : State) : Nat := (s.tailRec.map (·.jseq)).getD s.jn.nextJ
def State.tailGran (s : State) : Nat := (s.tailRec.map (·.gran)).getD s.jn.head

/-- Ring granules not yet free for new records, and those from the tail on. -/
def State.ringHeldBack (s : State) : Nat := s.jn.head - s.jn.freeFrom
def State.ringUsed (s : State) : Nat := s.jn.head - s.tailGran
def State.ringPct (s : State) : Nat := s.ringUsed * 100 / ringLen

/-- The ring's used space reaches a percentage; it is at or below one (R299). -/
def State.ringAbove (s : State) (pct : Nat) : Bool := decide (s.ringUsed * 100 ≥ pct * ringLen)
def State.ringBelow (s : State) (pct : Nat) : Bool := decide (s.ringUsed * 100 ≤ pct * ringLen)

/-- Records that are retired and held by nothing leave the list. -/
def State.jTrim (s : State) : State :=
  s.jnU (fun j => { j with recs := j.recs.filter (fun r => !r.retired || s.jCaptured r.jseq) })

/-! The dies (R274). -/

def State.jd (s : State) (d : Nat) : DieLog := if d = 0 then s.jn.jd0 else s.jn.jd1

/-- A write goes to every JD die in service, and during a resynchronisation to both (R274, R295, R297). -/
def State.jdWrite (s : State) (f : DieLog → DieLog) : State :=
  let on_ (d : Nat) : Bool := s.die d || (s.anyDie && s.is JN_MIRROR_RESYNC)
  s.jnU (fun j => { j with jd0 := if on_ 0 then f j.jd0 else j.jd0, jd1 := if on_ 1 then f j.jd1 else j.jd1 })

/-- A record is written into the ring: what stood in its granules is gone. -/
def DieLog.put (x : DieLog) (r : JRec) : DieLog :=
  { x with ring := x.ring.filter (fun y => decide (r.gran + r.len ≤ y.gran + ringLen)) ++ [r] }

/-- A superblock is written over the older of the two (R292, R293). -/
def DieLog.sbPut (x : DieLog) (b : Superblock) : DieLog :=
  if x.sbA.valid && (!x.sbB.valid || decide (x.sbB.gen < x.sbA.gen)) then { x with sbB := b } else { x with sbA := b }

/-- The dies in service. -/
def State.dies (s : State) : List Nat := (upTo 2).filter (fun d => s.die d)

/-- The current superblock: of the valid ones on the dies in service the one with the larger GEN (R293, R311). -/
def State.superblock (s : State) : Option Superblock :=
  ((s.dies.flatMap (fun d => [(s.jd d).sbA, (s.jd d).sbB])).filter (·.valid)).foldl (fun b x =>
    match b with
    | none => some x
    | some y => if x.gen > y.gen then some x else b) none

/-! Held space (R306). -/

/-- Usable capacity of a pair per copy, in blocks. -/
def State.pairLen (s : State) (i : Nat) : Nat := if s.bit JN_SPILL_STAT_USABLE i then s.extLen (2 * i) else 0

/-- A stripe write whose strips still due are all held, at least one of them for an UNAVAILABLE member. -/
def State.stripeHeld (s : State) (w : StripeWrite) : Bool :=
  w.going && !w.strips.isEmpty && w.strips.all (fun x => x.held) &&
    w.strips.any (fun x => s.mem x.member == memUnavailable)

/-- A record is unretired only because of such strips. -/
def State.recHeld (s : State) (r : JRec) : Bool :=
  let hs := s.ar.stripes.filter (fun w => s.stripeHeld w)
  if r.retired then false
  else if r.typ = tStripe then hs.any (fun w => w.jseq == r.jseq)
  else
    let users := s.jn.recs.filter (fun x => x.typ == tStripe && !x.retired && x.uses.any (fun u => u.1 == r.jseq))
    !users.isEmpty && users.all (fun x => hs.any (fun w => w.jseq == x.jseq)) &&
      r.blocks.all (fun b => r.written.contains b || users.any (fun x => x.uses.contains (r.jseq, b)))

/-- JN_HELD.HELD: bytes held in ring and spill against the capacity of both. -/
def State.heldPct (s : State) : Nat :=
  let held := ((s.jn.recs.filter (fun r => s.recHeld r)).map (fun r =>
    if r.spill.isSome then 4096 * r.spillBlks else 64 * r.len)).sum
  held * 100 / (64 * ringLen + 4096 * ((upTo 8).map (fun i => s.pairLen i)).sum)

/-- The same without rounding, against a percentage. -/
def State.heldOver (s : State) : Bool :=
  let held := ((s.jn.recs.filter (fun r => s.recHeld r)).map (fun r =>
    if r.spill.isSome then 4096 * r.spillBlks else 64 * r.len)).sum
  let lim := min 100 (atLeast1 (s.g AR_CFG_HOLD_LIM))
  decide (held * 100 > lim * (64 * ringLen + 4096 * ((upTo 8).map (fun i => s.pairLen i)).sum))

/-! Members FAILED. -/

/-- The device record follows the FAILED members (R323, R325). -/
def State.devWrite (s : State) : State :=
  let mask := (upTo 96).foldl (fun n m => if s.mem m = memFailed then n + 2 ^ m else n) 0
  s.rbU (fun r => { r with dev := some (((r.dev.map (·.1)).getD 0 + 1), mask) })

/-- A failure list as AR_VOL_FAIL codes it. -/
def failWord (l : List Nat) : Nat := (upTo 4).foldl (fun n i => n + (l[i]?.getD 0x7F) * 2 ^ (8 * i)) 0

def State.setFail (s : State) (v : Nat) (l : List Nat) : State :=
  (s.wr (AR_VOL_FAIL v) (BitVec.ofNat 32 (failWord (l.take 4)))).p (AR_VOL_STAT_FAILCNT v) (min 4 l.length)

/-- A strip whose member is FAILED goes to the spare that R247 gives the pattern's member of its position, or counts as written
(R253). -/
def State.stripMove (s : State) (w : StripeWrite) (x : Strip) : Option Strip :=
  let owner := s.ownerOf w.vol
  let g := s.geo w.vol
  let row := w.stripe / atLeast1 g.q
  (s.spareOf owner g row (s.member g row ((w.stripe % atLeast1 g.q) * g.w + x.pos))).map (fun m =>
    { x with member := m, held := false, done := [], bad := false })

/-- A member is declared FAILED (R258), by whatever path; `granted` where its own expiry was. -/
def State.declareFailed (s : State) (m : Nat) (granted : Bool) : State :=
  let was := s.mem m
  let s := (s.setMem m memFailed).arU (fun a => { a with
    order := a.order.filter (· ≠ m), armed := a.armed.filter (· ≠ m),
    granted := if granted then m :: a.granted.filter (· ≠ m) else a.granted.filter (· ≠ m) })
  let vs := (upTo 64).filter (fun v => (s.geo v).set.contains m)
  let grew := vs.filter (fun v => decide ((s.failList v).length < 4))
  let s := State.each vs (fun v t =>
    let l := t.failList v
    if l.length < 4 then
      let t := t.setFail v (l ++ [m])
      t.when (t.rbOn && t.volOn v) (fun u => u.ckPut v (fun c => { c with fail := failWord (l ++ [m]) }))
    else t) s
  let s := s.arU (fun a => { a with failKept := a.failKept.map (fun x =>
    if vs.contains x.1 && decide (x.2.length < 4) then (x.1, x.2 ++ [m]) else x) })
  let s := s.devWrite
  let s := State.each (vs.filter (fun v => s.volOn v)) (fun v t => t.classNote v) s
  let s := s.arU (fun a => { a with stripes := a.stripes.map (fun (w : StripeWrite) => { w with
    strips := w.strips.filterMap (fun x => if x.member = m then s.stripMove w x else some x) }) })
  let s := s.rbU (fun r => { r with slow := r.slow.filter (fun t => t.member ≠ m || t.granted) })
  let s := if was = memAvailable then (s.copiesLost m).passTouch m else s
  let s := (s.spillCheck).reconAll m
  let s := State.each (grew.filter (fun v => s.volOn v && !(was == memAvailable && s.spareHolder v m))) (fun v t => t.passStart v) s
  s.fault AR_STAT_MEMBER_FAILED 11 1 0x0602 (pk [(m, 7)])

/-- Held space above the limit fails members, the one longest UNAVAILABLE first (R260). -/
def State.holdCheck (s : State) : Nat → State
  | 0 => s
  | n + 1 =>
    if s.heldOver then
      match s.ar.order.find? (fun m => s.mem m == memUnavailable) with
      | none => s
      | some m => State.holdCheck ((s.declareFailed m false).note AR_STAT_HOLD_LIM 0x0608 11 (pk [(m, 7)])) n
    else s

/-! The directory (R549, R550). -/

/-- The buffer address or granule of a DATA record's block, for a DIRTY entry. -/
def JRec.loc (r : JRec) (b : Nat) : Nat :=
  if r.zero then r.gran % ringLen else (r.gran + 1 + 64 * (b - r.block)) % ringLen

/-- A DIRTY or SPILLED entry for a run of blocks of a record. -/
def JRec.entry (r : JRec) (b n : Nat) : EdEnt :=
  match r.spill with
  | some i => { first := b, vol := r.vol, kind := kSpilled, count := n, loc := i + 2 ^ 20 * (b - r.block), jseq := r.jseq }
  | none => { first := b, vol := r.vol, kind := kDirty, count := n, loc := r.loc b, jseq := r.jseq }

/-- An entry is added in a free place, a CLEAN one making room (R551). -/
def State.edAdd (s : State) (e : EdEnt) : State :=
  let s := if s.edFree.isSome then s else (s.edEvict (fun _ => true)).1
  match s.edFree with
  | some i => s.edSet (s.bm.ed.ins i e)
  | none => s

/-- The parts of a record within each span (R546): first block and count. -/
def spanParts : Nat → Nat → Nat → List (Nat × Nat)
  | 0, _, _ => []
  | _ + 1, _, 0 => []
  | fuel + 1, b, n =>
    let k := min n (256 - b % 256)
    (b, k) :: spanParts fuel (b + k) (n - k)

/-- A durable DATA record is entered and its blocks leave every other entry (R549). -/
def State.dirPut (s : State) (r : JRec) : State :=
  let s := s.edRemove r.vol r.block r.nblk (fun _ => true)
  let s := s.cmU (fun c => { c with waits := c.waits.map (fun (w : BlkWait) =>
    if w.vol = r.vol && r.holds r.vol w.block then { w with stale := true } else w) })
  let s := State.each (upTo r.nblk) (fun i t =>
    let g := t.geo (t.slotOf r.vol (r.block + i))
    let x := t.locate g (r.block + i)
    State.each (x.member :: (t.spareOf r.vol g (x.stripe / atLeast1 g.q) x.member).toList) (fun m u => u.rewriteCancel m x.mba) t) s
  State.each (spanParts 3 r.block r.nblk) (fun x t => t.edAdd (r.entry x.1 x.2)) s

/-- The entries of a record are removed (R550). -/
def State.dirDrop (s : State) (r : JRec) : State := s.edRemove r.vol r.block r.nblk (fun e => e.jseq == r.jseq && decide (e.kind ≥ 2))

/-- Blocks point at their newest unretired DATA record again. -/
def State.dirRestore (s : State) (v : Nat) (bs : List Nat) : State :=
  State.each bs (fun b t => match t.jNewest v b (fun _ => true) with
    | some r => (t.edRemove v b 1 (fun _ => true)).edAdd (r.entry b 1)
    | none => t) s

/-! Retirement. -/

/-- Records to be retired are named by a RETIRE record, up to four in one (R279, R290). -/
def State.retireRec (s : State) (j : Nat) : State :=
  if s.jn.retiring.contains j then s
  else
    let s := s.jnU (fun x => { x with retiring := x.retiring ++ [j] })
    match s.jn.waiting.getLast? with
    | some r =>
      if r.typ = tRetire && r.rj.length < 4 then
        s.jnU (fun x => { x with waiting := x.waiting.dropLast ++ [{ r with rj := r.rj ++ [j] }] })
      else s.jnU (fun x => { x with waiting := x.waiting ++ [{ typ := tRetire, rj := [j] }] })
    | none => s.jnU (fun x => { x with waiting := x.waiting ++ [{ typ := tRetire, rj := [j] }] })

/-- DATA records that nothing needs any more retire (R291). -/
def State.dataRetire (s : State) : State :=
  State.each (s.jn.recs.filter (fun r => r.typ == tData && r.durable && !r.retired && r.ready &&
    r.blocks.all (fun b => r.written.contains b) &&
    !s.jn.recs.any (fun x => x.typ == tStripe && !x.retired && x.uses.any (fun u => u.1 == r.jseq))))
    (fun r t => t.retireRec r.jseq) s

/-- Replay ends when no STRIPE record of its scan is unretired (R311 step 7). -/
def State.replayDone (s : State) : State :=
  if s.g JN_REPLAY_PHASE = 4 && s.jn.redo.all (fun j => match s.jRec j with | some r => r.retired | none => true) then
    ((s.p JN_REPLAY_PHASE 5).jnU (fun j => { j with redo := [] })).note JN_STAT_REPLAYED 0x070A 10 0
  else s

/-- A STRIPE record writes a block with the data of a DATA record, or with newer data: its JSEQ and the block. -/
def JRec.writes (r : JRec) (f : Nat × Nat) : Bool := r.uses.any (fun u => u.2 == f.2 && decide (f.1 ≤ u.1))

/-- A retired stripe write has put its blocks on the medium (R286, R291): force-to-medium commands complete whose data, or newer
data of the same block, it wrote. -/
def State.onMedium (s : State) (r : JRec) : State :=
  let v := s.ownerOf r.vol
  let s := s.recUp (fun x => x.typ == tData && r.uses.any (fun u => u.1 == x.jseq)) (fun x =>
    { x with written := x.written ++ (r.uses.filter (fun u => u.1 == x.jseq && !x.written.contains u.2)).map (·.2) })
  let hit := (s.cm.table.filter (fun x => x.2.vol == v && x.2.fuaLeft.any r.writes)).map (·.1)
  State.each hit (fun id t =>
    let t := t.cmdUp id (fun c => { c with fuaLeft := c.fuaLeft.filter (fun f => !r.writes f) })
    if (t.cmd id).fuaLeft.isEmpty then t.complete id 0 0 else t) s

/-- COPYLOST: the pairs that hold an entry with a lost copy. -/
def State.copyLost (s : State) : State :=
  s.p JN_SPILL_STAT_COPYLOST ((upTo 8).foldl (fun n i =>
    if s.jn.idx.any (fun x => x.2.pair == i && (x.2.badA || x.2.badB)) then n + 2 ^ i else n) 0)

/-- The records a durable RETIRE record names are retired (R290–R292). -/
def State.retired (s : State) (js : List Nat) : State :=
  let rs := s.jn.recs.filter (fun r => js.contains r.jseq)
  let s := State.each (rs.filter (fun r => r.typ == tData)) (fun r t => t.dirDrop r) s
  let s := State.each (rs.filter (fun r => r.typ == tStripe)) (fun r t => t.onMedium r) s
  let s := s.recUp (fun r => js.contains r.jseq) (fun r => { r with retired := true })
  let s := s.jnU (fun j => { j with
    retiring := j.retiring.filter (fun x => !js.contains x),
    idx := j.idx.filter (fun x => !js.contains x.2.jseq) })
  (s.copyLost.dataRetire).replayDone.jTrim

/-! Spilling (R298–R305). -/

def spillIdxMax : Nat := 1048576

def State.spillHi (s : State) : Nat := clampN 1 100 (s.g JN_CFG_SPILL_HI)
def State.spillLo (s : State) : Nat :=
  if s.g JN_CFG_SPILL_LO ≥ s.spillHi then s.spillHi - 1 else s.g JN_CFG_SPILL_LO

/-- Blocks a pair's index entries hold. -/
def State.pairUsed (s : State) (i : Nat) : Nat :=
  ((s.jn.idx.filter (fun x => x.2.pair == i)).map (fun x => x.2.blks)).sum

/-- The members that hold a position of a record's stripe, or a spare given to it. -/
def State.stripeUses (s : State) (r : JRec) : List Nat :=
  let slot := s.slotOf r.vol r.block
  let g := s.geo slot
  let row := r.stripe / atLeast1 g.q
  s.stripeMembers g r.stripe ++ (s.spares (s.ownerOf slot) g row).map (fun x => x.2.1)

/-- Pairs that may take a record (R300), in ascending order. -/
def State.pairsFor (s : State) (r : JRec) : List Nat :=
  let ms := s.stripeUses r
  (upTo 8).filter (fun i => s.bit JN_SPILL_STAT_USABLE i && !ms.contains (s.extMember (2 * i)) &&
    !ms.contains (s.extMember (2 * i + 1)))

/-- The pair has room for the record's blocks. -/
def State.pairRoom (s : State) (r : JRec) (i : Nat) : Bool := decide (s.pairUsed i + r.spillBlks ≤ s.pairLen i)

/-- The lowest pair that may take the record and has room for it (R300). -/
def State.spillPair (s : State) (r : JRec) : Option Nat := (s.pairsFor r).find? (fun i => s.pairRoom r i)

/-- Some usable pair has room for the record, one that may not take it included (R305). -/
def State.anyRoom (s : State) (r : JRec) : Bool := (upTo 8).any (fun i => s.bit JN_SPILL_STAT_USABLE i && s.pairRoom r i)

/-- A spill copy is read while its pair's copy is good: some copy of every spilled record is needed again (R304). -/
def State.respillDue (s : State) : Option JRec :=
  s.jn.recs.find? (fun r => !r.retired && (match r.spill with
    | some i => match s.jn.idx.find i with
      | some e => e.badA != e.badB
      | none => false
    | none => false))

/-- A spill is chosen, or none. -/
def State.spillSet (s : State) (x : Option (Nat × Nat)) : State := s.jnU (fun j => { j with spillJob := x, spillAt := s.now, spillDone := [] })

/-- The spill that runs has lost its pair (R298). -/
def State.spillStray (s : State) : Bool := match s.jn.spillJob with
  | some (_, i) => decide (i < 8) && !s.bit JN_SPILL_STAT_USABLE i
  | none => false

/-- The next spill is chosen: a record with a lost copy first (R304), else while spilling runs the oldest record in
the ring that a pair may take (R299, R300). Pair 8 stands for the way back into the ring. -/
def State.spillNext (s : State) : State :=
  let s := if s.spillStray then s.spillSet none else s
  if s.jn.spillJob.isSome then s
  else match s.respillDue with
    | some r =>
      match s.spillPair r with
      | some i => s.spillSet (some (r.jseq, i))
      | none => if s.ringAbove s.spillHi then s else s.spillSet (some (r.jseq, 8))
    | none =>
      if !s.jn.spilling then s
      else
        let l := s.jn.recs.filter (fun r => r.durable && !r.retired && r.spill.isNone &&
          (r.typ == tData || decide (r.spillBlks ≤ 31)))
        let ok := l.filter (fun r => !(s.pairsFor r).isEmpty)
        let s := if (l.takeWhile (fun r => (s.pairsFor r).isEmpty)).isEmpty || s.is JN_STAT_SPILL_NOPAIR then s
          else s.note JN_STAT_SPILL_NOPAIR 0x0706 10 0
        if ok.isEmpty then s
        else
          let full := (s.jnU (fun j => { j with spilling := false })).fault JN_STAT_SPILL_FULL 10 7 0x0707 0
          if s.jn.idx.length ≥ spillIdxMax then full
          else match ok.findSome? (fun r => (s.spillPair r).map (fun i => (r.jseq, i))) with
          | some x => s.spillSet (some x)
          | none => if ok.any (fun r => s.anyRoom r) then s else full

/-- Spilling starts and stops by the ring's used space (R299). -/
def State.spillStep (s : State) : State :=
  let s := if s.ringAbove s.spillHi then s.jnU (fun j => { j with spilling := true })
    else if s.ringBelow s.spillLo then s.jnU (fun j => { j with spilling := false }) else s
  s.spillNext

/-- The lowest unused spill index entry. -/
def idxGap : Tbl SpillEnt → Nat → Nat
  | [], n => n
  | (j, _) :: t, n => if j = n then idxGap t (n + 1) else if j < n then idxGap t n else n

/-- The entries of a record follow it (R550). -/
def State.dirFollow (s : State) (r : JRec) : State :=
  s.edSet (s.bm.ed.map (fun x => if x.2.jseq = r.jseq && decide (x.2.kind ≥ 2) then
    (x.1, { r.entry x.2.first x.2.count with ref := x.2.ref }) else x))

/-- A PAD record fills the ring to its end (R281). -/
def State.padNow (s : State) : State :=
  let c : JRec := { typ := tPad, jseq := s.jn.nextJ, gran := s.jn.head, len := ringLen - s.jn.head % ringLen, durable := true }
  ((s.jdWrite (fun x => x.put c)).jnU (fun j => { j with nextJ := j.nextJ + 1, head := j.head + c.len })).inc JN_COMMIT_CNT_COUNT

/-- A spilled record is copied back into the ring (R304), after the PAD it needs, once no commit runs and there is room. DESIGN
CHOICE 102: it keeps its JSEQ. -/
def State.copyBack (s : State) (r : JRec) : State :=
  let g := s.jn.head % ringLen
  let wrap := g + r.len > ringLen
  let pad := if wrap then ringLen - g else 0
  if s.jn.commit.isSome || !s.anyDie || pad + r.len > ringLen - s.ringHeldBack then s
  else
    let s := (if wrap then s.padNow else s).spillSet none
    let r' := { r with spill := none, back := true, gran := s.jn.head }
    let s := (s.recUp (fun x => x.jseq == r.jseq) (fun _ => r')).jdWrite (fun x => x.put r')
    let s := s.jnU (fun x => { x with head := x.head + r.len, idx := x.idx.filter (fun e => e.2.jseq ≠ r.jseq) })
    (s.dirFollow r').copyLost.spillStep

/-- Every block of both copies of a spill stands verified (R301). -/
def State.copiesDone (s : State) (r : JRec) : Bool :=
  (upTo 2).all (fun k => (upTo r.spillBlks).all (fun i => s.jn.spillDone.contains (k, i)))

/-- SPILL_INDEX_WRITE (R301, R302, R304): both verified copies stand, and the record's ring space is freed. A record
retired meanwhile is not spilled. -/
def execSpillIndexWrite (s : State) : Host.Outcome State Fault Refusal :=
  .next <|
    match s.jn.spillJob with
    | none => s
    | some (j, pair) =>
      match s.jRec j with
      | none => (s.spillSet none).spillStep
      | some r =>
        if r.retired then (s.spillSet none).spillStep
        else if pair = 8 then s.copyBack r
        else if !s.copiesDone r then s
        else
            let s := (s.spillSet none).jnU (fun x => { x with idx := x.idx.filter (fun e => e.2.jseq ≠ j) })
            let i := idxGap s.jn.idx 0
            let r' := { r with spill := some i }
            let len := atLeast1 (s.extLen (2 * pair))
            let ofs := s.jn.logAt.getD pair 0 % len
            let s := s.recUp (fun x => x.jseq == j) (fun _ => r')
            let s := s.jnU (fun x => { x with
              idx := x.idx.ins i { jseq := j, ofs := ofs, blks := r.spillBlks, pair := pair },
              logAt := x.logAt.ins pair ((ofs + r.spillBlks) % len) })
            (s.dirFollow r').copyLost.spillStep

/-! Lost records (R296). -/

/-- A record of which no copy is left (R296): a DATA record's stripe is forfeited; a STRIPE record's blocks are read
from the members, and where some cannot be read the stripe is forfeited too. A volume with no parity makes no entry
(R345). -/
def State.recLost (s : State) (j : Nat) (readable : Bool) : State :=
  match s.jRec j with
  | none => s
  | some r =>
    let s := (s.sat JN_LOST_CNT_COUNT 1).fault JN_STAT_REC_LOST 10 3 0x0703 (pk [(j, 64)])
    if r.typ = tStripe && readable then s
    else
      let g := s.geo (if r.typ = tStripe then r.vol else s.slotOf r.vol r.block)
      let v := if r.typ = tStripe then s.ownerOf r.vol else r.vol
      let s := s.when (decide (g.p > 0)) (fun t =>
        t.forfeit v 2 ((upTo (g.k * g.sz)).map (fun b => r.stripe * (g.k * g.sz) + b)))
      let s := if r.typ = tData then s.dirDrop r else s
      let gone (x : DieLog) : DieLog := { x with ring := x.ring.map (fun y => if y.jseq = j then { y with retired := true } else y) }
      let s := (s.recUp (fun x => x.jseq == j) (fun x => { x with retired := true })).jnU (fun x => { x with
        idx := x.idx.filter (fun e => e.2.jseq ≠ j), jd0 := gone x.jd0, jd1 := gone x.jd1 })
      (s.arU (fun a => { a with stripes := a.stripes.filter (fun w => w.jseq ≠ j) })).copyLost.jTrim

/-- What reading the JD dies meets: words corrected (R276), and records uncorrectable on every copy, each with whether the
blocks a STRIPE record carried can be read from the members (R296). -/
def State.jdRead (s : State) (ce : Nat) (lost : List (Nat × Bool)) : State :=
  let s := s.when (decide (ce > 0)) (fun t => (t.sat JN_CE_CNT_COUNT ce).on JN_STAT_CE)
  State.each lost (fun j t => t.recLost j.1 j.2) s

/-- Every member of a record's stripe is AVAILABLE. -/
def State.stripeReadable (s : State) (j : Nat) : Bool :=
  match s.jRec j with
  | some r => (s.stripeMembers (s.geo r.vol) r.stripe).all (fun m => s.mem m == memAvailable)
  | none => false

/-- Spilled records whose two copies are lost are lost (R304). -/
def State.lostCheck (s : State) : State :=
  State.each (s.jn.idx.filter (fun x => x.2.badA && x.2.badB)) (fun x t => t.recLost x.2.jseq (t.stripeReadable x.2.jseq)) s

/-- What follows a change of member states or of the journal: lost records, the hold limit, and the next spill. -/
def State.settle (s : State) : State := ((s.lostCheck).holdCheck 96).spillNext

/-! Commits. -/

/-- Directory entries a DATA record needs. -/
def JRec.parts (r : JRec) : Nat := if r.typ = tData then (spanParts 3 r.block r.nblk).length else 0

def State.edDirty (s : State) : Nat := (s.bm.ed.filter (fun x => decide (x.2.kind ≥ 2))).length
def State.edRoom (s : State) (n : Nat) : Bool :=
  n = 0 || (decide (s.edDirty + n ≤ s.dirtyMax) &&
    decide (s.bm.ed.length + n ≤ edMax + (s.bm.ed.filter (fun x => decide (x.2.kind = 1) && decide (x.2.ref = 0))).length))

/-- JN takes a commit now. -/
def State.mayCommit (s : State) : Bool :=
  decide (s.g JN_CTL_STATE = stOn) && s.anyDie && s.jn.commit.isNone && !s.pw.powerFail

/-- COMMIT_START (R283 step 1, R281, R287, R551): the record next in order, or the PAD it needs first. -/
def State.commitStart (s : State) : State :=
  if !s.mayCommit then s
  else match s.jn.waiting with
    | [] => s
    | r :: rest =>
      let g := s.jn.head % ringLen
      let pad := if g + r.len > ringLen then ringLen - g else 0
      if pad + r.len > ringLen - s.ringHeldBack then
        if s.is JN_STAT_RING_FULL then s else s.note JN_STAT_RING_FULL 0x0704 10 0
      else if !s.edRoom r.parts then
        if s.is BM_STAT_ED_FULL then s else s.note BM_STAT_ED_FULL 0x0D06 9 0
      else
        let (c, rest) : JRec × List JRec := if pad > 0 then ({ typ := tPad, len := pad }, r :: rest) else (r, rest)
        let c := { c with jseq := s.jn.nextJ, gran := s.jn.head }
        let s := s.jnU (fun j => { j with waiting := rest, commit := some c, nextJ := j.nextJ + 1, head := j.head + c.len })
        let s := match c.cmd with
          | some id =>
            let s := s.cmdUp id (fun x => { x with pnr := true })
            match (s.cmd id).lib with
            | some (n, _) => s.cmdUp (s.mc.ctx.getD n {}).cmd (fun x => { x with pnr := true })
            | none => s
          | none => s
        if c.typ = tStripe then s.arU (fun a => { a with stripes := a.stripes.map (fun (w : StripeWrite) =>
          if w.wseq = c.wseq && w.jseq = 0 then { w with jseq := c.jseq } else w) }) else s

def execCommitStart (s : State) : Host.Outcome State Fault Refusal := .next s.commitStart

/-- Records of a write that takes no effect are retired without effect (R312, R344, R457). -/
def State.cutOff (s : State) (id : Nat) : State :=
  let rs := s.jn.recs.filter (fun r => r.cmd == some id && r.typ == tData && !r.ready)
  let s := s.jnU (fun j => { j with waiting := j.waiting.filter (fun r => r.cmd ≠ some id) })
  State.each rs (fun r t =>
    let t := (t.dirDrop r).recUp (fun x => x.jseq == r.jseq) (fun x => { x with retired := true })
    let t := t.dirRestore r.vol r.blocks
    (t.recUp (fun x => x.jseq == r.jseq) (fun x => { x with retired := false })).retireRec r.jseq) s

/-- Host writes into the window of a reshape mark their new-layout stripes dirty (R349). -/
def State.windowDirty (s : State) (v : Nat) (bs : List Nat) : State :=
  if s.g RB_RS_STAT_STATE ≠ rsNone && s.g RB_RS_STAT_VOL = v then
    let g := s.geo (s.g RB_RS_STAT_SHADOW)
    let ns := (bs.map (fun b => b / atLeast1 (g.k * g.sz))).filter (fun n => s.rb.moved.contains n)
    s.rbU (fun r => { r with dirty := r.dirty ++ (ns.dedup.filter (fun n => !r.dirty.contains n)) })
  else s

/-- The LAST record of a command is durable (R284, R285, R343): its blocks leave the forfeit table, every record of the
command takes part in stripe writes, and older records lose its blocks. -/
def State.lastDurable (s : State) (r : JRec) : State :=
  let group (x : JRec) : Bool := x.jseq == r.jseq || (x.cmd == r.cmd && x.cmd.isSome && x.typ == tData)
  let rs := s.jn.recs.filter group
  let bs := rs.flatMap JRec.blocks
  match s.ftDropAll r.vol bs with
  | none =>
    let s := s.freeze r.vol
    match r.cmd with
    | some id => (s.cutOff id).complete id 0x0102 0
    | none => s
  | some s =>
    let s := s.recUp group (fun x => { x with ready := true })
    let s := s.windowDirty r.vol bs
    let s := s.recUp (fun x => x.typ == tData && x.vol == r.vol && !group x) (fun x =>
      { x with written := x.written ++ (x.blocks.filter (fun b => !x.written.contains b &&
        rs.any (fun y => y.holds r.vol b && decide (x.jseq < y.jseq)))) })
    let s := match r.cmd with
      | some id =>
        let s := s.cmdUp id (fun c => { c with lastDurable := true })
        match (s.cmd id).abort with
        | some st => s.complete id st 1
        | none =>
          if r.fua then s.cmdUp id (fun c => { c with fuaLeft := rs.flatMap (fun (y : JRec) => y.blocks.map (fun b => (y.jseq, b))) })
          else s.complete id 0 0
      | none => s
    s.dataRetire

/-- A record becomes durable (R283 steps 4 and 5). -/
def State.durable (s : State) (c : JRec) : State :=
  let r := { c with durable := true, time := s.now }
  let s := ((s.jnU (fun j => { j with commit := none })).jdWrite (fun x => x.put r)).inc JN_COMMIT_CNT_COUNT
  if r.typ = tPad then s
  else if r.typ = tRetire then s.retired r.rj
  else
    let s := s.jnU (fun j => { j with recs := j.recs ++ [r] })
    if r.typ = tStripe then
      s.arU (fun a => { a with stripes := a.stripes.map (fun (w : StripeWrite) =>
        if w.jseq = r.jseq then { w with going := true } else w) })
    else
      let s := s.dirPut r
      if r.last then s.lastDurable r
      else match r.cmd with
        | some id =>
          match (s.cmd id).abort with
          | some st => (s.cutOff id).complete id st 0
          | none => if (s.cmd id).status.isSome then s.cutOff id else s
        | none => s

/-- A JD acknowledgement after a granted timeout is discarded (R294). -/
def State.dieLateAck (s : State) (d : Nat) : State :=
  let due := if d = 0 then s.jn.dieLate0 else s.jn.dieLate1
  if due then
    let s := s.jnU (fun j => if d = 0 then { j with dieLate0 := false } else { j with dieLate1 := false })
    (s.sat (if d = 0 then JN_LATE_CNT_D0 else JN_LATE_CNT_D1) 1).note JN_STAT_DIE_LATE 0x0702 10 0
  else s

/-- Writes that waited for an earlier command of their SQ are journalled when they may be (R460): their records, formed
at ingress, stand in `held`. The check is the caller's. -/
def State.jnQueue (s : State) (rs : List JRec) : State := s.jnU (fun j => { j with waiting := j.waiting ++ rs })

/-- COMMIT_DURABLE (R283): the commit that runs is acknowledged by the dies in service; `late` names the dies whose
acknowledgement meets a granted timeout. -/
def execCommitDurable (late : BitVec 2) (s : State) : Host.Outcome State Fault Refusal :=
  .next <|
    let s := s.when (late.getLsbD 0) (fun t => t.dieLateAck 0)
    let s := s.when (late.getLsbD 1) (fun t => t.dieLateAck 1)
    match s.jn.commit with
    | none => s
    | some c => if s.anyDie then ((s.durable c).settle).spillStep else s

/-- A JD die fails (R295, R747). -/
def State.dieFail (s : State) (d : Nat) : State :=
  (s.off (if d = 0 then JN_MIRROR_D0_OK else JN_MIRROR_D1_OK)).fault JN_STAT_MIRROR_LOST 10 0 0x0701 0

/-- A resynchronisation ends without result when its good die fails. -/
def State.resyncStop (s : State) : State :=
  if s.anyDie then s else (s.off JN_MIRROR_RESYNC).off JN_MIRROR_PCT

/-- While JN starts, the loss of its last die ends the start-up in OFF (R747). -/
def State.replayLost (s : State) : State :=
  if s.g JN_CTL_STATE = stStarting && !s.anyDie then s.off JN_CTL_STATE else s

/-- JD_ACCESS_TIMEOUT (R294). -/
def execJdAccessTimeout (d : Fin 2) (s : State) : Host.Outcome State Fault Refusal :=
  .next <|
    if s.die d.val then
      let s := s.jnU (fun j => if d.val = 0 then { j with dieLate0 := true } else { j with dieLate1 := true })
      ((s.dieFail d.val).resyncStop).replayLost
    else s

/-- JD_DIE_FAULT (R295). -/
def execJdDieFault (d : Fin 2) (s : State) : Host.Outcome State Fault Refusal :=
  .next (if s.die d.val then ((s.dieFail d.val).resyncStop).replayLost else s)

/-- The tail goes into the older superblock (R292, R293). -/
def State.sbWrite (s : State) : State :=
  if !s.anyDie then s
  else
    let gen := (s.superblock.map (·.gen)).getD 0 + 1
    let b : Superblock := { gen := gen, tailJ := s.tailJ, tailGran := s.tailGran, valid := true }
    (s.jdWrite (fun x => x.sbPut b)).jnU (fun j => { j with freeFrom := b.tailGran })

/-- SUPERBLOCK_WRITE (R292): ring space behind the tail becomes free. -/
def execSuperblockWrite (s : State) : Host.Outcome State Fault Refusal :=
  .next (if s.g JN_CTL_STATE = stOn || s.g JN_CTL_STATE = stStopping then s.sbWrite else s)

/-! JN_CMD (R297, R313, R316). -/

/-- JN_RESYNC (R297). -/
def doJnResync (s : State) : State :=
  if s.g JN_CTL_STATE ≠ stOn then s.p JN_CMD_ERR 2
  else if !s.anyDie then s.p JN_CMD_ERR 3
  else if s.bothDies then s.p JN_CMD_ERR 4
  else ((s.off JN_CMD_ERR).on JN_MIRROR_RESYNC).off JN_MIRROR_PCT
/-- The row of `doJnResync`. -/
def execJnResync (s : State) : Host.Outcome State Fault Refusal := .next (doJnResync s)

/-- JN_RESYNC_DONE (R297): the other die holds what the good one holds. -/
def execJnResyncDone (s : State) : Host.Outcome State Fault Refusal :=
  .next <|
    if s.is JN_MIRROR_RESYNC then
      let good := if s.die 0 then s.jn.jd0 else s.jn.jd1
      let s := ((s.on JN_MIRROR_D0_OK).on JN_MIRROR_D1_OK).off JN_MIRROR_RESYNC
      (s.p JN_MIRROR_PCT 100).jnU (fun j => { j with jd0 := good, jd1 := good })
    else s

/-- JN_FORMAT (R313): accepted in MAINT while JN is OFF; the ring is empty and both superblocks are new. -/
def doJnFormat (s : State) : State :=
  if s.mode ≠ mMaint then s.p JN_CMD_ERR 1
  else if s.g JN_CTL_STATE ≠ stOff then s.p JN_CMD_ERR 2
  else
    let s := s.off JN_CMD_ERR
    let gen := ([s.jn.jd0.sbA, s.jn.jd0.sbB, s.jn.jd1.sbA, s.jn.jd1.sbB].map (·.gen)).foldl max 0
    let sb (g : Nat) : Superblock := { gen := g, tailJ := s.jn.nextJ, tailGran := s.jn.head, valid := true }
    let s := s.jnU (fun j => { j with
      recs := [], waiting := [], commit := none, freeFrom := j.head,
      jd0 := { sbA := sb (gen + 1), sbB := sb (gen + 2) }, jd1 := { sbA := sb (gen + 1), sbB := sb (gen + 2) },
      idx := [], logAt := [], spilling := false, spillJob := none, spillDone := [], redo := [], retiring := [] })
    ((s.arU (fun a => { a with stripes := [], gather := [] })).edSet (s.bm.ed.filter (fun x => decide (x.2.kind = 1)))).copyLost
/-- The row of `doJnFormat`. -/
def execJnFormat (s : State) : Host.Outcome State Fault Refusal := .next (doJnFormat s)

/-! Replay (R311–R314, R747). -/

/-- The record at a granule, valid on some die in service (R280): `next` is the JSEQ of the record after the one before it. A
record copied back keeps the JSEQ it had (DESIGN CHOICE 102). -/
def State.ringRec (s : State) (gran : Nat) (next : Option Nat) : Option JRec :=
  s.dies.findSome? (fun d => (s.jd d).ring.find? (fun r =>
    r.gran == gran && imageOk r.image (if r.back then r.jseq else next.getD r.jseq)))

/-- The scan (R311 steps 2 and 3): the records found from a granule on, where it ends, and the JSEQ that follows. -/
def State.scan (s : State) : Nat → Nat → Option Nat → List JRec × Nat × Option Nat
  | 0, g, next => ([], g, next)
  | f + 1, g, next => match s.ringRec g next with
    | none => ([], g, next)
    | some r =>
      let (l, h, n) := State.scan s f (g + r.len) (if r.back then next else some (r.jseq + 1))
      (r :: l, h, n)

/-- The DATA records whose command's LAST record follows them (R285, R312). Records of one command stand together, by QID, CID and
volume. -/
def markReady (l : List JRec) : List JRec :=
  (l.foldr (fun x (a : List JRec × Option (Nat × Nat × Nat)) =>
    if x.typ = tData && !x.retired then
      let k := (x.qid, x.cid, x.vol)
      let ok := x.last || a.2 == some k
      ({ x with ready := x.ready || ok } :: a.1, if ok then some k else none)
    else (x :: a.1, a.2)) ([], none)).1

/-- The DATA records that a STRIPE record takes blocks from (R289), among `l` in JSEQ order: JSEQ and block. -/
def JRec.resolve (r : JRec) (v : Nat) (l : List JRec) : List (Nat × Nat) :=
  (r.range.filter (fun b => (r.data.find b).isNone)).filterMap (fun b =>
    ((l.filter (fun x => x.holds v b && x.ready && decide (x.jseq < r.jseq))).getLast?).map (fun x => (x.jseq, b)))

/-- The volume of a STRIPE record's slot: a shadow slot's records belong to the volume whose checkpoint record names it. -/
def State.recOwner (s : State) (slot : Nat) : Nat :=
  match s.rb.ck.find? (fun x => x.2.reshape && x.2.shadow == slot) with
  | some (v, _) => v
  | none => s.ownerOf slot

/-- What the records of a scan mean (R289–R291, R312), in JSEQ order: which are retired, which DATA records take part, what each
STRIPE record uses, and which blocks the medium or newer records hold. `kept` are spilled records that the ring no longer holds. -/
def State.recsFound (s : State) (ring kept : List JRec) : List JRec :=
  let dead := ((ring.filter (fun r => r.typ == tRetire)).flatMap (·.rj))
  let ring := ring.map (fun (r : JRec) => { r with
    retired := r.retired || dead.contains r.jseq, ready := false, written := [], cmd := none, time := s.now,
    spill := (List.find? (fun (e : Nat × SpillEnt) => e.2.jseq == r.jseq) s.jn.idx).map (fun (e : Nat × SpillEnt) => e.1) })
  let ring := (ring.zipIdx.filter (fun x => !(ring.drop (x.2 + 1)).any (fun y => y.jseq == x.1.jseq))).map (·.1)
  let l := markReady ((ring ++ (kept.filter (fun (r : JRec) => !ring.any (fun y => y.jseq == r.jseq) && !dead.contains r.jseq)).map (fun (r : JRec) =>
    { r with cmd := none, time := s.now })).mergeSort (fun a b => decide ((a : JRec).jseq ≤ (b : JRec).jseq)))
  let l := l.map (fun (r : JRec) => if r.typ = tStripe then { r with uses := r.resolve (s.recOwner r.vol) l } else r)
  let out (x : JRec) (b : Nat) : Bool :=
    l.any (fun y => y.typ == tStripe && y.retired && y.uses.contains (x.jseq, b)) ||
      l.any (fun z => z.holds x.vol b && z.ready && decide (x.jseq < z.jseq))
  (l.filter (fun r => !r.retired && (r.typ == tData || r.typ == tStripe))).map (fun (x : JRec) =>
    if x.typ = tData then { x with written := x.blocks.filter (fun b => x.written.contains b || out x b) } else x)

/-- A die after the scan: a record valid on the other die only is copied to it (R311 step 2). -/
def DieLog.mend (x : DieLog) (from_ : Nat) (l : List JRec) : DieLog :=
  { x with ring := x.ring.filter (fun y => decide (y.gran + y.len ≤ from_)) ++ l }

/-- Start-up that found its superblock (R311 steps 2 to 5, R312): the scan, records lost on both copies, torn writes retired,
the directory built. -/
def State.replay (s : State) (ce : Nat) (lost : List (Nat × Bool)) : State :=
  match s.superblock with
  | none => s
  | some sb =>
    let back := s.dies.any (fun d => (s.jd d).ring.any (fun r => r.gran == sb.tailGran && r.back))
    let (l, h, n) := s.scan (s.jn.jd0.ring.length + s.jn.jd1.ring.length) sb.tailGran (if back then none else some sb.tailJ)
    let kept := s.jn.recs.filter (fun r => r.spill.isSome && !r.retired && s.jn.idx.any (fun e => e.2.jseq == r.jseq))
    let recs := s.recsFound l kept
    let s := (s.spillSet none).jdWrite (fun x => x.mend sb.tailGran l)
    let s := s.jnU (fun j => { j with
      waiting := [], commit := none, retiring := [], spilling := false, recs := recs, head := h, nextJ := n.getD j.nextJ,
      freeFrom := sb.tailGran, idx := j.idx.filter (fun e => recs.any (fun r => r.jseq == e.2.jseq)) })
    let s := s.jdRead ce lost
    let torn := s.jn.recs.filter (fun r => r.typ == tData && !r.ready)
    let n := s.jn.recs.length
    let s := State.each torn (fun r t => t.retireRec r.jseq) s
    let s := s.edSet (s.bm.ed.filter (fun x => decide (x.2.kind = 1)))
    let s := State.each (s.jn.recs.filter (fun r => r.typ == tData && r.ready)) (fun r t => t.dirPut r) s
    let s := s.jnU (fun j => { j with redo := (j.recs.filter (fun r => r.typ == tStripe)).map (·.jseq) })
    let s := (s.p JN_REPLAY_RECS (min 65535 n)).p JN_REPLAY_TORN (min 255 torn.length)
    let s := s.when (!torn.isEmpty) (fun t => t.note JN_STAT_TORN 0x070B 10 0)
    let s := (s.p JN_REPLAY_PHASE 4).p JN_CTL_STATE (if s.is JN_CTL_EN then stOn else stStopping)
    s.replayDone

end Sys2Proof.Machine
end

