-- ==== Sys2Proof/Machine/Array.lean ====
section
/-! DEFINITION. Machine/Array.lean: volumes and their checks (R237–R245, R326), stripe writes (R251–R257, R745), the
member timers, the parity engine (R267–R272), and the meanings of the commands of that chapter. -/

namespace Sys2Proof.Machine

open Reg

/-! Volumes. -/

/-- The check of R245 that a volume's registers fail first; 0 none. `skip7` leaves the overlap check out (R346). -/
def State.volCheck (s : State) (v : Nat) (skip7 : Bool) : Nat :=
  let g := s.geo v
  let lg := s.g (AR_VOL_GEOM_SLOG2 v)
  let pats := upTo g.patCnt
  if g.k < 1 || g.k > 20 || g.p > 4 || g.w > 24 || lg < 4 || lg > 8 || g.rows = 0 || (g.p = 0 && g.cls ≠ 0) then 1
  else if g.m < g.w || g.set.any (fun m => s.mem m == memAbsent) then 2
  else if g.patCnt < 1 || g.patCnt > 64 || g.patBase + g.patCnt > 1024 then 3
  else if pats.any (fun r =>
      let l := (upTo g.m).map (fun p => s.member g r p)
      !(l.Nodup ∧ l.all (fun m => g.set.contains m))) then 4
  else if pats.any (fun r => (upTo g.q).any (fun i =>
      !classOk g.cls g.p ((upTo g.w).map (fun j => s.member g r (i * g.w + j))))) then 5
  else if g.set.any (fun m => decide (g.base + g.rows * g.sz > s.mblks m)) then 6
  else if !skip7 && (upTo 64).any (fun x =>
      let h := s.geo x
      x ≠ v && s.g (AR_VOL_CTL_STATE x) ≠ stOff && g.set.any (fun m => h.set.contains m) &&
        decide (g.base < h.base + h.rows * h.sz) && decide (h.base < g.base + g.rows * g.sz)) then 7
  else if g.cap > 2 ^ 40 then 8
  else 0

/-- The geometry check of a volume (R324). -/
def State.geomCrc (s : State) (v : Nat) : Nat :=
  let (n, b) := s.geomBytes v
  Code.crc32c n b

/-- AR_VOL_CAP shows the capacity (R242). -/
def State.showCap (s : State) (v : Nat) : State :=
  let c := (s.geo v).cap
  ((s.p (AR_VOL_CAP_LO_CAP v) c).p (AR_VOL_CAP_HI_CAP v) (c / 2 ^ 32)).p (AR_VOL_CAP_HI_CAP40 v) (b2n (decide (c = 2 ^ 40)))

/-- A record's pass runs on from its cursor (R328, R748). -/
def State.passResume (s : State) (v : Nat) : State :=
  let c := s.rb.ck.getD v {}
  if c.pass then (s.p (RB_CURSOR_ROW v) c.cursor).setActiveVol v true else s

/-- The reshape state of a record (R326, R748). -/
def State.rsRestore (s : State) (v : Nat) (st : Nat) : State :=
  let c := s.rb.ck.getD v {}
  (((s.p RB_RS_STAT_VOL v).p RB_RS_STAT_SHADOW c.shadow).p RB_RS_STAT_STATE st).setMark c.mark

/-- What a volume's checkpoint record restores at its enable (R325, R326). -/
def State.volRestore (s : State) (v : Nat) : State :=
  if !s.rbOn then s
  else
    let crc := s.geomCrc v
    let fresh (t : State) : State :=
      let l := ((t.geo v).set.filter (fun m => t.mem m == memFailed)).take 4
      let t := t.setFail v l
      t.ckPut v (fun _ => { gen := (t.rb.ck.getD v {}).gen, fail := failWord l, geomCrc := crc })
    match s.rb.ck.find v with
    | none => fresh s
    | some c =>
      if c.geomCrc = crc then
        let l := (upTo 4).filterMap (fun i => let m := bitsOf c.fail (8 * i) 7; if m = 0x7F then none else some m)
        let s := (s.setFail v l).p (RB_CURSOR_ROW v) c.cursor
        let (f, i) := volBit RB_FROZEN_LO_VOLS RB_FROZEN_HI_VOLS v
        let s := s.when c.frozen (fun t => t.onBit f i)
        let s := s.when c.reshape (fun t => t.rsRestore v (if c.paused then rsPaused else rsRun))
        s.passResume v
      else if c.reshape && c.newCrc ≠ crc then
        let s := (s.rsRestore v rsWait).rbU (fun r => { r with wait := setBit r.wait v })
        s.note RB_STAT_RS_WAIT 0x0808 12 0
      else fresh s

/-- The start-up of a volume ends (R245): in ON, or in OFF at the first check that fails. -/
def State.volStart (s : State) (v : Nat) : State :=
  let why := s.volCheck v false
  let s := s.arU (fun a => { a with failKept := a.failKept.drop v })
  if why = 0 then
    let s := ((s.p (AR_VOL_CTL_STATE v) stOn).off (AR_VOL_STAT_CFG_WHY v)).showCap v
    ((s.volRestore v).spillCheck).classNote v
  else
    let s := ((s.p (AR_VOL_CTL_STATE v) stOff).on (AR_VOL_STAT_CFG_BAD v)).p (AR_VOL_STAT_CFG_WHY v) why
    s.note AR_STAT_CFG_BAD 0x0606 11 (pk [(v, 6), (why, 3)])

/-- A journal record that holds a block of the volume is unretired (R240, R746). -/
def State.volRecs (s : State) (v : Nat) : Bool := s.jn.recs.any (fun r => r.vol == v && !r.retired) ||
  s.jn.waiting.any (fun r => r.vol == v && decide (r.typ ≤ 2)) || (match s.jn.commit with
    | some r => r.vol == v && decide (r.typ ≤ 2)
    | none => false)

/-- A volume reaches OFF (T3): its failure list clears (R273), and is kept for the stripe writes that go on (R746). -/
def State.volStop (s : State) (v : Nat) : State :=
  let s := if s.volRecs v then s.arU (fun a => { a with failKept := a.failKept.ins v (s.failList v) }) else s
  let s := (s.setFail v []).arU (fun a => { a with classDone := clrBit a.classDone v })
  (s.p (AR_VOL_CTL_STATE v) stOff).setActiveVol v false

/-- The geometry registers of a volume take writes (R240, R346). -/
def State.geomWritable (s : State) (v : Nat) : Bool :=
  decide (s.g (AR_VOL_CTL_STATE v) = stOff) && !s.volRecs v &&
    !(decide (s.g RB_RS_STAT_STATE ≠ rsNone) && decide (s.g RB_RS_STAT_SHADOW = v))

/-! Patterns (R273). -/

/-- A volume not in STATE OFF uses the pattern, or one whose stripe writes go on after it (R273, R746). -/
def State.patBusy (s : State) (pat : Nat) : Bool :=
  (upTo 64).any (fun v =>
    let b := s.g (AR_VOL_PAT_BASE v)
    (s.g (AR_VOL_CTL_STATE v) ≠ stOff || s.volRecs v) && decide (b ≤ pat) && decide (pat < b + s.g (AR_VOL_PAT_CNT v)))

/-- Four member bytes of a pattern. -/
def State.patWord (s : State) (pat word : Nat) : Nat := pk ((upTo 4).map (fun b => (s.patAt pat (4 * word + b), 8)))

def State.patPut (s : State) (pat word v : Nat) : State :=
  s.arU (fun a => { a with pat := (upTo 4).foldl (fun t b => t.putD (96 * pat + 4 * word + b) 0xFF (bitsOf v (8 * b) 8)) a.pat })

/-- PATTERN_DATA_ACCESS (R273): a read, or a write of a word; AR_PAT_ADDR advances. -/
def State.patAccess (s : State) (write : Option Nat) : State :=
  let w := s.g AR_PAT_ADDR_WORD
  let p := s.g AR_PAT_ADDR_PATTERN
  if w ≥ 24 then (match write with
    | none => { s with rdata := 0 }
    | some _ => s)
  else
    let s := match write with
      | none => { s with rdata := BitVec.ofNat 32 (s.patWord p w) }
      | some v => if s.patBusy p then s else s.patPut p w v
    if w = 23 then (s.off AR_PAT_ADDR_WORD).p AR_PAT_ADDR_PATTERN (p + 1) else s.p AR_PAT_ADDR_WORD (w + 1)

def execPatternDataAccess (write : Option Word) (s : State) : Host.Outcome State Fault Refusal :=
  .next (s.patAccess (write.map (·.toNat)))

/-! Stripe writes. -/

/-- The block of a position at an offset, where a list of blocks by data strip gives the data. -/
def posBlock (k pos : Nat) (d : List Nat) : Nat := if pos < k then d.getD pos 0 else parityBlock (pos - k) d

/-- The strips of a stripe write (R251, R253): every position whose member can take it, or for which it is held. `data`
gives the block of data strip j at offset u, and whether it is written where the volume has no parity. -/
def State.stripsOf (s : State) (slot : Nat) (stripe u0 u1 : Nat) (data : Nat → Nat → Nat) (touched : Nat → Nat → Bool) : List Strip :=
  let g := s.geo slot
  let row := stripe / atLeast1 g.q
  let us := (upTo (u1 + 1 - u0)).map (fun i => u0 + i)
  (upTo g.w).filterMap (fun pos =>
    let m := s.member g row ((stripe % atLeast1 g.q) * g.w + pos)
    let mine := if g.p = 0 then us.filter (fun u => touched pos u) else us
    let blocks : Tbl Nat := mine.map (fun u => (u, posBlock g.k pos ((upTo g.k).map (fun j => data j u))))
    let strip (x : Nat) (held : Bool) : Strip := { pos := pos, member := x, mba := g.base + row * g.sz, blocks := blocks, held := held }
    if mine.isEmpty then none
    else if s.mem m = memAvailable then some (strip m false)
    else if s.mem m = memUnavailable || s.mem m = memCatchup then some (strip m true)
    else if s.mem m = memFailed then (s.spareOf (s.ownerOf slot) g row m).map (fun x => strip x false)
    else none)

/-- The write-back deadline of a stripe write (R462): from the newest DATA record it takes blocks from. -/
def State.wbDeadline (s : State) (uses : List (Nat × Nat)) : Nat :=
  (uses.filterMap (fun u => (s.jRec u.1).map (·.time))).foldl max 0 + 10000000 * atLeast1 (s.g CM_CFG_WB_DL)

/-- A stripe write of these blocks is verified (R143, R286): a record it takes blocks from is force-to-medium, or a command waits
for one of them. -/
def State.mustVerify (s : State) (v : Nat) (uses : List (Nat × Nat)) : Bool :=
  uses.any (fun u => match s.jRec u.1 with
    | some r => r.fua
    | none => false) ||
  s.cm.table.any (fun x => x.2.vol == v && x.2.fuaLeft.any (fun f => uses.any (fun u => u.2 == f.2)))

/-- A stripe write starts (R251, R252, R288): it takes the next WSEQ, its STRIPE record waits for its commit, and its
strips follow. Blocks of the range come from the newest DATA records that take part; those that none holds come from
`cur`, the medium's current data; a block that neither gives is lost (R745) and taken as zero. A volume without parity
reads no unchanged block; a reshape move (cause 4) carries every block (R348). -/
def State.stripeStart (s : State) (slot stripe u0 u1 : Nat) (cur : Tbl Nat) (cause : Nat) : State :=
  let g := s.geo slot
  let v := s.ownerOf slot
  let us := (upTo (u1 + 1 - u0)).map (fun i => u0 + i)
  let src (j u : Nat) : Option JRec := s.jNewest v (g.blockAt stripe j u) (fun r => r.ready)
  let cells := (upTo g.k).flatMap (fun j => us.map (fun u => (j, u)))
  let uses := cells.filterMap (fun c => (src c.1 c.2).map (fun r => (r.jseq, g.blockAt stripe c.1 c.2)))
  let data (j u : Nat) : Nat :=
    let b := g.blockAt stripe j u
    match src j u with
    | some r => r.at_ b
    | none => cur.getD b 0
  let all := decide (g.p ≠ 0) || cause == 4
  let carried := if all then (cells.filter (fun c => (src c.1 c.2).isNone)).map (fun c => g.blockAt stripe c.1 c.2) else []
  let lost := carried.filter (fun b => (cur.find b).isNone)
  let s := s.forfeit v cause (if (s.geo v).p = 0 then [] else lost)
  let s := s.when (!lost.isEmpty && cause == 5) (fun t => t.forfeitEvent)
  let s := s.inc AR_WSEQ_SEQ
  let n := s.g AR_WSEQ_SEQ
  let r : JRec := {
    typ := tStripe, len := stripeLen g.k (u1 + 1 - u0) carried.length, vol := slot, stripe := stripe, u0 := u0,
    u1 := u1, wseq := n, k := g.k, p := g.p, sz := g.sz, uses := uses, data := carried.map (fun b => (b, cur.getD b 0)) }
  let w : StripeWrite := {
    vol := slot, stripe := stripe, u0 := u0, u1 := u1, wseq := n, jseq := 0,
    verify := s.mustVerify v uses,
    strips := s.stripsOf slot stripe u0 u1 data (fun j u => all || (src j u).isSome),
    deadline := s.wbDeadline uses }
  ((s.jnQueue [r]).arU (fun a => { a with stripes := a.stripes ++ [w] })).rbU (fun x => { x with
    claims := if x.claims.contains (slot, stripe) then x.claims else x.claims ++ [(slot, stripe)] })

/-- A DATA record of the stripe is on its way to the journal, or its command's LAST record is: the STRIPE record would not come after
them (R289). -/
def State.stripeComing (s : State) (slot stripe : Nat) : Bool :=
  let g := s.geo slot
  let v := s.ownerOf slot
  let hit (r : JRec) : Bool := r.typ == tData && r.vol == v && r.blocks.any (fun b => b / atLeast1 (g.k * g.sz) == stripe)
  s.jn.waiting.any hit || s.jn.recs.any (fun r => hit r && !r.ready && !r.retired) || (match s.jn.commit with
    | some r => hit r
    | none => false)

/-- A stripe write is made again from its STRIPE record (R311 step 6, R315): the blocks it does not carry come from the DATA
records of R289. -/
def State.stripeAgain (s : State) (r : JRec) : State :=
  let v := s.ownerOf r.vol
  let g := s.geo r.vol
  let uses := r.resolve v (s.jn.recs.filter (fun x => !x.retired))
  let src (j u : Nat) : Option JRec :=
    (uses.find? (fun y => y.2 == g.blockAt r.stripe j u)).bind (fun y => s.jRec y.1)
  let data (j u : Nat) : Nat :=
    let b := g.blockAt r.stripe j u
    match r.data.find b with
    | some d => d
    | none => match src j u with
      | some x => x.at_ b
      | none => 0
  let w : StripeWrite := {
    vol := r.vol, stripe := r.stripe, u0 := r.u0, u1 := r.u1, wseq := r.wseq, jseq := r.jseq,
    going := true, verify := s.mustVerify v uses, strips := s.stripsOf r.vol r.stripe r.u0 r.u1 data (fun j u =>
      (src j u).isSome || (r.data.find (g.blockAt r.stripe j u)).isSome),
    deadline := s.now + 10000000 * atLeast1 (s.g CM_CFG_WB_DL) }
  ((s.recUp (fun x => x.jseq == r.jseq) (fun x => { x with uses := uses })).arU (fun a => { a with stripes := a.stripes ++ [w] })).rbU (fun x => { x with
    claims := if x.claims.contains (r.vol, r.stripe) then x.claims else x.claims ++ [(r.vol, r.stripe)] })

/-- A stripe write whose strips are all written retires (R253, R290). -/
def State.stripeCheck (s : State) : State :=
  State.each (s.ar.stripes.filter (fun w => w.going && w.strips.isEmpty)) (fun w t =>
    ((t.arU (fun a => { a with stripes := a.stripes.filter (fun x => x.jseq ≠ w.jseq) })).rbU (fun x => { x with
      claims := x.claims.filter (fun c => c ≠ (w.vol, w.stripe)) })).retireRec w.jseq) s

/-- Unretired STRIPE records without a stripe write are written again once JN and AR are ON. -/
def State.stripesAgain (s : State) : State :=
  if s.g AR_CTL_STATE = stOn && s.g JN_CTL_STATE = stOn then
    (State.each (s.jn.recs.filter (fun r => r.typ == tStripe && !r.retired && !s.jn.retiring.contains r.jseq &&
      !s.ar.stripes.any (fun w => w.jseq == r.jseq))) (fun r t => t.stripeAgain r) s).stripeCheck
  else s

/-- The slow-member timers of a member's operation at an MBA end (R317); true where its expiry had been granted, and the
outcome is discarded (R320). -/
def State.slowEnd (s : State) (m mba : Nat) : Bool × State :=
  let late := s.rb.slow.any (fun t => t.member == m && t.mba == mba && t.granted)
  let s := s.rbU (fun r => { r with slow := r.slow.filter (fun t => !(t.member == m && t.mba == mba)) })
  (late, if late then (s.sat RB_LATE_CNT_COUNT 1).note RB_STAT_LATE 0x0802 12 0 else s)

/-- A slow-member timer is armed when the seek for an operation starts (R317). -/
def State.slowArm (s : State) (m mba : Nat) : State :=
  if s.mem m ≠ memAvailable || s.g RB_CTL_STATE = stOff || s.rb.slow.any (fun t => t.member == m && t.mba == mba && !t.granted) then s
  else s.rbU (fun r => { r with slow := r.slow ++ [{ member := m, mba := mba }] })

/-- Catch-up of a member has written its last held strip (R257). -/
def State.catchupDone (s : State) (m : Nat) : State :=
  if s.mem m = memCatchup && !s.heldFor m then s.memberIn m else s

/-- A strip may be written now: its member is AVAILABLE, or in CATCHUP and this is the oldest strip held for it. -/
def State.stripTurn (s : State) (w : StripeWrite) (m : Nat) : Bool :=
  w.going && (s.mem m == memAvailable || (s.mem m == memCatchup &&
    !s.ar.stripes.any (fun y => y.jseq < w.jseq && y.going && y.strips.any (fun x => x.member == m))))

/-- STRIP_WRITE_DONE (R253, R254, R257, R259): the strip of a stripe write on a member ends: every sector of it stands written
(and verified where a verify is due), or one was reported failed under R142 and the strip is issued again. -/
def execStripWriteDone (jseq : BitVec 64) (member : Fin 96) (s : State) : Host.Outcome State Fault Refusal :=
  .next <|
    let m := member.val
    match s.ar.stripes.find? (fun w => w.jseq == jseq.toNat && w.strips.any (fun x => x.member == m)) with
    | none =>
      let (_, s) := if s.rb.slow.any (fun t => t.member == m && t.granted) then
          s.slowEnd m (((s.rb.slow.find? (fun t => t.member == m && t.granted)).map (·.mba)).getD 0)
        else (false, s)
      if s.mem m = memFailed && s.ar.causes.getD m 0 = 0 then s.memberLate m else s
    | some w =>
      let mine := w.strips.filter (fun x => x.member == m)
      if !s.stripTurn w m then s
      else if mine.any (fun x => x.bad) then
        let s := s.arU (fun a => { a with stripes := a.stripes.map (fun (x : StripeWrite) =>
          if x.jseq = w.jseq then { x with strips := x.strips.map (fun y => if y.member = m then { y with bad := false, done := [] } else y) }
          else x) })
        let ids := (s.cm.table.filter (fun x => !x.2.fuaLeft.isEmpty && x.2.vol == s.ownerOf w.vol &&
          (match s.jRec w.jseq with
            | some r => x.2.fuaLeft.any r.writes
            | none => false))).map (·.1)
        State.each ids (fun id t => t.complete id 0x0103 0) s
      else if mine.all (fun x => x.blocks.all (fun b => x.done.contains b.1)) then
        let mba := (s.geo w.vol).base + w.stripe / atLeast1 (s.geo w.vol).q * (s.geo w.vol).sz + w.u0
        let (_, s) := s.slowEnd m mba
        let s := s.arU (fun a => { a with stripes := a.stripes.map (fun (x : StripeWrite) =>
          if x.jseq = w.jseq then { x with strips := x.strips.filter (fun y => y.member ≠ m) } else x) })
        ((s.stripeCheck.catchupDone m).settle).spillStep
      else s

/-! The parity engine. -/

/-- A submission (R272): discarded on a full queue, or while AR is not ON. -/
def State.peSubmit (s : State) (addr : Nat) (ctx : Option Nat) (cmd : Nat) (slice : Option (Nat × Nat)) : Bool × State :=
  if s.g AR_CTL_STATE ≠ stOn || s.ar.pe.length ≥ 65 then (false, s.on AR_STAT_PE_OVF)
  else
    let s := s.arU (fun a => { a with pe := a.pe ++ [{ desc := s.bRd addr 32, addr := addr, ctx := ctx, cmd := cmd, slice := slice }] })
    (true, (s.p AR_PE_STAT_FREE (64 - (s.ar.pe.length - 1))).on AR_PE_STAT_BUSY)

/-- PARITY_JOB_SUBMIT (R272): a write of AR_PE_SUB_HI. -/
def execParityJobSubmit (hi : Word) (s : State) : Host.Outcome State Fault Refusal :=
  .next <|
    let s := s.wr AR_PE_SUB_HI hi
    (s.peSubmit (s.pair AR_PE_SUB_LO AR_PE_SUB_HI / 32 * 32) none 0 none).2

/-- A block is written poisoned: every check bit of its words inverted (R271, R534). -/
def State.poisonBlock (s : State) (a : Nat) : State :=
  State.each (upTo 512) (fun i t => t.bSetErr (a + 8 * i) eccPoison) s

/-- A customer job's addresses lie in its slice (R580): LIST and every buffer it names. -/
def State.peInSlice (s : State) (d base size : Nat) : Bool :=
  let ok (o len : Nat) : Bool := decide (o < size) && decide (o + len ≤ size)
  let list := bitsOf d 128 64
  let m := bitsOf d 8 8 + bitsOf d 16 8
  ok list (8 * m) && (upTo m).all (fun i => ok (s.bRd (base + list + 8 * i) 8) (4096 * bitsOf d 64 16))

/-- RESULT, FIRST_BLK and PMASK of a job, and the state with its output written (R267–R271). LIST and what it names are
offsets from `base`. -/
def State.peRun (s : State) (d base : Nat) (okSlice : Bool) : Nat × Nat × Nat × State :=
  let op := bitsOf d 0 4
  let k := bitsOf d 8 8
  let p := bitsOf d 16 8
  let mask := bitsOf d 32 24
  let n := bitsOf d 64 16
  let list := base + bitsOf d 128 64
  let at_ (pos b : Nat) : Nat := base + s.bRd (list + 8 * pos) 8 + 4096 * b
  if op < 1 || op > 3 || k < 1 || k > 20 || p > 4 || (op ≠ 1 && p = 0) || n < 1 || n > 256 || !okSlice then (3, 0xFFFF, 0, s)
  else if op = 2 && (popCount mask 24 > p || (upTo 24).any (fun i => decide (i ≥ k + p) && bitOf mask i = 1)) then (4, 0xFFFF, 0, s)
  else
    let out := if op = 2 then (upTo (k + p)).filter (fun i => bitOf mask i = 1) else if op = 1 then (upTo p).map (fun i => k + i) else []
    let inp := if op = 2 then ((upTo (k + p)).filter (fun i => bitOf mask i = 0)).take k
      else if op = 1 then upTo k else upTo (k + p)
    let bad (b : Nat) : Bool := inp.any (fun pos => s.bBad (at_ pos b) 4096)
    let val (b pos : Nat) : Nat :=
      if op = 2 then rebuildBlock k (inp.map (fun x => (x, s.bRd (at_ x b) 4096))) pos
      else parityBlock (pos - k) ((upTo k).map (fun j => s.bRd (at_ j b) 4096))
    let s1 := State.each (upTo n) (fun b t => State.each out (fun pos u =>
      let u := u.bWr (at_ pos b) 4096 (val b pos)
      if bad b then u.poisonBlock (at_ pos b) else u) t) s
    let miss (b i : Nat) : Bool := op == 3 && decide (s.bRd (at_ (k + i) b) 4096 ≠ val b (k + i))
    let firstBad := ((upTo n).find? (fun b => bad b || (upTo p).any (fun i => miss b i))).getD 0xFFFF
    let pm := (upTo p).foldl (fun m i => if (upTo n).any (fun b => miss b i) then m + 2 ^ i else m) 0
    if (upTo n).any bad then (2, firstBad, pm, s1)
    else if pm ≠ 0 then (1, firstBad, pm, s1)
    else (0, firstBad, pm, s1)

/-- The oldest job ends (R270): its status record is written, and the context that submitted it is signalled. -/
def State.peDone (s : State) : State :=
  match s.ar.pe with
  | [] => s
  | j :: rest =>
    let base := (j.slice.map (·.1)).getD 0
    let okSlice := match j.slice with
      | some (b, z) => s.peInSlice j.desc b z
      | none => true
    let (res, fst_, pm, s) := s.peRun j.desc base okSlice
    let stat := bitsOf j.desc 192 64
    let noStat := match j.slice with
      | some (_, z) => decide (stat + 16 > z)
      | none => false
    let s := if noStat then s else s.bWr (base + stat) 16 (pk [(bitsOf j.desc 96 32, 32), (res, 8), (0, 8), (fst_, 16), (pm, 4)])
    let s := s.arU (fun a => { a with pe := rest })
    let s := (s.p AR_PE_STAT_FREE (64 - (rest.length - 1))).p AR_PE_STAT_BUSY (b2n (!rest.isEmpty))
    let s := match j.ctx with
      | some n => s.mcU (fun m =>
        let c := m.ctx.getD n {}
        if c.st ≠ 0 && c.cmd = j.cmd then
          { m with ctx := m.ctx.putD n {} { c with jobs := c.jobs - 1, jobRes := c.jobRes ++ [decide (res ≠ 0)] } }
        else m)
      | none => s
    s.when (decide (res = 2)) (fun t => t.fault AR_STAT_PE_POISON 11 6 0x0607 0)

/-! JN start-up and AR. -/

/-- JN_REPLAY (R311, R313, R747): `dies` the dies found in service, `sb` whether some superblock is valid on either, and
the JSEQs of records uncorrectable on every copy, each with whether the blocks a STRIPE record carried can all be read. -/
def execJnReplay (dies : BitVec 2) (sb : Bool) (ce : Nat) (lost : List (Nat × Bool)) (s : State) : Host.Outcome State Fault Refusal :=
  .next <|
    if s.g JN_CTL_STATE ≠ stStarting then s
    else
      let s := ((s.p JN_REPLAY_PHASE 1).p JN_MIRROR_D0_OK (b2n (dies.getLsbD 0))).p JN_MIRROR_D1_OK (b2n (dies.getLsbD 1))
      let s := s.when (!dies.getLsbD 0) (fun t => t.dieFail 0)
      let s := s.when (!dies.getLsbD 1) (fun t => t.dieFail 1)
      if dies = 0 then s.off JN_CTL_STATE
      else if !sb || s.superblock.isNone then
        (s.off JN_CTL_STATE).fault JN_STAT_SB_BAD 10 9 0x0709 0
      else ((s.replay ce lost).spillCheck).stripesAgain

end Sys2Proof.Machine
end

