-- ==== Sys2Proof/Machine/Image.lean ====
section
/-! DEFINITION. Machine/Image.lean: SHA-256 (FIPS 180-4), and the checks of firmware images (R694–R696) and of customer
images (R592, R594). A byte string is a number, byte 0 in bits 7:0. -/

namespace Sys2Proof.Machine.Image

open Sys2Proof Machine

/-! SHA-256 over whole numbers: the constants are computed from the primes that FIPS 180-4 takes them from, the eight
working variables stand in one 256-bit number (the first in its top word), and the message schedule is a window of sixteen
words that slides by one word a round (the word in use in its bottom word). -/

/-- The largest x with x^e at most `n`, found bit by bit from bit `k` - 1 down, starting at `x`. -/
def rootFrom (e n : Nat) : Nat → Nat → Nat
  | 0, x => x
  | k + 1, x => rootFrom e n k (if (x + 2 ^ k) ^ e ≤ n then x + 2 ^ k else x)

/-- The first 32 bits of the fraction of the e-th root of `p`. -/
def rootFrac (e p : Nat) : Nat := rootFrom e (p * 2 ^ (32 * e)) 38 0 % 2 ^ 32

/-- The first 64 primes: 311 is the 64th. -/
def primes : List Nat := (upTo 312).filter (fun n => decide (2 ≤ n) && (upTo n).all (fun d => decide (d ≤ 1) || decide (n % d ≠ 0)))

/-- The round constants: cube roots of the first 64 primes. -/
def roundKeys : List Nat := primes.map (rootFrac 3)

/-- A number from words, the first word at the top. -/
def topFirst (l : List Nat) : Nat := l.foldl (fun acc x => acc * 2 ^ 32 + x) 0

/-- The chaining value before the first block: square roots of the first 8 primes. -/
def chain0 : Nat := topFirst ((primes.take 8).map (rootFrac 2))

/-- Three rotations to the right of a word, xored. -/
def turn3 (x i j k : Nat) : Nat :=
  let d := x + x * 2 ^ 32
  (d / 2 ^ i ^^^ d / 2 ^ j ^^^ d / 2 ^ k) % 2 ^ 32

/-- Two rotations and one shift to the right of a word, xored. -/
def turn2 (x i j k : Nat) : Nat :=
  let d := x + x * 2 ^ 32
  (d / 2 ^ i ^^^ d / 2 ^ j) % 2 ^ 32 ^^^ x / 2 ^ k

/-- The window one round on: its bottom word leaves, and the word it makes with words 1, 9 and 14 enters at the top. -/
def slide (w : Nat) : Nat :=
  let enters := bitsOf w 0 32 + turn2 (bitsOf w 32 32) 7 18 3 + bitsOf w 288 32 + turn2 (bitsOf w 448 32) 17 19 10
  w / 2 ^ 32 + enters % 2 ^ 32 * 2 ^ 480

/-- The working variables one round on, `kw` the round constant plus the schedule word: all move one word down, the fifth
takes the fourth's value plus the round's sum, and a new first enters at the top. -/
def stir (v kw : Nat) : Nat :=
  let a := bitsOf v 224 32
  let e := bitsOf v 96 32
  let pick := bitsOf v 32 32 ^^^ (e &&& (bitsOf v 64 32 ^^^ bitsOf v 32 32))
  let most := (a &&& (bitsOf v 192 32 ||| bitsOf v 160 32)) ||| (bitsOf v 192 32 &&& bitsOf v 160 32)
  let sum := bitsOf v 0 32 + turn3 e 6 11 25 + pick + kw
  (sum + turn3 a 2 13 22 + most) % 2 ^ 32 * 2 ^ 224 + v / 2 ^ 160 % 2 ^ 96 * 2 ^ 128 +
    (bitsOf v 128 32 + sum) % 2 ^ 32 * 2 ^ 96 + v / 2 ^ 32 % 2 ^ 96

/-- A block of sixteen words, given as its first window, taken into the chaining value. -/
def absorb (h w : Nat) : Nat :=
  let v := (roundKeys.foldl (fun (x : Nat × Nat) k => (stir x.1 (k + bitsOf x.2 0 32), slide x.2)) (h, w)).1
  (upTo 8).foldl (fun acc i => acc + (bitsOf h (32 * i) 32 + bitsOf v (32 * i) 32) % 2 ^ 32 * 2 ^ (32 * i)) 0

/-- `n` bytes of a number in the reverse order. -/
def flip : Nat → Nat → Nat
  | 0, _ => 0
  | n + 1, x => x % 256 * 256 ^ n + flip n (x / 256)

/-- SHA-256 of `n` bytes: the message, a byte 0x80, zeros, and its length in bits in the last 8 bytes, most significant
first; the digest's bytes likewise. -/
def sha256 (n data : Nat) : Nat :=
  let blocks := (n + 72) / 64
  let padded := data % 256 ^ n + 0x80 * 256 ^ n + flip 8 (8 * n) * 256 ^ (64 * blocks - 8)
  let window (b : Nat) : Nat := (upTo 16).foldl (fun acc k => acc + flip 4 (bitsOf padded (512 * b + 32 * k) 32) * 2 ^ (32 * k)) 0
  flip 32 ((upTo blocks).foldl (fun h b => absorb h (window b)) chain0)

/-- Bytes `o` to `o + n - 1`. -/
def bytes (b o n : Nat) : Nat := b / 2 ^ (8 * o) % 2 ^ (8 * n)

/-! Firmware images (R694, R695). -/

def svn (h : Nat) : Nat := bytes h 6 1
def vk (h : Nat) : Nat := bytes h 5 1
def fwVer (h : Nat) : Nat := bytes h 8 4
def imgLen (h : Nat) : Nat := bytes h 0x10 4
/-- SHA-256 of the header bytes 0x0000–0x0FFF. -/
def hdrDigest (h : Nat) : Nat := sha256 4096 (bytes h 0 4096)

def stTyp (h i : Nat) : Nat := bytes h (0x40 + 48 * i) 1
def stOfs (h i : Nat) : Nat := bytes h (0x44 + 48 * i) 4
def stLen (h i : Nat) : Nat := bytes h (0x48 + 48 * i) 4
def stHash (h i : Nat) : Nat := bytes h (0x50 + 48 * i) 32

/-- A stage entry is within R694 and R695; `code` is BM_CODE_SIZE in bytes. -/
def stageOk (h i code : Nat) : Bool :=
  let t := stTyp h i
  let n := stLen h i
  let e := bytes h (0x40 + 48 * i) 48
  if t = 0 then decide (e = 0)
  else
    decide (bytes e 1 3 = 0) && decide (bytes e 12 4 = 0) && decide (stOfs h i % 4096 = 0) && decide (stOfs h i ≥ 0x4000) &&
      decide (stOfs h i + n ≤ imgLen h) &&
      (if t = 1 then decide (4096 ≤ n) && decide (n ≤ 262144)
       else if t = 2 then decide (4096 ≤ n) && decide (n ≤ min 6291456 code)
       else if t = 3 then decide (n = 92928)
       else if t = 4 then decide (n ≤ 1048576)
       else false)

/-- Check 1 of R696. -/
def layoutOk (h code : Nat) : Bool :=
  let count (t : Nat) : Nat := ((upTo 4).filter (fun i => stTyp h i == t)).length
  decide (bytes h 0 4 = 0x5A484657) && decide (bytes h 4 1 = 1) && decide (vk h ≤ 1) && decide (svn h ≤ 64) &&
    decide (imgLen h ≤ 8388608) &&
    decide (bytes h 7 1 = 0) && decide (bytes h 0xE 2 = 0) && decide (bytes h 0x14 12 = 0) &&
    decide (bytes h 0x100 0xF00 = 0) && decide (bytes h 0x2EB0 0x1150 = 0) && (upTo 4).all (fun i => stageOk h i code) &&
    decide (count 1 = 1) && decide (count 2 = 1) && decide (count 3 = 1) && decide (count 4 ≤ 1)

/-- Checks 1 to 4 of R696: the first that fails, 0 none. -/
def headCheck (h code fuseCnt : Nat) (revoked : Bool) : Nat :=
  if !layoutOk h code then 1
  else if sha256 32 (bytes h 0x20 32) ≠ (Config.vkDigest (vk h)).toNat || (vk h = 0 && revoked) then 2
  else if !Config.slhVerify (bytes h 0x20 32) (bytes h 0x1000 7856) (bytes h 0 4096) then 3
  else if svn h < fuseCnt then 4
  else 0

/-! Microwords and nanowords (R569, R573). -/

def mwSeq (w : Nat) : Nat := bitsOf w 25 3
def mwNano (w : Nat) : Nat := bitsOf w 14 11
def mwTarget (w : Nat) : Nat := bitsOf w 0 14

def nwMem (w : Nat) : Nat := bitsOf w 161 4
def nwUnit (w : Nat) : Nat := bitsOf w 154 4

/-! Customer images (R592, R594). -/

def cuMicro (b i : Nat) : Nat := bytes b (0x1000 + 4 * i) 4 % 2 ^ 28
def cuNano (b i : Nat) : Nat := bytes b (0x5000 + 24 * i) 24
def cuDisp (b i : Nat) : Nat := bytes b (0x7000 + 4 * i) 4
def cuKey (b : Nat) : Nat := bytes b 6 1

/-- A microword of the customer region meets R577. -/
def microOk (b w : Nat) : Bool :=
  let q := mwSeq w
  let t := mwTarget w
  let n := cuNano b (mwNano w - 0x700)
  w = 0 || (decide (0x700 ≤ mwNano w) &&
    (if q = 1 || q = 2 then decide (0x3000 ≤ t)
     else if q = 3 then decide (0x3000 ≤ t) || (decide (0x0F00 ≤ t) && decide (t ≤ 0x0F3F))
     else true) &&
    decide (nwMem n ≤ 4) && decide (nwUnit n ≤ 7))

def dispOk (e : Nat) : Bool :=
  if bitOf e 14 = 1 then decide (0x3000 ≤ bitsOf e 0 14) && decide (bitOf e 16 = 0) && decide (bitOf e 17 = 1)
  else decide (e = 0)

/-- Checks 2 to 7 of R594, as a start-up repeats them (R596): the first that fails, 0 none. -/
def custCheck2 (b major minor : Nat) (key : Option Nat) : Nat :=
  if bytes b 5 1 ≠ major || bytes b 4 1 > minor then 2
  else match key with
    | none => 3
    | some pkey =>
      if !Config.slhVerify pkey (bytes b 0x8000 7856) (bytes b 0 0x8000) then 4
      else if (upTo 4096).any (fun i => !microOk b (cuMicro b i)) then 5
      else if (upTo 256).any (fun i => decide (bitsOf (cuNano b i) 96 53 ≠ 0)) then 6
      else if (upTo 64).any (fun i => !dispOk (cuDisp b i)) then 7
      else 0

/-- The checks of R594 in order. -/
def custCheck (b major minor : Nat) (key : Option Nat) : Nat :=
  if bytes b 0 4 ≠ 0x5A484D43 || bytes b 7 1 ≠ 0 || bytes b 0xC 0xFF4 ≠ 0 || bytes b 0x6800 0x800 ≠ 0 ||
    bytes b 0x7100 0xF00 ≠ 0 || bytes b 0x9EB0 0x150 ≠ 0 then 1
  else custCheck2 b major minor key

end Sys2Proof.Machine.Image
end

