-- ==== Sys2Proof/Machine/Dm.lean ====
section
/-! DEFINITION. Machine/Dm.lean: the DMA engine (R502–R525): channels, bursts and frames, pause, halts, scatter chains, the
host window table and translation faults. -/

namespace Sys2Proof.Machine

open Reg

def spBuf : Nat := 0
def spHost : Nat := 1
def spPer : Nat := 2

def State.dch (s : State) (n : Nat) : DmChan := s.dm.ch.getD n {}
def State.dchUp (s : State) (n : Nat) (f : DmChan → DmChan) : State :=
  s.dmU (fun d => { d with ch := d.ch.putD n {} (f (d.ch.getD n {})) })

def State.srcSp (s : State) (n : Nat) : Nat := s.g (DM_CH_CFG_SRC_SP n)
def State.dstSp (s : State) (n : Nat) : Nat := s.g (DM_CH_CFG_DST_SP n)
def State.paced (s : State) (n : Nat) : Bool := s.is (DM_CH_CFG_PACED n)
/-- Bytes of a burst (R527). -/
def State.burst (s : State) (n : Nat) : Nat := 64 * 2 ^ min 6 (s.g (DM_CH_CFG_BURST n))
def State.dsrc (s : State) (n : Nat) : Nat := s.pair (DM_CH_SRC_LO n) (DM_CH_SRC_HI n)
def State.ddst (s : State) (n : Nat) : Nat := s.pair (DM_CH_DST_LO n) (DM_CH_DST_HI n)
def State.dlen (s : State) (n : Nat) : Nat := s.g (DM_CH_LEN_LEN n)
def State.dBusy (s : State) (n : Nat) : Bool := s.is (DM_CH_STAT_BUSY n)

/-- Frames of a channel that await a response; one whose timeout was granted is no longer awaited. -/
def State.dFrames (s : State) (n : Nat) : List (Nat × Nat) :=
  s.lk.txns.filterMap (fun t => match t.req with
    | .dma c o l => if c = n && !t.granted then some (o, l) else none
    | _ => none)

def State.dOutst (s : State) (n : Nat) : State := s.p (DM_CH_STAT_OUTST n) (min 8 (s.dFrames n).length)

/-! Host windows (R517–R519). -/

/-- HWT_DATA_ACCESS (R519, R527): word 3 makes the staged entry take effect. -/
def State.hwtAccess (s : State) (write : Option Nat) : State :=
  let w := s.g DM_HWT_ADDR_WORD
  let i := s.g DM_HWT_ADDR_INDEX
  let s := match write with
    | none => { s with rdata := BitVec.ofNat 32 (s.hwtWord (4 * i + w)) }
    | some v =>
      if w < 3 then s.dmU (fun d => { d with staged := d.staged.ins w v })
      else s.dmU (fun d => { d with
        hwt := (upTo 3).foldl (fun t k => match d.staged.find k with
          | some x => t.ins (4 * i + k) x
          | none => t) (d.hwt.ins (4 * i + 3) v),
        staged := [] })
  let s := s.p DM_HWT_ADDR_WORD (w + 1)
  s.when (decide (w = 3)) (fun t => t.p DM_HWT_ADDR_INDEX (i + 1))

def execHwtDataAccess (write : Option Word) (s : State) : Host.Outcome State Fault Refusal :=
  .next (s.hwtAccess (write.map (·.toNat)))

/-! Halts and releases. -/

/-- HCAUSE codes (R527). -/
def hcPoison : Nat := 1
def hcSink : Nat := 2
def hcHostErr : Nat := 3
def hcHostTmo : Nat := 4
def hcCfg : Nat := 5
def hcChain : Nat := 6

/-- A halt (R509, R513). -/
def State.dHalt (s : State) (n cause : Nat) : State :=
  let s := ((s.on (DM_CH_STAT_HALTED n)).p (DM_CH_STAT_HCAUSE n) cause).off (DM_CH_STAT_BUSY n)
  let s := (s.off (DM_CH_STAT_PAUSED n)).dchUp n (fun c => { c with draining := false, haltDue := 0, ahead := [], due := 0 })
  s.fault DM_STAT_HALT 8 1 0x0C12 (pk [(n, 6), (cause, 8)])

/-- The bit of a channel in DM_FAULT. -/
def dmFaultBit (n : Nat) : RF × Nat := volBit DM_FAULT_LO_CHANS DM_FAULT_HI_CHANS n
def State.dFaulted (s : State) (n : Nat) : Bool := s.bit (dmFaultBit n).1 (dmFaultBit n).2

/-- A channel's transfer ends and its state is cleared; frames on their way find no channel. -/
def State.dClear (s : State) (n : Nat) : State :=
  let s := ((s.off (DM_CH_STAT_BUSY n)).off (DM_CH_STAT_PAUSED n)).off (DM_CH_STAT_FAULTED n)
  let s := s.offBit (dmFaultBit n).1 (dmFaultBit n).2
  let s := s.lkU (fun l => { l with txns := l.txns.map (fun (t : Txn) => match t.req with
    | .dma c _ _ => if c = n then { t with req := .gone (if n < 40 then (s.dch n).cmd else none) } else t
    | _ => t) })
  (s.dmU (fun d => { d with ch := d.ch.drop n })).off (DM_CH_STAT_OUTST n)

/-- A channel is released: its transfer is cleared, and both of its register sets (R508, R571). -/
def State.dRelease (s : State) (n : Nat) : State :=
  let s := State.each [DM_CH_STAT n, DM_CH_CFG n, DM_CH_SRC_LO n, DM_CH_SRC_HI n, DM_CH_DST_LO n, DM_CH_DST_HI n, DM_CH_LEN n,
    DM_CH_SH_CFG n, DM_CH_SH_SRC_LO n, DM_CH_SH_SRC_HI n, DM_CH_SH_DST_LO n, DM_CH_SH_DST_HI n, DM_CH_SH_LEN n]
    (fun a t => t.wr a 0) (s.dClear n)
  s.off (DM_CH_CTL_PAUSE n)

/-- The command a channel works for: its own, or that of the context that owns it. -/
def State.dCmd (s : State) (n : Nat) : Option Nat := (s.dch n).cmd

/-! Progress. -/

/-- The registers follow `d` bytes finished: LEN, and each address that is not a peripheral's (R503, R508). -/
def State.dMove (s : State) (n d : Nat) : State :=
  if d = 0 then s
  else
    let s := s.when (decide (s.srcSp n ≠ spPer)) (fun t => t.setPair (DM_CH_SRC_LO n) (DM_CH_SRC_HI n) (t.dsrc n + d))
    let s := s.when (decide (s.dstSp n ≠ spPer)) (fun t => t.setPair (DM_CH_DST_LO n) (DM_CH_DST_HI n) (t.ddst n + d))
    (s.p (DM_CH_LEN_LEN n) (s.dlen n - d)).dchUp n (fun c => { c with fin := c.fin + d })

/-- A channel that sends to the host has finished every byte below its oldest frame still awaited (R508). -/
def State.dSettle (s : State) (n : Nat) : State :=
  let c := s.dch n
  let lim := (((s.dFrames n).map (·.1)).min?).getD c.issued
  let lim := match c.faultAt with
    | some f => min f lim
    | none => lim
  if s.dstSp n = spHost then s.dMove n (lim - c.fin) else s

/-- The shadow set becomes active (R506). -/
def State.dShadow (s : State) (n : Nat) : State :=
  let cp (t : State) (a b : Nat) : State := t.wr a (t.rd b)
  let s := cp s (DM_CH_CFG n) (DM_CH_SH_CFG n)
  let s := cp (cp s (DM_CH_SRC_LO n) (DM_CH_SH_SRC_LO n)) (DM_CH_SRC_HI n) (DM_CH_SH_SRC_HI n)
  let s := cp (cp s (DM_CH_DST_LO n) (DM_CH_SH_DST_LO n)) (DM_CH_DST_HI n) (DM_CH_SH_DST_HI n)
  (cp s (DM_CH_LEN n) (DM_CH_SH_LEN n)).off (DM_CH_STAT_SH_VALID n)

/-- The configuration of R503 cannot start. -/
def State.dBadCfg (s : State) (n : Nat) : Bool :=
  let a := s.srcSp n
  let b := s.dstSp n
  a = 3 || b = 3 || (a = spHost && b = spHost) || (a = spPer && b = spPer)

/-! Translation faults (R520, R521). -/

/-- A micro-trap waits for a context (R585, R586). -/
def State.trapCtx (s : State) (n : Nat) (t : Trap) : State :=
  s.mcU (fun m =>
    let c := m.ctx.getD n {}
    { m with ctx := m.ctx.putD n {} { c with pend := c.pend ++ [t] } })

/-- The context of a channel, where it has one. -/
def State.dCtx (s : State) (n : Nat) : Option Nat :=
  match s.dCmd n with
  | some id => (s.cmd id).ctx
  | none => none

/-- Step 1 and 2: the channel issues nothing new; the lowest faulted byte is kept (R521). `addr` is its window address. -/
def State.dFault (s : State) (n off addr : Nat) : State :=
  let c := s.dch n
  let low := match c.faultAt with
    | some f => decide (off < f)
    | none => true
  let s := s.on (DM_CH_STAT_FAULTED n)
  if low then (s.dchUp n (fun x => { x with faultAt := some off })).setPair (DM_CH_FADDR_LO n) (DM_CH_FADDR_HI n) addr else s

/-- Steps 3 to 5, once no frame is awaited and what lies below the faulted byte has been written. -/
def State.dFaultSettle (s : State) (n : Nat) : State :=
  let c := s.dch n
  match c.faultAt with
  | none => s
  | some f =>
    if c.timer || !(s.dFrames n).isEmpty || c.ahead.any (fun x => decide (x.1 < f)) then s
    else
      let s := s.dchUp n (fun x => { x with issued := f, ahead := [], timer := true })
      let s := match s.dCtx n with
        | some k => s.trapCtx k { cause := 1, detail := s.pair (DM_CH_FADDR_LO n) (DM_CH_FADDR_HI n), chan := n }
        | none => s
      let s := (s.onBit (dmFaultBit n).1 (dmFaultBit n).2).sat DM_FAULT_CNT_COUNT 1
      s.note DM_STAT_XLAT_FAULT 0x0C13 8 0

/-! Issuing (R504, R512). -/

/-- The window address of a byte of the host end, and how many bytes lie contiguously from it. -/
def segAt : List (Nat × Nat) → Nat → Option (Nat × Nat)
  | [], _ => none
  | (a, l) :: t, o => if o < l then some (a + o, l - o) else segAt t (o - l)

def State.hostAt (s : State) (n off : Nat) : Option (Nat × Nat) :=
  let c := s.dch n
  if s.is (DM_CH_CFG_CHAIN n) then segAt c.segs (c.base + off)
  else some ((if s.dstSp n = spHost then s.ddst n else s.dsrc n) + (off - c.fin), c.total - off)

/-- A failed block of a command is passed over (R448): the offset of the next byte to send. -/
def State.skipBad (s : State) (n : Nat) : Nat → Nat → Nat
  | 0, off => off
  | fuel + 1, off =>
    let c := s.dch n
    match c.cmd with
    | some id =>
      if n < 40 && off < c.total && (s.cmd id).bad.contains ((c.base + off) / 4096) then
        State.skipBad s n fuel (min c.total ((c.base + off) / 4096 * 4096 + 4096 - c.base))
      else off
    | none => off

/-- Source data of a channel that sends to the host: a command's data, or buffer memory with whether it is poisoned. -/
def State.srcData (s : State) (n off len : Nat) : Nat × Bool :=
  let c := s.dch n
  match (if n < 40 then c.cmd else none) with
  | some id => ((s.cmd id).buf / 2 ^ (8 * (c.base + off)) % 2 ^ (8 * len), false)
  | none => let a := s.dsrc n + (off - c.fin); (s.bRd a len, s.bBad a len)

/-- What stops the issue of a channel's bursts; a halt and a command-side reset stop those of commands (R432, R476). -/
def State.dMayIssue (s : State) (n : Nat) : Bool :=
  let c := s.dch n
  (decide (n / 8 = 5) || (!s.is QM_HALT_HALTED && s.cm.resetting.isNone)) &&
    s.dBusy n && !s.is (DM_CH_STAT_FAULTED n) && !s.is (DM_CH_STAT_PAUSED n) && !c.draining && c.haltDue = 0 &&
    c.chain.isNone && (!s.paced n || c.due > 0) && decide ((s.dFrames n).length + c.ahead.length < 8) && decide (c.issued < c.total)

/-- The command whose data a channel moves completes with a status (R507, R512, R516). A customer routine sees DMA_HALTED
on its own channels and decides for itself (R573). -/
def State.dFail (s : State) (n status : Nat) : State :=
  match (if n < 40 then s.dCmd n else none) with
  | some id => s.complete id status 0
  | none => s

/-- One frame is issued; false where none can be. -/
def State.dIssueOne (s : State) (n : Nat) : Bool × State :=
  if !s.dMayIssue n then (false, s)
  else
    let w := s.dstSp n = spHost
    let s := s.dchUp n (fun c => { c with issued := if w then s.skipBad n 65536 c.issued else c.issued })
    let c := s.dch n
    if c.issued ≥ c.total then (false, s.dSettle n)
    else match s.hostAt n c.issued with
    | none => (false, s)
    | some (addr, room) =>
      let room := if w && n < 40 then min room (4096 - (c.base + c.issued) % 4096) else room
      let len := min (min (s.burst n) s.maxFrame) (min (min room (c.total - c.issued)) (4096 - addr % 4096))
      let s := s.when (s.paced n) (fun t => t.dchUp n (fun x => { x with due := x.due - 1 }))
      match s.translate addr len w with
      | none => (false, (s.dFault n c.issued addr).dFaultSettle n)
      | some host =>
        if w then
          let (d, bad) := s.srcData n c.issued len
          if bad then (false, ((s.sat DM_POISON_CNT_COUNT 1).dHalt n hcPoison).dFail n 0x0105)
          else (true, (s.sendWrite host len d (.dma n c.issued len)).dchUp n (fun x => { x with issued := c.issued + len }))
        else (true, (s.sendRead host len (.dma n c.issued len)).dchUp n (fun x => { x with issued := c.issued + len }))

/-- Frames are issued while the channel may. -/
def State.dPump (s : State) (n : Nat) : Nat → State
  | 0 => s.dOutst n
  | k + 1 => match s.dIssueOne n with
    | (true, s) => State.dPump s n k
    | (false, s) => s.dOutst n

/-- A drained pause completes (R508); a transfer with nothing left is DONE and its shadow set may follow (R506, R507):
the state, and whether the transfer became DONE. -/
def State.dCheck (s : State) (n : Nat) : Bool × State :=
  let c := s.dch n
  if !s.dBusy n || !(s.dFrames n).isEmpty || !c.ahead.isEmpty || c.chain.isSome then (false, s)
  else if s.is (DM_CH_STAT_FAULTED n) then (false, s.dFaultSettle n)
  else if s.dlen n = 0 then
    let s := (s.on (DM_CH_STAT_DONE n)).off (DM_CH_STAT_BUSY n)
    if s.is (DM_CH_STAT_SH_VALID n) && !s.is (DM_CH_CFG_CHAIN n) then
      let s := (s.dShadow n).dchUp n (fun x => { x with fin := 0, issued := 0, base := 0, draining := false })
      if s.dBadCfg n then (true, s.dHalt n hcCfg)
      else
        let s := (s.on (DM_CH_STAT_BUSY n)).dchUp n (fun x => { x with total := s.dlen n })
        (true, s.dPump n 8)
    else (true, s.dchUp n (fun x => { x with draining := false }))
  else if c.draining then
    (false, (s.on (DM_CH_STAT_PAUSED n)).dchUp n (fun x => { x with draining := false, issued := x.fin }))
  else (false, s)

/-! Scatter chains. -/

/-- A chain ends with a malformed cause (R431, R515): the command side halts. -/
def State.chainMalformed (s : State) (n cause : Nat) : State :=
  let s := s.dchUp n (fun c => { c with chain := none })
  match s.dCmd n with
  | some id => (s.off (DM_CH_STAT_BUSY n)).halt (s.cmd id).qid (s.cmd id).idx cause
  | none => s.dHalt n hcChain

/-- A chain ends the command with a status (R516). -/
def State.chainBad (s : State) (n status : Nat) : State :=
  ((s.dchUp n (fun c => { c with chain := none })).dHalt n hcChain).dFail n status

/-- The length a chain must describe. -/
def State.chainLen (s : State) (n : Nat) : Nat :=
  let c := s.dch n
  match (if n < 40 then c.cmd else none) with
  | some id => (s.cmd id).dlen
  | none => c.total

/-- The first descriptor's address. -/
def State.chainFirst (s : State) (n : Nat) : Nat :=
  let c := s.dch n
  match (if n < 40 then c.cmd else none) with
  | some id => (s.cmd id).dptr
  | none => if s.dstSp n = spHost then s.ddst n else s.dsrc n

/-- One hop of the walk from a descriptor at hand (R514–R516). -/
def State.chainHop (s : State) (n addr hops d : Nat) : State :=
  let ptr := bitsOf d 0 64
  let len := bitsOf d 64 25
  let link := bitOf d 96 = 1
  let fin := bitOf d 97 = 1
  let rsv := bitsOf d 89 7 ≠ 0 || bitsOf d 98 30 ≠ 0
  let s := s.p (DM_CH_HOPS_HOPS n) hops
  let sum := (((s.dch n).segs).map (·.2)).sum
  if link && ptr = s.chainFirst n then s.chainMalformed n 4
  else if rsv || (link && (ptr % 16 ≠ 0 || len ≠ 0 || fin)) || (!link && (ptr % 4 ≠ 0 || len % 4 ≠ 0 || len < 4 || len > 16777216)) then
    s.chainBad n 0x0002
  else if link then s.dchUp n (fun c => { c with chain := some (ptr, hops) })
  else if sum + len > s.chainLen n || (fin && sum + len < s.chainLen n) then s.chainBad n 0x0005
  else
    let s := s.dchUp n (fun c => { c with segs := c.segs ++ [(ptr, len)], chain := if fin then none else some (addr + 16, hops) })
    let s := (s.p (DM_CH_SH_LEN_LEN n) len)
    if s.dstSp n = spHost then s.setPair (DM_CH_SH_DST_LO n) (DM_CH_SH_DST_HI n) ptr
    else s.setPair (DM_CH_SH_SRC_LO n) (DM_CH_SH_SRC_HI n) ptr

/-- The walk goes on until a descriptor's line is not at hand, the chain ends, or a fault pauses the channel. Requester 2
of the cache, translated (R482). -/
def State.chainWalk (s : State) (n : Nat) : Nat → State
  | 0 => s
  | k + 1 =>
    match (s.dch n).chain with
    | none => s
    | some (addr, hops) =>
      if s.is (DM_CH_STAT_FAULTED n) then s
      else if hops ≥ 4096 then s.chainMalformed n 3
      else match s.translate addr 16 false with
        | none => (s.dFault n (s.dch n).fin addr).dFaultSettle n
        | some host =>
          let again := s.hcServed (host / 128)
          let (hit, s) := s.hcRead (host / 128) (.chain n) 3
          let s := if again then s else s.hcTrack 2 (host / 128) 0 (fun _ => true) (fun _ => 3)
          match hit with
          | false => s
          | true =>
            let d := s.hcData (host / 128) / 2 ^ (8 * (host % 128)) % 2 ^ 128
            State.chainWalk (s.chainHop n addr (hops + 1) d) n k

/-- A transfer starts or goes on: the chain first, then the data. -/
def State.dGo (s : State) (n : Nat) : State :=
  let s := s.chainWalk n 4100
  if s.srcSp n = spHost || s.dstSp n = spHost then s.dPump n 8 else s

/-- The active set starts (R503). -/
def State.dStart (s : State) (n : Nat) : State :=
  if s.dBadCfg n then s.dHalt n hcCfg
  else
    let s := (((s.on (DM_CH_STAT_BUSY n)).off (DM_CH_STAT_PAUSED n)).off (DM_CH_HOPS_HOPS n)).dchUp n (fun c =>
      { cmd := c.cmd, base := c.base, total := s.dlen n, segs := c.segs,
        chain := if s.is (DM_CH_CFG_CHAIN n) && c.segs.isEmpty then some (s.chainFirst n, 0) else none })
    s.dGo n

def State.dchOn (s : State) (n : Nat) : Bool := decide (s.g DM_CTL_STATE = stOn) && decide (s.g (DM_CH_CTL_STATE n) = stOn)

/-- A write to the registers of DMA channels 0–39 and 48–63 takes effect only in MAINT (R502). -/
def State.dmaLocked (s : State) (n : Nat) : Bool := decide (s.mode ≠ mMaint) && !(decide (40 ≤ n) && decide (n < 48))

/-- DM_CH_GO (R503): ignored while a transfer runs or the channel is halted (R513). -/
def doDmChGo (n : Fin 64) (s : State) : State :=
  if s.dchOn n.val && !s.dBusy n.val && !s.is (DM_CH_STAT_HALTED n.val) then s.dStart n.val else s
/-- The row of `doDmChGo`. -/
def execDmChGo (n : Fin 64) (s : State) : Host.Outcome State Fault Refusal :=
  .next (if s.dmaLocked n.val then s else doDmChGo n s)

/-- A pause begins (R508). -/
def State.dPause (s : State) (n : Nat) : State :=
  let s := s.on (DM_CH_CTL_PAUSE n)
  if s.dBusy n && !s.is (DM_CH_STAT_PAUSED n) then ((s.dchUp n (fun c => { c with draining := true })).dCheck n).2 else s

/-- DMA_PAUSE (R508). -/
def execDmaPause (n : Fin 64) (s : State) : Host.Outcome State Fault Refusal :=
  .next (if s.dmaLocked n.val then s else s.dPause n.val)

/-- DMA_UNPAUSE (R508): the transfer resumes from its registers. -/
def doDmaUnpause (n : Fin 64) (s : State) : State :=
  let k := n.val
  let s := s.off (DM_CH_CTL_PAUSE k)
  if s.is (DM_CH_STAT_PAUSED k) then
    ((s.off (DM_CH_STAT_PAUSED k)).dchUp k (fun c => { c with total := c.fin + s.dlen k, issued := c.fin, ahead := [] })).dGo k
  else s.dchUp k (fun c => { c with draining := false })
/-- The row of `doDmaUnpause`. -/
def execDmaUnpause (n : Fin 64) (s : State) : Host.Outcome State Fault Refusal :=
  .next (if s.dmaLocked n.val then s else doDmaUnpause n s)

/-- The shadow set is armed (R506): at once active on an idle channel. -/
def State.dArm (s : State) (n : Nat) : State :=
  if s.is (DM_CH_CFG_CHAIN n) && s.dBusy n then s
  else if s.dBusy n || s.is (DM_CH_STAT_HALTED n) then s.on (DM_CH_STAT_SH_VALID n)
  else (s.dShadow n).dStart n

/-- SHADOW_ARM (R506). -/
def execShadowArm (n : Fin 64) (s : State) : Host.Outcome State Fault Refusal :=
  .next (if s.dchOn n.val && !s.dmaLocked n.val then s.dArm n.val else s)

/-! Bursts within the device. -/

/-- A burst to buffer memory or to a peripheral (R505, R507, R511): `data` and `poison` what a source peripheral gave.
The state, and whether the transfer became DONE. -/
def State.dBurst (s : State) (n data : Nat) (poison : Bool) : Bool × State :=
  let c := s.dch n
  if !s.dBusy n || s.is (DM_CH_STAT_PAUSED n) || s.dstSp n = spHost then (false, s)
  else
    let a := s.dsrc n
    let fromHost := s.srcSp n = spHost
    let next := c.ahead.find? (fun x => x.1 == c.fin)
    if fromHost && next.isNone then (false, s)
    else if !fromHost && ((s.paced n && c.due = 0 && c.haltDue = 0) || s.is (DM_CH_STAT_FAULTED n) || c.draining) then (false, s)
    else
      let len := match next with
        | some x => if fromHost then x.2.1 else min (s.burst n) (s.dlen n)
        | none => min (s.burst n) (s.dlen n)
      let v := match next with
        | some x => if fromHost then x.2.2 else if s.srcSp n = spBuf then s.bRd a len else data % 2 ^ (8 * len)
        | none => if s.srcSp n = spBuf then s.bRd a len else data % 2 ^ (8 * len)
      let bad := if fromHost then false else if s.srcSp n = spBuf then s.bBad a len else poison || c.haltDue = hcPoison
      let dst := s.ddst n
      let s := match (if n < 40 && fromHost then c.cmd else none) with
        | some id => s.cmdUp id (fun m => { m with buf := overlay m.buf (c.base + c.fin) len v, have_ := m.have_ + len })
        | none =>
          if s.dstSp n = spBuf then
            let s := s.bWr dst len v
            if bad then State.each (upTo ((len + 7) / 8)) (fun i t => t.bSetErr (dst + 8 * i) eccPoison) s else s
          else s
      let s := s.dMove n len
      let s := s.dchUp n (fun x => { x with
        ahead := if fromHost then x.ahead.filter (fun y => y.1 ≠ c.fin) else x.ahead,
        due := if fromHost then x.due else x.due - 1,
        issued := if fromHost then x.issued else x.fin })
      if bad then (false, (s.sat DM_POISON_CNT_COUNT 1).dHalt n hcPoison)
      else if c.haltDue ≠ 0 then (false, s.dHalt n c.haltDue)
      else
        let (done, s) := s.dCheck n
        if done then (true, s) else (false, if fromHost then s.dPump n 8 else s)

/-- A channel that answers a request line. -/
def State.lineChans (s : State) (line : Nat) : List Nat :=
  (upTo 64).filter (fun n => s.dBusy n && s.paced n && s.g (DM_CH_CFG_REQ_LINE n) == line)

/-- PERIPHERAL_REQUEST (R505): lines 96 to 127 are never asserted. -/
def State.perRequest (s : State) (line : Nat) : State :=
  if line ≥ 96 then s
  else
    let s := s.dmU (fun d => { d with lines := if d.lines.contains line then d.lines else line :: d.lines })
    State.each (s.lineChans line) (fun n t =>
      let t := t.dchUp n (fun c => { c with due := c.due + 1 })
      if t.srcSp n = spHost || t.dstSp n = spHost then t.dPump n 1 else t) s

def execPeripheralRequest (line : Fin 128) (s : State) : Host.Outcome State Fault Refusal := .next (s.perRequest line.val)

/-- PERIPHERAL_WITHDRAW (R510): before the burst starts it is cancelled; afterwards it completes, and the channel halts. -/
def execPeripheralWithdraw (line : Fin 128) (started : Bool) (s : State) : Host.Outcome State Fault Refusal :=
  .next <|
    if !s.dm.lines.contains line.val then s
    else
      let s := s.dmU (fun d => { d with lines := d.lines.filter (· ≠ line.val) })
      State.each (s.lineChans line.val) (fun n t =>
        if !started then t.dchUp n (fun c => { c with due := c.due - 1 })
        else
          let t := ((t.on (DM_CH_STAT_REQ_LATE n)).sat DM_REQ_LATE_CNT_COUNT 1).note DM_STAT_REQ_LATE 0x0C11 8 0
          t.dchUp n (fun c => { c with haltDue := if t.srcSp n = spPer then hcPoison else hcSink })) s

/-! Responses. -/

/-- A response OK to a frame of a channel: read data stands ready for its destination (R504, R507, R521). The state, and
whether the transfer became DONE. -/
def State.dResponse (s : State) (n off len data : Nat) (write : Bool) : Bool × State :=
  if !s.dBusy n && !s.is (DM_CH_STAT_FAULTED n) then (false, s.dOutst n)
  else
    let s := if write then s.dSettle n else
      if (match (s.dch n).faultAt with | some f => decide (f ≤ off) | none => false) then s
      else s.dchUp n (fun c => { c with ahead := c.ahead ++ [(off, len, data)] })
    let (done, s) := s.dCheck n
    (done, if done then s.dOutst n else s.dPump n 8)

/-- A HOST access of a channel failed: the channel halts and its command completes (R507). -/
def State.dHostErr (s : State) (n : Nat) (tmo : Bool) : State :=
  (s.dHalt n (if tmo then hcHostTmo else hcHostErr)).dFail n (if tmo then 0x0201 else 0x0202)

/-- The SQ of the command a channel works for. -/
def State.dQid (s : State) (n : Nat) : Option Nat := (s.dCmd n).map (fun id => (s.cmd id).qid)

/-- A data transfer that timed out puts its command's SQ into ERROR (R428 cause 1). -/
def State.sqNoRsp (s : State) (q : Option Nat) (tmo : Bool) : State := match q with
  | some q => if tmo then s.sqError q 1 else s
  | none => s

/-- A frame of a channel ends with an error: a translation fault, another error response, or a granted timeout (R507,
R520). -/
def State.dError (s : State) (n off : Nat) (xlat tmo : Bool) : State :=
  if !s.dBusy n then s.dOutst n
  else if xlat then
    let addr := ((s.hostAt n off).map (·.1)).getD 0
    ((s.dFault n off addr).dFaultSettle n).dOutst n
  else
    (s.dHostErr n tmo).sqNoRsp (s.dQid n) tmo

/-- A channel resumes from its faulted byte (R520 step 7). -/
def State.dRetry (s : State) (n : Nat) : State :=
  let s := (s.off (DM_CH_STAT_FAULTED n)).offBit (dmFaultBit n).1 (dmFaultBit n).2
  let s := s.dchUp n (fun c => { c with faultAt := none, timer := false })
  let s := match s.dCtx n with
    | some k => s.mcU (fun m =>
      let c := m.ctx.getD k {}
      { m with ctx := m.ctx.putD k {} { c with pend := c.pend.map (fun (t : Trap) =>
        if t.cause = 1 && t.chan = n then { t with cause := 0 } else t) } })
    | none => s
  s.dGo n

end Sys2Proof.Machine
end

