-- ==== Sys2Proof/Machine/Cmds.lean ====
section
/-! DEFINITION. Machine/Cmds.lean: what the command scheduler does beneath the opcodes (R445–R474): data transfers of a
command, reads and what delivers their blocks, reconstructions (R261–R264, R744), writes and their journalling, and the
waits of administrative commands. -/

namespace Sys2Proof.Machine

open Reg

/-! Data transfers. -/

def chunkMax : Nat := 16777216

/-- A free channel of 0 to 39 (R502); the lowest. -/
def State.freeChan (s : State) : Option Nat :=
  (upTo 40).find? (fun n => (s.dch n).cmd.isNone && !s.cm.table.any (fun x => x.2.chan == some n))

/-- Bytes a command moves: its data, but only the nonce of an ATTEST toward the device (R714). -/
def Cmd.want (c : Cmd) (toHost : Bool) : Nat := if c.opc = 0x88 && !toHost then (c.p1 + 3) / 4 * 4 else c.dlen

/-- A transfer of a command's data starts on a channel, `base` bytes into the data. -/
def State.xferOn (s : State) (id n : Nat) (toHost : Bool) (base : Nat) : State :=
  let c := s.cmd id
  let len := min chunkMax (c.want toHost - base)
  let s := s.dClear n
  let s := ((s.p (DM_CH_CFG_SRC_SP n) (if toHost then spBuf else spHost)).p (DM_CH_CFG_DST_SP n) (if toHost then spHost else spBuf)).p
    (DM_CH_CFG_BURST n) 6
  let s := ((s.off (DM_CH_CFG_PACED n)).p (DM_CH_CFG_CHAIN n) (b2n c.dmode)).p (DM_CH_CFG_CTX n) (c.ctx.getD 0)
  let host := if c.dmode then c.dptr else c.dptr + base
  let s := if toHost then (s.setPair (DM_CH_SRC_LO n) (DM_CH_SRC_HI n) 0).setPair (DM_CH_DST_LO n) (DM_CH_DST_HI n) host
    else (s.setPair (DM_CH_DST_LO n) (DM_CH_DST_HI n) 0).setPair (DM_CH_SRC_LO n) (DM_CH_SRC_HI n) host
  let s := (((s.p (DM_CH_LEN_LEN n) len).off (DM_CH_STAT_DONE n)).off (DM_CH_STAT_HALTED n)).off (DM_CH_STAT_HCAUSE n)
  let s := (s.cmdUp id (fun x => { x with chan := some n, wantChan := none })).dchUp n (fun x => { x with cmd := some id, base := base })
  s.dStart n

/-- The guard values a read still owes are written, one block at a time, through requester 3 (R474, R482), until one does not
translate (R520). -/
def State.guardSend (s : State) (id : Nat) : State :=
  State.each (s.cmd id).gleft (fun a t =>
    let c := t.cmd id
    let i := (a - c.gptr) / 4
    if (match c.chan with | some n => t.is (DM_CH_STAT_FAULTED n) | none => false) then t
    else match t.translate a 4 true with
      | some h => (t.hcWrite 3 h 4 (vcrc c.vol (c.block + i) (c.buf / 2 ^ (32768 * i) % 2 ^ 32768))).cmdUp id (fun x =>
        { x with gleft := x.gleft.filter (· ≠ a) })
      | none => match c.chan with
        | some n => (t.dFault n (t.dch n).fin a).dFaultSettle n
        | none => t) s

/-- A read owes a guard value for each of its blocks but the failed ones (R448, R474). -/
def State.guardOut (s : State) (id : Nat) : State :=
  if (s.cmd id).guard then
    (s.cmdUp id (fun c => { c with gleft := ((upTo c.nblk).filter (fun i => !c.bad.contains i)).map (fun i => c.gptr + 4 * i) })).guardSend id
  else s

/-- A command asks for a channel; it waits while none is free. -/
def State.xferStart (s : State) (id : Nat) (toHost : Bool) : State :=
  match s.freeChan with
  | none => s.cmdUp id (fun c => { c with wantChan := some toHost })
  | some n =>
    let s := s.xferOn id n toHost 0
    if toHost then (s.cmdUp id (fun c => { c with pnr := true })).guardOut id else s

/-! Reads. -/

/-- The status of a block lost or unreadable, by the volume's parity (R261, R345). -/
def State.noParity (s : State) (v block : Nat) : Bool := decide ((s.geo (s.slotOf v block)).p = 0)

/-- A CLEAN block whose stored VCRC disagrees with its data (R472, R473). -/
def State.cleanWrong (s : State) (k : Nat) (e : EdEnt) (b : Nat) : Bool :=
  let data := s.bRd (e.loc + 4096 * (b - e.first)) 4096
  decide (s.bRd (s.cacheBase - 128 * 2 ^ 20 + 1024 * k + 4 * (b - e.first)) 4 ≠ vcrc e.vol b data)

/-- A block of a read is checked again at egress (R43 step 10, R472, R473): where its copy in the buffer is poisoned or disagrees with
its VCRC, it is served once more from its member; with no such source the command fails. -/
def State.egressBlock (s : State) (id i : Nat) : State :=
  let c := s.cmd id
  let b := c.block + i
  match s.edFind c.vol b with
  | none => s
  | some (k, e) =>
    if e.kind ≠ kClean || c.again.contains i || c.bad.contains i then s
    else
      let bad := s.bBad (e.loc + 4096 * (b - e.first)) 4096
      if !bad && !s.cleanWrong k e b then s
      else
        let s := if bad then s else (s.sat CM_E2E_CNT_COUNT 1).fault CM_STAT_E2E 6 0 0x0B02 (pk [(c.vol, 6), (b, 40)])
        let own := (c.caps.filter (fun x => x.1 == k && x.2 == e.jseq)).length
        let s := if e.ref > own then s
          else (s.edSet (s.bm.ed.drop k)).cmdUp id (fun x => { x with caps := x.caps.filter (fun y => y.1 ≠ k) })
        let slot := s.slotOf c.vol b
        let x := s.locate (s.geo slot) b
        match s.direct (s.ownerOf slot) (s.geo slot) x.row x.member with
        | some m =>
          (s.cmdUp id (fun y => { y with left := y.left + 1, again := y.again ++ [i], medium := true })).cmU (fun y => { y with
            waits := y.waits ++ [{ cmd := some id, vol := c.vol, block := b, member := m, mba := x.mba, recon := false, ahead := false,
                                   deadline := c.taken + s.cmdDl c, take := c.taken }] })
        | none => s.complete id (if bad then 0x0105 else 0x0104) 0

/-- A read that has all it waited for goes on: VERIFY completes, the others send their blocks (R447, R448). -/
def State.readReady (s : State) (id : Nat) : State :=
  let c := s.cmd id
  if c.left > 0 || c.status.isSome then s
  else if c.opc = 5 then
    match c.fail with
    | some (i, st) => s.complete id st i
    | none => s.complete id 0 (min 65535 c.laddered)
  else if c.lib.isSome then s.complete id ((c.fail.map (·.2)).getD 0) 0
  else if c.chan.isSome then s
  else
    let s := State.each (upTo c.nblk) (fun i t => t.egressBlock id i) s
    if (s.cmd id).left > 0 || (s.cmd id).status.isSome then s else s.xferStart id true

/-- RESULT of a READ (R445). -/
def Cmd.readResult (c : Cmd) : Nat := 2 * b2n c.raHit + 4 * b2n c.recon + 2 ^ 16 * min 65535 c.near

/-- Every byte of a read's data has its response (R44). -/
def State.readDone (s : State) (id : Nat) : State :=
  let c := s.cmd id
  match c.fail with
  | some (i, st) => s.complete id st i
  | none => s.complete id 0 c.readResult

/-- A block of a command is at hand, or failed. -/
def State.blockOk (s : State) (id i data : Nat) : State :=
  (s.cmdUp id (fun c => { c with buf := overlay c.buf (4096 * i) 4096 data, left := c.left - 1 })).readReady id

def State.blockFail (s : State) (id i status : Nat) : State :=
  (s.cmdUp id (fun c => { c with
    left := c.left - 1, bad := c.bad ++ [i],
    fail := match c.fail with
      | some (j, st) => if i < j then some (i, status) else some (j, st)
      | none => some (i, status) })).readReady id

/-- A dropped command's data came after its deadline was granted (R464). -/
def State.goneDone (s : State) (id : Nat) : State :=
  match s.cm.dlGone.find? (fun x => x.1 == id) with
  | none => s
  | some (_, n) =>
    if n ≤ 1 then
      let s := s.cmU (fun c => { c with dlGone := c.dlGone.filter (fun x => x.1 ≠ id) })
      (s.sat CM_LATE_CNT_DL 1).note CM_STAT_DL_LATE 0x0B01 6 0
    else s.cmU (fun c => { c with dlGone := c.dlGone.map (fun x => if x.1 = id then (id, n - 1) else x) })

/-- A stripe write has the outcome of a source it waits for (R745). -/
def State.gatherPut (s : State) (w : BlkWait) (f : Gather → Gather) : State :=
  s.arU (fun a => { a with gather := a.gather.map (fun x =>
    let g := s.geo x.vol
    if s.ownerOf x.vol = w.vol && decide (w.block / atLeast1 (g.k * g.sz) = x.stripe) then f x else x) })

/-- One wait ends with data (R264, R555): the block goes to its command and into the hit cache. -/
def State.waitOk (s : State) (w : BlkWait) (data : Nat) (recon laddered : Bool) : State :=
  let s := s.cmU (fun c => { c with waits := c.waits.filter (fun x => x ≠ w) })
  if w.gather then s.gatherPut w (fun x => { x with got := x.got ++ [(w.block, data)] }) else
  let s := if w.stale then s else s.cleanPut w.vol w.block data (if w.ahead then 0 else 1) w.ahead
  match w.cmd with
  | none => s
  | some id =>
    if w.gone then s.goneDone id
    else
      let s := s.cmdUp id (fun c => { c with recon := c.recon || recon, laddered := c.laddered + b2n laddered })
      s.blockOk id (w.block - (s.cmd id).block) data

/-- One wait ends without: the block is lost or unreadable. -/
def State.waitFail (s : State) (w : BlkWait) (status : Nat) : State :=
  let s := s.cmU (fun c => { c with waits := c.waits.filter (fun x => x ≠ w) })
  if w.gather then s.gatherPut w (fun x => { x with lost := x.lost ++ [w.block] }) else
  match w.cmd with
  | none => s
  | some id => if w.gone then s.goneDone id else s.blockFail id (w.block - (s.cmd id).block) status

/-- The waits a member's sector serves. -/
def State.waitsAt (s : State) (m mba : Nat) : List BlkWait := s.cm.waits.filter (fun w => w.member == m && w.mba == mba)

/-- An operation chosen for an actuator has ended. -/
def State.schedDone (s : State) (m mba : Nat) : State :=
  let a := actuatorOf m
  s.cmU (fun c => { c with sched := c.sched.putD a [] ((c.sched.getD a []).filter (fun w => !(w.member == m && w.mba == mba))) })

/-- A sector read direct supplies the reads that wait for it, unless its member has left AVAILABLE and another source
supplies them (R264). -/
def State.directOk (s : State) (m mba data : Nat) (laddered : Bool) : State :=
  let s := s.schedDone m mba
  State.each (s.waitsAt m mba) (fun w t => t.waitOk w data false laddered) s

/-- A sector was given up (R132): its reads go to a reconstruction, or fail where the volume has no parity. -/
def State.directFail (s : State) (m mba : Nat) : State :=
  let s := s.schedDone m mba
  State.each (s.waitsAt m mba) (fun w t =>
    if t.noParity w.vol w.block then t.waitFail w 0x0101
    else
      let slot := t.slotOf w.vol w.block
      let x := t.locate (t.geo slot) w.block
      (t.cmU (fun c => { c with waits := c.waits.map (fun y => if y = w then { w with recon := true } else y) })).reconStart
        slot x.stripe x.u x.j) s

/-- The ladder of a sector asks for a reconstruction (R128, R264). -/
def State.askRecon (s : State) (m mba : Nat) : State :=
  State.each (s.waitsAt m mba) (fun w t =>
    if t.noParity w.vol w.block || w.recon then t
    else
      let slot := t.slotOf w.vol w.block
      let x := t.locate (t.geo slot) w.block
      (t.cmU (fun c => { c with waits := c.waits.map (fun y => if y = w then { w with recon := true } else y) })).reconStart
        slot x.stripe x.u x.j) s

/-! Reconstructions. -/

/-- The member that serves a position of a stripe directly (R255, R261, R332). -/
def State.posMember (s : State) (slot stripe pos : Nat) : Option Nat :=
  let g := s.geo slot
  let row := stripe / atLeast1 g.q
  s.direct (s.ownerOf slot) g row (s.member g row ((stripe % atLeast1 g.q) * g.w + pos))

/-- Positions a reconstruction may read: served directly, not erased, and not the one wanted. -/
def State.reconPool (s : State) (r : Recon) : List Nat :=
  (upTo (s.geo r.vol).w).filter (fun p => p ≠ r.pos && !r.bad.contains p && (s.posMember r.vol r.stripe p).isSome)

/-- The largest group of equal WSEQ, ties to the group with the lowest position (R262). -/
def wseqGroup (l : List (Nat × Nat × Nat)) : Nat :=
  let size (w : Nat) : Nat := (l.filter (fun x => x.2.1 == w)).length
  match l with
  | [] => 0
  | x :: t => (t.foldl (fun best y => if size y.2.1 > size best then y.2.1 else best) x.2.1)

def State.reconUp (s : State) (r r' : Recon) : State :=
  s.cmU (fun c => { c with recons := c.recons.map (fun x => if x = r then r' else x) })

/-- The lost data blocks of a stripe offset: those whose position is erased (R261, R334). -/
def State.erasedBlocks (s : State) (slot stripe u : Nat) (bad : List Nat) : List Nat :=
  let g := s.geo slot
  ((upTo g.k).filter (fun p => bad.contains p || (s.posMember slot stripe p).isNone)).map (fun p => g.blockAt stripe p u)

/-- A block is lost (R261): its erased neighbours enter the forfeit table, and the reads that wait complete MEDIA_LOST. Where only
stripe writes wait, theirs is the forfeit (R745). -/
def State.reconLost (s : State) (r : Recon) : State :=
  let v := s.ownerOf r.vol
  let bs := s.erasedBlocks r.vol r.stripe r.u (r.pos :: r.bad)
  let s := s.cmU (fun c => { c with recons := c.recons.filter (fun x => x ≠ r) })
  let ws := s.cm.waits.filter (fun w => w.vol == v && bs.contains w.block && w.recon)
  let s := if ws.isEmpty || ws.any (fun w => !w.gather) then s.forfeit v 1 bs else s
  let s := match s.posMember r.vol r.stripe r.pos with
    | some m => s.ladLost m ((s.geo r.vol).base + r.stripe / atLeast1 (s.geo r.vol).q * (s.geo r.vol).sz + r.u)
    | none => s
  State.each ws (fun w t => t.waitFail w 0x0102) s

/-- The ladder of the wanted sector itself still runs: until it ends, its block is not lost (R132). -/
def State.reconLaddered (s : State) (r : Recon) : Bool :=
  let g := s.geo r.vol
  match s.posMember r.vol r.stripe r.pos with
  | some m => (s.ladderOf m (g.base + r.stripe / atLeast1 g.q * g.sz + r.u)).isSome
  | none => false

/-- Sources are compared (R262), and a reconstruction with too few left is lost once no ladder of a source runs (R744). -/
def State.reconCheck (s : State) (r : Recon) : State :=
  let g := s.geo r.vol
  let busy (r : Recon) : Bool := !r.laddering.isEmpty || s.reconLaddered r
  let pool := s.reconPool r
  let got := (r.got.filter (fun x => pool.contains x.1)).mergeSort (fun a b => decide (a.1 ≤ b.1))
  let use_ := got.take g.k
  let w := wseqGroup use_
  if got.length ≥ g.k && use_.any (fun x => x.2.1 ≠ w) then
    let v := s.ownerOf r.vol
    let s := (s.on (AR_VOL_STAT_WSEQ_MISMATCH v)).sat AR_WSEQ_ERR_CNT_COUNT 1
    let s := s.fault AR_STAT_WSEQ_MISMATCH 11 3 0x0604 (pk [(v, 6)])
    let r' := { r with bad := r.bad ++ (use_.filter (fun x => x.2.1 ≠ w)).map (·.1), got := got.filter (fun x => x.2.1 == w) }
    let s := s.reconUp r r'
    if (s.reconPool r').length < g.k && !busy r' then s.reconLost r' else s
  else if pool.length < g.k && !busy r then s.reconLost r
  else s

/-- The reconstructions that want a sector, with the position it holds. -/
def State.reconsAt (s : State) (m mba : Nat) : List (Recon × Nat) :=
  s.cm.recons.filterMap (fun r =>
    let g := s.geo r.vol
    if mba = g.base + r.stripe / atLeast1 g.q * g.sz + r.u then
      ((upTo g.w).find? (fun p => s.posMember r.vol r.stripe p == some m)).map (fun p => (r, p))
    else none)

/-- A medium wait for a block (R255, R261, R345). -/
def State.blockWait (s : State) (cmd : Option Nat) (v b deadline take : Nat) (ahead gather : Bool) : State :=
  let slot := s.slotOf v b
  let g := s.geo slot
  let x := s.locate g b
  let dir := s.direct (s.ownerOf slot) g x.row x.member
  let w : BlkWait := { cmd := cmd, vol := v, block := b, member := dir.getD x.member, mba := x.mba, recon := dir.isNone,
                       ahead := ahead, gather := gather, deadline := deadline, take := take }
  if dir.isNone && g.p = 0 then
    (match cmd with
      | some id => s.blockFail id (b - (s.cmd id).block) 0x0101
      | none => s)
  else
    let s := s.cmU (fun c => { c with waits := c.waits ++ [w] })
    if dir.isNone then
      let s := s.reconStart slot x.stripe x.u x.j
      match s.cm.recons.find? (fun r => r.vol == slot && r.stripe == x.stripe && r.u == x.u && r.pos == x.j) with
      | some r => s.reconCheck r
      | none => s
    else s

/-! The sources of stripe writes (R745). -/

/-- Volume blocks of a range of a stripe, strip by strip. -/
def Geo.range (g : Geo) (stripe u0 u1 : Nat) : List Nat :=
  (upTo g.k).flatMap (fun j => (upTo (u1 + 1 - u0)).map (fun i => g.blockAt stripe j (u0 + i)))

/-- The blocks that a stripe write still has to read: those that no DATA record gives. A volume with no parity reads none. -/
def State.gatherNeed (s : State) (x : Gather) : List Nat :=
  let g := s.geo x.vol
  if g.p = 0 then []
  else (g.range x.stripe x.u0 x.u1).filter (fun b =>
    (s.jNewest (s.ownerOf x.vol) b (fun r => r.ready)).isNone && !x.got.any (fun y => y.1 == b) && !x.lost.contains b)

/-- The reads are issued once AR is ON and the DATA records on their way have come. -/
def State.gatherAsk (s : State) (x : Gather) : State :=
  let v := s.ownerOf x.vol
  let g := s.geo x.vol
  let uses := (g.range x.stripe x.u0 x.u1).filterMap (fun b => (s.jNewest v b (fun r => r.ready)).map (fun r => (r.jseq, b)))
  if s.g AR_CTL_STATE ≠ stOn || s.stripeComing x.vol x.stripe then s
  else State.each ((s.gatherNeed x).filter (fun b => !s.cm.waits.any (fun w => w.gather && w.vol == v && w.block == b))) (fun b t =>
    t.blockWait none v b (s.wbDeadline uses) s.now false true) s

/-- With all of its sources read or lost, the stripe write starts: what is lost is forfeited with cause WRITE (5). Where no DATA
record is left to write, nothing starts. -/
def State.gatherRun (s : State) (x : Gather) : State :=
  let v := s.ownerOf x.vol
  let data := ((s.geo x.vol).range x.stripe x.u0 x.u1).any (fun b => (s.jNewest v b (fun r => r.ready)).isSome)
  if s.g AR_CTL_STATE ≠ stOn || s.stripeComing x.vol x.stripe || !(s.gatherNeed x).isEmpty then s
  else
    let s := s.arU (fun a => { a with gather := a.gather.filter (fun y => !(y.vol == x.vol && y.stripe == x.stripe)) })
    if data then s.stripeStart x.vol x.stripe x.u0 x.u1 x.got 5
    else s.rbU (fun r => { r with claims := r.claims.filter (fun c => c ≠ (x.vol, x.stripe)) })

/-- What the stripe write of a stripe has gathered. -/
def State.gatherOf (s : State) (slot stripe : Nat) : Option Gather := s.ar.gather.find? (fun x => x.vol == slot && x.stripe == stripe)

/-- Stripe writes that gather their sources go on. -/
def State.gatherSweep (s : State) : State :=
  State.each (s.ar.gather.map (fun x => (x.vol, x.stripe))) (fun k t =>
    let t := match t.gatherOf k.1 k.2 with
      | some x => t.gatherAsk x
      | none => t
    match t.gatherOf k.1 k.2 with
    | some x => t.gatherRun x
    | none => t) s

/-- STRIPE_WRITE_START (R251, R745): AR is ON, nothing else has claimed the stripe (R331), and some block of the range stands in
a DATA record that takes part. The unchanged blocks are read first, and the write starts with the last of them. -/
def execStripeWriteStart (slot : Fin 64) (stripe : BitVec 40) (u0 u1 : Fin 256) (ce : Nat) (lost : List (Nat × Bool)) (s : State) :
    Host.Outcome State Fault Refusal :=
  .next <|
    let s := s.jdRead ce lost
    let g := s.geo slot.val
    let v := s.ownerOf slot.val
    let ok := decide (s.g AR_CTL_STATE = stOn) && decide (u0.val ≤ u1.val) && decide (u1.val < g.sz) && decide (g.k > 0) &&
      decide (stripe.toNat < g.rows * g.q) && !s.rb.claims.contains (slot.val, stripe.toNat) &&
      !s.stripeComing slot.val stripe.toNat &&
      (g.range stripe.toNat u0.val u1.val).any (fun b => (s.jNewest v b (fun r => r.ready)).isSome)
    let s := if ok then (s.arU (fun a => { a with
        gather := a.gather ++ [{ vol := slot.val, stripe := stripe.toNat, u0 := u0.val, u1 := u1.val }] })).rbU (fun x => { x with
        claims := x.claims ++ [(slot.val, stripe.toNat)] })
      else s
    s.gatherSweep

/-! Ladders and channels that commands leave behind. -/

/-- Every command that needed a sector is gone (R133): none waits for it, and no reconstruction reads it as a source. -/
def State.abandoned (s : State) (l : Ladder) : Bool :=
  l.needed && l.op.purpose ≠ .adjacent && l.op.purpose ≠ .spill && (s.waitsAt l.op.member l.op.mba).all (·.gone) &&
    (s.reconsAt l.op.member l.op.mba).all (fun x => x.2 == x.1.pos)

/-- A reconstruction that nobody needs any more: no read waits for its block, and it is not that of a failed verify of an
adjacent track (R133, R140). -/
def State.reconIdle (s : State) (r : Recon) : Bool :=
  let g := s.geo r.vol
  let mba := g.base + r.stripe / atLeast1 g.q * g.sz + r.u
  let here (o : SecOp) : Bool := o.purpose == .adjacent && o.mba == mba && s.posMember r.vol r.stripe r.pos == some o.member
  !s.cm.waits.any (fun w => w.recon && !w.gone && w.vol == s.ownerOf r.vol && w.block == g.blockAt r.stripe r.pos r.u && decide (r.pos < g.k)) &&
    !(upTo 8).any (fun a => (s.ld a).queue.any (fun l => here l.op) || (s.ld a).ended.any (fun e => here e.op))

/-- A ladder ends ABANDONED (R133). -/
def State.abandon (s : State) (l : Ladder) : State :=
  let m := l.op.member
  let mba := l.op.mba
  let ids := (s.waitsAt m mba).filterMap (·.cmd)
  let s := s.cmU (fun c => { c with
    waits := c.waits.filter (fun w => !(w.member == m && w.mba == mba)), dlGone := c.dlGone.filter (fun x => !ids.contains x.1) })
  let (_, s) := s.slowEnd m mba
  ((s.schedDone m mba).ladDrop l).ldLast l.ch 4 0 0 l.lastOfs l.lastIter

/-- Reconstructions that nobody needs end, and so do ladders that no decode or re-read holds once nothing needs their sector
any more (R133). -/
def State.abandonSweep (s : State) : State :=
  let s := s.cmU (fun c => { c with recons := c.recons.filter (fun r => !s.reconIdle r) })
  State.each ((upTo 8).flatMap (fun a => (s.ld a).queue.filter (fun l => l.phase == 0 || l.phase == 2))) (fun l t =>
    if t.abandoned l then t.abandon l else t) s

/-- Channels of commands that have ended are released, and waiting commands take them; ladders that
nothing needs end, and stripe writes that gather their sources go on. -/
def State.chanSweep (s : State) : State :=
  let s := s.gatherSweep
  let s := State.each ((upTo 40).filter (fun n => match (s.dch n).cmd with
    | some id => (s.cmd id).status.isSome || (s.cm.table.find id).isNone
    | none => false)) (fun n t => match (t.dch n).cmd with
    | some id => (t.dClear n).cmdUp id (fun c => { c with chan := none })
    | none => t) s
  State.each ((s.cm.table.filter (fun x => x.2.wantChan.isSome)).map (fun x => (x.1, x.2.wantChan.getD false))) (fun x t =>
    if t.freeChan.isSome then t.xferStart x.1 x.2 else t) s.abandonSweep

/-- Reads that nothing can serve any more, and reconstructions short of sources, after a member has left AVAILABLE (R261, R744). -/
def State.reconSweep (s : State) : State :=
  let s := State.each (s.cm.waits.filter (fun w => w.recon && !w.gone && s.noParity w.vol w.block)) (fun w t => t.waitFail w 0x0101) s
  State.each s.cm.recons (fun r t => if t.cm.recons.contains r then t.reconCheck r else t) s

/-- What follows where a member's state has changed since `old`: lost spills, the hold limit (R260), and reads (R261). -/
def State.careFrom (s old : State) : State :=
  if (upTo 96).all (fun m => old.mem m == s.mem m) then s else ((s.settle).reconSweep).chanSweep

/-- UNAVAIL_TIMEOUT (R258): the expiry is granted. -/
def execUnavailTimeout (member : Fin 96) (s : State) : Host.Outcome State Fault Refusal :=
  .next <|
    let m := member.val
    if s.ar.armed.contains m && (s.mem m = memUnavailable || s.mem m = memCatchup) && !s.timersHeld then
      ((s.declareFailed m true).stripeCheck).careFrom s
    else s

/-- A source was read OK (R261). -/
def State.sourceOk (s : State) (m mba wseq data : Nat) : State :=
  let s := s.schedDone m mba
  State.each (s.reconsAt m mba) (fun x t =>
    let (r, p) := x
    if r.got.any (fun y => y.1 == p) then t
    else
      let r' := { r with
        got := r.got ++ [(p, wseq, data)], bad := r.bad.filter (· ≠ p), laddering := r.laddering.filter (· ≠ p) }
      (t.reconUp r r').reconCheck r') s

/-- A source did not end OK on the normal path: an erasure, whose ladder runs (R744). -/
def State.sourceBad (s : State) (m mba : Nat) : State :=
  State.each (s.reconsAt m mba) (fun x t =>
    let (r, p) := x
    let r' := { r with bad := r.bad ++ [p], laddering := r.laddering ++ [p] }
    (t.reconUp r r').reconCheck r') s

/-- The ladder of a source ended without success (R744). -/
def State.sourceGone (s : State) (m mba : Nat) : State :=
  let s := s.schedDone m mba
  State.each (s.reconsAt m mba) (fun x t =>
    let (r, p) := x
    let r' := { r with
      bad := if r.bad.contains p then r.bad else r.bad ++ [p], laddering := r.laddering.filter (· ≠ p) }
    (t.reconUp r r').reconCheck r') s

/-- A reconstruction has its k sources of one WSEQ: its parity job runs (R261, R273). -/
def State.reconReady (s : State) (r : Recon) : Bool :=
  let pool := s.reconPool r
  let use_ := ((r.got.filter (fun x => pool.contains x.1)).mergeSort (fun a b => decide (a.1 ≤ b.1))).take (s.geo r.vol).k
  decide (use_.length = (s.geo r.vol).k) && use_.all (fun x => x.2.1 == wseqGroup use_)

/-- A reconstruction whose k sources are read ends (R261, R264): it is granted where a read still waits for the block. -/
def State.reconDone (s : State) (r : Recon) : State :=
  let g := s.geo r.vol
  let pool := s.reconPool r
  let got := (r.got.filter (fun x => pool.contains x.1)).mergeSort (fun a b => decide (a.1 ≤ b.1))
  let use_ := got.take g.k
  if use_.length < g.k || use_.any (fun x => x.2.1 ≠ wseqGroup use_) then s
  else
    let data := rebuildBlock g.k (use_.map (fun x => (x.1, x.2.2))) r.pos
    let s := s.cmU (fun c => { c with recons := c.recons.filter (fun x => x ≠ r) })
    let v := s.ownerOf r.vol
    let b := g.blockAt r.stripe r.pos r.u
    let ws := if r.pos ≥ g.k then [] else s.cm.waits.filter (fun w => w.vol == v && w.block == b && w.recon)
    let row := r.stripe / atLeast1 g.q
    let own := ((s.posMember r.vol r.stripe r.pos).map (fun m => (m, g.base + row * g.sz + r.u))).toList
    let w := stripMeta (decide (r.pos ≥ g.k)) (wseqGroup use_)
    let s := State.each ((own ++ ws.map (fun w => (w.member, w.mba))).dedup) (fun x t => t.ladWon x.1 x.2 data w) s
    if ws.isEmpty then s
    else
      let s := (s.sat AR_RECON_CNT_COUNT 1).sat (AR_VOL_RECON_CNT_COUNT v) 1
      State.each ws (fun w t => (t.schedDone w.member w.mba).waitOk w data true false) s

/-- PARITY_JOB_DONE (R264, R270): `recon` names a reconstruction by its place among those in progress; otherwise the
oldest job of the software queue ends. -/
def execParityJobDone (recon : Option (Fin 65536)) (s : State) : Host.Outcome State Fault Refusal :=
  .next <|
    match recon with
    | none => s.peDone
    | some i => match s.cm.recons[i.val]? with
      | some r => (s.reconDone r).chanSweep
      | none => s

/-! Looking a read up. -/

/-- Earlier commands of the same SQ, still in flight, that overlap and have not taken effect (R460): a write that is not
durable, a read not yet captured. A DEALLOCATE overlaps with all of its volume until its list is read. -/
def State.blocked (s : State) (c : Cmd) : Bool :=
  let rng (x : Cmd) : Option (List (Nat × Nat)) := if x.opc = 6 then x.ranges else some [(x.block, x.nblk)]
  let meet (a b : Option (List (Nat × Nat))) : Bool := match a, b with
    | some l, some m => l.any (fun p => m.any (fun q => decide (p.1 < q.1 + q.2) && decide (q.1 < p.1 + p.2)))
    | _, _ => true
  s.cm.table.any (fun e =>
    let x := e.2
    x.qid == c.qid && decide (x.id < c.id) && x.vol == c.vol && x.status.isNone &&
      (((x.opc == 2 || x.opc == 6 || x.opc == 7) && !x.lastDurable) || ((x.opc == 1 || x.opc == 3) && !x.started)) &&
      meet (rng x) (rng c))

/-- A directory entry a read may not capture once more (R552). -/
def State.refFull (s : State) (v b n : Nat) : Bool :=
  s.bm.ed.any (fun x => x.2.vol == v && decide (x.2.first < b + n) && decide (b < x.2.first + x.2.count) && decide (x.2.ref ≥ 63))

/-- One block of a read is looked up (R342, R447, R458): forfeited, in buffer or journal, or on the medium. A CLEAN block
that cannot be used is dropped and read from the medium (R473, R538). -/
def State.lookBlock (s : State) (id : Nat) (i : Nat) : State :=
  let c := s.cmd id
  let b := c.block + i
  let dl := c.taken + s.cmdDl c
  let miss (t : State) : State := (t.inc BM_ED_MISS_CNT_COUNT).blockWait (some id) c.vol b dl c.taken false false
  if s.ftHas c.vol b then s.blockFail id i 0x0102
  else match s.edFind c.vol b with
    | some (k, e) =>
      if e.kind = kClean then
        let a := e.loc + 4096 * (b - e.first)
        if c.opc = 5 then miss s
        else if s.bBad a 4096 then miss (s.edSet (s.bm.ed.drop k))
        else if s.cleanWrong k e b then
          let s := (s.sat CM_E2E_CNT_COUNT 1).fault CM_STAT_E2E 6 0 0x0B02 (pk [(c.vol, 6), (b, 40)])
          miss ((s.edSet (s.bm.ed.drop k)).cmdUp id (fun x => { x with again := x.again ++ [i] }))
        else
          let s := (s.inc BM_ED_HIT_CNT_COUNT).bmU (fun x => { x with ed := x.ed.ins k { e with ref := e.ref + 1 } })
          let s := s.cmdUp id (fun x => { x with caps := x.caps ++ [(k, e.jseq)], near := x.near + 1 })
          let s := match s.bm.ed.find k with
            | some e1 => s.heatUp k e1
            | none => s
          let s := if e.ahead then (s.inc CM_RA_HIT_CNT_COUNT).cmdUp id (fun x => { x with raHit := true }) else s
          s.blockOk id i (s.bRd a 4096)
      else
        let s := s.inc BM_ED_HIT_CNT_COUNT
        if c.opc = 5 then s.blockOk id i 0
        else
          let s := s.bmU (fun x => { x with ed := x.ed.ins k { e with ref := e.ref + 1 } })
          let s := s.cmdUp id (fun x => { x with caps := x.caps ++ [(k, e.jseq)], near := x.near + 1 })
          match s.jRec e.jseq with
          | some r => s.blockOk id i (r.at_ b)
          | none => s.blockOk id i 0
    | none => miss s

/-- The tracker of an SQ sees a read, and read-ahead starts or goes on (R466). -/
def State.readAhead (s : State) (c : Cmd) : State :=
  if (s.ctx c.qid).seqDet = 0 then s
  else
    let old := s.cm.trackers.find? (fun t => t.qid == c.qid)
    let fin := c.block + c.nblk
    let t : RaTracker := match old with
      | some t => if t.vol = c.vol && t.next = c.block then
          { t with next := fin, run := t.run + 1, unread := t.unread - min t.unread c.nblk }
        else { qid := c.qid, vol := c.vol, next := fin, run := 0 }
      | none => { qid := c.qid, vol := c.vol, next := fin, run := 0 }
    let depth := 16 * s.g CM_RA_CFG_DEPTH
    let go := depth ≠ 0 && decide (t.run ≥ atLeast1 (s.g CM_RA_CFG_TRIG)) && decide (2 * t.unread ≤ depth)
    let from_ := max fin t.ahead
    let upTo_ := min (fin + depth) (s.volCap c.vol)
    let t' := if go then { t with ahead := max t.ahead upTo_, unread := t.unread + (upTo_ - from_) } else t
    let s := (s.cmU (fun m => { m with
      trackers := (t' :: m.trackers.filter (fun x => x.qid ≠ c.qid)).take 4096 })).cmOcc
    if go then
      State.each ((upTo (upTo_ - from_)).map (fun i => from_ + i)) (fun b u =>
        if (u.edFind c.vol b).isSome || u.ftHas c.vol b || u.cm.waits.any (fun w => w.vol == c.vol && w.block == b) then u
        else u.blockWait none c.vol b (c.taken + u.cmdDl c + 1000000 * u.g CM_RA_CFG_LEAD) u.now true false) s
    else s

/-- Commands take steps now: CM is not OFF, no halt (R432), no reset (R476) and no activation past its drain; I/O opcodes
wait until AR is ON (R273), and no medium is served in SAFE. -/
def State.mayStep (s : State) (c : Cmd) : Bool :=
  (s.g CM_CTL_STATE = stOn || s.g CM_CTL_STATE = stStopping) && !s.is QM_HALT_HALTED && s.cm.resetting.isNone &&
    c.status.isNone && !c.started && (c.opc ≥ 0x40 ||
      (s.g AR_CTL_STATE = stOn && bitOf s.rb.wait c.vol = 0 && bitOf s.bm.hold c.vol = 0 && !(s.mode = mSafe)))

/-- A command of an opcode that may run its step now. -/
def State.ready (s : State) (id opc : Nat) : Option Cmd :=
  match s.cm.table.find id with
  | some c => if c.opc = opc && s.mayStep c then some c else none
  | none => none

/-- READ, READ_STREAM and VERIFY (R445, R447, R464). -/
def State.opRead (s : State) (c : Cmd) : State :=
  if s.blocked c || s.refFull c.vol c.block c.nblk then s
  else if s.frozen c.vol then s.complete c.id 0x0102 0
  else
    let s := s.cmdUp c.id (fun x => { x with started := true, left := c.nblk })
    let s := State.each (upTo c.nblk) (fun i t => t.lookBlock c.id i) s
    let s := s.cmdUp c.id (fun x => { x with medium := decide (x.left > 0) && x.status.isNone })
    let s := if c.opc = 5 then s else s.readAhead c
    s.chanSweep

/-! Writes. -/

/-- Runs of at most 16 blocks that stay within one stripe (R282): first block and count. -/
def State.splitRun (s : State) (v : Nat) : Nat → Nat → Nat → List (Nat × Nat)
  | 0, _, _ => []
  | _ + 1, _, 0 => []
  | fuel + 1, b, n =>
    let g := s.geo (s.slotOf v b)
    let ks := atLeast1 (g.k * g.sz)
    let k := min (min n 16) (ks - b % ks)
    (b, k) :: State.splitRun s v fuel (b + k) (n - k)

/-- The DATA records of a write over ranges of a volume (R279, R282). `data` gives a block; none for zeroes. -/
def State.dataRecs (s : State) (grp : Option Nat) (qid cid v : Nat) (fua : Bool) (rs : List (Nat × Nat)) (data : Option (Nat → Nat)) :
    List JRec :=
  let runs := rs.flatMap (fun r => s.splitRun v (r.2 + 1) r.1 r.2)
  runs.zipIdx.map (fun x =>
    let (b, n) := x.1
    let g := s.geo (s.slotOf v b)
    let us := (upTo n).map (fun i => (b + i) % atLeast1 g.sz)
    { typ := tData, len := if data.isNone then 1 else 1 + 64 * n, last := decide (x.2 + 1 = runs.length), fua := fua, zero := data.isNone,
      qid := qid, vol := v, cid := cid, nblk := n, block := b, stripe := b / atLeast1 (g.k * g.sz),
      u0 := (us.min?).getD 0, u1 := us.foldl max 0,
      sz := g.sz,
      jmask := (upTo n).foldl (fun m i => setBit m (((b + i) % atLeast1 (g.k * g.sz)) / atLeast1 g.sz)) 0,
      data := match data with
        | some f => (upTo n).map (fun i => (b + i, f (b + i)))
        | none => [],
      cmd := grp })

/-- Blocks that lie in the window of a reshape whose writes wait (R349). -/
def State.windowWaits (s : State) (v : Nat) (rs : List (Nat × Nat)) : Bool :=
  s.rb.winHold && s.g RB_RS_STAT_VOL = v &&
    (let g := s.geo (s.g RB_RS_STAT_SHADOW)
     let ks := atLeast1 (g.k * g.sz)
     s.rb.moved.any (fun n => rs.any (fun r => decide (r.1 < (n + 1) * ks) && decide (n * ks < r.1 + r.2))))

/-- A write whose data is complete is journalled (R282–R286, R344), unless it waits for an earlier command (R460) or for a
reshape window (R349). -/
def State.journal (s : State) (id : Nat) (rs : List (Nat × Nat)) (data : Option (Nat → Nat)) : State :=
  let c := s.cmd id
  if s.blocked c || s.windowWaits c.vol rs then s.cmdUp id (fun x => { x with held := true })
  else if s.frozen c.vol then s.complete id 0x0102 0
  else
    let s := s.cmdUp id (fun x => { x with held := false })
    let bs := rs.flatMap (fun r => (upTo r.2).map (fun i => r.1 + i))
    match s.ftDropAll c.vol (bs.filter (fun b => s.ftHas c.vol b)) with
    | none => (s.freeze c.vol).complete id 0x0102 0
    | some _ => s.jnQueue (s.dataRecs (some id) c.qid c.cid c.vol (c.fua || c.solo) rs data)

/-- The block of a command's gathered data. -/
def Cmd.blk (c : Cmd) (b : Nat) : Nat := c.buf / 2 ^ (32768 * (b - c.block)) % 2 ^ 32768

/-- Data of a write stands in the buffer and its guard values, where it has them, agree (R471–R473). -/
def State.writeData (s : State) (id : Nat) : State :=
  let c := s.cmd id
  let wrong := if c.guard then (upTo c.nblk).find? (fun i => c.gbuf / 2 ^ (32 * i) % 2 ^ 32 ≠ vcrc c.vol (c.block + i) (c.blk (c.block + i))) else none
  match wrong with
  | some i =>
    ((s.sat CM_E2E_CNT_COUNT 1).fault CM_STAT_E2E 6 0 0x0B02 (pk [(c.vol, 6), (c.block + i, 40)])).complete id 0x0104 0
  | none => s.journal id [(c.block, c.nblk)] (some c.blk)

/-- A read for a command's guard list waits on a line. -/
def State.guardWaits (s : State) (id line : Nat) : Bool :=
  s.hc.fillWait.contains (line, .guard id) || (match s.hcFind line with
    | some (_, l) => l.waiters.contains (.guard id)
    | none => false)

/-- The guard list of a write is read line by line (R474, R482); the values of one line come with one read. Its channel, which
a fault pauses (R520), is then released. -/
def State.guardIn (s : State) (id : Nat) : State :=
  let c := s.cmd id
  if c.gleft.isEmpty then s
  else
    let s := State.each c.gleft (fun a t =>
      if !(t.cmd id).gleft.contains a then t
      else match t.translate a 4 false with
      | none => match c.chan with
        | some n => (t.dFault n (t.dch n).fin a).dFaultSettle n
        | none => t
      | some host =>
        if t.guardWaits id (host / 128) then t
        else
          let again := t.hcServed (host / 128)
          let (hit, t) := t.hcRead (host / 128) (.guard id) 3
          let t := if again then t else t.hcTrack 3 (host / 128) 0 (fun _ => true) (fun _ => 3)
          if !hit then t
          else
            let line := t.hcData (host / 128)
            State.each ((t.cmd id).gleft.filter (fun b => decide (b / 128 = a / 128))) (fun b u =>
              u.cmdUp id (fun x => { x with gbuf := overlay x.gbuf (b - c.gptr) 4 (line / 2 ^ (8 * (b % 128))), gleft := x.gleft.filter (· ≠ b) })) t) s
    if !(s.cmd id).gleft.isEmpty then s
    else
      let s := match (s.cmd id).chan with
        | some n => (s.dClear n).cmdUp id (fun x => { x with chan := none })
        | none => s
      s.writeData id

/-- The ranges of a DEALLOCATE (R446): none where some reserved byte is not 0 or COUNT is 0 or too large. -/
def Cmd.deallocs (c : Cmd) : Option (List (Nat × Nat)) :=
  let e (i : Nat) : Nat := c.buf / 2 ^ (128 * i) % 2 ^ 128
  if (upTo c.nblk).any (fun i => bitsOf (e i) 40 24 ≠ 0 || bitsOf (e i) 96 32 ≠ 0 || bitsOf (e i) 64 32 = 0 || bitsOf (e i) 64 32 > 16777216) then none
  else some ((upTo c.nblk).map (fun i => (bitsOf (e i) 0 40, bitsOf (e i) 64 32)))

/-- The whole list of a DEALLOCATE is read (R446). -/
def State.deallocData (s : State) (id : Nat) : State :=
  let c := s.cmd id
  match c.deallocs with
  | none => s.complete id 0x0002 0
  | some rs =>
    if rs.any (fun r => decide (r.1 + r.2 > s.volCap c.vol)) then s.complete id 0x0003 0
    else (s.cmdUp id (fun x => { x with ranges := some rs })).journal id rs none

/-- Writes held for an earlier command or a window are tried again (R460). -/
def State.heldRetry (s : State) : State :=
  State.each ((s.cm.table.filter (fun x => x.2.held && x.2.status.isNone)).map (·.1)) (fun id t =>
    let c := t.cmd id
    if c.opc = 6 then t.journal id (c.ranges.getD []) none
    else if c.opc = 7 then t.journal id [(c.block, c.nblk)] none
    else t.journal id [(c.block, c.nblk)] (some c.blk)) s

/-! FLUSH. -/

/-- A covered record is on the medium but for strips held for UNAVAILABLE members (R470): written, and whether some strip
is held. -/
def State.covered (s : State) (j : Nat) : Bool × Bool :=
  match s.jRec j with
  | none => (true, false)
  | some r =>
    if r.retired || s.jn.retiring.contains j then (true, false)
    else
      let left := r.blocks.filter (fun b => !r.written.contains b)
      let inHeld (b : Nat) : Bool := s.ar.stripes.any (fun w => w.going && w.strips.all (fun x => x.held) &&
        (match s.jRec w.jseq with
          | some x => x.uses.contains (j, b)
          | none => false))
      (left.all inHeld, !left.isEmpty)

/-- A FLUSH whose writes are on the medium completes (R469, R470). -/
def State.flushDone (s : State) (c : Cmd) : State :=
  let l := c.cover.map (fun j => s.covered j)
  if l.all (·.1) then s.complete c.id 0 (b2n (l.any (·.2))) else s

/-! Enabling a function (R53–R56). -/

def State.enableFn (s : State) (f : Func) : State :=
  let s := s.on (Func.en f)
  if s.g (Func.st f) = stOff then s.p (Func.st f) stStarting
  else if s.g (Func.st f) = stStopping then s.on (Func.pend f)
  else s

/-- Stripe writes of AR and what else ends when a shut-down begins; the rest waits for its end. -/
def State.disableFn (s : State) (f : Func) : State :=
  let s := s.off (Func.en f)
  if s.g (Func.st f) = stOn then s.p (Func.st f) stStopping
  else if s.g (Func.st f) = stStopping then s.off (Func.pend f)
  else s

/-- VOL_ENABLE and VOL_DISABLE that wait for a volume complete (R449). -/
def State.volWaits (s : State) (v : Nat) : State :=
  let st := s.g (AR_VOL_CTL_STATE v)
  let done := s.cm.admin.filter (fun x => (s.cmd x.1).p0 % 64 = v &&
    ((x.2 = 0x41 && (st = stOn || st = stOff)) || (x.2 = 0x42 && st = stOff)))
  let s := s.cmU (fun m => { m with admin := m.admin.filter (fun x => !done.contains x) })
  State.each done (fun x t =>
    if x.2 = 0x41 && st = stOff then t.complete x.1 0x030A (t.g (AR_VOL_STAT_CFG_WHY v)) else t.complete x.1 0 0) s

end Sys2Proof.Machine
end

