-- ==== Sys2Proof/Machine/Rebuild.lean ====
section
/-! DEFINITION. Machine/Rebuild.lean: slow members, RB_CMD, rebuild passes, reshape and the background windows
(R317–R355). The operations of RB_CMD answer ERR, 0 where accepted; the register path and the opcodes share them. -/

namespace Sys2Proof.Machine

open Reg

/-! Slow members (R319). -/

/-- SLOW_TIMEOUT (R319): the expiry of the timer of an operation on a member is granted. -/
def execSlowTimeout (member : Fin 96) (mba : BitVec 40) (s : State) : Host.Outcome State Fault Refusal :=
  .next <|
    let m := member.val
    let is_ (t : SlowTimer) : Bool := t.member == m && t.mba == mba.toNat && !t.granted
    if s.mem m = memAvailable && s.rb.slow.any is_ && !s.timersHeld then
      let t := s.rbU (fun r => { r with slow := r.slow.map (fun (t : SlowTimer) => if is_ t then { t with granted := true } else t) })
      let t := ((t.declareFailed m false).sat RB_SLOW_CNT_COUNT 1).fault RB_STAT_SLOW_FAIL 12 0 0x0801 0
      t.stripeCheck.careFrom s
    else s

/-! RB_CMD (R321, R322, R345, R346, R352, R355). -/

/-- Declaring a member FAILED would give some enabled volume COND BROKEN (R321). -/
def State.wouldBreak (s : State) (m : Nat) : Bool :=
  (upTo 64).any (fun v =>
    let g := s.geo v
    s.volOn v && g.set.contains m &&
      (let t := s.setMem m memFailed
       let l := t.failList v
       let t := if l.length < 4 then t.setFail v (l ++ [m]) else t
       decide (condOf (t.worst v) g.p = 3)))

/-- A member is declared FAILED by command (R321). -/
def State.rbDeclare (s : State) (m : Nat) : State :=
  (((s.declareFailed m false).note RB_STAT_CMD_FAIL 0x080A 12 (pk [(m, 7)])).stripeCheck).careFrom s

def State.rbFail (s : State) (m : Nat) : Nat × State :=
  if m ≥ 96 || s.mem m = memAbsent || s.mem m = memFailed then (4, s)
  else if s.wouldBreak m then (3, s)
  else (0, s.rbDeclare m)

/-- CLEAR (R322): back to UNAVAILABLE, and on where no cause of R256 holds (R257). -/
def State.rbClear (s : State) (m : Nat) : Nat × State :=
  let listed := s.rb.ck.any (fun x => (upTo 4).any (fun i => bitsOf x.2.fail (8 * i) 7 == m))
  if s.mode ≠ mMaint then (1, s)
  else if m ≥ 96 || s.mem m ≠ memFailed || listed || (upTo 64).any (fun v =>
      s.g (AR_VOL_CTL_STATE v) ≠ stOff && (s.geo v).set.contains m) then (4, s)
  else
    let s := (((s.setMem m memUnavailable).arU (fun a => { a with
      order := a.order.filter (· ≠ m) ++ [m], granted := a.granted.filter (· ≠ m) })).note AR_STAT_MEMBER_UNAVAIL 0x0601 11
        (pk [(m, 7)])).devWrite
    (0, if s.ar.causes.getD m 0 = 0 && !s.heldFor m then s.memberIn m
      else (if s.ar.causes.getD m 0 = 0 then s.setMem m memCatchup else s).spillCheck)

/-- RESHAPE (R346). -/
def State.rbReshape (s : State) (v w : Nat) : Nat × State :=
  let g := s.geo v
  let h := s.geo w
  let meets (x : Geo) : Bool := x.set.any (fun m => h.set.contains m) && decide (h.base < x.base + x.rows * x.sz) &&
    decide (x.base < h.base + h.rows * h.sz)
  if !s.rbOn then (2, s)
  else if v ≥ 64 || w ≥ 64 || !s.volOn v || s.g (AR_VOL_CTL_STATE w) ≠ stOff then (4, s)
  else if s.anyPass || s.g RB_RS_STAT_STATE ≠ rsNone then (6, s)
  else if s.volCheck w true ≠ 0 || (upTo 64).any (fun x => x ≠ w && s.g (AR_VOL_CTL_STATE x) ≠ stOff && meets (s.geo x)) || meets g ||
      h.cap < g.cap || h.set.any (fun m => s.mem m == memFailed) then (5, s)
  else
    let s := (((s.p RB_RS_STAT_VOL v).p RB_RS_STAT_SHADOW w).p RB_RS_STAT_STATE rsRun).setMark 0
    let s := (s.off RB_RS_STAT_WINDOW).off RB_RS_STAT_ROUND
    let s := s.rbU (fun r => { r with moved := [], dirty := [], winHold := false, pausing := false })
    (0, s.ckPut v (fun c => { c with
      reshape := true, paused := false, shadow := w, geomCrc := s.geomCrc v, newCrc := s.geomCrc w, mark := 0 }))

/-- PAUSE (R352): it takes effect at the next checkpoint. -/
def State.rbPause (s : State) : Nat × State :=
  if !s.rbOn then (2, s)
  else if s.g RB_RS_STAT_STATE ≠ rsRun then (4, s)
  else (0, s.rbU (fun r => { r with pausing := true }))

/-- RESUME (R352). -/
def State.rbResume (s : State) : Nat × State :=
  let v := s.g RB_RS_STAT_VOL
  let st := s.g RB_RS_STAT_STATE
  if !s.rbOn then (2, s)
  else if st = rsPaused then (0, (s.p RB_RS_STAT_STATE rsRun).ckPut v (fun c => { c with paused := false }))
  else if st = rsWait then
    if s.geomCrc (s.g RB_RS_STAT_SHADOW) = (s.rb.ck.getD v {}).newCrc then
      (0, ((s.p RB_RS_STAT_STATE rsRun).rbU (fun r => { r with wait := clrBit r.wait v })).ckPut v (fun c => { c with paused := false }))
    else (5, s)
  else (4, s)

/-- FT_CLEAR (R345). -/
def State.rbFtClear (s : State) (v : Nat) : Nat × State :=
  if s.mode ≠ mMaint then (1, s)
  else if v ≥ 64 then (4, s)
  else
    let s := s.rbU (fun r => { r with ft := r.ft.filter (fun x => x.2.vol ≠ v) })
    let (f, i) := volBit RB_FROZEN_LO_VOLS RB_FROZEN_HI_VOLS v
    (0, if s.frozen v then (s.offBit f i).ckPut v (fun c => { c with frozen := false }) else s)

/-- FORGET (R355). -/
def State.rbForget (s : State) (v : Nat) : Nat × State :=
  if v ≥ 64 || s.g (AR_VOL_CTL_STATE v) ≠ stOff then (4, s)
  else (0, s.rbU (fun r => { r with ck := r.ck.drop v }))

/-- An operation through RB_CMD shows its ERR. -/
def State.rbShow (r : Nat × State) : State := r.2.p RB_CMD_ERR r.1

def execRbFail (arg : Fin 128) (s : State) : Host.Outcome State Fault Refusal :=
  .next (State.rbShow ((s.p RB_CMD_ARG arg.val).rbFail arg.val))

def execRbClear (arg : Fin 128) (s : State) : Host.Outcome State Fault Refusal :=
  .next (State.rbShow ((s.p RB_CMD_ARG arg.val).rbClear arg.val))

def execRbReshape (arg : Fin 128) (shadow : Fin 64) (s : State) : Host.Outcome State Fault Refusal :=
  .next (State.rbShow (((s.p RB_CMD_ARG arg.val).p RB_CMD_SHADOW shadow.val).rbReshape arg.val shadow.val))

def execRbPause (s : State) : Host.Outcome State Fault Refusal := .next (State.rbShow s.rbPause)

def execRbResume (s : State) : Host.Outcome State Fault Refusal := .next (State.rbShow s.rbResume)

def execRbFtClear (arg : Fin 128) (s : State) : Host.Outcome State Fault Refusal :=
  .next (State.rbShow ((s.p RB_CMD_ARG arg.val).rbFtClear arg.val))

def execRbForget (arg : Fin 128) (s : State) : Host.Outcome State Fault Refusal :=
  .next (State.rbShow ((s.p RB_CMD_ARG arg.val).rbForget arg.val))

/-! Rebuild passes (R329–R336). -/

/-- Runs of consecutive offsets: first and last. -/
def runs : List Nat → List (Nat × Nat)
  | [] => []
  | u :: t => match runs t with
    | (a, b) :: r => if a = u + 1 then (u, b) :: r else (u, u) :: (a, b) :: r
    | [] => [(u, u)]

/-- What a row's rebuild does with the unreadable sources of one stripe (R333, R334): those within the parity are queued for
rewrite, and offsets with more erasures than the parity are forfeited and written. `cur` holds the blocks of the stripe's data
strips, read or rebuilt; the WSEQ of the sectors read is no operand, so a rewrite carries a free value for it. -/
def State.rowStripe (s : State) (v stripe : Nat) (lost : List (Nat × Nat)) (cur : Tbl Nat) : State :=
  let g := s.geo v
  let row := stripe / atLeast1 g.q
  let gone (u : Nat) : List Nat := (upTo g.w).filter (fun p => lost.contains (p, u) || (s.posMember v stripe p).isNone)
  let us := (upTo g.sz).filter (fun u => lost.any (fun x => x.2 == u) || decide ((gone u).length > g.p))
  let bad := us.filter (fun u => decide ((gone u).length > g.p))
  let s := State.each (us.filter (fun u => !bad.contains u)) (fun u t =>
    State.each ((upTo g.w).filter (fun p => lost.contains (p, u))) (fun p t =>
      match t.posMember v stripe p with
      | some m =>
        let (w, t) := t.free
        t.queueRewrite m (g.base + row * g.sz + u) (posBlock g.k p ((upTo g.k).map (fun j => cur.getD (g.blockAt stripe j u) 0)))
          (stripMeta (decide (p ≥ g.k)) w)
      | none => t) t) s
  let s := State.each (runs bad) (fun r t => t.stripeStart v stripe r.1 r.2 (cur.filter (fun x =>
    !(upTo g.k).any (fun j => bad.any (fun u => (gone u).contains j && g.blockAt stripe j u == x.1)))) 3) s
  if bad.isEmpty then s else s.forfeitEvent

/-- Spare strips a row's rebuild writes (R329). -/
def State.rowStrips (s : State) (v row : Nat) : Nat :=
  let g := s.geo v
  ((s.spares v g row).filter (fun x => (upTo (g.q * g.w)).any (fun pos => s.member g row pos == x.1))).length

/-- A pass ends (R336). -/
def State.passEnd (s : State) (v : Nat) : State :=
  let s := (s.setActiveVol v false).ckPut v (fun c => { c with pass := false, cursor := s.g (RB_CURSOR_ROW v) })
  (s.rbU (fun r => { r with since := r.since.drop v })).note RB_STAT_REBUILD_DONE 0x0803 12 0

/-- REBUILD_ROW_DONE (R329–R336): the row at the cursor. `lost` names its unreadable source sectors as stripe, position and
offset, `cur` the medium's current data of the blocks that could be read, `bad` a spare's member whose write failed. -/
def execRebuildRowDone (v : Fin 64) (lost : List (Nat × Nat × Nat)) (cur : List (Nat × Block)) (bad : Option (Fin 96)) (s : State) :
    Host.Outcome State Fault Refusal :=
  .next <|
    let n := v.val
    let g := s.geo n
    let row := s.g (RB_CURSOR_ROW n)
    let free := !(upTo g.q).any (fun i => s.rb.claims.contains (n, row * g.q + i))
    let run := (s.g RB_CTL_STATE = stOn || s.g RB_CTL_STATE = stStopping) && s.rbActive n && s.volOn n
    if !run || !free then s
    else match bad with
      | some m => if (s.spares n g row).any (fun x => x.2.1 == m.val) then s.rbDeclare m.val else s
      | none =>
        if row ≥ g.rows then s.passEnd n
        else
          let c := cur.map (fun x => (x.1, x.2.toNat))
          let s := State.each (upTo g.q) (fun i t =>
            t.rowStripe n (row * g.q + i) ((lost.filter (fun x => x.1 == row * g.q + i)).map (·.2)) c) s
          let s := (s.p RB_STRIP_CNT_COUNT (s.g RB_STRIP_CNT_COUNT + s.rowStrips n row)).p (RB_CURSOR_ROW n) (row + 1)
          let k := s.rb.since.getD n 0 + 1
          let s := if k ≥ 64 then (s.rbU (fun r => { r with since := r.since.putD n 0 0 })).ckPut n (fun c => { c with cursor := row + 1 })
            else s.rbU (fun r => { r with since := r.since.putD n 0 k })
          if row + 1 ≥ g.rows then s.passEnd n else s

/-! Reshape (R347–R353). -/

/-- The next new-layout stripe to move, and the stripe count of the new layout. -/
def State.rsNext (s : State) : Nat := s.mark + s.rb.moved.length
def State.rsCount (s : State) : Nat := let g := s.geo (s.g RB_RS_STAT_SHADOW); g.rows * g.q

/-- RESHAPE_STRIPE_MOVED (R348, R349, R351): a new-layout stripe, or a dirty one again, is carried into the new layout once
every DATA record that touches it has retired. `cur` is what the old layout gave; a block it does not give is lost. -/
def execReshapeStripeMoved (stripe : BitVec 40) (cur : List (Nat × Block)) (s : State) : Host.Outcome State Fault Refusal :=
  .next <|
    let v := s.g RB_RS_STAT_VOL
    let w := s.g RB_RS_STAT_SHADOW
    let g := s.geo w
    let n := stripe.toNat
    let bs := (upTo (g.k * g.sz)).map (fun i => n * (g.k * g.sz) + i)
    let cap := s.volCap v
    let touched := s.jn.recs.any (fun r => r.typ == tData && !r.retired && bs.any (fun b => r.holds v b))
    let fresh := n = s.rsNext && n < s.rsCount && s.rb.moved.length < 64
    if (s.g RB_CTL_STATE = stOn || s.g RB_CTL_STATE = stStopping) && s.g RB_RS_STAT_STATE = rsRun && (fresh || s.rb.dirty.contains n) &&
        !touched && !s.rb.claims.contains (w, n) then
      let given := bs.filterMap (fun b =>
        if b ≥ cap || s.ftHas v b then some (b, 0)
        else (cur.find? (fun x => x.1 == b)).map (fun x => (b, x.2.toNat)))
      let s := s.stripeStart w n 0 (g.sz - 1) given 4
      let s := s.rbU (fun r => { r with
        moved := if r.moved.contains n then r.moved else r.moved ++ [n], dirty := r.dirty.filter (· ≠ n) })
      s.p RB_RS_STAT_WINDOW s.rb.moved.length
    else s

/-- A slot's AR_VOL_ geometry registers. -/
def geomRegs (v : Nat) : List Nat :=
  [AR_VOL_GEOM v, AR_VOL_SET v 0, AR_VOL_SET v 1, AR_VOL_SET v 2, AR_VOL_MBA_LO v, AR_VOL_MBA_HI v, AR_VOL_ROWS v, AR_VOL_PAT v]

/-- A reshape ends (R353). -/
def State.rsDone (s : State) : State :=
  let v := s.g RB_RS_STAT_VOL
  let w := s.g RB_RS_STAT_SHADOW
  let s := State.each (upTo 8) (fun i t => t.wr ((geomRegs v).getD i 0) (t.rd ((geomRegs w).getD i 0))) s
  let s := State.each (upTo 8) (fun i t => t.wr ((geomRegs w).getD i 0) (resetVal ((geomRegs w).getD i 0))) s
  let s := s.jnU (fun j => { j with recs := j.recs.map (fun (r : JRec) => if r.typ = tStripe && r.vol = w then { r with vol := v } else r) })
  let s := s.arU (fun a => { a with stripes := a.stripes.map (fun (x : StripeWrite) => if x.vol = w then { x with vol := v } else x) })
  let s := s.rbU (fun r => { r with
    claims := r.claims.map (fun c => if c.1 = w then (v, c.2) else c), moved := [], dirty := [], winHold := false, pausing := false })
  let s := ((s.off RB_RS_STAT_VOL).off RB_RS_STAT_SHADOW).off RB_RS_STAT_STATE
  let s := (((s.off RB_RS_STAT_WINDOW).off RB_RS_STAT_ROUND).setMark 0).showCap v
  let s := s.ckPut v (fun c => { c with reshape := false, paused := false, shadow := 0, newCrc := 0, mark := 0, geomCrc := s.geomCrc v })
  let s := s.note RB_STAT_RS_DONE 0x0807 12 0
  if (s.failList v).isEmpty then s else s.passStart v

/-- RESHAPE_PAUSE commands complete at the checkpoint (R449). -/
def State.pauseWaits (s : State) : State :=
  let l := s.cm.admin.filter (fun x => x.2 == 0x47)
  State.each l (fun x t => t.complete x.1 0 0) (s.cmU (fun m => { m with admin := m.admin.filter (fun x => x.2 ≠ 0x47) }))

/-- The checkpoint is written (R350). -/
def State.rsCheckpoint (s : State) : State :=
  let v := s.g RB_RS_STAT_VOL
  let m := s.rsNext
  let s := ((s.setMark m).off RB_RS_STAT_WINDOW).off RB_RS_STAT_ROUND
  let s := s.rbU (fun r => { r with moved := [], dirty := [], winHold := false })
  let s := s.ckPut v (fun c => { c with mark := m })
  let s := if m ≥ s.rsCount then s.rsDone
    else if s.rb.pausing then
      ((s.p RB_RS_STAT_STATE rsPaused).rbU (fun r => { r with pausing := false })).ckPut v (fun c => { c with paused := true })
    else s
  (if s.g RB_RS_STAT_STATE = rsRun then s else s.pauseWaits).heldRetry

/-- RESHAPE_CHECKPOINT (R349, R350, R352): with 64 stripes moved, or the last ones, and none dirty, MARK is written; with
dirty ones left a round begins, and after four rounds host writes to the window wait. -/
def execReshapeCheckpoint (s : State) : Host.Outcome State Fault Refusal :=
  .next <|
    let w := s.g RB_RS_STAT_SHADOW
    let full := s.rb.moved.length = 64 || s.rsNext ≥ s.rsCount
    let running := s.ar.stripes.any (fun x => x.vol == w && !s.stripeHeld x) || s.jn.waiting.any (fun r => r.typ == tStripe && r.vol == w)
    if s.g RB_RS_STAT_STATE = rsRun && (s.g RB_CTL_STATE = stOn || s.g RB_CTL_STATE = stStopping) && full && !running then
      if s.rb.dirty.isEmpty then s.rsCheckpoint
      else
        let r := s.g RB_RS_STAT_ROUND
        let s := s.p RB_RS_STAT_ROUND (min 4 (r + 1))
        if r ≥ 4 then s.rbU (fun x => { x with winHold := true }) else s
    else s

/-- A forfeit entry as 16 bytes (R340). -/
def FtEnt.bits (e : FtEnt) : Nat :=
  let b := pk [(e.first, 40), (e.vol, 6), (0, 2), (e.count, 9), (e.cause, 4), (0, 2), (1, 1), (e.hours, 32)]
  b + Code.crc32c 96 b * 2 ^ 96

/-- The forfeit table as it lies in MRAM, entry by entry. -/
def State.ftBits (s : State) (i : Nat) : Nat := match s.rb.ft.find i with
  | some e => e.bits
  | none => 0

/-- FT_DATA_READ (R355). -/
def State.ftRead (s : State) : State :=
  let i := s.g RB_FT_ADDR_INDEX
  let w := s.g RB_FT_ADDR_WORD
  let s := { s with rdata := BitVec.ofNat 32 (bitsOf (s.ftBits i) (32 * w) 32) }
  let s := s.p RB_FT_ADDR_WORD (w + 1)
  if w = 3 then s.p RB_FT_ADDR_INDEX (i + 1) else s

def execFtDataRead (s : State) : Host.Outcome State Fault Refusal := .next s.ftRead

/-- BACKGROUND_WINDOW_END (R337, R338): the accounting of actuator time starts again. -/
def execBackgroundWindowEnd (s : State) : Host.Outcome State Fault Refusal :=
  .next (s.rbU (fun r => { r with usedN := [], usedP := [] }))

/-! RB start-up and shut-down (R325, R327, R354, R748). -/

/-- Start-up ends: FAILED members are restored, and passes and reshapes that a shut-down interrupted resume. -/
def State.rbStart (s : State) : State :=
  let s := match s.rb.dev with
    | none => s.fault RB_STAT_CKPT_BAD 12 8 0x0809 0
    | some (_, mask) => (State.each ((upTo 96).filter (fun m => bitOf mask m = 1 && s.mem m ≠ memAbsent)) (fun m t => t.setMem m memFailed) s).spillCheck
  let s := s.p RB_CTL_STATE stOn
  State.each ((upTo 64).filter (fun v => s.volOn v && (s.rb.ck.find v).isSome)) (fun v t =>
    let c := t.rb.ck.getD v {}
    let t := t.when (c.reshape && t.g RB_RS_STAT_STATE = rsNone) (fun u => u.rsRestore v (if c.paused then rsPaused else rsRun))
    t.passResume v) s

/-- Shut-down ends: cursors are checkpointed, and slow timers are disarmed. A reshape stands at its checkpointed marker,
which goes on routing host I/O (R347, R748). -/
def State.rbStop (s : State) : State :=
  let s := State.each ((upTo 64).filter (fun v => s.rbActive v)) (fun v t =>
    (t.ckPut v (fun c => { c with pass := true, cursor := t.g (RB_CURSOR_ROW v) })).setActiveVol v false) s
  let s := s.rbU (fun r => { r with slow := r.slow.filter (·.granted), moved := [], dirty := [], winHold := false })
  ((s.off RB_RS_STAT_WINDOW).off RB_RS_STAT_ROUND).p RB_CTL_STATE stOff

end Sys2Proof.Machine
end

