-- ==== Sys2Proof/Machine/Bt.lean ====
section
/-! DEFINITION. Machine/Bt.lean: the firmware store, ROM boot, the gate, anti-rollback, staging and activation checks,
attestation and customer keys (R692–R717). -/

namespace Sys2Proof.Machine

open Reg

/-! The firmware store (R692, R693). -/

def erased : Nat := 2 ^ 32768 - 1

/-- First 4 KiB page of a slot. -/
def slotPage (slot : Nat) : Nat := 0x100 + 0x800 * slot

def State.fsPage (s : State) (p : Nat) : Nat := s.bt.store.getD p erased

/-- `n` bytes of the store from an address. -/
def State.fsRd (s : State) (a n : Nat) : Nat :=
  let p := a / 4096
  let k := (a % 4096 + n + 4095) / 4096
  ((upTo k).foldl (fun v i => v + s.fsPage (p + i) * 2 ^ (32768 * i)) 0) / 2 ^ (8 * (a % 4096)) % 2 ^ (8 * n)

/-- Pages are programmed, `v` from its byte 0 on. -/
def State.fsWr (s : State) (p k v : Nat) : State :=
  s.btU (fun b => { b with store := (upTo k).foldl (fun t i => t.putD (p + i) erased (v / 2 ^ (32768 * i) % 2 ^ 32768)) b.store })

/-- 64 KiB sectors are erased: those that begin within pages `p` to `p + k - 1`. -/
def State.fsErase (s : State) (p k : Nat) : State :=
  let first (x : Nat) : Bool := decide (p ≤ x / 16 * 16) && decide (x / 16 * 16 < p + k)
  s.btU (fun b => { b with store := b.store.filter (fun x => !first x.1) })

/-- A slot's header (R694). -/
def State.slotHdr (s : State) (slot : Nat) : Nat := s.fsRd (4096 * slotPage slot) 0x4000
/-- A stage body of a slot. -/
def State.slotBody (s : State) (slot h i : Nat) : Nat := s.fsRd (4096 * slotPage slot + Image.stOfs h i) (Image.stLen h i)

def State.btSlot (s : State) (i : Nat) : BtSlot := s.bt.slots.getD i {}
def State.btSlotUp (s : State) (i : Nat) (f : BtSlot → BtSlot) : State :=
  s.btU (fun b => { b with slots := b.slots.putD i {} (f (b.slots.getD i {})) })

/-- BT_STG shows a slot's staging state (R708). -/
def State.stgShow (s : State) (i : Nat) : State :=
  let x := s.btSlot i
  (((s.p BT_STG_SLOT i).p BT_STG_COMPLETE (b2n x.complete)).p BT_STG_WHY x.why).p BT_STG_NEXT x.next

/-- A boot record: its GEN and ACTIVE where it is valid (R693). -/
def State.bootRec (s : State) (copy : Nat) : Option (Nat × Nat) :=
  let b := s.fsRd (0x10000 * copy) 64
  if Image.bytes b 0 4 = 0x5A484252 && Image.bytes b 60 4 = Code.crc32c 480 (Image.bytes b 0 60) then
    some (Image.bytes b 4 4, Image.bytes b 8 1 % 2)
  else none

/-- The copy that is current (R693). -/
def State.bootCopy (s : State) : Option (Nat × Nat × Nat) :=
  match s.bootRec 0, s.bootRec 1 with
  | some a, some b => if b.1 > a.1 then some (1, b) else some (0, a)
  | some a, none => some (0, a)
  | none, some b => some (1, b)
  | none, none => none

/-! Fuses and measurements (R703, R704). -/

def State.stepBlown (s : State) (i : Nat) : Bool := bitOf s.bt.fuse (2 * i) = 1 || bitOf s.bt.fuse (2 * i + 1) = 1

/-- Consecutive blown steps from step 0. -/
def State.fuseCnt (s : State) : Nat := ((upTo 64).takeWhile (fun i => s.stepBlown i)).length

/-- Both fuses of the steps below a count are blown. -/
def State.blowTo (s : State) (n : Nat) : State :=
  s.btU (fun b => { b with fuse := (upTo (2 * min n 64)).foldl (fun f i => setBit f i) b.fuse })

def State.words8 (s : State) (f : Nat → RF) : Nat := (upTo 8).foldl (fun v n => v + s.g (f n) * 2 ^ (32 * n)) 0
def State.setWords8 (s : State) (f : Nat → RF) (v : Nat) : State := State.each (upTo 8) (fun n t => t.p (f n) (v / 2 ^ (32 * n))) s

/-- The firmware measurement takes one more digest (R703). -/
def State.measure (s : State) (h : Nat) : State :=
  s.setWords8 BT_MFW_DATA (Image.sha256 64 (s.words8 BT_MFW_DATA + h * 2 ^ 256))

/-- The key measurement follows the key table (R703). -/
def State.keysShow (s : State) : State :=
  let e (i : Nat) : Nat := match s.bt.keys.find i with
    | some k => 1 + k % 2 ^ 256 * 2 ^ 8
    | none => 0
  let m := Image.sha256 132 ((upTo 4).foldl (fun v i => v + e i * 2 ^ (264 * i)) 0)
  (s.p BT_KEYS_VALID ((upTo 4).foldl (fun v i => if (s.bt.keys.find i).isSome then v + 2 ^ i else v) 0)).setWords8 BT_MKEY_DATA m

def State.codeBytes (s : State) : Nat := s.g BM_CODE_SIZE_MIB * 2 ^ 20

/-! ROM boot (R697–R699, R702, R704). -/

/-- The first check of R696 a slot fails at boot, its mark counting as check 5 (R702); 0 none. -/
def State.slotCheck (s : State) (slot : Nat) : Nat :=
  let h := s.slotHdr slot
  let c := Image.headCheck h s.codeBytes s.fuseCnt s.bt.revoked
  if c ≠ 0 then c
  else if (s.btSlot slot).mark = some (Image.hdrDigest h) then 5
  else match (upTo 4).find? (fun i => Image.stTyp h i == 1) with
    | some i => if Image.sha256 (Image.stLen h i) (s.slotBody slot h i) = Image.stHash h i then 0 else 5
    | none => 1

/-- What a slot's header gives the registers while its image runs. -/
def State.runHdr (s : State) (slot : Nat) : State :=
  let h := s.slotHdr slot
  let s := (((s.p BT_BOOT_SLOT slot).p BT_SVN_SVN (Image.svn h)).p BT_SVN_VK (Image.vk h)).btU (fun b => { b with hdr := h })
  let s := (s.p MC_IFV_MINOR (Image.bytes h 0xC 1)).p MC_IFV_MAJOR (Image.bytes h 0xD 1)
  (s.setWords8 BT_MFW_DATA 0).measure (Image.hdrDigest h)

def State.slotBad (s : State) (slot why : Nat) : State :=
  (s.p BT_BOOT_WHY why).note BT_STAT_SLOT_BAD 0x1201 1 (pk [(slot, 1), (why, 3)])

/-- A slot that verified boots. -/
def State.bootSlot (s : State) (slot : Nat) : State :=
  let s := s.runHdr slot
  let h := s.bt.hdr
  let s := match (upTo 4).find? (fun i => Image.stTyp h i == 1) with
    | some i => s.measure (Image.stHash h i)
    | none => s
  ((s.p BT_BOOT_STAGE 1).off BT_GATE_DONE).stgShow (1 - slot)

/-- ROM_BOOT (R697): in BOOT, before a stage runs. -/
def execRomBoot (s : State) : Host.Outcome State Fault Refusal :=
  .next <|
    if s.mode ≠ mBoot || s.g BT_BOOT_STAGE ≠ 0 || s.is BT_STAT_NO_IMAGE then s
    else
      let s := s.btU (fun b => { b with fuse := (upTo 64).foldl (fun f i =>
        if bitOf f (2 * i) = 1 || bitOf f (2 * i + 1) = 1 then setBit (setBit f (2 * i)) (2 * i + 1) else f) b.fuse })
      let s := (s.p BT_SVN_FUSE_CNT s.fuseCnt).p BT_SVN_VK0_REVOKED (b2n s.bt.revoked)
      let s := State.each (upTo 4) (fun n t => t.p (BT_UID_DATA n) (Config.uid.toNat / 2 ^ (32 * n))) s
      let s := (s.setWords8 BT_DPK_DATA Config.devicePk.toNat).keysShow
      let first := match s.bootCopy with
        | some (_, _, a) => a
        | none => 0
      let w1 := s.slotCheck first
      if w1 = 0 then s.bootSlot first
      else
        let s := s.slotBad first w1
        let other := 1 - first
        let w2 := s.slotCheck other
        if w2 = 0 then ((s.bootSlot other).on BT_BOOT_FALLBACK).raise 0x1202 1 0
        else
          let s := (s.slotBad other w2).fault BT_STAT_NO_IMAGE 1 1 0x1203 0
          s.romLink

/-! The gate (R701, R702). -/

/-- The slot whose stages the gate loads. -/
def State.gateSlot (s : State) : Nat := s.bt.actSlot.getD (s.g BT_BOOT_SLOT)

/-- GATE (R701): `stage` is BT_GATE.STAGE. -/
def State.gateStart (s : State) : State :=
  let i := s.g BT_GATE_STAGE
  let t := Image.stTyp s.bt.hdr i
  if s.is BT_CMD_BUSY then s
  else if s.g BT_BOOT_STAGE = 0 || t < 2 || t > 4 || s.bit BT_GATE_DONE i then s.p BT_CMD_ERR 3
  else ((s.off BT_CMD_ERR).on BT_CMD_BUSY).btU (fun b => { b with gating := some i })

def execGate (s : State) : Host.Outcome State Fault Refusal := .next s.gateStart

/-- The stores and entries of a MICRO stage are written (R695). -/
def State.microLoad (s : State) (d : Nat) : State :=
  s.mcU (fun m => { m with
    micro := (m.micro.filter (fun x => decide (x.1 ≥ 0x3000))),
    nano := (m.nano.filter (fun x => decide (x.1 ≥ 0x700))),
    disp := (m.disp.filter (fun x => decide (x.1 ≥ 0xC0))) }) |>.mcU (fun m => { m with
    micro := (upTo 0x3000).foldl (fun t i => t.putD i 0 (Image.bytes d (4 * i) 4 % 2 ^ 28)) m.micro,
    nano := (upTo 0x700).foldl (fun t i => t.putD i 0 (Image.bytes d (49152 + 24 * i) 24)) m.nano,
    disp := (upTo 0xC0).foldl (fun t i => t.putD i 0 (Image.bytes d (92160 + 4 * i) 4)) m.disp,
    ue := m.ue.filter (fun a => !(decide (a < 0x3000) || (decide (a ≥ 16384) && decide (a < 16384 + 0x700)))) })

/-- A stage's body goes to its target. -/
def State.stageLoad (s : State) (typ len body : Nat) : State :=
  if typ = 2 then
    let base := s.pair BM_CODE_BASE_LO BM_CODE_BASE_HI
    (s.bPut base len body).bPut (base + s.codeBytes) len body
  else if typ = 3 then s.microLoad body
  else s.bPut (s.pair BT_GATE_DST_LO BT_GATE_DST_HI) len body

/-- A stage that verified. -/
def State.gatePass (s : State) (i : Nat) : State :=
  let h := s.bt.hdr
  let s := (s.onBit BT_GATE_DONE i).measure (Image.stHash h i)
  let s := s.when (decide (Image.stTyp h i = 2)) (fun t => t.p BT_BOOT_STAGE 2)
  if (upTo 4).all (fun k => Image.stTyp h k ≤ 1 || s.bit BT_GATE_DONE k) then s.btSlotUp s.gateSlot (fun x => { x with mark := none })
  else s

/-- A stage that did not: in boot and activation its slot is marked, and the device resets as L4 does. -/
def State.gateFail (s : State) (i : Nat) : State :=
  let h := s.bt.hdr
  let s := s.fault BT_STAT_GATE_FAIL 1 2 0x1204 0
  let s := s.when (decide (Image.stTyp h i = 3)) (fun t => t.mcU (fun m => { m with disp := m.disp.filter (fun x => decide (x.1 ≥ 0xC0)) }))
  if s.mode = mBoot || s.bt.actSlot.isSome then
    (s.btSlotUp s.gateSlot (fun x => { x with mark := some (Image.hdrDigest h) })).ftU (fun f => { f with resetOf := some (1, 2) })
  else s

/-- The digest of stage entry `i` in the slot the gate serves is the one its header names. -/
def State.gateHolds (s : State) (i : Nat) : Bool :=
  decide (Image.sha256 (Image.stLen s.bt.hdr i) (s.slotBody s.gateSlot s.bt.hdr i) = Image.stHash s.bt.hdr i)

/-- The gate loads stage entry `i` from the slot it serves, where it verifies. -/
def State.gateRun (s : State) (i : Nat) : State :=
  if s.gateHolds i then
    (s.stageLoad (Image.stTyp s.bt.hdr i) (Image.stLen s.bt.hdr i) (s.slotBody s.gateSlot s.bt.hdr i)).gatePass i
  else s.gateFail i

/-- GATE_COMPLETE (R701). -/
def execGateComplete (s : State) : Host.Outcome State Fault Refusal :=
  .next <|
    match s.bt.gating with
    | none => s
    | some i => ((s.btU (fun b => { b with gating := none })).off BT_CMD_BUSY).gateRun i

/-! Anti-rollback (R705, R706). -/

/-- COMMIT_SVN (R705). -/
def State.svnStart (s : State) : State :=
  if s.is BT_CMD_BUSY then s
  else if !s.serving then s.p BT_CMD_ERR 1
  else if s.g CM_ACT_PHASE ≠ 0 then s.p BT_CMD_ERR 2
  else if s.fuseCnt ≥ s.g BT_SVN_SVN then s.off BT_CMD_ERR
  else (s.off BT_CMD_ERR).on BT_CMD_BUSY

def execCommitSvn (s : State) : Host.Outcome State Fault Refusal := .next s.svnStart

/-- COMMIT_SVN_DONE (R705). -/
def execCommitSvnDone (s : State) : Host.Outcome State Fault Refusal :=
  .next <|
    if s.is BT_CMD_BUSY && s.bt.gating.isNone then
      let old := s.fuseCnt
      let s := s.blowTo (s.g BT_SVN_SVN)
      let s := (s.p BT_SVN_FUSE_CNT s.fuseCnt).off BT_CMD_BUSY
      s.raise 0x1205 1 (pk [(old, 7), (s.fuseCnt, 7)])
    else s

/-- REVOKE_VK0 (R706). -/
def State.revokeVk0 (s : State) : State :=
  if s.is BT_CMD_BUSY then s
  else if s.g BT_SVN_VK ≠ 1 then s.p BT_CMD_ERR 4
  else (((s.off BT_CMD_ERR).btU (fun b => { b with revoked := true })).on BT_SVN_VK0_REVOKED).raise 0x120A 1 0

def execRevokeVk0 (s : State) : Host.Outcome State Fault Refusal := .next s.revokeVk0

/-! Staging (R707–R709). -/

/-- A slot's staged image is judged once IMG_LEN bytes are present (R707). -/
def State.stageJudge (s : State) (slot : Nat) : State :=
  let h := s.slotHdr slot
  if 4096 * (s.btSlot slot).next ≥ Image.imgLen h then
    let c := Image.headCheck h s.codeBytes s.fuseCnt s.bt.revoked
    let why := if c ≠ 0 then c
      else if (upTo 4).any (fun i => decide (Image.stTyp h i ≠ 0) &&
        decide (Image.sha256 (Image.stLen h i) (s.slotBody slot h i) ≠ Image.stHash h i)) then 5 else 0
    s.btSlotUp slot (fun x => { x with complete := true, why := why })
  else s

/-- The data of a piece is at hand: it is written if it is in order (R707). -/
def State.fwPiece (s : State) (id : Nat) : State :=
  let c := s.cmd id
  let slot := bitOf c.p0 0
  let page := bitsOf c.p0 8 24
  let n := c.dlen / 4096
  let x := s.btSlot slot
  if slot = s.g BT_BOOT_SLOT || s.bt.actSlot = some slot || n > 256 || page + n > 0x800 || (page ≠ 0 && page ≠ x.next) then
    s.complete id 0x0002 0
  else
    let s := if page = 0 then s.btSlotUp slot (fun _ => {}) else s
    s.btU (fun b => { b with fsOp := some { id := id, slot := slot, page := page, n := n } })

/-- The next piece that waits is taken up. -/
def State.fwNext (s : State) : Nat → State
  | 0 => s
  | k + 1 => match s.bt.fsWait, s.bt.fsOp with
    | id :: t, none => State.fwNext ((s.btU (fun b => { b with fsWait := t })).fwPiece id) k
    | _, _ => s

/-- FW_STAGE has its data. -/
def State.fwData (s : State) (id : Nat) : State := (s.btU (fun b => { b with fsWait := b.fsWait ++ [id] })).fwNext 40

/-- STORE_OP_DONE (R707, R709): the piece is durable; a completion after a granted timeout is discarded. -/
def execStoreOpDone (s : State) : Host.Outcome State Fault Refusal :=
  .next <|
    if s.bt.fsLate then
      ((s.btU (fun b => { b with fsLate := false })).sat BT_LATE_CNT_COUNT 1).note BT_STAT_FS_LATE 0x1208 1 0
    else match s.bt.fsOp with
      | none => s
      | some o =>
        let s := s.btU (fun b => { b with fsOp := none })
        let s := (s.fsErase (slotPage o.slot + o.page) o.n).fsWr (slotPage o.slot + o.page) o.n (s.cmd o.id).buf
        let s := s.btSlotUp o.slot (fun x => { x with
          next := o.page + o.n, digest := if o.page = 0 then Image.hdrDigest (s.slotHdr o.slot) else x.digest })
        let s := (s.stageJudge o.slot).stgShow o.slot
        (s.complete o.id 0 0).fwNext 40

/-- STORE_TIMEOUT (R709). -/
def execStoreTimeout (s : State) : Host.Outcome State Fault Refusal :=
  .next <|
    match s.bt.fsOp with
    | none => s
    | some o =>
      let s := s.btU (fun b => { b with fsOp := none, fsLate := true })
      let s := (s.btSlotUp o.slot (fun x => { mark := x.mark })).stgShow o.slot
      ((s.complete o.id 0x0303 0).fault BT_STAT_FS_TMO 1 3 0x1207 0).fwNext 40

/-! Activation (R710–R712). -/

/-- The CHECK phase (R708, R710): the status and RESULT of a refusal, or none. -/
def State.actCheck (s : State) (slot : Nat) : Option (Nat × Nat) :=
  let x := s.btSlot slot
  let h := s.slotHdr slot
  if !x.complete then some (0x0303, 6)
  else if x.why = 4 then some (0x0304, 0)
  else if x.why ≠ 0 then some (0x0303, x.why)
  else if Image.hdrDigest h ≠ x.digest then some (0x0303, 1)
  else if Image.svn h < s.fuseCnt then some (0x0304, 0)
  else none

/-- The SWITCH phase (R711): the gate loads the stages of the new slot; false where one does not verify. -/
def State.actSwitch (s : State) (slot : Nat) : Bool × State :=
  let s := (s.runHdr slot).off BT_GATE_DONE
  (upTo 4).foldl (fun r i =>
    if r.1 && 2 ≤ Image.stTyp r.2.bt.hdr i then (r.2.gateHolds i, r.2.gateRun i) else r) (true, s)

/-- BOOT_RECORD_WRITE (R712). -/
def execBootRecordWrite (s : State) : Host.Outcome State Fault Refusal :=
  .next <|
    if s.bt.recDue then
      let cur := s.bootCopy
      let gen := match cur with
        | some (_, g, _) => g + 1
        | none => 1
      let copy := match cur with
        | some (c, _, _) => 1 - c
        | none => 0
      let b := pk [(0x5A484252, 32), (gen, 32), (s.g BT_BOOT_SLOT, 8), (0, 408)]
      let s := s.fsWr (16 * copy) 1 (b + Code.crc32c 480 b * 2 ^ 480)
      (s.on BT_BOOT_REC_DONE).btU (fun x => { x with recDue := false })
    else s

/-! Attestation (R713–R715) and keys (R716). -/

/-- The report of R714 for a nonce. -/
def State.report (s : State) (len nonce seq : Nat) : Nat :=
  pk [(0x5A484154, 32), (1, 8), (len, 8), (0, 16), (seq, 64), (nonce % 2 ^ (8 * len), 512), (Config.uid.toNat, 128),
    (Config.devicePk.toNat, 256), (s.words8 BT_MFW_DATA, 256), (s.words8 BT_MCUST_DATA, 256), (s.words8 BT_MKEY_DATA, 256),
    (Image.fwVer s.bt.hdr, 32), (s.g BT_SVN_SVN, 8), (s.g BT_SVN_FUSE_CNT, 8), (s.g BT_BOOT_SLOT, 8), (s.g MD_ID_STEP, 8),
    (if s.is MC_LOAD_LOADED then s.g MC_IMG_VER_VER else 0, 32), (s.now, 64), (s.g EV_HOURS_HOURS, 32),
    (min 65535 (s.g EV_PCYC_COUNT), 16)]

/-- SIG_DATA_READ (R715): the store word of the device certificate lies at 0x2_0000. -/
def State.sigRead (s : State) : State :=
  let w := s.g BT_SIG_ADDR_WORD
  let v := if s.is BT_SIG_ADDR_SEL then (if w > 1963 then 0 else s.fsRd (0x20000 + 4 * w) 4)
    else if w > 4271 then 0 else bitsOf s.bt.sig (32 * w) 32
  ({ s with rdata := BitVec.ofNat 32 v }).p BT_SIG_ADDR_WORD (w + 1)

def execSigDataRead (s : State) : Host.Outcome State Fault Refusal := .next s.sigRead

/-- KEY_ENROLL has its data (R716). -/
def State.keyData (s : State) (id : Nat) : State :=
  let c := s.cmd id
  let slot := c.p0 % 4
  let key := Image.bytes c.buf 0 32
  let op := Image.bytes c.buf 32 1
  let held := (s.bt.keys.find slot).isSome
  let change (t : State) : State := (t.keysShow.raise 0x1206 1 (pk [(slot, 2), (op, 2)])).complete id 0 0
  if s.mode ≠ mMaint then s.complete id 0x0307 0
  else if Image.bytes c.buf 33 31 ≠ 0 || (op ≠ 1 && op ≠ 2) then s.complete id 0x0305 2
  else if op = 1 && key = 0 then s.complete id 0x0305 3
  else if op = 1 && s.bt.keys.length ≥ 4 then s.complete id 0x0306 0
  else if op = 1 && held then s.complete id 0x0305 1
  else if op = 2 && !held then s.complete id 0x0305 4
  else if op = 1 then change (s.btU (fun b => { b with keys := b.keys.ins slot key }))
  else change (s.btU (fun b => { b with keys := b.keys.drop slot }))

end Sys2Proof.Machine
end

