-- ==== Sys2Proof/Machine/Access.lean ====
section
/-! DEFINITION. Machine/Access.lean: what a register reads as, and what a plain access does, by the access codes of its
fields (R12–R16). Registers whose value follows from other state are computed where they are read. -/

namespace Sys2Proof.Machine

open Reg

/-! Derived values. -/

/-- The status register of a fault unit and its enables, with the class bit of bit 0 (R663, R664). -/
def unitRegs (u : Nat) : List (Nat × Nat × Nat) :=
  match u with
  | 0 => [(MD_STAT, MD_INT_EN, 0)]
  | 1 => [(BT_STAT, BT_INT_EN, 0)]
  | 2 => [(PW_STAT, PW_INT_EN, 0)]
  | 3 => [(SF_STAT, SF_INT_EN, 0)]
  | 4 => [(LK_STAT, LK_INT_EN, 0)]
  | 5 => [(QM_STAT, QM_INT_EN, 0)]
  | 6 => [(CM_STAT, CM_INT_EN, 0)]
  | 7 => [(HC_STAT, HC_INT_EN, 0)]
  | 8 => [(DM_STAT, DM_INT_EN, 0)]
  | 9 => [(BM_STAT, BM_INT_EN, 0)]
  | 10 => [(JN_STAT, JN_INT_EN, 0)]
  | 11 => [(AR_STAT, AR_INT_EN, 0)]
  | 12 => [(RB_STAT, RB_INT_EN, 0)]
  | 13 => [(MC_STAT, MC_INT_EN, 0)]
  | 14 => [(FT_CORE_STAT, FT_CORE_INT_EN, 0)]
  | _ =>
    if 16 ≤ u && u < 48 then [(CH_STAT (u - 16), CH_INT_EN (u - 16), 0), (LD_STAT (u - 16), LD_INT_EN (u - 16), 16)]
    else if 48 ≤ u && u < 56 then [(SV_STAT (u - 48), SV_INT_EN (u - 48), 0)]
    else if 56 ≤ u && u < 60 then [(SP_STAT (u - 56), SP_INT_EN (u - 56), 0)]
    else []

/-- The interrupt of a unit (R664). -/
def State.irqOf (s : State) (u : Nat) : Bool := (unitRegs u).any (fun r => decide (s.rd r.1 &&& s.rd r.2.1 ≠ 0))

/-- FAULT_N is low (R675). -/
def State.pinLow (s : State) : Bool := s.ft.pulse || s.ft.sfPulse || s.ft.pmHold || s.is FT_PIN_HOLD

/-- Units with FT_U_PEND not 0, from a unit on. -/
def State.pendMap (s : State) (lo : Nat) : Nat :=
  (upTo 32).foldl (fun n i => if s.g (FT_U_PEND_MASK (lo + i)) ≠ 0 then n + 2 ^ i else n) 0

/-- Percent of the usable spill capacity and of the spill index in use. -/
def State.spillFill (s : State) : Nat :=
  let cap := ((upTo 8).map (fun i => s.pairLen i)).sum
  if cap = 0 then 0 else min 100 (((upTo 8).map (fun i => s.pairUsed i)).sum * 100 / cap)
def State.idxFill (s : State) : Nat := s.jn.idx.length * 100 / spillIdxMax

/-- The journal's registers are shown once JN has been ON (R311). -/
def State.jnShown (s : State) : Bool := decide (s.g JN_CTL_STATE = stOn) || decide (s.g JN_CTL_STATE = stStopping)

/-- The timer of an idle group and level in ms (R641, R661). -/
def idleReset (level : Nat) : Nat := if level = 0 then 50 else if level = 1 then 60000 else if level = 2 then 600000 else 0
def State.idleTime (s : State) (g level : Nat) : Nat := (s.md.timers.find (4 * g + level)).getD (idleReset level)

/-! Idle target and block (R643, R644). Levels: 0 I0, 1 I1, 2 I2, 3 I3, 4 REST. -/

/-- The level a group asks for: the deepest whose timer is set and has run out. -/
def State.groupLevel (s : State) (g : Nat) : Nat :=
  (upTo 4).foldl (fun m l => if bitOf (s.md.reached.getD g 0) l = 1 && s.idleTime g l ≠ 0 then l + 1 else m) 0

/-- Groups with an ACTIVE SQ. -/
def State.liveGroups (s : State) : List Nat :=
  s.qm.live.filterMap (fun q => let c := s.ctx q; if c.sqState = qActive then some c.group else none)

/-- The target level (R643, R649, R650). -/
def State.idleTarget (s : State) : Nat :=
  if s.md.haltHold then 2
  else if s.md.gotoRest then 4
  else match s.liveGroups with
    | [] => 0
    | g :: t => t.foldl (fun m x => min m (s.groupLevel x)) (s.groupLevel g)

/-- Medium work is pending that no command stands for: a stripe write, rewrite, verify, spill, catch-up or re-read. -/
def State.mediumWork (s : State) : Bool :=
  !s.ar.stripes.isEmpty || !s.ar.gather.isEmpty || s.jn.spilling || s.jn.spillJob.isSome || (upTo 96).any (fun m => decide (s.mem m = memCatchup)) ||
    s.ldT.any (fun x => !x.2.rewrites.isEmpty || !x.2.solo.isEmpty || !x.2.adjacent.isEmpty ||
      x.2.queue.any (fun l => decide (l.phase ≥ 2)))

/-- The lowest reason of R644 that holds, 0 none; `rest` whether reasons 7 and 8 count. -/
def State.idleBlock (s : State) (rest : Bool) : Nat :=
  if s.mediumWork then 1
  else if s.anyPass || (s.rbOn && s.g RB_RS_STAT_STATE = rsRun) then 2
  else if s.is MD_IDLE_CTL_HOLD then 3
  else if s.mode = mMaint || s.g CM_ACT_PHASE ≠ 0 then 4
  else if s.is QM_HALT_HALTED then 5
  else if s.cm.table.any (fun x => x.2.medium && x.2.status.isNone) then 6
  else if rest && s.tailJ ≠ s.jn.nextJ then 7
  else if rest && !s.is MD_IDLE_CTL_SAVE_EN then 8
  else 0

/-- MD_IDLE_STAT.BLOCK as read: in BOOT nothing steps and the field has its reset value (R17; DEDUCED 96). -/
def State.blockShown (s : State) : Nat := if s.mode = mBoot then 0 else s.idleBlock true

/-- What a register reads as. EV_STAT.SOLO: exactly one JD die is in service (DEDUCED 96). -/
def State.peek (s : State) (addr : Nat) : Word :=
  let w (n : Nat) : Word := BitVec.ofNat 32 n
  let u := (addr - FT_U_STAT 0) / 0x100
  let v := (addr - AR_VOL_CTL 0) / 0x40
  if addr = MD_TIME_LO then w s.now
  else if addr = MD_IDLE_STAT then setField (setField (s.rd addr) 3 3 s.idleTarget) 8 4 s.blockShown
  else if addr = MD_IDLE_CFG then setField (s.rd addr) 8 24 (s.idleTime (s.g MD_IDLE_CFG_GROUP) (s.g MD_IDLE_CFG_LEVEL))
  else if addr = FT_PIN then setField (s.rd addr) 1 1 (b2n (!s.pinLow))
  else if addr = FT_PEND_LO then w (s.pendMap 0)
  else if addr = FT_PEND_HI then w (s.pendMap 32)
  else if u < 60 && addr = FT_U_STAT u then setField (s.rd addr) 4 1 (b2n (s.irqOf u))
  else if addr = EV_STAT then setField (s.rd addr) 3 1 (b2n (s.anyDie && !s.bothDies))
  else if addr = AR_PE_STAT then setField (s.rd addr) 8 1 (b2n (!s.ar.pe.isEmpty || s.cm.recons.any s.reconReady))
  else if addr = RB_FT_STAT then w s.rb.ft.length
  else if v < 64 && addr = AR_VOL_STAT v then
    setField (setField (s.rd addr) 11 3 (min 7 (s.worst v))) 14 2 (condOf (s.worst v) (s.geo v).p)
  else if addr = JN_HELD then w (if s.jnShown then s.heldPct else 0)
  else if addr = JN_FILL && s.jnShown then w (s.ringPct + 2 ^ 8 * s.spillFill + 2 ^ 16 * s.idxFill)
  else if addr = JN_HEAD_LO && s.jnShown then w s.jn.nextJ
  else if addr = JN_HEAD_HI && s.jnShown then w (s.jn.nextJ / 2 ^ 32)
  else if addr = JN_TAIL_LO && s.jnShown then w s.tailJ
  else if addr = JN_TAIL_HI && s.jnShown then w (s.tailJ / 2 ^ 32)
  else s.rd addr

/-! Plain accesses (R12). -/

/-- One field takes a write: `sets` the bits the block sets in the same handshake (R13); `force` writes RWL fields whatever
MD_LOCK (R660). -/
def State.fieldWrite (s : State) (addr v sets : Nat) (force : Bool) (f : FieldDesc) : State :=
  let r : RF := ⟨addr, f.lo, f.w⟩
  let x := bitsOf v f.lo f.w
  match f.acc with
  | .rw => s.p r x
  | .rwl => if s.is MD_LOCK_LOCK && !force then s else s.p r x
  | .w1c =>
    let old := BitVec.ofNat 32 (s.g r)
    let keep := old &&& ~~~ (BitVec.ofNat 32 x)
    s.p r (keep ||| BitVec.ofNat 32 (bitsOf sets f.lo f.w)).toNat
  | _ => s

/-- A write of a register by its fields' access codes; the idle timers stand behind MD_IDLE_CFG (R661). -/
def State.plainWrite (s : State) (addr v sets : Nat) : State :=
  match regFields addr with
  | none => s
  | some fs =>
    let s := State.each fs (fun f t => t.fieldWrite addr v sets false f) s
    if addr = MD_IDLE_CFG then
      s.mdU (fun m => { m with timers := m.timers.ins (4 * s.g MD_IDLE_CFG_GROUP + s.g MD_IDLE_CFG_LEVEL) (s.g MD_IDLE_CFG_TIME) })
    else s

/-- A read of a register: WO fields read 0, RC fields clear and keep what the handshake adds (R14). -/
def State.plainRead (s : State) (addr adds : Nat) : State :=
  match regFields addr with
  | none => { s with rdata := 0 }
  | some fs =>
    let v := s.peek addr
    let shown := fs.foldl (fun x f => if f.acc = .wo then setField x f.lo f.w 0 else x) v
    let s := { s with rdata := shown }
    State.each (fs.filter (fun f => f.acc = .rc)) (fun f t => t.p ⟨addr, f.lo, f.w⟩ (bitsOf adds f.lo f.w)) s

end Sys2Proof.Machine
end

