-- ==== Sys2Proof/Machine/CmdRows.lean ====
section
/-! DEFINITION. Machine/CmdRows.lean: the meanings of the commands of the chapter "Commands" (R445–R480): one per opcode, the
scheduler, abort, the command-side reset and firmware activation; and what a command does when its data is at hand. -/

namespace Sys2Proof.Machine

open Reg

/-! Data at hand. -/

def Cmd.word (c : Cmd) (i : Nat) : Nat := c.buf / 2 ^ (32 * i) % 2 ^ 32

/-- A refused register operation of R449, or success. -/
def State.opDone (id : Nat) (r : Nat × State) : State :=
  if r.1 = 0 then r.2.complete id 0 0 else r.2.complete id 0x030A r.1

/-- VOL_DEFINE has its eight words (R240, R449). -/
def State.volDefine (s : State) (id : Nat) : State :=
  let c := s.cmd id
  let v := c.p0 % 64
  if s.geomWritable v then
    (State.each (upTo 8) (fun i t => t.plainWrite ((geomRegs v).getD i 0) (c.word i) 0) s).complete id 0 0
  else s.complete id 0x030B 0

/-- PATTERN_LOAD has its 96 bytes (R449). -/
def State.patternLoad (s : State) (id : Nat) : State :=
  let c := s.cmd id
  let p := c.p0 % 1024
  if s.patBusy p then s.complete id 0x030B 0
  else (State.each (upTo 24) (fun i t => t.patPut p i (c.word i)) s).complete id 0 0

/-- QUEUE_CREATE has its image (R452). -/
def State.queueCreate (s : State) (id : Nat) : State :=
  let c := s.cmd id
  let q := c.p0 % 2 ^ 20
  let (_, s) := s.ctxLoad q
  let x := s.ctx q
  if x.sqState ≠ qDisabled || x.cqState ≠ qDisabled then s.complete id 0x0302 0
  else
    let img := QmCtx.ofBits c.buf
    let why := s.ctxCheck q img
    if why ≠ 0 then s.complete id 0x0301 why else (s.ctxCreate q img).complete id 0 0

/-- A staged customer image is complete: its checks (R594). -/
def State.microJudge (s : State) (id : Nat) : State :=
  let b := s.mc.stage
  let why := Image.custCheck b (s.g MC_IFV_MAJOR) (s.g MC_IFV_MINOR) (s.bt.keys.find (Image.cuKey b))
  let s := (s.off MC_LOAD_PIECES).mcU (fun m => { m with stage := 0 })
  if why = 0 then ((s.off MC_LOAD_ERR).mcU (fun m => { m with install := some b })).complete id 0 0
  else ((s.p MC_LOAD_ERR why).note MC_STAT_LOAD_BAD 0x0E05 13 0).complete id 0x0303 why

/-- MICRO_LOAD has its data (R594). -/
def State.microData (s : State) (id : Nat) : State :=
  let c := s.cmd id
  let at_ := c.p0 * 4096
  let n := c.dlen / 4096
  let s := s.mcU (fun m => { m with stage := overlay m.stage at_ c.dlen c.buf })
  let s := State.each (upTo n) (fun i t => t.onBit MC_LOAD_PIECES (c.p0 + i)) s
  if s.g MC_LOAD_PIECES = 1023 then s.microJudge id else s.complete id 0 0

/-- Every byte a command reads from the host is gathered. -/
def State.dataReady (s : State) (id : Nat) : State :=
  let c := s.cmd id
  if c.status.isSome then s
  else if c.opc = 2 then
    if c.guard then (s.cmdUp id (fun x => { x with gleft := (upTo c.nblk).map (fun i => c.gptr + 4 * i) })).guardIn id
    else s.writeData id
  else if c.opc = 6 then s.deallocData id
  else if c.opc = 0x40 then s.volDefine id
  else if c.opc = 0x43 then s.patternLoad id
  else if c.opc = 0x81 then s.queueCreate id
  else if c.opc = 0x86 then s.fwData id
  else if c.opc = 0x88 then s.btU (fun b => { b with signing := b.signing ++ [id] })
  else if c.opc = 0x89 then s.keyData id
  else if c.opc = 0x8A then s.microData id
  else s

/-- Every byte a command sends to the host has its response (R44). -/
def State.sentAll (s : State) (id : Nat) : State :=
  let c := s.cmd id
  if c.opc < 0x40 then s.readDone id else s.complete id 0 c.result

/-- A transfer of a command's data is DONE: its next part starts, or the command goes on. -/
def State.xferDone (s : State) (n : Nat) : State :=
  let ch := s.dch n
  match (if n < 40 then ch.cmd else none) with
  | none => s
  | some id =>
    let toHost := s.dstSp n = spHost
    let c := s.cmd id
    let base := ch.base + ch.total
    if base < c.want toHost then s.xferOn id n toHost base
    else
      let s := if !toHost && c.opc = 2 && c.guard then s else (s.dClear n).cmdUp id (fun x => { x with chan := none })
      (if toHost then s.sentAll id else s.dataReady id).chanSweep

/-- A transfer whose last response may have come while it was being set up is settled. -/
def State.xferCheck (s : State) (n : Nat) : State :=
  match s.dCheck n with
  | (true, s) => s.xferDone n
  | (false, s) => s

/-- A command starts to read its data from the host. -/
def State.fetch (s : State) (c : Cmd) : State :=
  let s := s.cmdUp c.id (fun x => { x with started := true, buf := 0, have_ := 0 })
  if c.want false = 0 then s.dataReady c.id else s.xferStart c.id false

/-- A command has data for the host, and completes with a RESULT once it is there. -/
def State.give (s : State) (id data result : Nat) : State :=
  (s.cmdUp id (fun x => { x with started := true, buf := data, result := result })).xferStart id true

/-- A command that completes in its first step. -/
def State.start (s : State) (id : Nat) : State := s.cmdUp id (fun x => { x with started := true })

/-! I/O opcodes (R445). -/

def State.onReady (s : State) (id opc : Nat) (f : Cmd → State) : State := match s.ready id opc with
  | some c => f c
  | none => s

/-- READ (R445): `ce` and `lost` are what reading the JD dies meets (R276, R296). -/
def execRead (id ce : Nat) (lost : List (Nat × Bool)) (s : State) : Host.Outcome State Fault Refusal :=
  .next (let s := s.jdRead ce lost; s.onReady id 1 (fun c => s.opRead c))

def execWrite (id : Nat) (s : State) : Host.Outcome State Fault Refusal := .next (s.onReady id 2 (fun c => s.fetch c))

def execReadStream (id : Nat) (s : State) : Host.Outcome State Fault Refusal := .next (s.onReady id 3 (fun c => s.opRead c))

/-- FLUSH (R469): what it covers was fixed when it was taken. -/
def execFlush (id : Nat) (s : State) : Host.Outcome State Fault Refusal :=
  .next (s.onReady id 4 (fun c => (s.start id).flushDone c))

/-- FLUSH_DONE (R470). -/
def execFlushDone (id : Nat) (s : State) : Host.Outcome State Fault Refusal :=
  .next <|
    let c := s.cmd id
    if c.opc = 4 && c.started && c.status.isNone then s.flushDone c else s

def execVerify (id : Nat) (s : State) : Host.Outcome State Fault Refusal := .next (s.onReady id 5 (fun c => s.opRead c))

def execDeallocate (id : Nat) (s : State) : Host.Outcome State Fault Refusal := .next (s.onReady id 6 (fun c => s.fetch c))

def execWriteZeroes (id : Nat) (s : State) : Host.Outcome State Fault Refusal :=
  .next (s.onReady id 7 (fun c => (s.start id).journal id [(c.block, c.nblk)] none))

/-! Array and volume opcodes (R449). -/

def execVolDefine (id : Nat) (s : State) : Host.Outcome State Fault Refusal := .next (s.onReady id 0x40 (fun c => s.fetch c))

def execVolEnable (id : Nat) (s : State) : Host.Outcome State Fault Refusal :=
  .next (s.onReady id 0x41 (fun c =>
    let v : Fin 64 := ⟨c.p0 % 64, Nat.mod_lt _ (by decide)⟩
    (((s.start id).cmU (fun m => { m with admin := m.admin ++ [(id, 0x41)] })).enableFn (.vol v)).volWaits v.val))

def execVolDisable (id : Nat) (s : State) : Host.Outcome State Fault Refusal :=
  .next (s.onReady id 0x42 (fun c =>
    let v : Fin 64 := ⟨c.p0 % 64, Nat.mod_lt _ (by decide)⟩
    (((s.start id).cmU (fun m => { m with admin := m.admin ++ [(id, 0x42)] })).disableFn (.vol v)).volWaits v.val))

def execPatternLoad (id : Nat) (s : State) : Host.Outcome State Fault Refusal :=
  .next (s.onReady id 0x43 (fun c => s.fetch c))

def execMemberFail (id : Nat) (s : State) : Host.Outcome State Fault Refusal :=
  .next (s.onReady id 0x44 (fun c => State.opDone id ((s.start id).rbFail (c.p0 % 128))))

def execMemberClear (id : Nat) (s : State) : Host.Outcome State Fault Refusal :=
  .next (s.onReady id 0x45 (fun c => State.opDone id ((s.start id).rbClear (c.p0 % 128))))

def execReshape (id : Nat) (s : State) : Host.Outcome State Fault Refusal :=
  .next (s.onReady id 0x46 (fun c => State.opDone id ((s.start id).rbReshape (c.p0 % 64) (bitsOf c.p0 8 6))))

/-- RESHAPE_PAUSE completes at the checkpoint. -/
def execReshapePause (id : Nat) (s : State) : Host.Outcome State Fault Refusal :=
  .next (s.onReady id 0x47 (fun _ =>
    match (s.start id).rbPause with
    | (0, t) => t.cmU (fun m => { m with admin := m.admin ++ [(id, 0x47)] })
    | (e, t) => t.complete id 0x030A e))

def execReshapeResume (id : Nat) (s : State) : Host.Outcome State Fault Refusal :=
  .next (s.onReady id 0x48 (fun _ => State.opDone id (s.start id).rbResume))

def execForfeitClear (id : Nat) (s : State) : Host.Outcome State Fault Refusal :=
  .next (s.onReady id 0x49 (fun c => State.opDone id ((s.start id).rbFtClear (c.p0 % 64))))

def execVolForget (id : Nat) (s : State) : Host.Outcome State Fault Refusal :=
  .next (s.onReady id 0x4A (fun c => State.opDone id ((s.start id).rbForget (c.p0 % 64))))

/-! Administrative opcodes (R450). -/

/-- The identify structure (R451). -/
def State.identify (s : State) : Nat :=
  pk [(Config.partCode.toNat, 128), (Config.serial.toNat, 128), (Image.fwVer s.bt.hdr, 32), (s.g MD_ID_STEP, 8), (s.g MD_ID_HEADS, 8),
    (2, 8), (0x11, 8), (0x20, 8), (0, 24), (65536, 32), (32768, 32), ((s.rd LK_VER).toNat, 32), (0, 64),
    (((upTo 96).map (fun m => if s.mem m = memAbsent then 0 else s.mblks m)).sum, 64)]

def execIdentify (id : Nat) (s : State) : Host.Outcome State Fault Refusal :=
  .next (s.onReady id 0x80 (fun _ => s.give id s.identify 0))

def execQueueCreate (id : Nat) (s : State) : Host.Outcome State Fault Refusal :=
  .next (s.onReady id 0x81 (fun c => if c.p0 = 0 then s.complete id 0x0002 0 else s.fetch c))

/-- Both queues of a pair are DISABLED: its QUEUE_DELETE completes (R453). -/
def State.deleteCheck (s : State) (id q : Nat) : State :=
  let s := s.deleteStep q
  let x := s.ctx q
  if x.sqState = qDisabled && x.cqState = qDisabled then
    (s.cmU (fun m => { m with admin := m.admin.filter (fun y => y.1 ≠ id) })).complete id 0 0
  else s

/-- QUEUE_DELETE (R453). -/
def execQueueDelete (id : Nat) (s : State) : Host.Outcome State Fault Refusal :=
  .next (s.onReady id 0x82 (fun c =>
    let q := c.p0 % 2 ^ 20
    if q = 0 then s.complete id 0x0002 0
    else if s.qm.live.any (fun x => x ≠ q && (s.ctx x).cqid = q && (s.ctx x).sqState ≠ qDisabled) then s.complete id 0x0302 0
    else ((((s.ctxLoad q).2.start id).cmU (fun m => { m with admin := m.admin ++ [(id, 0x82)] })).deleteStart q).deleteCheck id q))

def execQueueDeleteDone (id : Nat) (s : State) : Host.Outcome State Fault Refusal :=
  .next (if s.cm.admin.contains (id, 0x82) then s.deleteCheck id ((s.cmd id).p0 % 2 ^ 20) else s)

/-- A log of R454 and its size. -/
def State.log (s : State) (n : Nat) : Option (Nat × Nat) :=
  let recs (t : Tbl EvRec) (k : Nat) : Nat := (upTo k).foldl (fun v i => match t.find i with
    | some r => v + r.bits * 2 ^ (256 * i)
    | none => v) 0
  if n = 1 then some (32768, recs s.ev.first 1024)
  else if n = 2 then some (131072, recs s.ev.last 4096)
  else if n = 3 then some (262144, s.rb.ft.foldl (fun v x => v + s.ftBits x.1 * 2 ^ (128 * x.1)) 0)
  else if n = 4 then some (96, pk ((upTo 96).map (fun m => (s.mem m, 8))))
  else if n = 5 then some (4096, pk ((upTo 1024).map (fun i => ((s.peek (AR_VOL_CTL 0 + 4 * i)).toNat, 32))))
  else if n = 6 then some (65536, s.md.pfr)
  else none

def execGetLog (id : Nat) (s : State) : Host.Outcome State Fault Refusal :=
  .next (s.onReady id 0x83 (fun c =>
    match s.log (c.p0 % 256) with
    | none => s.complete id 0x0308 0
    | some (n, d) => s.give id (d % 2 ^ (8 * n) / 2 ^ (8 * c.p1) % 2 ^ (8 * c.dlen)) n))

/-- The register of a feature (R455). -/
def featureReg (p : Nat) : Option Nat :=
  if p = 1 then some CM_CFG else if p = 2 then some CM_RA_CFG else if p = 3 then some RB_CFG else if p = 4 then some RB_PRIV
  else if p = 5 then some LK_CFG else if p = 6 then some MD_IDLE_CFG else none

def execSetFeature (id : Nat) (s : State) : Host.Outcome State Fault Refusal :=
  .next (s.onReady id 0x84 (fun c =>
    match featureReg (c.p0 % 256) with
    | none => s.complete id 0x0309 0
    | some a => let t := s.plainWrite a c.p1 0; t.complete id 0 (t.peek a).toNat))

def execGetFeature (id : Nat) (s : State) : Host.Outcome State Fault Refusal :=
  .next (s.onReady id 0x85 (fun c =>
    match featureReg (c.p0 % 256) with
    | none => s.complete id 0x0309 0
    | some a => s.complete id 0 (s.peek a).toNat))

def execFwStage (id : Nat) (s : State) : Host.Outcome State Fault Refusal := .next (s.onReady id 0x86 (fun c => s.fetch c))

/-- FW_ACTIVATE (R478 steps 1 and 2). -/
def execFwActivate (id : Nat) (s : State) : Host.Outcome State Fault Refusal :=
  .next (s.onReady id 0x87 (fun c =>
    if s.cm.actCmd.isSome then s
    else
      let slot := c.p0 % 2
      match s.actCheck slot with
      | some (st, r) => s.complete id st r
      | none =>
        let s := (s.start id).p CM_ACT_PHASE 2
        (s.cmU (fun m => { m with actCmd := some id, actStart := s.now, actEnded := [] })).btU (fun b => { b with actSlot := some slot })))

def execAttest (id : Nat) (s : State) : Host.Outcome State Fault Refusal := .next (s.onReady id 0x88 (fun c => s.fetch c))

/-- ATTEST_DONE (R714, R715): the oldest report is signed. -/
def execAttestDone (s : State) : Host.Outcome State Fault Refusal :=
  .next <|
    match s.bt.signing with
    | [] => s
    | id :: t =>
      let c := s.cmd id
      let n := s.bt.reports + 1
      let r := s.report c.p1 c.buf n
      let s := s.btU (fun b => { b with signing := t, reports := n, sig := (Config.slhSign (r % 2 ^ 2048)).toNat })
      ((s.p BT_ATT_SEQ n).give id r n).chanSweep

def execKeyEnroll (id : Nat) (s : State) : Host.Outcome State Fault Refusal :=
  .next (s.onReady id 0x89 (fun c => if s.mode ≠ mMaint then s.complete id 0x0307 0 else s.fetch c))

def execMicroLoad (id : Nat) (s : State) : Host.Outcome State Fault Refusal :=
  .next (s.onReady id 0x8A (fun c =>
    if s.mode ≠ mMaint then s.complete id 0x0307 0
    else if c.p0 * 4096 + c.dlen > 40960 then s.complete id 0x0002 0
    else s.fetch c))

/-! Ending commands. -/

/-- A record of the command is in its commit, or one of several is durable. -/
def State.committing (s : State) (id : Nat) : Bool := match s.jn.commit with
  | some r => r.cmd == some id
  | none => false

/-- The point of no return is passed (R475, R584). -/
def State.pastReturn (s : State) (c : Cmd) : Bool :=
  if c.status.isSome then true
  else if c.opc = 2 || c.opc = 6 || c.opc = 7 then
    s.committing c.id || c.lastDurable || s.jn.recs.any (fun r => r.cmd == some c.id)
  else if 0x40 ≤ c.opc && c.opc < 0xC0 then true
  else c.pnr

/-- A trap waits for the context that runs a customer command (R586). -/
def State.intTrap (s : State) (id cause : Nat) : Bool × State :=
  match (s.cmd id).ctx with
  | some n => if (s.cmd id).opc ≥ 0xC0 then (true, s.trapCtx n { cause := cause }) else (false, s)
  | none => (false, s)

/-- A command ends with an abort status; a write's JOURNALLED is decided after a commit of it that runs (R457). -/
def State.endCmd (s : State) (id status flags : Nat) : State :=
  if s.committing id then s.cmdUp id (fun c => { c with abort := some status })
  else
    let done := b2n ((s.cmd id).lastDurable)
    ((s.cutOff id).complete id status (done + flags))

/-- ABORT (R475). -/
def execAbort (id : Nat) (s : State) : Host.Outcome State Fault Refusal :=
  .next (s.onReady id 0x8B (fun c =>
    match s.cm.table.find? (fun x => x.2.qid == c.p0 % 2 ^ 20 && x.2.cid == c.p1 % 2 ^ 16 && x.1 ≠ id && x.2.lib.isNone && !x.2.placed) with
    | none => s.complete id 0 1
    | some (t, x) =>
      if s.pastReturn x then s.complete id 0 2
      else match s.intTrap t 2 with
        | (true, s) => s.complete id 0 0
        | (false, s) => (((s.endCmd t 0x0006 0).complete id 0 0).chanSweep).heldRetry))

/-! The scheduler (R462, R463, R749). -/

/-- An operation that waits for an actuator: its member and MBA, deadline and take time. -/
structure ActOp where
  member : Nat
  mba : Nat
  deadline : Nat
  take : Nat
  /-- A read, and one for a reconstruction (R266). -/
  read : Bool := false
  recon : Bool := false
  deriving DecidableEq, Repr

/-- The reads that need a sector: those that wait for it, and those whose reconstruction reads it (R126, R266). -/
def State.needers (s : State) (m mba : Nat) : List BlkWait :=
  s.waitsAt m mba ++ (s.reconsAt m mba).flatMap (fun x => s.cm.waits.filter (fun w => w.recon && w.vol == s.ownerOf x.1.vol &&
    w.block == (s.geo x.1.vol).blockAt x.1.stripe x.1.pos x.1.u))

/-- The ready operations of an actuator. -/
def State.actOps (s : State) (a : Nat) : List ActOp :=
  let wb := 10000000 * atLeast1 (s.g CM_CFG_WB_DL)
  let reads := (s.cm.waits.filter (fun w => !(w.recon && s.mem w.member ≠ memAvailable) && !s.laddered w.member w.mba)).map (fun w =>
    ({ member := w.member, mba := w.mba, deadline := w.deadline, take := w.take, read := true } : ActOp))
  let srcs := s.cm.recons.flatMap (fun r =>
    let g := s.geo r.vol
    let ws := s.cm.waits.filter (fun w => w.recon && w.vol == s.ownerOf r.vol && w.block == g.blockAt r.stripe r.pos r.u)
    let d := ((ws.map (·.deadline)).min?).getD (s.now + wb)
    let t := ((ws.map (·.take)).min?).getD s.now
    let mba := g.base + r.stripe / atLeast1 g.q * g.sz + r.u
    (((s.reconPool r).take g.k).filter (fun p => !r.got.any (fun x => x.1 == p))).filterMap (fun p =>
      (s.posMember r.vol r.stripe p).map (fun m =>
        ({ member := m, mba := mba, deadline := d, take := t, read := true, recon := true } : ActOp))))
  let strips := s.ar.stripes.flatMap (fun w => (w.strips.filter (fun x => s.stripTurn w x.member)).map (fun x =>
    ({ member := x.member, mba := x.mba + w.u0, deadline := w.deadline, take := w.deadline - wb } : ActOp)))
  let rewrites := (s.ld a).rewrites.map (fun r =>
    ({ member := r.op.member, mba := r.op.mba, deadline := r.time + wb, take := r.time } : ActOp))
  let spills := match s.jn.spillJob with
    | some (j, pair) => match s.jRec j with
      | some r => if pair ≥ 8 then [] else (upTo 2).filterMap (fun k =>
        let e := 2 * pair + k
        ((upTo r.spillBlks).find? (fun i => !s.jn.spillDone.contains (k, i))).map (fun i =>
          ({ member := s.extMember e, mba := s.extMba e + (s.jn.logAt.getD pair 0 + i) % atLeast1 (s.extLen e),
             deadline := s.jn.spillAt + wb, take := s.jn.spillAt } : ActOp)))
      | none => []
    | none => []
  let again := ((s.ld a).queue.filter (fun l => l.phase == 2)).map (fun l =>
    let ws := s.needers l.op.member l.op.mba
    ({ member := l.op.member, mba := l.op.mba, deadline := ((ws.map (·.deadline)).min?).getD (s.now + wb),
       take := ((ws.map (·.take)).min?).getD s.now, read := true } : ActOp))
  let adj := ((s.ld a).adjacent.filter (fun x => !s.laddered x.1.1 x.1.2)).map (fun x =>
    ({ member := x.1.1, mba := x.1.2, deadline := x.2 + wb, take := x.2, read := true } : ActOp))
  let running := s.cm.sched.getD a []
  (reads ++ srcs ++ strips ++ rewrites ++ spills ++ again ++ adj).filter (fun o =>
    actuatorOf o.member == a && !running.any (fun w => w.member == o.member && w.mba == o.mba))

/-- The choice of R462: within SLACK of the earliest deadline, the least access time, then earlier deadline, then take. A read that is
no reconstruction waits for those of equal deadline that are (R266). -/
def pickOp (slack : Nat) (est : ActOp → Nat) (l : List ActOp) : Option ActOp :=
  match (l.map (·.deadline)).min? with
  | none => none
  | some e =>
    let key (o : ActOp) : Nat × Nat × Nat := (est o, o.deadline, o.take)
    let lt (a b : Nat × Nat × Nat) : Bool :=
      decide (a.1 < b.1) || (a.1 == b.1 && (decide (a.2.1 < b.2.1) || (a.2.1 == b.2.1 && decide (a.2.2 < b.2.2))))
    let after (o : ActOp) : Bool := o.read && !o.recon && l.any (fun x => x.recon && x.deadline == o.deadline)
    match l.filter (fun o => o.deadline ≤ e + slack && !after o) with
    | [] => none
    | o :: t => some (t.foldl (fun best x => if lt (key x) (key best) then x else best) o)

/-- SHARE and FLOOR in force (R339). -/
def State.bgFloor (s : State) : Nat := min 90 (atLeast1 (s.g RB_CFG_FLOOR))
def State.bgShare (s : State) : Nat :=
  let f := s.bgFloor
  let h := min 90 (s.g RB_CFG_SHARE)
  if h + f > 90 then 90 - f else h

/-- A volume is privileged (R339). -/
def State.privileged (s : State) (v : Nat) : Bool :=
  (upTo 4).any (fun i => bitOf (s.rd RB_PRIV).toNat (8 * i + 7) = 1 && bitsOf (s.rd RB_PRIV).toNat (8 * i) 6 == v)

/-- Background work of a kind on an actuator (R337, R338). -/
def State.bgWork (s : State) (a : Nat) (priv : Bool) : Bool :=
  (upTo 64).any (fun v => (s.rbActive v || (s.g RB_RS_STAT_STATE = rsRun && s.g RB_RS_STAT_VOL = v)) && s.privileged v == priv &&
    (s.geo v).set.any (fun m => actuatorOf m == a))

/-- An actuator serves medium operations: its heads are loaded and follow (R743). -/
def State.actReady (s : State) (a : Nat) : Bool :=
  let x := s.astate a
  x == aSeeking || x == aSettling || x == aFollowing || x == aPredicting

/-- ACTUATOR_SCHEDULE (R337, R338, R462): `est` the estimates of access time by member and MBA in µs, none 0; `bg` issues
background I/O instead, privileged or not, and its actuator time in µs. -/
def execActuatorSchedule (a : Fin 8) (est : List (Nat × Nat × Nat)) (bg : Option (Bool × Nat)) (s : State) : Host.Outcome State Fault Refusal :=
  .next <|
    let n := a.val
    let ops := s.actOps n
    match bg with
    | some (false, t) =>
      if s.bgWork n false && s.rb.usedN.getD n 0 < 1000 * s.bgShare then
        s.rbU (fun r => { r with usedN := r.usedN.putD n 0 (r.usedN.getD n 0 + t) })
      else s
    | some (true, t) =>
      if s.bgWork n true && (s.rb.usedP.getD n 0 < 1000 * s.bgFloor || ops.isEmpty) then
        s.rbU (fun r => { r with usedP := r.usedP.putD n 0 (r.usedP.getD n 0 + t) })
      else s
    | none =>
      if (s.bgWork n false && s.rb.usedN.getD n 0 < 1000 * s.bgShare) || s.mode = mSafe || !s.actReady n then s
      else
        let e (o : ActOp) : Nat := ((est.find? (fun x => x.1 == o.member && x.2.1 == o.mba)).map (fun x => x.2.2)).getD 0
        match pickOp (1000000 * s.g CM_CFG_SLACK) e ops with
        | none => s
        | some o =>
          let w := (s.cm.waits.find? (fun w => w.member == o.member && w.mba == o.mba)).getD
            { cmd := none, vol := 0, block := 0, member := o.member, mba := o.mba, deadline := o.deadline, take := o.take }
          let s := s.cmU (fun c => { c with sched := c.sched.putD n [] (c.sched.getD n [] ++ [w]), seekTries := c.seekTries.drop n })
          s.slowArm o.member o.mba

/-- A seek of an actuator failed (R463): it is tried again, then its reads go to reconstruction. -/
def State.seekFailed (s : State) (a : Nat) : State :=
  let n := s.cm.seekTries.getD a 0
  if n < s.g CM_CFG_SEEK_RETRY then s.cmU (fun c => { c with seekTries := c.seekTries.putD a 0 (n + 1) })
  else
    let s := ((s.cmU (fun c => { c with seekTries := c.seekTries.drop a })).sat CM_SEEK_FAIL_CNT_COUNT 1).note CM_STAT_SEEK_FAIL 0x0B03 6 0
    let ops := s.cm.sched.getD a []
    State.each ops (fun w t => if (t.waitsAt w.member w.mba).isEmpty then t else (t.schedDone w.member w.mba).askRecon w.member w.mba) s

/-! Deadlines (R464). -/

/-- DEADLINE_EXPIRY (R464): granted before the first data write of a DROP READ_STREAM. -/
def execDeadlineExpiry (id : Nat) (s : State) : Host.Outcome State Fault Refusal :=
  .next <|
    let c := s.cmd id
    if (s.cm.table.find id).isSome && c.opc = 3 && c.drop && c.status.isNone && !c.pnr then
      let running (w : BlkWait) : Bool := w.cmd == some id && (s.cm.sched.getD (actuatorOf w.member) []).any (fun x =>
        x.member == w.member && x.mba == w.mba)
      let n := (s.cm.waits.filter running).length
      let s := s.cmU (fun m => { m with
        waits := m.waits.map (fun (w : BlkWait) => if running w then { w with gone := true } else w),
        dlGone := if n = 0 then m.dlGone else m.dlGone ++ [(id, n)] })
      ((s.complete id 0x0009 0).sat CM_DROP_CNT_COUNT 1).chanSweep
    else s

/-! The command-side reset (R476) and shut-down (R480). -/

/-- CM_RESET (R476 step 1). -/
def State.cmReset (s : State) : State :=
  if s.is CM_CMD_BUSY then s
  else if s.g QM_CTL_STATE ≠ stOn then s.p CM_CMD_ERR 1
  else if s.g CM_ACT_PHASE ≠ 0 then s.p CM_CMD_ERR 2
  else (s.off CM_CMD_ERR).cmResetStart

def execCmReset (s : State) : Host.Outcome State Fault Refusal := .next s.cmReset

/-- Contexts that ran commands which have ended are freed. -/
def State.ctxSweep (s : State) : State :=
  let over_ (c : CtxState) : Bool := decide (c.st ≠ 0) && ((s.cm.table.find c.cmd).isNone || (s.cmd c.cmd).status.isSome)
  let chans := (s.mc.ctx.filter (fun x => over_ x.2)).flatMap (fun x => x.2.chans)
  let s := s.mcU (fun m => { m with ctx := m.ctx.filter (fun x => !over_ x.2) })
  let s := State.each chans (fun n t => t.dRelease n) s
  let s := s.p MC_OCC_BUSY (s.mc.ctx.filter (fun x => decide (x.2.st ≠ 0) && decide (x.2.st ≠ 3))).length
  s.p MC_OCC_CUST (s.mc.ctx.filter (fun x => decide (x.2.st ≠ 0) && x.2.cust)).length

/-- Every command that has not completed ends with a status; `flags` of a command is added to its RESULT. The contexts that
run them trap (R586, R589). -/
def State.endAll (s : State) (status : Nat) (flags : Cmd → Nat) (but : Option Nat) : State :=
  let ids := (s.cm.table.filter (fun x => x.2.status.isNone && x.2.lib.isNone && some x.1 ≠ but)).map (·.1)
  let traps := (ids.filter (fun id => (s.cmd id).ctx.isSome)).length
  let s := s.p MC_TRAP_CNT_COUNT (s.g MC_TRAP_CNT_COUNT + traps)
  let s := State.each ids (fun id t => t.endCmd id status (flags (t.cmd id))) s
  let s := State.each ((s.cm.table.filter (fun x => x.2.lib.isSome)).map (·.1)) (fun id t => if t.committing id then t else t.cutOff id) s
  let s := s.cmU (fun m => { m with
    table := m.table.filter (fun x => x.2.lib.isNone),
    admin := m.admin.filter (fun x => (match m.table.find x.1 with | some c => c.status.isNone | none => false)) })
  (s.chanSweep).ctxSweep

/-- CM_RESET_COMPLETE (R476 steps 3 to 6). -/
def execCmResetComplete (s : State) : Host.Outcome State Fault Refusal :=
  .next <|
    match s.cm.resetting with
    | none => s
    | some halted =>
      if s.cm.table.any (fun x => s.committing x.1) then s
      else
        let q := s.g QM_HALT_QID
        let idx := s.g QM_HALT_SLOT_INDEX
        let s := if halted then ((s.off QM_HALT_HALTED).qmU (fun m => { m with parkArmed := false })).sqError q 6 else s
        let s := s.endAll 0x0007 (fun c => if halted && c.qid = q && c.idx = idx then 2 else 0) none
        let s := (s.off CM_CMD_BUSY).on CM_STAT_RESET_DONE
        let s := s.mdU (fun m => { m with haltHold := m.haltHold && !halted })
        let s := s.cmU (fun m => { m with resetting := none })
        State.each (s.qm.cq.map (·.1)) (fun q t => t.cqHeld q) s

/-- CM_SHUTDOWN_LIMIT (R480): 600 ms after STOPPING began. A command whose commit runs completes at its end (R457), and the
shut-down with it. -/
def execCmShutdownLimit (s : State) : Host.Outcome State Fault Refusal :=
  .next <|
    if s.g CM_CTL_STATE = stStopping then
      let s := s.endAll 0x0007 (fun _ => 0) none
      if s.cm.table.any (fun x => x.2.status.isNone) then s
      else if s.is CM_CTL_ENABLE_PENDING then ((s.off CM_CTL_ENABLE_PENDING).p CM_CTL_STATE stStarting).off ⟨CM_PACE, 31, 1⟩
      else s.p CM_CTL_STATE stOff
    else s

/-! Activation (R478, R479). -/

/-- ACTIVATION_DRAIN_LIMIT (R479). -/
def execActivationDrainLimit (s : State) : Host.Outcome State Fault Refusal :=
  .next <|
    if s.g CM_ACT_PHASE = 2 then
      let ids := (s.cm.table.filter (fun x => x.2.status.isNone && x.2.lib.isNone && some x.1 ≠ s.cm.actCmd)).map (·.1)
      (s.cmU (fun m => { m with actEnded := m.actEnded ++ ids })).endAll 0x0008 (fun _ => 0) s.cm.actCmd
    else s

/-- The customer image after a switch of firmware (R598). -/
def State.custAfterSwitch (s : State) : State :=
  match s.mc.stored with
  | some b =>
    if s.is MC_LOAD_LOADED && Image.bytes b 5 1 ≠ s.g MC_IFV_MAJOR then
      (s.p MC_LOAD_ERR 2).mcU (fun m => { m with disp := m.disp.filter (fun x => decide (x.1 < 0xC0)) })
    else s
  | none => s

/-- ACTIVATION_SWITCH (R711): no other taken command is left. -/
def execActivationSwitch (s : State) : Host.Outcome State Fault Refusal :=
  .next <|
    match s.bt.actSlot with
    | none => s
    | some slot =>
      if s.g CM_ACT_PHASE = 2 && s.cm.table.all (fun x => x.2.status.isSome || some x.1 = s.cm.actCmd) then
        ((s.p CM_ACT_PHASE 3).actSwitch slot).2.custAfterSwitch
      else s

/-- The queue manager restarts with its contexts kept (R435 S3). -/
def State.qmKeep (s : State) : State :=
  let live := s.qm.live
  (s.qmU (fun m => { m with chunks := m.chunks.filter (fun x => live.contains x.2) })).ovfFree

/-- ACTIVATION_DONE (R478 steps 5 and 6). -/
def execActivationDone (s : State) : Host.Outcome State Fault Refusal :=
  .next <|
    match s.cm.actCmd with
    | some id =>
      if s.g CM_ACT_PHASE = 3 && s.ft.resetOf.isNone then
        let ms := (s.now - s.cm.actStart) / 1000000
        let s := (s.qmKeep.complete id 0 (Image.fwVer s.bt.hdr)).off CM_ACT_PHASE
        let s := ((s.p CM_ACT_LAST_MS (min 1023 ms)).off BT_BOOT_REC_DONE).btU (fun b => { b with actSlot := none, recDue := true })
        let s := s.mdU (fun m => { m with reached := [] })
        (s.cmU (fun m => { m with actCmd := none })).note CM_STAT_ACT_DONE 0x0B05 6 0
      else s
    | none => s

/-! DMA rows that end commands (R507, R520–R525). -/

/-- DMA_BURST_DONE (R507): a burst to buffer memory or a peripheral ends; `data` and `poison` what a peripheral gave. -/
def execDmaBurstDone (n : Fin 64) (data : BitVec 32768) (poison : Bool) (s : State) : Host.Outcome State Fault Refusal :=
  .next <|
    match s.dBurst n.val data.toNat poison with
    | (true, s) => s.xferDone n.val
    | (false, s) => s

/-- A faulted channel's command completes HOST_ACCESS_ERROR and the channel is released (R523, R524). -/
def State.faultEnd (s : State) (n : Nat) : State :=
  let id := s.dCmd n
  let s := s.dClear n
  match id with
  | some i => ((s.complete i 0x0202 0).cmdUp i (fun c => { c with chan := none })).chanSweep.ctxSweep
  | none => s

/-- A guard list that a fault stopped goes on (R520 step 7). -/
def State.guardAgain (s : State) (n : Nat) : State :=
  match (if n < 40 then s.dCmd n else none) with
  | some id =>
    if (s.cmd id).gleft.isEmpty then s
    else if (s.cmd id).opc = 2 then (s.guardIn id).chanSweep
    else s.guardSend id
  | none => s

/-- DM_RESUME (R523, R525). -/
def State.dResume (s : State) (n : Nat) (fail : Bool) : State :=
  if !s.dFaulted n then (s.sat DM_LATE_CNT_COUNT 1).note DM_STAT_RESUME_LATE 0x0C14 8 0
  else if fail then s.faultEnd n
  else (s.dRetry n).guardAgain n

def execDmResume (n : Fin 64) (fail : Bool) (s : State) : Host.Outcome State Fault Refusal := .next (s.dResume n.val fail)

/-- FAULT_TIMER_EXPIRY (R524). -/
def execFaultTimerExpiry (n : Fin 64) (s : State) : Host.Outcome State Fault Refusal :=
  .next (if s.dFaulted n.val && (s.dch n.val).timer then (s.faultEnd n.val).note DM_STAT_FAULT_TMO 0x0C15 8 0 else s)

end Sys2Proof.Machine
end

