-- ==== Sys2Proof/Machine/Link.lean ====
section
/-! DEFINITION. Machine/Link.lean: the Wivik link (R356–R399): blocks, acknowledgement and replay, training, forwarding,
responses and timeouts of the ZH8's own frames with what they wake (R484, R493, R499, R507, R520), lane and port failure;
and the hold of the merging buffer (R492, R498). -/

namespace Sys2Proof.Machine

open Reg

/-- Frames reach the ZH8 only while LK is ON (R740). -/
def State.lkOn (s : State) : Bool := decide (s.g LK_CTL_STATE = stOn)

/-! What a host word belongs to. -/

/-- Two byte ranges meet. -/
def meets (a n b m : Nat) : Bool := decide (a < b + m) && decide (b < a + n)

/-- The host address of the slot of an index, and of a queue's interrupt word. -/
def QmCtx.slotAddr (c : QmCtx) (idx : Nat) : Nat := c.cqBase + 16 * (idx % 65536)
def State.irqAddr (s : State) (q : Nat) : Nat := s.pair QM_IRQ_BASE_LO QM_IRQ_BASE_HI + 4 * (s.ctx q).irqVec

/-- Requester 1's words that a range covers: address and the value they would be given now (R390, R413, R419, R420). -/
def State.shadowWords (s : State) (addr len : Nat) : List (Nat × Nat) :=
  s.qm.live.flatMap (fun q =>
    let c := s.ctx q
    let l := [(c.sqCiAddr, c.sqCi), (c.cqPiAddr, c.cqPi)] ++ (if c.irqEn = 1 then [(s.irqAddr q, q)] else [])
    l.filter (fun x => meets addr len x.1 4))

/-- The bytes of a write of requester 1 with every shadow word at its current index. -/
def State.freshen (s : State) (addr len data : Nat) : Nat :=
  (s.shadowWords addr len).foldl (fun d x => if addr ≤ x.1 && x.1 + 4 ≤ addr + len then overlay d (x.1 - addr) 4 x.2 else d) data

/-! Contexts that wait for a HOST load (R581). -/

/-- A context has its loaded value and may finish the microword; an error sets MEM_ERR and the load returns 0. -/
def State.ctxLoaded (s : State) (n v : Nat) (err : Bool) : State :=
  s.mcU (fun m =>
    let c := m.ctx.getD n {}
    if c.wait = .mem then
      { m with ctx := m.ctx.putD n {} { c with memErr := c.memErr || err, memVal := if err then 0 else v, wait := .memDone, st := 1 } }
    else m)

/-- A HOST load through the cache: each line it meets must be VALID (R482, R484, R581). -/
def State.hostLoad (s : State) (n addr size : Nat) : State :=
  let w : Waiter := .ctx n addr size
  let k := min size (128 - addr % 128)
  match s.translate addr size false with
  | none => s.ctxLoaded n 0 true
  | some a =>
    let again := s.hcServed (a / 128)
    let (hit, s) := s.hcRead (a / 128) w 3
    let s := if again then s else s.hcTrack (8 + n % 8) (a / 128) 0 (fun _ => true) (fun _ => 3)
    if !hit then s
    else
      let lo := s.hcData (a / 128) / 2 ^ (8 * (a % 128)) % 2 ^ (8 * k)
      if k = size then s.ctxLoaded n lo false
      else
        let (hit, s) := s.hcRead (a / 128 + 1) w 3
        if !hit then s else s.ctxLoaded n (lo + 2 ^ (8 * k) * (s.hcData (a / 128 + 1) % 2 ^ (8 * (size - k)))) false

/-! Cache fills (R484, R493, R495, R499). -/

/-- A waiting read is served from its line. -/
def State.wake (s : State) (w : Waiter) : State := match w with
  | .sqe _ => s
  | .chain n => (s.dGo n).xferCheck n
  | .guard id => (s.guardIn id).chanSweep
  | .ctx n addr size => s.hostLoad n addr size
  | .other _ => s

/-- A waiting read receives the error of its fill (R499): `xlat` a TRANSLATION_FAULT, `tmo` a timeout. -/
def State.wakeErr (s : State) (w : Waiter) (xlat tmo : Bool) : State := match w with
  | .sqe q => s.sqError q 2
  | .chain n =>
    if xlat then (s.dFault n (s.dch n).fin (((s.dch n).chain.map (·.1)).getD 0)).dFaultSettle n
    else (s.dHostErr n tmo).chanSweep.sqNoRsp (s.dQid n) tmo
  | .guard id => match (s.cmd id).chan with
    | some n =>
      if xlat then (s.dFault n (s.dch n).fin (((s.cmd id).gleft.head?).getD (s.cmd id).gptr)).dFaultSettle n
      else ((s.dHalt n (if tmo then hcHostTmo else hcHostErr)).complete id (if tmo then 0x0201 else 0x0202) 0).chanSweep.sqNoRsp (some (s.cmd id).qid) tmo
    | none => (s.complete id (if tmo then 0x0201 else 0x0202) 0).chanSweep.sqNoRsp (some (s.cmd id).qid) tmo
  | .ctx n _ _ => s.ctxLoaded n 0 true
  | .other _ => s

/-- Reads that waited for a line, or for HC to be ON, are tried again (R484, R500). -/
def State.hcRetry (s : State) : State :=
  let l := s.hc.fillWait
  State.each l (fun x t => match t.hcRead x.1 x.2 3 with
    | (true, t) => ((t.hcServe x.1 true).wake x.2).hcServe x.1 false
    | (false, t) => t) { s with hc := { s.hc with fillWait := [] } }

/-- CACHE_FILL_DONE (R484, R493, R495): bytes written meanwhile and the merging buffer's are laid over the data; the
waiting reads are served in order; an invalidation that waited is then applied. -/
def State.fillDone (s : State) (line data : Nat) : State :=
  match s.hcFind line with
  | none => s
  | some (i, l) =>
    if l.state ≠ 1 then s
    else
      let d := s.wbOver line (overlayMask data l.mask l.data 128)
      let s := (s.hcPut i { l with state := 2, data := d, mask := 0, waiters := [], invOnFill := false }).hcOcc
      let s := (State.each l.waiters (fun w t => (t.hcServe line true).wake w) s).hcServe line false
      let s := if l.invOnFill then ((s.hcDrop i).hcOcc).maintDone else s
      s.hcRetry

/-- A fill ends with an error and installs no line. A failed prefetch is silent, and a demand read of its line starts its
own fill (R490). -/
def State.fillErr (s : State) (line : Nat) (pf xlat tmo : Bool) : State :=
  match s.hcFind line with
  | none => s
  | some (i, l) =>
    if l.state ≠ 1 then s
    else
      let s := (s.hcDrop i).hcOcc
      let s := if pf then State.each l.waiters (fun w t => (t.hcRead line w 3).2) s
        else State.each l.waiters (fun w t => t.wakeErr w xlat tmo) (s.note HC_STAT_FILL_ERR 0x0C03 7 0)
      let s := if l.invOnFill then s.maintDone else s
      s.hcRetry

/-! Writes of the merging buffer. -/

/-- A WRITE of requester 1 is confirmed: the CQ entries it carried are (R418). -/
def State.wbOk (s : State) (addr len : Nat) : State :=
  let hit (t : State) (q : Nat) : List CqEnt :=
    (t.cqr q).entries.filter (fun e => !e.ok && decide (addr ≤ (t.ctx q).slotAddr e.idx) && decide ((t.ctx q).slotAddr e.idx + 16 ≤ addr + len))
  State.each s.qm.live (fun q t =>
    let l := hit t q
    if l.isEmpty then t
    else
      let t := t.cqrUp q (fun r => { r with
        entries := (r.entries.map (fun (e : CqEnt) => if l.contains e then { e with ok := true, cmd := none } else e)).filter
          (fun e => !(e.ok && e.covered)) })
      State.each (l.filterMap (·.cmd)) (fun id u => u.cqPaid q id) t) s

/-- A WRITE of the merging buffer failed: the requester acts on it (R428, R429, R498, R507, R581). -/
def State.wbFail (s : State) (req addr len : Nat) (tmo : Bool) : State :=
  if req = 1 then
    State.each s.qm.live (fun q t =>
      let c := t.ctx q
      let t := if meets addr len c.sqCiAddr 4 then t.sqError q 7 else t
      if meets addr len c.cqPiAddr 4 || (c.irqEn = 1 && meets addr len (t.irqAddr q) 4) ||
        (t.cqr q).entries.any (fun e => !e.ok && meets addr len (c.slotAddr e.idx) 16) then t.cqError q 1
      else t) s
  else if req = 3 then
    State.each ((s.cm.table.filter (fun x => x.2.guard && x.2.status.isNone && (match s.translate x.2.gptr 4 true with
        | some a => meets addr len a (4 * x.2.nblk)
        | none => false))).map (·.1)) (fun id t =>
      let st := if tmo then 0x0201 else 0x0202
      (match (t.cmd id).chan with
        | some n => ((t.dHalt n (if tmo then hcHostTmo else hcHostErr)).complete id st 0).chanSweep
        | none => t.complete id st 0).sqNoRsp (some (t.cmd id).qid) tmo) s
  else if req ≥ 8 then
    s.mcU (fun m => { m with ctx := m.ctx.map (fun (x : Nat × CtxState) =>
      if x.1 % 8 = req - 8 && x.2.hostLines.contains (addr / 128) then (x.1, { x.2 with memErr := true }) else x) })
  else s

/-- One WRITE frame of an entry has ended; the entry retires with its last (R493). -/
def State.wbFrame (s : State) (id : Nat) : State :=
  match s.hc.wb.find? (fun e => e.id == id) with
  | none => s
  | some e =>
    if e.outst ≤ 1 then
      let s := s.wbRetire id
      if s.hc.wb.any (fun x => x.line == e.line && x.req == e.req) then s
      else s.mcU (fun m => { m with ctx := m.ctx.map (fun (x : Nat × CtxState) =>
        if 8 + x.1 % 8 = e.req then (x.1, { x.2 with hostLines := x.2.hostLines.filter (· ≠ e.line) }) else x) })
    else s.hcU (fun h => { h with wb := h.wb.map (fun (x : WbEntry) => if x.id = id then { x with outst := x.outst - 1 } else x) })

def State.wbReq (s : State) (id : Nat) : Nat := ((s.hc.wb.find? (fun e => e.id == id)).map (·.req)).getD 0

/-! Transactions. -/

/-- The transaction a TAG names: one still awaited, else one whose timeout was granted. -/
def State.txnOf (s : State) (tag : Nat) (write : Option Bool) : Option Txn :=
  let ok (t : Txn) : Bool := t.tag == tag && (match write with
    | some w => t.write == w
    | none => true)
  match s.lk.txns.find? (fun t => ok t && !t.granted) with
  | some t => some t
  | none => s.lk.txns.find? ok

def State.txnDrop (s : State) (t : Txn) : State := s.lkU (fun l => { l with txns := l.txns.erase t })

/-- A response for which no transaction is outstanding is discarded (R390). -/
def State.strayRsp (s : State) : State := s.sat LK_DUP_CNT_COUNT 1

/-- A response after its granted timeout is discarded (R392). -/
def State.lateRsp (s : State) (t : Txn) : State :=
  ((s.txnDrop t).sat LK_LATE_CNT_COUNT 1).note LK_STAT_RSP_LATE 0x0905 4 0

/-- A frame of a DMA channel has its response. -/
def State.dmaRsp (s : State) (n off len data : Nat) (write : Bool) : State :=
  match s.dResponse n off len data write with
  | (true, s) => s.xferDone n
  | (false, s) => s.xferCheck n

/-- What the data of a read does for its requester. -/
def State.readData (s : State) (req : Req) (data : Nat) : State := match req with
  | .sqPi q => s.qmU (fun m => { m with returned := m.returned.ins (2 * q) (data % 2 ^ 32) })
  | .cqCi q => s.qmU (fun m => { m with returned := m.returned.ins (2 * q + 1) (data % 2 ^ 32) })
  | .cqFull q => (s.ciReturn q (data % 2 ^ 17)).cqHeld q
  | .recSq _ => s.qmU (fun m => { m with returned := m.returned.ins (2 ^ 22) (data % 2 ^ 32) })
  | .recCq _ => s.qmU (fun m => { m with returned := m.returned.ins (2 ^ 22 + 1) (data % 2 ^ 32) })
  | .fill line _ => s.fillDone line (data % 2 ^ 1024)
  | .dma n off len => s.dmaRsp n off len (data % 2 ^ (8 * len)) false
  | .wb _ => s
  | .gone _ => s

/-- What the failure of a transaction does for its requester (R428–R430, R490, R499, R507, R520). -/
def State.txnFail (s : State) (t : Txn) (xlat tmo : Bool) : State := match t.req with
  | .sqPi q => (s.qmU (fun m => { m with reading := m.reading.filter (· ≠ 2 * q) })).sqError q 2
  | .cqCi q => (s.qmU (fun m => { m with reading := m.reading.filter (· ≠ 2 * q + 1) })).cqError q 4
  | .cqFull q => (s.cqError q 4).cqHeld q
  | .recSq _ => s.qmU (fun m => { m with returned := m.returned.ins (2 ^ 22) (2 ^ 32) })
  | .recCq _ => s.qmU (fun m => { m with returned := m.returned.ins (2 ^ 22 + 1) (2 ^ 32) })
  | .fill line pf => s.fillErr line pf xlat tmo
  | .dma n off _ => ((s.dError n off xlat tmo).xferCheck n).chanSweep
  | .wb id => (s.wbFail (s.wbReq id) t.addr t.len tmo).wbFrame id
  | .gone _ => s

/-- READ_CPL_RECEIVE (R390, R484, R493). -/
def execReadCplReceive (tag : BitVec 16) (data : BitVec 32768) (s : State) : Host.Outcome State Fault Refusal :=
  .next <|
    if !s.lkOn then s
    else match s.txnOf tag.toNat (some false) with
      | none => s.strayRsp
      | some t => if t.granted then s.lateRsp t else (s.txnDrop t).readData t.req data.toNat

/-- WRITE_RSP_RECEIVE (R390, R418, R493, R507). -/
def execWriteRspReceive (tag : BitVec 16) (s : State) : Host.Outcome State Fault Refusal :=
  .next <|
    if !s.lkOn then s
    else match s.txnOf tag.toNat (some true) with
      | none => s.strayRsp
      | some t =>
        if t.granted then s.lateRsp t
        else
          let s := s.txnDrop t
          match t.req with
          | .wb id => (if s.wbReq id = 1 then s.wbOk t.addr t.len else s).wbFrame id
          | .dma n off len => s.dmaRsp n off len 0 true
          | _ => s

/-- ERROR_RSP_RECEIVE (R392): STATUS 4 is TRANSLATION_FAULT. -/
def execErrorRspReceive (tag : BitVec 16) (status : BitVec 8) (s : State) : Host.Outcome State Fault Refusal :=
  .next <|
    if !s.lkOn then s
    else match s.txnOf tag.toNat none with
      | none => s.strayRsp
      | some t => if t.granted then s.lateRsp t else (s.txnDrop t).txnFail t (decide (status = 4)) false

/-- The frame of a transaction still waits for its port: its timer is not armed (R392). -/
def State.unsent (s : State) (t : Txn) : Bool :=
  (upTo 2).any (fun p => (s.port p).out.any (fun f => !f.transit && f.tag == t.tag && f.kind == b2n t.write))

/-- LINK_TRANSACTION_TIMEOUT (R392). -/
def execLinkTransactionTimeout (tag : BitVec 16) (s : State) : Host.Outcome State Fault Refusal :=
  .next <|
    match s.txnOf tag.toNat none with
    | none => s
    | some t =>
      if t.granted || s.unsent t || s.timersHeld then s
      else
        (s.lkU (fun l => { l with txns := l.txns.map (fun (x : Txn) => if x = t then { t with granted := true } else x) })).txnFail t false true

/-! The merging buffer's hold. -/

/-- An uncorrectable error in an entry not yet issued (R498): the queue manager's bytes are formed again and written; another
requester's write counts as one that timed out. -/
def State.wbUe (s : State) (e : WbEntry) : State :=
  let s := (s.sat HC_UE_CNT_COUNT 1).fault HC_STAT_WB_UE 7 1 0x0C02 0
  if e.req = 1 then
    let e' := { e with data := overlayMask e.data e.mask (s.freshen (128 * e.line) 128 e.data) 128 }
    (s.hcU (fun h => { h with wb := h.wb.map (fun (x : WbEntry) => if x.id = e.id then e' else x) })).wbIssueOne e'
  else
    let runs := maskRuns e.mask 128 0 none
    let s := s.wbRetire e.id
    State.each runs (fun r t => t.wbFail e.req (128 * e.line + r.1) r.2 true) s

/-- The oldest entry not issued is issued (R492); `ue` an uncorrectable error found in it (R498). -/
def execMergeHoldExpiry (ue : Bool) (s : State) : Host.Outcome State Fault Refusal :=
  .next <|
    match s.hc.wb.find? (fun e => !e.issued && !s.wbHeld e) with
    | none => s
    | some e => if ue then s.wbUe e else s.wbIssueOne e

/-! Blocks (R362–R366). -/

/-- The frames whose last block is among the `k` oldest leave the replay list; of a frame acknowledged in part, the rest
stays. -/
def ackFrames : Nat → List (Nat × OutFrame) → List (Nat × OutFrame)
  | _, [] => []
  | k, (n, f) :: t => if n ≤ k then ackFrames (k - n) t else (n - k, f) :: t

/-- ACKSEQ acknowledges every block up to it (R362). -/
def PortState.ack (x : PortState) (seq : Nat) : PortState :=
  let k := (seq + 1 + 1024 - x.txOld) % 1024
  if k = 0 || k > x.blocks then x
  else { x with txOld := (x.txOld + k) % 1024, unacked := ackFrames k x.unacked, resends := 0 }

/-- The transmitter sends again from the oldest unacknowledged block (R364). -/
def State.blockReplay (s : State) (p : Nat) : State :=
  let x := s.port p
  if x.blocks = 0 then s
  else (s.sat (LK_REPLAY_CNT_COUNT p) x.blocks).portUp p (fun y => { y.again (s.hop p) with resends := y.resends + 1 })

/-- Symbols of a codeword the decoder corrects (R357). -/
def fecMax : Nat := 15

/-- BLOCK_RECEIVE (R35, R357–R359, R362, R363, R365, R384, R385): the 5,140 scrambled bits of a block; `errs` symbols in error of a
56 Gb/s codeword, or damage on a slower one; `drained` the bytes each lane's crossing FIFO gave the core since the block
before. A block that is uncorrectable or out of order is not accepted. The frames and control flits it carries are rows of their own;
its flits count as out of the receive buffer once it is accepted (DESIGN CHOICE 60). -/
def execBlockReceive (p : Fin 2) (bits : BitVec 5140) (errs : Fin 545) (drained : Nat) (s : State) :
    Host.Outcome State Fault Refusal :=
  .next <|
    let n := p.val
    if s.g (LK_PORT_STAT_PSTATE n) ≠ psUp then s
    else
      let x := s.port n
      let rate := s.g (LK_PORT_STAT_RATE n)
      let d := descramBlock bits.toNat x.dsc
      let lost := if rate = 3 then decide (errs.val > fecMax) else decide (errs.val ≠ 0)
      let fill := x.fifo + laneBytes rate (s.g (LK_PORT_STAT_LANEMASK n)) - drained
      let good := !lost && d.1 % 1024 == x.rxNext
      let r := x.flitsIn (s.hopV1 n) (d.1 / 2 ^ 20)
      let bad := decide (fill > 512) || (good && r.bare)
      let s := if bad then (s.fault LK_STAT_PROTO_ERR 4 5 0x0906 0).retrain n else s
      let s := if rate = 3 && !lost then s.sat (LK_FEC_CNT_COUNT n) errs.val else s
      let s := if lost then s.sat (LK_UNCORR_CNT_COUNT n) 1 else s
      let s := s.portUp n (fun y => { y with dsc := d.2, fifo := min 512 fill })
      if bad then s
      else if !good then
        if x.naked then s
        else
          ({ s with sent := lcfFrame x.owed (some x.rxNext) :: s.sent }).portUp n (fun y =>
            { y.lcfOut (s.hop n) (some x.rxNext) with naked := true })
      else
        (s.portUp n (fun y =>
          ({ y with
            rxNext := (y.rxNext + 1) % 1024, naked := false, rxLeft := r.left, rxVc := r.vc, grant := r.grant,
            owed := (upTo 4).map (fun v => y.owed.getD v 0 + r.freed.getD v 0) }).ack (d.1 / 1024 % 1024))).portPump n

/-- LCF_RECEIVE (R364, R365, R384): credits freed per VC, and NAKSEQ where NAK is 1. -/
def execLcfReceive (p : Fin 2) (cr0 cr1 cr2 cr3 : BitVec 16) (nak : Option (BitVec 10)) (s : State) :
    Host.Outcome State Fault Refusal :=
  .next <|
    let n := p.val
    if s.g (LK_PORT_STAT_PSTATE n) ≠ psUp then s
    else
      let add := [cr0.toNat, cr1.toNat, cr2.toNat, cr3.toNat]
      let s := s.portUp n (fun x => { x with credits := (upTo 4).map (fun v => x.credits.getD v 0 + add.getD v 0) })
      let s := if nak.isSome then s.blockReplay n else s
      s.portPump n

/-- REPLAY_TIMEOUT (R364). -/
def execReplayTimeout (p : Fin 2) (s : State) : Host.Outcome State Fault Refusal :=
  .next (if s.g (LK_PORT_STAT_PSTATE p.val) = psUp then s.blockReplay p.val else s)

/-! Training (R367–R373). -/

/-- The highest rate a port allows (R399). -/
def State.maxRate (s : State) (p : Nat) : Nat := atLeast1 (s.g (LK_PORT_CFG_MAXRATE p))

/-- PORT_SIGNAL_DETECT (R367 steps 1 and 2): the first rate is the lower of the two ends' highest allowed. -/
def execPortSignalDetect (p : Fin 2) (partnerMax : Fin 4) (s : State) : Host.Outcome State Fault Refusal :=
  .next <|
    let n := p.val
    if s.is LK_CTL_PASS || !s.switched || s.g (LK_PORT_STAT_PSTATE n) ≠ psTraining || (s.port n).trial ≠ 0 then s
    else s.portUp n (fun x => { x with trial := min (s.maxRate n) (atLeast1 partnerMax.val), locked := 0, failed := 0 })

/-- A rate has failed: the next lower one is tried, and below the lowest training has failed at every allowed rate (R367). -/
def State.trialFailed (s : State) (p : Nat) : State :=
  if (s.port p).trial ≤ 1 then s.portUp p (fun y => { y with trial := 0, locked := 0, noRate := true })
  else s.portUp p (fun y => { y with trial := y.trial - 1, locked := 0 })

/-- RATE_TRIAL_DONE (R367 step 2): the lanes that locked; with none, the next lower rate is tried, and below the lowest
training has failed at every allowed rate. -/
def execRateTrialDone (p : Fin 2) (lanes : BitVec 8) (s : State) : Host.Outcome State Fault Refusal :=
  .next <|
    let n := p.val
    let x := s.port n
    if x.trial = 0 || s.g (LK_PORT_STAT_PSTATE n) ≠ psTraining then s
    else
      let ok := (lanes &&& ~~~ (BitVec.ofNat 8 x.failed)).toNat
      if ok ≠ 0 then s.portUp n (fun y => { y with locked := ok }) else s.trialFailed n

/-- The version of a hop (R368): the highest major both speak, and in it the lower of the highest minors; `v1`, `v2` the
partner's highest minor of each major. -/
def hopVersion (v1 v2 : Option (Fin 16)) (allow1 : Bool) : Option Nat :=
  match v2, v1 with
  | some m, _ => some (0x20 + min 1 m.val)
  | none, some m => if allow1 then some (0x10 + min 3 m.val) else none
  | none, none => none

/-- The frames a port sends again after a partner change or a wrap (R390): writes of shadow words and interrupts are left
out, and after the last frame one fresh write of the current value follows for each word. Each fresh write keeps the TAG of
the last write left out for its word; the transactions of the others end with it. -/
def State.resendList (s : State) (l : List OutFrame) : List OutFrame × List OutFrame :=
  let own (f : OutFrame) : Bool := !f.transit && f.kind == 1
  let pure_ (f : OutFrame) : Bool := own f && decide (f.len ≤ 4) && (s.shadowWords f.addr f.len).any (fun x => x.1 = f.addr && f.len = 4)
  let l := (l.filter (fun f => f.kind ≠ 8)).map (fun (f : OutFrame) => { f with ctl := none })
  let keep := (l.filter (fun f => !pure_ f)).map (fun (f : OutFrame) => if own f then { f with data := s.freshen f.addr f.len f.data } else f)
  let left := l.filter pure_
  let last := left.filter (fun f => (left.filter (fun g => g.addr == f.addr)).getLast? == some f)
  (keep ++ last.map (fun (f : OutFrame) => { f with data := s.freshen f.addr f.len f.data }), left.filter (fun f => !last.contains f))

/-- The transactions of writes left out of a resend and covered by a fresh one end. -/
def State.dropResent (s : State) (l : List OutFrame) : State :=
  State.each l (fun f t => match t.txnOf f.tag (some true) with
    | some x => if x.granted then t else match x.req with
      | .wb id => (t.txnDrop x).wbFrame id
      | _ => t
    | none => t) s

/-- The next transmitter numbering after a partner change: every unacknowledged block again, from 0 (R369). -/
def State.partnerChange (s : State) (p : Nat) : State :=
  let s := s.note LK_STAT_PARTNER_CHG 0x0904 4 0
  let (again, left) := s.resendList ((s.port p).unacked.map (·.2))
  let v1 := s.hopV1 p
  let s := s.portUp p (fun x =>
    let u := again.map (fun f => ((f.flits v1 + 9) / 10, f))
    { x with unacked := u, txOld := 0, txNext := (u.map (·.1)).sum % 1024, rxNext := 0, naked := false, resends := 0, rxLeft := 0 })
  (s.portUp p (fun x => x.again (s.hop p))).dropResent left

/-- The port comes UP (R367 step 5, R369, R395). -/
def State.portComesUp (s : State) (p tag lanes ver next : Nat) (cr : List Nat) (line : Nat) : State :=
  let x := s.port p
  let rate := x.trial
  let same := x.seen && decide (s.g (LK_PARTNER_TAG p) = tag)
  let s := (s.p (LK_PORT_STAT_PSTATE p) psUp).p (LK_PORT_STAT_RATE p) rate
  let s := ((s.p (LK_PORT_STAT_LANES p) (popCount lanes 8)).p (LK_PORT_STAT_LANEMASK p) lanes).p (LK_PORT_STAT_VER p) ver
  let s := (s.p (LK_PARTNER_TAG p) tag).portUp p (fun y =>
    { y with
      trial := 0, seen := true, credits := cr, down := false, noRate := false, dsc := line, fifo := 0, slots := 0,
      owed := [0, 0, 0, 0], grant := [1024, 1024, 1024, 1024] })
  let s := if same then s.portUp p (fun y => (y.ack ((next + 1023) % 1024)).again (s.hop p)) else s.partnerChange p
  let s := if x.down then (s.note LK_STAT_PORT_UP 0x0903 4 0).when
      (!(s.port (1 - p)).down) (fun t => t.off LK_STAT_WRAPPED) else s
  s.portPump p

/-- Lanes a hop runs on: a 1.x hop without all eight narrows to four (R393, "1.x hops"). DESIGN CHOICE 108: the lowest four. -/
def narrow (v lanes : Nat) : Nat :=
  if v < 0x20 && decide (lanes ≠ 255) then (((lanesOf lanes).take 4).map (fun i => 2 ^ i)).sum else lanes

/-- PORT_TRAINED (R367 steps 3 to 5): the partner's tag, versions, locked lanes, initial credits per VC and the BSEQ it
expects next; `skew` the widest difference between lanes in ns, of which the receiver takes out up to 64 (R361); `line` the
last 58 line bits before the first block. Major 1 needs a rate below 56 Gb/s; where no major is allowed, training has failed. -/
def execPortTrained (p : Fin 2) (tag : Word) (v1 v2 : Option (Fin 16)) (lanes : BitVec 8) (next : BitVec 10)
    (cr0 cr1 cr2 cr3 : BitVec 16) (skew : Nat) (line : BitVec 58) (s : State) : Host.Outcome State Fault Refusal :=
  .next <|
    let n := p.val
    let x := s.port n
    if s.g (LK_PORT_STAT_PSTATE n) ≠ psTraining || x.trial = 0 || x.locked = 0 then s
    else if skew > 64 then s.trialFailed n
    else match hopVersion v1 v2 (s.is (LK_PORT_CFG_ALLOW_V1 n)) with
      | none => s.portUp n (fun y => { y with trial := 0, locked := 0, noRate := true })
      | some v =>
        let both := narrow v (BitVec.ofNat 8 x.locked &&& lanes).toNat
        if v < 0x20 && x.trial = 3 then s.portUp n (fun y => { y with trial := 2, locked := 0 })
        else if both = 0 then s
        else s.portComesUp n tag.toNat both v next.toNat [cr0.toNat, cr1.toNat, cr2.toNat, cr3.toNat] line.toNat

/-- RETRAIN_W and RETRAIN_E (R367). -/
def execRetrainW (s : State) : Host.Outcome State Fault Refusal := .next (s.retrain 0)
def execRetrainE (s : State) : Host.Outcome State Fault Refusal := .next (s.retrain 1)

/-- TAP_TRAINING_DONE (R18, R373): the pass opens and both ports train. -/
def execTapTrainingDone (s : State) : Host.Outcome State Fault Refusal :=
  .next <|
    if s.g LK_CTL_STATE = stStarting && s.is LK_CTL_PASS && s.switched then
      State.each (upTo 2) (fun p t => (t.retrain p).portUp p (fun x => { x with seen := false })) (s.off LK_CTL_PASS)
    else s

/-- The pass closes: both ports are bypassed, and frames inside the ZH8 are lost (R374, R375). -/
def State.passClose (s : State) : State :=
  State.each (upTo 2) (fun p t =>
    ((t.wr (LK_PORT_STAT p) 0).p (LK_PORT_STAT_PSTATE p) psBypassed).portUp p (fun _ => {})) ((s.on LK_CTL_PASS).off LK_STAT_WRAPPED)

/-- LK_SHUTDOWN_DRAIN (R374): every held block is acknowledged, or `expired` 100 µs have passed. -/
def execLkShutdownDrain (expired : Bool) (s : State) : Host.Outcome State Fault Refusal :=
  .next <|
    if s.g LK_CTL_STATE = stStopping && (expired || (upTo 2).all (fun p => (s.port p).unacked.isEmpty && (s.port p).out.all (·.originated))) then
      s.passClose
    else s

/-! Frames in transit (R380–R382, R389, R396). -/

def State.ownId (s : State) : Nat := s.g LK_ID_ID

/-- A frame is a request: it has a response. -/
def OutFrame.request (f : OutFrame) : Bool := f.kind == 0 || f.kind == 1
def OutFrame.response (f : OutFrame) : Bool := f.kind == 2 || f.kind == 3 || f.kind == 4

/-- An ERROR_RSP to the source of a request, on the VC of the response it replaces (R377, R394, R396). -/
def State.errorTo (s : State) (f : OutFrame) (status : Nat) : State :=
  s.respond { kind := 4, dst := f.src, tag := f.tag, addr := 0, len := 0, data := 0, code := status,
              vc := if f.vc = 0 then 0 else if f.kind = 1 then 3 else 2 }

/-- A frame held for a dead port (R394 step 2). -/
def State.stranded (s : State) (f : OutFrame) : State :=
  if f.request then s.errorTo f 1 else if f.response then s.sat LK_DUP_CNT_COUNT 1 else s

/-- A damaged frame is discarded (R382). -/
def State.fcrcBad (s : State) : State := (s.sat LK_FCRC_CNT_COUNT 1).note LK_STAT_FCRC 0x0908 4 0

/-- FRAME_FORWARD (R381, R382, R394, R396): a frame that arrives on a port and is not the ZH8's; `hcrc` its header is good.
One of an undefined type that is addressed to the ZH8 is answered ACCESS_ERROR; in BOOT every frame addressed to it that has
no row of its own is answered UNREACHABLE (R633). -/
def execFrameForward (p : Fin 2) (kind : Fin 8) (dst src : BitVec 12) (vc : Fin 4) (hops : BitVec 8) (tag : BitVec 16)
    (len : Fin 4097) (addr : BitVec 64) (space : BitVec 8) (data : BitVec 32768) (code : BitVec 8) (hcrc : Bool) (s : State) :
    Host.Outcome State Fault Refusal :=
  .next <|
    let f : OutFrame := {
      kind := kind.val, dst := dst.toNat, tag := tag.toNat, addr := addr.toNat, len := len.val,
      data := data.toNat, code := code.toNat, vc := vc.val, src := src.toNat, hops := hops.toNat - 1, space := space.toNat,
      transit := true }
    let q := 1 - p.val
    if !s.lkOn then s
    else if !hcrc then s.fcrcBad
    else if s.is LK_ID_VALID && dst.toNat = s.ownId then
      if s.mode = mBoot && !f.response && kind.val ≠ 6 && !(f.request && (space = 1 || space = 2)) then s.errorTo f 1
      else if kind.val = 7 then s.errorTo f 3
      else s
    else if hops.toNat ≤ 1 then s.note LK_STAT_HOPS 0x0909 4 0
    else if (s.port q).down then s.stranded f
    else if s.hopV1 q && untranslatable f.len f.addr (f.dst / 64 % 32) f.space (kind.val == 6) then
      (if f.request then s.refuse1x.errorTo f 2 else s.refuse1x)
    else s.sendOn q f

/-- The lowest version negotiated on the ports that are UP, none where none is. -/
def State.lowVer (s : State) : Option Nat :=
  ((upTo 2).filter (fun p => s.g (LK_PORT_STAT_PSTATE p) = psUp)).map (fun p => s.g (LK_PORT_STAT_VER p)) |>.min?

/-- ENUM_RECEIVE (R380): it goes on by the other port with the count and the floor as the ZH8 leaves them. -/
def execEnumReceive (p : Fin 2) (loop : Fin 32) (next : Fin 64) (floor : BitVec 8) (s : State) : Host.Outcome State Fault Refusal :=
  .next <|
    if !s.lkOn then s
    else
      let fl := match s.lowVer with
        | some v => min v floor.toNat
        | none => floor.toNat
      let take := !s.is LK_ID_VALID
      let s := if take then (s.p LK_ID_ID (64 * loop.val + next.val)).on LK_ID_VALID else s
      let s := s.p LK_ID_FLOOR fl
      s.sendOn (1 - p.val) {
        kind := 6, dst := 2048 + 64 * loop.val + (1 - p.val), tag := 0, addr := 0, len := 2,
        data := (next.val + b2n take) + 256 * fl, code := 0, vc := 0, space := 3, transit := true }

/-! Lane and port failure (R393–R395). -/

/-- LANE_LOCK_LOSS (R393, R394): a lane loses or regains lock; the 10 µs lane timer and the 100 µs port timer run while
it, or every active lane, is without lock. -/
def execLaneLockLoss (p : Fin 2) (lane : Fin 8) (loss : Bool) (s : State) : Host.Outcome State Fault Refusal :=
  .next <|
    if bitOf (s.g (LK_PORT_STAT_LANEMASK p.val)) lane.val = 1 then
      s.portUp p.val (fun x => { x with lost := if loss then setBit x.lost lane.val else clrBit x.lost lane.val })
    else s

/-- LANE_FAIL (R393, R370): 10 µs without lock, or `errors` above the lane's limit; the port trains again, at its rate, on
the remaining lanes. -/
def execLaneFail (p : Fin 2) (lane : Fin 8) (errors : Bool) (s : State) : Host.Outcome State Fault Refusal :=
  .next <|
    let n := p.val
    if bitOf (s.g (LK_PORT_STAT_LANEMASK n)) lane.val = 1 && (errors || bitOf (s.port n).lost lane.val = 1) then
      let rate := s.g (LK_PORT_STAT_RATE n)
      let s := (s.fault LK_STAT_LANE_FAIL 4 0 0x0901 0).retrain n
      s.portUp n (fun x => { x with trial := rate, failed := setBit x.failed lane.val })
    else s

/-- A cause of R394 holds for a port. -/
def State.portDead (s : State) (p : Nat) : Bool :=
  let x := s.port p
  let mask := s.g (LK_PORT_STAT_LANEMASK p)
  (decide (mask ≠ 0) && (upTo 8).all (fun i => bitOf mask i = 0 || bitOf x.lost i = 1)) || decide (x.resends ≥ 8) || x.noRate

/-- PORT_DOWN (R394): what the dead port held, sent and not acknowledged or still to be sent, is answered, discarded, or sent again by the other port; the loop is
wrapped. -/
def execPortDown (p : Fin 2) (s : State) : Host.Outcome State Fault Refusal :=
  .next <|
    let n := p.val
    let x := s.port n
    if s.is LK_CTL_PASS || x.down || !s.portDead n then s
    else
      let s := (s.wr (LK_PORT_STAT n) 0).on LK_STAT_WRAPPED
      let transit := (x.unacked.map (·.2) ++ x.out).filter (fun f => f.transit)
      let own := x.out.filter (fun f => !f.transit)
      let (again, left) := s.resendList ((x.unacked.map (·.2)).filter (fun f => !f.transit))
      let s := s.portUp n (fun y => { y with
        out := [], unacked := [], txOld := 0, txNext := 0, down := true, trial := 0, noRate := false, resends := 0, lost := 0 })
      let s := s.dropResent left
      let s := s.fault LK_STAT_PORT_DOWN 4 1 0x0902 0
      let s := State.each (again ++ own) (fun f t => t.sendOn (1 - n) { f with dst := if f.request || f.kind = 5 then t.endAddr (1 - n) else f.dst }) s
      State.each transit (fun f t => t.stranded f) s

/-- PORT_RETRY (R395): a DOWN port is trained again. -/
def execPortRetry (p : Fin 2) (s : State) : Host.Outcome State Fault Refusal :=
  .next (if (s.port p.val).down && s.g (LK_PORT_STAT_PSTATE p.val) = psDown then s.retrain p.val else s)

end Sys2Proof.Machine
end

