-- ==== Sys2Proof/Machine/Bm.lean ====
section
/-! DEFINITION. Machine/Bm.lean: the meanings of the commands of the chapter "Buffer memory, ECC and the extent directory"
(R528–R563): reads of words in error, the two scrubbers, the rebuild of the directory, and mode register 4. -/

namespace Sys2Proof.Machine

open Reg

/-- Buffer memory in bytes (R530). -/
def State.bmBytes (s : State) : Nat := s.g BM_SIZE_MIB * 2 ^ 20

/-- Error bits appear in the stored word of an address. -/
def State.flip (s : State) (a e : Nat) : State := s.bSetErr a (s.bErr a ^^^ (e % 2 ^ 80))

/-- A machine check of a core for an uncorrectable word: cause 1 a data load, 2 an instruction fetch (R679, R690). -/
def State.coreCheck (s : State) (core cause : Nat) : State := s.machineCheck core cause

/-- The CLEAN entry whose block holds an address. -/
def State.cleanAt (s : State) (a : Nat) : Option (Nat × EdEnt) :=
  s.bm.ed.find? (fun x => x.2.kind == kClean && decide (x.2.loc ≤ a) && decide (a < x.2.loc + 4096 * x.2.count))

/-- What the reader of a bad word does where no row of its own does it (R538). -/
def State.badWord (s : State) (a : Nat) (who : BufUser) : State := match who with
  | .fetch core mirror =>
    let m := a + s.g BM_CODE_SIZE_MIB * 2 ^ 20
    let s := s.flip m mirror.toNat
    if (eccClass (s.bErr m)).1 ≥ 2 || m ≥ s.bmBytes then
      (s.fault BM_STAT_FETCH_UE 9 3 0x0D03 0).coreCheck core.val 2
    else s.bPut (a / 8 * 8) 8 (s.bRd (m / 8 * 8) 8)
  | .load core => s.coreCheck core.val 1
  | .commit id =>
    let c := s.cmd id
    if c.status.isSome || s.committing id || s.jn.recs.any (fun r => r.cmd == some id) then s
    else
      let s := s.jnU (fun j => { j with waiting := j.waiting.filter (fun r => r.cmd ≠ some id) })
      if c.tries = 0 then (s.cmdUp id (fun x => { x with tries := 1 })).fetch (s.cmd id)
      else (s.complete id 0x0105 0).chanSweep
  | .egress id =>
    let c := s.cmd id
    if c.status.isSome then s
    else if c.tries = 0 then s.cmdUp id (fun x => { x with tries := 1 })
    else (s.complete id 0x0105 0).chanSweep
  | .dma n =>
    if !s.dBusy n.val then s
    else if s.dstSp n.val = spHost then (((s.sat DM_POISON_CNT_COUNT 1).dHalt n.val hcPoison).dFail n.val 0x0105).chanSweep
    else s.dchUp n.val (fun c => { c with haltDue := hcPoison })
  | .other => match s.cleanAt a with
    | some (k, e) => if e.ref = 0 then s.edSet (s.bm.ed.drop k) else s
    | none => s

/-- An instruction fetch from the code region before MAIN is done (R701). -/
def State.fetchEarly (s : State) (a : Nat) (who : BufUser) : Option Nat :=
  let base := s.pair BM_CODE_BASE_LO BM_CODE_BASE_HI
  match who with
  | .fetch core _ =>
    if base ≤ a && a < base + s.g BM_CODE_SIZE_MIB * 2 ^ 20 &&
      !(upTo 4).any (fun i => Image.stTyp s.bt.hdr i == 2 && s.bit BT_GATE_DONE i) then some core.val else none
  | _ => none

/-- An access refused while buffer memory is STOPPING (R558): an error to its requester; no word is read. -/
def State.bufRefused (s : State) (a : Nat) (who : BufUser) : State := match who with
  | .fetch core _ => s.coreCheck core.val 2
  | .other => s
  | _ => s.badWord a who

/-- BUFFER_READ (R530, R534, R535, R537, R538, R701): `flips` the error bits that have appeared in the stored word; `row` and
`first` its DDR5 row and that row's first address, `rank` its rank. -/
def execBufferRead (addr : BitVec 64) (flips : BitVec 80) (row : Nat) (first : BitVec 64) (rank : Fin 2) (who : BufUser) (s : State) :
    Host.Outcome State Fault Refusal :=
  .next <|
    let a := addr.toNat
    if s.g BM_CTL_STATE = stStopping then s.bufRefused a who
    else if a ≥ s.bmBytes then (s.fault BM_STAT_UE 9 1 0x0D02 (pk [(a, 64)])).badWord a who
    else match s.fetchEarly a who with
    | some core => s.coreCheck core 2
    | none =>
      let s := (s.flip a flips.toNat).eccNote a rank.val
      let cls := (eccClass (s.bErr a)).1
      if cls = 1 then s.rowNote row first.toNat
      else if cls ≥ 2 then s.badWord a who
      else s

/-! The scrubber (R540–R542). -/

/-- The address of burst `k` of a channel (R530). -/
def burstAddr (k chan : Nat) : Nat := (k / 2 * 4 + chan) * 256 + k % 2 * 128

/-- The pair whose context holds an address, by either copy (R400). -/
def State.ctxOwner (s : State) (a : Nat) : Option Nat :=
  let b := s.ctxAddr 0
  if b ≤ a && a < b + ctxMirror then some ((a - b) / 96)
  else if b + ctxMirror ≤ a && a < b + 2 * ctxMirror then some ((a - b - ctxMirror) / 96)
  else none

/-- One word in error under the scrubber: corrected, poisoned, or left (R540). -/
def State.scrubWord (s : State) (a row first : Nat) : State :=
  let e := s.bErr a
  let s := s.eccNote a 0
  let cls := (eccClass e).1
  if cls = 1 then (s.rowNote row first).bSetErr a 0
  else if cls = 2 then
    let s := s.bSetErr a eccPoison
    match s.ctxOwner a with
    | some q =>
      if s.qm.cache.any (fun x => x.1 == q) then s
      else if s.bBad (s.ctxAddr q) 96 && s.bBad (s.ctxAddr q + ctxMirror) 96 then s
      else
        let c := s.ctxMem q
        (s.sat QM_CTX_CE_CNT_COUNT 1).ctxWriteBack q c
    | none => s
  else s

/-- SCRUB_BURST (R540–R542): the next burst of every channel; `flips` error bits that have appeared in words of it, with
the row of each word and that row's first address. -/
def execScrubBurst (flips : List (Nat × BitVec 80)) (row : Nat) (first : BitVec 64) (s : State) : Host.Outcome State Fault Refusal :=
  .next <|
    if s.g BM_CTL_STATE ≠ stOn || s.g BM_SCRUB_CFG_PERIOD = 0 || s.bmBytes = 0 then s
    else
      let k := s.bm.scrubAt
      let inBurst (a : Nat) : Bool := (upTo 4).any (fun c => decide (burstAddr k c ≤ a) && decide (a < burstAddr k c + 128))
      let s := State.each (flips.filter (fun f => inBurst f.1)) (fun f t => t.flip f.1 f.2.toNat) s
      let bad := (s.bm.err.filter (fun e => inBurst e.1)).map (·.1)
      let s := State.each bad (fun a t => t.scrubWord a row first.toNat) s
      let total := s.bmBytes / 512
      if k + 1 < total then
        (s.bmU (fun b => { b with scrubAt := k + 1 })).p BM_SCRUB_STAT_PCT ((k + 1) * 100 / total)
      else
        let s := (s.inc BM_SCRUB_STAT_PASSES).off BM_SCRUB_STAT_PCT
        (s.on BM_STAT_SCRUB_DONE).bmU (fun b => { b with scrubAt := 0, rows := [] })

/-! On-die SRAM (R543, R544). -/

/-- A directory or presence-map word is uncorrectable (R554 steps 1 and 2): the volume is held until its entries are
rebuilt. -/
def State.edUe (s : State) (v : Nat) : State :=
  (s.fault BM_STAT_ED_UE 9 8 0x0D08 0).bmU (fun b => { b with hold := setBit b.hold v })

/-- A slot of the sample memory is poisoned (R95). -/
def State.smemUe (s : State) (c slot : Nat) : State :=
  (s.fault (CH_STAT_SMEM_UE c) (16 + c) 8 0x0203 0).slotUp c slot (fun x => { x with poison := true })

/-- What the owner of an uncorrectable SRAM word does (R544). -/
def State.sramUe (s : State) (w : SramWord) : State := match w with
  | .sample c slot => s.smemUe c.val slot.val
  | .hcLine i => match s.hc.lines.find i.val with
    | some l =>
      if l.state = 2 then (((s.hcDrop i.val).sat HC_UE_CNT_COUNT 1).note HC_STAT_LINE_UE 0x0C01 7 (pk [(128 * l.addr, 64)])).hcOcc
      else s
    | none => s
  | .merge i => match s.hc.wb[i.val]? with
    | some e => if e.issued then s else s.wbUe e
    | none => s
  | .doorbells w => s.qmU (fun m => { m with db := (upTo 64).foldl (fun d k => d.ins (64 * w.val + k) true) m.db })
  | .context q =>
    if s.qm.cache.any (fun x => x.1 == q.toNat) then
      ((s.qmU (fun m => { m with cache := m.cache.filter (fun x => x.1 ≠ q.toNat) })).ctxLoad q.toNat).2
    else s
  | .command id data => if data then (s.complete id 0x0105 0).chanSweep else s
  | .micro a => s.mcU (fun m => { m with ue := a.val :: m.ue })
  | .nano a => s.mcU (fun m => { m with ue := (16384 + a.val) :: m.ue })
  | .directory i => match s.bm.ed.find i.val with
    | some e => if e.kind = kClean then s.edSet (s.bm.ed.drop i.val) else (s.edSet (s.bm.ed.drop i.val)).edUe e.vol
    | none => s
  | .presence v => s.edUe v.val
  | .runout a i => s.actUp a.val (fun x => { x with runout := x.runout.drop i.val })
  | .capture a i => s.actUp a.val (fun x => { x with ring := x.ring.drop i.val })

/-- SRAM_SCRUB (R543, R544): a word read with a corrected error, or with an uncorrectable one. The spec gives no code for
the array named in the event: a free value. -/
def execSramScrub (word : SramWord) (ue : Bool) (s : State) : Host.Outcome State Fault Refusal :=
  .next <|
    if !s.is BM_SCRUB_CFG_SRAM_EN then s
    else if !ue then
      let s := s.sat BM_SRAM_CE_CNT_COUNT 1
      match word with
      | .sample c _ => s.on (CH_STAT_SMEM_CE c.val)
      | _ => s
    else
      let (arr, s) := (s.sat BM_SRAM_UE_CNT_COUNT 1).free
      (s.fault BM_STAT_SRAM_UE 9 9 0x0D07 arr).sramUe word

/-- ED_REBUILD_DONE (R554 steps 3 and 4): the DIRTY and SPILLED entries of a held volume stand again as replay makes them. -/
def execEdRebuildDone (v : Fin 64) (s : State) : Host.Outcome State Fault Refusal :=
  .next <|
    if bitOf s.bm.hold v.val = 0 then s
    else
      let s := s.edSet (s.bm.ed.filter (fun x => decide (x.2.kind = kClean) || decide (x.2.vol ≠ v.val)))
      let s := State.each (s.jn.recs.filter (fun r => r.typ == tData && r.durable && !r.retired && r.ready && r.vol == v.val))
        (fun r t => t.dirPut r) s
      s.bmU (fun b => { b with hold := clrBit b.hold v.val })

/-- MR4_POLL (R529, R561): a channel's refresh field and its hottest device. -/
def execMr4Poll (chan : Fin 4) (fine : Bool) (temp : BitVec 8) (s : State) : Host.Outcome State Fault Refusal :=
  .next <|
    if s.g BM_CTL_STATE ≠ stOn then s
    else
      let n := chan.val
      let s := s.p ⟨BM_TEMP, 8 * n, 8⟩ temp.toNat
      let above := decide (temp.toNat > s.g BM_CFG_TEMP_LIM)
      let was := decide (bitOf s.bm.hot n = 1)
      let s := s.bmU (fun b => { b with
        fine := if fine then setBit b.fine n else clrBit b.fine n, hot := if above then setBit b.hot n else clrBit b.hot n })
      s.when (above && !was) (fun t => t.note BM_STAT_TEMP_HIGH 0x0D05 9 0)

end Sys2Proof.Machine
end

