-- ==== Sys2Proof/Machine/Channel.lean ====
section
/-! DEFINITION. Machine/Channel.lean: head selection (R58–R62), the preamp control bus (R63–R69), the gates, the sample
memory (R92–R96), and what every sector operation reports (R88); the meanings of their commands. -/

namespace Sys2Proof.Machine

open Reg

/-! Head selection. -/

/-- Head index h of an actuator is populated (R61, R640). -/
def State.populated (s : State) (a h : Nat) : Bool := decide (h < 12) && decide (bitOf s.md.pop (12 * a + h) = 1)

/-- The head a channel slot has selected, 0xF none: the one it settles on, or the one it routes. -/
def State.selected (s : State) (c : Nat) : Nat := ((s.ch c).settling).getD (s.g (CH_HEADSEL_ACTIVE c))

/-- The preamp request frame (R63). -/
def paFrame (write : Bool) (addr data : Nat) : Nat :=
  let top := b2n write * 2 ^ 23 + (addr % 128) * 2 ^ 16 + data % 2 ^ 16
  top * 256 + Code.crc8 24 top

/-! The bus carries one frame at a time (R68). DESIGN CHOICE 98: a frame ends with the next step on an empty queue, or with
the event that shows it has ended, and a read keeps the bus until its response or its timeout. -/

/-- A frame goes out on PA_DAT. -/
def PaState.go (x : PaState) (f : PaFrame) : PaState :=
  { x with frame := BitVec.ofNat 32 (paFrame f.write f.addr f.data), busy := true, asked := !f.write }

/-- The frame that waits goes out where the bus is free: head-select and mode frames first, and a firmware frame after at
most two of them (R68). -/
def PaState.next (x : PaState) : PaState :=
  if x.busy then x
  else match x.fw, x.hw with
    | some f, [] => PaState.go { x with fw := none, passed := 0 } f
    | some f, h :: t => if x.passed ≥ 2 then PaState.go { x with fw := none, passed := 0 } f else PaState.go { x with hw := t, passed := x.passed + 1 } h
    | none, h :: t => PaState.go { x with hw := t } h
    | none, [] => x

/-- The frame on the bus has ended, a read's response apart, and the next goes out. -/
def PaState.turn (x : PaState) : PaState := PaState.next { x with busy := x.asked }

/-- Frames leave one after another. -/
def PaState.drain : Nat → PaState → PaState
  | 0, x => x
  | n + 1, x => PaState.drain n x.turn

/-- The bus takes a step; a firmware write ends once its frame is out. -/
def State.paStep (s : State) (a : Nat) (f : PaState → PaState) : State :=
  let t := s.paUp a f
  if (s.pa a).fw.any (·.write) && (t.pa a).fw.isNone then t.off (CH_PA_CMD_BUSY (4 * a)) else t

/-- Every frame that can leave has left. -/
def State.paFlush (s : State) (a : Nat) : State := s.paStep a (fun x => x.drain (x.hw.length + 1))

/-- A head-select or mode frame is handed to the bus. -/
def State.paSend (s : State) (a addr data : Nat) : State :=
  s.paStep a (fun x => PaState.next { x with hw := x.hw ++ [{ write := true, addr := addr, data := data }] })

/-- The preamp mode that the actuator's gates and channels ask for (R66): write, read, idle with a channel ON, else sleep.
DESIGN CHOICE 98: the spec does not say when mode frames are sent; one is sent when the mode asked for changes. -/
def State.paMode (s : State) (a : Nat) : Nat :=
  let cs := (upTo 4).map (fun n => 4 * a + n)
  if cs.any (fun c => (s.ch c).wrGate) then 3
  else if cs.any (fun c => (s.ch c).rdGate) then 2
  else if cs.any (fun c => s.g (CH_CTL_STATE c) == stOn) then 1
  else 0

/-- A mode frame, where the mode changes. -/
def State.paModeTo (s : State) (a m : Nat) : State :=
  if (s.pa a).mode = m then s else (s.paUp a (fun x => { x with mode := m })).paSend a 5 m

/-- The bus in a step on an empty queue. -/
def State.paIdle (s : State) (a : Nat) : State := (s.paStep a (fun x => x.turn)).paModeTo a (s.paMode a)

/-- A selection is applied (R60, R61): an invalid one leaves the channel deselected and its gates refused; a valid one is
sent to the preamp (R66) and settles. -/
def State.select (s : State) (c head : Nat) : State :=
  let a := c / 4
  let s := (s.p (CH_HEADSEL_HEAD c) head).off (CH_HEADSEL_PENDING c)
  if head = 0xF then
    ((s.chUp c (fun x => { x with selBad := false, settling := none })).setActive c 0xF).paSend a (1 + c % 4) 0
  else if !s.populated a head || (upTo 4).any (fun n => 4 * a + n ≠ c && s.selected (4 * a + n) == head) then
    ((s.note (CH_STAT_HSEL_ERR c) 0x0206 (16 + c) 0).chUp c (fun x => { x with selBad := true, settling := none })).setActive c 0xF
  else (s.chUp c (fun x => { x with selBad := false, settling := some head })).paSend a (1 + c % 4) (head + 16)

/-- HEADSEL_WRITE (R59–R61): firmware in MAINT, the command scheduler in SERVICE. 0xC to 0xE act as 0xF. DESIGN CHOICE 99:
HEAD then reads 0xF too, not the value written. -/
def doHeadselWrite (c : Fin 32) (head : Fin 16) (fw : Bool) (s : State) : State :=
  let h := if head.val ≥ 12 then 0xF else head.val
  if s.mode ≠ (if fw then mMaint else mService) then s
  else if (s.ch c.val).rdGate || (s.ch c.val).wrGate then (s.p (CH_HEADSEL_HEAD c.val) h).on (CH_HEADSEL_PENDING c.val)
  else s.select c.val h
/-- The row of `doHeadselWrite`. -/
def execHeadselWrite (c : Fin 32) (head : Fin 16) (fw : Bool) (s : State) : Host.Outcome State Fault Refusal := .next (doHeadselWrite c head fw s)

/-- HEAD_SELECT_APPLY (R60): the gate has dropped. -/
def execHeadSelectApply (c : Fin 32) (s : State) : Host.Outcome State Fault Refusal :=
  .next <|
    if s.is (CH_HEADSEL_PENDING c.val) && !(s.ch c.val).rdGate && !(s.ch c.val).wrGate then s.select c.val (s.g (CH_HEADSEL_HEAD c.val))
    else s

/-- HEAD_SETTLE_DONE (steps 2 to 4 of the head switch): the settle time runs from the slot's head-select frame, which has
left the bus by then. -/
def execHeadSettleDone (c : Fin 32) (s : State) : Host.Outcome State Fault Refusal :=
  .next <|
    match (s.ch c.val).settling with
    | some h =>
      let t := s.paFlush (c.val / 4)
      if (t.pa (c.val / 4)).hw.any (fun f => f.addr == 1 + c.val % 4) then s
      else (t.chUp c.val (fun x => { x with settling := none })).setActive c.val h
    | none => s

/-! Pack identification (R639, R640, R743). -/

/-- The pack format record that is current: the valid copy with the larger GEN. -/
def State.pfrNow (s : State) : Option Nat :=
  let copy (i : Nat) : Option Nat :=
    let b := s.fsRd (0x40000 + 0x20000 * i) 65536
    if Image.bytes b 0 4 = 0x5A485046 && Image.bytes b 8 1 = 1 &&
        Image.bytes b 0xFFFC 4 = Code.crc32c 524256 (Image.bytes b 0 0xFFFC) then some b
    else none
  match copy 0, copy 1 with
  | some a, some b => some (if Image.bytes b 4 4 > Image.bytes a 4 4 then b else a)
  | some a, none => some a
  | none, r => r

/-- Step 4 of R640: zone tables and head offsets from the record. -/
def State.pfrLoad (s : State) (r : Nat) : State :=
  let s := s.mdU (fun m => { m with pfr := r })
  let s := State.each (upTo 32) (fun c t =>
    let zt := 0x400 + 512 * Image.bytes r (0x380 + c / 4) 1
    State.each (upTo 32) (fun z u =>
      let a := Image.bytes r (zt + 16 * z) 4
      let b := Image.bytes r (zt + 16 * z + 4) 4
      (u.wr (CH_ZTA c z) (BitVec.ofNat 32 (a % 2 ^ 24))).wr (CH_ZTB c z) (BitVec.ofNat 32 (b % 2 ^ 15))) t) s
  State.each (upTo 96) (fun h t =>
    if bitOf t.md.pop h = 1 then t.p (SV_HOFS_OFS (h / 12) (h % 12)) (Image.bytes r (0x2400 + 2 * h) 2) else t) s

/-- Steps 1 to 4 of R640, once the masks of all eight actuators are known. The populated members are AVAILABLE (R743). -/
def State.packFound (s : State) : State :=
  let n := popCount s.md.pop 96
  let s := s.p MD_ID_HEADS n
  let s := State.each (upTo 96) (fun m t => if bitOf t.md.pop m = 1 && t.mem m = memAbsent then t.setMem m memAvailable else t) s
  let bad (t : State) : State := (t.mdU (fun m => { m with pfrBad := true })).fault MD_STAT_PFR_BAD 0 5 0x0F07 0
  if Config.part.toNat = 0 && n > 80 then (s.on MD_MODE_HELD).fault MD_STAT_PACK_BAD 0 0 0x0F01 0
  else match s.pfrNow with
    | some r => if Image.bytes r 0xC 12 = s.md.pop then s.pfrLoad r else bad s
    | none => bad s

/-- In BOOT, the answer to a read of preamp register 0x00 gives the actuator's populated heads. -/
def State.packMask (s : State) (a mask : Nat) : State :=
  if s.mode = mBoot && s.g (CH_PA_CMD_ADDR (4 * a)) = 0 && bitOf s.md.idSeen a = 0 then
    let s := s.mdU (fun m => { m with idSeen := setBit m.idSeen a, pop := m.pop + mask % 2 ^ 12 * 2 ^ (12 * a) })
    if s.md.idSeen = 255 then s.packFound else s
  else s

/-! The preamp bus. -/

/-- A firmware frame is handed to the bus, and waits there while it is taken (R68). -/
def State.fwFrame (s : State) (a : Nat) (f : PaFrame) : State :=
  let t := s.paUp a (fun x => { x with fw := some f, passed := 0 })
  t.paStep a (fun x => x.next)

/-- The read on the bus has ended, with its response or without; what waits goes out. -/
def State.paFree (s : State) (a : Nat) : State :=
  s.paStep a (fun x => PaState.next { x with reading := false, asked := false, busy := false })

/-- PREAMP_ACCESS (R67): ignored while BUSY; a write to 0x01–0x07 is refused. -/
def doPreampAccess (a : Fin 8) (addr : Fin 128) (write : Bool) (data : BitVec 16) (s : State) : State :=
  let c := 4 * a.val
  if s.is (CH_PA_CMD_BUSY c) then s
  else
    let s := (s.p (CH_PA_CMD_ADDR c) addr.val).p (CH_PA_CMD_WRITE c) (b2n write)
    if write then
      let s := s.p (CH_PA_DATA_DATA c) data.toNat
      if 1 ≤ addr.val && addr.val ≤ 7 then s.p (CH_PA_CMD_ERR c) 3
      else ((s.off (CH_PA_CMD_ERR c)).on (CH_PA_CMD_BUSY c)).fwFrame a.val { write := true, addr := addr.val, data := data.toNat }
    else
      ((s.on (CH_PA_CMD_BUSY c)).paUp a.val (fun x => { x with reading := true })).fwFrame a.val
        { write := false, addr := addr.val, data := 0 }
/-- The row of `doPreampAccess`. -/
def execPreampAccess (a : Fin 8) (addr : Fin 128) (write : Bool) (data : BitVec 16) (s : State) : Host.Outcome State Fault Refusal := .next (doPreampAccess a addr write data s)

/-- PREAMP_READ_RESPONSE (R64, R65): a late one is discarded and counted. -/
def execPreampReadResponse (a : Fin 8) (data : BitVec 16) (crc : BitVec 8) (late : Bool) (s : State) : Host.Outcome State Fault Refusal :=
  .next <|
    let c := 4 * a.val
    let x := s.pa a.val
    if late then
      if x.lateDue = 0 then s
      else
        let s := s.paUp a.val (fun x => { x with lateDue := x.lateDue - 1 })
        (s.sat (CH_LATE_CNT_PA_LATE c) 1).raise 0x0201 (16 + c) 0
    else if !x.reading then s
    else
      let s := ((s.paFlush a.val).paFree a.val).off (CH_PA_CMD_BUSY c)
      if crc.toNat = Code.crc8 16 data.toNat then
        ((s.p (CH_PA_DATA_DATA c) data.toNat).off (CH_PA_CMD_ERR c)).packMask a.val data.toNat
      else s.p (CH_PA_CMD_ERR c) 1

/-- PREAMP_TIMEOUT (R65): the timeout is granted. -/
def execPreampTimeout (a : Fin 8) (s : State) : Host.Outcome State Fault Refusal :=
  .next <|
    let c := 4 * a.val
    if !(s.pa a.val).reading then s
    else
      let s := ((((s.paFlush a.val).paFree a.val).off (CH_PA_CMD_BUSY c)).p (CH_PA_CMD_ERR c) 2).paUp a.val (fun x =>
        { x with lateDue := x.lateDue + 1 })
      s.fault (CH_STAT_PA_TIMEOUT c) (16 + c) 9 0x0105 (pk [(9, 5)])

/-- PREAMP_FAULT (R69): the write gates drop, a sector being written or read is cut, and PA_FAULT sets in the four
channels. -/
def execPreampFault (a : Fin 8) (s : State) : Host.Outcome State Fault Refusal :=
  .next <|
    if (s.pa a.val).fltLow then s
    else
      let s := s.paUp a.val (fun x => { x with fltLow := true })
      State.each (upTo 4) (fun n t =>
        let c := 4 * a.val + n
        let t := t.chUp c (fun x => { x with wrGate := false, cut := if x.wrGate then 1 else if x.rdGate then 2 else x.cut })
        t.fault (CH_STAT_PA_FAULT c) (16 + c) 0 0x0202 0) s

/-- PREAMP_FAULT_RELEASE (R69): PA_FLT_N is high again. -/
def execPreampFaultRelease (a : Fin 8) (s : State) : Host.Outcome State Fault Refusal :=
  .next (s.paUp a.val (fun x => { x with fltLow := false }))

/-! Gates. -/

/-- The channel may serve a sector of a member: ON, its head routed, no selection pending against it. -/
def State.routed (s : State) (c m : Nat) : Bool :=
  let x := s.ch c
  (s.g (CH_CTL_STATE c) == stOn || (s.g (CH_CTL_STATE c) == stStopping && (x.rdGate || x.wrGate))) &&
    (x.loop || (!x.selBad && x.settling.isNone && actuatorOf m == c / 4 && s.g (CH_HEADSEL_ACTIVE c) == m % 12))

def siblings (c : Nat) : List Nat := ((upTo 4).map (fun n => c / 4 * 4 + n)).filter (· ≠ c)

/-- A read gate may be asserted (R62, R179): the servo permits it and no sibling writes; a read that has started goes on. -/
def State.mayRead (s : State) (c : Nat) : Bool :=
  (s.ch c).loop || (s.ch c).rdGate || (s.bit (SV_HEADS_RD_OK (c / 4)) (c % 4) && !(siblings c).any (fun n => (s.ch n).wrGate))

/-- A write gate may be asserted (R62, R69, R90). -/
def State.mayWrite (s : State) (c : Nat) : Bool :=
  (s.ch c).loop || (s.bit (SV_HEADS_WR_OK (c / 4)) (c % 4) && !(siblings c).any (fun n => (s.ch n).rdGate) &&
    !(s.pa (c / 4)).fltLow && !(upTo 4).any (fun n => s.is (CH_STAT_PA_FAULT (c / 4 * 4 + n))))

/-- Readers of a head that are out of use (R148): bit 0 reader 0, bit 1 reader 1. -/
def State.rdrOff (s : State) (m : Nat) : Nat :=
  let c := 4 * actuatorOf m
  b2n (s.bit (LD_RDR_OFF_OFF0 c) (m % 12)) + 2 * b2n (s.bit (LD_RDR_OFF_OFF1 c) (m % 12))

/-! Sector outcomes (R88). -/

def ocOk : Nat := 0
def ocSyncMiss : Nat := 1
def ocNoConverge : Nat := 2
def ocCrcSeed : Nat := 3
def ocUndecoded : Nat := 4
def ocWritten : Nat := 5
def ocAborted : Nat := 6
def ocPreamp : Nat := 7

/-- A sector operation ends with its outcome: CH_LAST_OUT and the counters (R88, R104). DESIGN CHOICE 99: where no sync mark was
accepted (SYNC_MISS, PREAMP_FAULT, timing out of range, a write) SYNC_ERR and SYNC_OFS are written 0. -/
def State.outcome (s : State) (c oc iter serr : Nat) (sofs : Int) : State :=
  let s := (((s.p (CH_LAST_OUT_OUTCOME c) oc).p (CH_LAST_OUT_ITER c) iter).p (CH_LAST_OUT_SYNC_ERR c) serr).p
    (CH_LAST_OUT_SYNC_OFS c) (unsgn 5 sofs)
  if oc = ocOk || oc = ocWritten then s.inc (CH_SECT_CNT_COUNT c)
  else if oc = ocNoConverge || oc = ocCrcSeed then s.sat (CH_FAIL_CNT_COUNT c) 1
  else if oc = ocSyncMiss then (s.sat (CH_SYNC_MISS_CNT_COUNT c) 1).on (CH_STAT_SYNC_MISS c)
  else if oc = ocUndecoded then (s.sat (CH_UNDEC_CNT_COUNT c) 1).on (CH_STAT_UNDECODED c)
  else s

/-- The track of an operation's zone holds its sector (R72): nothing lies after sector SPT - 1. -/
def State.hasSector (s : State) (c : Nat) (op : SecOp) : Bool := decide (op.sector < s.g (CH_ZTA_SPT c op.zone))

/-- The gates of an operation: frames that wait and the mode frame go out before the gate is asserted (R66, R68), CH_OPSTAT
and the sector's place show it (R71), and the gate stays asserted after it unless it is the last, a selection is pending
(R60), or the channel stops (R101 T2). -/
def State.opStart (s : State) (c : Nat) (op : SecOp) (dir : Nat) (last : Bool) : State :=
  let drop := last || s.is (CH_HEADSEL_PENDING c) || decide (s.g (CH_CTL_STATE c) = stStopping)
  let s := s.when (!(s.ch c).loop) (fun t => (t.paFlush (c / 4)).paModeTo (c / 4) (1 + dir))
  let s := ((s.p (CH_OPSTAT_ZONE c) op.zone).p (CH_OPSTAT_SECTOR c) op.sector).p (CH_OPSTAT_DIR c) (if drop then 0 else dir)
  let s := s.chUp c (fun x => { x with
    rdGate := dir = 1 && !drop && !x.loop, wrGate := dir = 2 && !drop && !x.loop, cut := 0,
    place := (Code.wedgeAt (s.g (CH_ZTA_RATE c op.zone)) op.wedge (Code.sectorStart op.sector), Code.sectorStart op.sector) })
  s.when (!(s.ch c).loop) (fun t => t.paModeTo (c / 4) (t.paMode (c / 4)))

/-! The sample memory. -/

/-- The slot a sector read fills (R92, R96): the oldest that is neither pinned nor being decoded. DESIGN CHOICE 99: where each
of the four is pinned or being decoded, the samples are stored nowhere and the read goes on. -/
def State.fillSlot (s : State) (c : Nat) : Option Nat :=
  if s.is (CH_CTL_SMEM_FREEZE c) then none
  else
    let age (i : Nat) : Nat := ((s.ch c).slots.getD i {}).age
    match (upTo 4).filter (fun i => !((s.ch c).slots.getD i {}).pinned && !((s.ch c).slots.getD i {}).busy) with
    | [] => none
    | i :: t => some (t.foldl (fun b x => if age x < age b then x else b) i)

/-- Pinned slots of a channel (R93). -/
def State.pins (s : State) (c : Nat) : Nat := ((upTo 4).filter (fun i => ((s.ch c).slots.getD i {}).pinned)).length

/-- SMEM_DATA_READ (R104): five samples, STALE, and POS advanced by 5. -/
def State.smemRead (s : State) (c : Nat) : State :=
  let pos := s.g (CH_SMEM_ADDR_POS c)
  let x := (s.ch c).slots.getD (s.g (CH_SMEM_ADDR_SLOT c)) {}
  let v := if s.g (CH_SMEM_ADDR_READER c) = 0 then x.s0.toNat else x.s1.toNat
  let v := pk ((upTo 5).map (fun k => (if pos + k > 36863 then 0 else bitsOf v (6 * (pos + k)) 6, 6)))
  ({ s with rdata := BitVec.ofNat 32 (v + 2 ^ 31 * b2n x.stale) }).p (CH_SMEM_ADDR_POS c) (pos + 5)

def execSmemDataRead (c : Fin 32) (s : State) : Host.Outcome State Fault Refusal := .next (s.smemRead c.val)

/-- A write of CH_SMEM_ADDR ends STALE. -/
def State.smemFresh (s : State) (c : Nat) : State :=
  s.chUp c (fun x => { x with slots := (x.slots.map (fun e => (e.1, { e.2 with stale := false }))) })

end Sys2Proof.Machine
end

