-- ==== Sys2Proof/Machine/Mc.lean ====
section
/-! DEFINITION. Machine/Mc.lean: the command engine (R564–R600): contexts and their dispatch, microwords and nanowords, unit
operations, library services, micro-traps, ZH4 mode, installation of customer images, and the store windows. -/

namespace Sys2Proof.Machine

open Reg

/-! Contexts. -/

def State.mctx (s : State) (n : Nat) : CtxState := s.mc.ctx.getD n {}
def State.mctxUp (s : State) (n : Nat) (f : CtxState → CtxState) : State :=
  s.mcU (fun m => { m with ctx := m.ctx.putD n {} (f (m.ctx.getD n {})) })

/-- Busy: assigned and not parked (R567). -/
def CtxState.busy (c : CtxState) : Bool := decide (c.st ≠ 0) && decide (c.st ≠ 3)

/-- MC_OCC follows the contexts. -/
def State.mcOcc (s : State) : State :=
  let s := s.p MC_OCC_BUSY (s.mc.ctx.filter (fun x => x.2.busy)).length
  s.p MC_OCC_CUST (s.mc.ctx.filter (fun x => x.2.busy && x.2.cust)).length

/-- Customer contexts allowed (R565, R600). -/
def State.custMax (s : State) : Nat := clampN 1 256 (s.g MC_CFG_CUST_CTX)

/-- Bytes of a customer slice, and the base of slice `i` (R578). -/
def State.sliceSize (s : State) : Nat := s.g MC_CUST_SIZE_MIB / s.custMax * 2 ^ 20
def State.sliceBase (s : State) (i : Nat) : Nat := s.pair MC_CUST_BASE_LO MC_CUST_BASE_HI + i * s.sliceSize

/-- The sequencer with the fewest busy contexts among those with a free one, the lower first (R564). -/
def State.seqPick (s : State) : Option Nat :=
  let load (q : Nat) : Nat := ((upTo 32).filter (fun k => (s.mctx (8 * k + q)).busy)).length
  ((upTo 8).filter (fun q => decide (load q < 32))).foldl (fun b q => match b with
    | some p => if load q < load p then some q else some p
    | none => some q) none

/-- The context a command gets (R564). -/
def State.ctxPick (s : State) : Option Nat :=
  match s.seqPick with
  | some q => ((upTo 32).map (fun k => 8 * k + q)).find? (fun n => !(s.mctx n).busy)
  | none => none

/-- `k` free values, and the state after them. -/
def State.freeList (s : State) : Nat → List Nat × State
  | 0 => ([], s)
  | k + 1 =>
    let (v, s) := s.free
    let (l, s) := State.freeList s k
    (v :: l, s)

/-- A table of 64-bit values, entry i from the list. -/
def regsOf (l : List Nat) : Tbl Nat := (l.zipIdx.foldl (fun t x => t.putD x.2 0 (x.1 % 2 ^ 64)) [])

/-- A command gets a context and starts at its entry's micro-address (R568). What registers, latches and flags then hold the
spec does not say: free values. -/
def State.ctxStart (s : State) (id n e : Nat) : State :=
  let c := s.cmd id
  let cust := bitOf e 17 = 1
  let used := (s.mc.ctx.filter (fun x => x.2.busy && x.2.cust)).map (·.2.slice)
  let slice := if cust then ((upTo 256).find? (fun i => !used.contains i)).getD 0 else 0
  let (g, s) := s.freeList 16
  let (x, s) := s.freeList 16
  let (t, s) := s.free
  let (fl, s) := s.free
  let (st, s) := s.free
  let s := s.mctxUp n (fun _ =>
    { st := 1, cmd := id, opc := c.opc, cust := cust, zh4 := decide (bitOf e 15 = 1), slice := slice, upc := bitsOf e 0 14,
      g := regsOf g, x := regsOf x, t := t % 2 ^ 64, z := bitOf fl 0 == 1, n := bitOf fl 1 == 1, c := bitOf fl 2 == 1,
      unitOk := bitOf fl 3 == 1, memErr := bitOf fl 4 == 1, libErr := bitOf fl 5 == 1, status := st % 2 ^ 16 })
  (s.cmdUp id (fun m => { m with ctx := some n })).mcOcc

/-- The engine assigns contexts now: MC is ON and neither a halt (R432) nor a command-side reset (R476) holds. -/
def State.mcRuns (s : State) : Bool :=
  decide (s.g MC_CTL_STATE = stOn) && !s.is QM_HALT_HALTED && s.cm.resetting.isNone

/-- CONTEXT_DISPATCH (R564, R565, R568, R595). -/
def execContextDispatch (id : Nat) (s : State) : Host.Outcome State Fault Refusal :=
  .next <|
    match s.cm.table.find id with
    | none => s
    | some c =>
      let cust := decide (c.opc ≥ 0xC0)
      let e := s.mc.disp.getD c.opc 0
      if !s.mcRuns || c.status.isSome || c.ctx.isSome || c.lib.isSome || (cust && s.mc.install.isSome) then s
      else if bitOf e 14 = 0 then
        (if cust then s.complete id 0x0001 0 else s)
      else if cust && decide (s.g MC_OCC_CUST ≥ s.custMax) then s
      else match s.ctxPick with
        | some n => (s.cmdUp id (fun x => { x with late3 := false })).ctxStart id n e
        | none => s

/-! Words. -/

def nwAlu (w : Nat) : Nat := bitsOf w 188 4
def nwSrcA (w : Nat) : Nat := bitsOf w 184 4
def nwSrcB (w : Nat) : Nat := bitsOf w 180 4
def nwDst (w : Nat) : Nat := bitsOf w 176 4
def nwBSel (w : Nat) : Nat := bitsOf w 174 2
def nwCond (w : Nat) : Nat := bitsOf w 170 4
def nwCondInv (w : Nat) : Bool := bitOf w 169 == 1
def nwWaitEv (w : Nat) : Nat := bitsOf w 165 4
def nwMSize (w : Nat) : Nat := bitsOf w 158 3
def nwArg (w : Nat) : Nat := bitsOf w 150 4
def nwStepEnd (w : Nat) : Bool := bitOf w 149 == 1
def nwImm2 (w : Nat) : Nat := bitsOf w 64 32
def nwImm (w : Nat) : Nat := bitsOf w 0 64

/-- Bytes of a load or store. -/
def nwBytes (w : Nat) : Nat := 2 ^ nwMSize w

def nwLoad (w : Nat) : Bool := Image.nwMem w == 1 || Image.nwMem w == 3
def nwStore (w : Nat) : Bool := Image.nwMem w == 2 || Image.nwMem w == 4

/-- Register k of the bank in use (R567). -/
def CtxState.reg (c : CtxState) (k : Nat) : Nat := (if c.level then c.x else c.g).getD k 0
def CtxState.setReg (c : CtxState) (k v : Nat) : CtxState :=
  if c.level then { c with x := c.x.putD k 0 (v % 2 ^ 64) } else { c with g := c.g.putD k 0 (v % 2 ^ 64) }

/-- Operand B (R573); `sqe` is the command's entry. -/
def CtxState.opB (c : CtxState) (w sqe : Nat) : Nat :=
  if nwBSel w = 0 then c.reg (nwSrcB w)
  else if nwBSel w = 1 then nwImm w
  else if nwBSel w = 2 then bitsOf sqe (64 * (nwImm w % 8)) 64
  else c.t

/-! The ALU (R573, R576): result and carry. PASS, the shifts and EXTRACT act on operand B, as in the routine of XOR_MERGE. -/

def aluPass (b : Nat) : Nat × Bool := (b, false)
def aluAdd (a b : Nat) : Nat × Bool := ((a + b) % 2 ^ 64, decide (a + b ≥ 2 ^ 64))
def aluSub (a b : Nat) : Nat × Bool := ((2 ^ 64 + a - b) % 2 ^ 64, decide (a < b))
def aluAnd (a b : Nat) : Nat × Bool := (a &&& b, false)
def aluOr (a b : Nat) : Nat × Bool := (a ||| b, false)
def aluXor (a b : Nat) : Nat × Bool := (a ^^^ b, false)
def aluShl (b k : Nat) : Nat × Bool := (b * 2 ^ k % 2 ^ 64, decide (k ≠ 0) && decide (k ≤ 64) && bitOf b (64 - k) == 1)
def aluShr (b k : Nat) : Nat × Bool := (b / 2 ^ k, decide (k ≠ 0) && bitOf b (k - 1) == 1)
def aluCrc (a b : Nat) : Nat × Bool := (Code.crc32From 64 b (a % 2 ^ 32), false)
def aluMin (a b : Nat) : Nat × Bool := (min a b, false)
def aluMax (a b : Nat) : Nat × Bool := (max a b, false)
def aluExtract (b spec : Nat) : Nat × Bool := (bitsOf b (bitsOf spec 0 6) (bitsOf spec 8 6), false)
def aluMul (a b : Nat) : Nat × Bool := (a * b % 2 ^ 64, decide (a * b ≥ 2 ^ 64))

/-- The ALU by its code; a shift count above 64 shifts every bit out (the count is bounded so that it can be computed). -/
def alu (op a b imm2 : Nat) : Nat × Bool :=
  if op = 0 then aluPass b
  else if op = 1 then aluAdd a b
  else if op = 2 || op = 8 then aluSub a b
  else if op = 3 then aluAnd a b
  else if op = 4 then aluOr a b
  else if op = 5 then aluXor a b
  else if op = 6 then aluShl b (min imm2 65)
  else if op = 7 then aluShr b (min imm2 65)
  else if op = 9 then aluCrc a b
  else if op = 10 then aluMin a b
  else if op = 11 then aluMax a b
  else if op = 12 then aluExtract b imm2
  else aluMul a b

/-- Flags after an operation (R576): PASS and stores leave them. -/
def CtxState.flags (c : CtxState) (w : Nat) (r : Nat × Bool) : CtxState :=
  if nwAlu w = 0 || nwStore w then c else { c with z := decide (r.1 = 0), n := bitOf r.1 63 == 1, c := r.2 }

/-- A branch condition (R573). -/
def State.mcCond (s : State) (c : CtxState) (w : Nat) : Bool :=
  let k := nwCond w
  let v := if k = 0 then true else if k = 1 then c.z else if k = 2 then c.n else if k = 3 then c.c else if k = 4 then c.unitOk
    else if k = 5 then c.chans.any (fun n => s.is (DM_CH_STAT_HALTED n)) else if k = 6 then c.peFail
    else if k = 7 then c.memErr else if k = 8 then c.libErr else false
  if k ≥ 9 then false else v != nwCondInv w

/-! Illegal actions (R570, R572, R573, R577–R579). -/

/-- Statuses of R456. -/
def statusOk (st : Nat) : Bool :=
  decide (st ≤ 0x0009) || (decide (0x0101 ≤ st) && decide (st ≤ 0x0105)) || st == 0x0201 || st == 0x0202 ||
    (decide (0x0301 ≤ st) && decide (st ≤ 0x030B)) || decide (st / 256 ≥ 0x80)

def isLib (c : CtxState) (mw : Nat) : Bool :=
  c.cust && Image.mwSeq mw == 3 && decide (0x0F00 ≤ Image.mwTarget mw) && decide (Image.mwTarget mw ≤ 0x0F3F)

/-- A transfer a customer routine may not start (R578, R579). -/
def State.dmaIllegal (s : State) (c : CtxState) (w : Nat) : Bool :=
  let cfg := nwImm w % 2 ^ 16
  let src := bitsOf cfg 0 2
  let dst := bitsOf cfg 2 2
  let line := bitsOf cfg 4 7
  !c.chans.contains (c.reg (nwArg w)) || ((src == 2 || dst == 2) && !(decide (80 ≤ line) && decide (line ≤ 95))) ||
    src == 3 || dst == 3 || (src == 1 && dst == 1) || (src == 2 && dst == 2) ||
    (src == 0 && decide (c.reg (nwSrcA w) ≥ s.sliceSize)) ||
    (dst == 0 && decide (c.opB w (s.cmd c.cmd).sqe ≥ s.sliceSize))

/-- The STATUS latch after the microword. -/
def CtxState.statusAfter (c : CtxState) (w : Nat) : Nat := if Image.nwUnit w = 7 then nwImm w % 2 ^ 16 else c.status

/-- The blocks a library service moves lie in the slice. -/
def State.libIllegal (s : State) (c : CtxState) (mw : Nat) : Bool :=
  let t := Image.mwTarget mw
  let n := if t = 0x0F03 then 1 else c.reg 3
  (t == 0x0F00 || t == 0x0F01 || t == 0x0F03) &&
    (decide (c.reg 4 ≥ s.sliceSize) || (decide (1 ≤ n) && decide (n ≤ 256) && decide (c.reg 4 + 4096 * n > s.sliceSize)))

/-- Executing the microword traps ILLEGAL. -/
def State.mwIllegal (s : State) (c : CtxState) (mw w : Nat) : Bool :=
  let q := Image.mwSeq mw
  let u := Image.nwUnit w
  let a := (c.reg (nwSrcA w) + nwImm w) % 2 ^ 64
  mw == 0 || decide (bitsOf w 96 52 ≠ 0) || decide (nwAlu w ≥ 14) || decide (nwWaitEv w ≥ 4) || decide (nwMSize w ≥ 4) ||
    decide (u ≥ 14) || (q == 3 && decide (c.rs.length ≥ 4)) || (q == 4 && c.rs.isEmpty) ||
    (c.cust && (
      decide (Image.nwMem w ≥ 5) || decide (u ≥ 8) ||
      (q == 6 && decide (c.reg (nwSrcA w) % 2 ^ 14 < 0x3000)) ||
      (q == 7 && !statusOk (c.statusAfter w)) ||
      ((Image.nwMem w == 1 || Image.nwMem w == 2) && decide (a + nwBytes w > s.sliceSize)) ||
      ((u == 2 || u == 3) && s.dmaIllegal c w) ||
      (u == 5 && decide (c.reg (nwSrcA w) ≥ s.sliceSize)) ||
      (isLib c mw && s.libIllegal c mw)))

/-! Traps (R585–R591). -/

/-- The trap frame (R585). -/
def State.trapFrame (s : State) (c : CtxState) (tr : Trap) (restart : Bool) : Nat :=
  let r (i : Nat) : Nat := c.rs.reverse.getD i 0
  pk [(c.upc, 14), (0, 1), (b2n restart, 1), (tr.cause, 8), (b2n c.zh4, 1), (b2n c.cust, 1), (0, 6),
    (r 0, 16), (r 1, 16), (r 2, 16), (r 3, 16), (c.rs.length, 8),
    (b2n c.z, 1), (b2n c.n, 1), (b2n c.c, 1), (b2n c.unitOk, 1), (b2n c.memErr, 1), (b2n c.libErr, 1), (0, 2),
    (c.status, 16), (c.t, 64), (tr.detail, 64), (tr.chan, 8), (0, 24), (c.steps, 32), (s.now, 64)]

/-- A trap is taken: its frame is saved (R585, R589). -/
def State.trapTake (s : State) (n : Nat) (tr : Trap) (restart : Bool) : State :=
  let f := s.trapFrame (s.mctx n) tr restart
  (s.inc MC_TRAP_CNT_COUNT).mctxUp n (fun c => { c with frame := f })

/-- TRET (R585): the micro-state comes back from the frame. -/
def CtxState.tret (c : CtxState) : CtxState :=
  let f := c.frame
  let fl (i : Nat) : Bool := bitOf f (104 + i) == 1
  { c with
    level := false, wait := .none, st := 1, upc := bitsOf f 0 14,
    rs := ((upTo (bitsOf f 96 8)).map (fun i => bitsOf f (32 + 16 * i) 14)).reverse,
    z := fl 0, n := fl 1, c := fl 2, unitOk := fl 3, memErr := fl 4, libErr := fl 5,
    status := bitsOf f 112 16, t := bitsOf f 128 64 }

/-- The library commands of a context end with it. -/
def State.libDrop (s : State) (n : Nat) : State :=
  let ids := (s.cm.table.filter (fun x => match x.2.lib with | some (k, _) => k == n | none => false)).map (·.1)
  State.each ids (fun id t =>
    let t := if t.committing id then t else t.cutOff id
    ((t.cmU (fun m => { m with waits := m.waits.filter (fun w => w.cmd ≠ some id) })).uncapture id).cmdFree id) s

/-- A context's command completes; its channels and the context are released (R571, R586). -/
def State.ctxEnd (s : State) (n status result : Nat) : State :=
  (((s.libDrop n).complete (s.mctx n).cmd status result).chanSweep).ctxSweep

/-- Status of a completion made by the handler of an INT cause (R586). -/
def intStatus (cause : Nat) : Nat :=
  if cause = 2 then 0x0006 else if cause = 3 then 0x0009 else if cause = 4 then 0x0007 else 0x0008

/-- Priority of the causes that wait in `pend`, 1 the highest (R586); 0 an XLAT already resumed. -/
def trapRank (cause : Nat) : Nat :=
  if cause = 4 then 3 else if cause = 5 then 4 else if cause = 2 then 5 else if cause = 3 then 6 else if cause = 1 then 7 else 8

/-- In ZH4 mode, deferred XLATs whose resume came first are discarded at the boundary (R590). -/
def State.trapSift (s : State) (n : Nat) : State :=
  let c := s.mctx n
  if c.zh4 && c.words = 0 && !c.level then
    let k := (c.pend.filter (fun t => decide (t.cause = 0))).length
    (s.when (decide (k ≠ 0)) (fun t => t.sat MC_DEFER_CNT_COUNT k)).mctxUp n (fun x =>
      { x with pend := x.pend.filter (fun t => decide (t.cause ≠ 0)) })
  else s

/-- The trap a context takes now (R586, R589, R590): not within a microword; in ZH4 mode at a step boundary; while the XLAT
handler or a library service runs, only an INT cause. -/
def CtxState.trapDue (c : CtxState) : Option Trap :=
  if c.st = 0 || c.st = 3 || c.wait = .mem || c.wait = .memDone then none
  else if c.zh4 && decide (c.words ≠ 0) && !c.level then none
  else
    let l := c.pend.filter (fun t => if c.level || c.wait = .lib then decide (2 ≤ t.cause) && decide (t.cause ≤ 5) else true)
    l.foldl (fun b t => match b with
      | some u => if trapRank t.cause < trapRank u.cause then some t else some u
      | none => some t) none

/-- A pending trap is taken (R586). -/
def State.trapRun (s : State) (n : Nat) (tr : Trap) : State :=
  let wait := decide ((s.mctx n).st = 2)
  let s := s.trapTake n tr wait
  let s := s.mctxUp n (fun c => { c with pend := c.pend.erase tr })
  if tr.cause = 0 then s
  else if tr.cause = 1 then s.mctxUp n (fun c => { c with level := true, st := 2, wait := .xlat })
  else s.ctxEnd n (intStatus tr.cause) 0

/-- The address of a customer word in the image copy, with its bytes. -/
def State.copyAt (s : State) (key : Nat) : Nat × Nat :=
  let b := s.pair MC_IMG_BASE_LO MC_IMG_BASE_HI
  if key < 16384 then (b + 0x1000 + 4 * (key - 0x3000), 4) else (b + 0x5000 + 24 * (key - 16384 - 0x700), 24)

/-- A word belongs to the customer regions (R577). -/
def custKey (key : Nat) : Bool := if key < 16384 then decide (key ≥ 0x3000) else decide (key - 16384 ≥ 0x700)

/-- A store word is reloaded from its image copy, or the copy is uncorrectable too (R586, R587). A firmware word's copy is
not in buffer memory: `imgUe` says whether it can be read. -/
def State.storeReload (s : State) (n key : Nat) (imgUe : Bool) : State :=
  let (a, k) := s.copyAt key
  let bad := if custKey key then s.bBad a k else imgUe
  if bad then (s.fault MC_STAT_IMG_UE 13 5 0x0E06 0).ctxEnd n 0x0105 0
  else
    let v := s.bRd a k
    let s := s.mcU (fun m => { m with
      ue := m.ue.filter (· ≠ key),
      micro := if custKey key && decide (key < 16384) then m.micro.putD key 0 (v % 2 ^ 28) else m.micro,
      nano := if custKey key && decide (key ≥ 16384) then m.nano.putD (key - 16384) 0 v else m.nano })
    (s.sat MC_UE_CNT_COUNT 1).note MC_STAT_FETCH_UE 0x0E01 13 0

/-- DETAIL of a FETCH_UE names store and address as MC_STORE_ADDR does. -/
def keyDetail (key : Nat) : Nat := if key < 16384 then key else key - 16384 + 2 ^ 14

/-- An ILLEGAL trap (R591). -/
def State.illegal (s : State) (n : Nat) (imgUe : Bool) : State :=
  let c := s.mctx n
  let s := s.trapTake n { cause := 7, detail := c.upc } true
  if c.cust then
    let s := s.ctxEnd n 0x0001 0
    let s := s.mcU (fun m => { m with disp := m.disp.putD c.opc 0 (clrBit (m.disp.getD c.opc 0) 14) })
    (s.sat MC_ILLEGAL_CNT_COUNT 1).note MC_STAT_ILLEGAL 0x0E03 13 (pk [(c.opc, 8), (c.upc, 14)])
  else s.storeReload n c.upc imgUe

/-! Unit operations (R574). -/

/-- A free channel of 48 to 63: the lowest no context holds. -/
def State.custChan (s : State) : Option Nat :=
  ((upTo 16).map (fun i => 48 + i)).find? (fun k => !s.mc.ctx.any (fun x => x.2.chans.contains k))

/-- The slice base of a customer routine; firmware addresses are absolute. -/
def State.ctxBase (s : State) (c : CtxState) : Nat := if c.cust then s.sliceBase c.slice else 0

/-- The point of no return of a customer command (R584). -/
def State.ctxPnr (s : State) (c : CtxState) : State := s.cmdUp c.cmd (fun m => { m with pnr := true })

/-- DMA_GO and DMA_ARM: one register set is written. -/
def State.dmaSet (s : State) (n : Nat) (c : CtxState) (w k : Nat) (shadow : Bool) : State :=
  let cfg := nwImm w % 2 ^ 16
  let off (sp v : Nat) : Nat := if sp = 0 then v + s.ctxBase c else v
  let src := off (bitsOf cfg 0 2) (c.reg (nwSrcA w))
  let dst := off (bitsOf cfg 2 2) (c.opB w (s.cmd c.cmd).sqe)
  let len := c.reg (nwImm2 w % 16)
  let word := BitVec.ofNat 32 (cfg + 2 ^ 16 * n)
  let s := if shadow then
      (((s.wr (DM_CH_SH_CFG k) word).setPair (DM_CH_SH_SRC_LO k) (DM_CH_SH_SRC_HI k) src).setPair
        (DM_CH_SH_DST_LO k) (DM_CH_SH_DST_HI k) dst).p (DM_CH_SH_LEN_LEN k) len
    else
      (((s.wr (DM_CH_CFG k) word).setPair (DM_CH_SRC_LO k) (DM_CH_SRC_HI k) src).setPair
        (DM_CH_DST_LO k) (DM_CH_DST_HI k) dst).p (DM_CH_LEN_LEN k) len
  s.when (decide (bitsOf cfg 2 2 = 1)) (fun t => t.ctxPnr c)

/-- DMA_GO: ignored while a transfer runs or the channel is halted (R503, R513). -/
def State.unitGo (s : State) (n : Nat) (c : CtxState) (w : Nat) : State :=
  let k := c.reg (nwArg w) % 64
  if s.dBusy k || s.is (DM_CH_STAT_HALTED k) then s
  else
    let s := (s.dmaSet n c w k false).off (DM_CH_STAT_DONE k)
    let s := s.dchUp k (fun _ => { cmd := some c.cmd })
    if s.g DM_CTL_STATE = stOn then s.dStart k else s

/-- DMA_ARM (R506). -/
def State.unitArm (s : State) (n : Nat) (c : CtxState) (w : Nat) : State :=
  let k := c.reg (nwArg w) % 64
  if s.is (DM_CH_CFG_CHAIN k) && s.dBusy k then s
  else
    let s := s.dmaSet n c w k true
    let s := s.dchUp k (fun d => { d with cmd := some c.cmd })
    if s.g DM_CTL_STATE = stOn then s.dArm k else s

/-- PE_SUB (R580). -/
def State.unitPe (s : State) (n : Nat) (c : CtxState) (w : Nat) : State :=
  let slice := if c.cust then some (s.sliceBase c.slice, s.sliceSize) else none
  let (ok, s) := s.peSubmit (s.ctxBase c + c.reg (nwSrcA w)) (some n) c.cmd slice
  s.mctxUp n (fun x => { x with unitOk := ok, jobs := x.jobs + b2n ok })

/-- SREQ: one request on a soft line. -/
def State.unitSreq (s : State) (c : CtxState) (w : Nat) : State :=
  let line := 80 + c.reg (nwArg w) % 16
  (s.perRequest line).dmU (fun d => { d with lines := d.lines.filter (· ≠ line) })

/-- DMA_RELEASE of a channel the context holds. -/
def State.unitRelease (s : State) (n : Nat) (c : CtxState) (w : Nat) : State :=
  let k := c.reg (nwArg w)
  if c.chans.contains k then (s.mctxUp n (fun x => { x with chans := x.chans.filter (· ≠ k) })).dRelease k else s

/-- A HOST store through the cache (R581). -/
def State.hostStore (s : State) (n : Nat) (c : CtxState) (addr size v : Nat) : State :=
  let s := s.ctxPnr c
  match s.translate addr size true with
  | none => s.mctxUp n (fun x => { x with memErr := true })
  | some a =>
    let k := min size (128 - a % 128)
    let lines (x : CtxState) (l : Nat) : CtxState := if x.hostLines.contains l then x else { x with hostLines := x.hostLines ++ [l] }
    let s := (s.hcWrite (8 + n % 8) a k (v % 2 ^ (8 * k))).mctxUp n (fun x => lines x (a / 128))
    if k = size then s
    else (s.hcWrite (8 + n % 8) (a + k) (size - k) (v / 2 ^ (8 * k))).mctxUp n (fun x => lines x (a / 128 + 1))

/-! Library services (R582, R583). -/

/-- The checks of R442 from 5 on, as a service's arguments meet them: the status, 0 where none fails. -/
def State.libCheck (s : State) (t v b n : Nat) : Nat :=
  if v ≥ 64 || (t ≠ 0x0F02 && (n < 1 || n > 256)) then 0x0002
  else if s.g (AR_VOL_CTL_STATE v) ≠ stOn then 0x0004
  else if t ≠ 0x0F02 && b + n > s.volCap v then 0x0003
  else if t ≠ 0x0F02 && s.frozen v then 0x0102
  else 0

/-- The entry of a service's command. -/
def libSqe (op cid v b n : Nat) : Nat := pk [(op, 8), (0, 8), (cid, 16), (v, 6), (0, 218), (b, 40), (0, 24), (n - 1, 16)]

/-- A service of the volume starts: as a command of the customer command's SQ, submitted now (R583). -/
def State.libStart (s : State) (n t v b k dst : Nat) : State :=
  let m := s.cmd (s.mctx n).cmd
  let op := if t = 0x0F00 then 1 else if t = 0x0F01 then 2 else 4
  let id := s.cm.nextId
  let c0 : Cmd :=
    { id := id, qid := m.qid, idx := m.idx, csv := m.csv, sqe := libSqe op m.cid v b k, taken := s.now, lib := some (n, dst),
      solo := s.soloFua }
  let c := if op = 4 then { c0 with cover := s.flushCover c0 } else c0
  let s := s.cmU (fun x => { x with table := x.table.ins id c, nextId := id + 1 })
  let s := s.mctxUp n (fun x => { x with st := 2, wait := .lib })
  if op = 1 then s.opRead c
  else if op = 2 then
    if s.bBad dst (4096 * k) then s.complete id 0x0105 0
    else (s.cmdUp id (fun x => { x with started := true, buf := s.bRd dst (4096 * k) })).writeData id
  else (s.start id).flushDone c

/-- A library CALL: it returns to UPC + 1. -/
def State.libCall (s : State) (n t : Nat) : State :=
  let c := s.mctx n
  let dst := s.ctxBase c + c.reg 4
  let ret (st : Nat) (x : CtxState) : CtxState :=
    { x with libErr := decide (st ≠ 0), status := if st = 0 then x.status else st }
  if t ≥ 0x0F04 then s.mctxUp n (ret 0x0001)
  else if t = 0x0F03 then
    let v := vcrc (c.reg 1 % 256) (c.reg 2 % 2 ^ 40) (s.bRd dst 4096)
    s.mctxUp n (fun x => ret 0 (x.setReg 0 v))
  else
    let st := s.libCheck t (c.reg 1) (c.reg 2) (c.reg 3)
    if st ≠ 0 then s.mctxUp n (ret st) else s.libStart n t (c.reg 1) (c.reg 2) (c.reg 3) dst

/-! Executing a microword. -/

/-- The wait event has occurred (R573). -/
def State.waitMet (s : State) (c : CtxState) (w : Nat) : Bool :=
  let e := nwWaitEv w
  if e = 1 then
    let k := c.reg (nwArg w) % 64
    s.is (DM_CH_STAT_DONE k) || s.is (DM_CH_STAT_HALTED k)
  else if e = 2 then !c.jobRes.isEmpty
  else if e = 3 then decide (nwImm2 w = 0)
  else true

/-- The unit operation of a nanoword, after its ALU and memory effects; `c` the context before the microword. -/
def State.unitOp (s : State) (n : Nat) (c : CtxState) (w : Nat) : State :=
  let u := Image.nwUnit w
  if u = 1 then match s.custChan with
    | some k => s.mctxUp n (fun x => { x.setReg (nwDst w) k with chans := x.chans ++ [k] })
    | none => s
  else if u = 2 then s.unitGo n c w
  else if u = 3 then s.unitArm n c w
  else if u = 4 then s.unitRelease n c w
  else if u = 5 then s.unitPe n c w
  else if u = 6 then s.unitSreq c w
  else s

/-- Registers, latches and flags after a nanoword; `v` what a load returned. -/
def CtxState.after (c : CtxState) (w sqe v : Nat) : CtxState :=
  let r := alu (nwAlu w) (c.reg (nwSrcA w)) (c.opB w sqe) (nwImm2 w)
  let x := c.flags w r
  let x := if nwAlu w = 8 || nwStore w || Image.nwUnit w = 1 then x else x.setReg (nwDst w) r.1
  let x := if nwLoad w then { x with t := v } else x
  let x := { x with status := c.statusAfter w, wait := .none, st := 1 }
  if nwWaitEv w = 2 then { x with peFail := x.jobRes.headD false, jobRes := x.jobRes.tail } else x

/-- Step boundaries (R590). -/
def CtxState.stepOn (c : CtxState) (w : Nat) : CtxState :=
  if nwStepEnd w || (c.zh4 && decide (c.words + 1 ≥ 256)) then { c with steps := c.steps + 1, words := 0 }
  else { c with words := c.words + 1 }

/-- The next address (R569); `c` the context before the microword. -/
def State.mwNext (s : State) (n : Nat) (c : CtxState) (mw w : Nat) : State :=
  let q := Image.mwSeq mw
  let t := Image.mwTarget mw
  let next := (c.upc + 1) % 2 ^ 14
  let go (a : Nat) : State := s.mctxUp n (fun x => { x with upc := a })
  if q = 1 then go t
  else if q = 2 then go (if s.mcCond (s.mctx n) w then t else next)
  else if q = 3 then
    if isLib c mw then (go next).libCall n t
    else (go t).mctxUp n (fun x => { x with rs := next :: x.rs })
  else if q = 4 then (go (c.rs.headD 0)).mctxUp n (fun x => { x with rs := x.rs.tail })
  else if q = 6 then go (c.reg (nwSrcA w) % 2 ^ 14)
  else if q = 7 then
    let x := s.mctx n
    let k := x.pend.length
    (s.when (x.zh4 && decide (k ≠ 0)) (fun t => t.sat MC_DEFER_CNT_COUNT k)).ctxEnd n x.status (x.reg 0 % 2 ^ 32)
  else go next

/-- Every effect of a microword (R575). -/
def State.mwApply (s : State) (n mw w : Nat) : State :=
  let c := s.mctx n
  let a := (c.reg (nwSrcA w) + nwImm w) % 2 ^ 64
  let sqe := (s.cmd c.cmd).sqe
  let k := nwBytes w
  let (v, s) : Nat × State :=
    if Image.nwMem w = 1 then
      if s.bBad (s.ctxBase c + a) k then (let (f, s) := s.free; (f % 2 ^ (8 * k), s)) else (s.bRd (s.ctxBase c + a) k, s)
    else (c.memVal, s)
  let s := s.mctxUp n (fun x => (x.after w sqe v).stepOn w)
  let d := c.reg (nwDst w) % 2 ^ (8 * k)
  let s := if Image.nwMem w = 2 then s.bWr (s.ctxBase c + a) k d
    else if Image.nwMem w = 4 then s.hostStore n c a k d
    else s
  let s := s.unitOp n c w
  if Image.nwUnit w = 10 && c.level then s.mctxUp n CtxState.tret
  else
    let s := s.mwNext n c mw w
    if Image.nwUnit w = 8 && Image.mwSeq mw ≠ 7 then
      ((s.mctxUp n (fun x => { x with st := 3 })).cmdUp c.cmd (fun m => { m with ctx := none })).mcOcc
    else s

/-- A legal microword: it waits for its event, for a channel or for its HOST load, or takes effect; `met` the wait event has
just occurred. -/
def State.mwRun (s : State) (n mw w : Nat) (met : Bool) : State :=
  let c := s.mctx n
  let done := decide (c.wait = .memDone)
  if Image.mwSeq mw = 5 && !met && !done && !s.waitMet c w then s.mctxUp n (fun x => { x with st := 2, wait := .event })
  else if Image.nwUnit w = 1 && s.custChan.isNone then s.mctxUp n (fun x => { x with st := 2, wait := .claim })
  else if Image.nwMem w = 3 && !done then
    let s := s.mctxUp n (fun x => { x with st := 2, wait := .mem })
    let s := s.hostLoad n ((c.reg (nwSrcA w) + nwImm w) % 2 ^ 64) (nwBytes w)
    if (s.mctx n).wait = .memDone then s.mwApply n mw w else s
  else s.mwApply n mw w

/-- The microword and nanoword at a context's UPC. -/
def State.mwAt (s : State) (c : CtxState) : Nat × Nat :=
  let mw := s.mc.micro.getD c.upc 0
  (mw, s.mc.nano.getD (Image.mwNano mw) 0)

/-- The store word of the fetch that has an uncorrectable error. -/
def State.mwUe (s : State) (c : CtxState) : Option Nat :=
  let mw := s.mc.micro.getD c.upc 0
  if s.mc.ue.contains c.upc then some c.upc
  else if s.mc.ue.contains (16384 + Image.mwNano mw) then some (16384 + Image.mwNano mw)
  else none

/-- A context stands at a step boundary at which a halt (R432) or a command-side reset (R476) stops it. -/
def State.ctxHeld (s : State) (c : CtxState) : Bool :=
  (s.is QM_HALT_HALTED || s.cm.resetting.isSome) && decide (c.words = 0)

/-- MC runs contexts: ON, or STOPPING until every context is free (R597). -/
def State.mcOn (s : State) : Bool := decide (s.g MC_CTL_STATE = stOn) || decide (s.g MC_CTL_STATE = stStopping)

/-- The context whose turn it is on a sequencer (R566). -/
def State.seqTurn (s : State) (q : Nat) : Option Nat :=
  let from_ := s.mc.turn.getD q 0
  ((upTo 32).map (fun i => 8 * ((from_ + i) % 32) + q)).find? (fun n =>
    let c := s.mctx n
    decide (c.st = 1) && !s.ctxHeld c)

/-- The turn passes on (R566). -/
def State.turnOn (s : State) (n : Nat) : State :=
  s.mcU (fun m => { m with turn := m.turn.putD (n % 8) 0 ((n / 8 + 1) % 32) })

/-- One microword of a context that has the turn and no trap: only where it is of the kind the command names. -/
def State.mwOf (s : State) (n : Nat) (kind : CtxState → Nat → Nat → Bool) : State :=
  let c := s.mctx n
  if !s.mcOn || s.seqTurn (n % 8) ≠ some n || (s.trapSift n |>.mctx n).trapDue.isSome || (s.mwUe c).isSome then s
  else
    let (mw, w) := s.mwAt c
    if !kind c mw w then s
    else
      let s := s.turnOn n
      if s.mwIllegal c mw w then s.illegal n false else s.mwRun n mw w false

/-- MICROWORD_EXECUTE (R566, R575, R585–R591): a trap that is due, or one microword. `imgUe` says that the copy a firmware
word would be reloaded from is uncorrectable too; of a context at trap level, that its handler's word is (R588). -/
def execMicrowordExecute (n : Fin 256) (imgUe : Bool) (s : State) : Host.Outcome State Fault Refusal :=
  .next <|
    let k := n.val
    if !s.mcOn || !(s.mctx k).busy || s.ctxHeld (s.mctx k) then s
    else
      let s := s.trapSift k
      let c := s.mctx k
      match c.trapDue with
      | some tr => s.trapRun k tr
      | none =>
        if c.level then
          if imgUe then ((s.inc MC_TRAP_CNT_COUNT).fault MC_STAT_TRAP_DOUBLE 13 1 0x0E02 0).ctxEnd k 0x0105 0 else s
        else if s.seqTurn (k % 8) ≠ some k then s
        else match s.mwUe c with
          | some key => ((s.turnOn k).trapTake k { cause := 6, detail := keyDetail key } true).storeReload k key imgUe
          | none =>
            let (mw, w) := s.mwAt c
            let s := s.turnOn k
            if s.mwIllegal c mw w then s.illegal k imgUe else s.mwRun k mw w false

/-! One row per SEQ code (R569). -/

def execSeqNext (n : Fin 256) (s : State) : Host.Outcome State Fault Refusal :=
  .next (s.mwOf n.val (fun _ mw _ => Image.mwSeq mw == 0))
def execSeqJump (n : Fin 256) (s : State) : Host.Outcome State Fault Refusal :=
  .next (s.mwOf n.val (fun _ mw _ => Image.mwSeq mw == 1))
def execSeqBranch (n : Fin 256) (s : State) : Host.Outcome State Fault Refusal :=
  .next (s.mwOf n.val (fun _ mw _ => Image.mwSeq mw == 2))
def execSeqCall (n : Fin 256) (s : State) : Host.Outcome State Fault Refusal :=
  .next (s.mwOf n.val (fun _ mw _ => Image.mwSeq mw == 3))
def execSeqReturn (n : Fin 256) (s : State) : Host.Outcome State Fault Refusal :=
  .next (s.mwOf n.val (fun _ mw _ => Image.mwSeq mw == 4))
def execSeqWait (n : Fin 256) (s : State) : Host.Outcome State Fault Refusal :=
  .next (s.mwOf n.val (fun _ mw _ => Image.mwSeq mw == 5))
def execSeqDispatch (n : Fin 256) (s : State) : Host.Outcome State Fault Refusal :=
  .next (s.mwOf n.val (fun _ mw _ => Image.mwSeq mw == 6))
def execSeqEnd (n : Fin 256) (s : State) : Host.Outcome State Fault Refusal :=
  .next (s.mwOf n.val (fun _ mw _ => Image.mwSeq mw == 7))

/-- WAIT_EVENT_DONE (R573, R574): the event a context waits for occurs; a time wait ends with this command. -/
def execWaitEventDone (n : Fin 256) (s : State) : Host.Outcome State Fault Refusal :=
  .next <|
    let k := n.val
    let c := s.mctx k
    let (mw, w) := s.mwAt c
    if !s.mcOn || c.st ≠ 2 || s.ctxHeld c || c.trapDue.isSome then s
    else if c.wait = .event then
      if s.waitMet c w || nwWaitEv w = 3 then s.mwRun k mw w true else s
    else if c.wait = .claim then
      if s.custChan.isSome then s.mwRun k mw w true else s
    else if c.wait = .xlat then
      if s.dFaulted (bitsOf c.frame 256 6) then s else s.mctxUp k CtxState.tret
    else s

/-! One row per ALU code (R573, R576). -/

def execAluPass (n : Fin 256) (s : State) : Host.Outcome State Fault Refusal :=
  .next (s.mwOf n.val (fun _ _ w => nwAlu w == 0))
def execAluAdd (n : Fin 256) (s : State) : Host.Outcome State Fault Refusal :=
  .next (s.mwOf n.val (fun _ _ w => nwAlu w == 1))
def execAluSub (n : Fin 256) (s : State) : Host.Outcome State Fault Refusal :=
  .next (s.mwOf n.val (fun _ _ w => nwAlu w == 2))
def execAluAnd (n : Fin 256) (s : State) : Host.Outcome State Fault Refusal :=
  .next (s.mwOf n.val (fun _ _ w => nwAlu w == 3))
def execAluOr (n : Fin 256) (s : State) : Host.Outcome State Fault Refusal :=
  .next (s.mwOf n.val (fun _ _ w => nwAlu w == 4))
def execAluXor (n : Fin 256) (s : State) : Host.Outcome State Fault Refusal :=
  .next (s.mwOf n.val (fun _ _ w => nwAlu w == 5))
def execAluShl (n : Fin 256) (s : State) : Host.Outcome State Fault Refusal :=
  .next (s.mwOf n.val (fun _ _ w => nwAlu w == 6))
def execAluShr (n : Fin 256) (s : State) : Host.Outcome State Fault Refusal :=
  .next (s.mwOf n.val (fun _ _ w => nwAlu w == 7))
def execAluCmp (n : Fin 256) (s : State) : Host.Outcome State Fault Refusal :=
  .next (s.mwOf n.val (fun _ _ w => nwAlu w == 8))
def execAluCrc32c (n : Fin 256) (s : State) : Host.Outcome State Fault Refusal :=
  .next (s.mwOf n.val (fun _ _ w => nwAlu w == 9))
def execAluMin (n : Fin 256) (s : State) : Host.Outcome State Fault Refusal :=
  .next (s.mwOf n.val (fun _ _ w => nwAlu w == 10))
def execAluMax (n : Fin 256) (s : State) : Host.Outcome State Fault Refusal :=
  .next (s.mwOf n.val (fun _ _ w => nwAlu w == 11))
def execAluExtract (n : Fin 256) (s : State) : Host.Outcome State Fault Refusal :=
  .next (s.mwOf n.val (fun _ _ w => nwAlu w == 12))
def execAluMul (n : Fin 256) (s : State) : Host.Outcome State Fault Refusal :=
  .next (s.mwOf n.val (fun _ _ w => nwAlu w == 13))

/-! One row per memory operation (R578, R581). -/

def execBufLoad (n : Fin 256) (s : State) : Host.Outcome State Fault Refusal :=
  .next (s.mwOf n.val (fun _ _ w => Image.nwMem w == 1))
def execBufStore (n : Fin 256) (s : State) : Host.Outcome State Fault Refusal :=
  .next (s.mwOf n.val (fun _ _ w => Image.nwMem w == 2))
def execHostLoad (n : Fin 256) (s : State) : Host.Outcome State Fault Refusal :=
  .next (s.mwOf n.val (fun _ _ w => Image.nwMem w == 3))
def execHostStore (n : Fin 256) (s : State) : Host.Outcome State Fault Refusal :=
  .next (s.mwOf n.val (fun _ _ w => Image.nwMem w == 4))

/-! One row per unit operation (R574). Of FRAME, DMA_ANY, JCOMMIT and SCHED the spec states no effect: the rest of their
microword takes place. -/

def execDmaClaim (n : Fin 256) (s : State) : Host.Outcome State Fault Refusal :=
  .next (s.mwOf n.val (fun _ _ w => Image.nwUnit w == 1))
def execUnitDmaGo (n : Fin 256) (s : State) : Host.Outcome State Fault Refusal :=
  .next (s.mwOf n.val (fun _ _ w => Image.nwUnit w == 2))
def execUnitDmaArm (n : Fin 256) (s : State) : Host.Outcome State Fault Refusal :=
  .next (s.mwOf n.val (fun _ _ w => Image.nwUnit w == 3))
def execDmaRelease (n : Fin 256) (s : State) : Host.Outcome State Fault Refusal :=
  .next (s.mwOf n.val (fun _ _ w => Image.nwUnit w == 4))
def execPeSub (n : Fin 256) (s : State) : Host.Outcome State Fault Refusal :=
  .next (s.mwOf n.val (fun _ _ w => Image.nwUnit w == 5))
def execSreq (n : Fin 256) (s : State) : Host.Outcome State Fault Refusal :=
  .next (s.mwOf n.val (fun _ _ w => Image.nwUnit w == 6))
def execSetStatus (n : Fin 256) (s : State) : Host.Outcome State Fault Refusal :=
  .next (s.mwOf n.val (fun _ _ w => Image.nwUnit w == 7))
def execPark (n : Fin 256) (s : State) : Host.Outcome State Fault Refusal :=
  .next (s.mwOf n.val (fun _ _ w => Image.nwUnit w == 8))
def execFrame (n : Fin 256) (s : State) : Host.Outcome State Fault Refusal :=
  .next (s.mwOf n.val (fun _ _ w => Image.nwUnit w == 9))

/-- TRET (R585): the handler of a context at trap level returns once its channel is no longer faulted (R586). -/
def execTret (n : Fin 256) (s : State) : Host.Outcome State Fault Refusal :=
  .next <|
    let c := s.mctx n.val
    if s.mcOn && c.level && c.wait = .xlat && c.trapDue.isNone then
      if s.dFaulted (bitsOf c.frame 256 6) then s else s.mctxUp n.val CtxState.tret
    else s.mwOf n.val (fun _ _ w => Image.nwUnit w == 10)

def execDmaAny (n : Fin 256) (s : State) : Host.Outcome State Fault Refusal :=
  .next (s.mwOf n.val (fun _ _ w => Image.nwUnit w == 11))
def execJcommit (n : Fin 256) (s : State) : Host.Outcome State Fault Refusal :=
  .next (s.mwOf n.val (fun _ _ w => Image.nwUnit w == 12))
def execSched (n : Fin 256) (s : State) : Host.Outcome State Fault Refusal :=
  .next (s.mwOf n.val (fun _ _ w => Image.nwUnit w == 13))

/-! Library services (R582). -/

def execVolRead (n : Fin 256) (s : State) : Host.Outcome State Fault Refusal :=
  .next (s.mwOf n.val (fun c mw _ => isLib c mw && Image.mwTarget mw == 0x0F00))
def execVolWrite (n : Fin 256) (s : State) : Host.Outcome State Fault Refusal :=
  .next (s.mwOf n.val (fun c mw _ => isLib c mw && Image.mwTarget mw == 0x0F01))
def execVolFlush (n : Fin 256) (s : State) : Host.Outcome State Fault Refusal :=
  .next (s.mwOf n.val (fun c mw _ => isLib c mw && Image.mwTarget mw == 0x0F02))
def execVcrc (n : Fin 256) (s : State) : Host.Outcome State Fault Refusal :=
  .next (s.mwOf n.val (fun c mw _ => isLib c mw && Image.mwTarget mw == 0x0F03))
def execLibraryUndefined (n : Fin 256) (s : State) : Host.Outcome State Fault Refusal :=
  .next (s.mwOf n.val (fun c mw _ => isLib c mw && decide (Image.mwTarget mw ≥ 0x0F04)))

/-! Customer images (R595, R596). -/

/-- Customer stores and entries are written from an image. -/
def State.custWrite (s : State) (b : Nat) : State :=
  let keep (t : Tbl Nat) (lim : Nat) : Tbl Nat := t.filter (fun x => decide (x.1 < lim))
  s.mcU (fun m => { m with
    micro := (upTo 4096).foldl (fun t i => t.putD (0x3000 + i) 0 (Image.cuMicro b i)) (keep m.micro 0x3000),
    nano := (upTo 256).foldl (fun t i => t.putD (0x700 + i) 0 (Image.cuNano b i)) (keep m.nano 0x700),
    disp := (upTo 64).foldl (fun t i => t.putD (0xC0 + i) 0 (Image.cuDisp b i)) (keep m.disp 0xC0),
    ue := m.ue.filter (fun k => !custKey k) })

/-- What shows the installed image. -/
def State.custShow (s : State) (b : Nat) : State :=
  let s := (((s.on MC_LOAD_LOADED).p MC_LOAD_KEYSLOT (Image.cuKey b)).off MC_LOAD_ERR).p MC_IMG_VER_VER (Image.bytes b 8 4)
  s.setWords8 BT_MCUST_DATA (Image.sha256 0x8000 (Image.bytes b 0 0x8000))

/-- MICRO_IMAGE_INSTALL (R595). -/
def execMicroImageInstall (s : State) : Host.Outcome State Fault Refusal :=
  .next <|
    match s.mc.install with
    | none => s
    | some b =>
      if s.mc.ctx.any (fun x => x.2.busy && x.2.cust) then s
      else
        let a := s.pair MC_IMG_BASE_LO MC_IMG_BASE_HI
        let s := s.bWr a 40960 b
        let s := (s.custWrite (s.bRd a 40960)).mcU (fun m => { m with install := none, stored := some b })
        (s.custShow b).note MC_STAT_LOAD_OK 0x0E04 13 0

/-- The stored image is verified and installed at start-up (R596, R597 S3). -/
def State.custStart (s : State) : State :=
  match s.mc.stored with
  | none => s
  | some b =>
    let why := Image.custCheck2 b (s.g MC_IFV_MAJOR) (s.g MC_IFV_MINOR) (s.bt.keys.find (Image.cuKey b))
    if why = 0 then ((s.bWr (s.pair MC_IMG_BASE_LO MC_IMG_BASE_HI) 40960 b).custWrite b).custShow b
    else
      let s := (s.off MC_LOAD_LOADED).mcU (fun m => { m with disp := m.disp.filter (fun x => decide (x.1 < 0xC0)) })
      (s.p MC_LOAD_ERR why).note MC_STAT_LOAD_BAD 0x0E05 13 0

/-! Windows (R600). -/

/-- CTX_SNAP: status and trap frame of a context at one instant. -/
def State.ctxSnap (s : State) : State :=
  let n := s.g MC_CTX_SEL_CTX
  let c := s.mctx n
  let s := s.wr MC_CTX_STAT (BitVec.ofNat 32 (pk [(c.st, 2), (b2n c.level, 1), (b2n c.zh4, 1), (b2n c.cust, 1), (c.opc, 8),
    (n % 8, 3), (c.upc, 14)]))
  State.each (upTo 16) (fun i t => t.p (MC_FRAME_DATA i) (c.frame / 2 ^ (32 * i))) s

def execCtxSnap (s : State) : Host.Outcome State Fault Refusal := .next s.ctxSnap

/-- DISP_DATA_READ: the entry, and the next opcode. -/
def State.dispRead (s : State) : State :=
  let o := s.g MC_DISP_ADDR_OPC
  let v := BitVec.ofNat 32 (s.mc.disp.getD o 0)
  ({ s with rdata := v }.wr MC_DISP_DATA v).p MC_DISP_ADDR_OPC (o + 1)

def execDispDataRead (s : State) : Host.Outcome State Fault Refusal := .next s.dispRead

/-- STORE_DATA_READ: a word of the micro or nano store; an uncorrectable one reads all ones. -/
def State.storeRead (s : State) : State :=
  let a := s.g MC_STORE_ADDR_ADDR
  let w := s.g MC_STORE_ADDR_WORD
  let nano := s.is MC_STORE_ADDR_STORE
  let bad := s.mc.ue.contains (if nano then 16384 + a else a)
  let v : Word := if bad then 0xFFFFFFFF
    else BitVec.ofNat 32 (if nano then s.mc.nano.getD a 0 / 2 ^ (32 * w) else s.mc.micro.getD a 0)
  let s := ({ s with rdata := v }).wr MC_STORE_DATA v
  let s := s.when bad (fun t => t.note MC_STAT_FETCH_UE 0x0E01 13 0)
  if nano && w < 5 then s.p MC_STORE_ADDR_WORD (w + 1)
  else (s.off MC_STORE_ADDR_WORD).p MC_STORE_ADDR_ADDR (a + 1)

def execStoreDataRead (s : State) : Host.Outcome State Fault Refusal := .next s.storeRead

end Sys2Proof.Machine
end

