-- ==== Sys2Proof/Machine/Ladder.lean ====
section
/-! DEFINITION. Machine/Ladder.lean: sector reads and writes (R79–R91), the recovery ladder (R105–R136), write guarding and
verifies (R137–R148). -/

namespace Sys2Proof.Machine

open Reg

/-! Where a sector's data goes. -/

/-- The volume position that a sector holds: slot, stripe, offset and position. -/
def State.sectorBlock (s : State) (m mba : Nat) : Option (Nat × Nat × Nat × Nat) :=
  (upTo 64).findSome? (fun v =>
    let g := s.geo v
    if s.volOn v && g.set.contains m && decide (g.base ≤ mba) && decide (mba < g.base + g.rows * g.sz) then
      let row := (mba - g.base) / g.sz
      let u := (mba - g.base) % g.sz
      (upTo g.q).findSome? (fun i => ((upTo g.w).find? (fun p => s.posMember v (row * g.q + i) p == some m)).map (fun p =>
        (v, row * g.q + i, u, p)))
    else none)

/-- Reconstructions whose wanted block lies in a sector. -/
def State.reconsFor (s : State) (m mba : Nat) : List Recon :=
  s.cm.recons.filter (fun r =>
    let g := s.geo r.vol
    mba == g.base + r.stripe / atLeast1 g.q * g.sz + r.u && s.posMember r.vol r.stripe r.pos == some m)

/-- A sector was read OK (R79): its block goes to every read and reconstruction that waits for it, unless its slow-member
timer had been granted (R320). -/
def State.readOk (s : State) (m mba : Nat) (p : Code.Plain) (laddered : Bool) : State :=
  let (late, s) := s.slowEnd m mba
  if late then s.schedDone m mba
  else (((s.directOk m mba p.data laddered).sourceOk m mba (p.metaWord / 65536) p.data).chanSweep).settle

/-- No ladder will recover a sector (R108, R131, R132): a source is unreadable (R744), waiting reads go to a reconstruction,
and where none is possible or it fails the ladder has given up. -/
def State.noMore (s : State) (e : LadEnd) : State :=
  let m := e.op.member
  let mba := e.op.mba
  let (_, s) := s.slowEnd m mba
  let s := s.when (e.tlim && !e.skip) (fun t => t.ldLast e.ch 5 0 0 e.lastOfs e.lastIter)
  let s := (s.sourceGone m mba).copyUnread m mba
  let s := if e.op.purpose = .adjacent then
      s.ldUp (e.ch / 4) (fun x => { x with adjacent := x.adjacent.filter (·.1 ≠ (m, mba)) }) else s
  let s := s.ldUp (e.ch / 4) (fun x => { x with ended := x.ended ++ [e] })
  let s := if e.op.purpose = .adjacent && (s.waitsAt m mba).isEmpty then
      (match s.sectorBlock m mba with
      | some (v, stripe, u, p) => if (s.geo v).p = 0 then s else s.reconStart v stripe u p
      | none => s)
    else s.directFail m mba
  let s := State.each (s.reconsFor m mba) (fun r t => t.reconCheck r) s
  let here := (s.ld (e.ch / 4)).ended.contains e
  let s := if here && (s.reconsFor m mba).isEmpty then s.gaveUp e else s
  s.chanSweep.settle

/-! The ladder. -/

/-- A slot may serve rungs 1–4 (R95). -/
def State.slotGood (s : State) (sl : Option (Nat × Nat)) : Bool := match sl with
  | some (c, i) => !((s.ch c).slots.getD i {}).poison
  | none => false

/-- Trials of a rung, in order (R119, R120, R148); of rung 1 none before its pass (R112). -/
def State.trials (s : State) (l : Ladder) (r : Nat) : List Int :=
  let off (t : Nat) : Bool := r = 2 && t < 2 && bitOf l.off t = 1
  if r = 2 then ((upTo 4).filter (fun t => s.bit (LD_R2_CFG_TRIALS l.ch) t && !off t)).map (fun t => (t : Int))
  else if r = 3 then ((upTo 3).filter (fun t => s.bit (LD_R3_CFG_TRIALS l.ch) t)).map (fun t => (t : Int))
  else if r = 4 then [0] else []

/-- A rung from 1 to 4 runs for a ladder (R107). -/
def State.runsRung (s : State) (l : Ladder) (r : Nat) : Bool :=
  s.bit (LD_CTL_RUNGS l.ch) (r - 1) && s.slotGood l.slot && (r = 1 || !(s.trials l r).isEmpty)

/-- A ladder ends without success (R130). -/
def State.ladFail (s : State) (l : Ladder) (tlim : Bool) : State :=
  (s.ladDrop l).noMore { ch := l.ch, op := l.op, tlim := tlim, stale := l.stale, lastOfs := l.lastOfs, lastIter := l.lastIter }

/-- A ladder succeeds (R115, R124, R136). -/
def State.ladOk (s : State) (l : Ladder) (rung trial : Nat) (ofs : Int) (iter : Nat) (p : Code.Plain) : State :=
  let m := l.op.member
  let mba := l.op.mba
  let s := (s.ladDrop l).ldLast l.ch 1 rung trial ofs iter
  let s := s.sat (LD_RUNG_CNT_COUNT l.ch (rung - 1)) 1
  let s := if l.op.purpose = .adjacent then
      s.ldUp (l.ch / 4) (fun x => { x with adjacent := x.adjacent.filter (·.1 ≠ (m, mba)) }) else s
  (s.rewriteAt l.ch rung l.stale m mba p.data p.metaWord).readOk m mba p true

/-- The next re-read is requested, or rung 5 has failed (R123, R130). -/
def State.ladReread (s : State) (l l' : Ladder) : State :=
  let n := s.g (LD_R5_CFG_COUNT l.ch)
  let s := s.unpin l
  if s.bit (LD_CTL_RUNGS l.ch) 4 && l'.rereads < n then
    s.ladUp l { l' with rereads := l'.rereads + 1, phase := 2, rung := 5, slot := none, left := [] }
  else (s.ladUp l { l' with slot := none }).ladFail { l' with slot := none } false

/-- The ladder of an operation asks for a reconstruction of its sector's block (R128): for the reads that wait, and for a
verify of an adjacent track. -/
def State.askReconFor (s : State) (op : SecOp) : State :=
  let s := s.askRecon op.member op.mba
  if op.purpose = .adjacent then
    match s.sectorBlock op.member op.mba with
    | some (v, stripe, u, p) => if (s.geo v).p = 0 then s else s.reconStart v stripe u p
    | none => s
  else s

/-- A ladder goes on from rung `r`: to the next rung that runs, then to re-reads (R107, R110); RECON_AT is met by the rungs
it has passed (R128). `keep`: the engine stays with it. -/
def State.ladGo (s : State) (l l0 : Ladder) (r : Nat) (keep : Bool) : State :=
  let nr := (([1, 2, 3, 4].filter (fun k => decide (r ≤ k))).find? (fun k => s.runsRung l0 k)).getD 5
  let at_ := s.g (LD_CTL_RECON_AT l.ch)
  let ask := l0.rereads = 0 && !l0.recon && at_ ≠ 7 && min at_ 5 ≤ nr - 1
  let s := if ask then s.askReconFor l.op else s
  let l1 := { l0 with recon := l0.recon || ask }
  if nr ≤ 4 then s.ladUp l { l1 with rung := nr, phase := if keep then 1 else 0, left := s.trials l1 nr }
  else s.ladReread l l1

/-- A ladder takes the engine's next place. -/
def State.nextTurn (s : State) (a : Nat) : Nat × State :=
  ((s.ld a).nextTurn, s.ldUp a (fun x => { x with nextTurn := x.nextTurn + 1 }))

/-- Pins for a failed sector (R93, R94): the slot where it can be pinned. -/
def State.pinFor (s : State) (c : Nat) (slot : Option Nat) : Option (Nat × Nat) × State :=
  match slot with
  | none => (none, s)
  | some i =>
    if s.pins c ≥ 2 then (none, s.on (CH_STAT_SMEM_PIN_FULL c))
    else if ((s.ch c).slots.getD i {}).poison then (none, s)
    else (some (c, i), s.slotUp c i (fun x => { x with pinned := true }))

/-- A failed sector enters the ladder (R107), or skips it while LD is not ON (R108). A source of a reconstruction is an
erasure at once (R744). `dec` is the offset and the iterations of its normal-path decode, if one was made. -/
def State.ladEnter (s : State) (c : Nat) (op : SecOp) (slot : Option Nat) (sync : Option Int) (undec : Bool) (off : Nat)
    (dec : Option (Int × Nat)) : State :=
  let s := (s.schedDone op.member op.mba).sourceBad op.member op.mba
  if s.g (LD_CTL_STATE c) ≠ stOn then s.noMore { ch := c, op := op, skip := true }
  else if (s.ladderOf op.member op.mba).isSome then s
  else
    let (sl, s) := s.pinFor c slot
    let (n, s) := s.nextTurn (c / 4)
    let l : Ladder := {
      ch := c, op := op, slot := sl, sync := sync, undec := undec, off := off, turn := n,
      lastOfs := (dec.map (·.1)).getD 0, lastIter := (dec.map (·.2)).getD 0,
      needed := !(s.waitsAt op.member op.mba).isEmpty || !(s.reconsAt op.member op.mba).isEmpty }
    let s := s.ldUp (c / 4) (fun x => { x with queue := x.queue ++ [l] })
    s.ladGo l l 1 false

/-- A re-read that failed on the normal path goes through the enabled rungs 1–4 (R124). -/
def State.rereadFailed (s : State) (l : Ladder) (c : Nat) (slot : Option Nat) (sync : Option Int) (undec : Bool) (off : Nat)
    (dec : Option (Int × Nat)) : State :=
  let (sl, s) := s.pinFor c slot
  let (n, s) := s.nextTurn (l.ch / 4)
  let (o, it) := dec.getD (l.lastOfs, l.lastIter)
  s.ladGo l { l with
    slot := sl, sync := sync, undec := undec, off := off, turn := n, best := none, used := none, bestSet := none, left := [],
    lastOfs := o, lastIter := it } 1 false

/-! Rewrites and verifies. -/

def State.rewriteOf (s : State) (m mba : Nat) : Option Rewrite :=
  (s.ld (actuatorOf m)).rewrites.find? (fun r => r.op.member == m && r.op.mba == mba)

def State.rewriteSet (s : State) (m mba : Nat) (r : Option Rewrite) : State :=
  s.ldUp (actuatorOf m) (fun x => { x with
    rewrites := x.rewrites.filter (fun y => !(y.op.member == m && y.op.mba == mba)) ++ r.toList })

/-- Rewrite attempts permitted (R141). -/
def State.retries (s : State) (c : Nat) : Nat := atLeast1 (s.g (LD_WG_CFG_RETRY c))

/-- The stripe write, the strip and the offset that a sector is written for (R251, R253): the oldest that may write it now. -/
def State.stripAt (s : State) (m mba : Nat) : Option (StripeWrite × Strip × Nat) :=
  s.ar.stripes.findSome? (fun w =>
    if s.stripTurn w m then
      (w.strips.find? (fun x => x.member == m && decide (x.mba ≤ mba) && (x.blocks.find (mba - x.mba)).isSome)).map (fun x => (w, x, mba - x.mba))
    else none)

/-- The strip that a sector belongs to changes; `f` is given the sector's offset. -/
def State.stripUp (s : State) (m mba : Nat) (f : Nat → Strip → Strip) : State :=
  match s.stripAt m mba with
  | none => s
  | some (w, x, u) => s.arU (fun a => { a with stripes := a.stripes.map (fun (y : StripeWrite) =>
      if y.jseq = w.jseq then { y with strips := y.strips.map (fun z => if z.pos = x.pos then f u z else z) } else y) })

/-- The spill copy that a sector is written for (R301): the record, the copy on extent 2i or 2i + 1, and its block. -/
def State.spillAt (s : State) (m mba : Nat) : Option (JRec × Nat × Nat) :=
  match s.jn.spillJob with
  | none => none
  | some (j, pair) =>
    if pair ≥ 8 then none
    else (s.jRec j).bind (fun r => [0, 1].findSome? (fun k =>
      let e := 2 * pair + k
      let len := atLeast1 (s.extLen e)
      let i := (mba - s.extMba e + len - s.jn.logAt.getD pair 0 % len) % len
      if s.extMember e = m && s.extMba e ≤ mba && mba < s.extMba e + len && i < r.spillBlks then some (r, k, i) else none))

/-- A block of a spill copy stands on the medium, verified (R301). -/
def State.spillMark (s : State) (m mba : Nat) : State :=
  match s.spillAt m mba with
  | some (_, k, i) => s.jnU (fun j => { j with spillDone := (if j.spillDone.contains (k, i) then j.spillDone else j.spillDone ++ [(k, i)]) })
  | none => s

/-- A sector stands on the medium, verified where a verify is due: its strip, or its spill copy, takes note. -/
def State.sectorDone (s : State) (op : SecOp) (stripe : Bool) : State :=
  if stripe then s.stripUp op.member op.mba (fun u x => if x.done.contains u then x else { x with done := x.done ++ [u] })
  else s.spillMark op.member op.mba

/-- An attempt ended WRITE_ABORTED, or its verify failed, after `n` rewrite attempts (R141, R142, R146). A failed strip write is
reported to the array layer, and a failed rewrite in place is dropped. -/
def State.attemptFailed (s : State) (c : Nat) (op : SecOp) (n : Nat) (stripe : Bool) : State :=
  let m := op.member
  let old := s.rewriteOf m op.mba
  let stale := (old.map (·.stale)).getD false
  if stale then (s.rewriteSet m op.mba none).slowEnd m op.mba |>.2
  else if n ≥ s.retries c then
    let s := (s.rewriteSet m op.mba none).fault (LD_STAT_WG_FAIL c) (16 + c) 22 0x0305 0
    if stripe then s.stripUp m op.mba (fun _ x => { x with bad := true }) else (s.slowEnd m op.mba).2
  else s.rewriteSet m op.mba (some {
    op := { op with purpose := .rewrite (n + 1) }, attempts := n, stripe := stripe, data := (old.map (·.data)).getD 0,
    metaWord := (old.map (·.metaWord)).getD 0, time := s.now })

/-- The verify of a sector passed: it is done. -/
def State.verified (s : State) (op : SecOp) : State :=
  let s := s.schedDone op.member op.mba
  match s.rewriteOf op.member op.mba with
  | some r =>
    let s := (s.rewriteSet op.member op.mba none).sectorDone op r.stripe
    if r.stripe then s else (s.slowEnd op.member op.mba).2
  | none => s

/-- The verify of a sector failed on both readers and on each alone (R146). DEDUCED 79: R141 applies as to an aborted write, so
it counts in LD_WG_CNT. -/
def State.verifyBad (s : State) (c : Nat) (op : SecOp) : State :=
  let s := s.schedDone op.member op.mba
  match s.rewriteOf op.member op.mba with
  | some r => (s.sat (LD_WG_CNT_COUNT c) 1).attemptFailed c op r.attempts r.stripe
  | none => s

/-- A two-reader verify failed (R145): each reader alone, reader 0 first, is decoded from the stored samples. -/
def State.verifySolo (s : State) (c : Nat) (op : SecOp) (slot : Option Nat) (off : Nat) : State :=
  match slot with
  | some i =>
    if ((s.ch c).slots.getD i {}).poison || off = 3 then s.verifyBad c op
    else
      let s := s.slotUp c i (fun x => { x with busy := true })
      let r := if bitOf off 0 = 1 then 1 else 0
      s.ldUp (c / 4) (fun x => { x with solo := x.solo ++ [{ ch := c, op := op, slot := i, reader := r, off := off }] })
  | none => s.verifyBad c op

/-! Reading. -/

/-- A read ended otherwise than OK: what follows by its purpose. `slot` as filled, none where rungs 1–4 cannot use it; `dec` its
decode, if one was made. -/
def State.readBad (s : State) (c : Nat) (op : SecOp) (slot : Option Nat) (sync : Option Int) (undec : Bool) (off : Nat)
    (dec : Option (Int × Nat)) : State :=
  match op.purpose with
  | .verify _ => s.verifySolo c op slot off
  | .reread _ =>
    let s := s.schedDone op.member op.mba
    if (s.ld (c / 4)).late.contains (c, op) then
      let s := s.ldUp (c / 4) (fun x => { x with late := x.late.erase (c, op) })
      (s.sat (LD_LATE_CNT_COUNT c) 1).note (LD_STAT_LATE c) 0x0303 (16 + c) 0
    else match s.ladderOf op.member op.mba with
      | some l => if l.phase = 3 then (if s.abandoned l then s.abandon l else s.rereadFailed l c slot sync undec off dec) else s
      | none => s
  | _ => s.ladEnter c op slot sync undec off dec

/-- The outcome of a read that did not end OK (R96, R148): of a head with both readers out of use NO_CONVERGE, of one made while
the sample memory is frozen UNDECODED. -/
def badOutcome (off : Nat) (frozen : Bool) (oc : Nat) : Nat :=
  if off = 3 then ocNoConverge else if frozen then ocUndecoded else oc

/-- New gains and, where adaptation runs, new taps: the spec gives neither loop to the bit, so they are free values (R104). -/
def State.freeField (s : State) (f : RF) : State := let (n, s) := s.free; s.p f n

/-- Taps adapt on decoded decisions (R104, R148), by CH_EQ_CTL as it stood when the sector was read (R102). -/
def State.adapt (s : State) (c off : Nat) (on_ freeze ok : Bool) : State :=
  if on_ && (ok || !freeze) then
    State.each ((upTo 24).filter (fun n => bitOf off (n / 12) = 0)) (fun n t => t.freeField (CH_EQ_TAP_COEF c n)) s
  else s

/-- A re-read whose ladder does not wait for it is not made (R130). -/
def State.rereadDue (s : State) (op : SecOp) : Bool := match op.purpose with
  | .reread _ => match s.ladderOf op.member op.mba with
    | some l => l.phase == 2
    | none => false
  | _ => true

/-- Normal-path iterations (R86, R104). -/
def State.decIter (s : State) (c : Nat) : Nat :=
  let n := s.g (CH_DEC_CFG_MAX_ITER c)
  if n = 0 || n > 16 then 16 else n

/-- Verify iterations (R144). -/
def State.vfyIter (s : State) (c : Nat) : Nat :=
  let n := s.g (LD_VFY_CFG_MAX_ITER c)
  if n = 0 || n > 16 then 16 else n

def isVerify (p : Purpose) : Bool := match p with
  | .verify _ => true
  | .adjacent => true
  | _ => false

/-- A read that reaches no decoder ends: its outcome, the tap update it may make, and what follows. -/
def State.readEnd (s : State) (n : Nat) (op : SecOp) (slot : Option Nat) (oc e : Nat) (sync : Option Int) (undec : Bool) (off : Nat) : State :=
  let oc := badOutcome off (s.is (CH_CTL_SMEM_FREEZE n)) oc
  ((s.outcome n oc 0 e (sync.getD 0)).adapt n off (s.is (CH_EQ_CTL_ADAPT n)) (s.is (CH_EQ_CTL_FREEZE_ON_FAIL n)) false).readBad n op slot
    sync undec off none

/-- The codeword that the write path drives `o` bits from its place (R104, LOOPBACK). -/
def State.loopWord (s : State) (n : Nat) (o : Int) : BitVec 36480 :=
  BitVec.ofNat 36480 ((s.ch n).lastSlot.toNat / 2 ^ (128 + o).toNat)

/-- A sector whose sync mark was found crosses to the decoder, or is UNDECODED where the crossing FIFO is full (R35, R86). -/
def State.toDecoder (s : State) (n : Nat) (op : SecOp) (slot : Option Nat) (o : Int) (e off : Nat) : State :=
  if 3 ≤ (s.ch n).dec.length then s.readEnd n op slot ocUndecoded e (some o) true off
  else
    let mi := if isVerify op.purpose then s.vfyIter n else s.decIter n
    let early := s.is (CH_DEC_CFG_EARLY_STOP n)
    let job : DecJob := {
      op := op, slot := slot, sync := some o, syncErr := e, maxIter := mi, early := early, off := off,
      frozen := s.is (CH_CTL_SMEM_FREEZE n), adaptOn := s.is (CH_EQ_CTL_ADAPT n), freeze := s.is (CH_EQ_CTL_FREEZE_ON_FAIL n),
      looped := if (s.ch n).loop then some (s.loopWord n o) else none }
    let s := match slot with
      | some i => s.slotUp n i (fun x => { x with busy := true })
      | none => s
    s.chUp n (fun x => { x with dec := x.dec ++ [job] })

/-- Timing recovery and gain control of a sector (R80, R104): ACQ_LEN from 16 to 88, gain on its first 32 bits unless HOLD keeps
it, and the frequency held across every wedge that the sector straddles. -/
def State.trUse (s : State) (n : Nat) (op : SecOp) (f : Int) : TrUse :=
  let acq := clampN 16 88 (s.g (CH_TR_CFG_ACQ_LEN n))
  { acq := acq, gain := if s.is (CH_AGC_HOLD n) then 0 else min 32 acq, kp := s.g (CH_TR_CFG_KP n), ki := s.g (CH_TR_CFG_KI n),
    target := min 31 (s.g (CH_AGC_TARGET n)),
    held := (Code.straddled (s.g (CH_ZTA_RATE n op.zone)) op.wedge op.sector 0 36671).map (fun w => (w, f)) }

/-- The samples of a sector read go into the sample memory (R92), with what the mark searches of the ladder compare (R111,
R114); `ue` that the slot meets an uncorrectable error (R95). -/
def State.smemFill (s : State) (n : Nat) (op : SecOp) (around : BitVec 56) (bursts : List (BitVec 46)) (s0 s1 : BitVec 221184)
    (ue : Bool) : Option Nat × State :=
  let slot := s.fillSlot n
  let pat := (s.rd (CH_RESYNC_PAT n)).toNat
  let used := bursts.take (Code.straddled (s.g (CH_ZTA_RATE n op.zone)) op.wedge op.sector 0 36607).length
  let marks := used.map (fun b => (Code.searchMark pat b.toNat 7 (s.g (CH_SYNC_CFG_RESYNC_WINDOW n))
    (s.g (CH_SYNC_CFG_RESYNC_THRESH n))).map (·.1))
  match slot with
  | some i =>
    let s := (s.chUp n (fun x => { x with fills := x.fills + 1 })).slotUp n i (fun _ =>
      { valid := true, age := (s.ch n).fills + 1, stale := true, s0 := s0, s1 := s1, around := around, bursts := used, resync := marks })
    (slot, if ue then s.smemUe n i else s)
  | none => (none, s)

/-- SECTOR_READ (R80–R84, R88, R92). A read that has no gate waits (R62); a re-read waits while PA_FLT_N or PA_FAULT holds
(R107). In loopback the bits around the sync mark are those that the write path drives. -/
def execSectorRead (c : Fin 32) (op : SecOp) (around : BitVec 56) (resync : List (BitVec 46)) (fofs : BitVec 16)
    (s0 s1 : BitVec 221184) (ue last : Bool) (s : State) : Host.Outcome State Fault Refusal :=
  .next <|
    let n := c.val
    let re := match op.purpose with | .reread _ => true | _ => false
    let held := (s.pa (n / 4)).fltLow || (upTo 4).any (fun i => s.is (CH_STAT_PA_FAULT (n / 4 * 4 + i)))
    let cut := (s.ch n).cut
    if re && (s.ladderOf op.member op.mba).any (fun l => l.phase == 2 && s.abandoned l) then
      (match s.ladderOf op.member op.mba with
      | some l => s.abandon l
      | none => s)
    else if !s.rereadDue op || !s.hasSector n op || (cut ≠ 2 && (!s.routed n op.member || !s.mayRead n || (re && held))) then s
    else
      let hit := cut = 2 || ((s.pa (n / 4)).fltLow && !(s.ch n).loop)
      let s := s.opStart n op 1 (last || hit || !(s.ch n).loop && !s.bit (SV_HEADS_RD_OK (n / 4)) (n % 4))
      let off := s.rdrOff op.member
      let s := match s.ladderOf op.member op.mba with
        | some l => if re then s.ladUp l { l with phase := 3 } else s
        | none => s
      let bits := if (s.ch n).loop then BitVec.ofNat 56 ((s.ch n).lastSlot.toNat / 2 ^ 84) else around
      let (slot, s) := s.smemFill n op bits resync s0 s1 ue
      if hit then s.readEnd n op none ocPreamp 0 none false off
      else
        let s := if s.is (CH_AGC_HOLD n) then s else (s.freeField (CH_AGC_GAIN0 n)).freeField (CH_AGC_GAIN1 n)
        let f := sgn 16 fofs.toNat
        let range := decide (f > 3000) || decide (f < -3000)
        let s := (s.p (CH_TR_STAT_FOFS n) fofs.toNat).p (CH_TR_STAT_LOCK n) (b2n (!range))
        let s := s.chUp n (fun x => { x with tr := s.trUse n op f })
        if range then
          (s.note (CH_STAT_TR_RANGE n) 0x0205 (16 + n) 0).readEnd n op (match op.purpose with | .verify _ => slot | _ => none) ocNoConverge
            0 none false off
        else
          match Code.searchMark (s.rd (CH_SYNC_PAT n)).toNat bits.toNat 12 (min 12 (s.g (CH_SYNC_CFG_WINDOW n)))
            (s.g (CH_SYNC_CFG_THRESH n)) with
          | none => s.readEnd n op slot ocSyncMiss 0 none false off
          | some (o, e) => s.toDecoder n op slot o e off

/-- What a decoder reports for hard decisions after some iterations of at most `max`: converged, and what the codeword holds
under the sector's seed (R79). -/
def decoded (op : SecOp) (cw iter max off : Nat) : Bool × Bool × Code.Plain :=
  let sd := Code.seed op.member op.mba
  let conv := decide (iter ≤ max) && decide (off ≠ 3) && Code.converged cw
  let p := Code.descramble sd cw
  (conv, conv && Code.accepts sd p, p)

/-- The decoder's first sector leaves it. -/
def State.decPop (s : State) (c : Nat) (j : DecJob) : State :=
  let s := s.chUp c (fun x => { x with dec := x.dec.drop 1 })
  match j.slot with
  | some i => s.slotUp c i (fun x => { x with busy := false })
  | none => s

/-- The outcome of a normal-path decode (R86, R88, R96), and whether it is OK. -/
def State.decEnd (s : State) (c : Nat) (j : DecJob) (conv ok : Bool) (iter : Nat) : State :=
  let it := if j.early then min iter j.maxIter else j.maxIter
  let oc := if ok then ocOk else badOutcome j.off j.frozen (if conv then ocCrcSeed else ocNoConverge)
  ((s.decPop c j).outcome c oc it j.syncErr (j.sync.getD 0)).adapt c j.off j.adaptOn j.freeze ok

/-- DECODE_DONE (R79, R86, R107): a read's decode; verifies end by VERIFY_DONE. -/
def execDecodeDone (c : Fin 32) (cw : BitVec 36480) (iter : Nat) (s : State) : Host.Outcome State Fault Refusal :=
  .next <|
    match (s.ch c.val).dec with
    | [] => s
    | j :: _ =>
      if isVerify j.op.purpose then s
      else
        let n := c.val
        let (conv, ok, p) := decoded j.op (j.looped.getD cw).toNat iter j.maxIter j.off
        let s := s.decEnd n j conv ok iter
        let it := if j.early then min iter j.maxIter else j.maxIter
        match j.op.purpose with
        | .reread _ =>
          let l? := (s.ladderOf j.op.member j.op.mba).filter (fun l => l.phase == 3)
          let seedBad := conv && !ok
          let s := match l? with
            | some l => if seedBad then (s.on (LD_STAT_SEED l.ch)).sat (LD_SEED_CNT_COUNT l.ch) 1 else s
            | none => s
          match l? with
          | some l =>
            if ok && !(s.abandoned l) then s.ladOk l 5 0 (j.sync.getD 0) it p
            else s.readBad n j.op j.slot j.sync j.frozen j.off (some (j.sync.getD 0, it))
          | none => s.readBad n j.op j.slot j.sync j.frozen j.off (some (j.sync.getD 0, it))
        | _ =>
          if ok then s.readOk j.op.member j.op.mba p false
          else s.readBad n j.op j.slot j.sync j.frozen j.off (some (j.sync.getD 0, it))

/-! Writing. -/

/-- A second mismatch of a strip leaves its stripe unretired; each is counted and recorded (R472, R473). -/
def State.vcrcBad (s : State) (op : SecOp) : State :=
  let arg := match s.sectorBlock op.member op.mba with
    | some (v, stripe, u, p) => pk [(s.ownerOf v, 6), ((s.geo v).blockAt stripe p u, 40)]
    | none => 0
  (s.sat CM_E2E_CNT_COUNT 1).fault CM_STAT_E2E 6 0 0x0B02 arg

/-- A written sector is verified (R143): a rewrite, a force-to-medium write, or any write under VERIFY_ALL. -/
def State.verifyDue (s : State) (c : Nat) (op : SecOp) : Bool := match op.purpose with
  | .rewrite _ => true
  | .spill => true
  | _ => s.is (LD_WG_CFG_VERIFY_ALL c) || (match s.sectorBlock op.member op.mba with
      | some (v, stripe, u, _) => s.ar.stripes.any (fun w => w.vol == v && w.stripe == stripe && w.u0 ≤ u && u ≤ w.u1 && w.verify)
      | none => false)

/-- The metadata word as written: the member's format generation, and 0 in the reserved bits (R74). -/
def State.metaFor (s : State) (m : Nat) (w : Nat) : Nat :=
  let gen := bitsOf s.md.pfr (8 * (0x20 + m)) 8
  pk [(gen, 8), (w / 2 ^ 8, 2), (0, 6), (w / 2 ^ 16, 16)]

/-- What a sector write puts on the medium: the block, and its metadata word without FMT_GEN; none where nothing is due there.
Strips take theirs from their stripe write (R141, R251, R252), spill copies from their record (R301), rewrites in place what
the ladder or the reconstruction gave (R134). -/
def State.writeSource (s : State) (op : SecOp) : Option (Nat × Nat) :=
  let strip : Option (Nat × Nat) := (s.stripAt op.member op.mba).map (fun x =>
    (x.2.1.blocks.getD x.2.2 0, stripMeta (decide (x.2.1.pos ≥ (s.geo x.1.vol).k)) x.1.wseq))
  let spill : Option (Nat × Nat) := (s.spillAt op.member op.mba).map (fun x =>
    (x.1.spillBlk x.2.2, spillMeta x.1.jseq))
  match op.purpose with
  | .strip => strip
  | .spill => spill
  | .rewrite _ => (s.rewriteOf op.member op.mba).bind (fun r =>
    if r.stripe then strip else some (spill.getD (r.data, r.metaWord)))
  | _ => none

/-- Adjacent-track verifies issued at a time; one already scheduled keeps its own. -/
def addAdjacent (l : List (Nat × Nat)) (t : Nat) (q : List ((Nat × Nat) × Nat)) : List ((Nat × Nat) × Nat) :=
  q ++ ((l.dedup.filter (fun x => !q.any (fun y => y.1 == x))).map (fun x => (x, t)))

/-- The sectors on both adjacent tracks within the wedge intervals of an encroachment (R140). -/
def State.adjacentTo (s : State) (a n m : Nat) (wedges : List Nat) : List (Nat × Nat) :=
  let t := ((s.act a).slots.getD n {}).target
  (wedges.flatMap (fun w => ((if t = 0 then [1] else [t - 1, t + 1]).flatMap (fun x => Config.trackSectors m x w)).map (fun b =>
    (m, b.toNat)))).dedup

/-- The write path drives a sector's slot (R70, R89): preamble, sync mark, codeword and postamble, precompensated as its zone
says. -/
def State.driveSlot (s : State) (n : Nat) (op : SecOp) (cw : Nat) : State :=
  s.chUp n (fun x => { x with
    lastSlot := BitVec.ofNat 36672 (Code.slotBits (s.rd (CH_SYNC_PAT n)).toNat cw)
    lastPc := [s.g (CH_ZTB_PC1 n op.zone), s.g (CH_ZTB_PC2 n op.zone), s.g (CH_ZTB_PC3 n op.zone)] })

/-- What the write path drives at stream bit `i` of the slot last driven: the polarity of the magnetization (R73), and the delay
of a transition there in 1/64 bit (R89). -/
def ChState.wave (x : ChState) (i : Nat) : Bool × Nat :=
  (x.lastSlot.getLsbD i, Code.delayAt x.lastPc x.lastSlot.toNat i)

/-- SECTOR_WRITE (R70–R77, R89–R91, R139–R143). A write that has no gate waits; one whose data fails its VCRC is not written. -/
def execSectorWrite (c : Fin 32) (op : SecOp) (vcrcOk completed last : Bool) (s : State) : Host.Outcome State Fault Refusal :=
  .next <|
    let n := c.val
    let cut := (s.ch n).cut
    let rw := s.rewriteOf op.member op.mba
    let isRw := match op.purpose with | .rewrite _ => true | _ => false
    match s.writeSource op with
    | none => s
    | some (data, w) =>
      if !s.hasSector n op || (cut ≠ 1 && (!s.routed n op.member || !s.mayWrite n)) then s
      else if !vcrcOk then s.vcrcBad op
      else
        let done := completed && cut ≠ 1
        let s := s.opStart n op 2 (last || !done)
        let attempts := match rw with | some r => r.attempts + b2n isRw | none => 0
        let stripe := match rw with | some r => r.stripe | none => decide (op.purpose = .strip)
        let a := n / 4
        let adj := s.adjacentTo a (n % 4) op.member ((s.act a).slots.getD (n % 4) {}).enc
        let s := s.actUp a (fun x =>
          { x with
            slots := x.slots.putD (n % 4) {} { (x.slots.getD (n % 4) {}) with enc := [] } })
        let s := s.ldUp a (fun x => { x with adjacent := addAdjacent adj s.now x.adjacent })
        let s := s.driveSlot n op (Code.encode (Code.seed op.member op.mba) data (s.metaFor op.member w))
        if done then
          let s := (s.outcome n ocWritten 0 0 0).schedDone op.member op.mba
          if s.verifyDue n op then s.rewriteSet op.member op.mba (some {
            op := { op with purpose := .verify attempts }, attempts := attempts, stripe := stripe, data := data, metaWord := w, time := s.now })
          else (s.rewriteSet op.member op.mba none).sectorDone op stripe
        else
          let s := (s.outcome n ocAborted 0 0 0).schedDone op.member op.mba
          let s := if cut = 1 then s else s.on (CH_STAT_WG_DENIED n)
          (s.sat (LD_WG_CNT_COUNT n) 1).attemptFailed n op attempts stripe

/-- The reader left over is suspect (R145, R147). -/
def State.rdrSuspect (s : State) (c m reader : Nat) : State :=
  let f := if reader = 0 then LD_RDR_CNT_READER0 c else LD_RDR_CNT_READER1 c
  let s := (s.sat f 1).on (LD_STAT_RDR_SUSPECT c)
  if s.g f = s.g (LD_VFY_CFG_RDR_LIM c) then s.raise 0x0306 (16 + c) (pk [(m, 7), (reader, 1)]) else s

/-- The single-reader decodes of a verify have ended (R145, R148): it passes where either passed, and where one alone passed and
the other is in use, the other is suspect. -/
def State.soloEnd (s : State) (n : Nat) (v : SoloVerify) (ok0 ok1 : Bool) : State :=
  let s := s.slotUp n v.slot (fun x => { x with busy := false })
  if ok0 || ok1 then
    let s := s.verified v.op
    if v.off ≠ 0 || ok0 == ok1 then s else s.rdrSuspect n v.op.member (if ok0 then 1 else 0)
  else s.verifyBad n v.op

/-- VERIFY_DONE (R143–R147): the two-reader decode of a verify, or the decode of one reader alone that follows it. -/
def execVerifyDone (c : Fin 32) (cw : BitVec 36480) (iter : Nat) (s : State) : Host.Outcome State Fault Refusal :=
  .next <|
    let n := c.val
    let a := n / 4
    match (s.ld a).solo.find? (fun x => x.ch == n) with
    | some v =>
      let (_, ok, _) := decoded v.op cw.toNat iter (s.vfyIter n) 0
      let s := s.ldUp a (fun x => { x with solo := x.solo.erase v })
      if v.reader = 0 && bitOf v.off 1 = 0 then
        s.ldUp a (fun x => { x with solo := { v with reader := 1, ok0 := ok } :: x.solo })
      else s.soloEnd n v (if v.reader = 0 then ok else v.ok0) (v.reader == 1 && ok)
    | none =>
      match (s.ch n).dec with
      | [] => s
      | j :: _ =>
        if !isVerify j.op.purpose then s
        else
          let (conv, ok, _) := decoded j.op (j.looped.getD cw).toNat iter j.maxIter j.off
          let s := s.decEnd n j conv ok iter
          match j.op.purpose with
          | .adjacent =>
            if ok then
              let s := (s.schedDone j.op.member j.op.mba).ldUp a (fun x => { x with adjacent := x.adjacent.filter (·.1 ≠ (j.op.member, j.op.mba)) })
              (s.slowEnd j.op.member j.op.mba).2
            else s.ladEnter n j.op j.slot j.sync j.frozen j.off (some (j.sync.getD 0, if j.early then min iter j.maxIter else j.maxIter))
          | _ => if ok then s.verified j.op else s.verifySolo n j.op j.slot j.off

/-! The engine. -/

/-- LADDER_SECTOR_START (R105): the waiting sector whose outcome was reported first. -/
def execLadderSectorStart (a : Fin 8) (s : State) : Host.Outcome State Fault Refusal :=
  .next <|
    let x := s.ld a.val
    if x.lateRun.isSome || x.queue.any (fun l => l.phase == 1) then s
    else match x.queue.filter (fun l => l.phase == 0) with
      | [] => s
      | l :: t =>
        let l := t.foldl (fun b y => if y.turn < b.turn then y else b) l
        if s.abandoned l then s.abandon l
        else if s.slotGood l.slot then s.ladUp l { l with phase := 1 }
        else s.ladGo l l 1 false

/-- Mismatched bits of the sync mark at each offset from -12 to +12, in the stored samples of a ladder's sector (R111). -/
def State.markCounts (s : State) (l : Ladder) : List Nat := match l.slot with
  | some (c, i) =>
    let x := (s.ch c).slots.getD i {}
    (upTo 25).map (fun k => Code.mismatch (s.rd (CH_SYNC_PAT c)).toNat x.around.toNat k)
  | none => []

/-- The offsets of rung 1 in order (R111–R113). -/
def State.rung1 (s : State) (l : Ladder) : List Int :=
  let mis := s.markCounts l
  let skip : List Int := if l.undec then [] else l.sync.toList
  let all : List (Int × Nat) := (upTo 25).map (fun (k : Nat) => (((k : Nat) : Int) - 12, mis.getD k 32))
  let lt (a b : Int × Nat) : Bool :=
    decide (a.2 < b.2) || (a.2 == b.2 && (decide (a.1.natAbs < b.1.natAbs) || (a.1.natAbs == b.1.natAbs && decide (a.1 ≤ b.1))))
  let cands := ((all.filter (fun x => x.2 ≤ s.g (LD_R1_CFG_THRESH l.ch) && !skip.contains x.1)).mergeSort lt).map (·.1)
  let rest := ((upTo 25).map (fun (k : Nat) => if k % 2 = 1 then -(((k + 1) / 2 : Nat) : Int) else ((k / 2 : Nat) : Int))).filter (fun o =>
    !skip.contains o && !cands.contains o)
  if s.is (LD_R1_CFG_ALL l.ch) then cands ++ rest else cands

/-- The better of two rung-1 decodes: fewer unsatisfied checks, then smaller offset, then the negative one (R116). -/
def better (b : Option (Int × Nat)) (x : Int × Nat) : Option (Int × Nat) := match b with
  | none => some x
  | some y =>
    if x.2 < y.2 || (x.2 = y.2 && (x.1.natAbs < y.1.natAbs || (x.1.natAbs = y.1.natAbs && decide (x.1 < y.1)))) then some x else some y

/-- The anchor (R116). DESIGN CHOICE 100: where rung 1 ran and decoded no offset, as where it was skipped, the accepted offset,
or 0. -/
def Ladder.anchor (l : Ladder) : Int := match l.best with
  | some x => x.1
  | none => l.sync.getD 0

/-- A rung-4 decode ended CRC_SEED: it decides misdirection (R118). -/
def State.misdirect (s : State) (l : Ladder) : Ladder × State :=
  if l.rereads = 0 then ({ l with seed4 := true }, s)
  else
    let l' := { l with misdir := l.misdir + 1 }
    (l', if l.seed4 && l'.misdir = 2 then
      s.note (LD_STAT_MISDIRECT l.ch) 0x0304 (16 + l.ch) (pk [(l.op.member, 7), (l.op.mba, 40)]) else s)

/-- The resync alignments of a ladder's sector, searched with LD_R1_CFG.THRESH (R114). -/
def State.ladAlign (s : State) (l : Ladder) : List (Option Int) := match l.slot with
  | some (c, i) => ((s.ch c).slots.getD i {}).bursts.map (fun b =>
      (Code.searchMark (s.rd (CH_RESYNC_PAT c)).toNat b.toNat 7 (s.g (CH_SYNC_CFG_RESYNC_WINDOW c)) (s.g (LD_R1_CFG_THRESH l.ch))).map (·.1))
  | none => []

/-- Reader scalings of rung 2, by trial (R119). -/
def rung2Scale : Nat → ℚ × ℚ
  | 0 => (1, 0)
  | 1 => (0, 1)
  | 2 => (3 / 4, 1 / 4)
  | _ => (1 / 4, 3 / 4)

/-- Soft-input scales of LD_R4_CFG.LLR_SCALE (R121, R149). -/
def llrScale : Nat → ℚ
  | 0 => 1
  | 1 => 7 / 8
  | 2 => 3 / 4
  | _ => 5 / 8

/-- The settings of a ladder's next decode, trial `t` of its rung (R119–R122, R148). The taps that the retraining of rung 3, trial 0
gives stand nowhere in the spec to the bit: they are free values. -/
def State.decSet (s : State) (l : Ladder) (t : Nat) : DecSet × State :=
  let c := (l.slot.map (·.1)).getD l.ch
  let taps := (upTo 24).map (fun n => s.g (CH_EQ_TAP_COEF c n))
  let rtaps := (upTo 24).map (fun n => s.g (LD_RTAP_COEF l.ch n))
  let base : DecSet := { taps := taps, align := s.ladAlign l }
  let (d, s) : DecSet × State :=
    if l.rung = 2 then ({ base with w0 := (rung2Scale t).1, w1 := (rung2Scale t).2 }, s)
    else if l.rung = 3 then
      if t = 0 then ({ base with taps := (upTo 24).map (fun n => Config.freeVal (s.freeCtr + n) % 1024), step := 1 / 2 ^ (s.g (LD_R3_CFG_MU l.ch) + 8) },
        { s with freeCtr := s.freeCtr + 24 })
      else ({ base with taps := rtaps, noise := t ≠ 2 }, s)
    else if l.rung = 4 then ({ (l.bestSet.map (·.2)).getD base with llr := llrScale (s.g (LD_R4_CFG_LLR_SCALE l.ch)) }, s)
    else (base, s)
  ({ d with w0 := if bitOf l.off 0 = 1 then 0 else d.w0, w1 := if bitOf l.off 1 = 1 then 0 else d.w1 }, s)

/-- Settings of the best decode of rungs 1 to 3 (R121): fewer unsatisfied checks. DESIGN CHOICE 100: of equals the first. -/
def fewer (b : Option (Nat × DecSet)) (x : Nat × DecSet) : Option (Nat × DecSet) := match b with
  | none => some x
  | some y => if x.1 < y.1 then some x else some y

/-- A decode of a ladder that did not end OK is counted and remembered (R116, R117, R121): `conv` that it ended CRC_SEED. -/
def State.ladDecoded (s : State) (l : Ladder) (t : Int) (rest : List Int) (conv : Bool) (it unsat : Nat) : Ladder × State :=
  let (d, s) := s.decSet l t.toNat
  let n := if conv then 3649 else unsat
  let s := if conv then (s.on (LD_STAT_SEED l.ch)).sat (LD_SEED_CNT_COUNT l.ch) 1 else s
  let l2 : Ladder := { l with left := rest, lastOfs := if l.rung = 1 then t else l.anchor, lastIter := it, used := some d }
  let l2 := if l.rung = 1 then { l2 with best := better l2.best (t, n) } else l2
  (if l.rung ≤ 3 then { l2 with bestSet := fewer l2.bestSet (n, d) } else l2, s)

/-- LADDER_DECODE_DONE (R110–R121, R129, R130): the decode at the ladder's place ends; the first of rung 1 comes with its
pass, and ends alone where no offset is to be decoded. -/
def execLadderDecodeDone (a : Fin 8) (cw : BitVec 36480) (iter unsat : Nat) (s : State) : Host.Outcome State Fault Refusal :=
  .next <|
    let x := s.ld a.val
    match x.lateRun with
    | some c =>
      let s := s.ldUp a.val (fun y => { y with lateRun := none })
      (s.sat (LD_LATE_CNT_COUNT c) 1).note (LD_STAT_LATE c) 0x0303 (16 + c) 0
    | none => match x.queue.find? (fun l => l.phase == 1) with
      | none => s
      | some l =>
        let l1 := if l.rung = 1 && l.left.isEmpty then { l with left := s.rung1 l } else l
        let won (m : Ladder) (t : State) : State := ((t.slowEnd m.op.member m.op.mba).2.ladDrop m).ldLast m.ch 2 0 0 m.lastOfs m.lastIter
        match l1.left with
        | [] => if l.won then won l s else if s.abandoned l then s.abandon l else s.ladGo l l1 2 true
        | t :: rest =>
          let max := if l.rung = 4 then clampN 17 96 (s.g (LD_R4_CFG_MAX_ITER l.ch)) else 16
          let (conv, ok, p) := decoded l.op cw.toNat iter max l.off
          let it := min iter max
          let trial := if l.rung = 2 || l.rung = 3 then t.toNat else 0
          if ok && !l.won && !s.abandoned l then
            s.ladOk l (if l.rereads > 0 then 5 else l.rung) (if l.rereads > 0 then 0 else trial) (if l.rung = 1 then t else l1.anchor) it p
          else
            let (l2, s) := s.ladDecoded l1 t rest (conv && !ok) it unsat
            if l.won then won l2 (s.ladUp l l2)
            else if s.abandoned l then (s.ladUp l l2).abandon l2
            else
              let (l3, s) := if l.rung = 4 && conv then s.misdirect l2 else (l2, s)
              if rest.isEmpty || !s.slotGood l.slot then s.ladGo l l3 (l.rung + 1) true
              else s.ladUp l l3

/-- LADDER_TIME_LIMIT (R130): the expiry is granted. -/
def execLadderTimeLimit (c : Fin 32) (mba : BitVec 40) (s : State) : Host.Outcome State Fault Refusal :=
  .next <|
    let a := c.val / 4
    match (s.ld a).queue.find? (fun l => l.ch == c.val && l.op.mba == mba.toNat && !l.won) with
    | none => s
    | some l =>
      if s.timersHeld then s
      else
        let s := if l.phase = 1 then s.ldUp a (fun x => { x with lateRun := some c.val }) else s
        let runs := ((upTo 4).flatMap (fun n => ((s.ch (4 * a + n)).dec.filter (fun j => match j.op.purpose with
          | .reread _ => j.op.member == l.op.member && j.op.mba == l.op.mba
          | _ => false)).map (fun j => (4 * a + n, j.op))))
        let s := if l.phase = 3 then s.ldUp a (fun x => { x with late := x.late ++ runs }) else s
        if s.abandoned l then s.abandon l else s.ladFail l true

end Sys2Proof.Machine
end

