-- ==== Sys2Proof/Machine/Servo.lean ====
section
/-! DEFINITION. Machine/Servo.lean: the servo and control engine of an actuator (R150–R202), and the meanings of their
commands. Positions are in 1/8,192 of track pitch, twice as fine as the raw positions of R151. -/

namespace Sys2Proof.Machine

open Reg

/-! The pace governor (R21–R27). -/

/-- Vf in mV, at least 720 while any actuator has its heads loaded (R24). -/
def State.vf (s : State) : Nat :=
  let v := 600 + 5 * clampN 0x0A 0x32 (s.g PW_GOV_VF)
  if (upTo 8).any (fun a => s.loaded a) then max 720 v else v

/-- The core supply takes a set point, between Vf and 0.85 V (R22). -/
def State.coreSet (s : State) (mv : Nat) : State :=
  let v := min 850 (max s.vf mv)
  (s.p PW_CORE_VSET v).p PW_CORE_AT_MAX (b2n (v = 850))

/-! Helpers. -/

/-- ASTATE changes; injection runs in FOLLOWING alone (R199). -/
def State.setAstate (s : State) (a st : Nat) : State :=
  let s := s.p (SV_MODE_ASTATE a) st
  if st = aFollowing then s else s.off (SV_TSI_CTL_EN a)

def State.slotPut (s : State) (a n : Nat) (f : SvSlot → SvSlot) : State :=
  s.actUp a (fun x => { x with slots := x.slots.putD n {} (f (x.slots.getD n {})) })

def State.isLost (s : State) (a n : Nat) : Bool := s.bit (SV_HEADS_LOST a) n

/-- A signal is being injected (R199). -/
def State.injecting (s : State) (a : Nat) : Bool :=
  s.is (SV_TSI_CTL_EN a) && s.mode == mMaint && s.astate a == aFollowing

/-- A rational as a whole number: the rounding is the engine's own (R161). -/
def ratInt (q : ℚ) : Int := quot q.num q.den

def absGt (x : Int) (n : Nat) : Bool := decide (x.natAbs > n)

/-- PRED_MAX in force (R202). -/
def State.predMax (s : State) (a : Nat) : Nat :=
  let n := s.g (SV_FB_CFG_PRED_MAX a)
  if n = 0 then 1 else min 4 n

/-! Capture (R200). -/

/-- One entry goes into the ring; a triggered capture ends after POST entries. -/
def State.capture (s : State) (a e : Nat) : State :=
  let x := s.act a
  let mode := s.g (SV_CAP_CTL_MODE a)
  let s := s.actUp a (fun x => { x with capLast := e })
  if mode = 1 || (x.armed && mode ≥ 2) then
    match x.post with
    | some 0 => (s.on (SV_CAP_CTL_DONE a)).actUp a (fun x => { x with armed := false, post := none })
    | p =>
      let s := (s.p (SV_CAP_ADDR_LAST a) x.ringAt).actUp a (fun x =>
        { x with
          ring := x.ring.putD x.ringAt 0 e, ringAt := (x.ringAt + 1) % 4096, post := p.map (· - 1) })
      if p = some 1 then (s.on (SV_CAP_CTL_DONE a)).actUp a (fun x => { x with armed := false, post := none }) else s
  else s

/-- The trigger of MODE 2 or 3 occurs. -/
def State.capTrig (s : State) (a mode : Nat) : State :=
  if s.g (SV_CAP_CTL_MODE a) = mode && (s.act a).armed && (s.act a).post.isNone then
    let n := s.g (SV_CAP_CTL_POST a)
    if n = 0 then (s.on (SV_CAP_CTL_DONE a)).actUp a (fun x => { x with armed := false })
    else s.actUp a (fun x => { x with post := some n })
  else s

/-- CAPTURE_ARM (R200): the ring starts and DONE clears. DESIGN CHOICE 101: the ring starts empty, at index 0. -/
def doCaptureArm (a : Fin 8) (s : State) : State :=
  (s.off (SV_CAP_CTL_DONE a.val)).actUp a.val (fun x => { x with armed := true, post := none, ring := [], ringAt := 0 })
/-- The row of `doCaptureArm`. -/
def execCaptureArm (a : Fin 8) (s : State) : Host.Outcome State Fault Refusal := .next (doCaptureArm a s)

/-- CAPTURE_DATA_READ (R202). -/
def State.capRead (s : State) (a : Nat) : State :=
  let i := s.g (SV_CAP_ADDR_INDEX a)
  ({ s with rdata := BitVec.ofNat 32 ((s.act a).ring.getD i 0) }).p (SV_CAP_ADDR_INDEX a) (i + 1)

def execCaptureDataRead (a : Fin 8) (s : State) : Host.Outcome State Fault Refusal := .next (s.capRead a.val)

/-! Overruns (R167–R171). -/

/-- A wedge is an overrun (R167, R171). -/
def State.overrun (s : State) (a : Nat) : State :=
  let s := (s.note (SV_STAT_OVR a) 0x0401 (48 + a) 0).sat (SV_OVR_CNT_COUNT a) 1
  let s := (State.each (upTo 4) (fun n t => t.cutWrite a n) s).on (SV_STAT_WR_WITHDRAWN a)
  let s := (s.off (SV_TSI_CTL_EN a)).coreSet (s.g PW_CORE_VSET + 30)
  let s := (s.actUp a (fun x => { x with since := x.since + 1 })).p (SV_MODE_OVR_RUN a) (min 3 (s.g (SV_MODE_OVR_RUN a) + 1))
  let s := (s.capTrig a 3).capture a (s.act a).capLast
  if s.g (SV_MODE_OVR_RUN a) = 3 && s.astate a ≠ aUnloading then
    (s.fault (SV_STAT_OVR_UNLOAD a) (48 + a) 9 0x0404 0).unloadAct a ucOverruns
  else s

/-- WEDGE_DEADLINE (R166, R167): the deadline is granted. -/
def execWedgeDeadline (a : Fin 8) (s : State) : Host.Outcome State Fault Refusal :=
  .next <|
    if (s.act a.val).job.isSome && !(s.act a.val).overdue then
      ((s.actUp a.val (fun x => { x with overdue := true })).overrun a.val).careFrom s
    else s

/-! Seeks (R156, R186, R187). -/

def State.gatesLow (s : State) (a : Nat) : Bool :=
  !(upTo 4).any (fun n => (s.ch (4 * a + n)).rdGate || (s.ch (4 * a + n)).wrGate)

/-- The targets take effect: the arm seeks, and settle starts over (R177, R186, R188). -/
def State.seekNow (s : State) (a : Nat) (ts : List (Nat × Nat)) : State :=
  let s := State.each ts (fun x t => t.slotPut a x.1 (fun y => { y with target := x.2 })) s
  let s := s.p (SV_POS_TRACK a) (s.refTrack a (fun n => (s.slot a n).target))
  let s := s.actUp a (fun x => { x with seekWait := none, holdAt := none })
  let st := s.astate a
  if st = aSeeking || st = aSettling || st = aFollowing then
    let s := State.each (upTo 4) (fun n t => t.slotPut a n (fun y =>
      { y with rdRun := 0, wrRun := 0, rdSettled := false, wrSettled := false })) s
    ((s.dropPerms a).setAstate a aSeeking).actUp a (fun x =>
      { x with settling := 0, settleGranted := false, settleLateDone := false })
  else s

/-- A seek is asked for: refused beyond MA_SPAN (R156), begun now where `wedge` says that this is a wedge, and else held for the
first wedge with the gates low (R186, R187). -/
def State.seekAsk (s : State) (a : Nat) (ts : List (Nat × Nat)) (wedge : Bool) : Bool × State :=
  let target (n : Nat) : Nat := ((ts.find? (fun x => x.1 == n)).map (·.2)).getD (s.slot a n).target
  let ref := s.refTrack a target
  let span := min 12 (s.g (SV_SEEK_CFG_MA_SPAN a))
  if (s.activeSlots a).any (fun n => absGt ((target n : Int) - (ref : Int)) span) then
    (false, s.note (SV_STAT_SPAN_ERR a) 0x0406 (48 + a) 0)
  else if wedge && s.gatesLow a then (true, s.seekNow a ts)
  else (true, s.actUp a (fun x => { x with seekWait := some ts }))

/-- SEEK_START (R156, R186, R187). -/
def execSeekStart (a : Fin 8) (targets : List (Nat × BitVec 20)) (s : State) : Host.Outcome State Fault Refusal :=
  .next <|
    if s.mode ≠ mService then s
    else (s.seekAsk a.val ((targets.filter (fun x => decide (x.1 < 4))).map (fun x => (x.1, x.2.toNat))) true).2

/-- SEEK (R202): SV_CMD.OP = 3, in MAINT only. -/
def doSeek (a : Fin 8) (s : State) : State :=
  let n := a.val
  let st := s.astate n
  if s.mode ≠ mMaint then s.p (SV_CMD_ERR n) 1
  else if s.g (SV_CTL_STATE n) ≠ stOn || !(st = aSeeking || st = aSettling || st = aFollowing) then s.p (SV_CMD_ERR n) 2
  else
    let (ok, s) := s.seekAsk n ((upTo 4).map (fun i => (i, s.g (SV_TARGET_TRACK n)))) false
    s.p (SV_CMD_ERR n) (if ok then 0 else 3)
/-- The row of `doSeek`. -/
def execSeek (a : Fin 8) (s : State) : Host.Outcome State Fault Refusal := .next (doSeek a s)

/-- SETTLE_TIMEOUT (R189): the limit is granted; the arm is held where it stands, as the estimator last had it. -/
def execSettleTimeout (a : Fin 8) (s : State) : Host.Outcome State Fault Refusal :=
  .next <|
    let n := a.val
    let x := s.act n
    if s.astate n = aSettling && x.settling ≥ 511 && !x.settleGranted then
      let s := s.actUp n (fun x => { x with settleGranted := true, holdAt := x.est.map Config.estPos })
      (s.note (SV_STAT_SETTLE_TMO n) 0x040B (48 + n) 0).seekFailed n
    else s

/-! Loading and unloading (R190–R198). -/

/-- The speed target of a spindle (R215, R642): 4,800 rpm from the start of a step into I3 until the exit from it begins. -/
def State.spTarget (s : State) (i : Nat) : Nat :=
  let low := !s.md.exiting && (s.g MD_IDLE_STAT_LEVEL = 3 || (s.g MD_IDLE_STAT_LEVEL = 2 && s.is MD_IDLE_STAT_STEPPING))
  if low then 4800 else s.g (SP_SET_RPM i)

/-- Why R190 does not allow a load now; 0 where it does. -/
def State.loadWhy (s : State) (a : Nat) : Nat :=
  if !s.serving then 1
  else if s.g (SV_CTL_STATE a) ≠ stOn || s.astate a ≠ aUnloaded then 2
  else if !s.is (SP_MODE_REG (a / 2)) || s.spTarget (a / 2) < 5400 || s.spTarget (a / 2) > 7200 then 4
  else 0

/-- The load sequence starts (R190). -/
def State.loadStart (s : State) (a : Nat) : State :=
  ((((s.setAstate a aLoading).off (SV_MODE_LOAD_PENDING a)).off (SV_MODE_OVR_RUN a)).off (SV_MODE_PRED_RUN a)).actUp a (fun x =>
    { x with
      causes := [], limited := false, samRun := 0, loadGranted := false, job := none, overdue := false, since := 0,
      settling := 0, settleGranted := false, settleLateDone := false, holdAt := none, fifo := 0, est := none, coil := 0,
      zv := [], micro := [],
      slots := x.slots.map (fun e => (e.1, { target := e.2.target, hold := e.2.hold, invalidRun := e.2.invalidRun })) })

/-- LOAD (R190, R195). -/
def doLoad (a : Fin 8) (s : State) : State :=
  let n := a.val
  if s.astate n = aUnloading then (s.off (SV_CMD_ERR n)).on (SV_MODE_LOAD_PENDING n)
  else
    let e := s.loadWhy n
    if e = 0 then (s.off (SV_CMD_ERR n)).loadStart n else s.p (SV_CMD_ERR n) e
/-- The row of `doLoad`. -/
def execLoad (a : Fin 8) (s : State) : Host.Outcome State Fault Refusal := .next (doLoad a s)

/-- UNLOAD (R193): SV_CMD.OP = 2, in any mode. -/
def doUnload (a : Fin 8) (s : State) : State :=
  let n := a.val
  if s.astate n = aUnloaded then s.p (SV_CMD_ERR n) 2 else ((s.off (SV_CMD_ERR n)).unloadAct n ucCommand).careFrom s
/-- The row of `doUnload`. -/
def execUnload (a : Fin 8) (s : State) : Host.Outcome State Fault Refusal := .next (doUnload a s)

/-- LOAD_TIMEOUT (R191): granted before the eighth SAM. -/
def execLoadTimeout (a : Fin 8) (s : State) : Host.Outcome State Fault Refusal :=
  .next <|
    let n := a.val
    let run := (s.act n).samRun
    if s.astate n = aLoading && run < 8 then
      let t := (s.fault (SV_STAT_LOAD_FAIL n) (48 + n) 11 0x0404 0).unloadAct n ucLoadFail
      (t.actUp n (fun x => { x with loadGranted := true, samRun := run })).careFrom s
    else s

/-- The ZH8 itself loads the actuator now: it was unloaded with cause SPINDLE, or an idle exit finds it unloaded with cause IDLE,
and R190 allows the load (R198, R648). -/
def State.reloadDue (s : State) (a : Nat) : Bool :=
  let c := s.g (SV_MODE_UNLOAD_CAUSE a)
  let deep := s.g MD_IDLE_STAT_LEVEL ≥ 2 || s.is MD_IDLE_STAT_STEPPING
  ((c == ucSpindle && !deep) || (s.md.exiting && (c == ucSpindle || c == ucIdle))) && s.loadWhy a == 0

/-- The heads are off the disks: what waited for it follows (R195, R198, R217, R227, R231, R235). -/
def State.unloadDone (s : State) (a : Nat) : State :=
  let s := (s.setAstate a aUnloaded).actUp a (fun x =>
    { x with
      pushing := false, slow := 0, coil := 0, limited := false, vcm := 0, micro := [], job := none, overdue := false })
  let s := ((s.off (SV_HEADS_VALID a)).off (SV_MODE_PRED_RUN a)).off (SV_MODE_OVR_RUN a)
  let s := s.spindleFree (a / 2)
  if s.is (SV_MODE_LOAD_PENDING a) then
    let s := s.off (SV_MODE_LOAD_PENDING a)
    if s.loadWhy a = 0 then s.loadStart a else s
  else if s.reloadDue a then s.loadStart a
  else s

/-- UNLOAD_TICK (R190, R193, R194): the velocity of a 5 µs update from the coil voltage in µV, and the current that drives the
arm outward at VEL, or inward at LVEL, within its limit; the push of R194 keeps its own. Outward counts as positive. -/
def execUnloadTick (a : Fin 8) (uv : Int) (s : State) : Host.Outcome State Fault Refusal :=
  .next <|
    let n := a.val
    let load := decide (s.astate n = aLoading)
    if s.astate n ≠ aUnloading && !load then s
    else
      let e := uv - (s.act n).coil * (s.g (SV_BEMF_RCOIL n) : Int)
      let kb := s.g (SV_BEMF_KB n)
      let v := quot (1000 * e) kb
      let want : Int := if load then -4 * (s.g (SV_UNLOAD_LVEL n) : Int) else 4 * (s.g (SV_UNLOAD_VEL n) : Int)
      let low := !load && decide (5 * e.natAbs < s.g (SV_UNLOAD_VEL n) * kb)
      let lim : Nat := s.g (SV_LIM_VCM_ILIM n) / (if (s.act n).limited then 4 else 1)
      s.actUp n (fun x =>
        if x.pushing then { x with vel := v }
        else { x with
          vel := v, coil := clampI (-(lim : Int)) lim (Config.seqCurrent want v x.coil), slow := if low then x.slow + 1 else 0 })

/-- HEADS_PARKED (R193, R194): after 400 slow ticks, 2 ms; after a granted TMO the park is discarded. -/
def execHeadsParked (a : Fin 8) (s : State) : Host.Outcome State Fault Refusal :=
  .next <|
    let n := a.val
    let x := s.act n
    if s.astate n ≠ aUnloading then s
    else if x.pushing then
      if x.parkLate then
        ((s.actUp n (fun x => { x with parkLate := false })).sat (SV_SEQ_LATE_CNT_UNLOAD n) 1).note (SV_STAT_SEQ_LATE n) 0x040C (48 + n) 0
      else s
    else if x.slow ≥ 400 then s.unloadDone n
    else s

/-- UNLOAD_TIMEOUT (R194): TMO is granted; VCM_ILIM / 2 outward. -/
def execUnloadTimeout (a : Fin 8) (s : State) : Host.Outcome State Fault Refusal :=
  .next <|
    let n := a.val
    if s.astate n = aUnloading && !(s.act n).pushing then
      s.actUp n (fun x => { x with pushing := true, parkLate := true, coil := (s.g (SV_LIM_VCM_ILIM n) / 2 : Nat) })
    else s

/-- UNLOAD_PUSH_END (R194): the current is removed, and the heads count as unloaded. -/
def execUnloadPushEnd (a : Fin 8) (s : State) : Host.Outcome State Fault Refusal :=
  .next <|
    let n := a.val
    if s.astate n = aUnloading && (s.act n).pushing then
      (s.actUp n (fun x => { x with parkLate := false })).unloadDone n |>.fault (SV_STAT_UNLOAD_TMO n) (48 + n) 12 0x0408 0
    else s

/-! Lost heads. -/

/-- A slot's head is lost (R176, R196): its micro output falls to 0 and its member is UNAVAILABLE (R256). -/
def State.headLost (s : State) (a n : Nat) : State :=
  let h := s.headAt a n
  let s := (s.onBit (SV_HEADS_LOST a) n).cutWrite a n
  let s := (s.offBit (SV_HEADS_RD_OK a) n).actUp a (fun x => { x with micro := x.micro.drop h })
  let s := s.slotPut a n (fun y => { y with validRun := 0, rdRun := 0, wrRun := 0, rdSettled := false, wrSettled := false })
  (s.fault (SV_STAT_HEAD_LOST a) (48 + a) 5 0x0407 0).memberUnavail (12 * a + h) 1

/-- SV_DRV_FAULT (R196): a micro-actuator driver loses its head; the voice-coil driver unloads the actuator. -/
def execSvDrvFault (a : Fin 8) (head : Option (Fin 12)) (s : State) : Host.Outcome State Fault Refusal :=
  .next <|
    let n := a.val
    let t := s.fault (SV_STAT_DRV_FAULT n) (48 + n) 13 0x040A 0
    let t := match head with
      | none => t.unloadAct n ucDriver
      | some h =>
        let t := t.actUp n (fun x => { x with micro := x.micro.drop h.val })
        match (upTo 4).find? (fun i => t.headAt n i == h.val) with
        | some i => if t.isLost n i then t else t.headLost n i
        | none =>
          if t.lostHead (12 * n + h.val) then t
          else (t.fault (SV_STAT_HEAD_LOST n) (48 + n) 5 0x0407 0).memberUnavail (12 * n + h.val) 1
    t.careFrom s

/-! Accelerometers (R180–R182). -/

def State.accOf (s : State) (i : Nat) : AccState := if i = 0 then s.acc0 else s.acc1
def State.accPut (s : State) (i : Nat) (x : AccState) : State := if i = 0 then { s with acc0 := x } else { s with acc1 := x }

/-- A sensor fails (R182): ACC_FAIL sets in all eight actuators, with one event. -/
def State.accFail (s : State) (i : Nat) : State :=
  if (s.accOf i).failed then s
  else
    let s := (s.accPut i { s.accOf i with failed := true }).on (if i = 0 then (SV_ACC_FAIL0 0) else (SV_ACC_FAIL1 0))
    let (n, s) := s.raiseSeq 0x0409 48 0 true
    State.each (upTo 8) (fun a t => t.faultSeq (SV_STAT_ACC_FAIL a) (48 + a) 14 n) s

/-- ACCEL_SAMPLE (R180, R182): three signed axes of 16 bits over ±16 g (R732). -/
def execAccelSample (sensor : Fin 2) (x y z : BitVec 16) (s : State) : Host.Outcome State Fault Refusal :=
  .next <|
    let i := sensor.val
    let o := s.accOf i
    if o.failed then s
    else
      let same := o.same > 0 && o.x = x.toInt && o.y = y.toInt && o.z = z.toInt
      let n : AccState := { x := x.toInt, y := y.toInt, z := z.toInt, same := if same then o.same + 1 else 1 }
      let m := (n.x * n.x + n.y * n.y + n.z * n.z).natAbs
      let s := s.accPut i n
      let s := State.each (upTo 8) (fun a t => t.actUp a (fun v =>
        if i = 0 then { v with peak0 := max v.peak0 m } else { v with peak1 := max v.peak1 m })) s
      if n.same ≥ 2000 then s.accFail i else s

/-- ACCEL_SILENT (R182). -/
def execAccelSilent (sensor : Fin 2) (s : State) : Host.Outcome State Fault Refusal := .next (s.accFail sensor.val)

/-- A peak in 0.1 g, as a register shows it, from its square in LSB: one LSB is 5 / 1,024 of 0.1 g (R180). -/
def rootOf (m : Nat) : Nat :=
  let r := Nat.sqrt (25 * m)
  if r * r = 25 * m ∧ r % 1024 = 0 then r / 1024 else Config.roundRoot (25 * m)

/-- A peak lies above a limit of `lim` × 0.1 g (R138). -/
def overG (lim m : Nat) : Bool := decide (25 * m > (1024 * lim) * (1024 * lim))

/-- The peaks SV_ACC shows, at a wedge of A0 (R202). -/
def State.accShown (s : State) (a : Nat) : State :=
  let x := s.act a
  if a = 0 then (s.p (SV_ACC_PEAK0 0) (min 511 (rootOf x.peak0))).p (SV_ACC_PEAK1 0) (min 511 (rootOf x.peak1)) else s

/-! Coefficients and the runout tables. -/

/-- COEF_WRITE (R163): RWL; under COEF_HOLD the value in force before is kept for the engine. -/
def State.coefWrite (s : State) (a k v : Nat) : State :=
  if s.is MD_LOCK_LOCK then s
  else
    let old := (s.rd (SV_COEF a k)).toNat
    let s := s.wr (SV_COEF a k) (BitVec.ofNat 32 (v % 2 ^ 30))
    if s.is (SV_CTL_COEF_HOLD a) then
      s.actUp a (fun x => { x with held := if x.held.any (fun y => y.1 == k) then x.held else x.held ++ [(k, old)] })
    else s

def execCoefWrite (a : Fin 8) (k : Fin 64) (v : BitVec 30) (s : State) : Host.Outcome State Fault Refusal :=
  .next (s.coefWrite a.val k.val v.toNat)

/-- The coefficients a computation that begins now uses. -/
def State.coefs (s : State) (a : Nat) : List Nat :=
  (upTo 64).map (fun k => match (s.act a).held.find? (fun y => s.is (SV_CTL_COEF_HOLD a) && y.1 == k) with
    | some y => y.2
    | none => (s.rd (SV_COEF a k)).toNat)

/-- The value of a coefficient (R161). -/
def coefVal (w : Nat) : ℚ := (sgn 24 w : ℚ) * (2 ^ bitsOf w 24 6 : ℚ) / (2 ^ 55 : ℚ)

/-- RUNOUT_CLEAR (R185). -/
def doRunoutClear (a : Fin 8) (s : State) : State :=
  s.actUp a.val (fun x => { x with runout := [] })
/-- The row of `doRunoutClear`. -/
def execRunoutClear (a : Fin 8) (s : State) : Host.Outcome State Fault Refusal := .next (doRunoutClear a s)

/-- RUNOUT_DATA_ACCESS (R185, R202): writes take effect while LEARN is 0; the entry advances. -/
def State.runoutAccess (s : State) (a : Nat) (write : Option Nat) : State :=
  let w := s.g (SV_RC_ADDR_WEDGE a)
  let t := s.g (SV_RC_ADDR_TABLE a)
  let ok := decide (w < 440) && decide (t ≤ 12)
  let s := match write with
    | some v =>
      if ok && !s.is (SV_RC_CTL_LEARN a) then
        s.actUp a (fun x => { x with runout := x.runout.putD (512 * t + w) 0 (sgn 16 v) })
      else s
    | none => { s with rdata := BitVec.ofNat 32 (if ok then unsgn 16 ((s.act a).runout.getD (512 * t + w) 0) else 0) }
  s.p (SV_RC_ADDR_WEDGE a) (if w = 439 then 0 else w + 1)

def execRunoutDataAccess (a : Fin 8) (write : Option (BitVec 16)) (s : State) : Host.Outcome State Fault Refusal :=
  .next (s.runoutAccess a.val (write.map (·.toNat)))

/-- TEST_INJECTION (R199): EN takes effect in MAINT and FOLLOWING alone. The spec gives no phase for the start: a free value. -/
def State.tsiWrite (s : State) (a : Nat) (en : Bool) (point slot amp : Nat) : State :=
  let s := ((s.p (SV_TSI_CTL_POINT a) point).p (SV_TSI_CTL_SLOT a) slot).p (SV_TSI_CTL_AMP a) amp
  if en && s.mode = mMaint && s.astate a = aFollowing then
    if s.is (SV_TSI_CTL_EN a) then s
    else
      let (n, s) := s.free
      ((s.on (SV_TSI_CTL_EN a)).actUp a (fun x => { x with phase := n % 2 ^ 32 })).capTrig a 2
  else s.off (SV_TSI_CTL_EN a)

def execTestInjection (a : Fin 8) (en : Bool) (point slot : Fin 4) (amp : BitVec 16) (s : State) : Host.Outcome State Fault Refusal :=
  .next (s.tsiWrite a.val en point.val slot.val amp.toNat)

/-! Block-floating vectors (R161). -/

/-- A value's mantissa at a shared exponent. -/
def mantAt (e : Nat) (x : ℚ) : Int := ratInt (x * 2 ^ 55 / 2 ^ e)

/-- Every value of a vector has a 24-bit mantissa at a shared exponent. -/
def fitsAt (e : Nat) (l : List ℚ) : Bool := l.all (fun x => decide (-(2 ^ e / 2 ^ 32) ≤ x ∧ x < (2 ^ e / 2 ^ 32 : ℚ)))

/-- A vector renormalised to one shared exponent of 6 bits, the least that holds it (R161), and whether it was clamped because
that exponent would exceed 63 (R164). -/
def renormVec (l : List ℚ) : List ℚ × Bool :=
  let e := ((upTo 64).find? (fun e => fitsAt e l)).getD 63
  (l.map (fun x => (clampI (-8388608) 8388607 (mantAt e x) : ℚ) * 2 ^ e / 2 ^ 55), !fitsAt 63 l)

/-- The estimator's model steps for `n` wedges under one voice-coil output, renormalised after each (R161, R169). -/
def estSteps (co : List Nat) (u : ℚ) : Nat → List ℚ → List ℚ × Bool
  | 0, v => (v, false)
  | n + 1, v =>
    let w := renormVec (Config.estModel (((co.drop 39).take 12).map coefVal) v u)
    let r := estSteps co u n w.1
    (r.1, w.2 || r.2)

/-- The observer gains correct the vector toward a measured position (R162). -/
def estCorrect (co : List Nat) (v : List ℚ) (y : ℚ) : List ℚ × Bool :=
  let d := y - Config.estPos v
  renormVec (List.zipWith (fun x l => x + l * d) v (((co.drop 51).take 4).map coefVal))

/-- The vector predicted for the wedge that is computed: a step for each wedge since the last granted one (R169). -/
def State.estAhead (s : State) (a : Nat) (co : List Nat) : Option (List ℚ × Bool) :=
  let x := s.act a
  x.est.map (estSteps co x.vcm (x.since + 1))

/-! The fast check point (R154). -/

/-- A SAM search (R152): the SAM counts within ±SAM_WIN of the instant predicted from the two intervals before; with fewer than
two, any SAM counts. DESIGN CHOICE 101: a prediction whose search missed stands in for the SAM of that wedge. -/
def samSearch (win : Nat) (l : List Nat) (sam : Option Nat) : Bool × List Nat :=
  match l with
  | t0 :: t1 :: t2 :: _ =>
    let t := t0 + Config.samNext (t0 - t1) (t1 - t2)
    match sam with
    | some x => if x ≤ t + win && t ≤ x + win then (true, [x, t0, t1]) else (false, [t, t0, t1])
    | none => (false, [t, t0, t1])
  | _ => match sam with
    | some x => (true, x :: l)
    | none => (false, [])

/-- The SAMs of a wedge, slot by slot (R152). -/
def State.samWedge (s : State) (a : Nat) (r : WedgeResults) : State :=
  State.each (s.activeSlots a) (fun n t => match r.slots[n]? with
    | some d => t.slotPut a n (fun y =>
        let f := samSearch (t.g (SV_FB_CFG_SAM_WIN a)) y.sams d.sam
        { y with samOk := f.1, sams := f.2 })
    | none => t) s

/-- A slot's results are judged (R151, R153): validity, PES, and the settle counts of R188. `arm` is the reference position the
estimator predicts, in tracks; a head's track lies from it as its target lies from the reference track. DESIGN CHOICE 101:
chevron fraction 0 is the centre of a track, and before the estimator's first vector no track is predicted. -/
def State.servoSlot (s : State) (a n wedge : Nat) (arm : Option Int) (r : SlotDemod) : State :=
  let y := s.slot a n
  let cm := s.g (SV_FB_CFG_CHEV_MIN a)
  let ok0 := decide (r.amp0 ≥ cm)
  let ok1 := decide (r.amp1 ≥ cm)
  let raw0 := 4096 * (r.track : Int) + r.frac0
  let raw1 := 4096 * (r.track : Int) + r.frac1
  let run := if y.samOk then (if y.rawRun > 0 && y.raw0 = raw0 && y.raw1 = raw1 then y.rawRun + 1 else 1) else 0
  let near := match arm with
    | some p => decide (((r.track : Int) - (p + (y.target : Int) - (s.g (SV_POS_TRACK a) : Int))).natAbs ≤ 4)
    | none => true
  let valid := y.samOk && r.parity && r.wedge == wedge && near && (ok0 || ok1) && decide (run < 4)
  let pos2 := if ok0 && ok1 then raw0 + raw1 else if ok0 then 2 * raw0 else 2 * raw1
  let pes := pos2 - 8192 * (y.target : Int)
  let rd := if valid && !absGt pes (32 * s.g (SV_SETTLE_RD_WIN a)) then y.rdRun + 1 else 0
  let wr := if valid && !absGt pes (32 * s.g (SV_SETTLE_WR_WIN a)) then y.wrRun + 1 else 0
  let s := s.slotPut a n (fun y =>
    { y with
      rawRun := run, raw0 := raw0, raw1 := raw1,
      validRun := if valid then y.validRun + 1 else 0, invalidRun := if valid then 0 else y.invalidRun + 1,
      pes := if valid then pes else y.pes, rdRun := rd, wrRun := wr,
      rdSettled := valid && (y.rdSettled || decide (rd ≥ atLeast1 (s.g (SV_SETTLE_RD_CNT a)))),
      wrSettled := valid && (y.wrSettled || decide (wr ≥ atLeast1 (s.g (SV_SETTLE_WR_CNT a)))) })
  if valid then
    (s.onBit (SV_HEADS_VALID a) n).p ⟨SV_PES a, 8 * n, 8⟩ (unsgn 8 (clampI (-127) 127 (quot pes 32)))
  else ((s.offBit (SV_HEADS_VALID a) n).sat (SV_FBL_CNT_COUNT a) 1).on (SV_STAT_FB_LOST a)

/-- Shock hold of a slot (R138), from the squared peaks of the sensors that work: withheld now, and the wedges left. -/
def State.shock (s : State) (a n : Nat) : Bool × State :=
  let lim := s.g (LD_WG_CFG_SHOCK_LIM (4 * a + n))
  let x := s.act a
  let hit := (!s.acc0.failed && overG lim x.peak0) || (!s.acc1.failed && overG lim x.peak1)
  let h := (s.slot a n).hold
  if hit then (true, s.slotPut a n (fun y => { y with hold := s.g (LD_WG_CFG_HOLD (4 * a + n)) }))
  else if h > 0 then (true, s.slotPut a n (fun y => { y with hold := h - 1 }))
  else (false, s)

/-- The permissions of a slot for the coming data interval (R177, R179), and the encroachment check (R140). -/
def State.permit (s : State) (a n : Nat) : State :=
  let c := 4 * a + n
  let h := s.headAt a n
  let (held, s) := s.shock a n
  let y := s.slot a n
  let st := s.astate a
  let valid := s.bit (SV_HEADS_VALID a) n
  let s := if valid && (s.ch c).wrGate && absGt y.pes (32 * s.g (LD_WG_CFG_ENC_LIM c)) then
      (s.on (LD_STAT_ENCROACH c)).slotPut a n (fun z => { z with enc := z.enc ++ [s.g (SV_POS_WEDGE a)] }) else s
  let rd := h ≠ 0xF && (st = aSettling || st = aFollowing) && y.rdSettled && valid && !s.isLost a n
  let wr := h ≠ 0xF && st = aFollowing && y.wrSettled && valid && !s.isLost a n && !absGt y.pes (32 * s.g (LD_WG_CFG_PES_LIM c)) &&
    !held && s.headOfs a h = 0 && s.serving && !s.injecting a
  let s := if rd then s.onBit (SV_HEADS_RD_OK a) n else s.offBit (SV_HEADS_RD_OK a) n
  if wr then s.onBit (SV_HEADS_WR_OK a) n else s.cutWrite a n

/-- The feed-forward term (R181, R182), from axes in 0.1 g. -/
def State.ffTerm (s : State) (a : Nat) (co : List Nat) : ℚ :=
  if !s.is (SV_CTL_FF_EN a) then 0
  else
    let k (i : Nat) : ℚ := coefVal (co.getD i 0)
    let part (x : AccState) (b : Nat) : ℚ := if x.failed then 0 else k b * (x.x : ℚ) + k (b + 1) * (x.y : ℚ) + k (b + 2) * (x.z : ℚ)
    (part s.acc0 33 + part s.acc1 36) * 5 / 1024

/-- The actuator reached FOLLOWING: causes of an unload clear for its members (R198, R257, R743). -/
def State.following (s : State) (a : Nat) : State :=
  let s := (s.setAstate a aFollowing).arU (fun r => { r with followed := setBit r.followed a })
  State.each (membersOf a) (fun m t => t.memberClear m 0) s

/-- The slots whose heads stand in the mean of R155: the valid ones that are not lost. DESIGN CHOICE 101: a lost head, which only
rejoins after 8 valid wedges (R176), stands in it while no other head is valid. -/
def State.meanSlots (s : State) (a : Nat) : List Nat :=
  let v := (s.activeSlots a).filter (fun n => s.bit (SV_HEADS_VALID a) n)
  let g := v.filter (fun n => !s.isLost a n)
  if g.isEmpty then v else g

/-- What the validity of the heads does to the actuator (R172–R176, R188, R189). -/
def State.feedback (s : State) (a : Nat) : State :=
  let act := s.activeSlots a
  let s := if act.any (fun n => !s.bit (SV_HEADS_VALID a) n) then (s.off (SV_TSI_CTL_EN a)).capTrig a 3 else s
  if (s.meanSlots a).isEmpty then
    let s := State.each act (fun n t => t.slotPut a n (fun y => { y with invalidRun := 0 })) s
    if s.astate a = aPredicting then
      if s.g (SV_MODE_PRED_RUN a) ≥ s.predMax a then
        (s.fault (SV_STAT_FB_UNLOAD a) (48 + a) 10 0x0404 0).unloadAct a ucFeedback
      else s.inc (SV_MODE_PRED_RUN a)
    else ((s.setAstate a aPredicting).p (SV_MODE_PRED_RUN a) 1).note (SV_STAT_PREDICT a) 0x0403 (48 + a) 0
  else
    let s := State.each act (fun n t =>
      if t.isLost a n then
        if (t.slot a n).validRun ≥ 8 then
          ((t.offBit (SV_HEADS_LOST a) n).slotPut a n (fun y => { y with rdRun := 0, wrRun := 0, rdSettled := false, wrSettled := false })).memberClear
            (12 * a + t.headAt a n) 1
        else t.slotPut a n (fun y => { y with rdRun := 0, wrRun := 0, rdSettled := false, wrSettled := false })
      else if (t.slot a n).invalidRun > t.predMax a then t.headLost a n
      else t) s
    let s := if s.astate a = aPredicting then
        ((s.setAstate a aSettling).off (SV_MODE_PRED_RUN a)).actUp a (fun x => { x with settling := 0 }) else s
    if s.astate a = aSettling then
      let s := s.actUp a (fun x => { x with settling := x.settling + 1 })
      if (act.filter (fun n => !s.isLost a n)).all (fun n => (s.slot a n).wrSettled) then
        if (s.act a).settleGranted then
          if (s.act a).settleLateDone then s
          else ((s.actUp a (fun x => { x with settleLateDone := true })).sat (SV_SEQ_LATE_CNT_SETTLE a) 1).note
            (SV_STAT_SEQ_LATE a) 0x040C (48 + a) 0
        else s.following a
      else s
    else s

/-- A wedge with the loops closed. One that finds the crossing FIFO full never reaches the engine (R35): its deadline is granted
(R167). -/
def State.wedge (s : State) (a : Nat) (r : WedgeResults) : State :=
  let x := s.act a
  -- R170: the wedge still being computed is abandoned.
  let s := if x.job.isSome && !x.overdue then s.overrun a else s
  let s := s.actUp a (fun x => { x with job := none, overdue := false })
  if s.astate a = aUnloading then s
  else
    let w := (s.g (SV_POS_WEDGE a) + 1) % 440
    let s := s.p (SV_POS_WEDGE a) w
    let s := match (s.act a).seekWait with
      | some ts => if s.gatesLow a then s.seekNow a ts else s
      | none => s
    let co := s.coefs a
    let s := s.samWedge a r
    let arm := (s.estAhead a co).map (fun v => ratInt (Config.estPos v.1))
    let s := State.each (s.activeSlots a) (fun n t => match r.slots[n]? with
      | some d => t.servoSlot a n w arm d
      | none => t) s
    let s := s.feedback a
    if s.astate a = aUnloading then s
    else
      let s := (State.each (upTo 4) (fun n t => t.permit a n) s).accShown a
      let x := s.act a
      let full := decide (x.fifo - r.taken ≥ 2)
      let job : WedgeJob :=
        { wedge := w, valid := (s.meanSlots a).foldl (fun m n => m + 2 ^ n) 0, coef := co, ff := s.ffTerm a co,
          peak := rootOf x.peak0, dropped := full }
      s.actUp a (fun x =>
        { x with
          peak0 := 0, peak1 := 0, job := some job, overdue := false, fifo := x.fifo - r.taken + (if full then 0 else 1),
          held := if s.is (SV_CTL_COEF_HOLD a) then x.held else [] })

/-- The SAM found first among the active slots of a wedge. -/
def State.samFirst (s : State) (a : Nat) (r : WedgeResults) : Option SlotDemod :=
  ((s.activeSlots a).filterMap (fun i => (r.slots[i]?).filter (fun _ => (s.slot a i).samOk))).head?

/-- WEDGE_FAST_CHECK (R153, R154, R170–R179, R190): during a load the SAMs are counted; eight close the loops at the next
wedge; after a granted LOAD_TMO the eighth is discarded (R191). -/
def execWedgeFastCheck (a : Fin 8) (r : WedgeResults) (s : State) : Host.Outcome State Fault Refusal :=
  .next <|
    let n := a.val
    let st := s.astate n
    let x := s.act n
    if st = aUnloaded || s.is PW_CHAIN_GAP then s
    else if st = aUnloading then
      let s := s.samWedge n r
      if !x.loadGranted then s
      else if (s.samFirst n r).isNone then s.actUp n (fun x => { x with samRun := 0 })
      else if x.samRun + 1 ≥ 8 then
        ((s.actUp n (fun x => { x with samRun := 0, loadGranted := false })).sat (SV_SEQ_LATE_CNT_LOAD n) 1).note
          (SV_STAT_SEQ_LATE n) 0x040C (48 + n) 0
      else s.actUp n (fun x => { x with samRun := x.samRun + 1 })
    else if st = aLoading then
      if x.samRun ≥ 8 then (((s.setAstate n aSeeking).actUp n (fun x => { x with coil := 0 })).wedge n r).careFrom s
      else
        let s := s.samWedge n r
        let found := s.samFirst n r
        let s := match found with
          | some d => s.p (SV_POS_WEDGE n) d.wedge
          | none => s.p (SV_POS_WEDGE n) ((s.g (SV_POS_WEDGE n) + 1) % 440)
        (s.accShown n).actUp n (fun x => { x with samRun := if found.isNone then 0 else x.samRun + 1, peak0 := 0, peak1 := 0 })
    else (s.wedge n r).careFrom s

/-! The output set (R155, R166). -/

/-- One filter section (R162): its output, its new states renormalised (R161), and whether they were clamped (R164). -/
def biquad (b0 b1 b2 a1 a2 s1 s2 x : ℚ) : ℚ × List ℚ × Bool :=
  let y := b0 * x + s1
  (y, renormVec [b1 * x - a1 * y + s2, b2 * x - a2 * y])

/-- A cascade of sections from coefficient `k`, over its states. -/
def cascade (co : List Nat) : Nat → Nat → List ℚ → ℚ → ℚ × List ℚ × Bool
  | 0, _, _, x => (x, [], false)
  | n + 1, k, z, x =>
    let c (i : Nat) : ℚ := coefVal (co.getD (k + i) 0)
    let (y, w, f) := biquad (c 0) (c 1) (c 2) (c 3) (c 4) (z.getD 0 0) (z.getD 1 0) x
    let (o, rest, g) := cascade co n (k + 5) (z.drop 2) y
    (o, w ++ rest, f || g)

/-- An output within its limit, and whether it was clamped (R164). -/
def clampOut (lim : Nat) (v : Int) : Int × Bool := (clampI (-(lim : Int)) lim v, absGt v lim)

/-- A runout entry after an update (R184). DESIGN CHOICE 101: e counts in tracks. -/
def runoutNext (t : Int) (forget gain : Nat) (e : ℚ) : Int × Bool :=
  let leak : ℚ := if forget = 0 then 1 else 1 - 1 / (2 ^ forget : ℚ)
  clampOut 32767 (ratInt ((t : ℚ) * leak + e / (2 ^ gain : ℚ)))

/-- sin(2π φ), φ in 2^−32 cycle (R199). -/
def sineOf (phase : Nat) : ℚ :=
  let r := phase % 2 ^ 30
  let up : ℚ := if r = 0 then 0 else Config.sine r
  let down : ℚ := if r = 0 then 1 else Config.sine (2 ^ 30 - r)
  match phase / 2 ^ 30 % 4 with
  | 0 => up
  | 1 => down
  | 2 => -up
  | _ => -down

/-- The injected value (R199), in the unit of its point. -/
def State.inject (s : State) (a : Nat) : ℚ :=
  if s.injecting a then (sgn 16 (s.g (SV_TSI_CTL_AMP a)) : ℚ) * sineOf (s.act a).phase else 0

/-- What the micro loop of a slot gives: its output, its filter states, its error e_h in tracks, and whether the output and the
states were clamped. -/
structure MicroStep where
  out : Int
  z : List ℚ
  err : ℚ
  outSat : Bool
  zSat : Bool

/-- The micro output of a slot (R155, R158, R159, R164, R186). -/
def State.microOut (s : State) (a n : Nat) (j : WedgeJob) (inj : ℚ) : MicroStep :=
  let h := s.headAt a n
  let y := s.slot a n
  let lim := s.g (SV_LIM_MA_VLIM a)
  let kma := coefVal (j.coef.getD 21 0)
  let hofs : Int := ratInt ((sgn 16 (s.g (SV_HOFS_OFS a h)) : ℚ) / 256 / kma)
  let e : ℚ := (y.pes : ℚ) / 8192 - (s.headOfs a h : ℚ) / 256
  let at_ (p : Nat) : ℚ := if s.g (SV_TSI_CTL_POINT a) = p && s.g (SV_TSI_CTL_SLOT a) = n then inj else 0
  if !s.is (SV_CTL_MA_EN a) || s.isLost a n then ⟨0, y.z, e, false, false⟩
  else if y.fresh || s.astate a = aSeeking then let (o, c) := clampOut lim hofs; ⟨o, y.z, e, c, false⟩
  else if bitOf j.valid n = 0 then ⟨(s.act a).micro.getD h 0, y.z, e, false, false⟩
  else
    let (v, z, f) := cascade j.coef 2 22 y.z (e + at_ 3 / 256)
    let rc : Int := if s.is (SV_RC_CTL_APPLY a) then
      (s.act a).runout.getD (512 * (h + 1) + (j.wedge + s.g (SV_RC_CTL_LEAD a)) % 440) 0 else 0
    let (o, c) := clampOut lim (ratInt (v * coefVal (j.coef.getD 32 0) + at_ 2) + rc)
    ⟨o, z, e, c, f⟩

/-- The voice-coil error e_v (R155), in tracks. -/
def State.evOf (s : State) (a : Nat) (j : WedgeJob) : ℚ :=
  let l := (upTo 4).filter (fun n => bitOf j.valid n = 1)
  let kma := coefVal (j.coef.getD 21 0)
  let term (n : Nat) : ℚ :=
    let h := s.headAt a n
    (((s.slot a n).pes : ℚ) / 8192 - (s.headOfs a h : ℚ) / 256) +
      (if s.is (SV_CTL_MA_EN a) then kma * ((s.act a).micro.getD h 0 : ℚ) else 0)
  if l.isEmpty then 0 else (l.map term).sum / (l.length : ℚ)

/-- The estimator's vector after the wedge (R160, R169): predicted, and corrected where some head is valid. The measured
reference position is the reference track plus e_v. -/
def State.estNext (s : State) (a : Nat) (j : WedgeJob) (ev : ℚ) : Option (List ℚ × Bool) :=
  let y : ℚ := (s.g (SV_POS_TRACK a) : ℚ) + ev
  match s.estAhead a j.coef with
  | some p =>
    if j.valid = 0 then some p
    else
      let w := estCorrect j.coef p.1 y
      some (w.1, p.2 || w.2)
  | none => if j.valid = 0 then none else some (renormVec (Config.estInit y))

/-- The demand of the seek trajectory (R186): within IMAX / 256 of VCM_ILIM, and none that would speed the arm up at VMAX. -/
def State.seekDemand (s : State) (a : Nat) (pos vel : ℚ) : Int :=
  let acc : Nat := s.g (SV_LIM_VCM_ILIM a) * s.g (SV_SEEK_CFG_IMAX a) / 256
  let vmax := s.g (SV_SEEK_CFG_VMAX a)
  let d := clampI (-(acc : Int)) acc (Config.seekDemand pos vel (s.g (SV_POS_TRACK a)) acc vmax)
  if (vel ≥ (vmax : ℚ) ∧ d > 0) ∨ (vel ≤ -(vmax : ℚ) ∧ d < 0) then 0 else d

/-- A seek has arrived (R188): the estimated reference position lies within one track, and the velocity below 1/64. -/
def State.arrived (s : State) (a : Nat) (v : List ℚ) : Bool :=
  let d := Config.estPos v - (s.g (SV_POS_TRACK a) : ℚ)
  let u := Config.estVel v
  decide (-1 ≤ d ∧ d ≤ 1) && decide (-1 / 64 < u ∧ u < 1 / 64)

/-- Sticky saturation bits of a wedge (R164): the mask is that of SV_SAT. -/
def State.satBits (s : State) (a mask : Nat) : State :=
  if mask = 0 then s
  else
    let s := s.wr (SV_SAT a) (s.rd (SV_SAT a) ||| BitVec.ofNat 32 mask)
    if s.is (SV_STAT_SAT a) then s else s.note (SV_STAT_SAT a) 0x0405 (48 + a) 0

/-- A granted output set is applied and the engine commits (R155, R164, R166, R169, R173, R177, R184, R186, R188, R189).
DESIGN CHOICE 101: an output LSB is 1 mA of the voice coil and 0.25 V of a micro-actuator (R164); the voice-coil filter states
stand still in SEEKING and follow the predicted position in PREDICTING (R155); the feed-forward term is clamped to VCM_ILIM. -/
def State.output (s : State) (a : Nat) (j : WedgeJob) (t5 : Nat) : State :=
  let x := s.act a
  let inj := s.inject a
  let point := s.g (SV_TSI_CTL_POINT a)
  let st := s.astate a
  let ref : ℚ := (s.g (SV_POS_TRACK a) : ℚ)
  let ev := s.evOf a j
  let est := s.estNext a j ev
  let pos := ((est.map (fun v => Config.estPos v.1)).getD ref)
  let vel := ((est.map (fun v => Config.estVel v.1)).getD 0)
  let hold : ℚ := match x.holdAt with
    | some h => ref - h
    | none => 0
  let (ctl, zv, zf) := cascade j.coef 4 0 x.zv ((if st = aPredicting then pos - ref else ev) + hold + (if point = 1 then inj / 256 else 0))
  let ilim := s.g (SV_LIM_VCM_ILIM a)
  let base : Int := if st = aSeeking then s.seekDemand a pos vel
    else ratInt (ctl * coefVal (j.coef.getD 20 0) + (if point = 0 then inj else 0))
  let rcv : Int := if s.is (SV_RC_CTL_APPLY a) then x.runout.getD ((j.wedge + s.g (SV_RC_CTL_LEAD a)) % 440) 0 else 0
  let (ff, fc) := clampOut ilim (ratInt j.ff)
  let (vcm, vc) := clampOut ilim (base + rcv + ff)
  let ms := (s.activeSlots a).map (fun n => (n, s.headAt a n, s.microOut a n j inj))
  let learn := s.is (SV_RC_CTL_LEARN a) && st = aFollowing && !s.injecting a
  let gain := s.g (SV_RC_CTL_GAIN a)
  let forget := s.g (SV_RC_CTL_FORGET a)
  let upd : List (Nat × ℚ) := if learn then
      (if j.valid = 0 then [] else [(j.wedge, ev)]) ++
        (ms.filter (fun m => bitOf j.valid m.1 = 1)).map (fun m => (512 * (m.2.1 + 1) + j.wedge, m.2.2.err))
    else []
  let news := upd.map (fun u => (u.1, runoutNext (x.runout.getD u.1 0) forget gain u.2))
  let slotBits (f : MicroStep → Bool) : Nat := ms.foldl (fun b m => if f m.2.2 then setBit b m.1 else b) 0
  let mask := pk [(b2n vc, 1), (b2n ((st ≠ aSeeking && zf) || (est.map (·.2)).getD false), 1),
    (slotBits (·.outSat), 4), (slotBits (·.zSat), 4), (b2n (news.any (fun u => u.2.2)), 1), (b2n fc, 1)]
  let s := s.actUp a (fun x =>
    { x with
      job := none, overdue := false, since := 0, vcm := vcm, zv := if st = aSeeking then x.zv else zv,
      micro := ms.foldl (fun t m => t.putD m.2.1 0 m.2.2.out) [],
      runout := news.foldl (fun t u => t.putD u.1 0 u.2.1) x.runout, est := est.map (·.1),
      phase := if s.injecting a then (x.phase + (s.rd (SV_TSI_FREQ a)).toNat) % 2 ^ 32 else x.phase })
  let s := State.each ms (fun m t => t.slotPut a m.1 (fun y => { y with z := m.2.2.z, fresh := false })) s
  let s := (s.satBits a mask).off (SV_MODE_OVR_RUN a)
  let s := if mask ≠ 0 && s.g (SV_HEADS_WR_OK a) ≠ 0 then
      (State.each (upTo 4) (fun n t => t.cutWrite a n) s).on (SV_STAT_WR_WITHDRAWN a) else s
  let s := (s.p (SV_TIMING_LAST a) t5).p (SV_TIMING_MAX a) (max (s.g (SV_TIMING_MAX a)) t5)
  let s := if st = aSeeking && (est.map (fun v => s.arrived a v.1)).getD false then
      (s.setAstate a aSettling).actUp a (fun x => { x with settling := 0, settleGranted := false, settleLateDone := false }) else s
  let pes (n : Nat) : Int := quot (s.slot a n).pes 32
  let mo (n : Nat) : Int := ((ms.find? (fun m => m.1 == n)).map (fun m => m.2.2.out)).getD 0
  let sig : List Int := [ratInt (256 * ev), pes 0, pes 1, pes 2, pes 3, vcm, mo 0, mo 1, mo 2, mo 3, ratInt inj, rcv, ff,
    (j.peak : Int), (t5 : Int), 0]
  let pick (k : Nat) : Nat := unsgn 16 (sig.getD k 0)
  s.capture a (pk [(pick (s.g (SV_CAP_CTL_SEL0 a)), 16), (pick (s.g (SV_CAP_CTL_SEL1 a)), 16)])

/-- WEDGE_OUTPUT_ARRIVAL (R166, R168): granted against the deadline, or late and discarded; `t5` is the step 5 time of R165 in
ns after wedge centre. Of a wedge that never reached the engine nothing arrives (R35). -/
def execWedgeOutputArrival (a : Fin 8) (t5 : BitVec 14) (s : State) : Host.Outcome State Fault Refusal :=
  .next <|
    let n := a.val
    match (s.act n).job with
    | none => s
    | some j =>
      if j.dropped then s
      else if (s.act n).overdue then
        let s := s.actUp n (fun x => { x with job := none, overdue := false })
        (s.sat (SV_LATE_CNT_COUNT n) 1).note (SV_STAT_LATE n) 0x0402 (48 + n) 0
      else s.output n j t5.toNat

end Sys2Proof.Machine
end

