-- ==== Sys2Proof/Machine/Spindle.lean ====
section
/-! DEFINITION. Machine/Spindle.lean: the commutation engines, observers, brake choppers and spin-up of the four spindles
(R203–R236), and the meanings of their commands. Speeds are in 1/8 rpm, windows in 0.01 %. -/

namespace Sys2Proof.Machine

open Reg

/-! Phases. -/

/-- The bridge drives the motor under the commutation engine: START, ACCEL, RUN or DECEL (R213). -/
def State.driven (s : State) (i : Nat) : Bool := decide (phStart ≤ s.phase i) && decide (s.phase i ≤ phDecel)

/-- The speed is within a window, in 0.01 %, of the spindle's speed target (R215, R216). -/
def State.within (s : State) (i meas win : Nat) : Bool :=
  let t := 8 * s.spTarget i
  decide (((meas : Int) - (t : Int)).natAbs * 10000 ≤ win * t)

/-- The depth limits in force (R236). -/
def State.depthMax (s : State) (i : Nat) : Nat := min 0x17C (s.g (SP_PWM_CFG_DEPTH_MAX i))
def State.depthFloor (s : State) (i : Nat) : Nat := min (s.depthMax i) (s.g (SP_PWM_CFG_DEPTH_FLOOR i))

/-- COAST: the bridge is off, and the re-acquisition timer runs (R228). -/
def State.coast (s : State) (i : Nat) : State :=
  (s.goPhase i phCoast).spUp i (fun x => { x with acq := .armed, xings := [], innRun := 0, lateRun := 0, pwm := .idle, foc := {} })

/-- Observer loss (R228). -/
def State.observerLoss (s : State) (i : Nat) : State :=
  if s.driven i then
    ((s.coast i).sat (SP_LOSS_CNT_LOST i) 1).note (SP_STAT_OBS_LOST i) 0x0501 (56 + i) 0
  else s

/-- A failed re-acquisition (R231). Crossings go on being timed, for a success that comes late (R232). -/
def State.reacqFail (s : State) (i : Nat) (acq : Race) : State :=
  let xs := (s.sp i).xings
  let s := (s.goPhase i phCoast).spUp i (fun x => { x with shortAfter := true })
  let s := s.fault (SP_STAT_REACQ_FAIL i) (56 + i) 1 0x0502 0
  let s := State.each (membersOf (2 * i) ++ membersOf (2 * i + 1)) (fun m t => t.memberUnavail m 0) s
  let s := (s.unloadAct (2 * i) ucSpindle).unloadAct (2 * i + 1) ucSpindle
  s.spindleFree i |>.spUp i (fun x => { x with acq := acq, xings := xs })

/-- An overcurrent (R206): an observer loss, or within 1 s of another a failed re-acquisition. A spindle in SHORT is shorted again
once its rotor is found; one that was forcibly shorted stays as it is (R226). -/
def State.overcurrent (s : State) (i : Nat) : State :=
  let again := match (s.sp i).ocAt with
    | some t => decide (s.now - t ≤ 1000000000)
    | none => false
  let s := (s.fault (SP_STAT_OC i) (56 + i) 7 0x0508 0).spUp i (fun x => { x with ocAt := some s.now })
  let short := decide (s.phase i = phShort)
  if short && (s.sp i).stuck then s
  else if again && (short || s.turning i || s.phase i = phRectify) then s.reacqFail i .idle
  else if s.driven i || short || s.phase i = phRectify then
    (((s.coast i).spUp i (fun x => { x with shortAfter := short })).sat (SP_LOSS_CNT_LOST i) 1).note (SP_STAT_OBS_LOST i) 0x0501 (56 + i) 0
  else s

/-! PWM periods (R204–R212). -/

/-- The sample of a period (R208–R212): measured where its quiet window is long enough, else predicted. -/
def State.pwmSample (s : State) (i ia ib quiet : Nat) : State :=
  let lim := s.g (SP_MODE_DEPTH_LIM i)
  let floor := s.depthFloor i
  if quiet ≥ s.g (SP_PWM_CFG_TMIN i) then
    let n := (s.sp i).measRun + 1
    let s := ((s.p (SP_CURR_IA i) ia).p (SP_CURR_IB i) ib).off (SP_MODE_PRED_RUN i)
    let s := s.spUp i (fun x => { x with measRun := n % 64, floorRun := 0 })
    if n = 64 then s.p (SP_MODE_DEPTH_LIM i) (max lim (min (s.depthMax i) (lim + 1))) else s
  else
    let s := s.sat (SP_MODE_PRED_RUN i) 1
    let s := s.spUp i (fun x => { x with measRun := 0 })
    if lim ≤ floor then
      let n := (s.sp i).floorRun + 1
      let s := s.spUp i (fun x => { x with floorRun := n })
      if n ≥ 16 then
        ((s.spUp i (fun x => { x with floorRun := 0 })).fault (SP_STAT_SAMPLE_FAIL i) (56 + i) 6 0x0507 0).observerLoss i
      else s
    else if s.g (SP_MODE_PRED_RUN i) ≥ 3 then
      let low := max floor (lim - atLeast1 (s.g (SP_PWM_CFG_STEP i)))
      let s := (s.p (SP_MODE_DEPTH_LIM i) low).spUp i (fun x => { x with duty := x.duty.map (min low) })
      if s.is (SP_STAT_DEPTH_TIGHT i) then s else s.note (SP_STAT_DEPTH_TIGHT i) 0x0506 (56 + i) 0
    else s

/-- The innovation of a period against LOSS_TH (R228). -/
def State.innovation (s : State) (i innov : Nat) : State :=
  if innov > s.g (SP_OBS_CFG_LOSS_TH i) then
    let n := (s.sp i).innRun + 1
    let s := s.spUp i (fun x => { x with innRun := n })
    if n ≥ atLeast1 (s.g (SP_OBS_CFG_LOSS_CNT i)) then s.observerLoss i else s
  else s.spUp i (fun x => { x with innRun := 0 })

/-- A phase current reaches SP_LIM.ILIM (R206, R236). -/
def State.overIlim (s : State) (i : Nat) (ia ib : Int) : Bool :=
  let lim := 100 * min 0xC8 (s.g (SP_LIM_ILIM i))
  decide (lim ≤ ia.natAbs) || decide (lim ≤ ib.natAbs) || decide (lim ≤ (ia + ib).natAbs)

/-- The braking current in force (R222, R236): at most IDEC, and smaller period by period while the bus is above VBUS_REG. -/
def State.brake (s : State) (i : Nat) : Nat :=
  let lim := 100 * s.g (SP_BRAKE_CFG_IDEC i)
  let reg := min 0x55A (s.g (SP_BRAKE_CFG_VBUS_REG i))
  let v := s.g (SP_BUS_VBUS i)
  let was := (s.sp i).foc.brk
  if v > reg then min lim (min (was - 1) (Config.brakeTrim (v - reg) was)) else lim

/-- The speed regulator (R204, R222, R229, R236): its integral and the q-axis reference in mA, within ±IACC; in DECEL negative and
within the braking current; for 2 ms after a re-acquisition on its ramp. DESIGN CHOICE 103: it runs once a period, in mA per 1/8
rpm. -/
def State.regulator (s : State) (i : Nat) : Int × Int :=
  let f := (s.sp i).foc
  let acc : Int := 100 * s.g (SP_LIM_IACC i)
  let stop := s.phase i = phDecel && !(s.sp i).toSpeed
  let e : Int := (if stop then 0 else 8 * (s.spTarget i : Int)) - s.g (SP_SPEED_MEAS i)
  let w := clampI (-acc) acc (f.intW + quot e (2 ^ s.g (SP_REG_CFG_KI i)))
  let q := clampI (-acc) acc (quot e (2 ^ s.g (SP_REG_CFG_KP i)) + w)
  let q := if s.phase i = phDecel then clampI (-(s.brake i : Int)) 0 q else q
  match f.ramp with
  | some t => (w, if s.now - t < 2000000 then quot (q * (s.now - t : Nat)) 2000000 else q)
  | none => (w, q)

/-- A period of field-oriented control (R204): rotor axes, the PI loops of d and q, the duty set of the next period, and what
the observer expects of it (R209). In START the aligned ramp stands on the d axis (R219). -/
def State.focStep (s : State) (i : Nat) (ia ib : Int) : State :=
  let x := s.sp i
  let f := x.foc
  let start := decide (s.phase i = phStart)
  let dq := Config.rotor f.angle ia ib (-(ia + ib))
  let (w, q) := if start then (0, 0) else s.regulator i
  let d : Int := if start && x.step = .ramp then 100 * s.g (SP_LIM_IACC i) else 0
  let vd := Config.currentPi ((d : ℚ) - dq.1) f.intD
  let vq := Config.currentPi ((q : ℚ) - dq.2) f.intQ
  let duty := Config.svpwm f.angle vd.1 vq.1
  let o := Config.observe (s.rd (SP_MOTOR i)) f.angle (s.g (SP_SPEED_MEAS i)) ia ib x.duty
  s.spUp i (fun x => { x with foc :=
    { angle := o.1, ia := ia, ib := ib, predA := o.2.1, predB := o.2.2, d := dq.1, q := dq.2, intD := vd.2, intQ := vq.2, intW := w,
      qRef := q, brk := s.brake i, next := [duty.1, duty.2.1, duty.2.2], ramp := f.ramp } })

/-- PWM_PERIOD (R204, R206, R209): the currents, measured or predicted; ILIM; the control; and the innovation once the observer is
locked. Between two attempts of a start the bridge is off (R219). -/
def execPwmPeriod (sp : Fin 4) (ia ib : BitVec 16) (quiet innov : Nat) (s : State) : Host.Outcome State Fault Refusal :=
  .next <|
    let i := sp.val
    if !s.driven i || s.timersHeld || (s.sp i).step = .pause then s
    else
      let f := (s.sp i).foc
      let good := decide (quiet ≥ s.g (SP_PWM_CFG_TMIN i))
      let t := (s.spUp i (fun x => { x with pwm := .armed })).pwmSample i ia.toNat ib.toNat quiet
      let t :=
        if !t.driven i then t
        else if good && t.overIlim i ia.toInt ib.toInt then t.overcurrent i
        else
          let t := t.focStep i (if good then ia.toInt else f.predA) (if good then ib.toInt else f.predB)
          if t.phase i = phAccel || t.phase i = phRun || t.phase i = phDecel then t.innovation i innov else t
      t.careFrom s

/-- DUTY_SET_ARRIVAL (R204, R205, R208): the set the control made; granted, it is applied within DEPTH_LIM; late, it is discarded. -/
def execDutySetArrival (sp : Fin 4) (s : State) : Host.Outcome State Fault Refusal :=
  .next <|
    let i := sp.val
    match (s.sp i).pwm with
    | .armed =>
      let lim := s.g (SP_MODE_DEPTH_LIM i)
      s.spUp i (fun x => { x with duty := x.foc.next.map (min lim), pwm := .idle, lateRun := 0 })
    | .granted =>
      ((s.spUp i (fun x => { x with pwm := .idle })).sat (SP_LATE_CNT_PWM i) 1).note (SP_STAT_PWM_LATE i) 0x050B (56 + i) 0
    | .idle => s

/-- PWM_DEADLINE (R205): granted, the previous duty set is repeated; eight late periods in a row are an observer loss. -/
def execPwmDeadline (sp : Fin 4) (s : State) : Host.Outcome State Fault Refusal :=
  .next <|
    let i := sp.val
    if (s.sp i).pwm ≠ .armed || s.timersHeld then s
    else
      let n := (s.sp i).lateRun + 1
      let s := s.spUp i (fun x => { x with lateRun := n })
      let s := if n ≥ 8 then s.observerLoss i else s
      s.spUp i (fun x => { x with pwm := .granted })

/-- MP_OVERCURRENT (R206): a phase current has reached 20 A. -/
def execMpOvercurrent (sp : Fin 4) (s : State) : Host.Outcome State Fault Refusal :=
  .next (if s.phase sp.val < phStart then s else (s.overcurrent sp.val).careFrom s)

/-! Commands (R214). -/

/-- The speed target has changed: REG clears, and a spindle in RUN accelerates or decelerates to it (R214, R215, R642). -/
def State.retarget (s : State) (i : Nat) : State :=
  let s := (s.off (SP_MODE_REG i)).spUp i (fun x => { x with revs := 0 })
  let ph := s.phase i
  if ph = phRun || ph = phAccel || (ph = phDecel && (s.sp i).toSpeed) then
    if s.g (SP_SPEED_MEAS i) > 8 * s.spTarget i then (s.goPhase i phDecel).spUp i (fun x => { x with toSpeed := true })
    else (s.goPhase i phAccel).spUp i (fun x => { x with toSpeed := false })
  else s

/-- Spin-up is accepted from STOPPED (R218, R219). -/
def State.spinUp (s : State) (i : Nat) : State :=
  let s := (s.goPhase i phWait).off (SP_MODE_START_TRY i)
  let s := s.spUp i (fun x => { x with step := .none, spinup := .idle, ocAt := none })
  { s with spWait := s.spWait.filter (· ≠ i) ++ [i] }

/-- SPIN (R214): ERR codes in the order of the table's conditions. -/
def doSpin (sp : Fin 4) (s : State) : State :=
  let i := sp.val
  let rpm := s.g (SP_SET_RPM i)
  let ph := s.phase i
  if s.g (SP_CTL_STATE i) ≠ stOn then s.p (SP_CMD_ERR i) 1
  else if !s.serving then s.p (SP_CMD_ERR i) 7
  else if !(rpm = 4800 || (5400 ≤ rpm && rpm ≤ 7200)) then s.p (SP_CMD_ERR i) 3
  else if ph = phStopped then (s.off (SP_CMD_ERR i)).spinUp i
  else if ph ≠ phRun then s.p (SP_CMD_ERR i) 6
  else if !s.bothUnloaded i then s.p (SP_CMD_ERR i) 2
  else (s.off (SP_CMD_ERR i)).retarget i
/-- The row of `doSpin`. -/
def execSpin (sp : Fin 4) (s : State) : Host.Outcome State Fault Refusal := .next (doSpin sp s)

/-- STOP (R214, R225). -/
def doStop (sp : Fin 4) (s : State) : State :=
  let i := sp.val
  let ph := s.phase i
  if s.g (SP_CTL_STATE i) ≠ stOn then s.p (SP_CMD_ERR i) 1
  else if !s.bothUnloaded i then s.p (SP_CMD_ERR i) 2
  else if ph = phWait || ph = phAccel || ph = phRun then
    (s.p (SP_CMD_ERR i) (if ph ≠ phWait && s.anyChop then 4 else 0)).stopSpindle i
  else s.p (SP_CMD_ERR i) 6
/-- The row of `doStop`. -/
def execStop (sp : Fin 4) (s : State) : Host.Outcome State Fault Refusal := .next (doStop sp s)

/-- SHORT (R214). -/
def doShortCmd (sp : Fin 4) (s : State) : State :=
  let i := sp.val
  if s.g (SP_CTL_STATE i) ≠ stOn then s.p (SP_CMD_ERR i) 1
  else if !s.bothUnloaded i then s.p (SP_CMD_ERR i) 2
  else ({ s.off (SP_CMD_ERR i) with spWait := s.spWait.filter (· ≠ i) }).goShort i
/-- The row of `doShortCmd`. -/
def execShortCmd (sp : Fin 4) (s : State) : Host.Outcome State Fault Refusal := .next (doShortCmd sp s)

/-! Speed (R207, R215–R217). -/

/-- Overspeed (R217): the bridge turns off, both actuators unload, and SHORT follows. A forced short stands (R226). -/
def State.overspeed (s : State) (i : Nat) : State :=
  let s := if s.phase i = phShort && (s.sp i).stuck then s
    else (({ s with spWait := s.spWait.filter (· ≠ i) }).goPhase i phCoast).spUp i (fun x =>
      { x with bridgeOff := true, shortAfter := true, acq := .idle, xings := [] })
  let s := s.fault (SP_STAT_OVERSPEED i) (56 + i) 8 0x0509 0
  ((s.unloadAct (2 * i) ucSpindle).unloadAct (2 * i + 1) ucSpindle).spindleFree i

/-- What a speed does in the phase (R216, R219, R222, R231). DEDUCED 80: an error that lasts is one loss of R216. -/
def State.speedPhase (s : State) (i new : Nat) : State :=
  let ph := s.phase i
  let drop := s.g (SP_REG_CFG_DROP_WIN i)
  let near := s.within i new drop
  if ph = phAccel then if near then s.goPhase i phRun else s
  else if ph = phDecel then
    if (s.sp i).toSpeed then
      if near then (s.goPhase i phRun).spUp i (fun x => { x with toSpeed := false }) else s
    else if new < 2400 then s.goShort i
    else s
  else if ph = phRun then
    if near then
      s.spUp i (fun x => { x with
        dropped := false, revs := if s.within i new (s.g (SP_REG_CFG_REG_WIN i)) then x.revs + 1 else 0 })
    else
      let lost := (s.sp i).dropped
      let s := s.spUp i (fun x => { x with revs := 0, dropped := true })
      if s.is (SP_MODE_REG i) || !lost then
        let s := (s.off (SP_MODE_REG i)).note (SP_STAT_REG_LOST i) 0x050A (56 + i) 0
        (s.unloadAct (2 * i) ucSpindle).unloadAct (2 * i + 1) ucSpindle
      else s
  else if ph = phCoast && (s.sp i).acq = .armed && 100 * new < 97 * (8 * s.spTarget i) then s.reacqFail i .idle
  else s

/-- The servo wedge period of either actuator measures the speed (R207, R153). -/
def State.wedgeSpeed (s : State) (i : Nat) : Bool := s.is (SV_HEADS_VALID (2 * i)) || s.is (SV_HEADS_VALID (2 * i + 1))

/-- SPINDLE_SPEED_SAMPLE (R207, R217): the speed measured over one revolution. DEDUCED 80: a speed that stays above OVS is one
overspeed. -/
def execSpindleSpeedSample (sp : Fin 4) (meas : BitVec 16) (s : State) : Host.Outcome State Fault Refusal :=
  .next <|
    let i := sp.val
    let fast := decide (meas.toNat > 8 * s.g (SP_LIM_OVS i))
    let t := ((s.p (SP_SPEED_MEAS i) meas.toNat).p (SP_SPEED_SRC i) (b2n (s.wedgeSpeed i))).spUp i (fun x => { x with fast := fast })
    (if fast && !(s.sp i).fast then t.overspeed i else t.speedPhase i meas.toNat).careFrom s

/-- Actuators unloaded with cause SPINDLE, and on an idle exit with cause IDLE, are loaded once their spindle is regulated
(R198, R648). -/
def State.reload (s : State) (i : Nat) : State :=
  State.each [2 * i, 2 * i + 1] (fun a t => if t.reloadDue a then t.loadStart a else t) s

/-- SPINDLE_REGULATED (R215, R220): REG, or a late regulation that is discarded. -/
def execSpindleRegulated (sp : Fin 4) (s : State) : Host.Outcome State Fault Refusal :=
  .next <|
    let i := sp.val
    if (s.sp i).spinup = .granted then
      ((s.spUp i (fun x => { x with spinup := .idle })).sat (SP_LATE_CNT_SPINUP i) 1).note (SP_STAT_SPINUP_LATE i) 0x050E (56 + i) 0
    else if s.phase i = phRun && !s.is (SP_MODE_REG i) && (s.sp i).revs ≥ 32 then
      ((s.on (SP_MODE_REG i)).spUp i (fun x => { x with spinup := .idle })).reload i
    else s

/-! Spin-up (R218–R220). -/

/-- SPINUP_START (R33, R218, R219): the first spindle in WAIT, while fewer than two are in START. -/
def execSpinupStart (sp : Fin 4) (s : State) : Host.Outcome State Fault Refusal :=
  .next <|
    let i := sp.val
    let busy := ((upTo 4).filter (fun k => s.phase k = phStart)).length
    if s.phase i = phWait && s.spWait.head? = some i && decide (busy < 2) && s.switched then
      let s := ({ s with spWait := s.spWait.drop 1 }).goPhase i phStart
      (s.p (SP_MODE_START_TRY i) 1).spUp i (fun x => { x with step := .angle, spinup := .armed, lateRun := 0, innRun := 0, foc := {} })
    else s

/-- ROTOR_ANGLE_FOUND (R219 step 3). -/
def execRotorAngleFound (sp : Fin 4) (s : State) : Host.Outcome State Fault Refusal :=
  .next <|
    let i := sp.val
    if s.phase i = phStart && (s.sp i).step = .angle then s.spUp i (fun x => { x with step := .ramp }) else s

/-- OBSERVER_LOCK (R219 step 4). -/
def execObserverLock (sp : Fin 4) (s : State) : Host.Outcome State Fault Refusal :=
  .next <|
    let i := sp.val
    if s.phase i = phStart && (s.sp i).step = .ramp then (s.goPhase i phAccel).spUp i (fun x => { x with step := .none }) else s

/-- A spin-up fails (R220). -/
def State.spinupFail (s : State) (i : Nat) (race : Race) : State :=
  ((s.goShort i).spUp i (fun x => { x with spinup := race })).fault (SP_STAT_SPINUP_FAIL i) (56 + i) 4 0x0505 0

/-- START_ATTEMPT_FAIL (R219 step 5, R220): at most three attempts. -/
def execStartAttemptFail (sp : Fin 4) (s : State) : Host.Outcome State Fault Refusal :=
  .next <|
    let i := sp.val
    if s.phase i = phStart && (s.sp i).step = .ramp then
      if s.g (SP_MODE_START_TRY i) ≥ 3 then s.spinupFail i .idle
      else s.spUp i (fun x => { x with step := .pause })
    else s

/-- START_RETRY (R219 step 5). -/
def execStartRetry (sp : Fin 4) (s : State) : Host.Outcome State Fault Refusal :=
  .next <|
    let i := sp.val
    if s.phase i = phStart && (s.sp i).step = .pause then
      (s.inc (SP_MODE_START_TRY i)).spUp i (fun x => { x with step := .angle })
    else s

/-- SPINUP_TIMEOUT (R220): granted before REG. -/
def execSpinupTimeout (sp : Fin 4) (s : State) : Host.Outcome State Fault Refusal :=
  .next <|
    let i := sp.val
    if (s.sp i).spinup = .armed && !s.timersHeld then s.spinupFail i .granted else s

/-- SHORT_STANDSTILL (R222): the back-EMF has stayed below detection for 1 s; a forced short must first be released. A
spindle that coasts to rest with its bridge off for good (R233, R621) is stopped likewise. -/
def execShortStandstill (sp : Fin 4) (s : State) : Host.Outcome State Fault Refusal :=
  .next <|
    let i := sp.val
    let free := s.phase i = phCoast && (s.sp i).bridgeOff && (s.sp i).acq = .idle && !(s.sp i).shortAfter && !(s.sp i).safeHold
    if (s.phase i = phShort && !(s.sp i).forced) || free then
      ((s.goPhase i phStopped).off (SP_SPEED_MEAS i)).spUp i (fun x =>
        { x with bridgeOff := false, stopAfter := false, stuck := false, fast := false, acq := .idle, xings := [] })
    else s

/-! The motor bus (R222–R225). -/

/-- The bus voltage shows in all four blocks. -/
def State.busShown (s : State) (v : Nat) : State := State.each (upTo 4) (fun i t => t.p (SP_BUS_VBUS i) v) s

/-- CHOPPER_SWITCH (R223, R224): on at 13.8 V, off below 13.6 V; a fall below 13.8 V meets the CHOP_TMO expiry. -/
def execChopperSwitch (bus : BitVec 11) (s : State) : Host.Outcome State Fault Refusal :=
  .next <|
    let v := bus.toNat
    State.each (upTo 4) (fun i t =>
      if v ≥ 1380 then
        let started := !t.is (SP_BUS_CHOP_ON i)
        (t.on (SP_BUS_CHOP_ON i)).spUp i (fun x =>
          { x with chopBus := if x.chopBus = .idle then .armed else x.chopBus, chopCur := if started then .armed else x.chopCur })
      else
        let late := decide ((t.sp i).chopBus = .granted)
        let t := t.spUp i (fun x => { x with chopBus := .idle })
        let t := if v < 1360 then (t.off (SP_BUS_CHOP_ON i)).spUp i (fun x => { x with chopCur := .idle }) else t
        if late then (t.sat (SP_LATE_CNT_CHOP i) 1).note (SP_STAT_CHOP_LATE i) 0x050C (56 + i) 0 else t) (s.busShown v)

/-- A chopper fault is declared (R225): every spindle in DECEL goes to SHORT. -/
def State.chopFault (s : State) (i : Nat) : State :=
  let s := s.fault (SP_STAT_CHOP_FAULT i) (56 + i) 2 0x0503 0
  State.each (upTo 4) (fun k t => if t.phase k = phDecel then t.goShort k else t) s

/-- CHOPPER_CURRENT_TIMEOUT (R224): 20 µs after the chopper turned on. -/
def execChopperCurrentTimeout (sp : Fin 4) (amps : Nat) (s : State) : Host.Outcome State Fault Refusal :=
  .next <|
    let i := sp.val
    if s.is (SP_BUS_CHOP_ON i) && (s.sp i).chopCur = .armed then
      let s := s.spUp i (fun x => { x with chopCur := .idle })
      if amps < s.g (SP_BRAKE_CFG_CHOP_IMIN i) then s.chopFault i else s
    else s

/-- CHOPPER_BUS_TIMEOUT (R224): granted while the bus is at or above 13.8 V. -/
def execChopperBusTimeout (sp : Fin 4) (s : State) : Host.Outcome State Fault Refusal :=
  .next <|
    let i := sp.val
    if s.is (SP_BUS_CHOP_ON i) && (s.sp i).chopBus = .armed then
      (s.spUp i (fun x => { x with chopBus := .granted })).chopFault i
    else s

/-! Re-acquisition (R229–R232). -/

/-- Crossings for lock in force (R236). -/
def State.acqXings (s : State) (i : Nat) : Nat := max 3 (s.g (SP_OBS_CFG_ACQ_XINGS i))

/-- Intervals that agree within 2 %: the largest is at most 1.02 times the smallest. -/
def agree (l : List Nat) : Bool := l.all (fun a => l.all (fun b => decide (100 * a ≤ 102 * b)))

/-- The observer restarts from the speed the crossings give: six crossings in an electrical cycle, POLES cycles in a
revolution (R229). -/
def State.xingSpeed (s : State) (i ns : Nat) : State :=
  let d := s.g (SP_MOTOR_POLES i) * ns
  if d = 0 || s.wedgeSpeed i then s
  else (s.p (SP_SPEED_MEAS i) (clampI 0 65535 (quot 80000000000 d)).toNat).off (SP_SPEED_SRC i)

/-- BEMF_ZERO_CROSSING (R229, R232): ACQ_XINGS crossings in a row whose intervals agree re-acquire the rotor. The first
crossing of a COAST has no interval; `sector` is the sixth of an electrical cycle that the crossing begins. What waited for the
rotor follows (R235). -/
def execBemfZeroCrossing (sp : Fin 4) (ns : Nat) (sector : Fin 6) (s : State) : Host.Outcome State Fault Refusal :=
  .next <|
    let i := sp.val
    let x := s.sp i
    let late := s.phase i = phShort && x.acq = .granted
    if (s.phase i ≠ phCoast && !late) || x.acq = .idle then s
    else
      let n := s.acqXings i
      let l := (ns :: x.xings).take n
      let s := s.spUp i (fun x => { x with xings := l })
      if l.length ≥ n && agree (l.take (n - 1)) then
        let s := s.spUp i (fun x => { x with xings := [], acq := .idle })
        if x.acq = .granted then (s.sat (SP_LATE_CNT_ACQ i) 1).note (SP_STAT_ACQ_LATE i) 0x050D (56 + i) 0
        else
          let s := (((s.goPhase i phRun).sat (SP_LOSS_CNT_REACQ i) 1).xingSpeed i ns).spUp i (fun x =>
            { x with foc := { angle := (sector.val : ℚ) / 6, ramp := some s.now } })
          s.spindleFree i
      else s

/-- REACQ_TIMEOUT (R231). -/
def execReacqTimeout (sp : Fin 4) (s : State) : Host.Outcome State Fault Refusal :=
  .next <|
    let i := sp.val
    if s.phase i = phCoast && (s.sp i).acq = .armed && !s.timersHeld then (s.reacqFail i .granted).careFrom s else s

/-! Power failure and SAFE. -/

/-- Every turning spindle rectifies its back-EMF onto the motor bus, and every loaded actuator unloads (R233). -/
def State.rectify (s : State) : State :=
  let s := State.each (upTo 4) (fun i t =>
    if t.turning i || (t.phase i = phShort && !(t.sp i).stuck) then (t.goPhase i phRectify).spUp i (fun x => { x with acq := .idle, spinup := .idle, step := .none, pwm := .idle })
    else if t.phase i = phWait then ({ t with spWait := t.spWait.filter (· ≠ i) }).goPhase i phStopped else t) s
  State.each (upTo 8) (fun a t => t.unloadAct a ucSpindle) s

/-- MOTOR_BUS_COLLAPSE (R233 step 5): the MP switches off, and the spindle coasts to rest. -/
def execMotorBusCollapse (sp : Fin 4) (s : State) : Host.Outcome State Fault Refusal :=
  .next <|
    let i := sp.val
    if s.phase i = phRectify then (s.goPhase i phCoast).spUp i (fun x => { x with bridgeOff := true, acq := .idle }) else s

/-- SAFE_SPINDLE_HOLD_END (R227): 200 ms after entry to SAFE. -/
def execSafeSpindleHoldEnd (sp : Fin 4) (s : State) : Host.Outcome State Fault Refusal :=
  .next (if (s.sp sp.val).safeHold then s.goShort sp.val else s)

end Sys2Proof.Machine
end

