-- ==== Sys2Proof/Machine/Power.lean ====
section
/-! DEFINITION. Machine/Power.lean: pace windows and the governor (R19–R28), the feeds, the hold-up bank and the regulator
chains (R601–R620), and the safety monitor (R621–R625). -/

namespace Sys2Proof.Machine

open Reg

/-- HOURGLASS_EXPIRY (R668). -/
def execHourglassExpiry (u : Fin 60) (s : State) : Host.Outcome State Fault Refusal :=
  .next <|
    if s.is (FT_U_STAT_HG u.val) && !s.timersHeld then
      (s.escalate u.val 0 ((s.unit u.val).order.headD 0)).careFrom s
    else s

/-! Pace windows and the governor. -/

/-- The blocks of R19 in the order of its table: the pace register, the function whose STATE says whether the block runs,
and the index of its floor (R628). -/
def paceBlocks : List (Nat × Func × Nat) :=
  [(LK_PACE, .lk, 0), (QM_PACE, .qm, 1), (CM_PACE, .cm, 2), (HC_PACE, .hc, 3), (DM_PACE, .dm, 4), (BM_PACE, .bm, 5),
    (JN_PACE, .jn, 6), (AR_PACE, .ar, 7)] ++
  ((List.finRange 32).map (fun c => (CH_PACE c.val, Func.ch c, 8))) ++
  ((List.finRange 8).map (fun a => (SV_PACE a.val, Func.sv a, 9))) ++ [(MC_PACE, .mc, 10)]

/-- A pace register takes a window's count (R20). -/
def State.paceLatch (s : State) (reg count floor : Nat) : State :=
  let s := (s.p ⟨reg, 0, 16⟩ (min 65535 count)).on ⟨reg, 31, 1⟩
  if count < floor then s.sat ⟨reg, 16, 8⟩ 1 else s

/-- The governor's step after a window (R22, R25, R26, R28, R34): each running block's pace register, count and floor. A
block's run of low windows at 0.85 V is kept under its pace register, and is broken while the block is OFF. DESIGN CHOICE 23:
once the pace fault is raised every run counts from 0 again. -/
def State.govern (s : State) (l : List (Nat × Nat × Nat)) : State :=
  let need (fl : Nat) : Nat := if s.switched then 100 * fl else 105 * fl
  let low (x : Nat × Nat × Nat) : Bool := decide (100 * x.2.1 < need x.2.2)
  let v := s.g PW_CORE_VSET
  let runs (old : Tbl Nat) : Tbl Nat :=
    (l.filter (fun x => decide (v = 850) && low x)).map (fun x => (x.1, old.getD x.1 0 + 1))
  let s := s.pwU (fun p => { p with lowRun := runs p.lowRun })
  let s := if s.pw.lowRun.any (fun x => decide (x.2 ≥ 100)) then
      (s.pwU (fun p => { p with lowRun := [] })).fault PW_STAT_PACE_FAULT 2 9 0x1008 0 else s
  if l.any low then (s.pwU (fun p => { p with highRun := 0 })).coreSet (v + 10)
  else if l.all (fun x => decide (100 * x.2.1 ≥ 110 * x.2.2)) then
    if s.pw.highRun + 1 ≥ 1000 then
      (s.pwU (fun p => { p with highRun := 0 })).coreSet (if v > s.vf then v - 5 else v)
    else (s.pwU (fun p => { p with highRun := p.highRun + 1 })).coreSet v
  else (s.pwU (fun p => { p with highRun := 0 })).coreSet v

/-- PACE_WINDOW_END (R19, R20, R25–R28): the counts of the window in the order of `paceBlocks`, and VCORE as measured. A block
that is OFF counts nothing and is not compared. -/
def execPaceWindowEnd (counts : List Nat) (vmeas : BitVec 10) (s : State) : Host.Outcome State Fault Refusal :=
  .next <|
    let asleep := match s.md.rest with
      | .asleep => true
      | _ => false
    if s.mode = mOff || asleep then s
    else
      let on_ := (paceBlocks.zip counts).filter (fun x => decide (s.g (Func.st x.1.2.1) ≠ stOff))
      let l := on_.map (fun x => (x.1.1, x.2, s.g (PW_FLOOR_FLOOR x.1.2.2)))
      let s := State.each on_ (fun x t => t.paceLatch x.1.1 x.2 (t.g (PW_FLOOR_FLOOR x.1.2.2))) s
      let s := s.p PW_CORE_VMEAS vmeas.toNat
      if s.is PW_CHAIN_GAP then s else s.govern l

/-! Feeds (R601–R604). -/

def feedOk (b : Bool) : RF := if b then PW_FEED_B_OK else PW_FEED_A_OK
def feedLost (s : State) (b : Bool) : Bool := if b then s.pw.lostB else s.pw.lostA
def feedIso (s : State) (b : Bool) : Bool := if b then s.pw.isoB else s.pw.isoA

/-- A_OK and B_OK: present and not isolated. -/
def State.feedShow (s : State) (b : Bool) : State := s.p (feedOk b) (b2n (!feedLost s b && !feedIso s b))

/-- The voltage of a feed as measured, 10 mV. -/
def State.feedVolt (s : State) (b : Bool) (v : Nat) : State := s.p (if b then PW_FEED_VB else PW_FEED_VA) v

/-- FEED_LOSS (R602): the 5 µs timer is granted. -/
def execFeedLoss (feed : Bool) (v : BitVec 11) (s : State) : Host.Outcome State Fault Refusal :=
  .next <|
    let s := s.feedVolt feed v.toNat
    if feedLost s feed then s
    else
      let s := s.pwU (fun p => if feed then { p with lostB := true, feedDue := setBit p.feedDue 1 }
        else { p with lostA := true, feedDue := setBit p.feedDue 0 })
      (s.feedShow feed).note (if feed then PW_STAT_FEED_B_LOST else PW_STAT_FEED_A_LOST) 0x1001 2 (pk [(b2n feed, 1)])

/-- FEED_RETURN (R602): the return to 10.4 V comes after the grant and is discarded; `held` says that the feed has stayed in
range for 10 ms, so that it counts as present again. -/
def execFeedReturn (feed held : Bool) (v : BitVec 11) (s : State) : Host.Outcome State Fault Refusal :=
  .next <|
    let s := s.feedVolt feed v.toNat
    let s := if bitOf s.pw.feedDue (b2n feed) = 1 then
        ((s.pwU (fun p => { p with feedDue := clrBit p.feedDue (b2n feed) })).sat PW_LATE_CNT_FEED 1).note
          PW_STAT_FEED_LATE 0x1009 2 (pk [(b2n feed, 1)])
      else s
    if held && feedLost s feed then
      (s.pwU (fun p => if feed then { p with lostB := false } else { p with lostA := false })).feedShow feed
    else s

/-- FEED_OVERVOLTAGE (R603): both switches of the feed open. -/
def execFeedOvervoltage (feed : Bool) (v : BitVec 11) (s : State) : Host.Outcome State Fault Refusal :=
  .next <|
    let s := s.feedVolt feed v.toNat
    if feedIso s feed then s
    else
      let s := (s.pwU (fun p => if feed then { p with isoB := true } else { p with isoA := true })).feedShow feed
      s.fault (if feed then PW_STAT_FEED_B_OV else PW_STAT_FEED_A_OV) 2 (if feed then 3 else 2) 0x1002 (pk [(b2n feed, 1)])

/-- FEED_OV_RECOVER (R603): 10 ms in range. -/
def execFeedOvRecover (feed : Bool) (v : BitVec 11) (s : State) : Host.Outcome State Fault Refusal :=
  .next <|
    let s := s.feedVolt feed v.toNat
    if feedIso s feed then (s.pwU (fun p => if feed then { p with isoB := false } else { p with isoA := false })).feedShow feed
    else s

/-! Hold-up (R604–R607). -/

/-- POWER_FAIL_SIGNAL (R604, R307, R233): both feeds are lost, or the standby failed during a switch-over. No commit starts
from now on. -/
def execPowerFailSignal (s : State) : Host.Outcome State Fault Refusal :=
  .next <|
    if s.pw.powerFail || s.mode = mOff || !((s.pw.lostA && s.pw.lostB) || s.pw.stbyDead) then s
    else ((s.pwU (fun p => { p with powerFail := true })).raise 0x100D 2 0).rectify

/-- HOLDUP_LOW and OK follow the bank (R606): once per excursion. -/
def State.holdupCheck (s : State) : State :=
  let ok := decide (s.g PW_HOLDUP_VHU ≥ 270) && decide (s.g PW_HOLDUP_EST ≥ 500)
  let s := s.p PW_HOLDUP_OK (b2n ok)
  if ok then s.pwU (fun p => { p with lowExc := false })
  else if s.pw.lowExc then s
  else (s.pwU (fun p => { p with lowExc := true })).fault PW_STAT_HOLDUP_LOW 2 8 0x1007 0

/-- The bank voltage, 100 mV; PM charges it up to 28.0 V. -/
def State.holdupVolt (s : State) (v : Nat) : State := (s.p PW_HOLDUP_VHU v).p PW_HOLDUP_CHG (b2n (decide (v < 280)))

/-- HOLDUP_MEASURE (R606): the bank took `t` µs from 10.0 V to 26.0 V at 50 mA: C = 0.05 A × t / 16.0 V, and EST = 360 × C
joules, 9 t / 8,000 mJ. -/
def execHoldupMeasure (t : BitVec 32) (s : State) : Host.Outcome State Fault Refusal :=
  .next ((s.holdupVolt 260).p PW_HOLDUP_EST (clampI 0 65535 (quot (9 * (t.toNat : Int)) 8000)).toNat).holdupCheck

/-- HOLDUP_VOLTAGE_CHANGE (R606). -/
def execHoldupVoltageChange (v : BitVec 9) (s : State) : Host.Outcome State Fault Refusal :=
  .next (s.holdupVolt v.toNat).holdupCheck

/-! Regulator chains (R609–R619). -/

/-- Step 2 of R611: the active chain is isolated, outputs are held and bridges are off (R612). -/
def State.gapStart (s : State) (forced : Bool) : State :=
  let act := s.g PW_CHAIN_ACTIVE
  let stb := s.standby
  let s := s.p (chainState act) (if forced then 0 else 5)
  let s := s.when (decide (s.g (chainState stb) ≠ 5)) (fun t => t.p (chainState stb) 2)
  let s := s.pwU (fun p => { p with job := .gap forced, jobChain := stb, autoDone := false, stbyLate := false })
  let s := (s.on PW_CHAIN_GAP).p PW_CMD_BUSY (b2n forced)
  State.each (upTo 8) (fun a t => (t.dropPerms a).actUp a (fun x => { x with job := none, overdue := false })) s

/-- CHAIN_FAIL (R610, R611): a rail of the active chain stayed out of its window for 10 µs; or, `late`, it returns after that
was granted. -/
def execChainFail (late : Bool) (s : State) : Host.Outcome State Fault Refusal :=
  .next <|
    if late then
      if s.pw.chainLate then
        ((s.pwU (fun p => { p with chainLate := false })).sat PW_LATE_CNT_CHAIN 1).note PW_STAT_CHAIN_LATE 0x100A 2 0
      else s
    else if s.mode = mOff || s.is PW_CHAIN_GAP || s.pw.powerFail then s
    else
      let s := (s.pwU (fun p => { p with chainLate := true })).sat PW_SW_CNT_FAILS 1
      (s.fault PW_STAT_CHAIN_FAIL 2 4 0x1003 0).gapStart false

/-- GAP clears (R614): loaded actuators settle again, and turning spindles coast and re-acquire. -/
def State.gapEnd (s : State) : State :=
  let s := s.off PW_CHAIN_GAP
  let s := State.each (upTo 8) (fun a t =>
    let st := t.astate a
    if aSeeking ≤ st && st ≤ aPredicting then
      ((t.setAstate a aSettling).off (SV_MODE_PRED_RUN a)).actUp a (fun x =>
        { x with
          settling := 0, settleGranted := false, settleLateDone := false,
          slots := x.slots.map (fun e => (e.1, { e.2 with rdRun := 0, wrRun := 0, rdSettled := false, wrSettled := false })) })
    else t) s
  State.each (upTo 4) (fun i t => if t.driven i then t.coast i else t) s

/-- The load is on the other chain (R611 step 5, R617 step 5). -/
def State.chainFlip (s : State) : State :=
  let stb := s.standby
  ((s.p (chainState stb) 1).p PW_CHAIN_ACTIVE stb).sat PW_SW_CNT_SWITCHES 1

/-- STANDBY_REGULATED (R611, R613, R616, R617): the starting chain is within ±2 % after `us` µs; late after a granted
timeout. -/
def execStandbyRegulated (us : BitVec 10) (s : State) : Host.Outcome State Fault Refusal :=
  .next <|
    match s.pw.job with
    | .gap _ =>
      if s.g (chainState s.pw.jobChain) = 2 && !s.pw.stbyDead then
        let s := (s.pwU (fun p => { p with job := .none })).chainFlip
        (s.gapEnd.off PW_CMD_BUSY).note PW_STAT_SWITCHED 0x1004 2 0
      else s
    | .testStart =>
      ((s.pwU (fun p => { p with job := .testLoad })).p (chainState s.pw.jobChain) 3).p PW_TEST_T_REG us.toNat
    | .resyncStart => (s.pwU (fun p => { p with job := .resyncHold })).p PW_TEST_T_REG us.toNat
    | _ =>
      if s.pw.stbyLate then
        ((s.pwU (fun p => { p with stbyLate := false })).sat PW_LATE_CNT_STBY 1).note PW_STAT_STBY_LATE 0x100B 2 0
      else s

/-- A standby test fails (R617): the tested chain is FAILED. -/
def State.testFail (s : State) (result : Nat) : State :=
  let s := (s.pwU (fun p => { p with job := .none, autoDone := false })).p (chainState s.pw.jobChain) 5
  ((s.p PW_TEST_RESULT result).off PW_CMD_BUSY).fault PW_STAT_STBY_FAIL 2 6 0x1005 0

/-- A resynchronisation ends (R616). -/
def State.resyncEnd (s : State) (result : Nat) : State :=
  let s := (s.pwU (fun p => { p with job := .none })).p (chainState s.pw.jobChain) (if result = 1 then 0 else 5)
  let s := (s.p PW_TEST_RESULT result).off PW_CMD_BUSY
  if result = 1 then s.note PW_STAT_RESYNC_DONE 0x1006 2 0 else s

/-- STANDBY_TIMEOUT (R613, R616, R617): 800 µs without regulation. In a gap the power-fail signal follows. -/
def execStandbyTimeout (s : State) : Host.Outcome State Fault Refusal :=
  .next <|
    match s.pw.job with
    | .gap _ =>
      if s.pw.stbyDead then s
      else
        let s := (s.pwU (fun p => { p with job := .none, stbyDead := true, stbyLate := true })).p (chainState s.pw.jobChain) 5
        (s.off PW_CMD_BUSY).fault PW_STAT_STBY_FAIL 2 6 0x1005 0
    | .testStart => (s.pwU (fun p => { p with stbyLate := true })).testFail 2
    | .resyncStart => s.resyncEnd 2
    | _ => s

/-- A resynchronisation starts (R616). -/
def State.resyncStart (s : State) : State :=
  let c := s.standby
  (((s.pwU (fun p => { p with job := .resyncStart, jobChain := c })).p (chainState c) 4).on PW_CMD_BUSY).p PW_TEST_CHAIN c

/-- RESYNC_TIMER (R616): 60 s after the chain failed, once. -/
def execResyncTimer (s : State) : Host.Outcome State Fault Refusal :=
  .next <|
    if s.is PW_CFG_AUTO_RESYNC && !s.pw.autoDone && s.g (chainState s.standby) = 5 && s.pw.job = .none && !s.timersHeld &&
        s.mode ≠ mOff then
      (s.pwU (fun p => { p with autoDone := true })).resyncStart
    else s

/-- RESYNC_HOLD_DONE (R616): the 100 ms end, `ok` within ±2 % throughout. -/
def execResyncHoldDone (ok : Bool) (s : State) : Host.Outcome State Fault Refusal :=
  .next (if s.pw.job = .resyncHold then s.resyncEnd (if ok then 1 else 3) else s)

/-- The refusals of PW_CMD (R628): an operation of the PM itself running, mode, chain, hold-up. -/
def State.pwRefuse (s : State) (modeOk : Bool) (st : Nat) (needHold : Bool) : Nat :=
  if s.pw.job ≠ .none then 4
  else if !modeOk then 1
  else if s.g (chainState s.standby) ≠ st then 2
  else if needHold && !s.is PW_HOLDUP_OK then 3
  else 0

/-- TEST_STANDBY (R617). -/
def State.testStandby (s : State) : State :=
  let e := s.pwRefuse s.serving 0 false
  if s.is PW_CMD_BUSY then s
  else
    let s := s.p PW_CMD_ERR e
    if e = 0 then s.testStart else s

def execTestStandby (s : State) : Host.Outcome State Fault Refusal := .next s.testStandby

/-- TEST_STANDBY_LOAD_DONE (R617 steps 4 and 5): the tested chain carried the load alone for 10 ms, `ok` within ±4 %. -/
def execTestStandbyLoadDone (ok : Bool) (s : State) : Host.Outcome State Fault Refusal :=
  .next <|
    if s.pw.job ≠ .testLoad then s
    else if ok then
      let s := (s.p (chainState (s.g PW_CHAIN_ACTIVE)) 0).chainFlip
      let s := s.pwU (fun p => { p with job := .none, passAt := s.g EV_HOURS_HOURS })
      ((s.p PW_TEST_RESULT 1).off PW_TEST_HOURS).off PW_CMD_BUSY
    else s.testFail 3

/-- FORCE_SWITCH (R619): R611 from step 2. -/
def State.forceSwitch (s : State) : State :=
  let e := s.pwRefuse (decide (s.mode = mMaint)) 0 true
  if s.is PW_CMD_BUSY then s
  else
    let s := s.p PW_CMD_ERR e
    if e = 0 then (s.fault PW_STAT_CHAIN_FAIL 2 4 0x1003 0).gapStart true else s

def execForceSwitch (s : State) : Host.Outcome State Fault Refusal := .next s.forceSwitch

/-- PW_RESYNC (R616). -/
def State.pwResync (s : State) : State :=
  let e := s.pwRefuse true 5 false
  if s.is PW_CMD_BUSY then s
  else
    let s := s.p PW_CMD_ERR e
    if e = 0 then s.resyncStart else s

def execPwResync (s : State) : Host.Outcome State Fault Refusal := .next s.pwResync

/-! The safety monitor (R621–R625). -/

/-- What every trip does beside its own action: SF_CAUSE where empty, the status bit, the event, FAULT_N, and the request for
SAFE. -/
def State.sfTrip (s : State) (cause unit : Nat) (f : RF) (bit code : Nat) : State :=
  let s := if s.g SF_CAUSE_CAUSE = 0 then (s.p SF_CAUSE_CAUSE cause).p SF_CAUSE_UNIT unit else s
  let s := (s.fault f 3 bit code 0).ftU (fun t => { t with sfPulse := true })
  s.enterSafe 1

/-- An actuator retracts through its current-limited path, at VCM_ILIM / 4. -/
def State.sfRetract (s : State) (a : Nat) : State := (s.unloadAct a ucSafe).actUp a (fun x => { x with limited := true })

/-- A spindle's bridge is turned off by the monitor: it coasts and is not driven again. -/
def State.sfBridge (s : State) (i : Nat) : State :=
  if s.turning i || s.phase i = phRectify then
    (s.goPhase i phCoast).spUp i (fun x => { x with bridgeOff := true, acq := .idle, spinup := .idle, step := .none, xings := [], pwm := .idle })
  else s

/-- Spindles to be shorted when RET_HOLD ends. -/
def State.sfHold (s : State) (l : List Nat) : State :=
  s.sfU (fun m => { m with holdMask := l.foldl setBit m.holdMask })

/-- BUS_OVERVOLTAGE (R226, R621): the bus reaches 14.6 V, and PM forces SHORT on all four MP dies. -/
def execBusOvervoltage (bus : BitVec 11) (s : State) : Host.Outcome State Fault Refusal :=
  .next <|
    if bus.toNat < 1460 then s
    else
      let s := s.busShown bus.toNat
      let s := { s with spWait := [] }
      let s := State.each (upTo 4) (fun i t => ((t.goShort i).spUp i (fun x => { x with forced := true, stuck := true })).on (SP_BUS_SHORT_FORCED i)) s
      let (n, s) := s.raiseSeq 0x0504 56 0 true
      let s := State.each (upTo 4) (fun i t => t.faultSeq (SP_STAT_SHORT_FORCED i) (56 + i) 3 n) s
      s.sfTrip 1 0 SF_STAT_BUS_OV 0 0x1101

/-- PM_SHORT_RELEASE (R226): PM releases the forced short. -/
def execPmShortRelease (bus : BitVec 11) (s : State) : Host.Outcome State Fault Refusal :=
  .next (State.each (upTo 4) (fun i t => (t.spUp i (fun x => { x with forced := false })).off (SP_BUS_SHORT_FORCED i)) (s.busShown bus.toNat))

/-- SF_OVERSPEED (R621): above SF_LIM_SPD.OVS for two consecutive revolutions. -/
def execSfOverspeed (sp : Fin 4) (s : State) : Host.Outcome State Fault Refusal :=
  .next <|
    let i := sp.val
    let s := (((s.sfBridge i).sfRetract (2 * i)).sfRetract (2 * i + 1)).sfHold [i]
    s.sfTrip 2 i SF_STAT_OVERSPEED 1 0x1102

/-- VCM_OVERCURRENT (R621): the coil driver takes its retract path. -/
def execVcmOvercurrent (a : Fin 8) (ma : Int) (s : State) : Host.Outcome State Fault Refusal :=
  .next <|
    let s := (s.actUp a.val (fun x => { x with coil := ma })).sfRetract a.val
    s.sfTrip 3 a.val SF_STAT_VCM_OC 2 0x1103

/-- Die temperatures in the coding of SF_CAUSE.UNIT: 0 CD, 1 AD0, 2 AD1, 3–6 MP0–MP3, 7 PM. -/
def sfTripAt (d : Nat) : Nat := if d = 0 then 105 else 125
def State.sfWarnAt (s : State) (d : Nat) : Nat := if d = 0 then min 104 (s.g SF_LIM_TEMP_CD_WARN) else min 124 (s.g SF_LIM_TEMP_MP_WARN)

/-- A temperature trip of a die (R621). -/
def State.tempTrip (s : State) (d : Nat) : State :=
  let s := State.each (upTo 8) (fun a t => t.sfRetract a) s
  let mp := decide (3 ≤ d) && decide (d ≤ 6)
  let s := (if mp then s.sfBridge (d - 3) else s).sfHold ((upTo 4).filter (fun i => !(mp && i == d - 3)))
  let s := s.sfTrip 4 d SF_STAT_TEMP_TRIP 4 0x1105
  if mp then (s.spUp (d - 3) (fun x => { x with safeHold := false, shortAfter := false })).sfU (fun m => { m with holdMask := clrBit m.holdMask (d - 3) })
  else s

/-- TEMP_SAMPLE (R621): the temperatures of the eight dies in the coding of SF_CAUSE.UNIT, °C; three samples in a row at or
above a limit act. -/
def execTempSample (temps : BitVec 64) (s : State) : Host.Outcome State Fault Refusal :=
  .next <|
    let t (d : Nat) : Nat := bitsOf temps.toNat (8 * d) 8
    let s := (s.wr SF_TEMP0 (BitVec.ofNat 32 (pk [(t 0, 8), (t 1, 8), (t 2, 8), (t 7, 8)]))).wr SF_TEMP1
      (BitVec.ofNat 32 (pk [(t 3, 8), (t 4, 8), (t 5, 8), (t 6, 8)]))
    State.each (upTo 8) (fun d u =>
      let n := if t d ≥ sfTripAt d then min 4 (u.sf.tripRun.getD d 0 + 1) else 0
      let w := if t d ≥ u.sfWarnAt d then min 4 (u.sf.warnRun.getD d 0 + 1) else 0
      let u := u.sfU (fun m => { m with tripRun := m.tripRun.putD d 0 n, warnRun := m.warnRun.putD d 0 w })
      let u := if w = 3 then u.note SF_STAT_TEMP_WARN 0x1104 3 0 else u
      if n = 3 then u.tempTrip d else u) s

/-- The heartbeat check is masked (R621): in a gap, and while VCORE is removed for REST. -/
def State.hbMasked (s : State) : Bool :=
  s.is PW_CHAIN_GAP || s.mode = mOff || (match s.md.rest with | .asleep => true | _ => false)

/-- HEARTBEAT (R622): late after a granted timeout. -/
def execHeartbeat (s : State) : Host.Outcome State Fault Refusal :=
  .next <|
    if s.sf.hbLost then ((s.sfU (fun m => { m with hbLost := false })).sat SF_LATE_CNT_HB 1).note SF_STAT_HB_LATE 0x1107 3 0 else s

/-- HEARTBEAT_TIMEOUT (R621). -/
def execHeartbeatTimeout (s : State) : Host.Outcome State Fault Refusal :=
  .next <|
    if s.sf.hbLost || s.hbMasked then s
    else
      let s := s.sfU (fun m => { m with hbLost := true })
      let s := State.each (upTo 8) (fun a t => t.sfRetract a) s
      let s := (State.each (upTo 4) (fun i t => t.sfBridge i) s).sfHold (upTo 4)
      s.sfTrip 5 0 SF_STAT_HB_LOST 5 0x1106

/-- RETRACT_HOLD_END (R621): RET_HOLD is over, and the spindles concerned are shorted. -/
def execRetractHoldEnd (s : State) : Host.Outcome State Fault Refusal :=
  .next <|
    let l := (upTo 4).filter (fun i => bitOf s.sf.holdMask i = 1)
    let s := s.sfU (fun m => { m with holdMask := 0 })
    State.each l (fun i t => if t.phase i = phStopped || t.phase i = phWait then t else t.goShort i) s

/-- SELFTEST (R625). -/
def State.selftest (s : State) : State :=
  if s.sf.testing then s.p SF_CMD_ERR 3
  else if s.mode ≠ mMaint || (upTo 4).any (fun i => decide (s.phase i ≠ phStopped)) || (upTo 8).any (fun a => s.loaded a) then
    s.p SF_CMD_ERR 1
  else (s.off SF_CMD_ERR).sfU (fun m => { m with testing := true })

def execSelftest (s : State) : Host.Outcome State Fault Refusal := .next s.selftest

/-- SELFTEST_DONE (R625): each result in the layout of SF_TEST. -/
def execSelftestDone (res : BitVec 22) (s : State) : Host.Outcome State Fault Refusal :=
  .next <|
    if !s.sf.testing then s
    else
      let s := ((s.sfU (fun m => { m with testing := false })).wr SF_TEST (BitVec.ofNat 32 res.toNat)).on SF_STAT_TEST_DONE
      if res.toNat = 2 ^ 22 - 1 then s else s.fault SF_STAT_TEST_FAIL 3 7 0x1108 0

/-- Some trip condition still holds (R623): the bus, a spindle's speed, a coil current, a temperature, or the heartbeat. -/
def State.sfHolds (s : State) : Bool :=
  decide (s.g (SP_BUS_VBUS 0) ≥ 1460) || (upTo 4).any (fun i => decide (s.g (SP_SPEED_MEAS i) > 8 * clampN 0x1C84 0x1EF0 (s.g SF_LIM_SPD_OVS))) ||
    (upTo 8).any (fun a => decide ((s.act a).coil.natAbs > min 0x9C4 (s.g SF_LIM_VCM_VCM_ABS))) ||
    s.sf.tripRun.any (fun x => decide (x.2 ≥ 1)) || s.sf.hbLost

/-- CLEAR_CAUSE (R623). -/
def State.clearCause (s : State) : State :=
  if s.sf.testing then s.p SF_CMD_ERR 3
  else if s.sfHolds then s.p SF_CMD_ERR 2
  else ((s.off SF_CMD_ERR).off SF_CAUSE_CAUSE).off SF_CAUSE_UNIT

def execClearCause (s : State) : Host.Outcome State Fault Refusal := .next s.clearCause

end Sys2Proof.Machine
end

