-- ==== Sys2Proof/Machine/Functions.lean ====
section
/-! DEFINITION. Machine/Functions.lean: starting and stopping every function with an EN field (R52–R57): what each chapter's
start-up and shut-down sequences do, and the meanings of the four rows. -/

namespace Sys2Proof.Machine

open Reg

/-! What a shut-down begins with. -/

/-- T1 and T2 of a spindle's shut-down (R235): its actuators unload, and it stops once they are UNLOADED. -/
def State.spDown (s : State) (i : Nat) : State :=
  let s := (s.unloadAct (2 * i) ucSpindle).unloadAct (2 * i + 1) ucSpindle
  (s.spUp i (fun x => { x with stopAfter := true })).spindleFree i

/-- STOPPING begins. -/
def State.stopBegin (s : State) (f : Func) : State :=
  match f with
  | .sv a => s.unloadAct a.val ucShutdown
  | .sp i => s.spDown i.val
  | .dmch n => s.dPause n.val
  | .dm => State.each (upTo 64) (fun n t => if t.dBusy n then t.dPause n else t) s
  | _ => s

/-! How a shut-down ends. -/

/-- A DMA channel has drained: it is idle, paused, halted or faulted (R508). -/
def State.dDrained (s : State) (n : Nat) : Bool := !s.dBusy n || s.is (DM_CH_STAT_PAUSED n) || s.dFaulted n

/-- What the sequence of a shut-down waits for. -/
def State.stopReady (s : State) (f : Func) : Bool :=
  match f with
  | .lk => s.is LK_CTL_PASS
  | .qm => s.cm.table.isEmpty
  | .cm => s.cm.table.all (fun x => x.2.status.isSome)
  | .hc => s.hc.lines.all (fun l => l.2.state == 2) && s.hc.wb.isEmpty
  | .dm => (upTo 64).all (fun n => s.dDrained n)
  | .bm => true
  | .jn => s.jn.commit.isNone
  | .ar => s.ar.pe.isEmpty
  | .rb => s.g RB_RS_STAT_STATE = rsNone || s.ar.stripes.all (fun (w : StripeWrite) =>
      decide (w.vol ≠ s.g RB_RS_STAT_SHADOW) || w.strips.all (fun x => x.held))
  | .mc => s.mc.ctx.all (fun x => !x.2.busy)
  | .vol v => s.cm.table.all (fun x => x.2.status.isSome || !x.2.started || decide (x.2.opc ≥ 0x40) || decide (x.2.vol ≠ v.val))
  | .ch c => (s.ch c.val).dec.isEmpty && !(s.ch c.val).rdGate && !(s.ch c.val).wrGate &&
      (s.ld (c.val / 4)).solo.all (fun v => decide (v.ch ≠ c.val))
  | .ld c => (s.ld (c.val / 4)).queue.all (fun l => decide (l.ch ≠ c.val))
  | .sv a => !s.loaded a.val
  | .sp i => decide (s.phase i.val = phStopped)
  | .dmch n => s.dDrained n.val

/-- Cached contexts are written back to both copies (R435 T3). -/
def State.ctxFlush (s : State) : State :=
  let s := State.each s.qm.cache (fun x t => t.ctxWriteBack x.1 x.2) s
  s.qmU (fun m => { m with cache := [], scan := [], reading := [], returned := [] })

/-- The last actions of a shut-down, STATE apart. -/
def State.stopEnd (s : State) (f : Func) : State :=
  match f with
  | .qm => s.ctxFlush
  | .hc => (s.hcU (fun h => { h with lines := [], trackers := [] })).hcOcc
  | .dm => State.each (upTo 64) (fun n t => if t.dFaulted n then t.faultEnd n else t) s
  | .ar =>
    let s := s.cmU (fun c => { c with waits := c.waits.filter (fun w => !w.gather) })
    (s.arU (fun a => { a with stripes := [], gather := [] })).rbU (fun r => { r with claims := [] })
  | .rb => s.rbStop
  | .mc => (s.mcU (fun m => { m with ctx := [], turn := [] })).mcOcc
  | .vol v => s.volStop v.val
  | .ch c => (s.chUp c.val (fun x => { x with settling := none })).setActive c.val 0xF
  | .dmch n => s.dRelease n.val
  | _ => s

/-! How a start-up ends. -/

/-- A zone-table entry is valid (R98). -/
def zoneOk (rate spt : Nat) : Bool :=
  decide (3200 ≤ rate) && decide (rate ≤ 5600) && decide (1 ≤ spt) && decide (spt ≤ 440 * (rate * 17739 / 1000 - 64) / 36992)

/-- Every entry of a channel's zone table is valid (R99). -/
def State.zonesOk (s : State) (c : Nat) : Bool :=
  (upTo 32).all (fun z => zoneOk (s.g (CH_ZTA_RATE c z)) (s.g (CH_ZTA_SPT c z)))

/-- SP_MOTOR passes its check (R235 S3). -/
def State.motorOk (s : State) (i : Nat) : Bool :=
  let n := s.g (SP_MOTOR_POLES i)
  let ke := s.g (SP_MOTOR_KE i)
  decide (2 ≤ n) && decide (n ≤ 8) && decide (950 ≤ ke) && decide (ke ≤ 1100) && s.is (SP_MOTOR_RS i) && s.is (SP_MOTOR_LS i)

/-- Size of the configuration in BM_CFG, MiB (R528); 0 for one that is not supported. -/
def State.bmConfig (s : State) : Nat :=
  match s.g BM_CFG_WIDTH, s.g BM_CFG_DENS, s.g BM_CFG_RANKS with
  | 1, 1, 0 => 65536
  | 1, 0, 1 => 65536
  | 1, 0, 0 => 32768
  | 0, 0, 0 => 65536
  | _, _, _ => 0

/-- What the sequence of a start-up waits for. -/
def State.startReady (s : State) (f : Func) : Bool :=
  match f with
  | .lk => s.switched && !s.is LK_CTL_PASS &&
      (upTo 2).all (fun p => decide (s.g (LK_PORT_STAT_PSTATE p) = psUp) || (s.port p).down)
  | .qm => decide (s.g BM_CTL_STATE = stOn)
  | .cm => decide (s.g BM_CTL_STATE = stOn)
  | .mc => decide (s.g BM_CTL_STATE = stOn)
  | .jn => false
  | .rb => decide (s.g JN_CTL_STATE = stOn)
  | .bm => s.switched
  | .ch _ => s.switched
  | .sv _ => s.switched
  | .sp _ => s.switched
  | _ => true

/-- Contexts at a start of the queue manager (R435 S3). -/
def State.qmStart (s : State) : State :=
  if s.is QM_CFG_KEEP then s.qmKeep
  else
    let s := State.each s.qm.live (fun q t => t.ctxWriteBack q { t.ctxMem q with sqState := qDisabled, cqState := qDisabled }) s
    (s.qmU (fun m => { m with db := [], live := [], chunks := [], cq := [], cache := [], scan := [], reading := [], returned := [] })).ovfFree

/-- Buffer memory at the end of S4 (R558): zero everywhere, correct check bits, an empty directory. -/
def State.bmStart (s : State) : State :=
  let s := s.bmU (fun b =>
    { hot := b.hot, fine := b.fine, cacheAt := s.pair BM_CACHE_BASE_LO BM_CACHE_BASE_HI, cacheMib := s.g BM_CACHE_SIZE_MIB })
  (s.edSet []).p BM_SIZE_MIB s.bmConfig

/-- The last actions of a start-up, and whether it ends in ON; STATE apart. `bad`: DDR5 channels whose training failed. -/
def State.startEnd (s : State) (f : Func) (bad : Nat) : Bool × State :=
  match f with
  | .qm => (true, s.qmStart)
  | .cm => (true, (s.cmU (fun m => { m with table := [], waits := [], recons := [], trackers := [], admin := [], sched := [] })).cmOcc)
  | .hc => (true, (s.hcU (fun h => { h with lines := [], wb := [], trackers := [] })).hcOcc)
  | .dm => (true, State.each (upTo 64) (fun n t => t.dRelease n) s)
  | .bm =>
    let bad := if s.bmConfig = 0 then 15 else bad
    if bad = 0 then (true, s.bmStart)
    else (false, (s.p BM_ERR_INFO_CHAN_MASK bad).fault BM_STAT_TRAIN_BAD 9 5 0x0D04 0)
  | .mc => (true, ((s.mcU (fun m => { m with ctx := [], turn := [] })).mcOcc).custStart)
  | .ch c =>
    if s.zonesOk c.val then (true, s)
    else (false, s.note (CH_STAT_ZT_BAD c.val) 0x0204 (16 + c.val) 0)
  | .sv a =>
    if s.g (SV_COEF_MANT a.val 20) ≠ 0 then (true, s.p (SV_MODE_ASTATE a.val) aUnloaded)
    else (false, s.on (SV_STAT_COEF_BAD a.val))
  | .sp i =>
    if s.motorOk i.val then (true, (s.goPhase i.val phStopped).p (SP_MODE_DEPTH_LIM i.val) (s.depthMax i.val))
    else (false, s.on (SP_STAT_MOTOR_BAD i.val))
  | _ => (true, s)

/-! EN written. -/

/-- The pace register of a function (R20), if it has one. -/
def paceOf (f : Func) : Option Nat := (paceBlocks.find? (fun x => decide (x.2.1 = f))).map (·.1)

/-- PACE has no measurement once the block leaves OFF (R20). -/
def State.paceFresh (s : State) (f : Func) : State :=
  match paceOf f with
  | some r => s.off ⟨r, 31, 1⟩
  | none => s

/-- LOOPBACK takes effect as a channel leaves OFF (R104). -/
def State.loopLatch (s : State) (f : Func) : State := match f with
  | .ch c => s.chUp c.val (fun x => { x with loop := s.is (CH_CTL_LOOPBACK c.val) })
  | _ => s

/-- STARTING begins (R53, R54). LK trains at the tap once the timebase is switched (R373, R398). -/
def State.startBegin (s : State) (f : Func) : State :=
  let s := (((s.p (Func.st f) stStarting).off (Func.pend f)).paceFresh f).loopLatch f
  match f with
  | .lk => if s.switched then s.lkTap else s
  | _ => s

/-- EN = 1 is written (R53, R54, R56). -/
def State.fnEnable (s : State) (f : Func) : State :=
  let was := s.g (Func.st f)
  let s := s.enableFn f
  if was = stOff then s.startBegin f else s

/-- EN = 0 is written (R53, R55, R56). -/
def State.fnDisable (s : State) (f : Func) : State :=
  let was := s.g (Func.st f)
  let s := s.disableFn f
  if was = stOn then (s.stopBegin f).careFrom s else s

def State.fnLocked (s : State) (f : Func) : Bool :=
  match f with
  | .dmch n => s.dmaLocked n.val
  | _ => false

/-- FUNCTION_ENABLE. -/
def execFunctionEnable (f : Func) (s : State) : Host.Outcome State Fault Refusal :=
  .next (if s.fnLocked f then s else s.fnEnable f)

/-- FUNCTION_DISABLE. -/
def execFunctionDisable (f : Func) (s : State) : Host.Outcome State Fault Refusal :=
  .next (if s.fnLocked f then s else s.fnDisable f)

/-- The idle level keeps the channels powered down (R641). -/
def State.chansIdle (s : State) : Bool :=
  decide (s.mode = mService) && !s.md.exiting && (s.is MD_IDLE_STAT_LEVEL || s.is MD_IDLE_STAT_STEPPING)

/-- A channel is in service again; a member whose last cause of R256 this was returns (R257). -/
def State.inService (s : State) (c : Nat) : State :=
  if (s.ch c).oos then State.each (membersOf (c / 4)) (fun m t => t.memberClear m 2) (s.chUp c (fun x => { x with oos := false })) else s

/-- ON is reached: a shut-down queued while STARTING begins at once (R56). -/
def State.nowOn (s : State) (f : Func) : State :=
  let s := s.p (Func.st f) stOn
  if s.g (Func.en f) = 0 then (s.p (Func.st f) stStopping).stopBegin f
  else match f with
    | .ch c => if s.chansIdle then (s.inService c.val).p (CH_CTL_STATE c.val) stStopping else s.inService c.val
    | _ => s

/-- FUNCTION_STARTUP_DONE (R53, R56): volumes and RB by their own sequences (R245, R354); JN's start-up is the replay and ends
with it (R311). -/
def execFunctionStartupDone (f : Func) (bad : BitVec 4) (s : State) : Host.Outcome State Fault Refusal :=
  .next <|
    if s.g (Func.st f) ≠ stStarting || !s.startReady f then s
    else match f with
      | .vol v =>
        let s := s.volStart v.val
        (if s.g (AR_VOL_CTL_STATE v.val) = stOn then s.nowOn f else s).volWaits v.val
      | .rb => s.rbStart.nowOn f
      | .ar => (s.nowOn f).stripesAgain
      | .hc => (((s.startEnd f bad.toNat).2.nowOn f).wbRetry).hcRetry
      | _ =>
        let (ok, s) := s.startEnd f bad.toNat
        if ok then s.nowOn f else s.p (Func.st f) stOff

/-- OFF is reached: a pending enable starts the function again (R54). -/
def State.nowOff (s : State) (f : Func) : State :=
  let s := s.p (Func.st f) stOff
  if s.is (Func.pend f) then s.startBegin f else s

/-- FUNCTION_SHUTDOWN_DONE (R54, R55). -/
def execFunctionShutdownDone (f : Func) (s : State) : Host.Outcome State Fault Refusal :=
  .next <|
    if s.g (Func.st f) ≠ stStopping || !s.stopReady f then s
    else
      let s := (s.stopEnd f).nowOff f
      match f with
      | .vol v => s.volWaits v.val
      | _ => s

end Sys2Proof.Machine
end

