-- ==== Sys2Proof/Machine/Modes.lean ====
section
/-! DEFINITION. Machine/Modes.lean: mode transitions, SAFE, the timebase switch, the idle levels, and entering and leaving
REST (R630–R661). -/

namespace Sys2Proof.Machine

open Reg

/-! The exit to I0 (R645–R648). -/

/-- Something waits for the first demand after SAFE or an interrupted exit (R637, R648). -/
def State.exitDue (s : State) : Bool :=
  decide (s.md.restSpin ≠ 0) ||
    (upTo 8).any (fun a => decide (s.astate a = aUnloaded) && decide (s.g (SV_MODE_UNLOAD_CAUSE a) = ucIdle))

/-- The exit begins: channels start, spindles return to SP_SET.RPM or spin up, and each actuator unloaded with cause IDLE
loads, at once or when its spindle is regulated. -/
def State.exitStart (s : State) : State :=
  let spins := s.md.restSpin
  let was := s
  let s := s.mdU (fun m => { m with exiting := true, gotoRest := false, restSpin := 0 })
  let s := (s.off MD_IDLE_STAT_EXIT_PEND).off MD_IDLE_STAT_STEPPING
  let s := State.each (List.finRange 32) (fun c t =>
    if t.is (CH_CTL_EN c.val) && t.g (CH_CTL_STATE c.val) = stOff then t.startBegin (.ch c) else t) s
  let s := State.each (upTo 4) (fun i t =>
    if t.phase i = phStopped then
      if bitOf spins i = 1 && t.g (SP_CTL_STATE i) = stOn then t.spinUp i else t
    else if t.spTarget i ≠ was.spTarget i then t.retarget i else t) s
  State.each (upTo 8) (fun a t => if t.reloadDue a then t.loadStart a else t) s

/-- The exit has reached I0: no channel starts, and no actuator still loads or waits for its spindle. -/
def State.exitDone (s : State) : Bool :=
  (upTo 32).all (fun c => decide (s.g (CH_CTL_STATE c) ≠ stStarting)) &&
  (upTo 8).all (fun a =>
    if s.astate a = aUnloaded then
      decide (s.g (SV_MODE_UNLOAD_CAUSE a) ≠ ucIdle) || decide (s.phase (a / 2) = phStopped) || decide (s.g (SV_CTL_STATE a) ≠ stOn)
    else decide (s.astate a ≠ aLoading))

/-! Stepping down (R641–R644, R650, R651). -/

/-- Step 3 of R651: every spindle stops, and those that turned are recorded. -/
def State.restStop (s : State) : State :=
  let spin := (upTo 4).foldl (fun m i => if s.turning i || s.phase i = phWait then setBit m i else m) 0
  let s := s.mdU (fun m => { m with rest := .stopping, restSpin := spin })
  State.each (upTo 4) (fun i t => if t.phase i = phStart || t.phase i = phCoast then t.goShort i else t.stopSpindle i) s

/-- Step 2 of R651: no entry is taken; step 3 follows once the commands taken are complete. -/
def State.restDrain (s : State) : State :=
  let s := s.mdU (fun m => { m with rest := .draining })
  if s.cm.table.isEmpty then s.restStop else s

/-- A step down starts, unless a reason of R644 holds. -/
def State.idleStep (s : State) : State :=
  let n := s.g MD_IDLE_STAT_LEVEL
  if s.mode ≠ mService || s.md.rest ≠ .awake || s.md.exiting || s.is MD_IDLE_STAT_STEPPING || s.timersHeld ||
      s.idleTarget ≤ n || s.idleBlock (decide (n = 3)) ≠ 0 then s
  else
    let was := s
    let s := s.on MD_IDLE_STAT_STEPPING
    if n = 0 then s.chansDown
    else if n = 1 then State.each (upTo 8) (fun a t => t.unloadAct a ucIdle) s
    else if n = 2 then
      let s := State.each (upTo 8) (fun a t => t.unloadAct a ucIdle) s
      State.each (upTo 4) (fun i t => if t.turning i && t.spTarget i ≠ was.spTarget i then t.retarget i else t) s
    else s.restDrain

/-- The condition of the table of R641 for the step that runs. -/
def State.stepMet (s : State) : Bool :=
  let n := s.g MD_IDLE_STAT_LEVEL
  if n = 0 then (upTo 32).all (fun c => decide (s.g (CH_CTL_STATE c) = stOff))
  else if n = 1 then (upTo 8).all (fun a => !s.loaded a)
  else (upTo 4).all (fun i => !s.turning i || s.is (SP_MODE_REG i))

/-- IDLE_TIMER_EXPIRY (R643, R644, R649): idle timers are suspended in MAINT and during an activation. -/
def execIdleTimerExpiry (group : Fin 16) (level : Fin 4) (s : State) : Host.Outcome State Fault Refusal :=
  .next <|
    if s.mode ≠ mService || s.g CM_ACT_PHASE ≠ 0 || s.timersHeld then s
    else (s.mdU (fun m => { m with reached := m.reached.putD group.val 0 (setBit (m.reached.getD group.val 0) level.val) })).idleStep

/-- IDLE_STEP_DONE (R641, R646, R650, R651): a step down, a drain or an exit has reached its end. -/
def execIdleStepDone (s : State) : Host.Outcome State Fault Refusal :=
  .next <|
    match s.md.rest with
    | .draining => if s.cm.table.isEmpty then s.restStop else s
    | .awake =>
      if s.md.exiting then
        if s.exitDone then (s.mdU (fun m => { m with exiting := false })).off MD_IDLE_STAT_LEVEL else s
      else if s.is MD_IDLE_STAT_STEPPING && s.stepMet then
        let s := (s.inc MD_IDLE_STAT_LEVEL).off MD_IDLE_STAT_STEPPING
        if s.is MD_IDLE_STAT_EXIT_PEND then s.exitStart else s.idleStep
      else s
    | _ => s

/-- DEMAND (R637, R645, R646, R649): a demand that loses to a step is latched; during a halt it waits. -/
def execDemand (s : State) : Host.Outcome State Fault Refusal :=
  .next <|
    if s.is QM_HALT_HALTED || !s.serving then s
    else if s.is MD_IDLE_STAT_STEPPING || s.md.rest ≠ .awake then (s.on MD_IDLE_STAT_EXIT_PEND).sat MD_PEND_CNT_COUNT 1
    else if s.md.exiting then s
    else if s.is MD_IDLE_STAT_LEVEL || s.exitDue then s.exitStart
    else s

/-! Modes (R631, R636). -/

/-- A fault of level L3 or above is unacknowledged. -/
def State.unackedL3 (s : State) : Bool :=
  (upTo 60).any (fun u => decide (s.g (FT_U_STAT_LEVEL u) ≥ 3) && decide (s.g (FT_U_PEND_MASK u) ≠ 0))

/-- Idle timers restart from 0 (R649). -/
def State.idleZero (s : State) : State := s.mdU (fun m => { m with reached := [], gotoRest := false })

/-- Boot ends (R636, R640): in SAFE where a request is latched, and in MAINT where the pack format record is bad. -/
def State.bootEnd (s : State) (target : Nat) : State :=
  if s.md.safeReq ≠ 0 then (s.safeNow s.md.safeReq).mdU (fun m => { m with safeReq := 0 })
  else s.goMode (if s.md.pfrBad then mMaint else target)

/-- SAFE is left (R636, R637): what SAFE unloaded counts as unloaded with cause IDLE. -/
def State.safeExit (s : State) : State :=
  let s := ((s.goMode mMaint).note MD_STAT_SAFE_EXIT 0x0F03 0 0).idleZero
  State.each (upTo 8) (fun a t =>
    if t.g (SV_MODE_UNLOAD_CAUSE a) = ucSafe && (t.astate a = aUnloaded || t.astate a = aUnloading) then
      (t.p (SV_MODE_UNLOAD_CAUSE a) ucIdle).actUp a (fun x => { x with causes := x.causes.map (fun k => if k = ucSafe then ucIdle else k) })
    else t) s

/-- GOTO_SERVICE: the reason of MD_CMD.ERR, and the transition. -/
def State.gotoService (s : State) : State :=
  let e := if s.is MD_MODE_HELD then 2 else if s.md.rest ≠ .awake then 4
    else if s.mode = mBoot || s.mode = mMaint then 0 else 1
  let s := s.p MD_CMD_ERR e
  if e ≠ 0 then s else if s.mode = mBoot then s.bootEnd mService
  else (State.each (upTo 8) (fun a t => t.off (SV_TSI_CTL_EN a)) (s.goMode mService)).idleZero

/-- GOTO_MAINT. -/
def State.gotoMaint (s : State) : State :=
  let m := s.mode
  let e := if s.is MD_MODE_HELD then 2 else if s.md.rest ≠ .awake then 4
    else if m = mBoot || m = mService then 0
    else if m = mSafe then if s.g SF_CAUSE_CAUSE ≠ 0 || s.unackedL3 then 3 else 0
    else 1
  let s := s.p MD_CMD_ERR e
  if e ≠ 0 then s
  else if m = mBoot then s.bootEnd mMaint
  else if m = mSafe then s.safeExit
  else (s.goMode mMaint).idleZero

/-- GOTO_REST (R650). -/
def State.gotoRest (s : State) : State :=
  let e := if s.is MD_MODE_HELD then 2 else if s.md.rest ≠ .awake then 4 else if s.mode = mService then 0 else 1
  let s := s.p MD_CMD_ERR e
  if e ≠ 0 then s else (s.mdU (fun m => { m with gotoRest := true })).idleStep

def execGotoService (s : State) : Host.Outcome State Fault Refusal := .next s.gotoService
def execGotoMaint (s : State) : Host.Outcome State Fault Refusal := .next s.gotoMaint
def execGotoRest (s : State) : Host.Outcome State Fault Refusal := .next s.gotoRest

/-- SAFE_REQUEST (R634, R636, R657): `l3` for an escalation, else the safety monitor. -/
def execSafeRequest (l3 : Bool) (s : State) : Host.Outcome State Fault Refusal := .next (s.enterSafe (if l3 then 2 else 1))

/-! Timebase and timers. -/

/-- TIMEBASE_SWITCH (R32, R638). -/
def execTimebaseSwitch (s : State) : Host.Outcome State Fault Refusal := .next s.tbAsk

/-- CRYSTAL_LOCK (R638, R700): the crystal-locked source reports lock; the ROM makes the switch it asked for. -/
def execCrystalLock (s : State) : Host.Outcome State Fault Refusal :=
  .next <|
    if s.mode = mOff then s
    else
      let s := s.on MD_TB_LOCK
      if s.bt.wantSwitch then s.romLink else s

/-- IDLE_CFG_WRITE (R661). -/
def execIdleCfgWrite (group : Fin 16) (level : Fin 4) (time : BitVec 24) (s : State) : Host.Outcome State Fault Refusal :=
  .next (s.plainWrite MD_IDLE_CFG (pk [(group.val, 4), (level.val, 2), (0, 2), (time.toNat, 24)]) 0)

/-- One cycle of the source that drives the timebase (R29, R30, R653): 5 ns of the internal oscillator, 1 ns of the
crystal-locked source, 40 ns of the crystal reference in REST; none in OFF. DESIGN CHOICE 98: a frame on a preamp bus ends. -/
def State.tick (s : State) : State :=
  let d := if s.mode = mOff then 0 else if s.mode = mRest then 40 else if s.switched then 1 else 5
  State.each (upTo 8) (fun a t => t.paIdle a) { s with now := (s.now + d) % 2 ^ 64 }

/-- TIME_LO_READ (R662): the high word is latched. -/
def State.timeRead (s : State) : State :=
  { s with rdata := BitVec.ofNat 32 s.now }.wr MD_TIME_HI (BitVec.ofNat 32 (s.now / 2 ^ 32))

def execTimeLoRead (s : State) : Host.Outcome State Fault Refusal := .next s.timeRead

/-! What REST keeps (R658–R660). -/

/-- Registers saved with their RW, RWL and EN fields. -/
def keptRegs : List Nat :=
  [MD_LOCK, MD_IDLE_CTL, MD_SAVE_BASE_LO, MD_SAVE_BASE_HI, LK_CTL, LK_CFG, LK_PORT_CFG 0, LK_PORT_CFG 1,
    QM_CTL, QM_CFG, QM_CTX_BASE_LO, QM_CTX_BASE_HI, QM_OVF_BASE_LO, QM_OVF_BASE_HI, QM_OVF_CHUNKS, QM_IRQ_BASE_LO, QM_IRQ_BASE_HI,
    CM_CTL, CM_CFG, CM_RA_CFG, HC_CTL, HC_CFG, HC_DIE, DM_CTL, DM_CFG, DM_HWT_CTL,
    BM_CTL, BM_CFG, BM_SCRUB_CFG, BM_CODE_BASE_LO, BM_CODE_BASE_HI, BM_CODE_SIZE, BM_CACHE_BASE_LO, BM_CACHE_BASE_HI,
    BM_CACHE_SIZE, BM_ED_CFG, JN_CTL, JN_CFG, AR_CTL, AR_CFG, RB_CTL, RB_CFG, RB_PRIV,
    MC_CTL, MC_CFG, MC_IMG_BASE_LO, MC_IMG_BASE_HI, MC_CUST_BASE_LO, MC_CUST_BASE_HI, MC_CUST_SIZE]

/-- Offsets of the registers saved in each channel, actuator and spindle. -/
def keptChan : List Nat :=
  ([CH_CTL 0, CH_SYNC_CFG 0, CH_SYNC_PAT 0, CH_RESYNC_PAT 0, CH_AGC 0, CH_TR_CFG 0, CH_EQ_CTL 0, CH_DEC_CFG 0, CH_PA_CFG 0,
    LD_CTL 0, LD_R1_CFG 0, LD_R2_CFG 0, LD_R3_CFG 0, LD_R4_CFG 0, LD_R5_CFG 0, LD_WG_CFG 0, LD_VFY_CFG 0, LD_RDR_OFF 0] ++
  (upTo 24).flatMap (fun n => [CH_EQ_TAP 0 n, LD_RTAP 0 n]) ++ (upTo 32).flatMap (fun z => [CH_ZTA 0 z, CH_ZTB 0 z])).map (· - CH_CTL 0)
def keptAct : List Nat :=
  ([SV_CTL 0, SV_SETTLE 0, SV_SEEK_CFG 0, SV_LIM 0, SV_FB_CFG 0, SV_UNLOAD 0, SV_BEMF 0, SV_RC_CTL 0] ++
  (upTo 12).map (fun n => SV_HOFS 0 n) ++ (upTo 64).map (fun k => SV_COEF 0 k)).map (· - SV_CTL 0)
def keptSpin : List Nat :=
  [SP_CTL 0, SP_SET 0, SP_MOTOR 0, SP_LIM 0, SP_REG_CFG 0, SP_PWM_CFG 0, SP_OBS_CFG 0, SP_BRAKE_CFG 0].map (· - SP_CTL 0)

/-- Registers of R658's table: their RW, RWL and EN fields are saved. -/
def fieldsKept (a : Nat) : Bool :=
  keptRegs.contains a ||
  (upTo 16).any (fun e => a = JN_EXT_MEM e || a = JN_EXT_MBA_LO e || a = JN_EXT_MBA_HI e || a = JN_EXT_LEN e) ||
  (decide (AR_VOL_CTL 0 ≤ a) && decide (a < AR_VOL_CTL 64)) ||
  (decide (CH_CTL 0 ≤ a) && decide (a < CH_CTL 32) && keptChan.contains ((a - CH_CTL 0) % 0x10000)) ||
  (decide (SV_CTL 0 ≤ a) && decide (a < SV_CTL 8) && keptAct.contains ((a - SV_CTL 0) % 0x10000)) ||
  (decide (SP_CTL 0 ≤ a) && decide (a < SP_CTL 4) && keptSpin.contains ((a - SP_CTL 0) % 0x10000))

/-- Registers saved whole: those R658 names beside the field rule, and what the start-up of R655 finds again (DEDUCED). -/
def wholeKept (a : Nat) : Bool :=
  (decide (BT_STAT ≤ a) && decide (a < 0x20000)) || (decide (0x30000 ≤ a) && decide (a < 0x40000)) ||
  a = LK_ID || a = MD_REST_CNT || a = MD_TB || a = JN_MIRROR || (decide (AR_MEMSTATE 0 ≤ a) && decide (a < AR_MEMSTATE 12)) || a = AR_WSEQ

/-- PW_ and SF_ registers stay powered in PM. -/
def pmReg (a : Nat) : Bool := decide (0x20000 ≤ a) && decide (a < 0x30000)

/-- A register's saved word: RW and RWL fields as they are, the others at reset (R658, R660). -/
def keepFields (a : Nat) (v : Word) : Word :=
  match regFields a with
  | none => resetVal a
  | some fs => fs.foldl (fun w f => if f.acc = .rw || f.acc = .rwl then setField w f.lo f.w (fieldOf v f.lo f.w) else w) (resetVal a)

/-- What step 4 of R651 saves. -/
def State.restRegs (s : State) : Tbl Word :=
  s.regs.filterMap (fun x =>
    if wholeKept x.1 || pmReg x.1 then some x
    else if fieldsKept x.1 then
      let w := keepFields x.1 x.2
      if w = resetVal x.1 then none else some (x.1, w)
    else none)

/-- A directory entry as 32 bytes (R545). -/
def EdEnt.bits (e : EdEnt) : Nat :=
  pk [(e.first, 40), (e.vol, 6), (e.kind, 2), (e.count - 1, 8), (e.heat, 2), (e.ref, 6), (e.loc, 64), (e.jseq, 64)]

/-- The arrays of R659 are written to the save area. The bits of the presence map are free values: R548 does not give its
hash. -/
def State.saveArrays (s : State) : State :=
  let b := s.pair MD_SAVE_BASE_LO MD_SAVE_BASE_HI
  let (pm, s) := s.free
  let out (a : Nat) : Bool := decide (a < b) || decide (b + 0x478000 ≤ a)
  let m := s.bm.mem.filter (fun c => out c.1)
  let m := s.bm.ed.foldl (fun m x => Memory.wrN m (b + 32 * x.1) 32 x.2.bits) m
  let m := Memory.wrN m (b + 0x400000) 131072 pm
  let m := Memory.wrN m (b + 0x420000) 262144 ((upTo 65536).foldr (fun k n => s.hwtWord k % 2 ^ 32 + 2 ^ 32 * n) 0)
  let m := Memory.wrN m (b + 0x460000) 98304 ((upTo 98304).foldr (fun k n => s.ar.pat.getD k 0xFF % 256 + 256 * n) 0)
  s.bmU (fun x => { x with mem := m, err := x.err.filter (fun e => out e.1) })

/-- The order in which step 4 of R651 shuts the blocks down. -/
def restOrder : List Func :=
  [.cm, .qm, .mc, .dm, .hc] ++ (List.finRange 64).map Func.vol ++ [.ar, .rb, .jn] ++ (List.finRange 32).map Func.ch ++
    (List.finRange 32).map Func.ld ++ (List.finRange 8).map Func.sv ++ (List.finRange 4).map Func.sp

/-- Every block that is not OFF has drained as its own shut-down asks (R54, R651 step 4). -/
def State.restReady (s : State) : Bool := restOrder.all (fun f => decide (s.g (Func.st f) = stOff) || s.stopReady f)

/-- REST_SPINDLES_STOPPED (R651 step 4): the blocks shut down, and arrays and registers are saved. -/
def execRestSpindlesStopped (s : State) : Host.Outcome State Fault Refusal :=
  .next <|
    if s.md.rest ≠ .stopping || !(upTo 4).all (fun i => decide (s.phase i = phStopped)) then s
    else
      let u := State.each (upTo s.ar.pe.length) (fun _ t => t.peDone) s
      if !u.restReady then s else
      let s := State.each restOrder (fun f t =>
        if t.g (Func.st f) = stOff then t else ((t.stopEnd f).p (Func.st f) stOff).off (Func.pend f)) u
      let s := s.saveArrays
      (s.mdU (fun m => { m with rest := .saved, saved := s.restRegs })).off BM_CTL_STATE

/-- The core has no power: only PM, the always-on memory, MRAM and the DDR5 devices keep their contents. -/
def State.coreOff (s : State) : State :=
  let mode := s.rd MD_MODE
  let cause := (upTo 8).map (fun a => (a, s.g (SV_MODE_UNLOAD_CAUSE a)))
  let s := { s with
    regs := s.md.saved, chT := [], paT := [], ldT := [], actT := [], acc0 := {}, acc1 := {}, spT := [], spWait := [],
    cm := { nextId := s.cm.nextId }, hc := {}, dm := { hwt := s.dm.hwt }, lk := { evTag := s.lk.evTag, ownTag := s.lk.ownTag },
    mc := { s.mc with ctx := [], turn := [], stage := 0, install := none },
    ar := { s.ar with stripes := [], gather := [], pe := [] } }
  let s := State.each cause (fun x t => t.p (SV_MODE_UNLOAD_CAUSE x.1) x.2) (s.wr MD_MODE mode)
  s.mdU (fun m => { m with saved := [] })

/-- LK starts as EN was saved (R655 step 3). -/
def State.linkWake (s : State) : State :=
  if s.is LK_CTL_EN && s.g LK_CTL_STATE = stOff then s.startBegin .lk else s

/-- REST_POWER_OFF (R651 step 5): a demand latched during the entry wakes the device at once. -/
def execRestPowerOff (s : State) : Host.Outcome State Fault Refusal :=
  .next <|
    if s.md.rest ≠ .saved then s
    else
      let demand := s.is MD_IDLE_STAT_EXIT_PEND
      let s := (s.off LK_CTL_STATE).passClose
      let s := ((s.raise 0x0F04 0 0).coreOff.inc MD_REST_CNT_COUNT).goMode mRest
      if demand then (s.mdU (fun m => { m with rest := .waking false, gotoRest := false })).linkWake
      else s.mdU (fun m => { m with rest := .asleep, gotoRest := false })

/-- WAKE (R654, R657): a frame for the saved ID, or a trip of the safety monitor. -/
def execWake (trip : Bool) (s : State) : Host.Outcome State Fault Refusal :=
  .next <|
    match s.md.rest with
    | .asleep => (s.mdU (fun m => { m with rest := .waking trip, safeReq := if trip then 1 else m.safeReq })).linkWake
    | .waking t => if s.mode = mRest then (s.mdU (fun m => { m with rest := .waking (t || trip) })).linkWake else s
    | _ => s

/-- The blocks start with their restored EN, the buffer keeping its contents (R560) and the queue contexts kept (R655
step 3). -/
def State.blocksOn (s : State) : State :=
  let go (f : Func) (act : State → State) (t : State) : State := if t.is (Func.en f) then ((act t).p (Func.st f) stOn).paceFresh f else t
  let s := go .bm (fun t => (t.bmU (fun b => { b with
    hold := 0, cacheAt := t.pair BM_CACHE_BASE_LO BM_CACHE_BASE_HI, cacheMib := t.g BM_CACHE_SIZE_MIB })).p BM_SIZE_MIB t.bmConfig) s
  let s := s.edSet s.bm.ed
  let s := go .jn (fun t => t.replay 0 []) s
  let s := go .rb (fun t => t.rbStart) s
  let s := go .ar (fun t => t) s
  let s := State.each (upTo 64) (fun v t => if t.is (AR_VOL_CTL_EN v) then t.volStart v else t) s
  let s := s.spillCheck.stripesAgain
  let s := go .qm (fun t => t.qmKeep) s
  let all := [Func.hc, .dm, .mc, .cm] ++ (List.finRange 32).map Func.ch ++ (List.finRange 32).map Func.ld ++
    (List.finRange 8).map Func.sv ++ (List.finRange 4).map Func.sp
  State.each all (fun f t =>
    if t.is (Func.en f) && t.g (Func.st f) = stOff then
      let (ok, t) := (t.loopLatch f).startEnd f 0
      (t.p (Func.st f) (if ok then stOn else stOff)).paceFresh f
    else t) s

/-- R656: the shadow word of every ACTIVE queue is read once. -/
def State.doorbellsAll (s : State) : State :=
  let keys := s.qm.live.flatMap (fun q =>
    let c := s.ctx q
    (if c.sqState = qActive then [2 * q] else []) ++ (if c.cqState = qActive then [2 * q + 1] else []))
  s.qmU (fun m => { m with db := keys.foldl (fun t k => t.ins k true) m.db })

/-- Causes of R256 that the restored blocks no longer show: a lost head, channels out of service. -/
def State.causesFresh (s : State) : State :=
  State.each (upTo 96) (fun m t => (t.memberClear m 1).memberClear m 2) s

/-- REST_EXIT_COMPLETE (R655 steps 2 to 5, R656, R657). After an entry that a SAFE request ended, only the blocks start. -/
def execRestExitComplete (s : State) : Host.Outcome State Fault Refusal :=
  .next <|
    match s.md.rest with
    | .waking trip =>
      if s.mode = mSafe then (s.blocksOn).mdU (fun m => { m with rest := .awake, saved := [] })
      else if s.is LK_CTL_EN && s.g LK_CTL_STATE ≠ stOn then s
      else
        let s := ((s.blocksOn.causesFresh).doorbellsAll).mdU (fun m => { m with rest := .awake })
        if trip then
          let src := if s.md.safeReq = 0 then 1 else s.md.safeReq
          ((s.note MD_STAT_REST_EXIT 0x0F05 0 0).safeNow src).mdU (fun m => { m with safeReq := 0 })
        else ((s.goMode mService).note MD_STAT_REST_EXIT 0x0F05 0 0).exitStart
    | _ => s

end Sys2Proof.Machine
end

