-- ==== Sys2Proof/Machine/Package.lean ====
section
/-! DEFINITION. Machine/Package.lean: power-on, the end of a power-down, and device resets (R57, R604–R609, R677, R681,
R736). -/

namespace Sys2Proof.Machine

open Reg

/-- Registers whose values stand in MRAM (R275). -/
def mramReg (a : Nat) : Bool := a = EV_POS || a = EV_SEQ || a = EV_PCYC || a = EV_HOURS || a = AR_WSEQ

/-- Every register takes its reset value and every die its state after reset; MODE is OFF and the pass is closed (R375, R677
step 4). MRAM, the firmware store, the fuses, PM's view of the feeds and what waits outside the module remain. `motion`: the
actuators and spindles go on as they are, under PM (R234, R608). -/
def State.dark (s : State) (motion : Bool) : State :=
  let hours := s.g PW_TEST_HOURS
  let kept (x : Nat × Word) : Bool := mramReg x.1 || (motion && decide (SV_CTL 0 ≤ x.1) && decide (x.1 < SP_CTL 4))
  let t : State := {
    pending := s.pending, freeCtr := s.freeCtr, sent := s.sent, regs := s.regs.filter kept, ev := s.ev.kept,
    jn := { s.jn with
      commit := none, waiting := [], retiring := [], redo := [], spillJob := none, spillDone := [], spilling := false, dieLate0 := false, dieLate1 := false },
    rb := { ft := s.rb.ft, ck := s.rb.ck, dev := s.rb.dev },
    lk := { evTag := s.lk.evTag, ownTag := s.lk.ownTag },
    dm := { hwt := s.dm.hwt },
    mc := { stored := s.mc.stored },
    bt := { slots := s.bt.slots, store := s.bt.store, reports := s.bt.reports, keys := s.bt.keys, fuse := s.bt.fuse, revoked := s.bt.revoked },
    ft := { resetLow := s.ft.resetLow },
    pw := { lostA := s.pw.lostA, lostB := s.pw.lostB, isoA := s.pw.isoA, isoB := s.pw.isoB, passAt := s.pw.passAt,
            orderly := s.pw.orderly, powered := s.pw.powered, startedB := s.pw.startedB, fromReset := s.pw.fromReset },
    actT := if motion then s.actT else [], spT := if motion then s.spT else [] }
  let t := ((t.off MD_MODE_MODE).p PW_TEST_HOURS hours).when t.pw.startedB (fun u => u.wr PW_CHAIN 0x4D)
  (t.feedShow false).feedShow true

/-- BOOT is entered (R631, R681): the timebase is 0, and EV_START is raised. -/
def State.boot (s : State) : State :=
  ({ s with now := 0 }.p MD_MODE_MODE mBoot).raise 0x0114 0x40 (pk [(b2n s.pw.fromReset, 1), (b2n s.pw.orderly, 1)])

/-- A device reset: the module stays in OFF while RESET_N is low. -/
def State.deviceReset (s : State) : State :=
  let s := (s.dark false).pwU (fun p => { p with fromReset := true })
  if s.ft.resetLow then s else s.boot

/-- DEVICE_RESET (R677): the FT_RESET record is durable and the pulse complete. -/
def execDeviceReset (s : State) : Host.Outcome State Fault Refusal :=
  .next (if s.ft.resetOf.isSome && !s.ft.pulse && s.ev.queue.all (fun r => decide (r.code ≠ 0x0104)) then s.deviceReset else s)

/-- RESET_PIN (R736): RESET_N has been low for 1 µs, or is released. -/
def execResetPin (low : Bool) (s : State) : Host.Outcome State Fault Refusal :=
  .next <|
    if low then
      let s := s.ftU (fun f => { f with resetLow := true })
      if s.pw.powered then s.deviceReset else s
    else if s.ft.resetLow then
      let s := s.ftU (fun f => { f with resetLow := false })
      if s.pw.powered then s.boot else s
    else s

/-- POWER_ON (R604, R609): which feeds have been present for 10 ms, and which chains reach regulation when started. -/
def execPowerOn (feedA feedB chainA chainB : Bool) (s : State) : Host.Outcome State Fault Refusal :=
  .next <|
    if s.mode ≠ mOff || s.pw.powered || !(feedA || feedB) then s
    else if !(chainA || chainB) then s.ftU (fun f => { f with pmHold := true })
    else
      let s := s.pwU (fun p =>
        { lostA := !feedA, lostB := !feedB, passAt := p.passAt, orderly := p.orderly, powered := true, startedB := !chainA, fromReset := false })
      let (tag, s) := ((s.dark false).sat EV_PCYC_COUNT 1).free
      let s := (s.lkU (fun l => { l with ownTag := tag % 2 ^ 32 })).btU (fun b => { b with reports := 0 })
      let s := s.dmU (fun d => { d with hwt := [] })
      if s.ft.resetLow then s else s.boot

/-- POWER_DOWN_COMPLETE (R307, R607): the commit in progress is durable, the superblock and the event records are written,
and the core supply is removed. -/
def execPowerDownComplete (s : State) : Host.Outcome State Fault Refusal :=
  .next <|
    if !s.pw.powerFail then s
    else
      let on := decide (s.g JN_CTL_STATE = stOn) || decide (s.g JN_CTL_STATE = stStopping)
      let s := match s.jn.commit with
        | some c => if on && s.anyDie then s.durable c else s
        | none => s
      let s := s.when on (fun t => t.sbWrite)
      (s.flushEvents.pwU (fun p => { p with orderly := true, powered := false })).dark true

end Sys2Proof.Machine
end

