-- ==== Sys2Proof/Machine/Window.lean ====
section
/-! DEFINITION. Machine/Window.lean: the control window as a requester sees it (R12–R16, R47–R51, R390, R633, R738–R740):
which accesses it takes, what a register access does beside its fields' access codes, and the frames that carry it. -/

namespace Sys2Proof.Machine

open Reg

/-! What a register's writes and reads do beside R12. -/

/-- Index of an address in a run of equal blocks: the block whose register `at0` (in block 0) it is. -/
def blockOf (at0 stride count addr : Nat) : Option Nat :=
  if at0 ≤ addr && (addr - at0) % stride = 0 && (addr - at0) / stride < count then some ((addr - at0) / stride) else none

/-- The function whose EN stands at an address (R52). -/
def funcAt (addr : Nat) : Option Func :=
  match ([.lk, .qm, .cm, .hc, .dm, .bm, .jn, .ar, .rb, .mc] : List Func).find? (fun f => Func.ctl f == addr) with
  | some f => some f
  | none =>
    match blockOf (AR_VOL_CTL 0) 0x40 64 addr with
    | some v => some (.vol (Fin.ofNat 64 v))
    | none =>
    match blockOf (CH_CTL 0) 0x10000 32 addr with
    | some c => some (.ch (Fin.ofNat 32 c))
    | none =>
    match blockOf (LD_CTL 0) 0x10000 32 addr with
    | some c => some (.ld (Fin.ofNat 32 c))
    | none =>
    match blockOf (SV_CTL 0) 0x10000 8 addr with
    | some a => some (.sv (Fin.ofNat 8 a))
    | none =>
    match blockOf (SP_CTL 0) 0x10000 4 addr with
    | some i => some (.sp (Fin.ofNat 4 i))
    | none => (blockOf (DM_CH_CTL 0) 0x100 64 addr).map (fun n => .dmch (Fin.ofNat 64 n))

/-- A register with a field OP (R738). -/
inductive OpReg where
  | md | bt | pw | sf | ev | qm | cm | jn | rb
  | sv (a : Fin 8)
  | sp (i : Fin 4)
  deriving DecidableEq, Repr

/-- A register whose access does more than its fields' codes say. -/
inductive RegAct where
  /-- EN of a function, and what else stands in its register. -/
  | fn (f : Func)
  | op (o : OpReg)
  | headsel (c : Fin 32)
  | paCmd (a : Fin 8)
  | smemAddr (c : Nat)
  | smemData (c : Nat)
  | coef (a k : Nat)
  | rcCtl (a : Fin 8)
  | rcData (a : Nat)
  | tsi (a : Nat)
  | capCtl (a : Fin 8)
  | capData (a : Nat)
  | spSet (i : Nat)
  | peSub
  | patData
  /-- A geometry register of a volume (R240). -/
  | geom (v : Nat)
  | ftData
  | hcDie
  | hcMaint
  | dmResume
  | hwtData
  /-- A register of a DMA channel; `shadow` its shadow set; `arm` SH_CTL. -/
  | dmch (n : Fin 64) (shadow arm : Bool)
  | ctxSel
  | dispData
  | storeData
  | tb
  | timeLo
  | unitAck (u : Nat)
  | unitCtl (u : Nat)
  | evData
  | sigData
  /-- R12 alone. -/
  | plain
  deriving DecidableEq, Repr

/-- The OP register at an address. -/
def opAt (addr : Nat) : Option OpReg :=
  if addr = MD_CMD then some .md
  else if addr = BT_CMD then some .bt
  else if addr = PW_CMD then some .pw
  else if addr = SF_CMD then some .sf
  else if addr = EV_CMD then some .ev
  else if addr = QM_Q_CMD then some .qm
  else if addr = CM_CMD then some .cm
  else if addr = JN_CMD then some .jn
  else if addr = RB_CMD then some .rb
  else match blockOf (SV_CMD 0) 0x10000 8 addr with
    | some a => some (.sv (Fin.ofNat 8 a))
    | none => (blockOf (SP_CMD 0) 0x10000 4 addr).map (fun i => .sp (Fin.ofNat 4 i))

/-- Registers of the blocks that stand once. -/
def onceAct (addr : Nat) : Option RegAct :=
  if addr = MD_TB then some .tb
  else if addr = MD_TIME_LO then some .timeLo
  else if addr = BT_SIG_DATA then some .sigData
  else if addr = EV_RD_DATA then some .evData
  else if addr = HC_DIE then some .hcDie
  else if addr = HC_MAINT then some .hcMaint
  else if addr = DM_RESUME then some .dmResume
  else if addr = DM_HWT_DATA then some .hwtData
  else if addr = AR_PE_SUB_HI then some .peSub
  else if addr = AR_PAT_DATA then some .patData
  else if addr = RB_FT_DATA then some .ftData
  else if addr = MC_CTX_SEL then some .ctxSel
  else if addr = MC_DISP_DATA then some .dispData
  else if addr = MC_STORE_DATA then some .storeData
  else none

/-- Registers of a channel, or of an actuator's preamp. -/
def channelAct (c addr : Nat) : RegAct :=
  if addr = CH_HEADSEL c then .headsel (Fin.ofNat 32 c)
  else if addr = CH_PA_CMD c && c % 4 = 0 then .paCmd (Fin.ofNat 8 (c / 4))
  else if addr = CH_SMEM_ADDR c then .smemAddr c
  else if addr = CH_SMEM_DATA c then .smemData c
  else .plain

/-- Registers of an actuator's servo. -/
def servoAct (a addr : Nat) : RegAct :=
  if addr = SV_RC_CTL a then .rcCtl (Fin.ofNat 8 a)
  else if addr = SV_RC_DATA a then .rcData a
  else if addr = SV_TSI_CTL a then .tsi a
  else if addr = SV_CAP_CTL a then .capCtl (Fin.ofNat 8 a)
  else if addr = SV_CAP_DATA a then .capData a
  else if SV_COEF a 0 ≤ addr && addr < SV_COEF a 64 && addr % 4 = 0 then .coef a ((addr - SV_COEF a 0) / 4)
  else .plain

/-- What a register at an address does. -/
def actAt (addr : Nat) : RegAct :=
  match funcAt addr, opAt addr, onceAct addr with
  | some f, _, _ => .fn f
  | none, some o, _ => .op o
  | none, none, some x => x
  | none, none, none =>
    if FT_U_STAT 0 ≤ addr && addr < FT_U_STAT 60 then
      let u := (addr - FT_U_STAT 0) / 0x100
      if addr = FT_U_ACK u then .unitAck u else if addr = FT_U_CTL u then .unitCtl u else .plain
    else if DM_CH_CTL 0 ≤ addr && addr < DM_CH_CTL 64 then
      let n := (addr - DM_CH_CTL 0) / 0x100
      .dmch (Fin.ofNat 64 n) (decide (DM_CH_SH_CFG n ≤ addr) && decide (addr ≤ DM_CH_SH_LEN n)) (addr == DM_CH_SH_CTL n)
    else if AR_VOL_CTL 0 ≤ addr && addr < AR_VOL_CTL 64 then
      let v := (addr - AR_VOL_CTL 0) / 0x40
      if AR_VOL_GEOM v ≤ addr && addr ≤ AR_VOL_PAT v then .geom v else .plain
    else if CH_CTL 0 ≤ addr && addr < CH_CTL 32 then channelAct ((addr - CH_CTL 0) / 0x10000) addr
    else if SV_CTL 0 ≤ addr && addr < SV_CTL 8 then servoAct ((addr - SV_CTL 0) / 0x10000) addr
    else match blockOf (SP_SET 0) 0x10000 4 addr with
      | some i => .spSet i
      | none => .plain

/-! Writes. -/

/-- The ERR field of an OP register, its code for an unknown OP, and its BUSY bit if it has one (R738). -/
def OpReg.err : OpReg → RF
  | .md => MD_CMD_ERR
  | .bt => BT_CMD_ERR
  | .pw => PW_CMD_ERR
  | .sf => SF_CMD_ERR
  | .ev => EV_CMD_ERR
  | .qm => QM_Q_CMD_ERR
  | .cm => CM_CMD_ERR
  | .jn => JN_CMD_ERR
  | .rb => RB_CMD_ERR
  | .sv a => SV_CMD_ERR a.val
  | .sp i => SP_CMD_ERR i.val

def OpReg.unknown : OpReg → Nat
  | .md => 5
  | .bt => 5
  | .pw => 5
  | .sf => 4
  | .ev => 3
  | .qm => 6
  | .cm => 3
  | .jn => 5
  | .rb => 7
  | .sv _ => 5
  | .sp _ => 5

def OpReg.busy : OpReg → Option RF
  | .bt => some BT_CMD_BUSY
  | .pw => some PW_CMD_BUSY
  | .ev => some EV_CMD_BUSY
  | .qm => some QM_Q_CMD_BUSY
  | .cm => some CM_CMD_BUSY
  | _ => none

/-- Width of the field OP. -/
def OpReg.width : OpReg → Nat
  | .ev => 2
  | .qm => 3
  | _ => 4

/-- An operation the register's table names, or none for "no action". -/
def State.opRun (s : State) (o : OpReg) (n : Nat) : Option State :=
  let arg := s.g RB_CMD_ARG
  match o, n with
  | .md, 1 => some s.gotoService
  | .md, 2 => some s.gotoMaint
  | .md, 3 => some s.gotoRest
  | .bt, 1 => some s.gateStart
  | .bt, 2 => some s.svnStart
  | .bt, 3 => some s.revokeVk0
  | .pw, 1 => some s.testStandby
  | .pw, 2 => some s.forceSwitch
  | .pw, 3 => some s.pwResync
  | .sf, 1 => some s.selftest
  | .sf, 2 => some s.clearCause
  | .ev, 1 => some (s.evClear 0)
  | .ev, 2 => some (s.evClear 1)
  | .qm, 1 => some (doQmRead s)
  | .qm, 2 => some (doQmCreate s)
  | .qm, 3 => some (doQmRecover s)
  | .qm, 4 => some (doQmDelete s)
  | .cm, 1 => some s.cmReset
  | .jn, 1 => some (doJnFormat s)
  | .jn, 2 => some (doJnResync s)
  | .rb, 1 => some (State.rbShow (s.rbFail arg))
  | .rb, 2 => some (State.rbShow (s.rbClear arg))
  | .rb, 3 => some (State.rbShow (s.rbReshape arg (s.g RB_CMD_SHADOW)))
  | .rb, 4 => some (State.rbShow s.rbPause)
  | .rb, 5 => some (State.rbShow s.rbResume)
  | .rb, 6 => some (State.rbShow (s.rbFtClear arg))
  | .rb, 7 => some (State.rbShow (s.rbForget arg))
  | .sv a, 1 => some (doLoad a s)
  | .sv a, 2 => some (doUnload a s)
  | .sv a, 3 => some (doSeek a s)
  | .sp i, 1 => some (doSpin i s)
  | .sp i, 2 => some (doStop i s)
  | .sp i, 3 => some (doShortCmd i s)
  | _, _ => none

/-- A write of OP (R738). DESIGN CHOICE 97: an unknown OP written to MD_CMD while MD_MODE.HELD is 1 gives the code "unknown
OP" of R738, not the 2 with which R632 refuses every OP. -/
def State.opWrite (s : State) (o : OpReg) (n : Nat) : State :=
  let busy := match o.busy with
    | some f => s.is f
    | none => false
  if n = 0 || busy then s
  else match s.opRun o n with
    | some t => t
    | none => s.p o.err o.unknown

/-- The fields of a register but EN take a write. -/
def State.restWrite (s : State) (addr v sets : Nat) : State :=
  match regFields addr with
  | none => s
  | some fs => State.each (fs.filter (fun f => decide (f.lo ≠ 0))) (fun f t => t.fieldWrite addr v sets false f) s

/-- A write of a function's control register: EN (R53–R56), and the actions that stand beside it. -/
def State.fnWrite (s : State) (f : Func) (v sets : Nat) : State :=
  let old := s.rd (Func.ctl f)
  let s := s.restWrite (Func.ctl f) v sets
  let s := if bitOf v 0 = 1 then s.fnEnable f else s.fnDisable f
  match f with
  | .lk =>
    let s := s.when (decide (bitOf v 5 = 1)) (fun t => t.retrain 0)
    s.when (decide (bitOf v 6 = 1)) (fun t => t.retrain 1)
  | .sv a => s.when (decide (bitOf v 4 = 0)) (fun t => t.actUp a.val (fun x => { x with held := [] }))
  | .dmch n =>
    let s := if bitOf v 5 = 1 && bitOf old.toNat 5 = 0 then s.dPause n.val
      else if bitOf v 5 = 0 && bitOf old.toNat 5 = 1 then doDmaUnpause n s
      else s
    s.when (decide (bitOf v 4 = 1)) (fun t => doDmChGo n t)
  | _ => s

/-- A control-window write: the fields' codes (R12), and the register's action. A new HOLD_LIM is compared at once (R260). -/
def State.ctlWrite (s : State) (addr v sets : Nat) : State :=
  let s1 := s.plainWrite addr v sets
  match actAt addr with
  | .fn f => if s.fnLocked f then s else s.fnWrite f v sets
  | .op o => s1.opWrite o (bitsOf v 0 o.width)
  | .headsel c => doHeadselWrite c (Fin.ofNat 16 v) true s
  | .paCmd a => if bitOf v 8 = 1 && !s.is (CH_PA_CMD_BUSY (4 * a.val)) then
      doPreampAccess a (Fin.ofNat 128 v) (bitOf v 7 == 1) (BitVec.ofNat 16 (s.g (CH_PA_DATA_DATA (4 * a.val)))) s else s1
  | .smemAddr c => s1.smemFresh c
  | .coef a k => s.coefWrite a k v
  | .rcCtl a => if bitOf v 15 = 1 then doRunoutClear a s1 else s1
  | .rcData a => s.runoutAccess a (some (bitsOf v 0 16))
  | .tsi a => s.tsiWrite a (bitOf v 0 == 1) (bitsOf v 1 2) (bitsOf v 3 2) (bitsOf v 16 16)
  | .capCtl a => if bitOf v 10 = 1 then doCaptureArm a s1 else s1
  | .spSet i => if s.spTarget i = s1.spTarget i then s1 else (s1.off (SP_MODE_REG i)).spUp i (fun x => { x with revs := 0 })
  | .peSub => (s1.peSubmit (s1.pair AR_PE_SUB_LO AR_PE_SUB_HI / 32 * 32) none 0 none).2
  | .patData => s.patAccess (some v)
  | .geom u => if s.geomWritable u then s1 else s
  | .hcDie => if v % 65536 = 0 then s.plainWrite addr 1 sets else s1
  | .hcMaint =>
    let op := bitsOf v 0 3
    if op = 1 then doInvalLine s else if op = 2 then doInvalRange s
    else if op = 3 then s.maint (fun _ => true) else if op = 4 then doDrain s else s
  | .dmResume => s.dResume (bitsOf v 0 6) (bitOf v 8 == 1)
  | .hwtData => s.hwtAccess (some v)
  | .dmch n shadow arm =>
    if s.dmaLocked n.val then s
    else if arm then (if bitOf v 0 = 1 && s.dchOn n.val then s.dArm n.val else s)
    else if shadow && s.is (DM_CH_CFG_CHAIN n.val) && s.dBusy n.val then s
    else s1
  | .ctxSel => if bitOf v 8 = 1 then s1.ctxSnap else s1
  | .tb => if bitOf v 3 = 1 then s1.tbAsk else s1
  | .unitAck u => s.ack u v
  | .unitCtl u =>
    let s := s.when (decide (bitOf v 0 = 1)) (fun t => t.histSnap u)
    s.when (decide (bitOf v 1 = 1)) (fun t => t.histClear u)
  | .smemData _ => s1
  | .capData _ => s1
  | .ftData => s1
  | .dispData => s1
  | .storeData => s1
  | .timeLo => s1
  | .evData => s1
  | .sigData => s1
  | .plain => s1.when (decide (addr = AR_CFG)) State.settle

/-! Reads. -/

/-- A control-window read: the value goes to `rdata`. -/
def State.ctlRead (s : State) (addr adds : Nat) : State :=
  match actAt addr with
  | .smemData c => s.smemRead c
  | .rcData a => s.runoutAccess a none
  | .capData a => s.capRead a
  | .patData => s.patAccess none
  | .ftData => s.ftRead
  | .hwtData => s.hwtAccess none
  | .dispData => s.dispRead
  | .storeData => s.storeRead
  | .timeLo => s.timeRead
  | .evData => s.evRead
  | .sigData => s.sigRead
  | _ => s.plainRead addr adds

/-! Who reaches the window (R633, R739, R740). -/

/-- The core is powered: not OFF, and not in REST past step 5. -/
def State.awake (s : State) : Bool := decide (s.mode ≠ mOff) && decide (s.mode ≠ mRest)

/-- BOOT lets an access over the link through: a read of an MD_ or BT_ register (R633). -/
def State.linkMay (s : State) (write : Bool) (addr : Nat) : Bool :=
  decide (s.mode ≠ mBoot) || (!write && decide (addr < PW_STAT))

/-- An access from a control core (`core`) or over the link is taken. -/
def State.reaches (s : State) (core write : Bool) (addr : Nat) : Bool := s.awake && (core || (s.lkOn && s.linkMay write addr))

/-- REGISTER_WRITE (R12, R13, R15, R16, R738, R739): `sets` what the block sets in the same handshake. -/
def execRegisterWrite (addr : BitVec 24) (value : Word) (core : Bool) (sets : Word) (s : State) : Host.Outcome State Fault Refusal :=
  .next <|
    if addr.toNat % 4 = 0 && s.reaches core true addr.toNat then s.ctlWrite addr.toNat value.toNat sets.toNat else s

/-- RC_REGISTER_READ (R12, R14, R739): `adds` what the block adds to an RC field in the same handshake. -/
def execRcRegisterRead (addr : BitVec 24) (core : Bool) (adds : Word) (s : State) : Host.Outcome State Fault Refusal :=
  .next <|
    if addr.toNat % 4 = 0 && s.reaches core false addr.toNat then s.ctlRead addr.toNat adds.toNat else s

/-! Frames that carry an access (R48–R51, R377, R382, R390). -/

/-- A frame addressed to the ZH8 arrives: LK is ON and the ID is valid (R381, R740). -/
def State.hears (s : State) : Bool := s.lkOn && s.is LK_ID_VALID

/-- The response is sent and, of a VC0 request, kept: the last 16 of each requester (R390). -/
def State.answer (s : State) (src tag : Nat) (rsp : Option OutFrame) : State :=
  let mine := s.lk.done.filter (fun d => d.src == src)
  let rest := s.lk.done.filter (fun d => d.src != src)
  let s := s.lkU (fun l => { l with done := ({ src := src, tag := tag, rsp := rsp } :: mine.take 15) ++ rest })
  match rsp with
  | some f => s.respond f
  | none => s

/-- The response saved for a request, where it is one of the 16 last of its requester (R390). -/
def State.saved (s : State) (src tag : Nat) : Option (Option OutFrame) :=
  (s.lk.done.find? (fun d => d.src == src && d.tag == tag)).map (·.rsp)

/-- A naturally aligned 32-bit access within the 16 MiB window (R47, R48). -/
def aligned32 (addr len : Nat) : Bool := decide (len = 4) && decide (addr % 4 = 0) && decide (addr < 2 ^ 24)

/-- CONTROL_WRITE_FRAME. A refused one is answered though it asked for no response (R48, R633). -/
def execControlWriteFrame (src : BitVec 12) (tag : BitVec 16) (addr : BitVec 64) (len : Fin 4097) (data : Word) (rspReq fcrc : Bool)
    (sets : Word) (s : State) : Host.Outcome State Fault Refusal :=
  .next <|
    let rsp (kind status : Nat) : OutFrame := { kind := kind, dst := src.toNat, tag := tag.toNat, addr := 0, len := 0, data := 0, code := status }
    if !s.hears then s
    else if !fcrc then s.fcrcBad
    else match s.saved src.toNat tag.toNat with
      | some (some f) => s.respond f
      | some none => s
      | none =>
        if s.mode = mBoot then s.answer src.toNat tag.toNat (some (rsp 4 1))
        else if !aligned32 addr.toNat len.val then s.answer src.toNat tag.toNat (some (rsp 4 3))
        else (s.ctlWrite addr.toNat data.toNat sets.toNat).answer src.toNat tag.toNat (if rspReq then some (rsp 3 0) else none)

/-- CONTROL_READ_FRAME; `door` a READ of the doorbell window, which returns 0 (R51). -/
def execControlReadFrame (src : BitVec 12) (tag : BitVec 16) (addr : BitVec 64) (len : Fin 4097) (door fcrc : Bool) (adds : Word)
    (s : State) : Host.Outcome State Fault Refusal :=
  .next <|
    let rsp (kind status n : Nat) (d : Word) : OutFrame := {
      kind := kind, dst := src.toNat, tag := tag.toNat, addr := 0, len := n, data := d.toNat, code := status,
      vc := if door then 2 else 0 }
    if !s.hears then s
    else if !fcrc then s.fcrcBad
    else if door then s.respond (if s.mode = mBoot then rsp 4 1 0 0 else rsp 2 0 len.val 0)
    else match s.saved src.toNat tag.toNat with
      | some (some f) => s.respond f
      | some none => s
      | none =>
        if !s.linkMay false addr.toNat then s.answer src.toNat tag.toNat (some (rsp 4 1 0 0))
        else if !aligned32 addr.toNat len.val then s.answer src.toNat tag.toNat (some (rsp 4 3 0 0))
        else
          let s := s.ctlRead addr.toNat adds.toNat
          s.answer src.toNat tag.toNat (some (rsp 2 0 4 s.rdata))

end Sys2Proof.Machine
end

