-- ==== Sys2Proof/Machine/Dispatch.lean ====
section
/-! DEFINITION. Machine/Dispatch.lean: one arm per command. -/

namespace Sys2Proof.Machine

def exec (i : Instr) (s : State) : Host.Outcome State Fault Refusal :=
  match i with
  | .registerWrite addr value core sets => Sys2Proof.Machine.execRegisterWrite addr value core sets s
  | .rcRegisterRead addr core adds => Sys2Proof.Machine.execRcRegisterRead addr core adds s
  | .paceWindowEnd counts vmeas => Sys2Proof.Machine.execPaceWindowEnd counts vmeas s
  | .functionEnable f => Sys2Proof.Machine.execFunctionEnable f s
  | .functionDisable f => Sys2Proof.Machine.execFunctionDisable f s
  | .functionStartupDone f bad => Sys2Proof.Machine.execFunctionStartupDone f bad s
  | .functionShutdownDone f => Sys2Proof.Machine.execFunctionShutdownDone f s
  | .controlWriteFrame src tag addr len data rspReq fcrc sets => Sys2Proof.Machine.execControlWriteFrame src tag addr len data rspReq fcrc sets s
  | .controlReadFrame src tag addr len door fcrc adds => Sys2Proof.Machine.execControlReadFrame src tag addr len door fcrc adds s
  | .doorbellWrite q cq src tag rspReq => Sys2Proof.Machine.execDoorbellWrite q cq src tag rspReq s
  | .headselWrite c head fw => Sys2Proof.Machine.execHeadselWrite c head fw s
  | .headSelectApply c => Sys2Proof.Machine.execHeadSelectApply c s
  | .headSettleDone c => Sys2Proof.Machine.execHeadSettleDone c s
  | .preampAccess a addr write data => Sys2Proof.Machine.execPreampAccess a addr write data s
  | .preampReadResponse a data crc late => Sys2Proof.Machine.execPreampReadResponse a data crc late s
  | .preampTimeout a => Sys2Proof.Machine.execPreampTimeout a s
  | .preampFault a => Sys2Proof.Machine.execPreampFault a s
  | .sectorRead c op around resync fofs s0 s1 ue last => Sys2Proof.Machine.execSectorRead c op around resync fofs s0 s1 ue last s
  | .decodeDone c cw iter => Sys2Proof.Machine.execDecodeDone c cw iter s
  | .sectorWrite c op vcrcOk completed last => Sys2Proof.Machine.execSectorWrite c op vcrcOk completed last s
  | .smemDataRead c => Sys2Proof.Machine.execSmemDataRead c s
  | .ladderSectorStart a => Sys2Proof.Machine.execLadderSectorStart a s
  | .ladderDecodeDone a cw iter unsat => Sys2Proof.Machine.execLadderDecodeDone a cw iter unsat s
  | .ladderTimeLimit c mba => Sys2Proof.Machine.execLadderTimeLimit c mba s
  | .verifyDone c cw iter => Sys2Proof.Machine.execVerifyDone c cw iter s
  | .wedgeFastCheck a r => Sys2Proof.Machine.execWedgeFastCheck a r s
  | .wedgeOutputArrival a t5 => Sys2Proof.Machine.execWedgeOutputArrival a t5 s
  | .wedgeDeadline a => Sys2Proof.Machine.execWedgeDeadline a s
  | .seekStart a targets => Sys2Proof.Machine.execSeekStart a targets s
  | .settleTimeout a => Sys2Proof.Machine.execSettleTimeout a s
  | .accelSample sensor x y z => Sys2Proof.Machine.execAccelSample sensor x y z s
  | .accelSilent sensor => Sys2Proof.Machine.execAccelSilent sensor s
  | .load a => Sys2Proof.Machine.execLoad a s
  | .unload a => Sys2Proof.Machine.execUnload a s
  | .seek a => Sys2Proof.Machine.execSeek a s
  | .loadTimeout a => Sys2Proof.Machine.execLoadTimeout a s
  | .unloadTick a uv => Sys2Proof.Machine.execUnloadTick a uv s
  | .headsParked a => Sys2Proof.Machine.execHeadsParked a s
  | .unloadTimeout a => Sys2Proof.Machine.execUnloadTimeout a s
  | .unloadPushEnd a => Sys2Proof.Machine.execUnloadPushEnd a s
  | .svDrvFault a head => Sys2Proof.Machine.execSvDrvFault a head s
  | .testInjection a en point slot amp => Sys2Proof.Machine.execTestInjection a en point slot amp s
  | .captureArm a => Sys2Proof.Machine.execCaptureArm a s
  | .captureDataRead a => Sys2Proof.Machine.execCaptureDataRead a s
  | .runoutClear a => Sys2Proof.Machine.execRunoutClear a s
  | .runoutDataAccess a write => Sys2Proof.Machine.execRunoutDataAccess a write s
  | .coefWrite a k v => Sys2Proof.Machine.execCoefWrite a k v s
  | .pwmPeriod sp ia ib quiet innov => Sys2Proof.Machine.execPwmPeriod sp ia ib quiet innov s
  | .dutySetArrival sp => Sys2Proof.Machine.execDutySetArrival sp s
  | .pwmDeadline sp => Sys2Proof.Machine.execPwmDeadline sp s
  | .mpOvercurrent sp => Sys2Proof.Machine.execMpOvercurrent sp s
  | .spin sp => Sys2Proof.Machine.execSpin sp s
  | .stop sp => Sys2Proof.Machine.execStop sp s
  | .shortCmd sp => Sys2Proof.Machine.execShortCmd sp s
  | .spindleSpeedSample sp meas => Sys2Proof.Machine.execSpindleSpeedSample sp meas s
  | .spindleRegulated sp => Sys2Proof.Machine.execSpindleRegulated sp s
  | .spinupStart sp => Sys2Proof.Machine.execSpinupStart sp s
  | .rotorAngleFound sp => Sys2Proof.Machine.execRotorAngleFound sp s
  | .observerLock sp => Sys2Proof.Machine.execObserverLock sp s
  | .startAttemptFail sp => Sys2Proof.Machine.execStartAttemptFail sp s
  | .startRetry sp => Sys2Proof.Machine.execStartRetry sp s
  | .spinupTimeout sp => Sys2Proof.Machine.execSpinupTimeout sp s
  | .shortStandstill sp => Sys2Proof.Machine.execShortStandstill sp s
  | .chopperSwitch bus => Sys2Proof.Machine.execChopperSwitch bus s
  | .chopperCurrentTimeout sp amps => Sys2Proof.Machine.execChopperCurrentTimeout sp amps s
  | .chopperBusTimeout sp => Sys2Proof.Machine.execChopperBusTimeout sp s
  | .busOvervoltage bus => Sys2Proof.Machine.execBusOvervoltage bus s
  | .bemfZeroCrossing sp ns sector => Sys2Proof.Machine.execBemfZeroCrossing sp ns sector s
  | .reacqTimeout sp => Sys2Proof.Machine.execReacqTimeout sp s
  | .motorBusCollapse sp => Sys2Proof.Machine.execMotorBusCollapse sp s
  | .safeSpindleHoldEnd sp => Sys2Proof.Machine.execSafeSpindleHoldEnd sp s
  | .stripeWriteStart slot stripe u0 u1 ce lost => Sys2Proof.Machine.execStripeWriteStart slot stripe u0 u1 ce lost s
  | .stripWriteDone jseq member => Sys2Proof.Machine.execStripWriteDone jseq member s
  | .unavailTimeout member => Sys2Proof.Machine.execUnavailTimeout member s
  | .parityJobSubmit hi => Sys2Proof.Machine.execParityJobSubmit hi s
  | .parityJobDone recon => Sys2Proof.Machine.execParityJobDone recon s
  | .patternDataAccess write => Sys2Proof.Machine.execPatternDataAccess write s
  | .commitStart => Sys2Proof.Machine.execCommitStart s
  | .commitDurable late => Sys2Proof.Machine.execCommitDurable late s
  | .jdAccessTimeout d => Sys2Proof.Machine.execJdAccessTimeout d s
  | .jdDieFault d => Sys2Proof.Machine.execJdDieFault d s
  | .superblockWrite => Sys2Proof.Machine.execSuperblockWrite s
  | .jnResync => Sys2Proof.Machine.execJnResync s
  | .jnResyncDone => Sys2Proof.Machine.execJnResyncDone s
  | .jnFormat => Sys2Proof.Machine.execJnFormat s
  | .spillIndexWrite => Sys2Proof.Machine.execSpillIndexWrite s
  | .jnReplay dies sb ce lost => Sys2Proof.Machine.execJnReplay dies sb ce lost s
  | .slowTimeout member mba => Sys2Proof.Machine.execSlowTimeout member mba s
  | .rbFail arg => Sys2Proof.Machine.execRbFail arg s
  | .rbClear arg => Sys2Proof.Machine.execRbClear arg s
  | .rbReshape arg shadow => Sys2Proof.Machine.execRbReshape arg shadow s
  | .rbPause => Sys2Proof.Machine.execRbPause s
  | .rbResume => Sys2Proof.Machine.execRbResume s
  | .rbFtClear arg => Sys2Proof.Machine.execRbFtClear arg s
  | .rbForget arg => Sys2Proof.Machine.execRbForget arg s
  | .rebuildRowDone v lost cur bad => Sys2Proof.Machine.execRebuildRowDone v lost cur bad s
  | .reshapeStripeMoved stripe cur => Sys2Proof.Machine.execReshapeStripeMoved stripe cur s
  | .reshapeCheckpoint => Sys2Proof.Machine.execReshapeCheckpoint s
  | .ftDataRead => Sys2Proof.Machine.execFtDataRead s
  | .blockReceive p bits errs drained => Sys2Proof.Machine.execBlockReceive p bits errs drained s
  | .lcfReceive p cr0 cr1 cr2 cr3 nak => Sys2Proof.Machine.execLcfReceive p cr0 cr1 cr2 cr3 nak s
  | .replayTimeout p => Sys2Proof.Machine.execReplayTimeout p s
  | .portSignalDetect p partnerMax => Sys2Proof.Machine.execPortSignalDetect p partnerMax s
  | .rateTrialDone p lanes => Sys2Proof.Machine.execRateTrialDone p lanes s
  | .portTrained p tag v1 v2 lanes next cr0 cr1 cr2 cr3 skew line => Sys2Proof.Machine.execPortTrained p tag v1 v2 lanes next cr0 cr1 cr2 cr3 skew line s
  | .retrainW => Sys2Proof.Machine.execRetrainW s
  | .retrainE => Sys2Proof.Machine.execRetrainE s
  | .tapTrainingDone => Sys2Proof.Machine.execTapTrainingDone s
  | .lkShutdownDrain expired => Sys2Proof.Machine.execLkShutdownDrain expired s
  | .frameForward p kind dst src vc hops tag len addr space data code hcrc => Sys2Proof.Machine.execFrameForward p kind dst src vc hops tag len addr space data code hcrc s
  | .enumReceive p loop next floor => Sys2Proof.Machine.execEnumReceive p loop next floor s
  | .readCplReceive tag data => Sys2Proof.Machine.execReadCplReceive tag data s
  | .writeRspReceive tag => Sys2Proof.Machine.execWriteRspReceive tag s
  | .errorRspReceive tag status => Sys2Proof.Machine.execErrorRspReceive tag status s
  | .linkTransactionTimeout tag => Sys2Proof.Machine.execLinkTransactionTimeout tag s
  | .laneFail p lane errors => Sys2Proof.Machine.execLaneFail p lane errors s
  | .portDown p => Sys2Proof.Machine.execPortDown p s
  | .portRetry p => Sys2Proof.Machine.execPortRetry p s
  | .doorbellServe ue => Sys2Proof.Machine.execDoorbellServe ue s
  | .sqPiReadReturn q => Sys2Proof.Machine.execSqPiReadReturn q s
  | .cqCiReadReturn q => Sys2Proof.Machine.execCqCiReadReturn q s
  | .entryTaken q => Sys2Proof.Machine.execEntryTaken q s
  | .haltPark => Sys2Proof.Machine.execHaltPark s
  | .completionWrite id shadow => Sys2Proof.Machine.execCompletionWrite id shadow s
  | .interruptTimer q => Sys2Proof.Machine.execInterruptTimer q s
  | .qmRead => Sys2Proof.Machine.execQmRead s
  | .qmCreate => Sys2Proof.Machine.execQmCreate s
  | .qmRecover => Sys2Proof.Machine.execQmRecover s
  | .qmRecoverDone => Sys2Proof.Machine.execQmRecoverDone s
  | .qmDelete => Sys2Proof.Machine.execQmDelete s
  | .read id ce lost => Sys2Proof.Machine.execRead id ce lost s
  | .write id => Sys2Proof.Machine.execWrite id s
  | .readStream id => Sys2Proof.Machine.execReadStream id s
  | .flush id => Sys2Proof.Machine.execFlush id s
  | .flushDone id => Sys2Proof.Machine.execFlushDone id s
  | .verify id => Sys2Proof.Machine.execVerify id s
  | .deallocate id => Sys2Proof.Machine.execDeallocate id s
  | .writeZeroes id => Sys2Proof.Machine.execWriteZeroes id s
  | .volDefine id => Sys2Proof.Machine.execVolDefine id s
  | .volEnable id => Sys2Proof.Machine.execVolEnable id s
  | .volDisable id => Sys2Proof.Machine.execVolDisable id s
  | .patternLoad id => Sys2Proof.Machine.execPatternLoad id s
  | .memberFail id => Sys2Proof.Machine.execMemberFail id s
  | .memberClear id => Sys2Proof.Machine.execMemberClear id s
  | .reshape id => Sys2Proof.Machine.execReshape id s
  | .reshapePause id => Sys2Proof.Machine.execReshapePause id s
  | .reshapeResume id => Sys2Proof.Machine.execReshapeResume id s
  | .forfeitClear id => Sys2Proof.Machine.execForfeitClear id s
  | .volForget id => Sys2Proof.Machine.execVolForget id s
  | .identify id => Sys2Proof.Machine.execIdentify id s
  | .queueCreate id => Sys2Proof.Machine.execQueueCreate id s
  | .queueDelete id => Sys2Proof.Machine.execQueueDelete id s
  | .queueDeleteDone id => Sys2Proof.Machine.execQueueDeleteDone id s
  | .getLog id => Sys2Proof.Machine.execGetLog id s
  | .setFeature id => Sys2Proof.Machine.execSetFeature id s
  | .getFeature id => Sys2Proof.Machine.execGetFeature id s
  | .fwStage id => Sys2Proof.Machine.execFwStage id s
  | .fwActivate id => Sys2Proof.Machine.execFwActivate id s
  | .attest id => Sys2Proof.Machine.execAttest id s
  | .attestDone => Sys2Proof.Machine.execAttestDone s
  | .keyEnroll id => Sys2Proof.Machine.execKeyEnroll id s
  | .microLoad id => Sys2Proof.Machine.execMicroLoad id s
  | .abort id => Sys2Proof.Machine.execAbort id s
  | .actuatorSchedule a est bg => Sys2Proof.Machine.execActuatorSchedule a est bg s
  | .deadlineExpiry id => Sys2Proof.Machine.execDeadlineExpiry id s
  | .cmReset => Sys2Proof.Machine.execCmReset s
  | .cmResetComplete => Sys2Proof.Machine.execCmResetComplete s
  | .cmShutdownLimit => Sys2Proof.Machine.execCmShutdownLimit s
  | .activationDrainLimit => Sys2Proof.Machine.execActivationDrainLimit s
  | .activationSwitch => Sys2Proof.Machine.execActivationSwitch s
  | .activationDone => Sys2Proof.Machine.execActivationDone s
  | .cacheRead req addr ue => Sys2Proof.Machine.execCacheRead req addr ue s
  | .cacheWrite req addr len data => Sys2Proof.Machine.execCacheWrite req addr len data s
  | .mergeHoldExpiry ue => Sys2Proof.Machine.execMergeHoldExpiry ue s
  | .invalLine => Sys2Proof.Machine.execInvalLine s
  | .invalRange => Sys2Proof.Machine.execInvalRange s
  | .invalAll => Sys2Proof.Machine.execInvalAll s
  | .drain => Sys2Proof.Machine.execDrain s
  | .dmChGo n => Sys2Proof.Machine.execDmChGo n s
  | .dmaPause n => Sys2Proof.Machine.execDmaPause n s
  | .dmaUnpause n => Sys2Proof.Machine.execDmaUnpause n s
  | .shadowArm n => Sys2Proof.Machine.execShadowArm n s
  | .peripheralRequest line => Sys2Proof.Machine.execPeripheralRequest line s
  | .peripheralWithdraw line started => Sys2Proof.Machine.execPeripheralWithdraw line started s
  | .dmResume n fail => Sys2Proof.Machine.execDmResume n fail s
  | .faultTimerExpiry n => Sys2Proof.Machine.execFaultTimerExpiry n s
  | .hwtDataAccess write => Sys2Proof.Machine.execHwtDataAccess write s
  | .bufferRead addr flips row first rank who => Sys2Proof.Machine.execBufferRead addr flips row first rank who s
  | .scrubBurst flips row first => Sys2Proof.Machine.execScrubBurst flips row first s
  | .sramScrub word ue => Sys2Proof.Machine.execSramScrub word ue s
  | .edRebuildDone v => Sys2Proof.Machine.execEdRebuildDone v s
  | .mr4Poll chan fine temp => Sys2Proof.Machine.execMr4Poll chan fine temp s
  | .contextDispatch id => Sys2Proof.Machine.execContextDispatch id s
  | .microwordExecute n imgUe => Sys2Proof.Machine.execMicrowordExecute n imgUe s
  | .seqNext n => Sys2Proof.Machine.execSeqNext n s
  | .seqJump n => Sys2Proof.Machine.execSeqJump n s
  | .seqBranch n => Sys2Proof.Machine.execSeqBranch n s
  | .seqCall n => Sys2Proof.Machine.execSeqCall n s
  | .seqReturn n => Sys2Proof.Machine.execSeqReturn n s
  | .seqWait n => Sys2Proof.Machine.execSeqWait n s
  | .waitEventDone n => Sys2Proof.Machine.execWaitEventDone n s
  | .seqDispatch n => Sys2Proof.Machine.execSeqDispatch n s
  | .seqEnd n => Sys2Proof.Machine.execSeqEnd n s
  | .aluPass n => Sys2Proof.Machine.execAluPass n s
  | .aluAdd n => Sys2Proof.Machine.execAluAdd n s
  | .aluSub n => Sys2Proof.Machine.execAluSub n s
  | .aluAnd n => Sys2Proof.Machine.execAluAnd n s
  | .aluOr n => Sys2Proof.Machine.execAluOr n s
  | .aluXor n => Sys2Proof.Machine.execAluXor n s
  | .aluShl n => Sys2Proof.Machine.execAluShl n s
  | .aluShr n => Sys2Proof.Machine.execAluShr n s
  | .aluCmp n => Sys2Proof.Machine.execAluCmp n s
  | .aluCrc32c n => Sys2Proof.Machine.execAluCrc32c n s
  | .aluMin n => Sys2Proof.Machine.execAluMin n s
  | .aluMax n => Sys2Proof.Machine.execAluMax n s
  | .aluExtract n => Sys2Proof.Machine.execAluExtract n s
  | .aluMul n => Sys2Proof.Machine.execAluMul n s
  | .bufLoad n => Sys2Proof.Machine.execBufLoad n s
  | .bufStore n => Sys2Proof.Machine.execBufStore n s
  | .hostLoad n => Sys2Proof.Machine.execHostLoad n s
  | .hostStore n => Sys2Proof.Machine.execHostStore n s
  | .dmaClaim n => Sys2Proof.Machine.execDmaClaim n s
  | .unitDmaGo n => Sys2Proof.Machine.execUnitDmaGo n s
  | .unitDmaArm n => Sys2Proof.Machine.execUnitDmaArm n s
  | .dmaRelease n => Sys2Proof.Machine.execDmaRelease n s
  | .peSub n => Sys2Proof.Machine.execPeSub n s
  | .sreq n => Sys2Proof.Machine.execSreq n s
  | .setStatus n => Sys2Proof.Machine.execSetStatus n s
  | .park n => Sys2Proof.Machine.execPark n s
  | .frame n => Sys2Proof.Machine.execFrame n s
  | .tret n => Sys2Proof.Machine.execTret n s
  | .dmaAny n => Sys2Proof.Machine.execDmaAny n s
  | .jcommit n => Sys2Proof.Machine.execJcommit n s
  | .sched n => Sys2Proof.Machine.execSched n s
  | .volRead n => Sys2Proof.Machine.execVolRead n s
  | .volWrite n => Sys2Proof.Machine.execVolWrite n s
  | .volFlush n => Sys2Proof.Machine.execVolFlush n s
  | .vcrc n => Sys2Proof.Machine.execVcrc n s
  | .libraryUndefined n => Sys2Proof.Machine.execLibraryUndefined n s
  | .microImageInstall => Sys2Proof.Machine.execMicroImageInstall s
  | .ctxSnap => Sys2Proof.Machine.execCtxSnap s
  | .dispDataRead => Sys2Proof.Machine.execDispDataRead s
  | .storeDataRead => Sys2Proof.Machine.execStoreDataRead s
  | .powerOn feedA feedB chainA chainB => Sys2Proof.Machine.execPowerOn feedA feedB chainA chainB s
  | .feedLoss feed v => Sys2Proof.Machine.execFeedLoss feed v s
  | .feedReturn feed held v => Sys2Proof.Machine.execFeedReturn feed held v s
  | .feedOvervoltage feed v => Sys2Proof.Machine.execFeedOvervoltage feed v s
  | .feedOvRecover feed v => Sys2Proof.Machine.execFeedOvRecover feed v s
  | .powerFailSignal => Sys2Proof.Machine.execPowerFailSignal s
  | .powerDownComplete => Sys2Proof.Machine.execPowerDownComplete s
  | .holdupMeasure t => Sys2Proof.Machine.execHoldupMeasure t s
  | .chainFail late => Sys2Proof.Machine.execChainFail late s
  | .standbyRegulated us => Sys2Proof.Machine.execStandbyRegulated us s
  | .standbyTimeout => Sys2Proof.Machine.execStandbyTimeout s
  | .resyncTimer => Sys2Proof.Machine.execResyncTimer s
  | .resyncHoldDone ok => Sys2Proof.Machine.execResyncHoldDone ok s
  | .testStandby => Sys2Proof.Machine.execTestStandby s
  | .testStandbyLoadDone ok => Sys2Proof.Machine.execTestStandbyLoadDone ok s
  | .forceSwitch => Sys2Proof.Machine.execForceSwitch s
  | .pwResync => Sys2Proof.Machine.execPwResync s
  | .sfOverspeed sp => Sys2Proof.Machine.execSfOverspeed sp s
  | .vcmOvercurrent a ma => Sys2Proof.Machine.execVcmOvercurrent a ma s
  | .tempSample temps => Sys2Proof.Machine.execTempSample temps s
  | .heartbeat => Sys2Proof.Machine.execHeartbeat s
  | .heartbeatTimeout => Sys2Proof.Machine.execHeartbeatTimeout s
  | .retractHoldEnd => Sys2Proof.Machine.execRetractHoldEnd s
  | .selftest => Sys2Proof.Machine.execSelftest s
  | .selftestDone res => Sys2Proof.Machine.execSelftestDone res s
  | .clearCause => Sys2Proof.Machine.execClearCause s
  | .gotoService => Sys2Proof.Machine.execGotoService s
  | .gotoMaint => Sys2Proof.Machine.execGotoMaint s
  | .gotoRest => Sys2Proof.Machine.execGotoRest s
  | .safeRequest l3 => Sys2Proof.Machine.execSafeRequest l3 s
  | .timebaseSwitch => Sys2Proof.Machine.execTimebaseSwitch s
  | .idleTimerExpiry group level => Sys2Proof.Machine.execIdleTimerExpiry group level s
  | .idleStepDone => Sys2Proof.Machine.execIdleStepDone s
  | .demand => Sys2Proof.Machine.execDemand s
  | .restSpindlesStopped => Sys2Proof.Machine.execRestSpindlesStopped s
  | .restPowerOff => Sys2Proof.Machine.execRestPowerOff s
  | .wake trip => Sys2Proof.Machine.execWake trip s
  | .restExitComplete => Sys2Proof.Machine.execRestExitComplete s
  | .idleCfgWrite group level time => Sys2Proof.Machine.execIdleCfgWrite group level time s
  | .timeLoRead => Sys2Proof.Machine.execTimeLoRead s
  | .hourglassExpiry u => Sys2Proof.Machine.execHourglassExpiry u s
  | .faultAck u mask late => Sys2Proof.Machine.execFaultAck u mask late s
  | .faultPulseEnd monitor => Sys2Proof.Machine.execFaultPulseEnd monitor s
  | .deviceReset => Sys2Proof.Machine.execDeviceReset s
  | .resetPin low => Sys2Proof.Machine.execResetPin low s
  | .historySnap u => Sys2Proof.Machine.execHistorySnap u s
  | .historyClear u => Sys2Proof.Machine.execHistoryClear u s
  | .eventRecordWritten => Sys2Proof.Machine.execEventRecordWritten s
  | .rateTokenReturn code => Sys2Proof.Machine.execRateTokenReturn code s
  | .hoursUpdate => Sys2Proof.Machine.execHoursUpdate s
  | .clearFirst => Sys2Proof.Machine.execClearFirst s
  | .clearLast => Sys2Proof.Machine.execClearLast s
  | .eventReadData => Sys2Proof.Machine.execEventReadData s
  | .romBoot => Sys2Proof.Machine.execRomBoot s
  | .gate => Sys2Proof.Machine.execGate s
  | .gateComplete => Sys2Proof.Machine.execGateComplete s
  | .commitSvn => Sys2Proof.Machine.execCommitSvn s
  | .revokeVk0 => Sys2Proof.Machine.execRevokeVk0 s
  | .storeOpDone => Sys2Proof.Machine.execStoreOpDone s
  | .storeTimeout => Sys2Proof.Machine.execStoreTimeout s
  | .bootRecordWrite => Sys2Proof.Machine.execBootRecordWrite s
  | .sigDataRead => Sys2Proof.Machine.execSigDataRead s
  | .preampFaultRelease a => Sys2Proof.Machine.execPreampFaultRelease a s
  | .pmShortRelease bus => Sys2Proof.Machine.execPmShortRelease bus s
  | .dmaBurstDone n data poison => Sys2Proof.Machine.execDmaBurstDone n data poison s
  | .backgroundWindowEnd => Sys2Proof.Machine.execBackgroundWindowEnd s
  | .laneLockLoss p lane loss => Sys2Proof.Machine.execLaneLockLoss p lane loss s
  | .holdupVoltageChange v => Sys2Proof.Machine.execHoldupVoltageChange v s
  | .commitSvnDone => Sys2Proof.Machine.execCommitSvnDone s
  | .evClearDone => Sys2Proof.Machine.execEvClearDone s
  | .crystalLock => Sys2Proof.Machine.execCrystalLock s

end Sys2Proof.Machine
end

