-- ==== Sys2Proof/Machine/Step.lean ====
section
/-! DEFINITION. Machine/Step.lean: the block takes the command at the front of its queue. -/

namespace Sys2Proof.Machine

/-- One step: the front command acts on the state with the rest of the queue. DESIGN CHOICE 1: on an empty queue one cycle of
the source that drives the timebase passes (R30), a frame of the preamp bus whose time is over leaves it (R68, DESIGN CHOICE 98),
and nothing else happens. -/
def step (s : State) : Host.Outcome State Fault Refusal :=
  match s.pending with
  | [] => .next s.tick
  | c :: rest => exec c { s with pending := rest }

/-- The command that a table word spells, at the front of the queue. -/
def State.withFetchWord (s : State) (nbits w : Nat) : State :=
  match decodeTableWord nbits w with
  | some c => { s with pending := c :: s.pending }
  | none => s

end Sys2Proof.Machine
end

