-- ==== Sys2Proof/Machine/Mram.lean ====
section
/-! DEFINITION. Machine/Mram.lean: the MRAM of a JD die as its map lays it out (R274, R275): the 64 bytes at a die address, from
the state that stands in MRAM. No command of the block reads a die whole; this says where each byte of that state stands. -/

namespace Sys2Proof.Machine

open Reg

/-- A forfeit entry (R340). -/
def FtEnt.image (e : FtEnt) : Nat :=
  let b := pk [(e.first, 40), (e.vol, 6), (0, 2), (e.count, 9), (e.cause, 4), (0, 2), (1, 1), (e.hours, 32)]
  b + Code.crc32c 96 b * 2 ^ 96

/-- One copy of a volume checkpoint record (R323). -/
def CkRec.image (c : CkRec) (v : Nat) : Nat :=
  let b := pk [(0x5A485242, 32), (c.gen, 32), (v, 6), (0, 2), (b2n c.pass, 1), (b2n c.reshape, 1), (b2n c.paused, 1), (b2n c.frozen, 1),
    (0, 4), (c.shadow, 6), (0, 10), (c.fail, 32), (c.cursor, 32), (c.geomCrc, 32), (c.newCrc, 32), (c.mark, 40), (0, 216)]
  b + Code.crc32c 480 b * 2 ^ 480

/-- One copy of the device record (R323): GEN, and the mask of FAILED members. -/
def devImage (gen mask : Nat) : Nat :=
  let b := pk [(0x5A485244, 32), (gen, 32), (mask, 96), (0, 320)]
  b + Code.crc32c 480 b * 2 ^ 480

/-- The 64 bytes of the ring at a granule: of the newest record whose granules cover it (R275, R278). -/
def DieLog.granule (l : DieLog) (g : Nat) : Option Nat :=
  let at_ (r : JRec) : Nat := (g + ringLen - r.gran % ringLen) % ringLen
  (l.ring.reverse.find? (fun r => decide (at_ r < r.len))).map (fun r => r.image / 2 ^ (512 * at_ r) % 2 ^ 512)

/-- `n` images side by side, each of a key of a table, 0 where the table lists none. -/
def imagesAt (n w : Nat) (f : Nat → Option Nat) (k : Nat) : Nat := pk ((upTo n).map (fun i => ((f (k * n + i)).getD 0, w)))

/-- The 64 bytes of die `d` at granule-aligned die address `a` (R275). None where the spec gives the place no layout, or the model
does not hold what stands there: the system area, the older copy of a checkpoint, and ring granules never written. A copy
of a checkpoint or of the device record with an odd GEN stands in copy A (R323: DEDUCED 105). -/
def State.mram (s : State) (d a : Nat) : Option Nat :=
  let l := s.jd d
  if a < 0x7E000000 then l.granule (a / 64)
  else if a < 0x7E001000 then some (if a = 0x7E000000 then l.sbA.image else 0)
  else if a < 0x7E002000 then some (if a = 0x7E001000 then l.sbB.image else 0)
  else if 0x7E010000 ≤ a && a < 0x7E050000 then
    some (imagesAt 4 128 (fun i => (s.rb.ft.find i).map (·.image)) ((a - 0x7E010000) / 64))
  else if 0x7E050000 ≤ a && a < 0x7E058000 then
    let v := (a - 0x7E050000) / 512
    match s.rb.ck.find v with
    | some c => if (a - 0x7E050000) % 512 = (if c.gen % 2 = 1 then 0 else 256) then some (c.image v) else none
    | none => none
  else if a = 0x7E058000 || a = 0x7E058040 then
    match s.rb.dev with
    | some (gen, mask) => if a = (if gen % 2 = 1 then 0x7E058000 else 0x7E058040) then some (devImage gen mask) else none
    | none => none
  else if 0x7E100000 ≤ a && a < 0x7E108000 then
    some (imagesAt 2 256 (fun i => (s.ev.first.find i).map (·.bits)) ((a - 0x7E100000) / 64))
  else if 0x7E108000 ≤ a && a < 0x7E128000 then
    some (imagesAt 2 256 (fun i => (s.ev.last.find i).map (·.bits)) ((a - 0x7E108000) / 64))
  else if 0x7F000000 ≤ a && a < 0x80000000 then
    some (imagesAt 4 128 (fun i => (s.jn.idx.find i).map (·.image)) ((a - 0x7F000000) / 64))
  else none

end Sys2Proof.Machine
end

