-- ==== Sys2Proof/WellFormed.lean ====
section
/-! DEFINITION. WellFormed.lean: the operands a command can carry where their type admits more. -/

namespace Sys2Proof

/-- A sector operation names a member (R6), a 40-bit medium block, a zone of the table (R97), a sector of the 11-bit SPT field and a
wedge of the track (R64, R71). -/
def SecOp.wf (op : SecOp) : Bool :=
  decide (op.member < 96) && decide (op.mba < 2 ^ 40) && decide (op.zone < 32) && decide (op.sector < 2048) && decide (op.wedge < 440)

/-- A command is well formed. -/
def Instr.wf (i : Instr) : Bool :=
  match i with
  | .registerWrite addr _ _ _ => addr.toNat % 4 == 0
  | .rcRegisterRead addr _ _ => addr.toNat % 4 == 0
  | .paceWindowEnd counts _ => counts.length == 49
  | .functionEnable _ => true
  | .functionDisable _ => true
  | .functionStartupDone _ _ => true
  | .functionShutdownDone _ => true
  | .controlWriteFrame _ _ _ _ _ _ _ _ => true
  | .controlReadFrame _ _ _ _ _ _ _ => true
  | .doorbellWrite _ _ _ _ _ => true
  | .headselWrite _ _ _ => true
  | .headSelectApply _ => true
  | .headSettleDone _ => true
  | .preampAccess _ _ _ _ => true
  | .preampReadResponse _ _ _ _ => true
  | .preampTimeout _ => true
  | .preampFault _ => true
  | .sectorRead _ op _ _ _ _ _ _ _ => op.wf
  | .decodeDone _ _ _ => true
  | .sectorWrite _ op _ _ _ => op.wf
  | .smemDataRead _ => true
  | .ladderSectorStart _ => true
  | .ladderDecodeDone _ _ _ _ => true
  | .ladderTimeLimit _ _ => true
  | .verifyDone _ _ _ => true
  | .wedgeFastCheck _ r => r.slots.length == 4
  | .wedgeOutputArrival _ _ => true
  | .wedgeDeadline _ => true
  | .seekStart _ targets => targets.length ≤ 4 && targets.all (fun t => decide (t.1 < 4))
  | .settleTimeout _ => true
  | .accelSample _ _ _ _ => true
  | .accelSilent _ => true
  | .load _ => true
  | .unload _ => true
  | .seek _ => true
  | .loadTimeout _ => true
  | .unloadTick _ _ => true
  | .headsParked _ => true
  | .unloadTimeout _ => true
  | .unloadPushEnd _ => true
  | .svDrvFault _ _ => true
  | .testInjection _ _ _ _ _ => true
  | .captureArm _ => true
  | .captureDataRead _ => true
  | .runoutClear _ => true
  | .runoutDataAccess _ _ => true
  | .coefWrite _ _ _ => true
  | .pwmPeriod _ _ _ quiet _ => decide (quiet ≤ 6250)
  | .dutySetArrival _ => true
  | .pwmDeadline _ => true
  | .mpOvercurrent _ => true
  | .spin _ => true
  | .stop _ => true
  | .shortCmd _ => true
  | .spindleSpeedSample _ _ => true
  | .spindleRegulated _ => true
  | .spinupStart _ => true
  | .rotorAngleFound _ => true
  | .observerLock _ => true
  | .startAttemptFail _ => true
  | .startRetry _ => true
  | .spinupTimeout _ => true
  | .shortStandstill _ => true
  | .chopperSwitch _ => true
  | .chopperCurrentTimeout _ _ => true
  | .chopperBusTimeout _ => true
  | .busOvervoltage _ => true
  | .bemfZeroCrossing _ _ _ => true
  | .reacqTimeout _ => true
  | .motorBusCollapse _ => true
  | .safeSpindleHoldEnd _ => true
  | .stripeWriteStart _ _ u0 u1 _ _ => decide (u0.val ≤ u1.val)
  | .stripWriteDone _ _ => true
  | .unavailTimeout _ => true
  | .parityJobSubmit _ => true
  | .parityJobDone _ => true
  | .patternDataAccess _ => true
  | .commitStart => true
  | .commitDurable _ => true
  | .jdAccessTimeout _ => true
  | .jdDieFault _ => true
  | .superblockWrite => true
  | .jnResync => true
  | .jnResyncDone => true
  | .jnFormat => true
  | .spillIndexWrite => true
  | .jnReplay _ _ _ _ => true
  | .slowTimeout _ _ => true
  | .rbFail _ => true
  | .rbClear _ => true
  | .rbReshape _ _ => true
  | .rbPause => true
  | .rbResume => true
  | .rbFtClear _ => true
  | .rbForget _ => true
  | .rebuildRowDone _ _ _ _ => true
  | .reshapeStripeMoved _ _ => true
  | .reshapeCheckpoint => true
  | .ftDataRead => true
  | .blockReceive _ _ _ _ => true
  | .lcfReceive _ _ _ _ _ _ => true
  | .replayTimeout _ => true
  | .portSignalDetect _ _ => true
  | .rateTrialDone _ _ => true
  | .portTrained _ _ _ _ _ _ _ _ _ _ _ _ => true
  | .retrainW => true
  | .retrainE => true
  | .tapTrainingDone => true
  | .lkShutdownDrain _ => true
  | .frameForward _ kind _ _ _ _ _ _ _ _ _ _ _ => decide (kind.val ≠ 6)
  | .enumReceive _ _ _ _ => true
  | .readCplReceive _ _ => true
  | .writeRspReceive _ => true
  | .errorRspReceive _ _ => true
  | .linkTransactionTimeout _ => true
  | .laneFail _ _ _ => true
  | .portDown _ => true
  | .portRetry _ => true
  | .doorbellServe _ => true
  | .sqPiReadReturn _ => true
  | .cqCiReadReturn _ => true
  | .entryTaken _ => true
  | .haltPark => true
  | .completionWrite _ _ => true
  | .interruptTimer _ => true
  | .qmRead => true
  | .qmCreate => true
  | .qmRecover => true
  | .qmRecoverDone => true
  | .qmDelete => true
  | .read _ _ _ => true
  | .write _ => true
  | .readStream _ => true
  | .flush _ => true
  | .flushDone _ => true
  | .verify _ => true
  | .deallocate _ => true
  | .writeZeroes _ => true
  | .volDefine _ => true
  | .volEnable _ => true
  | .volDisable _ => true
  | .patternLoad _ => true
  | .memberFail _ => true
  | .memberClear _ => true
  | .reshape _ => true
  | .reshapePause _ => true
  | .reshapeResume _ => true
  | .forfeitClear _ => true
  | .volForget _ => true
  | .identify _ => true
  | .queueCreate _ => true
  | .queueDelete _ => true
  | .queueDeleteDone _ => true
  | .getLog _ => true
  | .setFeature _ => true
  | .getFeature _ => true
  | .fwStage _ => true
  | .fwActivate _ => true
  | .attest _ => true
  | .attestDone => true
  | .keyEnroll _ => true
  | .microLoad _ => true
  | .abort _ => true
  | .actuatorSchedule _ est _ => est.all (fun x => decide (x.1 < 96) && decide (x.2.1 < 2 ^ 40))
  | .deadlineExpiry _ => true
  | .cmReset => true
  | .cmResetComplete => true
  | .cmShutdownLimit => true
  | .activationDrainLimit => true
  | .activationSwitch => true
  | .activationDone => true
  | .cacheRead _ _ _ => true
  | .cacheWrite _ addr len _ => decide (addr.toNat % 128 + len.val ≤ 128)
  | .mergeHoldExpiry _ => true
  | .invalLine => true
  | .invalRange => true
  | .invalAll => true
  | .drain => true
  | .dmChGo _ => true
  | .dmaPause _ => true
  | .dmaUnpause _ => true
  | .shadowArm _ => true
  | .peripheralRequest _ => true
  | .peripheralWithdraw _ _ => true
  | .dmResume _ _ => true
  | .faultTimerExpiry _ => true
  | .hwtDataAccess _ => true
  | .bufferRead addr _ _ _ _ _ => addr.toNat % 8 == 0
  | .scrubBurst flips _ _ => flips.all (fun x => decide (x.1 % 8 = 0))
  | .sramScrub _ _ => true
  | .edRebuildDone _ => true
  | .mr4Poll _ _ _ => true
  | .contextDispatch _ => true
  | .microwordExecute _ _ => true
  | .seqNext _ => true
  | .seqJump _ => true
  | .seqBranch _ => true
  | .seqCall _ => true
  | .seqReturn _ => true
  | .seqWait _ => true
  | .waitEventDone _ => true
  | .seqDispatch _ => true
  | .seqEnd _ => true
  | .aluPass _ => true
  | .aluAdd _ => true
  | .aluSub _ => true
  | .aluAnd _ => true
  | .aluOr _ => true
  | .aluXor _ => true
  | .aluShl _ => true
  | .aluShr _ => true
  | .aluCmp _ => true
  | .aluCrc32c _ => true
  | .aluMin _ => true
  | .aluMax _ => true
  | .aluExtract _ => true
  | .aluMul _ => true
  | .bufLoad _ => true
  | .bufStore _ => true
  | .hostLoad _ => true
  | .hostStore _ => true
  | .dmaClaim _ => true
  | .unitDmaGo _ => true
  | .unitDmaArm _ => true
  | .dmaRelease _ => true
  | .peSub _ => true
  | .sreq _ => true
  | .setStatus _ => true
  | .park _ => true
  | .frame _ => true
  | .tret _ => true
  | .dmaAny _ => true
  | .jcommit _ => true
  | .sched _ => true
  | .volRead _ => true
  | .volWrite _ => true
  | .volFlush _ => true
  | .vcrc _ => true
  | .libraryUndefined _ => true
  | .microImageInstall => true
  | .ctxSnap => true
  | .dispDataRead => true
  | .storeDataRead => true
  | .powerOn _ _ _ _ => true
  | .feedLoss _ _ => true
  | .feedReturn _ _ _ => true
  | .feedOvervoltage _ _ => true
  | .feedOvRecover _ _ => true
  | .powerFailSignal => true
  | .powerDownComplete => true
  | .holdupMeasure _ => true
  | .chainFail _ => true
  | .standbyRegulated _ => true
  | .standbyTimeout => true
  | .resyncTimer => true
  | .resyncHoldDone _ => true
  | .testStandby => true
  | .testStandbyLoadDone _ => true
  | .forceSwitch => true
  | .pwResync => true
  | .sfOverspeed _ => true
  | .vcmOvercurrent _ _ => true
  | .tempSample _ => true
  | .heartbeat => true
  | .heartbeatTimeout => true
  | .retractHoldEnd => true
  | .selftest => true
  | .selftestDone _ => true
  | .clearCause => true
  | .gotoService => true
  | .gotoMaint => true
  | .gotoRest => true
  | .safeRequest _ => true
  | .timebaseSwitch => true
  | .idleTimerExpiry _ _ => true
  | .idleStepDone => true
  | .demand => true
  | .restSpindlesStopped => true
  | .restPowerOff => true
  | .wake _ => true
  | .restExitComplete => true
  | .idleCfgWrite _ _ _ => true
  | .timeLoRead => true
  | .hourglassExpiry _ => true
  | .faultAck _ _ _ => true
  | .faultPulseEnd _ => true
  | .deviceReset => true
  | .resetPin _ => true
  | .historySnap _ => true
  | .historyClear _ => true
  | .eventRecordWritten => true
  | .rateTokenReturn _ => true
  | .hoursUpdate => true
  | .clearFirst => true
  | .clearLast => true
  | .eventReadData => true
  | .romBoot => true
  | .gate => true
  | .gateComplete => true
  | .commitSvn => true
  | .revokeVk0 => true
  | .storeOpDone => true
  | .storeTimeout => true
  | .bootRecordWrite => true
  | .sigDataRead => true
  | .preampFaultRelease _ => true
  | .pmShortRelease _ => true
  | .dmaBurstDone _ _ _ => true
  | .backgroundWindowEnd => true
  | .laneLockLoss _ _ _ => true
  | .holdupVoltageChange _ => true
  | .commitSvnDone => true
  | .evClearDone => true
  | .crystalLock => true

end Sys2Proof
end

