-- ==== Sys2Proof/Safety.lean ====
section
/-! DEFINITION. Safety.lean: what statements mean by a command that completes, by the parts of the state it may touch, by
the canonical form of the tables and by a legal mode. -/

namespace Sys2Proof.Machine

/-- The command answers a next state, and that state has the property. -/
def Answers (c : Instr) (s : State) (P : State → Prop) : Prop := ∃ t, exec c s = .next t ∧ P t

/-- A register table is in its canonical form: addresses strictly rising, no word equal to its register's reset value. -/
def regsWf (t : Tbl Word) : Bool := Tbl.rising t && t.all (fun c => decide (c.2 ≠ resetVal c.1))

/-- The canonical form of the machine's sparse stores: the register file, the registers REST has saved, and buffer memory. -/
def State.Canon (s : State) : Prop :=
  regsWf s.regs = true ∧ regsWf s.md.saved = true ∧ Memory.wf s.bm.mem = true

/-- MD_MODE.MODE and MD_MODE.PREV hold one of the six modes of R630. -/
def State.LegalMode (s : State) : Prop := s.mode ≤ mMaint ∧ s.g Reg.MD_MODE_PREV ≤ mMaint

/-- What every step keeps. -/
def State.Inv (s : State) : Prop := s.Canon ∧ s.LegalMode

/-- Context `n` of the command engine executes microword `mw` with nanoword `w` now (R566, R575, R586): MC runs it, it has
the turn of its sequencer, no trap is due, both store words are good, and neither word is illegal. -/
abbrev State.MayRun (s : State) (n mw w : Nat) : Prop :=
  s.mcOn = true ∧ s.seqTurn (n % 8) = some n ∧ ((s.trapSift n).mctx n).trapDue = none ∧ s.mwUe (s.mctx n) = none ∧
    s.mwAt (s.mctx n) = (mw, w) ∧ s.mwIllegal (s.mctx n) mw w = false

/-- Context `n` runs a microword of ALU code `op` now: operands `a` and `b`, no memory and no unit operation, and the next
microword follows it (R569, R573). -/
abbrev State.AluRuns (s : State) (n op mw w a b : Nat) : Prop :=
  s.MayRun n mw w ∧ Image.mwSeq mw = 0 ∧ Image.nwMem w = 0 ∧ Image.nwUnit w = 0 ∧ nwAlu w = op ∧
    a = (s.mctx n).reg (nwSrcA w) ∧ b = (s.mctx n).opB w (s.cmd (s.mctx n).cmd).sqe ∧ a < 2 ^ 64 ∧ b < 2 ^ 64

/-- Flags Z, N and C of context `n` for a 64-bit result and a carry (R576). -/
abbrev State.FlagsFor (s : State) (n r : Nat) (carry : Bool) : Prop :=
  (s.mctx n).z = decide (r = 0) ∧ (s.mctx n).n = decide (2 ^ 63 ≤ r) ∧ (s.mctx n).c = carry

/-- Parts of the state. `r4` is MD_MODE, `rmd`, `rbt`, `rpw` and `rsf` the other MD_ registers and the BT_, PW_ and SF_
registers; registers from 0x0003_0000 on are in no part. -/
structure Mask where
  now : Bool := false
  free : Bool := false
  rdata : Bool := false
  sent : Bool := false
  ev : Bool := false
  unitT : Bool := false
  ft : Bool := false
  pw : Bool := false
  sf : Bool := false
  md : Bool := false
  chT : Bool := false
  paT : Bool := false
  ldT : Bool := false
  actT : Bool := false
  acc0 : Bool := false
  acc1 : Bool := false
  spT : Bool := false
  spWait : Bool := false
  ar : Bool := false
  jn : Bool := false
  rb : Bool := false
  lk : Bool := false
  qm : Bool := false
  cm : Bool := false
  hc : Bool := false
  dm : Bool := false
  hwt : Bool := false
  bm : Bool := false
  mem : Bool := false
  mc : Bool := false
  bt : Bool := false
  fuse : Bool := false
  revoked : Bool := false
  store : Bool := false
  r4 : Bool := false
  rmd : Bool := false
  rbt : Bool := false
  rpw : Bool := false
  rsf : Bool := false
  deriving DecidableEq, Repr

/-- `t` differs from `s` only in the parts the mask names (and in registers from 0x0003_0000 on); the queue is the same. -/
structure Within (M : Mask) (s t : State) : Prop where
  pending : t.pending = s.pending
  now : M.now = true ∨ t.now = s.now
  free : M.free = true ∨ t.freeCtr = s.freeCtr
  rdata : M.rdata = true ∨ t.rdata = s.rdata
  sent : M.sent = true ∨ t.sent = s.sent
  ev : M.ev = true ∨ t.ev = s.ev
  unitT : M.unitT = true ∨ t.unitT = s.unitT
  ft : M.ft = true ∨ t.ft = s.ft
  pw : M.pw = true ∨ t.pw = s.pw
  sf : M.sf = true ∨ t.sf = s.sf
  md : M.md = true ∨ t.md = s.md
  chT : M.chT = true ∨ t.chT = s.chT
  paT : M.paT = true ∨ t.paT = s.paT
  ldT : M.ldT = true ∨ t.ldT = s.ldT
  actT : M.actT = true ∨ t.actT = s.actT
  acc0 : M.acc0 = true ∨ t.acc0 = s.acc0
  acc1 : M.acc1 = true ∨ t.acc1 = s.acc1
  spT : M.spT = true ∨ t.spT = s.spT
  spWait : M.spWait = true ∨ t.spWait = s.spWait
  ar : M.ar = true ∨ t.ar = s.ar
  jn : M.jn = true ∨ t.jn = s.jn
  rb : M.rb = true ∨ t.rb = s.rb
  lk : M.lk = true ∨ t.lk = s.lk
  qm : M.qm = true ∨ t.qm = s.qm
  cm : M.cm = true ∨ t.cm = s.cm
  hc : M.hc = true ∨ t.hc = s.hc
  dm : M.dm = true ∨ t.dm = s.dm
  hwt : M.hwt = true ∨ t.dm.hwt = s.dm.hwt
  bm : M.bm = true ∨ t.bm = s.bm
  mem : M.mem = true ∨ t.bm.mem = s.bm.mem
  mc : M.mc = true ∨ t.mc = s.mc
  bt : M.bt = true ∨ t.bt = s.bt
  fuse : M.fuse = true ∨ t.bt.fuse = s.bt.fuse
  revoked : M.revoked = true ∨ t.bt.revoked = s.bt.revoked
  store : M.store = true ∨ t.bt.store = s.bt.store
  r4 : M.r4 = true ∨ t.rd 4 = s.rd 4
  rmd : M.rmd = true ∨ ∀ a, a < 0x10000 → a ≠ 4 → t.rd a = s.rd a
  rbt : M.rbt = true ∨ ∀ a, 0x10000 ≤ a → a < 0x20000 → t.rd a = s.rd a
  rpw : M.rpw = true ∨ ∀ a, 0x20000 ≤ a → a < 0x28000 → t.rd a = s.rd a
  rsf : M.rsf = true ∨ ∀ a, 0x28000 ≤ a → a < 0x30000 → t.rd a = s.rd a

/-- The parts of the state a command may touch. -/
def partsOf : Instr → Mask
  | .registerWrite .. => { free := true, rdata := true, sent := true, ev := true, unitT := true, ft := true, pw := true, sf := true, md := true, chT := true, paT := true, ldT := true, actT := true, spT := true, spWait := true, ar := true, jn := true, rb := true, lk := true, qm := true, cm := true, hc := true, dm := true, hwt := true, bm := true, mem := true, mc := true, bt := true, revoked := true, r4 := true, rmd := true, rbt := true, rpw := true, rsf := true }
  | .rcRegisterRead .. => { rdata := true, sent := true, ev := true, actT := true, ar := true, lk := true, dm := true, hwt := true, rmd := true, rbt := true, rpw := true, rsf := true }
  | .paceWindowEnd .. => { sent := true, ev := true, unitT := true, ft := true, pw := true, md := true, chT := true, actT := true, spT := true, spWait := true, ar := true, jn := true, rb := true, lk := true, cm := true, hc := true, r4 := true, rmd := true, rpw := true }
  | .functionEnable .. => { chT := true }
  | .functionDisable .. => { sent := true, ev := true, unitT := true, ft := true, pw := true, md := true, chT := true, ldT := true, actT := true, spT := true, spWait := true, ar := true, jn := true, rb := true, lk := true, qm := true, cm := true, hc := true, dm := true, bm := true, mem := true, mc := true, r4 := true, rmd := true, rpw := true }
  | .functionStartupDone .. => { sent := true, ev := true, unitT := true, ft := true, pw := true, md := true, chT := true, ldT := true, actT := true, spT := true, spWait := true, ar := true, jn := true, rb := true, lk := true, qm := true, cm := true, hc := true, dm := true, bm := true, mem := true, mc := true, bt := true, r4 := true, rmd := true, rbt := true, rpw := true, rsf := true }
  | .functionShutdownDone .. => { sent := true, ev := true, unitT := true, ft := true, pw := true, md := true, chT := true, ldT := true, actT := true, spT := true, spWait := true, ar := true, jn := true, rb := true, lk := true, qm := true, cm := true, hc := true, dm := true, bm := true, mem := true, mc := true, r4 := true, rmd := true, rpw := true }
  | .controlWriteFrame .. => { free := true, rdata := true, sent := true, ev := true, unitT := true, ft := true, pw := true, sf := true, md := true, chT := true, paT := true, ldT := true, actT := true, spT := true, spWait := true, ar := true, jn := true, rb := true, lk := true, qm := true, cm := true, hc := true, dm := true, hwt := true, bm := true, mem := true, mc := true, bt := true, revoked := true, r4 := true, rmd := true, rbt := true, rpw := true, rsf := true }
  | .controlReadFrame .. => { rdata := true, sent := true, ev := true, actT := true, ar := true, lk := true, dm := true, hwt := true, rmd := true, rbt := true, rpw := true, rsf := true }
  | .doorbellWrite .. => { sent := true, ev := true, lk := true, qm := true }
  | .headselWrite .. => { sent := true, ev := true, chT := true, paT := true, actT := true, lk := true }
  | .headSelectApply .. => { sent := true, ev := true, chT := true, paT := true, actT := true, lk := true }
  | .headSettleDone .. => { chT := true, paT := true, actT := true }
  | .preampAccess .. => { paT := true }
  | .preampReadResponse .. => { sent := true, ev := true, unitT := true, ft := true, pw := true, md := true, chT := true, paT := true, actT := true, spT := true, spWait := true, ar := true, jn := true, rb := true, lk := true, cm := true, hc := true, r4 := true, rmd := true, rpw := true }
  | .preampTimeout .. => { sent := true, ev := true, unitT := true, ft := true, pw := true, md := true, chT := true, paT := true, actT := true, spT := true, spWait := true, ar := true, jn := true, rb := true, lk := true, cm := true, hc := true, r4 := true, rmd := true, rpw := true }
  | .preampFault .. => { sent := true, ev := true, unitT := true, ft := true, pw := true, md := true, chT := true, paT := true, actT := true, spT := true, spWait := true, ar := true, jn := true, rb := true, lk := true, cm := true, hc := true, r4 := true, rmd := true, rpw := true }
  | .sectorRead .. => { free := true, sent := true, ev := true, unitT := true, ft := true, pw := true, md := true, chT := true, paT := true, ldT := true, actT := true, spT := true, spWait := true, ar := true, jn := true, rb := true, lk := true, qm := true, cm := true, hc := true, dm := true, bm := true, mem := true, mc := true, r4 := true, rmd := true, rpw := true }
  | .decodeDone .. => { free := true, sent := true, ev := true, unitT := true, ft := true, pw := true, md := true, chT := true, ldT := true, actT := true, spT := true, spWait := true, ar := true, jn := true, rb := true, lk := true, qm := true, cm := true, hc := true, dm := true, bm := true, mem := true, mc := true, r4 := true, rmd := true, rpw := true }
  | .sectorWrite .. => { sent := true, ev := true, unitT := true, ft := true, pw := true, md := true, chT := true, paT := true, ldT := true, actT := true, spT := true, spWait := true, ar := true, jn := true, rb := true, lk := true, cm := true, hc := true, r4 := true, rmd := true, rpw := true }
  | .smemDataRead .. => { rdata := true }
  | .ladderSectorStart .. => { sent := true, ev := true, unitT := true, ft := true, pw := true, md := true, chT := true, ldT := true, actT := true, spT := true, spWait := true, ar := true, jn := true, rb := true, lk := true, qm := true, cm := true, hc := true, dm := true, bm := true, mem := true, mc := true, r4 := true, rmd := true, rpw := true }
  | .ladderDecodeDone .. => { free := true, sent := true, ev := true, unitT := true, ft := true, pw := true, md := true, chT := true, ldT := true, actT := true, spT := true, spWait := true, ar := true, jn := true, rb := true, lk := true, qm := true, cm := true, hc := true, dm := true, bm := true, mem := true, mc := true, r4 := true, rmd := true, rpw := true }
  | .ladderTimeLimit .. => { sent := true, ev := true, unitT := true, ft := true, pw := true, md := true, chT := true, ldT := true, actT := true, spT := true, spWait := true, ar := true, jn := true, rb := true, lk := true, qm := true, cm := true, hc := true, dm := true, bm := true, mem := true, mc := true, r4 := true, rmd := true, rpw := true }
  | .verifyDone .. => { free := true, sent := true, ev := true, unitT := true, ft := true, pw := true, md := true, chT := true, ldT := true, actT := true, spT := true, spWait := true, ar := true, jn := true, rb := true, lk := true, qm := true, cm := true, hc := true, dm := true, bm := true, mem := true, mc := true, r4 := true, rmd := true, rpw := true }
  | .wedgeFastCheck .. => { sent := true, ev := true, unitT := true, ft := true, pw := true, md := true, chT := true, ldT := true, actT := true, spT := true, spWait := true, ar := true, jn := true, rb := true, lk := true, qm := true, cm := true, hc := true, dm := true, bm := true, mem := true, mc := true, r4 := true, rmd := true, rpw := true }
  | .wedgeOutputArrival .. => { sent := true, ev := true, chT := true, actT := true, lk := true }
  | .wedgeDeadline .. => { sent := true, ev := true, unitT := true, ft := true, pw := true, md := true, chT := true, ldT := true, actT := true, spT := true, spWait := true, ar := true, jn := true, rb := true, lk := true, qm := true, cm := true, hc := true, dm := true, bm := true, mem := true, mc := true, r4 := true, rmd := true, rpw := true }
  | .seekStart .. => { sent := true, ev := true, chT := true, actT := true, lk := true }
  | .settleTimeout .. => { sent := true, ev := true, actT := true, lk := true, cm := true }
  | .accelSample .. => { sent := true, ev := true, unitT := true, ft := true, pw := true, md := true, chT := true, actT := true, acc0 := true, acc1 := true, spT := true, spWait := true, ar := true, jn := true, rb := true, lk := true, cm := true, hc := true, r4 := true, rmd := true, rpw := true }
  | .accelSilent .. => { sent := true, ev := true, unitT := true, ft := true, pw := true, md := true, chT := true, actT := true, acc0 := true, acc1 := true, spT := true, spWait := true, ar := true, jn := true, rb := true, lk := true, cm := true, hc := true, r4 := true, rmd := true, rpw := true }
  | .load .. => { actT := true }
  | .unload .. => { sent := true, ev := true, unitT := true, ft := true, pw := true, md := true, chT := true, ldT := true, actT := true, spT := true, spWait := true, ar := true, jn := true, rb := true, lk := true, qm := true, cm := true, hc := true, dm := true, bm := true, mem := true, mc := true, r4 := true, rmd := true, rpw := true }
  | .seek .. => { sent := true, ev := true, chT := true, actT := true, lk := true }
  | .loadTimeout .. => { sent := true, ev := true, unitT := true, ft := true, pw := true, md := true, chT := true, ldT := true, actT := true, spT := true, spWait := true, ar := true, jn := true, rb := true, lk := true, qm := true, cm := true, hc := true, dm := true, bm := true, mem := true, mc := true, r4 := true, rmd := true, rpw := true }
  | .unloadTick .. => { actT := true }
  | .headsParked .. => { sent := true, ev := true, actT := true, spT := true, spWait := true, lk := true }
  | .unloadTimeout .. => { actT := true }
  | .unloadPushEnd .. => { sent := true, ev := true, unitT := true, ft := true, pw := true, md := true, chT := true, actT := true, spT := true, spWait := true, ar := true, jn := true, rb := true, lk := true, cm := true, hc := true, r4 := true, rmd := true, rpw := true }
  | .svDrvFault .. => { sent := true, ev := true, unitT := true, ft := true, pw := true, md := true, chT := true, ldT := true, actT := true, spT := true, spWait := true, ar := true, jn := true, rb := true, lk := true, qm := true, cm := true, hc := true, dm := true, bm := true, mem := true, mc := true, r4 := true, rmd := true, rpw := true }
  | .testInjection .. => { free := true, actT := true }
  | .captureArm .. => { actT := true }
  | .captureDataRead .. => { rdata := true }
  | .runoutClear .. => { actT := true }
  | .runoutDataAccess .. => { rdata := true, actT := true }
  | .coefWrite .. => { actT := true }
  | .pwmPeriod .. => { sent := true, ev := true, unitT := true, ft := true, pw := true, md := true, chT := true, ldT := true, actT := true, spT := true, spWait := true, ar := true, jn := true, rb := true, lk := true, qm := true, cm := true, hc := true, dm := true, bm := true, mem := true, mc := true, r4 := true, rmd := true, rpw := true }
  | .dutySetArrival .. => { sent := true, ev := true, spT := true, lk := true }
  | .pwmDeadline .. => { sent := true, ev := true, spT := true, lk := true }
  | .mpOvercurrent .. => { sent := true, ev := true, unitT := true, ft := true, pw := true, md := true, chT := true, ldT := true, actT := true, spT := true, spWait := true, ar := true, jn := true, rb := true, lk := true, qm := true, cm := true, hc := true, dm := true, bm := true, mem := true, mc := true, r4 := true, rmd := true, rpw := true }
  | .spin .. => { spT := true, spWait := true }
  | .stop .. => { spT := true, spWait := true }
  | .shortCmd .. => { spT := true, spWait := true }
  | .spindleSpeedSample .. => { sent := true, ev := true, unitT := true, ft := true, pw := true, md := true, chT := true, ldT := true, actT := true, spT := true, spWait := true, ar := true, jn := true, rb := true, lk := true, qm := true, cm := true, hc := true, dm := true, bm := true, mem := true, mc := true, r4 := true, rmd := true, rpw := true }
  | .spindleRegulated .. => { sent := true, ev := true, actT := true, spT := true, lk := true }
  | .spinupStart .. => { spT := true, spWait := true }
  | .rotorAngleFound .. => { spT := true }
  | .observerLock .. => { spT := true }
  | .startAttemptFail .. => { sent := true, ev := true, unitT := true, ft := true, pw := true, md := true, chT := true, actT := true, spT := true, spWait := true, ar := true, jn := true, rb := true, lk := true, cm := true, hc := true, r4 := true, rmd := true, rpw := true }
  | .startRetry .. => { spT := true }
  | .spinupTimeout .. => { sent := true, ev := true, unitT := true, ft := true, pw := true, md := true, chT := true, actT := true, spT := true, spWait := true, ar := true, jn := true, rb := true, lk := true, cm := true, hc := true, r4 := true, rmd := true, rpw := true }
  | .shortStandstill .. => { spT := true }
  | .chopperSwitch .. => { sent := true, ev := true, spT := true, lk := true }
  | .chopperCurrentTimeout .. => { sent := true, ev := true, unitT := true, ft := true, pw := true, md := true, chT := true, actT := true, spT := true, spWait := true, ar := true, jn := true, rb := true, lk := true, cm := true, hc := true, r4 := true, rmd := true, rpw := true }
  | .chopperBusTimeout .. => { sent := true, ev := true, unitT := true, ft := true, pw := true, md := true, chT := true, actT := true, spT := true, spWait := true, ar := true, jn := true, rb := true, lk := true, cm := true, hc := true, r4 := true, rmd := true, rpw := true }
  | .busOvervoltage .. => { sent := true, ev := true, unitT := true, ft := true, pw := true, md := true, chT := true, actT := true, spT := true, spWait := true, ar := true, jn := true, rb := true, lk := true, cm := true, hc := true, r4 := true, rmd := true, rpw := true, rsf := true }
  | .bemfZeroCrossing .. => { sent := true, ev := true, spT := true, spWait := true, lk := true }
  | .reacqTimeout .. => { sent := true, ev := true, unitT := true, ft := true, pw := true, md := true, chT := true, ldT := true, actT := true, spT := true, spWait := true, ar := true, jn := true, rb := true, lk := true, qm := true, cm := true, hc := true, dm := true, bm := true, mem := true, mc := true, r4 := true, rmd := true, rpw := true }
  | .motorBusCollapse .. => { spT := true }
  | .safeSpindleHoldEnd .. => { spT := true }
  | .stripeWriteStart .. => { sent := true, ev := true, unitT := true, ft := true, pw := true, md := true, chT := true, ldT := true, actT := true, spT := true, spWait := true, ar := true, jn := true, rb := true, lk := true, qm := true, cm := true, hc := true, dm := true, bm := true, mem := true, mc := true, r4 := true, rmd := true, rpw := true }
  | .stripWriteDone .. => { sent := true, ev := true, unitT := true, ft := true, pw := true, md := true, chT := true, actT := true, spT := true, spWait := true, ar := true, jn := true, rb := true, lk := true, cm := true, hc := true, bm := true, mem := true, mc := true, r4 := true, rmd := true, rpw := true }
  | .unavailTimeout .. => { sent := true, ev := true, unitT := true, ft := true, pw := true, md := true, chT := true, ldT := true, actT := true, spT := true, spWait := true, ar := true, jn := true, rb := true, lk := true, qm := true, cm := true, hc := true, dm := true, bm := true, mem := true, mc := true, r4 := true, rmd := true, rpw := true }
  | .parityJobSubmit .. => { ar := true }
  | .parityJobDone .. => { sent := true, ev := true, unitT := true, ft := true, pw := true, md := true, chT := true, ldT := true, actT := true, spT := true, spWait := true, ar := true, jn := true, rb := true, lk := true, qm := true, cm := true, hc := true, dm := true, bm := true, mem := true, mc := true, r4 := true, rmd := true, rpw := true }
  | .patternDataAccess .. => { rdata := true, ar := true }
  | .commitStart => { sent := true, ev := true, ar := true, jn := true, lk := true, cm := true }
  | .commitDurable .. => { sent := true, ev := true, unitT := true, ft := true, pw := true, md := true, chT := true, ldT := true, actT := true, spT := true, spWait := true, ar := true, jn := true, rb := true, lk := true, cm := true, hc := true, bm := true, mem := true, mc := true, r4 := true, rmd := true, rpw := true }
  | .jdAccessTimeout .. => { sent := true, ev := true, unitT := true, ft := true, pw := true, md := true, chT := true, actT := true, spT := true, spWait := true, ar := true, jn := true, rb := true, lk := true, cm := true, hc := true, r4 := true, rmd := true, rpw := true }
  | .jdDieFault .. => { sent := true, ev := true, unitT := true, ft := true, pw := true, md := true, chT := true, actT := true, spT := true, spWait := true, ar := true, jn := true, rb := true, lk := true, cm := true, hc := true, r4 := true, rmd := true, rpw := true }
  | .superblockWrite => { jn := true }
  | .jnResync => {}
  | .jnResyncDone => { jn := true }
  | .jnFormat => { ar := true, jn := true, bm := true }
  | .spillIndexWrite => { sent := true, ev := true, unitT := true, ft := true, pw := true, md := true, chT := true, actT := true, spT := true, spWait := true, ar := true, jn := true, rb := true, lk := true, cm := true, hc := true, bm := true, r4 := true, rmd := true, rpw := true }
  | .jnReplay .. => { sent := true, ev := true, unitT := true, ft := true, pw := true, md := true, chT := true, ldT := true, actT := true, spT := true, spWait := true, ar := true, jn := true, rb := true, lk := true, cm := true, hc := true, bm := true, r4 := true, rmd := true, rpw := true }
  | .slowTimeout .. => { sent := true, ev := true, unitT := true, ft := true, pw := true, md := true, chT := true, ldT := true, actT := true, spT := true, spWait := true, ar := true, jn := true, rb := true, lk := true, qm := true, cm := true, hc := true, dm := true, bm := true, mem := true, mc := true, r4 := true, rmd := true, rpw := true }
  | .rbFail .. => { sent := true, ev := true, unitT := true, ft := true, pw := true, md := true, chT := true, ldT := true, actT := true, spT := true, spWait := true, ar := true, jn := true, rb := true, lk := true, qm := true, cm := true, hc := true, dm := true, bm := true, mem := true, mc := true, r4 := true, rmd := true, rpw := true }
  | .rbClear .. => { sent := true, ev := true, ar := true, rb := true, lk := true }
  | .rbReshape .. => { rb := true }
  | .rbPause => { rb := true }
  | .rbResume => { rb := true }
  | .rbFtClear .. => { rb := true }
  | .rbForget .. => { rb := true }
  | .rebuildRowDone .. => { free := true, sent := true, ev := true, unitT := true, ft := true, pw := true, md := true, chT := true, ldT := true, actT := true, spT := true, spWait := true, ar := true, jn := true, rb := true, lk := true, qm := true, cm := true, hc := true, dm := true, bm := true, mem := true, mc := true, r4 := true, rmd := true, rpw := true }
  | .reshapeStripeMoved .. => { sent := true, ev := true, unitT := true, ft := true, pw := true, md := true, chT := true, actT := true, spT := true, spWait := true, ar := true, jn := true, rb := true, lk := true, cm := true, hc := true, r4 := true, rmd := true, rpw := true }
  | .reshapeCheckpoint => { sent := true, ev := true, unitT := true, ft := true, pw := true, md := true, chT := true, actT := true, spT := true, spWait := true, ar := true, jn := true, rb := true, lk := true, cm := true, hc := true, bm := true, mem := true, mc := true, r4 := true, rmd := true, rpw := true }
  | .ftDataRead => { rdata := true }
  | .blockReceive .. => { sent := true, ev := true, unitT := true, ft := true, pw := true, md := true, chT := true, actT := true, spT := true, spWait := true, ar := true, jn := true, rb := true, lk := true, cm := true, hc := true, r4 := true, rmd := true, rpw := true }
  | .lcfReceive .. => { lk := true }
  | .replayTimeout .. => { lk := true }
  | .portSignalDetect .. => { lk := true }
  | .rateTrialDone .. => { lk := true }
  | .portTrained .. => { sent := true, ev := true, lk := true, hc := true, mc := true }
  | .retrainW => { lk := true }
  | .retrainE => { lk := true }
  | .tapTrainingDone => { lk := true }
  | .lkShutdownDrain .. => { lk := true }
  | .frameForward .. => { sent := true, ev := true, lk := true }
  | .enumReceive .. => { lk := true }
  | .readCplReceive .. => { sent := true, ev := true, unitT := true, ft := true, pw := true, md := true, chT := true, ldT := true, actT := true, spT := true, spWait := true, ar := true, jn := true, rb := true, lk := true, qm := true, cm := true, hc := true, dm := true, bm := true, mem := true, mc := true, bt := true, r4 := true, rmd := true, rbt := true, rpw := true, rsf := true }
  | .writeRspReceive .. => { sent := true, ev := true, unitT := true, ft := true, pw := true, md := true, chT := true, ldT := true, actT := true, spT := true, spWait := true, ar := true, jn := true, rb := true, lk := true, qm := true, cm := true, hc := true, dm := true, bm := true, mem := true, mc := true, bt := true, r4 := true, rmd := true, rbt := true, rpw := true, rsf := true }
  | .errorRspReceive .. => { sent := true, ev := true, unitT := true, ft := true, pw := true, md := true, chT := true, ldT := true, actT := true, spT := true, spWait := true, ar := true, jn := true, rb := true, lk := true, qm := true, cm := true, hc := true, dm := true, bm := true, mem := true, mc := true, bt := true, r4 := true, rmd := true, rbt := true, rpw := true, rsf := true }
  | .linkTransactionTimeout .. => { sent := true, ev := true, unitT := true, ft := true, pw := true, md := true, chT := true, ldT := true, actT := true, spT := true, spWait := true, ar := true, jn := true, rb := true, lk := true, qm := true, cm := true, hc := true, dm := true, bm := true, mem := true, mc := true, bt := true, r4 := true, rmd := true, rbt := true, rpw := true, rsf := true }
  | .laneFail .. => { sent := true, ev := true, unitT := true, ft := true, pw := true, md := true, chT := true, actT := true, spT := true, spWait := true, ar := true, jn := true, rb := true, lk := true, cm := true, hc := true, r4 := true, rmd := true, rpw := true }
  | .portDown .. => { sent := true, ev := true, unitT := true, ft := true, pw := true, md := true, chT := true, actT := true, spT := true, spWait := true, ar := true, jn := true, rb := true, lk := true, cm := true, hc := true, mc := true, r4 := true, rmd := true, rpw := true }
  | .portRetry .. => { lk := true }
  | .doorbellServe .. => { sent := true, ev := true, unitT := true, ft := true, pw := true, md := true, chT := true, actT := true, spT := true, spWait := true, ar := true, jn := true, rb := true, lk := true, qm := true, cm := true, hc := true, bm := true, mem := true, r4 := true, rmd := true, rpw := true }
  | .sqPiReadReturn .. => { sent := true, ev := true, lk := true, qm := true, hc := true, bm := true, mem := true }
  | .cqCiReadReturn .. => { sent := true, ev := true, lk := true, qm := true, cm := true, hc := true, bm := true, mem := true }
  | .entryTaken .. => { sent := true, ev := true, md := true, lk := true, qm := true, cm := true, hc := true, bm := true, mem := true, mc := true }
  | .haltPark => { sent := true, ev := true, md := true, chT := true, actT := true, ar := true, jn := true, rb := true, lk := true, qm := true, cm := true, rmd := true }
  | .completionWrite .. => { sent := true, ev := true, lk := true, qm := true, cm := true, hc := true, bm := true, mem := true }
  | .interruptTimer .. => { sent := true, ev := true, lk := true, qm := true, hc := true }
  | .qmRead => {}
  | .qmCreate => { qm := true, bm := true, mem := true }
  | .qmRecover => { sent := true, ev := true, lk := true, qm := true }
  | .qmRecoverDone => { sent := true, ev := true, lk := true, qm := true, cm := true, hc := true, bm := true, mem := true }
  | .qmDelete => { qm := true, cm := true, bm := true, mem := true }
  | .read .. => { sent := true, ev := true, unitT := true, ft := true, pw := true, md := true, chT := true, ldT := true, actT := true, spT := true, spWait := true, ar := true, jn := true, rb := true, lk := true, qm := true, cm := true, hc := true, dm := true, bm := true, mem := true, mc := true, r4 := true, rmd := true, rpw := true }
  | .write .. => { sent := true, ev := true, unitT := true, ft := true, pw := true, md := true, chT := true, actT := true, spT := true, spWait := true, ar := true, jn := true, rb := true, lk := true, qm := true, cm := true, hc := true, dm := true, bm := true, mem := true, mc := true, bt := true, r4 := true, rmd := true, rbt := true, rpw := true, rsf := true }
  | .readStream .. => { sent := true, ev := true, unitT := true, ft := true, pw := true, md := true, chT := true, ldT := true, actT := true, spT := true, spWait := true, ar := true, jn := true, rb := true, lk := true, qm := true, cm := true, hc := true, dm := true, bm := true, mem := true, mc := true, r4 := true, rmd := true, rpw := true }
  | .flush .. => { cm := true, bm := true, mem := true, mc := true }
  | .flushDone .. => { cm := true, bm := true, mem := true, mc := true }
  | .verify .. => { sent := true, ev := true, unitT := true, ft := true, pw := true, md := true, chT := true, ldT := true, actT := true, spT := true, spWait := true, ar := true, jn := true, rb := true, lk := true, qm := true, cm := true, hc := true, dm := true, bm := true, mem := true, mc := true, r4 := true, rmd := true, rpw := true }
  | .deallocate .. => { sent := true, ev := true, unitT := true, ft := true, pw := true, md := true, chT := true, actT := true, spT := true, spWait := true, ar := true, jn := true, rb := true, lk := true, qm := true, cm := true, hc := true, dm := true, bm := true, mem := true, mc := true, bt := true, r4 := true, rmd := true, rbt := true, rpw := true, rsf := true }
  | .writeZeroes .. => { sent := true, ev := true, unitT := true, ft := true, pw := true, md := true, chT := true, actT := true, spT := true, spWait := true, ar := true, jn := true, rb := true, lk := true, cm := true, hc := true, bm := true, mem := true, mc := true, r4 := true, rmd := true, rpw := true }
  | .volDefine .. => { sent := true, ev := true, unitT := true, ft := true, pw := true, md := true, chT := true, actT := true, spT := true, spWait := true, ar := true, jn := true, rb := true, lk := true, qm := true, cm := true, hc := true, dm := true, bm := true, mem := true, mc := true, bt := true, r4 := true, rmd := true, rbt := true, rpw := true, rsf := true }
  | .volEnable .. => { cm := true, bm := true, mem := true, mc := true }
  | .volDisable .. => { cm := true, bm := true, mem := true, mc := true }
  | .patternLoad .. => { sent := true, ev := true, unitT := true, ft := true, pw := true, md := true, chT := true, actT := true, spT := true, spWait := true, ar := true, jn := true, rb := true, lk := true, qm := true, cm := true, hc := true, dm := true, bm := true, mem := true, mc := true, bt := true, r4 := true, rmd := true, rbt := true, rpw := true, rsf := true }
  | .memberFail .. => { sent := true, ev := true, unitT := true, ft := true, pw := true, md := true, chT := true, ldT := true, actT := true, spT := true, spWait := true, ar := true, jn := true, rb := true, lk := true, qm := true, cm := true, hc := true, dm := true, bm := true, mem := true, mc := true, r4 := true, rmd := true, rpw := true }
  | .memberClear .. => { sent := true, ev := true, ar := true, rb := true, lk := true, cm := true, bm := true, mem := true, mc := true }
  | .reshape .. => { rb := true, cm := true, bm := true, mem := true, mc := true }
  | .reshapePause .. => { rb := true, cm := true, bm := true, mem := true, mc := true }
  | .reshapeResume .. => { rb := true, cm := true, bm := true, mem := true, mc := true }
  | .forfeitClear .. => { rb := true, cm := true, bm := true, mem := true, mc := true }
  | .volForget .. => { rb := true, cm := true, bm := true, mem := true, mc := true }
  | .identify .. => { sent := true, ev := true, unitT := true, ft := true, pw := true, md := true, chT := true, actT := true, spT := true, spWait := true, ar := true, jn := true, rb := true, lk := true, qm := true, cm := true, hc := true, dm := true, bm := true, mem := true, mc := true, r4 := true, rmd := true, rpw := true }
  | .queueCreate .. => { sent := true, ev := true, unitT := true, ft := true, pw := true, md := true, chT := true, actT := true, spT := true, spWait := true, ar := true, jn := true, rb := true, lk := true, qm := true, cm := true, hc := true, dm := true, bm := true, mem := true, mc := true, bt := true, r4 := true, rmd := true, rbt := true, rpw := true, rsf := true }
  | .queueDelete .. => { sent := true, ev := true, unitT := true, ft := true, pw := true, md := true, chT := true, actT := true, spT := true, spWait := true, ar := true, jn := true, rb := true, lk := true, qm := true, cm := true, hc := true, bm := true, mem := true, mc := true, r4 := true, rmd := true, rpw := true }
  | .queueDeleteDone .. => { qm := true, cm := true, bm := true, mem := true, mc := true }
  | .getLog .. => { sent := true, ev := true, unitT := true, ft := true, pw := true, md := true, chT := true, actT := true, spT := true, spWait := true, ar := true, jn := true, rb := true, lk := true, qm := true, cm := true, hc := true, dm := true, bm := true, mem := true, mc := true, r4 := true, rmd := true, rpw := true }
  | .setFeature .. => { md := true, cm := true, bm := true, mem := true, mc := true, rmd := true, rbt := true, rpw := true, rsf := true }
  | .getFeature .. => { cm := true, bm := true, mem := true, mc := true }
  | .fwStage .. => { sent := true, ev := true, unitT := true, ft := true, pw := true, md := true, chT := true, actT := true, spT := true, spWait := true, ar := true, jn := true, rb := true, lk := true, qm := true, cm := true, hc := true, dm := true, bm := true, mem := true, mc := true, bt := true, r4 := true, rmd := true, rbt := true, rpw := true, rsf := true }
  | .fwActivate .. => { cm := true, bm := true, mem := true, mc := true, bt := true }
  | .attest .. => { sent := true, ev := true, unitT := true, ft := true, pw := true, md := true, chT := true, actT := true, spT := true, spWait := true, ar := true, jn := true, rb := true, lk := true, qm := true, cm := true, hc := true, dm := true, bm := true, mem := true, mc := true, bt := true, r4 := true, rmd := true, rbt := true, rpw := true, rsf := true }
  | .attestDone => { sent := true, ev := true, unitT := true, ft := true, pw := true, md := true, chT := true, ldT := true, actT := true, spT := true, spWait := true, ar := true, jn := true, rb := true, lk := true, qm := true, cm := true, hc := true, dm := true, bm := true, mem := true, mc := true, bt := true, r4 := true, rmd := true, rbt := true, rpw := true }
  | .keyEnroll .. => { sent := true, ev := true, unitT := true, ft := true, pw := true, md := true, chT := true, actT := true, spT := true, spWait := true, ar := true, jn := true, rb := true, lk := true, qm := true, cm := true, hc := true, dm := true, bm := true, mem := true, mc := true, bt := true, r4 := true, rmd := true, rbt := true, rpw := true, rsf := true }
  | .microLoad .. => { sent := true, ev := true, unitT := true, ft := true, pw := true, md := true, chT := true, actT := true, spT := true, spWait := true, ar := true, jn := true, rb := true, lk := true, qm := true, cm := true, hc := true, dm := true, bm := true, mem := true, mc := true, bt := true, r4 := true, rmd := true, rbt := true, rpw := true, rsf := true }
  | .abort .. => { sent := true, ev := true, unitT := true, ft := true, pw := true, md := true, chT := true, ldT := true, actT := true, spT := true, spWait := true, ar := true, jn := true, rb := true, lk := true, qm := true, cm := true, hc := true, dm := true, bm := true, mem := true, mc := true, r4 := true, rmd := true, rpw := true }
  | .actuatorSchedule .. => { rb := true, cm := true }
  | .deadlineExpiry .. => { sent := true, ev := true, unitT := true, ft := true, pw := true, md := true, chT := true, ldT := true, actT := true, spT := true, spWait := true, ar := true, jn := true, rb := true, lk := true, qm := true, cm := true, hc := true, dm := true, bm := true, mem := true, mc := true, r4 := true, rmd := true, rpw := true }
  | .cmReset => { sent := true, ev := true, lk := true, cm := true }
  | .cmResetComplete => { sent := true, ev := true, unitT := true, ft := true, pw := true, md := true, chT := true, ldT := true, actT := true, spT := true, spWait := true, ar := true, jn := true, rb := true, lk := true, qm := true, cm := true, hc := true, dm := true, bm := true, mem := true, mc := true, r4 := true, rmd := true, rpw := true }
  | .cmShutdownLimit => { sent := true, ev := true, unitT := true, ft := true, pw := true, md := true, chT := true, ldT := true, actT := true, spT := true, spWait := true, ar := true, jn := true, rb := true, lk := true, qm := true, cm := true, hc := true, dm := true, bm := true, mem := true, mc := true, r4 := true, rmd := true, rpw := true }
  | .activationDrainLimit => { sent := true, ev := true, unitT := true, ft := true, pw := true, md := true, chT := true, ldT := true, actT := true, spT := true, spWait := true, ar := true, jn := true, rb := true, lk := true, qm := true, cm := true, hc := true, dm := true, bm := true, mem := true, mc := true, r4 := true, rmd := true, rpw := true }
  | .activationSwitch => { sent := true, ev := true, unitT := true, ft := true, pw := true, md := true, chT := true, actT := true, spT := true, spWait := true, ar := true, jn := true, rb := true, lk := true, cm := true, hc := true, bm := true, mem := true, mc := true, bt := true, r4 := true, rmd := true, rbt := true, rpw := true, rsf := true }
  | .activationDone => { sent := true, ev := true, md := true, lk := true, qm := true, cm := true, bm := true, mem := true, mc := true, bt := true, rbt := true }
  | .cacheRead .. => { sent := true, ev := true, lk := true, hc := true }
  | .cacheWrite .. => { sent := true, ev := true, lk := true, hc := true }
  | .mergeHoldExpiry .. => { sent := true, ev := true, unitT := true, ft := true, pw := true, md := true, chT := true, ldT := true, actT := true, spT := true, spWait := true, ar := true, jn := true, rb := true, lk := true, qm := true, cm := true, hc := true, dm := true, bm := true, mem := true, mc := true, r4 := true, rmd := true, rpw := true }
  | .invalLine => { hc := true }
  | .invalRange => { hc := true }
  | .invalAll => { hc := true }
  | .drain => { sent := true, ev := true, lk := true, hc := true }
  | .dmChGo .. => { sent := true, ev := true, unitT := true, ft := true, pw := true, md := true, chT := true, actT := true, spT := true, spWait := true, ar := true, jn := true, rb := true, lk := true, qm := true, cm := true, hc := true, dm := true, bm := true, mem := true, mc := true, r4 := true, rmd := true, rpw := true }
  | .dmaPause .. => { sent := true, ev := true, unitT := true, ft := true, pw := true, md := true, chT := true, actT := true, spT := true, spWait := true, ar := true, jn := true, rb := true, lk := true, cm := true, hc := true, dm := true, bm := true, mem := true, mc := true, r4 := true, rmd := true, rpw := true }
  | .dmaUnpause .. => { sent := true, ev := true, unitT := true, ft := true, pw := true, md := true, chT := true, actT := true, spT := true, spWait := true, ar := true, jn := true, rb := true, lk := true, qm := true, cm := true, hc := true, dm := true, bm := true, mem := true, mc := true, r4 := true, rmd := true, rpw := true }
  | .shadowArm .. => { sent := true, ev := true, unitT := true, ft := true, pw := true, md := true, chT := true, actT := true, spT := true, spWait := true, ar := true, jn := true, rb := true, lk := true, qm := true, cm := true, hc := true, dm := true, bm := true, mem := true, mc := true, r4 := true, rmd := true, rpw := true }
  | .peripheralRequest .. => { sent := true, ev := true, unitT := true, ft := true, pw := true, md := true, chT := true, actT := true, spT := true, spWait := true, ar := true, jn := true, rb := true, lk := true, cm := true, hc := true, dm := true, bm := true, mem := true, mc := true, r4 := true, rmd := true, rpw := true }
  | .peripheralWithdraw .. => { sent := true, ev := true, lk := true, dm := true }
  | .dmResume .. => { sent := true, ev := true, unitT := true, ft := true, pw := true, md := true, chT := true, ldT := true, actT := true, spT := true, spWait := true, ar := true, jn := true, rb := true, lk := true, qm := true, cm := true, hc := true, dm := true, bm := true, mem := true, mc := true, r4 := true, rmd := true, rpw := true }
  | .faultTimerExpiry .. => { sent := true, ev := true, unitT := true, ft := true, pw := true, md := true, chT := true, ldT := true, actT := true, spT := true, spWait := true, ar := true, jn := true, rb := true, lk := true, qm := true, cm := true, hc := true, dm := true, bm := true, mem := true, mc := true, r4 := true, rmd := true, rpw := true }
  | .hwtDataAccess .. => { rdata := true, dm := true, hwt := true }
  | .bufferRead .. => { sent := true, ev := true, unitT := true, ft := true, pw := true, md := true, chT := true, ldT := true, actT := true, spT := true, spWait := true, ar := true, jn := true, rb := true, lk := true, qm := true, cm := true, hc := true, dm := true, bm := true, mem := true, mc := true, bt := true, r4 := true, rmd := true, rbt := true, rpw := true, rsf := true }
  | .scrubBurst .. => { sent := true, ev := true, unitT := true, ft := true, pw := true, md := true, chT := true, actT := true, spT := true, spWait := true, ar := true, jn := true, rb := true, lk := true, cm := true, hc := true, bm := true, mem := true, r4 := true, rmd := true, rpw := true }
  | .sramScrub .. => { free := true, sent := true, ev := true, unitT := true, ft := true, pw := true, md := true, chT := true, ldT := true, actT := true, spT := true, spWait := true, ar := true, jn := true, rb := true, lk := true, qm := true, cm := true, hc := true, dm := true, bm := true, mem := true, mc := true, r4 := true, rmd := true, rpw := true }
  | .edRebuildDone .. => { ldT := true, cm := true, bm := true }
  | .mr4Poll .. => { sent := true, ev := true, lk := true, bm := true }
  | .contextDispatch .. => { free := true, cm := true, bm := true, mem := true, mc := true }
  | .microwordExecute .. => { free := true, sent := true, ev := true, unitT := true, ft := true, pw := true, md := true, chT := true, ldT := true, actT := true, spT := true, spWait := true, ar := true, jn := true, rb := true, lk := true, qm := true, cm := true, hc := true, dm := true, bm := true, mem := true, mc := true, r4 := true, rmd := true, rpw := true }
  | .seqNext .. => { free := true, sent := true, ev := true, unitT := true, ft := true, pw := true, md := true, chT := true, ldT := true, actT := true, spT := true, spWait := true, ar := true, jn := true, rb := true, lk := true, qm := true, cm := true, hc := true, dm := true, bm := true, mem := true, mc := true, r4 := true, rmd := true, rpw := true }
  | .seqJump .. => { free := true, sent := true, ev := true, unitT := true, ft := true, pw := true, md := true, chT := true, ldT := true, actT := true, spT := true, spWait := true, ar := true, jn := true, rb := true, lk := true, qm := true, cm := true, hc := true, dm := true, bm := true, mem := true, mc := true, r4 := true, rmd := true, rpw := true }
  | .seqBranch .. => { free := true, sent := true, ev := true, unitT := true, ft := true, pw := true, md := true, chT := true, ldT := true, actT := true, spT := true, spWait := true, ar := true, jn := true, rb := true, lk := true, qm := true, cm := true, hc := true, dm := true, bm := true, mem := true, mc := true, r4 := true, rmd := true, rpw := true }
  | .seqCall .. => { free := true, sent := true, ev := true, unitT := true, ft := true, pw := true, md := true, chT := true, ldT := true, actT := true, spT := true, spWait := true, ar := true, jn := true, rb := true, lk := true, qm := true, cm := true, hc := true, dm := true, bm := true, mem := true, mc := true, r4 := true, rmd := true, rpw := true }
  | .seqReturn .. => { free := true, sent := true, ev := true, unitT := true, ft := true, pw := true, md := true, chT := true, ldT := true, actT := true, spT := true, spWait := true, ar := true, jn := true, rb := true, lk := true, qm := true, cm := true, hc := true, dm := true, bm := true, mem := true, mc := true, r4 := true, rmd := true, rpw := true }
  | .seqWait .. => { free := true, sent := true, ev := true, unitT := true, ft := true, pw := true, md := true, chT := true, ldT := true, actT := true, spT := true, spWait := true, ar := true, jn := true, rb := true, lk := true, qm := true, cm := true, hc := true, dm := true, bm := true, mem := true, mc := true, r4 := true, rmd := true, rpw := true }
  | .waitEventDone .. => { free := true, sent := true, ev := true, unitT := true, ft := true, pw := true, md := true, chT := true, ldT := true, actT := true, spT := true, spWait := true, ar := true, jn := true, rb := true, lk := true, qm := true, cm := true, hc := true, dm := true, bm := true, mem := true, mc := true, r4 := true, rmd := true, rpw := true }
  | .seqDispatch .. => { free := true, sent := true, ev := true, unitT := true, ft := true, pw := true, md := true, chT := true, ldT := true, actT := true, spT := true, spWait := true, ar := true, jn := true, rb := true, lk := true, qm := true, cm := true, hc := true, dm := true, bm := true, mem := true, mc := true, r4 := true, rmd := true, rpw := true }
  | .seqEnd .. => { free := true, sent := true, ev := true, unitT := true, ft := true, pw := true, md := true, chT := true, ldT := true, actT := true, spT := true, spWait := true, ar := true, jn := true, rb := true, lk := true, qm := true, cm := true, hc := true, dm := true, bm := true, mem := true, mc := true, r4 := true, rmd := true, rpw := true }
  | .aluPass .. => { free := true, sent := true, ev := true, unitT := true, ft := true, pw := true, md := true, chT := true, ldT := true, actT := true, spT := true, spWait := true, ar := true, jn := true, rb := true, lk := true, qm := true, cm := true, hc := true, dm := true, bm := true, mem := true, mc := true, r4 := true, rmd := true, rpw := true }
  | .aluAdd .. => { free := true, sent := true, ev := true, unitT := true, ft := true, pw := true, md := true, chT := true, ldT := true, actT := true, spT := true, spWait := true, ar := true, jn := true, rb := true, lk := true, qm := true, cm := true, hc := true, dm := true, bm := true, mem := true, mc := true, r4 := true, rmd := true, rpw := true }
  | .aluSub .. => { free := true, sent := true, ev := true, unitT := true, ft := true, pw := true, md := true, chT := true, ldT := true, actT := true, spT := true, spWait := true, ar := true, jn := true, rb := true, lk := true, qm := true, cm := true, hc := true, dm := true, bm := true, mem := true, mc := true, r4 := true, rmd := true, rpw := true }
  | .aluAnd .. => { free := true, sent := true, ev := true, unitT := true, ft := true, pw := true, md := true, chT := true, ldT := true, actT := true, spT := true, spWait := true, ar := true, jn := true, rb := true, lk := true, qm := true, cm := true, hc := true, dm := true, bm := true, mem := true, mc := true, r4 := true, rmd := true, rpw := true }
  | .aluOr .. => { free := true, sent := true, ev := true, unitT := true, ft := true, pw := true, md := true, chT := true, ldT := true, actT := true, spT := true, spWait := true, ar := true, jn := true, rb := true, lk := true, qm := true, cm := true, hc := true, dm := true, bm := true, mem := true, mc := true, r4 := true, rmd := true, rpw := true }
  | .aluXor .. => { free := true, sent := true, ev := true, unitT := true, ft := true, pw := true, md := true, chT := true, ldT := true, actT := true, spT := true, spWait := true, ar := true, jn := true, rb := true, lk := true, qm := true, cm := true, hc := true, dm := true, bm := true, mem := true, mc := true, r4 := true, rmd := true, rpw := true }
  | .aluShl .. => { free := true, sent := true, ev := true, unitT := true, ft := true, pw := true, md := true, chT := true, ldT := true, actT := true, spT := true, spWait := true, ar := true, jn := true, rb := true, lk := true, qm := true, cm := true, hc := true, dm := true, bm := true, mem := true, mc := true, r4 := true, rmd := true, rpw := true }
  | .aluShr .. => { free := true, sent := true, ev := true, unitT := true, ft := true, pw := true, md := true, chT := true, ldT := true, actT := true, spT := true, spWait := true, ar := true, jn := true, rb := true, lk := true, qm := true, cm := true, hc := true, dm := true, bm := true, mem := true, mc := true, r4 := true, rmd := true, rpw := true }
  | .aluCmp .. => { free := true, sent := true, ev := true, unitT := true, ft := true, pw := true, md := true, chT := true, ldT := true, actT := true, spT := true, spWait := true, ar := true, jn := true, rb := true, lk := true, qm := true, cm := true, hc := true, dm := true, bm := true, mem := true, mc := true, r4 := true, rmd := true, rpw := true }
  | .aluCrc32c .. => { free := true, sent := true, ev := true, unitT := true, ft := true, pw := true, md := true, chT := true, ldT := true, actT := true, spT := true, spWait := true, ar := true, jn := true, rb := true, lk := true, qm := true, cm := true, hc := true, dm := true, bm := true, mem := true, mc := true, r4 := true, rmd := true, rpw := true }
  | .aluMin .. => { free := true, sent := true, ev := true, unitT := true, ft := true, pw := true, md := true, chT := true, ldT := true, actT := true, spT := true, spWait := true, ar := true, jn := true, rb := true, lk := true, qm := true, cm := true, hc := true, dm := true, bm := true, mem := true, mc := true, r4 := true, rmd := true, rpw := true }
  | .aluMax .. => { free := true, sent := true, ev := true, unitT := true, ft := true, pw := true, md := true, chT := true, ldT := true, actT := true, spT := true, spWait := true, ar := true, jn := true, rb := true, lk := true, qm := true, cm := true, hc := true, dm := true, bm := true, mem := true, mc := true, r4 := true, rmd := true, rpw := true }
  | .aluExtract .. => { free := true, sent := true, ev := true, unitT := true, ft := true, pw := true, md := true, chT := true, ldT := true, actT := true, spT := true, spWait := true, ar := true, jn := true, rb := true, lk := true, qm := true, cm := true, hc := true, dm := true, bm := true, mem := true, mc := true, r4 := true, rmd := true, rpw := true }
  | .aluMul .. => { free := true, sent := true, ev := true, unitT := true, ft := true, pw := true, md := true, chT := true, ldT := true, actT := true, spT := true, spWait := true, ar := true, jn := true, rb := true, lk := true, qm := true, cm := true, hc := true, dm := true, bm := true, mem := true, mc := true, r4 := true, rmd := true, rpw := true }
  | .bufLoad .. => { free := true, sent := true, ev := true, unitT := true, ft := true, pw := true, md := true, chT := true, ldT := true, actT := true, spT := true, spWait := true, ar := true, jn := true, rb := true, lk := true, qm := true, cm := true, hc := true, dm := true, bm := true, mem := true, mc := true, r4 := true, rmd := true, rpw := true }
  | .bufStore .. => { free := true, sent := true, ev := true, unitT := true, ft := true, pw := true, md := true, chT := true, ldT := true, actT := true, spT := true, spWait := true, ar := true, jn := true, rb := true, lk := true, qm := true, cm := true, hc := true, dm := true, bm := true, mem := true, mc := true, r4 := true, rmd := true, rpw := true }
  | .hostLoad .. => { free := true, sent := true, ev := true, unitT := true, ft := true, pw := true, md := true, chT := true, ldT := true, actT := true, spT := true, spWait := true, ar := true, jn := true, rb := true, lk := true, qm := true, cm := true, hc := true, dm := true, bm := true, mem := true, mc := true, r4 := true, rmd := true, rpw := true }
  | .hostStore .. => { free := true, sent := true, ev := true, unitT := true, ft := true, pw := true, md := true, chT := true, ldT := true, actT := true, spT := true, spWait := true, ar := true, jn := true, rb := true, lk := true, qm := true, cm := true, hc := true, dm := true, bm := true, mem := true, mc := true, r4 := true, rmd := true, rpw := true }
  | .dmaClaim .. => { free := true, sent := true, ev := true, unitT := true, ft := true, pw := true, md := true, chT := true, ldT := true, actT := true, spT := true, spWait := true, ar := true, jn := true, rb := true, lk := true, qm := true, cm := true, hc := true, dm := true, bm := true, mem := true, mc := true, r4 := true, rmd := true, rpw := true }
  | .unitDmaGo .. => { free := true, sent := true, ev := true, unitT := true, ft := true, pw := true, md := true, chT := true, ldT := true, actT := true, spT := true, spWait := true, ar := true, jn := true, rb := true, lk := true, qm := true, cm := true, hc := true, dm := true, bm := true, mem := true, mc := true, r4 := true, rmd := true, rpw := true }
  | .unitDmaArm .. => { free := true, sent := true, ev := true, unitT := true, ft := true, pw := true, md := true, chT := true, ldT := true, actT := true, spT := true, spWait := true, ar := true, jn := true, rb := true, lk := true, qm := true, cm := true, hc := true, dm := true, bm := true, mem := true, mc := true, r4 := true, rmd := true, rpw := true }
  | .dmaRelease .. => { free := true, sent := true, ev := true, unitT := true, ft := true, pw := true, md := true, chT := true, ldT := true, actT := true, spT := true, spWait := true, ar := true, jn := true, rb := true, lk := true, qm := true, cm := true, hc := true, dm := true, bm := true, mem := true, mc := true, r4 := true, rmd := true, rpw := true }
  | .peSub .. => { free := true, sent := true, ev := true, unitT := true, ft := true, pw := true, md := true, chT := true, ldT := true, actT := true, spT := true, spWait := true, ar := true, jn := true, rb := true, lk := true, qm := true, cm := true, hc := true, dm := true, bm := true, mem := true, mc := true, r4 := true, rmd := true, rpw := true }
  | .sreq .. => { free := true, sent := true, ev := true, unitT := true, ft := true, pw := true, md := true, chT := true, ldT := true, actT := true, spT := true, spWait := true, ar := true, jn := true, rb := true, lk := true, qm := true, cm := true, hc := true, dm := true, bm := true, mem := true, mc := true, r4 := true, rmd := true, rpw := true }
  | .setStatus .. => { free := true, sent := true, ev := true, unitT := true, ft := true, pw := true, md := true, chT := true, ldT := true, actT := true, spT := true, spWait := true, ar := true, jn := true, rb := true, lk := true, qm := true, cm := true, hc := true, dm := true, bm := true, mem := true, mc := true, r4 := true, rmd := true, rpw := true }
  | .park .. => { free := true, sent := true, ev := true, unitT := true, ft := true, pw := true, md := true, chT := true, ldT := true, actT := true, spT := true, spWait := true, ar := true, jn := true, rb := true, lk := true, qm := true, cm := true, hc := true, dm := true, bm := true, mem := true, mc := true, r4 := true, rmd := true, rpw := true }
  | .frame .. => { free := true, sent := true, ev := true, unitT := true, ft := true, pw := true, md := true, chT := true, ldT := true, actT := true, spT := true, spWait := true, ar := true, jn := true, rb := true, lk := true, qm := true, cm := true, hc := true, dm := true, bm := true, mem := true, mc := true, r4 := true, rmd := true, rpw := true }
  | .tret .. => { free := true, sent := true, ev := true, unitT := true, ft := true, pw := true, md := true, chT := true, ldT := true, actT := true, spT := true, spWait := true, ar := true, jn := true, rb := true, lk := true, qm := true, cm := true, hc := true, dm := true, bm := true, mem := true, mc := true, r4 := true, rmd := true, rpw := true }
  | .dmaAny .. => { free := true, sent := true, ev := true, unitT := true, ft := true, pw := true, md := true, chT := true, ldT := true, actT := true, spT := true, spWait := true, ar := true, jn := true, rb := true, lk := true, qm := true, cm := true, hc := true, dm := true, bm := true, mem := true, mc := true, r4 := true, rmd := true, rpw := true }
  | .jcommit .. => { free := true, sent := true, ev := true, unitT := true, ft := true, pw := true, md := true, chT := true, ldT := true, actT := true, spT := true, spWait := true, ar := true, jn := true, rb := true, lk := true, qm := true, cm := true, hc := true, dm := true, bm := true, mem := true, mc := true, r4 := true, rmd := true, rpw := true }
  | .sched .. => { free := true, sent := true, ev := true, unitT := true, ft := true, pw := true, md := true, chT := true, ldT := true, actT := true, spT := true, spWait := true, ar := true, jn := true, rb := true, lk := true, qm := true, cm := true, hc := true, dm := true, bm := true, mem := true, mc := true, r4 := true, rmd := true, rpw := true }
  | .volRead .. => { free := true, sent := true, ev := true, unitT := true, ft := true, pw := true, md := true, chT := true, ldT := true, actT := true, spT := true, spWait := true, ar := true, jn := true, rb := true, lk := true, qm := true, cm := true, hc := true, dm := true, bm := true, mem := true, mc := true, r4 := true, rmd := true, rpw := true }
  | .volWrite .. => { free := true, sent := true, ev := true, unitT := true, ft := true, pw := true, md := true, chT := true, ldT := true, actT := true, spT := true, spWait := true, ar := true, jn := true, rb := true, lk := true, qm := true, cm := true, hc := true, dm := true, bm := true, mem := true, mc := true, r4 := true, rmd := true, rpw := true }
  | .volFlush .. => { free := true, sent := true, ev := true, unitT := true, ft := true, pw := true, md := true, chT := true, ldT := true, actT := true, spT := true, spWait := true, ar := true, jn := true, rb := true, lk := true, qm := true, cm := true, hc := true, dm := true, bm := true, mem := true, mc := true, r4 := true, rmd := true, rpw := true }
  | .vcrc .. => { free := true, sent := true, ev := true, unitT := true, ft := true, pw := true, md := true, chT := true, ldT := true, actT := true, spT := true, spWait := true, ar := true, jn := true, rb := true, lk := true, qm := true, cm := true, hc := true, dm := true, bm := true, mem := true, mc := true, r4 := true, rmd := true, rpw := true }
  | .libraryUndefined .. => { free := true, sent := true, ev := true, unitT := true, ft := true, pw := true, md := true, chT := true, ldT := true, actT := true, spT := true, spWait := true, ar := true, jn := true, rb := true, lk := true, qm := true, cm := true, hc := true, dm := true, bm := true, mem := true, mc := true, r4 := true, rmd := true, rpw := true }
  | .microImageInstall => { sent := true, ev := true, lk := true, bm := true, mem := true, mc := true, rbt := true, rpw := true, rsf := true }
  | .ctxSnap => {}
  | .dispDataRead => { rdata := true }
  | .storeDataRead => { rdata := true, sent := true, ev := true, lk := true }
  | .powerOn .. => { now := true, free := true, rdata := true, sent := true, ev := true, unitT := true, ft := true, pw := true, sf := true, md := true, chT := true, paT := true, ldT := true, actT := true, acc0 := true, acc1 := true, spT := true, spWait := true, ar := true, jn := true, rb := true, lk := true, qm := true, cm := true, hc := true, dm := true, hwt := true, bm := true, mem := true, mc := true, bt := true, r4 := true, rmd := true, rbt := true, rpw := true, rsf := true }
  | .feedLoss .. => { sent := true, ev := true, pw := true, lk := true, rpw := true }
  | .feedReturn .. => { sent := true, ev := true, pw := true, lk := true, rpw := true }
  | .feedOvervoltage .. => { sent := true, ev := true, unitT := true, ft := true, pw := true, md := true, chT := true, actT := true, spT := true, spWait := true, ar := true, jn := true, rb := true, lk := true, cm := true, hc := true, r4 := true, rmd := true, rpw := true }
  | .feedOvRecover .. => { pw := true, rpw := true }
  | .powerFailSignal => { sent := true, ev := true, pw := true, chT := true, actT := true, spT := true, spWait := true, ar := true, jn := true, rb := true, lk := true, cm := true }
  | .powerDownComplete => { now := true, rdata := true, sent := true, ev := true, unitT := true, ft := true, pw := true, sf := true, md := true, chT := true, paT := true, ldT := true, actT := true, acc0 := true, acc1 := true, spT := true, spWait := true, ar := true, jn := true, rb := true, lk := true, qm := true, cm := true, hc := true, dm := true, bm := true, mem := true, mc := true, bt := true, r4 := true, rmd := true, rbt := true, rpw := true, rsf := true }
  | .holdupMeasure .. => { sent := true, ev := true, unitT := true, ft := true, pw := true, md := true, chT := true, actT := true, spT := true, spWait := true, ar := true, jn := true, rb := true, lk := true, cm := true, hc := true, r4 := true, rmd := true, rpw := true }
  | .chainFail .. => { sent := true, ev := true, unitT := true, ft := true, pw := true, md := true, chT := true, actT := true, spT := true, spWait := true, ar := true, jn := true, rb := true, lk := true, cm := true, hc := true, r4 := true, rmd := true, rpw := true }
  | .standbyRegulated .. => { sent := true, ev := true, pw := true, actT := true, spT := true, lk := true, rpw := true }
  | .standbyTimeout => { sent := true, ev := true, unitT := true, ft := true, pw := true, md := true, chT := true, actT := true, spT := true, spWait := true, ar := true, jn := true, rb := true, lk := true, cm := true, hc := true, r4 := true, rmd := true, rpw := true }
  | .resyncTimer => { pw := true, rpw := true }
  | .resyncHoldDone .. => { sent := true, ev := true, pw := true, lk := true, rpw := true }
  | .testStandby => { pw := true, rpw := true }
  | .testStandbyLoadDone .. => { sent := true, ev := true, unitT := true, ft := true, pw := true, md := true, chT := true, actT := true, spT := true, spWait := true, ar := true, jn := true, rb := true, lk := true, cm := true, hc := true, r4 := true, rmd := true, rpw := true }
  | .forceSwitch => { sent := true, ev := true, unitT := true, ft := true, pw := true, md := true, chT := true, actT := true, spT := true, spWait := true, ar := true, jn := true, rb := true, lk := true, cm := true, hc := true, r4 := true, rmd := true, rpw := true }
  | .pwResync => { pw := true, rpw := true }
  | .sfOverspeed .. => { sent := true, ev := true, unitT := true, ft := true, pw := true, sf := true, md := true, chT := true, actT := true, spT := true, spWait := true, ar := true, jn := true, rb := true, lk := true, cm := true, hc := true, r4 := true, rmd := true, rpw := true, rsf := true }
  | .vcmOvercurrent .. => { sent := true, ev := true, unitT := true, ft := true, pw := true, md := true, chT := true, actT := true, spT := true, spWait := true, ar := true, jn := true, rb := true, lk := true, cm := true, hc := true, r4 := true, rmd := true, rpw := true, rsf := true }
  | .tempSample .. => { sent := true, ev := true, unitT := true, ft := true, pw := true, sf := true, md := true, chT := true, actT := true, spT := true, spWait := true, ar := true, jn := true, rb := true, lk := true, cm := true, hc := true, r4 := true, rmd := true, rpw := true, rsf := true }
  | .heartbeat => { sent := true, ev := true, sf := true, lk := true, rsf := true }
  | .heartbeatTimeout => { sent := true, ev := true, unitT := true, ft := true, pw := true, sf := true, md := true, chT := true, actT := true, spT := true, spWait := true, ar := true, jn := true, rb := true, lk := true, cm := true, hc := true, r4 := true, rmd := true, rpw := true, rsf := true }
  | .retractHoldEnd => { sf := true, spT := true }
  | .selftest => { sf := true, rsf := true }
  | .selftestDone .. => { sent := true, ev := true, unitT := true, ft := true, pw := true, sf := true, md := true, chT := true, actT := true, spT := true, spWait := true, ar := true, jn := true, rb := true, lk := true, cm := true, hc := true, r4 := true, rmd := true, rpw := true, rsf := true }
  | .clearCause => { rsf := true }
  | .gotoService => { sent := true, ev := true, md := true, chT := true, actT := true, spT := true, spWait := true, ar := true, jn := true, rb := true, lk := true, cm := true, r4 := true, rmd := true }
  | .gotoMaint => { sent := true, ev := true, md := true, chT := true, actT := true, spT := true, spWait := true, ar := true, jn := true, rb := true, lk := true, cm := true, r4 := true, rmd := true }
  | .gotoRest => { sent := true, ev := true, md := true, chT := true, actT := true, spT := true, spWait := true, ar := true, jn := true, rb := true, lk := true, cm := true, rmd := true }
  | .safeRequest .. => { sent := true, ev := true, md := true, chT := true, actT := true, spT := true, spWait := true, ar := true, jn := true, rb := true, lk := true, cm := true, r4 := true, rmd := true }
  | .timebaseSwitch => { sent := true, ev := true, lk := true, rmd := true }
  | .idleTimerExpiry .. => { sent := true, ev := true, md := true, chT := true, actT := true, spT := true, spWait := true, ar := true, jn := true, rb := true, lk := true, cm := true, rmd := true }
  | .idleStepDone => { sent := true, ev := true, md := true, chT := true, actT := true, spT := true, spWait := true, ar := true, jn := true, rb := true, lk := true, cm := true, rmd := true }
  | .demand => { md := true, chT := true, actT := true, spT := true, spWait := true, rmd := true }
  | .restSpindlesStopped => { free := true, sent := true, ev := true, unitT := true, ft := true, pw := true, md := true, chT := true, ldT := true, actT := true, spT := true, spWait := true, ar := true, jn := true, rb := true, lk := true, qm := true, cm := true, hc := true, dm := true, bm := true, mem := true, mc := true, r4 := true, rmd := true, rpw := true }
  | .restPowerOff => { sent := true, ev := true, md := true, chT := true, paT := true, ldT := true, actT := true, acc0 := true, acc1 := true, spT := true, spWait := true, ar := true, lk := true, cm := true, hc := true, dm := true, mc := true, r4 := true, rmd := true, rbt := true, rpw := true, rsf := true }
  | .wake .. => { md := true, chT := true }
  | .restExitComplete => { sent := true, ev := true, unitT := true, ft := true, pw := true, md := true, chT := true, ldT := true, actT := true, spT := true, spWait := true, ar := true, jn := true, rb := true, lk := true, qm := true, cm := true, hc := true, dm := true, bm := true, mem := true, mc := true, r4 := true, rmd := true, rbt := true, rpw := true, rsf := true }
  | .idleCfgWrite .. => { md := true, rmd := true, rbt := true, rpw := true, rsf := true }
  | .timeLoRead => { rdata := true, rmd := true }
  | .hourglassExpiry .. => { sent := true, ev := true, unitT := true, ft := true, pw := true, md := true, chT := true, ldT := true, actT := true, spT := true, spWait := true, ar := true, jn := true, rb := true, lk := true, qm := true, cm := true, hc := true, dm := true, bm := true, mem := true, mc := true, r4 := true, rmd := true, rpw := true }
  | .faultAck .. => { sent := true, ev := true, unitT := true, ft := true, lk := true }
  | .faultPulseEnd .. => { ft := true }
  | .deviceReset => { now := true, rdata := true, sent := true, ev := true, unitT := true, ft := true, pw := true, sf := true, md := true, chT := true, paT := true, ldT := true, actT := true, acc0 := true, acc1 := true, spT := true, spWait := true, ar := true, jn := true, rb := true, lk := true, qm := true, cm := true, hc := true, dm := true, bm := true, mem := true, mc := true, bt := true, r4 := true, rmd := true, rbt := true, rpw := true, rsf := true }
  | .resetPin .. => { now := true, rdata := true, sent := true, ev := true, unitT := true, ft := true, pw := true, sf := true, md := true, chT := true, paT := true, ldT := true, actT := true, acc0 := true, acc1 := true, spT := true, spWait := true, ar := true, jn := true, rb := true, lk := true, qm := true, cm := true, hc := true, dm := true, bm := true, mem := true, mc := true, bt := true, r4 := true, rmd := true, rbt := true, rpw := true, rsf := true }
  | .historySnap .. => {}
  | .historyClear .. => { unitT := true }
  | .eventRecordWritten => { sent := true, ev := true, lk := true }
  | .rateTokenReturn .. => { ev := true }
  | .hoursUpdate => { sent := true, ev := true, lk := true, rpw := true }
  | .clearFirst => { sent := true, ev := true, lk := true }
  | .clearLast => { sent := true, ev := true, lk := true }
  | .eventReadData => { rdata := true }
  | .romBoot => { sent := true, ev := true, unitT := true, ft := true, pw := true, md := true, chT := true, actT := true, spT := true, spWait := true, ar := true, jn := true, rb := true, lk := true, cm := true, hc := true, bt := true, fuse := true, r4 := true, rmd := true, rbt := true, rpw := true, rsf := true }
  | .gate => { bt := true, rbt := true }
  | .gateComplete => { sent := true, ev := true, unitT := true, ft := true, pw := true, md := true, chT := true, actT := true, spT := true, spWait := true, ar := true, jn := true, rb := true, lk := true, cm := true, hc := true, bm := true, mem := true, mc := true, bt := true, r4 := true, rmd := true, rbt := true, rpw := true, rsf := true }
  | .commitSvn => { rbt := true }
  | .revokeVk0 => { sent := true, ev := true, lk := true, bt := true, revoked := true, rbt := true }
  | .storeOpDone => { sent := true, ev := true, lk := true, cm := true, bm := true, mem := true, mc := true, bt := true, store := true, rbt := true }
  | .storeTimeout => { sent := true, ev := true, unitT := true, ft := true, pw := true, md := true, chT := true, actT := true, spT := true, spWait := true, ar := true, jn := true, rb := true, lk := true, cm := true, hc := true, bm := true, mem := true, mc := true, bt := true, r4 := true, rmd := true, rbt := true, rpw := true }
  | .bootRecordWrite => { bt := true, store := true, rbt := true }
  | .sigDataRead => { rdata := true, rbt := true }
  | .preampFaultRelease .. => { paT := true }
  | .pmShortRelease .. => { spT := true }
  | .dmaBurstDone .. => { sent := true, ev := true, unitT := true, ft := true, pw := true, md := true, chT := true, ldT := true, actT := true, spT := true, spWait := true, ar := true, jn := true, rb := true, lk := true, qm := true, cm := true, hc := true, dm := true, bm := true, mem := true, mc := true, bt := true, r4 := true, rmd := true, rbt := true, rpw := true, rsf := true }
  | .backgroundWindowEnd => { rb := true }
  | .laneLockLoss .. => { lk := true }
  | .holdupVoltageChange .. => { sent := true, ev := true, unitT := true, ft := true, pw := true, md := true, chT := true, actT := true, spT := true, spWait := true, ar := true, jn := true, rb := true, lk := true, cm := true, hc := true, r4 := true, rmd := true, rpw := true }
  | .commitSvnDone => { sent := true, ev := true, lk := true, bt := true, fuse := true, rbt := true }
  | .evClearDone => { sent := true, ev := true, lk := true }
  | .crystalLock => { sent := true, ev := true, lk := true, bt := true, rmd := true }

end Sys2Proof.Machine
end

