-- ==== Sys2Proof/Certificates/Slice0/Obligations.lean ====
section
/-! DEFINITION. Certificates/Slice0/Obligations.lean: the statements for the provers. -/

open Sys2Proof Sys2Proof.Machine Sys2Proof.Machine.Reg

/-- For every command c, every list of waiting commands and every state: the step of the state whose queue is c followed
by the list answers what exec answers for c on the state whose queue is the list. Commands therefore take effect in
the order in which they wait (R49 for accesses of one requester). The queue itself is the model's interface, not the
spec's. -/
def Obligations.StepRunsFrontCommand : Prop :=
  ∀ (c : Instr) (rest : List Instr) (s : State),
    step { s with pending := c :: rest } = exec c { s with pending := rest }

/-- On an empty queue a step answers the state in which the timebase has gone on and each preamp bus has ended the frame
on it (State.paIdle): the timebase goes on by 5 ns on the internal oscillator and by 1 ns on the crystal-locked source
(R30), by 40 ns on the crystal reference in REST (R653), and not at all in OFF, modulo 2^64 (R29). Nothing but the
timebase, the preamp buses and registers at 0x0003_0000 and above (the BUSY of a preamp bus) changes. That a step on
an empty queue is one such cycle, and that a frame on a preamp bus ends in it, are the model's choices
(notes/assumptions/1.md, 98.md). -/
def Obligations.EmptyQueueAdvancesTimebase : Prop :=
  (∀ (s : State), s.pending = [] → s.mode ≠ mOff → s.mode ≠ mRest → s.switched = false →
    step s = .next (State.each (upTo 8) (fun a t => t.paIdle a) { s with now := (s.now + 5) % 2 ^ 64 })) ∧
  (∀ (s : State), s.pending = [] → s.mode ≠ mOff → s.mode ≠ mRest → s.switched = true →
    step s = .next (State.each (upTo 8) (fun a t => t.paIdle a) { s with now := (s.now + 1) % 2 ^ 64 })) ∧
  (∀ (s : State), s.pending = [] → s.mode = mRest → step s = .next (State.each (upTo 8) (fun a t => t.paIdle a) { s with now := (s.now + 40) % 2 ^ 64 })) ∧
  (∀ (s : State), s.pending = [] → s.mode = mOff → step s = .next (State.each (upTo 8) (fun a t => t.paIdle a) { s with now := s.now % 2 ^ 64 })) ∧
  (∀ (s : State), s.pending = [] → ∃ t, step s = .next t ∧ Within { now := true, paT := true } s t)

/-- For every state there is a next state that its step answers, and for every command and state there is a next state
that exec answers: a command whose conditions do not hold is refused by the machine's own registers (an ERR field, an
error response, a late counter) or has no effect, as the spec says of it, and the machine goes on. -/
def Obligations.EveryStepAnswersNextState : Prop :=
  (∀ (s : State), ∃ t, step s = .next t) ∧
  (∀ (c : Instr) (s : State), ∃ t, exec c s = .next t)

/-- State.reset has every register at the value of the Reset column, a timebase of 0, MODE = BOOT, no command waiting, no
frame sent, buffer memory with nothing listed, and one event record queued: EV_START, with BOOT = 1 and ARG bit 0 = 1
for a device reset. It meets the invariant of EveryStepKeepsInvariant. The contents of buffer memory, and blank MRAM,
stores and fuses, are the model's choice (notes/assumptions/5.md, 6.md, 12.md). -/
def Obligations.ResetState : Prop :=
  State.reset.Inv ∧ (∀ (a : Nat), State.reset.rd a = resetVal a) ∧ State.reset.now = 0 ∧ State.reset.mode = mBoot ∧
  State.reset.pending = [] ∧ State.reset.sent = [] ∧ State.reset.bm.mem = [] ∧
  State.reset.ev.queue.map (fun r => (r.code, r.boot, r.arg)) = [(0x0114, true, 1)]

/-- The invariant: the register file, the registers that REST has saved and buffer memory are in their canonical form
(addresses strictly rising, no entry equal to what an unlisted address reads as), so that equal machines are equal
data; and MD_MODE.MODE and MD_MODE.PREV each hold one of the six modes of R630. For every state that meets it,
whatever the front command is, if the step answers a next state, that state meets it too. -/
def Obligations.EveryStepKeepsInvariant : Prop :=
  ∀ (s t : State), s.Inv → step s = .next t → t.Inv

/-- For every command and state: if exec answers a next state, that state differs from the state before only in the parts
that partsOf (Safety.lean) lists for the command, and the queue is the same. Parts are the units of State (fault
units, channels, servo, spindles, array, journal, link, queues, commands, cache, DMA, buffer memory and its bytes,
command engine, boot block with fuses, keys and firmware store apart, accelerometers, power, safety monitor, timebase,
frames sent, events, free values used), the register MD_MODE, and the other MD_, BT_, PW_ and SF_ registers. -/
def Obligations.CommandsKeepToTheirParts : Prop :=
  ∀ (c : Instr) (s t : State), exec c s = .next t → Within (partsOf c) s t

/-- Whatever the state: a command that answers a next state with other anti-rollback fuses is ROM_BOOT (which blows the
partners of blown fuses) or COMMIT_SVN_DONE; one that changes the revocation fuse is REVOKE_VK0, or the register write
or control-window write frame that carries that OP; one that changes the bytes of the firmware store is STORE_OP_DONE
or BOOT_RECORD_WRITE. No other of the 314 commands does. -/
def Obligations.SecurityStateHasFewWriters : Prop :=
  ∀ (c : Instr) (s t : State), exec c s = .next t →
    (t.bt.fuse ≠ s.bt.fuse → c = .romBoot ∨ c = .commitSvnDone) ∧
    (t.bt.revoked ≠ s.bt.revoked → c = .revokeVk0 ∨
      (∃ a v core sets, c = .registerWrite a v core sets) ∨
      (∃ src tag a len d rsp fcrc sets, c = .controlWriteFrame src tag a len d rsp fcrc sets)) ∧
    (t.bt.store ≠ s.bt.store → c = .storeOpDone ∨ c = .bootRecordWrite)

/-- Whatever the state and the command: the next state has the timebase of the state before, or it is 0 and the command is
POWER_ON, POWER_DOWN_COMPLETE, DEVICE_RESET or RESET_PIN. Time passes only in steps on an empty queue
(notes/assumptions/1.md), so no register write, switch of the timebase source or frame moves it backwards. -/
def Obligations.TimebaseOnlyRestarts : Prop :=
  ∀ (c : Instr) (s t : State), exec c s = .next t → t.now = s.now ∨
    (t.now = 0 ∧ ((∃ a b x y, c = .powerOn a b x y) ∨ c = .powerDownComplete ∨ c = .deviceReset ∨ (∃ low, c = .resetPin low)))

/-- For every register address of the map, each of its RWL fields, every value written, every requester and every state
with MD_LOCK set: REGISTER_WRITE answers a next state in which the field reads as before (so that a refused write
shows on reading the field back) and in which the fault units, the fault pins and the event recorder are as before. -/
def Obligations.LockedFieldsKeepTheirValue : Prop :=
  ∀ (s : State) (addr : BitVec 24) (value : Word) (core : Bool) (sets : Word) (fs : List FieldDesc) (f : FieldDesc),
    s.is MD_LOCK_LOCK = true → regFields addr.toNat = some fs → f ∈ fs → f.acc = .rwl →
    Answers (.registerWrite addr value core sets) s (fun t =>
      t.g ⟨addr.toNat, f.lo, f.w⟩ = s.g ⟨addr.toNat, f.lo, f.w⟩ ∧ t.unitT = s.unitT ∧ t.ft = s.ft ∧ t.ev = s.ev)

/-- Where an aligned write reaches the window (R47, R739) and the register has no action beside its fields, REGISTER_WRITE
answers a next state in which an RW field holds the value written, an RWL field too unless MD_LOCK is set, RO, RC and
WO fields are as before, and each bit of an RW1C field is 1 where the block sets it in this handshake, else 0 where a
1 was written, else as before (R13). Every other register reads as before. -/
def Obligations.PlainWriteFollowsAccessCodes : Prop :=
  ∀ (s : State) (addr : BitVec 24) (value : Word) (core : Bool) (sets : Word) (fs : List FieldDesc),
    addr.toNat % 4 = 0 → s.reaches core true addr.toNat = true → actAt addr.toNat = .plain → regFields addr.toNat = some fs →
    Answers (.registerWrite addr value core sets) s (fun t =>
      (∀ f ∈ fs,
        let r : RF := ⟨addr.toNat, f.lo, f.w⟩
        (f.acc = .rw → t.g r = bitsOf value.toNat f.lo f.w) ∧
        (f.acc = .rwl → t.g r = if s.is MD_LOCK_LOCK then s.g r else bitsOf value.toNat f.lo f.w) ∧
        (f.acc = .ro ∨ f.acc = .rc ∨ f.acc = .wo → t.g r = s.g r) ∧
        (f.acc = .w1c → ∀ i < f.w, bitOf (t.g r) i =
          if bitOf sets.toNat (f.lo + i) = 1 then 1 else if bitOf value.toNat (f.lo + i) = 1 then 0 else bitOf (s.g r) i)) ∧
      ∀ a, a ≠ addr.toNat → t.rd a = s.rd a)

/-- Where an aligned read reaches the window and the register has an RC field, RC_REGISTER_READ answers a next state whose
returned word has in that field the value the field held before, and in which the field holds exactly what the
handshake added (the command's operand: the number of increments of a counter, 1 of a bit, the value recorded of a
largest value). Every other register reads as before. Nothing is counted twice or lost. -/
def Obligations.ReadClearsCountOnce : Prop :=
  ∀ (s : State) (addr : BitVec 24) (core : Bool) (adds : Word) (fs : List FieldDesc) (f : FieldDesc),
    addr.toNat % 4 = 0 → s.reaches core false addr.toNat = true → regFields addr.toNat = some fs → f ∈ fs → f.acc = .rc →
    Answers (.rcRegisterRead addr core adds) s (fun t =>
      fieldOf t.rdata f.lo f.w = s.g ⟨addr.toNat, f.lo, f.w⟩ ∧
      t.g ⟨addr.toNat, f.lo, f.w⟩ = bitsOf adds.toNat f.lo f.w ∧
      ∀ a, a ≠ addr.toNat → t.rd a = s.rd a)

/-- For a geometry register of volume v that a write reaches: while the volume's STATE is not OFF, or an unretired journal
record holds a block of it, REGISTER_WRITE changes nothing. While it is OFF, with no such record, and the volume is
not the shadow of a running reshape (R346), the write is the plain write of the register. -/
def Obligations.GeometryRegistersAreGuarded : Prop :=
  (∀ (s : State) (v : Fin 64) (addr : BitVec 24) (value : Word) (core : Bool) (sets : Word),
    actAt addr.toNat = .geom v.val → (s.g (AR_VOL_CTL_STATE v.val) ≠ stOff ∨ s.volRecs v.val = true) →
    exec (.registerWrite addr value core sets) s = .next s) ∧
  (∀ (s : State) (v : Fin 64) (addr : BitVec 24) (value : Word) (core : Bool) (sets : Word),
    actAt addr.toNat = .geom v.val → addr.toNat % 4 = 0 → s.reaches core true addr.toNat = true →
    s.g (AR_VOL_CTL_STATE v.val) = stOff → s.volRecs v.val = false → s.g RB_RS_STAT_STATE = rsNone →
    exec (.registerWrite addr value core sets) s = .next (s.plainWrite addr.toNat value.toNat sets.toNat))

/-- For every group, level, time and state: IDLE_CFG_WRITE answers a next state in which the timer of that group and level
is the time written and every other timer is as before; a read of MD_IDLE_CFG that reaches the window then returns the
GROUP and LEVEL of that write. In every state, what MD_IDLE_CFG reads as has in TIME the time in force for the GROUP
and LEVEL it shows, modulo the field's 24 bits. -/
def Obligations.IdleConfigurationTimers : Prop :=
  (∀ (s : State) (group : Fin 16) (level : Fin 4) (time : BitVec 24),
    Answers (.idleCfgWrite group level time) s (fun t =>
      t.idleTime group.val level.val = time.toNat ∧ t.g MD_IDLE_CFG_GROUP = group.val ∧ t.g MD_IDLE_CFG_LEVEL = level.val ∧
      (∀ (g : Fin 16) (l : Fin 4), (g, l) ≠ (group, level) → t.idleTime g.val l.val = s.idleTime g.val l.val) ∧
      ∀ a, a ≠ MD_IDLE_CFG → t.rd a = s.rd a)) ∧
  (∀ (s : State) (core : Bool) (adds : Word), s.reaches core false MD_IDLE_CFG = true →
    Answers (.rcRegisterRead (BitVec.ofNat 24 MD_IDLE_CFG) core adds) s (fun t =>
      fieldOf t.rdata 0 4 = s.g MD_IDLE_CFG_GROUP ∧ fieldOf t.rdata 4 2 = s.g MD_IDLE_CFG_LEVEL ∧
      fieldOf t.rdata 8 24 = s.idleTime (s.g MD_IDLE_CFG_GROUP) (s.g MD_IDLE_CFG_LEVEL) % 2 ^ 24))

/-- For every unit, mask and state, where the acknowledgement does not lose to a granted expiry: FAULT_ACK answers a next
state in which each bit of FT_U_PEND that the mask has set is 0 and every other bit is as before. When FT_U_PEND is
then 0, the hourglass is not running and LEVEL is 0; when it is not 0, both are as before. Every register but the
unit's FT_U_PEND and FT_U_STAT is as before, status bits among them, and no other part of the machine but the unit's
own record, and with the last acknowledgement the set of units that quiesce the store, changes: no action already
taken is undone. -/
def Obligations.FaultAcknowledge : Prop :=
  ∀ (s : State) (u : Fin 60) (mask : Word),
    Answers (.faultAck u mask false) s (fun t =>
      (∀ i < 32, bitOf (t.g (FT_U_PEND_MASK u.val)) i = if bitOf mask.toNat i = 1 then 0 else bitOf (s.g (FT_U_PEND_MASK u.val)) i) ∧
      (t.g (FT_U_PEND_MASK u.val) = 0 → t.is (FT_U_STAT_HG u.val) = false ∧ t.g (FT_U_STAT_LEVEL u.val) = 0) ∧
      (t.g (FT_U_PEND_MASK u.val) ≠ 0 → t.rd (FT_U_STAT u.val) = s.rd (FT_U_STAT u.val) ∧ t.ft = s.ft) ∧
      (∀ a, a ≠ FT_U_PEND u.val → a ≠ FT_U_STAT u.val → t.rd a = s.rd a) ∧
      { t with regs := [], ft := {}, unitT := [] } = { s with regs := [], ft := {}, unitT := [] } ∧
      (∀ v, v ≠ u.val → t.unit v = s.unit v))

/-- For every state, DEVICE_RESET that is due (an L4 action waits for it, the pulse on FAULT_N is over and the FT_RESET
record is durable), and RESET_N held low for 1 µs with the module powered, answer a next state in which, for every
function, EN, ENABLE_PENDING and STATE have the values they have after reset. That state is reached in the one step:
no start-up or shut-down sequence runs. -/
def Obligations.DeviceResetRestoresFunctions : Prop :=
  (∀ (s : State), s.ft.resetOf.isSome = true → s.ft.pulse = false → (∀ r ∈ s.ev.queue, r.code ≠ 0x0104) →
    Answers .deviceReset s (fun t => ∀ f : Func,
      t.g (Func.en f) = fieldOf (resetVal (Func.ctl f)) 0 1 ∧ t.g (Func.pend f) = fieldOf (resetVal (Func.ctl f)) 1 1 ∧
      t.g (Func.st f) = fieldOf (resetVal (Func.ctl f)) 2 2)) ∧
  (∀ (s : State), s.pw.powered = true →
    Answers (.resetPin true) s (fun t => ∀ f : Func,
      t.g (Func.en f) = fieldOf (resetVal (Func.ctl f)) 0 1 ∧ t.g (Func.pend f) = fieldOf (resetVal (Func.ctl f)) 1 1 ∧
      t.g (Func.st f) = fieldOf (resetVal (Func.ctl f)) 2 2))

/-- For a ring of N entries, 1 to 65,536, and valid indices p and c (17 bits, slot below N): the position is slot + N ×
turn, the count is (position(p) − position(c)) mod 2N, it is 0 exactly when p = c, and it is N exactly when p and c
differ only in the turn bit. The next index of a valid index is valid, its position is one more modulo 2N, and a ring
that is not at 2N − 1 entries has one entry more after the producer advances. -/
def Obligations.QueueIndexArithmetic : Prop :=
  ∀ (n p c : Nat), 1 ≤ n → n ≤ 65536 → p < 2 ^ 17 → p % 65536 < n → c < 2 ^ 17 → c % 65536 < n →
    idxPos p n = p % 65536 + n * (p / 65536) ∧
    (idxCount p c n : Int) = ((idxPos p n : Int) - (idxPos c n : Int)) % (2 * (n : Int)) ∧
    (idxCount p c n = 0 ↔ p = c) ∧
    (idxCount p c n = n ↔ p % 65536 = c % 65536 ∧ p / 65536 ≠ c / 65536) ∧
    idxNext p n < 2 ^ 17 ∧ idxNext p n % 65536 < n ∧ idxPos (idxNext p n) n = (idxPos p n + 1) % (2 * n) ∧
    (idxCount p c n ≠ 2 * n - 1 → idxCount (idxNext p n) c n = idxCount p c n + 1)

/-- With no operation running: while BT_SVN.VK is 1, REVOKE_VK0 blows the fuse, shows it in BT_SVN and raises event
0x120A; otherwise it is refused with ERR = 4 and changes nothing else. While an operation runs it has no effect. The
state has no revocation fuse of key 1, so no command revokes that key. -/
def Obligations.RevokeVendorKeyZero : Prop :=
  (∀ (s : State), s.is BT_CMD_BUSY = false → s.g BT_SVN_VK = 1 →
    exec .revokeVk0 s = .next ((((s.p BT_CMD_ERR 0).btU (fun b => { b with revoked := true })).p BT_SVN_VK0_REVOKED 1).raise 0x120A 1 0)) ∧
  (∀ (s : State), s.is BT_CMD_BUSY = false → s.g BT_SVN_VK ≠ 1 → exec .revokeVk0 s = .next (s.p BT_CMD_ERR 4)) ∧
  (∀ (s : State), s.is BT_CMD_BUSY = true → exec .revokeVk0 s = .next s)

/-- For a microword that may run now with the row's ALU code, no memory and no unit operation, and the next microword
following: ADD, SUB, AND, OR, XOR, MUL, SHL and SHR write the 64-bit result to the destination register, CMP writes
none, and each sets Z to 1 when the result is 0, N to bit 63 of it, and C to the carry out of bit 63 (ADD), the borrow
(SUB, CMP), the last bit shifted out, 0 for a count of 0 (SHL, SHR), 1 when the full product does not fit (MUL), or 0
(AND, OR, XOR). PASS copies operand B and leaves the three flags. That the shifts and PASS act on operand B is the
model's reading of R573's example routine (notes/assumptions/66.md). -/
def Obligations.AluResultsAndFlags : Prop :=
  (∀ (s : State) (n : Fin 256) (mw w a b : Nat), s.AluRuns n.val 0 mw w a b → Answers (.aluPass n) s (fun t =>
    (t.mctx n.val).reg (nwDst w) = b ∧ (t.mctx n.val).z = (s.mctx n.val).z ∧ (t.mctx n.val).n = (s.mctx n.val).n ∧
    (t.mctx n.val).c = (s.mctx n.val).c)) ∧
  (∀ (s : State) (n : Fin 256) (mw w a b : Nat), s.AluRuns n.val 1 mw w a b → Answers (.aluAdd n) s (fun t =>
    (t.mctx n.val).reg (nwDst w) = (a + b) % 2 ^ 64 ∧ t.FlagsFor n.val ((a + b) % 2 ^ 64) (decide (2 ^ 64 ≤ a + b)))) ∧
  (∀ (s : State) (n : Fin 256) (mw w a b : Nat), s.AluRuns n.val 2 mw w a b → Answers (.aluSub n) s (fun t =>
    (t.mctx n.val).reg (nwDst w) = (a + (2 ^ 64 - b)) % 2 ^ 64 ∧
    t.FlagsFor n.val ((a + (2 ^ 64 - b)) % 2 ^ 64) (decide (a < b)))) ∧
  (∀ (s : State) (n : Fin 256) (mw w a b : Nat), s.AluRuns n.val 8 mw w a b → Answers (.aluCmp n) s (fun t =>
    (∀ k, (t.mctx n.val).reg k = (s.mctx n.val).reg k) ∧
    t.FlagsFor n.val ((a + (2 ^ 64 - b)) % 2 ^ 64) (decide (a < b)))) ∧
  (∀ (s : State) (n : Fin 256) (mw w a b : Nat), s.AluRuns n.val 3 mw w a b → Answers (.aluAnd n) s (fun t =>
    (t.mctx n.val).reg (nwDst w) = a &&& b ∧ t.FlagsFor n.val (a &&& b) false)) ∧
  (∀ (s : State) (n : Fin 256) (mw w a b : Nat), s.AluRuns n.val 4 mw w a b → Answers (.aluOr n) s (fun t =>
    (t.mctx n.val).reg (nwDst w) = a ||| b ∧ t.FlagsFor n.val (a ||| b) false)) ∧
  (∀ (s : State) (n : Fin 256) (mw w a b : Nat), s.AluRuns n.val 5 mw w a b → Answers (.aluXor n) s (fun t =>
    (t.mctx n.val).reg (nwDst w) = a ^^^ b ∧ t.FlagsFor n.val (a ^^^ b) false)) ∧
  (∀ (s : State) (n : Fin 256) (mw w a b : Nat), s.AluRuns n.val 13 mw w a b → Answers (.aluMul n) s (fun t =>
    (t.mctx n.val).reg (nwDst w) = a * b % 2 ^ 64 ∧ t.FlagsFor n.val (a * b % 2 ^ 64) (decide (2 ^ 64 ≤ a * b)))) ∧
  (∀ (s : State) (n : Fin 256) (mw w a b k : Nat), s.AluRuns n.val 6 mw w a b → nwImm2 w = k → k ≤ 64 →
    Answers (.aluShl n) s (fun t => (t.mctx n.val).reg (nwDst w) = b * 2 ^ k % 2 ^ 64 ∧
      t.FlagsFor n.val (b * 2 ^ k % 2 ^ 64) (k != 0 && bitOf b (64 - k) == 1))) ∧
  (∀ (s : State) (n : Fin 256) (mw w a b k : Nat), s.AluRuns n.val 7 mw w a b → nwImm2 w = k → k ≤ 64 →
    Answers (.aluShr n) s (fun t => (t.mctx n.val).reg (nwDst w) = b / 2 ^ k ∧
      t.FlagsFor n.val (b / 2 ^ k) (k != 0 && bitOf b (k - 1) == 1)))

/-- For the 80-bit words of buffer memory (64 data bits, 16 check bits): a word without error is CLEAN; every error of one
bit and every error of two bits is classified CE with exactly those bits as the pattern corrected; every error of
three bits is classified UE, never CLEAN, CE or POISON; and all 16 check bits inverted is POISON. This is R532's claim
of minimum distance 6 and R534's of the syndrome of poison, for the check bits computed as R532 says. -/
def Obligations.CheckCodeCorrectsTwoDetectsThree : Prop :=
  eccClass 0 = (0, 0) ∧
  (∀ i : Nat, i < 80 → eccClass (2 ^ i) = (1, 2 ^ i)) ∧
  (∀ i j : Nat, i < j → j < 80 → eccClass (2 ^ i + 2 ^ j) = (1, 2 ^ i + 2 ^ j)) ∧
  (∀ i j k : Nat, i < j → j < k → k < 80 → eccClass (2 ^ i + 2 ^ j + 2 ^ k) = (2, 0)) ∧
  eccClass (0xFFFF * 2 ^ 64) = (3, 0)

/-- For every state, address, length and value: after a write that misses the code region, the bytes written read as the
value (least significant byte at the lowest address, the little-endian order of R11), every other byte reads as
before, every word the write touches has correct check bits, the error pattern of every other word is as before, and
the memory keeps its canonical form. A write that lies in the code region changes nothing (R701: only the gate writes
it). Bytes that nothing has written read 0: the model's choice (notes/assumptions/12.md), as is that another write
than the gate's leaves the code region (90.md). -/
def Obligations.BufferWritesReadBack : Prop :=
  (∀ (s : State) (a n v : Nat),
    (a + n ≤ s.pair BM_CODE_BASE_LO BM_CODE_BASE_HI ∨
      s.pair BM_CODE_BASE_LO BM_CODE_BASE_HI + s.g BM_CODE_SIZE_MIB * 2 ^ 20 ≤ a) →
    (s.bWr a n v).bRd a n = v % 2 ^ (8 * n) ∧
    (∀ b : Nat, b < a ∨ a + n ≤ b → Memory.rd (s.bWr a n v).bm.mem b = Memory.rd s.bm.mem b) ∧
    (∀ b : Nat, a < b / 8 * 8 + 8 → b / 8 * 8 < a + n → (s.bWr a n v).bErr b = 0) ∧
    (∀ b : Nat, a + n ≤ b / 8 * 8 ∨ b / 8 * 8 + 8 ≤ a → (s.bWr a n v).bErr b = s.bErr b) ∧
    (Memory.wf s.bm.mem = true → Memory.wf (s.bWr a n v).bm.mem = true)) ∧
  (∀ (s : State) (a n v b : Nat),
    s.pair BM_CODE_BASE_LO BM_CODE_BASE_HI ≤ a →
    a + n ≤ s.pair BM_CODE_BASE_LO BM_CODE_BASE_HI + s.g BM_CODE_SIZE_MIB * 2 ^ 20 →
    Memory.rd (s.bWr a n v).bm.mem b = Memory.rd s.bm.mem b)

/-- HWT_DATA_ACCESS with a write of word 0, 1 or 2 leaves the translation of every address as it was and stages the word.
The write of word 3 gives the entry at DM_HWT_ADDR.INDEX the three words staged and the word written; every other
entry is as before, the staging area is empty, and WORD and INDEX move on. With translation on, an access of n bytes
at offset o through a window translates to BASE + o exactly when the entry is valid, o + n is within PAGES × 4,096,
the direction is permitted and the sum stays within 64 bits; otherwise it is a translation fault. -/
def Obligations.HostWindowEntries : Prop :=
  (∀ (s : State) (v : Word), s.g DM_HWT_ADDR_WORD < 3 →
    Answers (.hwtDataAccess (some v)) s (fun t => (∀ (a n : Nat) (w : Bool), t.translate a n w = s.translate a n w) ∧
      t.dm.staged.find (s.g DM_HWT_ADDR_WORD) = some v.toNat ∧ t.g DM_HWT_ADDR_WORD = s.g DM_HWT_ADDR_WORD + 1)) ∧
  (∀ (s : State) (v : Word) (x0 x1 x2 : Nat), s.g DM_HWT_ADDR_WORD = 3 → s.dm.staged = [(0, x0), (1, x1), (2, x2)] →
    let i := s.g DM_HWT_ADDR_INDEX
    Answers (.hwtDataAccess (some v)) s (fun t =>
      t.hwtWord (4 * i) = x0 ∧ t.hwtWord (4 * i + 1) = x1 ∧ t.hwtWord (4 * i + 2) = x2 ∧ t.hwtWord (4 * i + 3) = v.toNat ∧
      (∀ k, k / 4 ≠ i → t.hwtWord k = s.hwtWord k) ∧ t.dm.staged = [] ∧ t.g DM_HWT_ADDR_WORD = 0 ∧
      t.g DM_HWT_ADDR_INDEX = (i + 1) % 16384)) ∧
  (∀ (s : State) (w o n : Nat) (wr : Bool), s.is DM_HWT_CTL_EN = true → w < 16384 → o < 2 ^ 50 →
    let base := (s.hwtWord (4 * w) + 2 ^ 32 * s.hwtWord (4 * w + 1)) / 4096 * 4096
    let ok := bitOf (s.hwtWord (4 * w + 3)) 0 = 1 ∧ o + n ≤ s.hwtWord (4 * w + 2) * 4096 ∧
      bitOf (s.hwtWord (4 * w + 3)) (if wr then 2 else 1) = 1 ∧ base + o + n ≤ 2 ^ 64
    (ok → s.translate (w * 2 ^ 50 + o) n wr = some (base + o)) ∧ (¬ ok → s.translate (w * 2 ^ 50 + o) n wr = none))

/-- STRIPE_WRITE_START, where AR is ON after the journal reads it needs, the range lies in the stripe, nothing claims the
stripe, none of its DATA records is on the way and a ready DATA record holds a block of the range, claims the stripe
and gathers the blocks of the range that no record gives; with none to read and no other write gathering, it answers a
state with a stripe write of that range. STRIP_WRITE_DONE of a strip whose turn it is and whose sectors all stand
written takes the strip from its stripe write, ends its slow timer, and lets stripes, catch-up and spills go on; a
strip of which a sector failed stays and is issued again, and the FUA commands it covers complete with status 0x0103.
UNAVAIL_TIMEOUT of an armed UNAVAILABLE or CATCHUP member declares it FAILED. PARITY_JOB_SUBMIT sets AR_PE_SUB_HI;
with AR ON and fewer than 65 jobs held it appends the job of the 32 bytes at the submitted address, shows 64 less the
jobs waiting as FREE and sets BUSY; otherwise it only sets PE_OVF. PATTERN_DATA_ACCESS reads the word that AR_PAT_ADDR
names, or writes it where no volume outside OFF uses the pattern, and advances WORD, from 23 to word 0 of the next
pattern; from word 24 on it reads 0 and writes nothing. Choices of the model that it rests on: notes/assumptions 2, 3,
7, 51, 57, 102 and 103. -/
def Obligations.ArrayCommandsComplete : Prop :=
  (∀ (s : State) (slot : Fin 64) (stripe : BitVec 40) (u0 u1 : Fin 256) (ce : Nat) (lost : List (Nat × Bool)),
    let x := s.jdRead ce lost
    let g := x.geo slot.val
    x.g AR_CTL_STATE = stOn → u0.val ≤ u1.val → u1.val < g.sz → 0 < g.k → stripe.toNat < g.rows * g.q →
    x.rb.claims.contains (slot.val, stripe.toNat) = false → x.stripeComing slot.val stripe.toNat = false →
    (g.range stripe.toNat u0.val u1.val).any (fun b => (x.jNewest (x.ownerOf slot.val) b (fun r => r.ready)).isSome) = true →
    let y : Gather := { vol := slot.val, stripe := stripe.toNat, u0 := u0.val, u1 := u1.val }
    exec (.stripeWriteStart slot stripe u0 u1 ce lost) s = .next
      ((x.arU (fun a => { a with gather := a.gather ++ [y] })).rbU (fun r => { r with claims := r.claims ++ [(slot.val, stripe.toNat)] })).gatherSweep) ∧
  (∀ (s : State) (slot : Fin 64) (stripe : BitVec 40) (u0 u1 : Fin 256) (ce : Nat) (lost : List (Nat × Bool)),
    let x := s.jdRead ce lost
    let g := x.geo slot.val
    x.g AR_CTL_STATE = stOn → u0.val ≤ u1.val → u1.val < g.sz → 0 < g.k → stripe.toNat < g.rows * g.q →
    x.rb.claims.contains (slot.val, stripe.toNat) = false → x.stripeComing slot.val stripe.toNat = false →
    (g.range stripe.toNat u0.val u1.val).any (fun b => (x.jNewest (x.ownerOf slot.val) b (fun r => r.ready)).isSome) = true →
    x.ar.gather = [] → x.gatherNeed { vol := slot.val, stripe := stripe.toNat, u0 := u0.val, u1 := u1.val } = [] →
    Answers (.stripeWriteStart slot stripe u0 u1 ce lost) s fun t =>
      (∃ w ∈ t.ar.stripes, w.vol = slot.val ∧ w.stripe = stripe.toNat ∧ w.u0 = u0.val ∧ w.u1 = u1.val) ∧
      (slot.val, stripe.toNat) ∈ t.rb.claims) ∧
  (∀ (s : State) (jseq : BitVec 64) (member : Fin 96) (w : StripeWrite),
    s.ar.stripes.find? (fun w => w.jseq == jseq.toNat && w.strips.any (fun x => x.member == member.val)) = some w →
    s.stripTurn w member.val = true →
    (w.strips.filter (fun x => x.member == member.val)).any (fun x => x.bad) = false →
    (w.strips.filter (fun x => x.member == member.val)).all (fun x => x.blocks.all (fun b => x.done.contains b.1)) = true →
    let mba := (s.geo w.vol).base + w.stripe / atLeast1 (s.geo w.vol).q * (s.geo w.vol).sz + w.u0
    let u := (s.slowEnd member.val mba).2.arU (fun a => { a with stripes := a.stripes.map (fun (x : StripeWrite) =>
      if x.jseq = w.jseq then { x with strips := x.strips.filter (fun y => y.member ≠ member.val) } else x) })
    exec (.stripWriteDone jseq member) s = .next (((u.stripeCheck.catchupDone member.val).settle).spillStep)) ∧
  (∀ (s : State) (jseq : BitVec 64) (member : Fin 96) (w : StripeWrite),
    s.ar.stripes.find? (fun w => w.jseq == jseq.toNat && w.strips.any (fun x => x.member == member.val)) = some w →
    s.stripTurn w member.val = true →
    (w.strips.filter (fun x => x.member == member.val)).any (fun x => x.bad) = true →
    let u := s.arU (fun a => { a with stripes := a.stripes.map (fun (x : StripeWrite) =>
      if x.jseq = w.jseq then { x with strips := x.strips.map (fun y => if y.member = member.val then { y with bad := false, done := [] } else y) }
      else x) })
    exec (.stripWriteDone jseq member) s = .next (State.each
      ((u.cm.table.filter (fun x => !x.2.fuaLeft.isEmpty && x.2.vol == u.ownerOf w.vol &&
        (match u.jRec w.jseq with
          | some r => x.2.fuaLeft.any r.writes
          | none => false))).map (·.1)) (fun id t => t.complete id 0x0103 0) u)) ∧
  (∀ (s : State) (member : Fin 96), s.ar.armed.contains member.val = true →
    s.mem member.val = memUnavailable ∨ s.mem member.val = memCatchup → s.timersHeld = false →
    exec (.unavailTimeout member) s = .next ((s.declareFailed member.val true).stripeCheck.careFrom s)) ∧
  (∀ (s : State) (hi : Word), s.g AR_CTL_STATE = stOn → s.ar.pe.length < 65 →
    let a := ((s.rd AR_PE_SUB_LO).toNat + 2 ^ 32 * hi.toNat) / 32 * 32
    Answers (.parityJobSubmit hi) s fun t =>
      t.rd AR_PE_SUB_HI = hi ∧ t.ar = { s.ar with pe := s.ar.pe ++ [{ desc := s.bRd a 32, addr := a, ctx := none, cmd := 0, slice := none }] } ∧
      t.g AR_PE_STAT_FREE = 64 - s.ar.pe.length ∧ t.g AR_PE_STAT_BUSY = 1) ∧
  (∀ (s : State) (hi : Word), s.g AR_CTL_STATE ≠ stOn ∨ 65 ≤ s.ar.pe.length →
    exec (.parityJobSubmit hi) s = .next ((s.wr AR_PE_SUB_HI hi).on AR_STAT_PE_OVF)) ∧
  (∀ (s : State), s.g AR_PAT_ADDR_WORD < 23 →
    exec (.patternDataAccess none) s = .next (({ s with
      rdata := BitVec.ofNat 32 (s.patWord (s.g AR_PAT_ADDR_PATTERN) (s.g AR_PAT_ADDR_WORD)) }).p AR_PAT_ADDR_WORD (s.g AR_PAT_ADDR_WORD + 1))) ∧
  (∀ (s : State) (v : Word), s.g AR_PAT_ADDR_WORD < 23 → s.patBusy (s.g AR_PAT_ADDR_PATTERN) = false →
    exec (.patternDataAccess (some v)) s = .next
      ((s.patPut (s.g AR_PAT_ADDR_PATTERN) (s.g AR_PAT_ADDR_WORD) v.toNat).p AR_PAT_ADDR_WORD (s.g AR_PAT_ADDR_WORD + 1))) ∧
  (∀ (s : State), s.g AR_PAT_ADDR_WORD = 23 → Answers (.patternDataAccess none) s fun t =>
    t.g AR_PAT_ADDR_WORD = 0 ∧ t.g AR_PAT_ADDR_PATTERN = (s.g AR_PAT_ADDR_PATTERN + 1) % 1024) ∧
  (∀ (s : State) (v : Word), 24 ≤ s.g AR_PAT_ADDR_WORD →
    exec (.patternDataAccess none) s = .next { s with rdata := 0 } ∧ exec (.patternDataAccess (some v)) s = .next s)

/-- COMMIT_START, while JN may commit and the oldest waiting record fits the ring without a PAD and the directory, commits
it: it takes the next JSEQ and the granules at the head. COMMIT_DURABLE with a die in service makes the record
durable, and waiting work and spills go on. JD_ACCESS_TIMEOUT and JD_DIE_FAULT of a die in service fail it, end a
resynchronisation and treat replayed records that lost their last copy; a timeout may still be answered late.
SUPERBLOCK_WRITE writes the superblock. JN_RESYNC with one die in service and JN ON sets RESYNC and PCT 0, and its
refusals are ERR 2 (not ON), 3 (no die), 4 (both in service); JN_RESYNC_DONE puts both dies in service, each holding
what the good one holds. JN_FORMAT in MAINT with JN OFF empties the ring, the index and the waiting work and writes
two superblocks; elsewhere ERR 1 or 2. SPILL_INDEX_WRITE of an unretired record whose copies stand verified names them
in the index and frees its ring space. JN_REPLAY while STARTING with a die and a superblock shows the dies, fails the
absent one, replays and writes unretired stripes again; with no die JN returns to OFF; without a superblock it returns
to OFF with the fault SB_BAD. Choices of the model that it rests on: notes/assumptions 2, 3, 7, 51 to 53, 56, 85 and
102. -/
def Obligations.JournalCommandsComplete : Prop :=
  (∀ (s : State) (r : JRec) (rest : List JRec), s.mayCommit = true → s.jn.waiting = r :: rest →
    s.jn.head % ringLen + r.len ≤ ringLen → r.len ≤ ringLen - s.ringHeldBack → s.edRoom r.parts = true →
    Answers .commitStart s fun t =>
      t.jn.commit = some { r with jseq := s.jn.nextJ, gran := s.jn.head } ∧ t.jn.waiting = rest ∧
      t.jn.nextJ = s.jn.nextJ + 1 ∧ t.jn.head = s.jn.head + r.len ∧ t.jn.recs = s.jn.recs ∧ t.regs = s.regs) ∧
  (∀ (s : State) (c : JRec), s.jn.commit = some c → s.anyDie = true →
    exec (.commitDurable 0) s = .next (((s.durable c).settle).spillStep)) ∧
  (∀ (s : State), s.die 0 = true → exec (.jdAccessTimeout 0) s = .next
    ((((s.jnU (fun j => { j with dieLate0 := true })).dieFail 0).resyncStop).replayLost)) ∧
  (∀ (s : State), s.die 1 = true → exec (.jdAccessTimeout 1) s = .next
    ((((s.jnU (fun j => { j with dieLate1 := true })).dieFail 1).resyncStop).replayLost)) ∧
  (∀ (s : State) (d : Fin 2), s.die d.val = true →
    exec (.jdDieFault d) s = .next (((s.dieFail d.val).resyncStop).replayLost)) ∧
  (∀ (s : State), s.g JN_CTL_STATE = stOn ∨ s.g JN_CTL_STATE = stStopping → exec .superblockWrite s = .next s.sbWrite) ∧
  (∀ (s : State), exec .jnResync s = .next (
    if s.g JN_CTL_STATE ≠ stOn then s.p JN_CMD_ERR 2
    else if s.die 0 = false ∧ s.die 1 = false then s.p JN_CMD_ERR 3
    else if s.die 0 = true ∧ s.die 1 = true then s.p JN_CMD_ERR 4
    else ((s.p JN_CMD_ERR 0).p JN_MIRROR_RESYNC 1).p JN_MIRROR_PCT 0)) ∧
  (∀ (s : State), s.is JN_MIRROR_RESYNC = true → Answers .jnResyncDone s fun t =>
    t.die 0 = true ∧ t.die 1 = true ∧ t.g JN_MIRROR_RESYNC = 0 ∧ t.g JN_MIRROR_PCT = 100 ∧
    t.jn = { s.jn with jd0 := (if s.die 0 then s.jn.jd0 else s.jn.jd1), jd1 := (if s.die 0 then s.jn.jd0 else s.jn.jd1) }) ∧
  (∀ (s : State), s.mode = mMaint → s.g JN_CTL_STATE = stOff →
    let g := ([s.jn.jd0.sbA, s.jn.jd0.sbB, s.jn.jd1.sbA, s.jn.jd1.sbB].map (·.gen)).foldl max 0
    let sb := fun n : Nat => ({ gen := n, tailJ := s.jn.nextJ, tailGran := s.jn.head, valid := true } : Superblock)
    let u := ((s.off JN_CMD_ERR).jnU (fun j => { j with
      recs := [], waiting := [], commit := none, freeFrom := j.head,
      jd0 := { sbA := sb (g + 1), sbB := sb (g + 2) }, jd1 := { sbA := sb (g + 1), sbB := sb (g + 2) },
      idx := [], logAt := [], spilling := false, spillJob := none, spillDone := [], redo := [], retiring := [] })).arU
        (fun a => { a with stripes := [], gather := [] })
    exec .jnFormat s = .next ((u.edSet (s.bm.ed.filter (fun x => decide (x.2.kind = 1)))).copyLost)) ∧
  (∀ (s : State), s.mode ≠ mMaint → exec .jnFormat s = .next (s.p JN_CMD_ERR 1)) ∧
  (∀ (s : State), s.mode = mMaint → s.g JN_CTL_STATE ≠ stOff → exec .jnFormat s = .next (s.p JN_CMD_ERR 2)) ∧
  (∀ (s : State) (j pair : Nat) (r : JRec), s.jn.spillJob = some (j, pair) → pair ≠ 8 →
    s.jRec j = some r → r.retired = false → s.copiesDone r = true →
    let v := (s.spillSet none).jnU (fun x => { x with idx := x.idx.filter (fun e => e.2.jseq ≠ j) })
    let i := idxGap v.jn.idx 0
    let r' := { r with spill := some i }
    let len := atLeast1 (v.extLen (2 * pair))
    let ofs := v.jn.logAt.getD pair 0 % len
    let u := (v.recUp (fun x => x.jseq == j) (fun _ => r')).jnU (fun x => { x with
      idx := x.idx.ins i { jseq := j, ofs := ofs, blks := r.spillBlks, pair := pair },
      logAt := x.logAt.ins pair ((ofs + r.spillBlks) % len) })
    exec .spillIndexWrite s = .next ((u.dirFollow r').copyLost.spillStep)) ∧
  (∀ (s : State) (dies : BitVec 2) (ce : Nat) (lost : List (Nat × Bool)), s.g JN_CTL_STATE = stStarting → dies ≠ 0 →
    let u := ((s.p JN_REPLAY_PHASE 1).p JN_MIRROR_D0_OK (b2n (dies.getLsbD 0))).p JN_MIRROR_D1_OK (b2n (dies.getLsbD 1))
    let v := if dies.getLsbD 0 then u else u.dieFail 0
    let w := if dies.getLsbD 1 then v else v.dieFail 1
    w.superblock.isSome = true →
    exec (.jnReplay dies true ce lost) s = .next (((w.replay ce lost).spillCheck).stripesAgain)) ∧
  (∀ (s : State) (sb : Bool) (ce : Nat) (lost : List (Nat × Bool)), s.g JN_CTL_STATE = stStarting →
    exec (.jnReplay 0 sb ce lost) s = .next ((((((s.p JN_REPLAY_PHASE 1).p JN_MIRROR_D0_OK 0).p JN_MIRROR_D1_OK 0).dieFail 0).dieFail 1).off
      JN_CTL_STATE))

/-- The image of a record of a defined TYPE, its JSEQ in 64 bits and its payload within LEN granules, passes every test of
R280 on its bytes: TYPE, VER, HCRC, PCRC and JSEQ. The image of a superblock spells MAGIC, GEN, TAIL_JSEQ, TAIL_GRAN
and RING_GRAN at their bytes and the CRC-32C of bytes 0 to 59 where it is valid, and another value where not. In the
map of a die the superblocks stand at the first 64 bytes of their 4 KiB, which are 0 elsewhere; the newest record of
the ring stands from its granule on; and nothing that stands at a place exceeds 64 bytes. Choices of the model that it
rests on: notes/assumptions 102 and 105. -/
def Obligations.JournalImagesAreValid : Prop :=
  (∀ r : JRec, (r.typ = tData ∨ r.typ = tStripe ∨ r.typ = tRetire ∨ r.typ = tPad) → r.jseq < 2 ^ 64 → 1 ≤ r.len → r.len < 2 ^ 32 →
    r.payload < 2 ^ (512 * (r.len - 1)) → imageOk r.image r.jseq = true) ∧
  (∀ b : Superblock, b.gen < 2 ^ 32 → b.tailJ < 2 ^ 64 →
    bitsOf b.image 0 32 = 0x5A484A31 ∧ bitsOf b.image 32 32 = b.gen ∧ bitsOf b.image 64 64 = b.tailJ ∧
    bitsOf b.image 128 32 = b.tailGran % 33030144 ∧ bitsOf b.image 160 32 = 33030144 ∧ bitsOf b.image 192 288 = 0 ∧
    (b.valid = true ↔ bitsOf b.image 480 32 = Code.crc32c 480 (bitsOf b.image 0 480))) ∧
  (∀ (s : State) (d a : Nat), a < 4096 →
    s.mram d (0x7E000000 + a) = some (if a = 0 then (s.jd d).sbA.image else 0) ∧
    s.mram d (0x7E001000 + a) = some (if a = 0 then (s.jd d).sbB.image else 0)) ∧
  (∀ (s : State) (d k : Nat) (r : JRec), (s.jd d).ring.getLast? = some r → k < r.len → r.gran % ringLen + k < ringLen →
    s.mram d (64 * (r.gran % ringLen + k)) = some (r.image / 2 ^ (512 * k) % 2 ^ 512)) ∧
  (∀ (s : State) (d a v : Nat), s.mram d a = some v → v < 2 ^ 512)

/-- SECTOR_READ of an ordinary sector below SPT on a channel that is routed and may assert its read gate, the preamp good:
it shows the operation, fills the oldest free sample slot (poisoned by an uncorrectable word), the gains, the
frequency offset and lock and what timing recovery uses, and outside 3,000 ends NO_CONVERGE (UNDECODED when frozen)
with note 0x0205; otherwise the sync search, over the bits the write path drives in loopback, either hands the sector
to the decoder or ends it SYNC_MISS (NO_CONVERGE with both readers off, UNDECODED when frozen). DECODE_DONE of an
ordinary sector ends it with its block or in recovery. SECTOR_WRITE of a sector that something is due to be written
to: with a bad VCRC it writes nothing; on a channel that may write, a strip's sector completed drives the strip's
block with its metadata word, is counted, its adjacent-track sectors are noted where it encroached, and it is
scheduled for its verify or done. VERIFY_DONE ends a write verify as verified or with single-reader decodes.
LADDER_SECTOR_START starts the ladder that came first. LADDER_DECODE_DONE counts a late end, ends a rung-1 ladder that
a reconstruction won, and of another rung-1 trial ends the ladder where it succeeds, else counts a seed error, keeps
the better decode and goes on with the next trial or rung, or abandons. LADDER_TIME_LIMIT fails the ladder outside
held time, a running engine then ending late. Choices of the model that it rests on: notes/assumptions 2, 3, 7, 38 to
41, 79, 94, 99 and 100. -/
def Obligations.SectorCommandsComplete : Prop :=
  (∀ (s : State) (c : Fin 32) (op : SecOp) (around : BitVec 56) (resync : List (BitVec 46)) (fofs : BitVec 16)
      (s0 s1 : BitVec 221184) (ue last : Bool),
    op.purpose = .demand → s.hasSector c.val op = true → (s.ch c.val).cut ≠ 2 → s.routed c.val op.member = true →
    s.mayRead c.val = true → (s.pa (c.val / 4)).fltLow = false →
    let n := c.val
    let a := s.opStart n op 1 (last || !(s.ch n).loop && !s.bit (SV_HEADS_RD_OK (n / 4)) (n % 4))
    let off := a.rdrOff op.member
    let bits := if (a.ch n).loop then BitVec.ofNat 56 ((a.ch n).lastSlot.toNat / 2 ^ 84) else around
    let b := a.smemFill n op bits resync s0 s1 ue
    let g := if b.2.is (CH_AGC_HOLD n) then b.2 else (b.2.freeField (CH_AGC_GAIN0 n)).freeField (CH_AGC_GAIN1 n)
    let f := sgn 16 fofs.toNat
    let range := decide (f > 3000) || decide (f < -3000)
    let v := (g.p (CH_TR_STAT_FOFS n) fofs.toNat).p (CH_TR_STAT_LOCK n) (b2n (!range))
    let u := v.chUp n (fun (x : ChState) => { x with tr := v.trUse n op f })
    exec (.sectorRead c op around resync fofs s0 s1 ue last) s = .next (
      if range then (u.note (CH_STAT_TR_RANGE n) 0x0205 (16 + n) 0).readEnd n op none ocNoConverge 0 none false off
      else match Code.searchMark (u.rd (CH_SYNC_PAT n)).toNat bits.toNat 12
          (min 12 (u.g (CH_SYNC_CFG_WINDOW n))) (u.g (CH_SYNC_CFG_THRESH n)) with
        | none => u.readEnd n op b.1 ocSyncMiss 0 none false off
        | some (o, e) => u.toDecoder n op b.1 o e off)) ∧
  (∀ (s : State) (c : Fin 32) (cw : BitVec 36480) (iter : Nat) (j : DecJob) (rest : List DecJob),
    (s.ch c.val).dec = j :: rest → j.op.purpose = .demand →
    let r := decoded j.op (j.looped.getD cw).toNat iter j.maxIter j.off
    let u := s.decEnd c.val j r.1 r.2.1 iter
    exec (.decodeDone c cw iter) s = .next (
      if r.2.1 then u.readOk j.op.member j.op.mba r.2.2 false
      else u.readBad c.val j.op j.slot j.sync j.frozen j.off (some (j.sync.getD 0, if j.early then min iter j.maxIter else j.maxIter)))) ∧
  (∀ (s : State) (c : Fin 32) (op : SecOp) (completed last : Bool) (x : Nat × Nat),
    s.writeSource op = some x → s.hasSector c.val op = true → s.routed c.val op.member = true → s.mayWrite c.val = true →
    exec (.sectorWrite c op false completed last) s = .next (s.vcrcBad op)) ∧
  (∀ (s : State) (c : Fin 32) (op : SecOp) (last : Bool) (data w : Nat),
    op.purpose = .strip → s.writeSource op = some (data, w) → s.hasSector c.val op = true → s.routed c.val op.member = true →
    s.mayWrite c.val = true → (s.ch c.val).cut ≠ 1 → s.rewriteOf op.member op.mba = none →
    let n := c.val
    let a := n / 4
    let t := s.opStart n op 2 last
    let adj := t.adjacentTo a (n % 4) op.member ((t.act a).slots.getD (n % 4) {}).enc
    let u := (t.actUp a (fun (x : ActState) => { x with
      slots := x.slots.putD (n % 4) {} { (x.slots.getD (n % 4) {}) with enc := [] } })).ldUp a (fun (x : LdState) => { x with
        adjacent := addAdjacent adj t.now x.adjacent })
    let v := u.driveSlot n op (Code.encode (Code.seed op.member op.mba) data (u.metaFor op.member w))
    let y := (v.outcome n ocWritten 0 0 0).schedDone op.member op.mba
    exec (.sectorWrite c op true true last) s = .next (
      if y.verifyDue n op then y.rewriteSet op.member op.mba (some
        { op := { op with purpose := .verify 0 }, attempts := 0, stripe := true, data := data, metaWord := w, time := y.now })
      else (y.rewriteSet op.member op.mba none).sectorDone op true)) ∧
  (∀ (s : State) (c : Fin 32) (cw : BitVec 36480) (iter k : Nat) (j : DecJob) (rest : List DecJob),
    (s.ld (c.val / 4)).solo.find? (fun x => x.ch == c.val) = none → (s.ch c.val).dec = j :: rest → j.op.purpose = .verify k →
    let r := decoded j.op (j.looped.getD cw).toNat iter j.maxIter j.off
    let u := s.decEnd c.val j r.1 r.2.1 iter
    exec (.verifyDone c cw iter) s = .next (
      if r.2.1 then u.verified j.op else u.verifySolo c.val j.op j.slot j.off)) ∧
  (∀ (s : State) (a : Fin 8) (l : Ladder), (s.ld a.val).lateRun = none → (s.ld a.val).queue = [l] → l.phase = 0 →
    s.abandoned l = false → s.slotGood l.slot = true →
    exec (.ladderSectorStart a) s = .next (s.ladUp l { l with phase := 1 })) ∧
  (∀ (s : State) (a : Fin 8) (cw : BitVec 36480) (iter unsat c : Nat), (s.ld a.val).lateRun = some c →
    exec (.ladderDecodeDone a cw iter unsat) s = .next
      (((s.ldUp a.val (fun y => { y with lateRun := none })).sat (LD_LATE_CNT_COUNT c) 1).note (LD_STAT_LATE c) 0x0303 (16 + c) 0)) ∧
  (∀ (s : State) (a : Fin 8) (cw : BitVec 36480) (iter unsat : Nat) (l : Ladder) (t : Int) (rest : List Int),
    (s.ld a.val).lateRun = none → (s.ld a.val).queue.find? (fun l => l.phase == 1) = some l → l.won = true →
    l.rung = 1 → l.left = t :: rest →
    let r := decoded l.op cw.toNat iter 16 l.off
    let d := s.ladDecoded l t rest (r.1 && !r.2.1) (min iter 16) unsat
    exec (.ladderDecodeDone a cw iter unsat) s = .next
      (((((d.2.ladUp l d.1).slowEnd d.1.op.member d.1.op.mba).2).ladDrop d.1).ldLast d.1.ch 2 0 0 d.1.lastOfs d.1.lastIter)) ∧
  (∀ (s : State) (a : Fin 8) (cw : BitVec 36480) (iter unsat : Nat) (l : Ladder) (t : Int) (rest : List Int),
    (s.ld a.val).lateRun = none → (s.ld a.val).queue.find? (fun l => l.phase == 1) = some l → l.won = false →
    s.abandoned l = false → l.rung = 1 → l.rereads = 0 → l.left = t :: rest →
    let r := decoded l.op cw.toNat iter 16 l.off
    let d := s.ladDecoded l t rest (r.1 && !r.2.1) (min iter 16) unsat
    exec (.ladderDecodeDone a cw iter unsat) s = .next (
      if r.2.1 then s.ladOk l 1 0 t (min iter 16) r.2.2
      else if d.2.abandoned l then (d.2.ladUp l d.1).abandon d.1
      else if rest.isEmpty || !d.2.slotGood l.slot then d.2.ladGo l d.1 2 true else d.2.ladUp l d.1)) ∧
  (∀ (s : State) (c : Fin 32) (mba : BitVec 40) (l : Ladder),
    (s.ld (c.val / 4)).queue.find? (fun l => l.ch == c.val && l.op.mba == mba.toNat && !l.won) = some l →
    s.timersHeld = false → l.phase = 1 →
    let u := s.ldUp (c.val / 4) (fun x => { x with lateRun := some c.val })
    exec (.ladderTimeLimit c mba) s = .next (if u.abandoned l then u.abandon l else u.ladFail l true)) ∧
  (∀ (s : State) (c : Fin 32) (mba : BitVec 40) (l : Ladder),
    (s.ld (c.val / 4)).queue.find? (fun l => l.ch == c.val && l.op.mba == mba.toNat && !l.won) = some l →
    s.timersHeld = false → l.phase = 0 ∨ l.phase = 2 →
    exec (.ladderTimeLimit c mba) s = .next (if s.abandoned l then s.abandon l else s.ladFail l true))

/-- ROM_BOOT in BOOT with no stage running and no NO_IMAGE repairs half-blown fuses, shows fuse count, VK0_REVOKED, UID
and device key, and boots the slot the boot record names (slot 0 without one) if it passes its checks, else marks it
SLOT_BAD and tries the other with FALLBACK and event 0x1202, else marks that too, raises the fault NO_IMAGE and brings
the link up. GATE of a gateable stage that is not done, with BUSY clear, sets BUSY and names the stage. GATE_COMPLETE
ends BUSY and loads and verifies the stage. COMMIT_SVN outside an activation, in SERVICE or MAINT, sets BUSY where
fuses are to be blown and only clears ERR where none are; COMMIT_SVN_DONE blows the fuses up to the running SVN, shows
the count and raises 0x1205. REVOKE_VK0 with VK = 1 revokes vendor key 0 and raises 0x120A. STORE_OP_DONE writes the
piece, advances NEXT, judges the image and completes the command; after a granted timeout it only counts as late.
STORE_TIMEOUT discards the staged image, completes with 0x0303 and raises the fault FS_TMO. BOOT_RECORD_WRITE, where
one is due, writes the other copy with the next GEN, ACTIVE and its CRC-32C. SIG_DATA_READ returns the word WORD of
what SEL names and advances WORD. Choices of the model that it rests on: notes/assumptions 2, 3, 7, 33, 34 and 36. -/
def Obligations.BootAndSecurityCommandsComplete : Prop :=
  (∀ (s : State), s.mode = mBoot → s.g BT_BOOT_STAGE = 0 → s.is BT_STAT_NO_IMAGE = false →
    let a := s.btU (fun b => { b with fuse := (upTo 64).foldl (fun f i =>
      if bitOf f (2 * i) = 1 || bitOf f (2 * i + 1) = 1 then setBit (setBit f (2 * i)) (2 * i + 1) else f) b.fuse })
    let b := (a.p BT_SVN_FUSE_CNT a.fuseCnt).p BT_SVN_VK0_REVOKED (b2n a.bt.revoked)
    let c := State.each (upTo 4) (fun n t => t.p (BT_UID_DATA n) (Config.uid.toNat / 2 ^ (32 * n))) b
    let u := (c.setWords8 BT_DPK_DATA Config.devicePk.toNat).keysShow
    let first := match u.bootCopy with
      | some (_, _, x) => x
      | none => 0
    let v := u.slotBad first (u.slotCheck first)
    exec .romBoot s = .next (
      if u.slotCheck first = 0 then u.bootSlot first
      else if v.slotCheck (1 - first) = 0 then ((v.bootSlot (1 - first)).on BT_BOOT_FALLBACK).raise 0x1202 1 0
      else ((v.slotBad (1 - first) (v.slotCheck (1 - first))).fault BT_STAT_NO_IMAGE 1 1 0x1203 0).romLink)) ∧
  (∀ (s : State), s.is BT_CMD_BUSY = false → s.g BT_BOOT_STAGE ≠ 0 → s.bit BT_GATE_DONE (s.g BT_GATE_STAGE) = false →
    2 ≤ Image.stTyp s.bt.hdr (s.g BT_GATE_STAGE) → Image.stTyp s.bt.hdr (s.g BT_GATE_STAGE) ≤ 4 →
    exec .gate s = .next (((s.off BT_CMD_ERR).on BT_CMD_BUSY).btU (fun b => { b with gating := some (s.g BT_GATE_STAGE) }))) ∧
  (∀ (s : State) (i : Nat), s.bt.gating = some i →
    let u := (s.btU (fun b => { b with gating := none })).off BT_CMD_BUSY
    let body := u.slotBody u.gateSlot u.bt.hdr i
    exec .gateComplete s = .next (
      if Image.sha256 (Image.stLen u.bt.hdr i) body = Image.stHash u.bt.hdr i then
        (u.stageLoad (Image.stTyp u.bt.hdr i) (Image.stLen u.bt.hdr i) body).gatePass i
      else u.gateFail i)) ∧
  (∀ (s : State), s.is BT_CMD_BUSY = false → s.serving = true → s.g CM_ACT_PHASE = 0 →
    exec .commitSvn s = .next (if s.fuseCnt ≥ s.g BT_SVN_SVN then s.off BT_CMD_ERR else (s.off BT_CMD_ERR).on BT_CMD_BUSY)) ∧
  (∀ (s : State), s.is BT_CMD_BUSY = true → s.bt.gating = none →
    let u := s.blowTo (s.g BT_SVN_SVN)
    let v := (u.p BT_SVN_FUSE_CNT u.fuseCnt).off BT_CMD_BUSY
    exec .commitSvnDone s = .next (v.raise 0x1205 1 (pk [(s.fuseCnt, 7), (v.fuseCnt, 7)]))) ∧
  (∀ (s : State), s.is BT_CMD_BUSY = false → s.g BT_SVN_VK = 1 →
    exec .revokeVk0 s = .next ((((s.off BT_CMD_ERR).btU (fun b => { b with revoked := true })).on BT_SVN_VK0_REVOKED).raise 0x120A 1 0)) ∧
  (∀ (s : State) (o : FsOp), s.bt.fsLate = false → s.bt.fsOp = some o →
    let u := s.btU (fun b => { b with fsOp := none })
    let p := slotPage o.slot + o.page
    let v := (u.fsErase p o.n).fsWr p o.n (u.cmd o.id).buf
    let w := v.btSlotUp o.slot (fun x => { x with
      next := o.page + o.n, digest := if o.page = 0 then Image.hdrDigest (v.slotHdr o.slot) else x.digest })
    exec .storeOpDone s = .next ((((w.stageJudge o.slot).stgShow o.slot).complete o.id 0 0).fwNext 40)) ∧
  (∀ (s : State), s.bt.fsLate = true →
    exec .storeOpDone s = .next (((s.btU (fun b => { b with fsLate := false })).sat BT_LATE_CNT_COUNT 1).note BT_STAT_FS_LATE 0x1208 1 0)) ∧
  (∀ (s : State) (o : FsOp), s.bt.fsOp = some o →
    let u := ((s.btU (fun b => { b with fsOp := none, fsLate := true })).btSlotUp o.slot (fun x => { mark := x.mark })).stgShow o.slot
    exec .storeTimeout s = .next (((u.complete o.id 0x0303 0).fault BT_STAT_FS_TMO 1 3 0x1207 0).fwNext 40)) ∧
  (∀ (s : State), s.bt.recDue = true →
    let gen := match s.bootCopy with
      | some (_, g, _) => g + 1
      | none => 1
    let copy := match s.bootCopy with
      | some (c, _, _) => 1 - c
      | none => 0
    let b := pk [(0x5A484252, 32), (gen, 32), (s.g BT_BOOT_SLOT, 8), (0, 408)]
    exec .bootRecordWrite s = .next (((s.fsWr (16 * copy) 1 (b + Code.crc32c 480 b * 2 ^ 480)).on BT_BOOT_REC_DONE).btU
      (fun x => { x with recDue := false }))) ∧
  (∀ (s : State),
    let w := s.g BT_SIG_ADDR_WORD
    let v := if s.is BT_SIG_ADDR_SEL then (if w > 1963 then 0 else s.fsRd (0x20000 + 4 * w) 4)
      else if w > 4271 then 0 else bitsOf s.bt.sig (32 * w) 32
    exec .sigDataRead s = .next (({ s with rdata := BitVec.ofNat 32 v }).p BT_SIG_ADDR_WORD (w + 1)))

/-- BUFFER_READ of an address outside buffer memory is the fault UE 0x0D02 and bad data for its reader; while BM is
STOPPING the access is refused with an error; an early instruction fetch is a machine check with cause 2; any other
read adds the error bits to the stored word and notes its class, a correctable word is noted for its row, and an
uncorrectable one is bad data for its reader. SCRUB_BURST, with BM ON, a PERIOD and memory configured, adds the error
bits that have appeared in the burst, treats every word in error of it, and moves on, the last burst counting a pass,
setting SCRUB_DONE and starting again at 0. SRAM_SCRUB with SRAM_EN set counts a corrected word and, for a sample
slot, sets SMEM_CE; an uncorrectable one is counted, raises the fault 0x0D07 and is left to the owner of the word.
ED_REBUILD_DONE of a held volume rebuilds its DIRTY and SPILLED entries from the ready records and ends the hold.
MR4_POLL with BM ON writes the temperature of the channel's byte of BM_TEMP, keeps the refresh field and the
excursion, and notes 0x0D05 where an excursion begins. Choices of the model that it rests on: notes/assumptions 2, 3,
7, 12, 32, 73 and 90. -/
def Obligations.BufferMemoryCommandsComplete : Prop :=
  (∀ (s : State) (addr : BitVec 64) (flips : BitVec 80) (row : Nat) (first : BitVec 64) (rank : Fin 2) (who : BufUser),
    s.g BM_CTL_STATE = stStopping →
    exec (.bufferRead addr flips row first rank who) s = .next (s.bufRefused addr.toNat who)) ∧
  (∀ (s : State) (addr : BitVec 64) (flips : BitVec 80) (row : Nat) (first : BitVec 64) (rank : Fin 2) (who : BufUser),
    s.g BM_CTL_STATE ≠ stStopping → s.bmBytes ≤ addr.toNat →
    exec (.bufferRead addr flips row first rank who) s =
      .next ((s.fault BM_STAT_UE 9 1 0x0D02 addr.toNat).badWord addr.toNat who)) ∧
  (∀ (s : State) (addr : BitVec 64) (flips : BitVec 80) (row : Nat) (first : BitVec 64) (rank : Fin 2) (who : BufUser) (core : Nat),
    s.g BM_CTL_STATE ≠ stStopping → addr.toNat < s.bmBytes → s.fetchEarly addr.toNat who = some core →
    exec (.bufferRead addr flips row first rank who) s = .next (s.coreCheck core 2)) ∧
  (∀ (s : State) (addr : BitVec 64) (flips : BitVec 80) (row : Nat) (first : BitVec 64) (rank : Fin 2) (who : BufUser),
    s.g BM_CTL_STATE ≠ stStopping → addr.toNat < s.bmBytes → s.fetchEarly addr.toNat who = none →
    let u := (s.flip addr.toNat flips.toNat).eccNote addr.toNat rank.val
    let cls := (eccClass (u.bErr addr.toNat)).1
    exec (.bufferRead addr flips row first rank who) s =
      .next (if cls = 0 then u else if cls = 1 then u.rowNote row first.toNat else u.badWord addr.toNat who)) ∧
  (∀ (s : State) (flips : List (Nat × BitVec 80)) (row : Nat) (first : BitVec 64),
    s.g BM_CTL_STATE = stOn → 0 < s.g BM_SCRUB_CFG_PERIOD → 0 < s.bmBytes →
    let inBurst := fun a : Nat => (upTo 4).any (fun c => decide (burstAddr s.bm.scrubAt c ≤ a) && decide (a < burstAddr s.bm.scrubAt c + 128))
    let u := State.each (flips.filter (fun f => inBurst f.1)) (fun f t => t.flip f.1 f.2.toNat) s
    let v := State.each ((u.bm.err.filter (fun e => inBurst e.1)).map (·.1)) (fun a t => t.scrubWord a row first.toNat) u
    exec (.scrubBurst flips row first) s = .next (
      if s.bm.scrubAt + 1 < v.bmBytes / 512 then
        (v.bmU (fun b => { b with scrubAt := s.bm.scrubAt + 1 })).p BM_SCRUB_STAT_PCT ((s.bm.scrubAt + 1) * 100 / (v.bmBytes / 512))
      else (((v.inc BM_SCRUB_STAT_PASSES).off BM_SCRUB_STAT_PCT).on BM_STAT_SCRUB_DONE).bmU (fun b => { b with scrubAt := 0, rows := [] }))) ∧
  (∀ (s : State) (c : Fin 32) (slot : Fin 4), s.is BM_SCRUB_CFG_SRAM_EN = true →
    exec (.sramScrub (.sample c slot) false) s = .next ((s.sat BM_SRAM_CE_CNT_COUNT 1).on (CH_STAT_SMEM_CE c.val))) ∧
  (∀ (s : State) (w : SramWord), s.is BM_SCRUB_CFG_SRAM_EN = true →
    let u := s.sat BM_SRAM_UE_CNT_COUNT 1
    exec (.sramScrub w true) s = .next ((u.free.2.fault BM_STAT_SRAM_UE 9 9 0x0D07 u.free.1).sramUe w)) ∧
  (∀ (s : State) (v : Fin 64), bitOf s.bm.hold v.val = 1 →
    let u := s.edSet (s.bm.ed.filter (fun x => decide (x.2.kind = kClean) || decide (x.2.vol ≠ v.val)))
    exec (.edRebuildDone v) s = .next ((State.each (u.jn.recs.filter (fun r =>
      r.typ == tData && r.durable && !r.retired && r.ready && r.vol == v.val)) (fun r t => t.dirPut r) u).bmU
        (fun b => { b with hold := clrBit b.hold v.val }))) ∧
  (∀ (s : State) (chan : Fin 4) (fine : Bool) (temp : BitVec 8), s.g BM_CTL_STATE = stOn →
    let u := s.p ⟨BM_TEMP, 8 * chan.val, 8⟩ temp.toNat
    let above := decide (temp.toNat > u.g BM_CFG_TEMP_LIM)
    let v := u.bmU (fun b => { b with
      fine := if fine then setBit b.fine chan.val else clrBit b.fine chan.val
      hot := if above then setBit b.hot chan.val else clrBit b.hot chan.val })
    exec (.mr4Poll chan fine temp) s = .next (
      if above && decide (bitOf s.bm.hot chan.val ≠ 1) then v.note BM_STAT_TEMP_HIGH 0x0D05 9 0 else v))

/-- HEADSEL_WRITE by its writer's mode (MAINT for firmware, SERVICE for the scheduler): with a gate of the channel
asserted it shows the head with PENDING set; otherwise it is applied at once, 12 to 15 selecting none.
HEAD_SELECT_APPLY with PENDING set and no gate asserted applies the shown head. Applied, HEAD shows the selection and
PENDING is 0, and: no head leaves the slot with none and sends 0 to its register of the preamp; a head that is not
populated, or that a sibling channel has selected, raises HSEL_ERR (0x0206), refuses the gates and leaves the slot
with none; any other sends the index with the enable bit to the preamp and settles. HEAD_SETTLE_DONE of a slot that
settles, its head-select frame out, makes the head active. Choices of the model that it rests on: notes/assumptions 2,
3, 7, 98 and 99. -/
def Obligations.ChannelCommandsComplete : Prop :=
  (∀ (s : State) (c : Fin 32) (head : Fin 16) (fw : Bool), s.mode = (if fw then mMaint else mService) →
    (s.ch c.val).rdGate = true ∨ (s.ch c.val).wrGate = true →
    let h := if head.val ≥ 12 then 0xF else head.val
    exec (.headselWrite c head fw) s = .next ((s.p (CH_HEADSEL_HEAD c.val) h).on (CH_HEADSEL_PENDING c.val))) ∧
  (∀ (s : State) (c : Fin 32) (head : Fin 16) (fw : Bool), s.mode = (if fw then mMaint else mService) →
    (s.ch c.val).rdGate = false → (s.ch c.val).wrGate = false →
    let h := if head.val ≥ 12 then 0xF else head.val
    let u := (s.p (CH_HEADSEL_HEAD c.val) h).off (CH_HEADSEL_PENDING c.val)
    exec (.headselWrite c head fw) s = .next (
      if h = 0xF then
        ((u.chUp c.val (fun (x : ChState) => { x with selBad := false, settling := none })).setActive c.val 0xF).paSend (c.val / 4)
          (1 + c.val % 4) 0
      else if u.populated (c.val / 4) h = false ∨
          (upTo 4).any (fun n => 4 * (c.val / 4) + n ≠ c.val && u.selected (4 * (c.val / 4) + n) == h) = true then
        ((u.note (CH_STAT_HSEL_ERR c.val) 0x0206 (16 + c.val) 0).chUp c.val (fun (x : ChState) =>
          { x with selBad := true, settling := none })).setActive c.val 0xF
      else (u.chUp c.val (fun (x : ChState) => { x with selBad := false, settling := some h })).paSend (c.val / 4) (1 + c.val % 4) (h + 16))) ∧
  (∀ (s : State) (c : Fin 32), s.is (CH_HEADSEL_PENDING c.val) = true → (s.ch c.val).rdGate = false → (s.ch c.val).wrGate = false →
    exec (.headSelectApply c) s = .next (s.select c.val (s.g (CH_HEADSEL_HEAD c.val)))) ∧
  (∀ (s : State) (c : Fin 32) (h : Nat), (s.ch c.val).settling = some h →
    ((s.paFlush (c.val / 4)).pa (c.val / 4)).hw.any (fun f => f.addr == 1 + c.val % 4) = false →
    exec (.headSettleDone c) s = .next
      (((s.paFlush (c.val / 4)).chUp c.val (fun (x : ChState) => { x with settling := none })).setActive c.val h))

/-- PREAMP_ACCESS with BUSY clear shows address and direction: a write to addresses 1 to 7 gives ERR 3 and is not sent;
another write is handed to the bus with ERR 0; a read is handed to the bus and sets BUSY. On a free bus with nothing
waiting the frame of R63 stands on PA_DAT at once, a write then leaving BUSY clear. PREAMP_READ_RESPONSE of a pending
read ends BUSY and frees the bus; with a correct CRC-8 it gives the data with ERR 0 (and identifies the pack in BOOT),
with a wrong one ERR 1; a late response counts in PA_LATE and raises 0x0201. PREAMP_TIMEOUT ends a pending read with
ERR 2 and the fault PA_TIMEOUT. PREAMP_FAULT drops every write gate of the actuator, marks the sector in progress as
cut and raises the fault PA_FAULT in its four channels; PREAMP_FAULT_RELEASE ends the signal and changes nothing else.
Choices of the model that it rests on: notes/assumptions 2, 3, 7, 33 and 98. -/
def Obligations.PreampBusCommandsComplete : Prop :=
  (∀ (s : State) (a : Fin 8) (addr : Fin 128) (data : BitVec 16), s.is (CH_PA_CMD_BUSY (4 * a.val)) = false →
    1 ≤ addr.val → addr.val ≤ 7 →
    let c := 4 * a.val
    exec (.preampAccess a addr true data) s = .next
      ((((s.p (CH_PA_CMD_ADDR c) addr.val).p (CH_PA_CMD_WRITE c) 1).p (CH_PA_DATA_DATA c) data.toNat).p (CH_PA_CMD_ERR c) 3)) ∧
  (∀ (s : State) (a : Fin 8) (addr : Fin 128) (data : BitVec 16), s.is (CH_PA_CMD_BUSY (4 * a.val)) = false →
    addr.val = 0 ∨ 7 < addr.val →
    let c := 4 * a.val
    let u := ((s.p (CH_PA_CMD_ADDR c) addr.val).p (CH_PA_CMD_WRITE c) 1).p (CH_PA_DATA_DATA c) data.toNat
    exec (.preampAccess a addr true data) s = .next
      (((u.off (CH_PA_CMD_ERR c)).on (CH_PA_CMD_BUSY c)).fwFrame a.val { write := true, addr := addr.val, data := data.toNat })) ∧
  (∀ (s : State) (a : Fin 8) (addr : Fin 128) (data : BitVec 16), s.is (CH_PA_CMD_BUSY (4 * a.val)) = false →
    addr.val = 0 ∨ 7 < addr.val → (s.pa a.val).busy = false → (s.pa a.val).hw = [] →
    Answers (.preampAccess a addr true data) s fun t =>
      (t.pa a.val).frame.toNat = ((2 ^ 23 + addr.val * 2 ^ 16 + data.toNat) * 256 + Code.crc8 24 (2 ^ 23 + addr.val * 2 ^ 16 + data.toNat)) % 2 ^ 32 ∧
      t.g (CH_PA_CMD_BUSY (4 * a.val)) = 0 ∧ t.g (CH_PA_CMD_ERR (4 * a.val)) = 0) ∧
  (∀ (s : State) (a : Fin 8) (addr : Fin 128) (data : BitVec 16), s.is (CH_PA_CMD_BUSY (4 * a.val)) = false →
    let c := 4 * a.val
    let u := (s.p (CH_PA_CMD_ADDR c) addr.val).p (CH_PA_CMD_WRITE c) 0
    exec (.preampAccess a addr false data) s = .next
      (((u.on (CH_PA_CMD_BUSY c)).paUp a.val (fun (x : PaState) => { x with reading := true })).fwFrame a.val
        { write := false, addr := addr.val, data := 0 })) ∧
  (∀ (s : State) (a : Fin 8) (data : BitVec 16) (crc : BitVec 8), (s.pa a.val).reading = true →
    let c := 4 * a.val
    let u := ((s.paFlush a.val).paFree a.val).off (CH_PA_CMD_BUSY c)
    exec (.preampReadResponse a data crc false) s = .next (
      if crc.toNat = Code.crc8 16 data.toNat then
        ((u.p (CH_PA_DATA_DATA c) data.toNat).off (CH_PA_CMD_ERR c)).packMask a.val data.toNat
      else u.p (CH_PA_CMD_ERR c) 1)) ∧
  (∀ (s : State) (a : Fin 8) (data : BitVec 16) (crc : BitVec 8), (s.pa a.val).lateDue ≠ 0 →
    exec (.preampReadResponse a data crc true) s = .next
      (((s.paUp a.val (fun (x : PaState) => { x with lateDue := x.lateDue - 1 })).sat (CH_LATE_CNT_PA_LATE (4 * a.val)) 1).raise 0x0201
        (16 + 4 * a.val) 0)) ∧
  (∀ (s : State) (a : Fin 8), (s.pa a.val).reading = true →
    let c := 4 * a.val
    exec (.preampTimeout a) s = .next ((((((s.paFlush a.val).paFree a.val).off (CH_PA_CMD_BUSY c)).p (CH_PA_CMD_ERR c) 2).paUp a.val
      (fun (x : PaState) => { x with lateDue := x.lateDue + 1 })).fault (CH_STAT_PA_TIMEOUT c) (16 + c) 9 0x0105 9)) ∧
  (∀ (s : State) (a : Fin 8), (s.pa a.val).fltLow = false →
    exec (.preampFault a) s = .next (State.each (upTo 4) (fun n t =>
      (t.chUp (4 * a.val + n) (fun (x : ChState) =>
        { x with wrGate := false, cut := if x.wrGate then 1 else if x.rdGate then 2 else x.cut })).fault
        (CH_STAT_PA_FAULT (4 * a.val + n)) (16 + (4 * a.val + n)) 0 0x0202 0) (s.paUp a.val (fun (x : PaState) => { x with fltLow := true })))) ∧
  (∀ (s : State) (a : Fin 8), Answers (.preampFaultRelease a) s fun t =>
    (t.pa a.val).fltLow = false ∧ (∀ b, b ≠ a.val → t.pa b = s.pa b) ∧ t = { s with paT := t.paT })

/-- For every state and channel, SMEM_DATA_READ answers a next state whose read data has, in bits 6k + 5 to 6k for k from
0 to 4, the sample at position POS + k of the reader and slot that CH_SMEM_ADDR names, or 0 past position 36,863; bit
30 is 0; bit 31 is 1 where the slot was rewritten since CH_SMEM_ADDR was last written; POS is 5 more, modulo 2^16;
nothing but the read data and POS changes. -/
def Obligations.SampleMemoryReadCompletes : Prop :=
  ∀ (s : State) (c : Fin 32), Answers (.smemDataRead c) s fun t =>
    let pos := s.g (CH_SMEM_ADDR_POS c.val)
    let x := (s.ch c.val).slots.getD (s.g (CH_SMEM_ADDR_SLOT c.val)) {}
    let v := if s.g (CH_SMEM_ADDR_READER c.val) = 0 then x.s0.toNat else x.s1.toNat
    (∀ k, k < 5 → t.rdata.toNat / 2 ^ (6 * k) % 64 = if 36863 < pos + k then 0 else v / 2 ^ (6 * (pos + k)) % 64) ∧
    t.rdata.toNat / 2 ^ 30 % 2 = 0 ∧ (t.rdata.toNat / 2 ^ 31 = 1 ↔ x.stale = true) ∧
    t.g (CH_SMEM_ADDR_POS c.val) = (pos + 5) % 2 ^ 16 ∧
    t = ({ s with rdata := t.rdata }).p (CH_SMEM_ADDR_POS c.val) (pos + 5)

/-- On a channel whose registers take effect (R502: 40 to 47 always, the others in MAINT): DM_CH_GO on an idle, unhalted
channel that is ON checks its configuration, halting with cause CFG where it fails, else sets BUSY, clears PAUSED and
HOPS and starts the transfer. DMA_PAUSE sets PAUSE and begins to drain a busy channel. DMA_UNPAUSE clears PAUSE, and a
paused channel goes on from its registers. SHADOW_ARM on an idle channel starts the shadow set at once; on a busy or
halted one it sets SH_VALID. PERIPHERAL_REQUEST of line 0 to 95 marks the line and gives one burst to each busy paced
channel on it; lines 96 to 127 do nothing. PERIPHERAL_WITHDRAW takes the line back; a burst not started is cancelled,
a started one sets REQ_LATE and halts its channel. HWT_DATA_ACCESS reads the word that DM_HWT_ADDR names, stages words
0 to 2, and with word 3 makes the staged entry take effect; the address advances. Choices of the model that it rests
on: notes/assumptions 2, 3, 7, 20, 21, 55, 87 and 89. -/
def Obligations.DmaCommandsComplete : Prop :=
  (∀ (s : State) (n : Fin 64), s.dmaLocked n.val = false → s.dchOn n.val = true → s.dBusy n.val = false →
    s.is (DM_CH_STAT_HALTED n.val) = false →
    exec (.dmChGo n) s = .next (
      if s.dBadCfg n.val then s.dHalt n.val hcCfg
      else ((((s.on (DM_CH_STAT_BUSY n.val)).off (DM_CH_STAT_PAUSED n.val)).off (DM_CH_HOPS_HOPS n.val)).dchUp n.val (fun c =>
        { cmd := c.cmd, base := c.base, total := s.dlen n.val, segs := c.segs
          chain := if s.is (DM_CH_CFG_CHAIN n.val) && c.segs.isEmpty then some (s.chainFirst n.val, 0) else none })).dGo n.val)) ∧
  (∀ (s : State) (n : Fin 64), s.dmaLocked n.val = false →
    let u := s.on (DM_CH_CTL_PAUSE n.val)
    exec (.dmaPause n) s = .next (
      if u.dBusy n.val && !u.is (DM_CH_STAT_PAUSED n.val) then ((u.dchUp n.val (fun c => { c with draining := true })).dCheck n.val).2 else u)) ∧
  (∀ (s : State) (n : Fin 64), s.dmaLocked n.val = false →
    let u := s.off (DM_CH_CTL_PAUSE n.val)
    exec (.dmaUnpause n) s = .next (
      if u.is (DM_CH_STAT_PAUSED n.val) then ((u.off (DM_CH_STAT_PAUSED n.val)).dchUp n.val (fun c =>
        { c with total := c.fin + u.dlen n.val, issued := c.fin, ahead := [] })).dGo n.val
      else u.dchUp n.val (fun c => { c with draining := false }))) ∧
  (∀ (s : State) (n : Fin 64), s.dmaLocked n.val = false → s.dchOn n.val = true → s.dBusy n.val = false →
    s.is (DM_CH_STAT_HALTED n.val) = false → exec (.shadowArm n) s = .next ((s.dShadow n.val).dStart n.val)) ∧
  (∀ (s : State) (n : Fin 64), s.dmaLocked n.val = false → s.dchOn n.val = true → s.is (DM_CH_CFG_CHAIN n.val) = false →
    s.dBusy n.val = true ∨ s.is (DM_CH_STAT_HALTED n.val) = true →
    exec (.shadowArm n) s = .next (s.on (DM_CH_STAT_SH_VALID n.val))) ∧
  (∀ (s : State) (line : Fin 128), line.val < 96 →
    exec (.peripheralRequest line) s = .next (State.each ((s.dmU (fun d => { d with
        lines := if d.lines.contains line.val then d.lines else line.val :: d.lines })).lineChans line.val) (fun n t =>
      let t := t.dchUp n (fun c => { c with due := c.due + 1 })
      if t.srcSp n = spHost || t.dstSp n = spHost then t.dPump n 1 else t)
      (s.dmU (fun d => { d with lines := if d.lines.contains line.val then d.lines else line.val :: d.lines })))) ∧
  (∀ (s : State) (line : Fin 128), 96 ≤ line.val → exec (.peripheralRequest line) s = .next s) ∧
  (∀ (s : State) (line : Fin 128), line.val ∈ s.dm.lines →
    let u := s.dmU (fun d => { d with lines := d.lines.filter (· ≠ line.val) })
    exec (.peripheralWithdraw line false) s = .next
      (State.each (u.lineChans line.val) (fun n t => t.dchUp n (fun c => { c with due := c.due - 1 })) u)) ∧
  (∀ (s : State) (line : Fin 128), line.val ∈ s.dm.lines →
    let u := s.dmU (fun d => { d with lines := d.lines.filter (· ≠ line.val) })
    exec (.peripheralWithdraw line true) s = .next (State.each (u.lineChans line.val) (fun n t =>
      let t := ((t.on (DM_CH_STAT_REQ_LATE n)).sat DM_REQ_LATE_CNT_COUNT 1).note DM_STAT_REQ_LATE 0x0C11 8 0
      t.dchUp n (fun c => { c with haltDue := if t.srcSp n = spPer then hcPoison else hcSink })) u)) ∧
  (∀ (s : State) (v : Word), s.g DM_HWT_ADDR_WORD < 3 →
    exec (.hwtDataAccess (some v)) s = .next
      ((s.dmU (fun d => { d with staged := d.staged.ins (s.g DM_HWT_ADDR_WORD) v.toNat })).p DM_HWT_ADDR_WORD (s.g DM_HWT_ADDR_WORD + 1))) ∧
  (∀ (s : State) (v : Word), s.g DM_HWT_ADDR_WORD = 3 → Answers (.hwtDataAccess (some v)) s fun t =>
    let i := s.g DM_HWT_ADDR_INDEX
    t.dm.hwt = (upTo 3).foldl (fun x k => match s.dm.staged.find k with
      | some y => x.ins (4 * i + k) y
      | none => x) (s.dm.hwt.ins (4 * i + 3) v.toNat) ∧
    t.dm.staged = [] ∧ t.g DM_HWT_ADDR_WORD = 0 ∧ t.g DM_HWT_ADDR_INDEX = (i + 1) % 2 ^ 14) ∧
  (∀ (s : State), Answers (.hwtDataAccess none) s fun t =>
    t.rdata = BitVec.ofNat 32 (s.hwtWord (4 * s.g DM_HWT_ADDR_INDEX + s.g DM_HWT_ADDR_WORD)) ∧ t.dm = s.dm ∧
    t.g DM_HWT_ADDR_WORD = (s.g DM_HWT_ADDR_WORD + 1) % 4)

/-- HOURGLASS_EXPIRY of a running hourglass outside held time escalates the unit one level with trigger 0 and its oldest
pending class. FAULT_ACK takes the classes of its mask out of FT_U_PEND, and where none is left clears HG and LEVEL;
one that comes after a granted expiry it would have emptied only counts as late and notes 0x0103. FAULT_PULSE_END ends
the monitor's pulse, or outside held time the package's. HISTORY_SNAP copies the eight newest entries (0 beyond them);
HISTORY_CLEAR empties the history and clears HIST_CNT and HIST_OVF. EVENT_RECORD_WRITTEN stores the oldest queued
record and then reports drops. RATE_TOKEN_RETURN gives one token of the code back. HOURS_UPDATE in a mode but OFF
counts EV_HOURS and follows the test hours. CLEAR_FIRST and CLEAR_LAST in MAINT with BUSY clear set BUSY, store the
queued records and take the next SEQ for EV_CLEARED, in another mode give ERR 1; EV_CLEAR_DONE empties the area,
stores EV_CLEARED and the records that waited, sets CLEARED and clears BUSY. EVENT_READ_DATA returns the word
EV_RD_ADDR names and advances WORD, and INDEX after word 7. Choices of the model that it rests on: notes/assumptions
2, 3, 7, 16, 30, 32 and 106. -/
def Obligations.FaultAndEventCommandsComplete : Prop :=
  (∀ (s : State) (u : Fin 60), s.is (FT_U_STAT_HG u.val) = true → s.timersHeld = false →
    exec (.hourglassExpiry u) s = .next ((s.escalate u.val 0 ((s.unit u.val).order.headD 0)).careFrom s)) ∧
  (∀ (s : State) (u : Fin 60) (mask : Word),
    let left := (BitVec.ofNat 32 (s.g (FT_U_PEND_MASK u.val)) &&& ~~~ (BitVec.ofNat 32 mask.toNat)).toNat
    let v := (s.p (FT_U_PEND_MASK u.val) left).unitUp u.val (fun x => { x with order := x.order.filter (fun b => bitOf mask.toNat b = 0) })
    exec (.faultAck u mask false) s = .next (
      if left = 0 then ((v.off (FT_U_STAT_HG u.val)).off (FT_U_STAT_LEVEL u.val)).ftU (fun f =>
        { f with storeQuiesce := f.storeQuiesce.filter (· ≠ u.val) })
      else v)) ∧
  (∀ (s : State) (u : Fin 60) (mask : Word), s.g (FT_U_PEND_MASK u.val) ≠ 0 →
    BitVec.ofNat 32 (s.g (FT_U_PEND_MASK u.val)) &&& ~~~ mask = 0 →
    exec (.faultAck u mask true) s = .next ((s.sat FT_LATE_CNT_COUNT 1).note (FT_U_STAT_ACK_LATE u.val) 0x0103 u.val mask.toNat)) ∧
  (∀ (s : State), exec (.faultPulseEnd true) s = .next { s with ft := { s.ft with sfPulse := false } }) ∧
  (∀ (s : State), s.timersHeld = false → exec (.faultPulseEnd false) s = .next { s with ft := { s.ft with pulse := false } }) ∧
  (∀ (s : State) (u : Fin 60), exec (.historySnap u) s = .next (State.each (upTo 8) (fun k t =>
    (t.p (FT_U_HIST_DATA u.val (2 * k)) (match (s.unit u.val).hist[k]? with | some e => e.words.1 | none => 0)).p
      (FT_U_HIST_DATA u.val (2 * k + 1)) (match (s.unit u.val).hist[k]? with | some e => e.words.2 | none => 0)) s)) ∧
  (∀ (s : State) (u : Fin 60), exec (.historyClear u) s = .next
    (((s.unitUp u.val (fun x => { x with hist := [] })).off (FT_U_STAT_HIST_CNT u.val)).off (FT_U_STAT_HIST_OVF u.val))) ∧
  (∀ (s : State) (r : EvRec) (q : List EvRec), s.ev.clearing = none → s.ev.queue = r :: q →
    exec .eventRecordWritten s = .next ((State.storeRec { s with ev := { s.ev with queue := q } } r).reportDrops)) ∧
  (∀ (s : State) (code : BitVec 16), Answers (.rateTokenReturn code) s fun t =>
    t.ev.used.getD code.toNat 0 = s.ev.used.getD code.toNat 0 - 1 ∧
    (∀ c, c ≠ code.toNat → t.ev.used.getD c 0 = s.ev.used.getD c 0) ∧
    t = { s with ev := { s.ev with used := t.ev.used } }) ∧
  (∀ (s : State), s.mode ≠ mOff → exec .hoursUpdate s = .next ((s.inc EV_HOURS_HOURS).testHours)) ∧
  (∀ (s : State), s.is EV_CMD_BUSY = false → s.mode = mMaint →
    let v := ((s.off EV_CMD_ERR).on EV_CMD_BUSY).flushEvents
    let n := nextSeq v.ev.seqAcc
    exec .clearFirst s = .next (State.reportDrops { v with ev := { v.ev with
      clearing := some (0, { v.mkRec 0x0112 0x40 0 false with seq := n }), seqAcc := n } }) ∧
    exec .clearLast s = .next (State.reportDrops { v with ev := { v.ev with
      clearing := some (1, { v.mkRec 0x0112 0x40 1 false with seq := n }), seqAcc := n } })) ∧
  (∀ (s : State), s.is EV_CMD_BUSY = false → s.mode ≠ mMaint →
    exec .clearFirst s = .next (s.p EV_CMD_ERR 1) ∧ exec .clearLast s = .next (s.p EV_CMD_ERR 1)) ∧
  (∀ (s : State) (r : EvRec), s.ev.clearing = some (0, r) →
    let v := ({ s with ev := { s.ev with first := [], clearing := none } }).off EV_POS_FIRST_CNT
    exec .evClearDone s = .next ((((v.storeRec r).on EV_STAT_CLEARED).flushEvents.reportDrops).off EV_CMD_BUSY)) ∧
  (∀ (s : State) (r : EvRec), s.ev.clearing = some (1, r) →
    let v := (({ s with ev := { s.ev with last := [], clearing := none } }).off EV_POS_LAST_HEAD).off EV_POS_LAST_WRAP
    exec .evClearDone s = .next ((((v.storeRec r).on EV_STAT_CLEARED).flushEvents.reportDrops).off EV_CMD_BUSY)) ∧
  (∀ (s : State),
    let w := s.g EV_RD_ADDR_WORD
    let v := ({ s with rdata := BitVec.ofNat 32 s.evWord }).p EV_RD_ADDR_WORD (w + 1)
    exec .eventReadData s = .next (if w = 7 then v.p EV_RD_ADDR_INDEX (v.g EV_RD_ADDR_INDEX + 1) else v))

/-- For a function whose registers take effect: FUNCTION_ENABLE sets EN and, from OFF, begins the start-up;
FUNCTION_DISABLE clears EN and, from ON, begins the shut-down; in the other states the transition in progress goes on.
FUNCTION_STARTUP_DONE of a starting function that is ready ends its start-up: a volume runs its checks, RB reads its
records, AR writes unretired stripes again, BM with failed channels and others whose start-up fails return to OFF, and
the rest become ON, where a shut-down queued meanwhile begins at once. FUNCTION_SHUTDOWN_DONE of a stopping function
that is ready ends the shut-down and reaches OFF, where a pending enable starts it again. Choices of the model that it
rests on: notes/assumptions 2, 3, 7, 72 and 73. -/
def Obligations.FunctionCommandsComplete : Prop :=
  (∀ (s : State) (f : Func), s.fnLocked f = false → s.g (Func.st f) = stOff →
    exec (.functionEnable f) s = .next ((s.enableFn f).startBegin f)) ∧
  (∀ (s : State) (f : Func), s.fnLocked f = false → s.g (Func.st f) ≠ stOff →
    exec (.functionEnable f) s = .next (s.enableFn f)) ∧
  (∀ (s : State) (f : Func), s.fnLocked f = false → s.g (Func.st f) = stOn →
    exec (.functionDisable f) s = .next (((s.disableFn f).stopBegin f).careFrom (s.disableFn f))) ∧
  (∀ (s : State) (f : Func), s.fnLocked f = false → s.g (Func.st f) ≠ stOn →
    exec (.functionDisable f) s = .next (s.disableFn f)) ∧
  (∀ (s : State) (v : Fin 64) (bad : BitVec 4), s.g (Func.st (.vol v)) = stStarting →
    let u := s.volStart v.val
    exec (.functionStartupDone (.vol v) bad) s = .next
      ((if u.g (AR_VOL_CTL_STATE v.val) = stOn then u.nowOn (.vol v) else u).volWaits v.val)) ∧
  (∀ (s : State) (bad : BitVec 4), s.g (Func.st .rb) = stStarting → s.g JN_CTL_STATE = stOn →
    exec (.functionStartupDone .rb bad) s = .next (s.rbStart.nowOn .rb)) ∧
  (∀ (s : State) (bad : BitVec 4), s.g (Func.st .ar) = stStarting →
    exec (.functionStartupDone .ar bad) s = .next ((s.nowOn .ar).stripesAgain)) ∧
  (∀ (s : State) (bad : BitVec 4), s.g (Func.st .hc) = stStarting →
    let u := (s.hcU (fun h => { h with lines := [], wb := [], trackers := [] })).hcOcc
    exec (.functionStartupDone .hc bad) s = .next (((u.nowOn .hc).wbRetry).hcRetry)) ∧
  (∀ (s : State) (f : Func) (bad : BitVec 4), (∀ v, f ≠ .vol v) → f ≠ .rb → f ≠ .ar → f ≠ .hc →
    s.g (Func.st f) = stStarting → s.startReady f = true →
    let r := s.startEnd f bad.toNat
    exec (.functionStartupDone f bad) s = .next (if r.1 then r.2.nowOn f else r.2.p (Func.st f) stOff)) ∧
  (∀ (s : State) (f : Func), s.g (Func.st f) = stStopping → s.stopReady f = true →
    let u := (s.stopEnd f).nowOff f
    exec (.functionShutdownDone f) s = .next (match f with
      | .vol v => u.volWaits v.val
      | _ => u))

/-- CACHE_READ by a requester that reads, at an address its window translates, looks the line of the beat up (after
dropping a full line found uncorrectable, counted and noted as 0x0C01) and follows the requester's stride; CACHE_WRITE
of 1 to 128 bytes within a line, by a requester that writes and at an address that translates, writes through the
cache. With HC_MAINT.BUSY clear, INVAL_LINE invalidates the line that holds HC_MAINT_ADDR, INVAL_RANGE every line that
meets the LEN bytes from it, INVAL_ALL every line, and DRAIN issues every merging-buffer entry and waits for those
present; each sets BUSY until it is applied. With BUSY set they do nothing. Choices of the model that it rests on:
notes/assumptions 2, 3, 7, 13, 86 and 88. -/
def Obligations.HostCacheCommandsComplete : Prop :=
  (∀ (s : State) (req : Fin 16) (addr : BitVec 64) (host : Nat), req.val ≠ 1 →
    s.reqAddr req.val (addr.toNat / 16 * 16) 16 false = some host →
    exec (.cacheRead req addr false) s = .next
      ((s.hcRead (host / 128) (.other req.val) 3).2.hcTrack req.val (host / 128) 0 (fun _ => true) (fun _ => 3))) ∧
  (∀ (s : State) (req : Fin 16) (addr : BitVec 64) (host i : Nat) (l : HcLine), req.val ≠ 1 →
    s.reqAddr req.val (addr.toNat / 16 * 16) 16 false = some host → s.hcFind (host / 128) = some (i, l) → l.state = 2 →
    let u := (((s.hcDrop i).sat HC_UE_CNT_COUNT 1).note HC_STAT_LINE_UE 0x0C01 7 (pk [(128 * (host / 128), 64)])).hcOcc
    exec (.cacheRead req addr true) s = .next
      ((u.hcRead (host / 128) (.other req.val) 3).2.hcTrack req.val (host / 128) 0 (fun _ => true) (fun _ => 3))) ∧
  (∀ (s : State) (req : Fin 16) (addr : BitVec 64) (len : Fin 129) (data : BitVec 1024) (host : Nat),
    req.val ≠ 0 → req.val ≠ 2 → 0 < len.val → addr.toNat % 128 + len.val ≤ 128 →
    s.reqAddr req.val addr.toNat len.val true = some host →
    exec (.cacheWrite req addr len data) s = .next (s.hcWrite req.val host len.val data.toNat)) ∧
  (∀ (s : State), s.is HC_MAINT_BUSY = false →
    exec .invalLine s = .next (((s.on HC_MAINT_BUSY).hcInval (fun l => decide (l = s.maintAddr / 128))).maintDone) ∧
    exec .invalRange s = .next (((s.on HC_MAINT_BUSY).hcInval (fun l => decide (s.maintAddr / 128 ≤ l) &&
      decide (l ≤ (s.maintAddr + atLeast1 (s.g HC_MAINT_LEN_LEN) - 1) / 128))).maintDone) ∧
    exec .invalAll s = .next (((s.on HC_MAINT_BUSY).hcInval (fun _ => true)).maintDone)) ∧
  (∀ (s : State), s.is HC_MAINT_BUSY = false →
    let u := (s.on HC_MAINT_BUSY).wbIssue (fun _ => true)
    exec .drain s = .next (({ u with hc := { u.hc with drain := some (u.hc.wb.map (fun (e : WbEntry) => e.id)) } }).maintDone)) ∧
  (∀ (s : State), s.is HC_MAINT_BUSY = true →
    exec .invalLine s = .next s ∧ exec .invalRange s = .next s ∧ exec .invalAll s = .next s ∧ exec .drain s = .next s)

/-- With LK ON, its ID valid, a mode other than BOOT and QM taking doorbells, DOORBELL_WRITE records the doorbell and
answers WRITE_RSP where asked. With QM ON and a pending bit whose context loads, DOORBELL_SERVE clears the bit, makes
the queue the last served and reads the shadow word of an ACTIVE queue. A returned SQ producer index that is in range
and no step back is recorded, puts the SQ under scan and reads the line at SQ_CI; a returned CQ consumer index that
passes its check is recorded, spilled entries move into the slots freed, with a producer-shadow write where any moved,
and held completions are tried again. Where entries may be taken, the SQ is scanned and has an owned entry in a full
line, the table has room and its CQ a slot, ENTRY_TAKEN takes the entry. COMPLETION_WRITE of a formed completion, not
halted, with the response to every data write of the command in, places, spills or holds it. INTERRUPT_TIMER of a CQ
whose timer runs, not halted, raises its interrupt. Choices of the model that it rests on: notes/assumptions 2, 3, 7,
55 and 82. -/
def Obligations.QueueCommandsComplete : Prop :=
  (∀ (s : State) (q : BitVec 20) (cq : Bool) (src : BitVec 12) (tag : BitVec 16) (rspReq : Bool),
    s.g LK_CTL_STATE = stOn → s.is LK_ID_VALID = true → s.mode ≠ mBoot →
    (s.g QM_CTL_STATE = stOn ∨ s.g QM_CTL_STATE = stStopping) →
    exec (.doorbellWrite q cq src tag rspReq) s = .next
      (if rspReq then (s.doorbell q.toNat cq).respond {
        kind := 3, dst := src.toNat, tag := tag.toNat, addr := 0, len := 0, data := 0, code := 0, vc := 3 } else s.doorbell q.toNat cq)) ∧
  (∀ (s : State) (q : Nat), s.g QM_CTL_STATE = stOn → s.dbNext = some (2 * q) → (s.ctxLoad q).1 = true →
    let u := (s.ctxLoad q).2
    (u.ctx q).sqState = qActive →
    let v := ((u.dbClear (2 * q)).qmU (fun m => { m with lastServed := q })).qmU
      (fun m => { m with reading := (2 * q) :: m.reading })
    exec (.doorbellServe none) s = .next (v.sendRead (u.ctx q).sqPiAddr 4 (.sqPi q))) ∧
  (∀ (s : State) (q : Nat), s.g QM_CTL_STATE = stOn → s.dbNext = some (2 * q + 1) → (s.ctxLoad q).1 = true →
    let u := (s.ctxLoad q).2
    ((u.ctx q).cqState = qActive ∨ (u.ctx q).cqState = qDeleting) →
    let v := ((u.dbClear (2 * q + 1)).qmU (fun m => { m with lastServed := q })).qmU
      (fun m => { m with reading := (2 * q + 1) :: m.reading })
    exec (.doorbellServe none) s = .next (v.sendRead (u.ctx q).cqCiAddr 4 (.cqCi q))) ∧
  (∀ (s : State) (q : BitVec 20) (v : Nat), s.qm.returned.find (2 * q.toNat) = some v →
    let p := v % 2 ^ 17
    let u := s.qmU (fun m => { m with
      returned := m.returned.drop (2 * q.toNat), reading := m.reading.filter (· ≠ 2 * q.toNat) })
    let c := u.ctx q.toNat
    c.sqState = qActive → p % 65536 < c.sqN → idxCount p c.sqCi c.sqN ≤ c.sqN →
    idxCount c.sqPiSeen c.sqCi c.sqN ≤ idxCount p c.sqCi c.sqN → p ≠ c.sqCi →
    let w := u.ctxPut q.toNat { c with sqPiSeen := p }
    exec (.sqPiReadReturn q) s = .next ((w.qmU (fun m => { m with
      scan := if m.scan.any (fun x => x.1 == q.toNat) then m.scan else m.scan ++ [(q.toNat, 0)] })).scanRead q.toNat)) ∧
  (∀ (s : State) (q : BitVec 20) (v : Nat), s.qm.returned.find (2 * q.toNat + 1) = some v →
    let ci := v % 2 ^ 17
    let u := s.qmU (fun m => { m with
      returned := m.returned.drop (2 * q.toNat + 1), reading := m.reading.filter (· ≠ 2 * q.toNat + 1) })
    let c := u.ctx q.toNat
    c.cqState = qActive → ci % 65536 < c.cqN → idxCount c.cqPi ci c.cqN ≤ idxCount c.cqPi c.cqCiSeen c.cqN →
    let w := (u.ctxPut q.toNat { c with cqCiSeen := ci }).spillDrain q.toNat c.ovfCnt
    exec (.cqCiReadReturn q) s = .next
      (((if c.ovfCnt ≠ (w.ctx q.toNat).ovfCnt then w.cqShadow q.toNat else w).cqHeld q.toNat).deleteStep q.toNat)) ∧
  (∀ (s : State) (q : BitVec 20) (i : Nat) (l : HcLine), s.mayTake = true →
    let c := s.ctx q.toNat
    c.sqState = qActive → c.sqCi ≠ c.sqPiSeen → s.qm.scan.any (fun x => x.1 == q.toNat) = true →
    s.cm.table.length < 32768 → (s.ctx c.cqid).rsv < (s.ctx c.cqid).free →
    s.hcFind (c.lineOf (c.sqCi % 65536)) = some (i, l) → l.state = 2 →
    bitOf l.owned ((c.sqBase + 64 * (c.sqCi % 65536)) / 64 % 2) = 1 →
    exec (.entryTaken q) s = .next (s.take q.toNat i l)) ∧
  (∀ (s : State) (id : Nat) (shadow : Bool), s.cm.actEnded.contains id = false → s.is QM_HALT_HALTED = false →
    (s.cmd id).status.isSome = true → (s.cmd id).placed = false → s.owed id = false →
    exec (.completionWrite id shadow) s = .next (s.cqPut id shadow)) ∧
  (∀ (s : State) (q : BitVec 20), (s.cqr q.toNat).timer = true → s.is QM_HALT_HALTED = false →
    exec (.interruptTimer q) s = .next (s.irq q.toNat))

/-- With QM_Q_CMD.BUSY clear: QM_READ shows the selected context and leaves ERR 0; not halted and with QID 0 selected,
QM_CREATE of two DISABLED queues creates the staged context where its checks pass, and QM_DELETE in MAINT takes the
pair to DELETING; QM_RECOVER of a pair with a queue in ERROR, neither of them for an uncorrectable context, sets BUSY,
records which indices are to be read again, and reads the CQ's first. QM_RECOVER_DONE applies the index read, or its
failure. HALT_PARK, 2 s after a halt in SERVICE, sets PARKED, takes the device to the second idle level, unloads every
actuator and powers the channels down. Choices of the model that it rests on: notes/assumptions 2, 3, 7, 55 and 82. -/
def Obligations.QueueRegisterCommandsComplete : Prop :=
  (∀ (s : State), s.is QM_Q_CMD_BUSY = false →
    exec .qmRead s = .next ((s.ctxShow (s.ctx (s.g QM_Q_SEL_QID)).bits).qErr 0)) ∧
  (∀ (s : State), s.is QM_Q_CMD_BUSY = false → s.is QM_HALT_HALTED = false → s.g QM_Q_SEL_QID = 0 →
    (s.ctx 0).sqState = qDisabled → (s.ctx 0).cqState = qDisabled →
    let c := { QmCtx.ofBits s.ctxStaged with cqid := 0 }
    s.ctxCheck 0 c = 0 →
    exec .qmCreate s = .next ((s.ctxCreate 0 c).qErr 0)) ∧
  (∀ (s : State), s.is QM_Q_CMD_BUSY = false → s.is QM_HALT_HALTED = false →
    let q := s.g QM_Q_SEL_QID
    let c := s.ctx q
    c.cqState = qError → c.sqErr ≠ 5 → c.cqErr ≠ 3 →
    exec .qmRecover s = .next ((((s.qErr 0).on QM_Q_CMD_BUSY).qmU (fun m => { m with
      recover := 1 + 2 * b2n (decide (c.sqState = qError)) })).sendRead c.cqCiAddr 4 (.recCq q))) ∧
  (∀ (s : State), s.is QM_Q_CMD_BUSY = false → s.is QM_HALT_HALTED = false →
    let q := s.g QM_Q_SEL_QID
    let c := s.ctx q
    c.cqState ≠ qError → c.sqState = qError → c.sqErr ≠ 5 → c.cqErr ≠ 3 →
    let u := ((s.qErr 0).on QM_Q_CMD_BUSY).qmU (fun m => { m with recover := 2 })
    exec .qmRecover s = .next (if (u.ctx (u.ctx q).cqid).cqState = qActive then u.sendRead (u.ctx q).sqPiAddr 4 (.recSq q)
      else ((u.qmU (fun m => { m with recover := 0 })).p QM_Q_CMD_ERR 3).off QM_Q_CMD_BUSY)) ∧
  (∀ (s : State) (v : Nat), s.is QM_Q_CMD_BUSY = true →
    let cq := decide (bitOf s.qm.recover 0 = 1)
    s.qm.returned.find (2 ^ 22 + b2n cq) = some v →
    exec .qmRecoverDone s = .next ((s.qmU (fun m => { m with returned := m.returned.drop (2 ^ 22 + b2n cq) })).recovered
      (s.g QM_Q_SEL_QID) cq (if v ≥ 2 ^ 32 then none else some v))) ∧
  (∀ (s : State), s.is QM_Q_CMD_BUSY = false → s.is QM_HALT_HALTED = false → s.mode = mMaint → s.g QM_Q_SEL_QID = 0 →
    exec .qmDelete s = .next (((s.deleteStart 0).deleteStep 0).qErr 0)) ∧
  (∀ (s : State), s.is QM_HALT_HALTED = true → s.qm.parkArmed = true → s.mode = mService →
    let u := ((s.on QM_HALT_PARKED).qmU (fun m => { m with parkArmed := false })).p MD_IDLE_STAT_LEVEL 2
    let w := (u.off MD_IDLE_STAT_STEPPING).mdU (fun m => { m with haltHold := true, exiting := false, gotoRest := false })
    exec .haltPark s = .next (State.each (upTo 8) (fun a t => t.unloadAct a ucIdle) w.chansDown))

/-- With LK ON, a response that names an outstanding transaction ends it: READ_CPL hands its data to the requester of a
read; WRITE_RSP ends a WRITE of the merging buffer, which confirms a CQ entry of requester 1, or of a DMA channel;
ERROR_RSP fails the transaction, status 4 being a translation fault. A response for a transaction whose timeout was
granted is discarded and counted late, and one that names none is discarded and counted a duplicate.
LINK_TRANSACTION_TIMEOUT of a transaction that was sent and not granted, the timers not held, marks it granted and
fails it. MERGE_HOLD_EXPIRY issues the oldest entry not issued, one of requester 1 only while the command side is not
halted, or deals with its uncorrectable error. Choices of the model that it rests on: notes/assumptions 2, 3, 7, 59 to
62, 81, 83 and 107. -/
def Obligations.LinkTransactionCommandsComplete : Prop :=
  (∀ (s : State) (tag : BitVec 16) (data : BitVec 32768) (t : Txn), s.lkOn = true →
    s.txnOf tag.toNat (some false) = some t → t.granted = false →
    exec (.readCplReceive tag data) s = .next ((s.txnDrop t).readData t.req data.toNat)) ∧
  (∀ (s : State) (tag : BitVec 16) (t : Txn) (id : Nat), s.lkOn = true →
    s.txnOf tag.toNat (some true) = some t → t.granted = false → t.req = .wb id →
    let u := s.txnDrop t
    exec (.writeRspReceive tag) s = .next ((if u.wbReq id = 1 then u.wbOk t.addr t.len else u).wbFrame id)) ∧
  (∀ (s : State) (tag : BitVec 16) (t : Txn) (n off len : Nat), s.lkOn = true →
    s.txnOf tag.toNat (some true) = some t → t.granted = false → t.req = .dma n off len →
    exec (.writeRspReceive tag) s = .next ((s.txnDrop t).dmaRsp n off len 0 true)) ∧
  (∀ (s : State) (tag : BitVec 16) (status : BitVec 8) (t : Txn), s.lkOn = true →
    s.txnOf tag.toNat none = some t → t.granted = false →
    exec (.errorRspReceive tag status) s = .next ((s.txnDrop t).txnFail t (decide (status = 4)) false)) ∧
  (∀ (s : State) (tag : BitVec 16) (data : BitVec 32768) (t : Txn), s.lkOn = true →
    s.txnOf tag.toNat (some false) = some t → t.granted = true →
    exec (.readCplReceive tag data) s = .next (((s.txnDrop t).sat LK_LATE_CNT_COUNT 1).note LK_STAT_RSP_LATE 0x0905 4 0)) ∧
  (∀ (s : State) (tag : BitVec 16) (data : BitVec 32768), s.lkOn = true → s.txnOf tag.toNat (some false) = none →
    exec (.readCplReceive tag data) s = .next (s.sat LK_DUP_CNT_COUNT 1)) ∧
  (∀ (s : State) (tag : BitVec 16) (t : Txn), s.txnOf tag.toNat none = some t → t.granted = false → s.unsent t = false →
    s.timersHeld = false →
    exec (.linkTransactionTimeout tag) s = .next ((s.lkU (fun l => { l with
      txns := l.txns.map (fun (x : Txn) => if x = t then { t with granted := true } else x) })).txnFail t false true)) ∧
  (∀ (s : State) (ue : Bool) (e : WbEntry), s.hc.wb.find? (fun e => !e.issued && !s.wbHeld e) = some e →
    exec (.mergeHoldExpiry ue) s = .next (if ue then s.wbUe e else s.wbIssueOne e))

/-- On an UP port: a BLOCK whose errors are within what its rate corrects, with the BSEQ expected after descrambling, room
in the lane FIFOs and credits for its flits, advances BSEQ, owes the credits of its flits, acknowledges up to ACKSEQ
and sends what may go; an LCF adds its credits, and with a NAK replays; REPLAY_TIMEOUT replays. On a TRAINING port:
with the switches not passing, PORT_SIGNAL_DETECT starts the trial of the lower of the two highest rates;
RATE_TRIAL_DONE keeps the lanes that locked and did not fail, or goes one rate lower, or below the lowest finds no
rate; PORT_TRAINED with a skew within 64 ns, a common version, not major 1 at 56 Gb/s, and lanes both ends locked
brings the port UP, on at most four lanes where a 1.x hop lacks one. RETRAIN_W and RETRAIN_E train the ports again.
TAP_TRAINING_DONE opens the pass switches and trains both ports; LK_SHUTDOWN_DRAIN closes them once nothing is
unacknowledged and nothing but own new frames waits. LANE_LOCK_LOSS and LANE_FAIL mark a lane of the port, the latter
retraining without it. PORT_DOWN takes a dead port down, wraps the loop and sends again, answers or drops what it
held; PORT_RETRY trains it again. Choices of the model that it rests on: notes/assumptions 2, 3, 7, 59 to 62, 81, 83,
104 and 107. -/
def Obligations.LinkPortCommandsComplete : Prop :=
  (∀ (s : State) (p : Fin 2) (bits : BitVec 5140) (errs : Fin 545) (drained : Nat),
    let x := s.port p.val
    let rate := s.g (LK_PORT_STAT_RATE p.val)
    let d := descramBlock bits.toNat x.dsc
    let fill := x.fifo + laneBytes rate (s.g (LK_PORT_STAT_LANEMASK p.val)) - drained
    let r := x.flitsIn (s.hopV1 p.val) (d.1 / 2 ^ 20)
    s.g (LK_PORT_STAT_PSTATE p.val) = psUp → errs.val ≤ (if rate = 3 then 15 else 0) → d.1 % 1024 = x.rxNext → fill ≤ 512 → r.bare = false →
    exec (.blockReceive p bits errs drained) s = .next
      ((((if rate = 3 then s.sat (LK_FEC_CNT_COUNT p.val) errs.val else s).portUp p.val (fun (y : PortState) =>
        { y with dsc := d.2, fifo := min 512 fill })).portUp p.val (fun (y : PortState) =>
        ({ y with
          rxNext := (y.rxNext + 1) % 1024, naked := false, rxLeft := r.left, rxVc := r.vc, grant := r.grant,
          owed := (upTo 4).map (fun v => y.owed.getD v 0 + r.freed.getD v 0) }).ack (d.1 / 1024 % 1024))).portPump p.val)) ∧
  (∀ (s : State) (p : Fin 2) (cr0 cr1 cr2 cr3 : BitVec 16) (nak : Option (BitVec 10)), s.g (LK_PORT_STAT_PSTATE p.val) = psUp →
    let u := s.portUp p.val (fun x => { x with credits := (upTo 4).map (fun v =>
      x.credits.getD v 0 + [cr0.toNat, cr1.toNat, cr2.toNat, cr3.toNat].getD v 0) })
    exec (.lcfReceive p cr0 cr1 cr2 cr3 nak) s = .next ((if nak.isSome then u.blockReplay p.val else u).portPump p.val)) ∧
  (∀ (s : State) (p : Fin 2), s.g (LK_PORT_STAT_PSTATE p.val) = psUp →
    exec (.replayTimeout p) s = .next (s.blockReplay p.val)) ∧
  (∀ (s : State) (p : Fin 2) (partnerMax : Fin 4), s.is LK_CTL_PASS = false → s.switched = true →
    s.g (LK_PORT_STAT_PSTATE p.val) = psTraining → (s.port p.val).trial = 0 →
    exec (.portSignalDetect p partnerMax) s = .next (s.portUp p.val (fun x => { x with
      trial := min (s.maxRate p.val) (atLeast1 partnerMax.val), locked := 0, failed := 0 }))) ∧
  (∀ (s : State) (p : Fin 2) (lanes : BitVec 8), (s.port p.val).trial ≠ 0 → s.g (LK_PORT_STAT_PSTATE p.val) = psTraining →
    let ok := (lanes &&& ~~~ (BitVec.ofNat 8 (s.port p.val).failed)).toNat
    exec (.rateTrialDone p lanes) s = .next (if ok ≠ 0 then s.portUp p.val (fun y => { y with locked := ok })
      else if (s.port p.val).trial = 1 then s.portUp p.val (fun y => { y with trial := 0, locked := 0, noRate := true })
      else s.portUp p.val (fun y => { y with trial := y.trial - 1, locked := 0 }))) ∧
  (∀ (s : State) (p : Fin 2) (tag : Word) (v1 v2 : Option (Fin 16)) (lanes : BitVec 8) (next : BitVec 10)
    (cr0 cr1 cr2 cr3 : BitVec 16) (skew : Nat) (line : BitVec 58) (v : Nat), s.g (LK_PORT_STAT_PSTATE p.val) = psTraining → (s.port p.val).trial ≠ 0 →
    (s.port p.val).locked ≠ 0 → skew ≤ 64 → hopVersion v1 v2 (s.is (LK_PORT_CFG_ALLOW_V1 p.val)) = some v →
    (0x20 ≤ v ∨ (s.port p.val).trial ≠ 3) → narrow v (BitVec.ofNat 8 (s.port p.val).locked &&& lanes).toNat ≠ 0 →
    exec (.portTrained p tag v1 v2 lanes next cr0 cr1 cr2 cr3 skew line) s = .next
      (s.portComesUp p.val tag.toNat (narrow v (BitVec.ofNat 8 (s.port p.val).locked &&& lanes).toNat) v next.toNat
        [cr0.toNat, cr1.toNat, cr2.toNat, cr3.toNat] line.toNat)) ∧
  (∀ (s : State), exec .retrainW s = .next (s.retrain 0) ∧ exec .retrainE s = .next (s.retrain 1)) ∧
  (∀ (s : State), s.g LK_CTL_STATE = stStarting → s.is LK_CTL_PASS = true → s.switched = true →
    exec .tapTrainingDone s = .next (State.each (upTo 2) (fun p t =>
      (t.retrain p).portUp p (fun x => { x with seen := false })) (s.off LK_CTL_PASS))) ∧
  (∀ (s : State), s.g LK_CTL_STATE = stStopping →
    (upTo 2).all (fun p => (s.port p).unacked.isEmpty && (s.port p).out.all (·.originated)) = true →
    exec (.lkShutdownDrain false) s = .next s.passClose) ∧
  (∀ (s : State), s.g LK_CTL_STATE = stStopping → exec (.lkShutdownDrain true) s = .next s.passClose) ∧
  (∀ (s : State) (p : Fin 2) (lane : Fin 8) (loss : Bool), bitOf (s.g (LK_PORT_STAT_LANEMASK p.val)) lane.val = 1 →
    exec (.laneLockLoss p lane loss) s = .next (s.portUp p.val (fun x => { x with
      lost := if loss then setBit x.lost lane.val else clrBit x.lost lane.val }))) ∧
  (∀ (s : State) (p : Fin 2) (lane : Fin 8) (errors : Bool), bitOf (s.g (LK_PORT_STAT_LANEMASK p.val)) lane.val = 1 →
    (errors = true ∨ bitOf (s.port p.val).lost lane.val = 1) →
    exec (.laneFail p lane errors) s = .next (((s.fault LK_STAT_LANE_FAIL 4 0 0x0901 0).retrain p.val).portUp p.val
      (fun x => { x with trial := s.g (LK_PORT_STAT_RATE p.val), failed := setBit x.failed lane.val }))) ∧
  (∀ (s : State) (p : Fin 2), s.is LK_CTL_PASS = false → (s.port p.val).down = false → s.portDead p.val = true →
    let x := s.port p.val
    let u := (s.wr (LK_PORT_STAT p.val) 0).on LK_STAT_WRAPPED
    let r := u.resendList ((x.unacked.map (·.2)).filter (fun f => !f.transit))
    let w := ((u.portUp p.val (fun y => { y with
      out := [], unacked := [], txOld := 0, txNext := 0, down := true, trial := 0, noRate := false, resends := 0,
      lost := 0 })).dropResent r.2).fault LK_STAT_PORT_DOWN 4 1 0x0902 0
    exec (.portDown p) s = .next (State.each ((x.unacked.map (·.2) ++ x.out).filter (fun f => f.transit))
      (fun f t => t.stranded f)
      (State.each (r.1 ++ x.out.filter (fun f => !f.transit)) (fun f t => t.sendOn (1 - p.val)
        { f with dst := if f.request || f.kind = 5 then t.endAddr (1 - p.val) else f.dst }) w))) ∧
  (∀ (s : State) (p : Fin 2), (s.port p.val).down = true → s.g (LK_PORT_STAT_PSTATE p.val) = psDown →
    exec (.portRetry p) s = .next (s.retrain p.val))

/-- With LK ON, a frame with a good header check that is not for the device, with hops left, leaves by the other port with
one hop less, where that port is not down and, on a hop of version 1.x, the frame has a 1.x form. A frame for the
device is taken; in BOOT a request other than an enumeration or a configuration one is answered UNREACHABLE, and an
EVENT is refused. ENUM_RECEIVE takes the next number where the device has none, lowers the floor to its own lowest
version and passes the enumeration on. Choices of the model that it rests on: notes/assumptions 2, 3, 7, 59 to 62, 81,
83 and 107. -/
def Obligations.LinkRingCommandsComplete : Prop :=
  (∀ (s : State) (p : Fin 2) (kind : Fin 8) (dst src : BitVec 12) (vc : Fin 4) (hops : BitVec 8) (tag : BitVec 16)
    (len : Fin 4097) (addr : BitVec 64) (space : BitVec 8) (data : BitVec 32768) (code : BitVec 8),
    let f : OutFrame := {
      kind := kind.val, dst := dst.toNat, tag := tag.toNat, addr := addr.toNat, len := len.val, data := data.toNat,
      code := code.toNat, vc := vc.val, src := src.toNat, hops := hops.toNat - 1, space := space.toNat, transit := true }
    s.lkOn = true → (s.is LK_ID_VALID = false ∨ dst.toNat ≠ s.ownId) → 1 < hops.toNat → (s.port (1 - p.val)).down = false →
    (s.hopV1 (1 - p.val) = false ∨
      untranslatable len.val addr.toNat (dst.toNat / 64 % 32) space.toNat (kind.val == 6) = false) →
    exec (.frameForward p kind dst src vc hops tag len addr space data code true) s = .next (s.sendOn (1 - p.val) f)) ∧
  (∀ (s : State) (p : Fin 2) (loop : Fin 32) (next : Fin 64) (floor : BitVec 8), s.lkOn = true →
    s.is LK_ID_VALID = false →
    let fl := ((s.lowVer).map (fun v => min v floor.toNat)).getD floor.toNat
    exec (.enumReceive p loop next floor) s = .next ((((s.p LK_ID_ID (64 * loop.val + next.val)).on LK_ID_VALID).p
      LK_ID_FLOOR fl).sendOn (1 - p.val) {
        kind := 6, dst := 2048 + 64 * loop.val + (1 - p.val), tag := 0, addr := 0, len := 2,
        data := (next.val + 1) + 256 * fl, code := 0, vc := 0, space := 3, transit := true })) ∧
  (∀ (s : State) (p : Fin 2) (loop : Fin 32) (next : Fin 64) (floor : BitVec 8), s.lkOn = true →
    s.is LK_ID_VALID = true →
    let fl := ((s.lowVer).map (fun v => min v floor.toNat)).getD floor.toNat
    exec (.enumReceive p loop next floor) s = .next ((s.p LK_ID_FLOOR fl).sendOn (1 - p.val) {
        kind := 6, dst := 2048 + 64 * loop.val + (1 - p.val), tag := 0, addr := 0, len := 2,
        data := next.val + 256 * fl, code := 0, vc := 0, space := 3, transit := true }))

/-- Each operation of RB_CMD puts its argument in RB_CMD, acts, and shows ERR 0. RB_FAIL of a present member not FAILED,
where no enabled volume would break, declares it FAILED. RB_CLEAR in MAINT of a FAILED member no record lists and no
enabled volume has makes it UNAVAILABLE, and lets it in where no cause holds. RB_RESHAPE with RB ON, a volume ON and a
shadow slot OFF that passes the checks, no pass and no reshape, starts the reshape at mark 0. RB_PAUSE of a running
reshape asks for a pause at the next checkpoint; RB_RESUME of a paused one runs it again. RB_FT_CLEAR in MAINT drops
the volume's forfeit entries and thaws it. RB_FORGET of a volume OFF drops its record. Choices of the model that it
rests on: notes/assumptions 2, 3, 7, 52, 53, 57, 58 and 84. -/
def Obligations.RebuildOperationsComplete : Prop :=
  (∀ (s : State) (arg : Fin 128),
    let u := s.p RB_CMD_ARG arg.val
    arg.val < 96 → u.mem arg.val ≠ memAbsent → u.mem arg.val ≠ memFailed → u.wouldBreak arg.val = false →
    exec (.rbFail arg) s = .next ((u.rbDeclare arg.val).p RB_CMD_ERR 0)) ∧
  (∀ (s : State) (arg : Fin 128),
    let u := s.p RB_CMD_ARG arg.val
    u.mode = mMaint → arg.val < 96 → u.mem arg.val = memFailed →
    u.rb.ck.any (fun x => (upTo 4).any (fun i => bitsOf x.2.fail (8 * i) 7 == arg.val)) = false →
    (upTo 64).any (fun v => u.g (AR_VOL_CTL_STATE v) ≠ stOff && (u.geo v).set.contains arg.val) = false →
    let w := (((u.setMem arg.val memUnavailable).arU (fun a => { a with
      order := a.order.filter (· ≠ arg.val) ++ [arg.val], granted := a.granted.filter (· ≠ arg.val) })).note
      AR_STAT_MEMBER_UNAVAIL 0x0601 11 (pk [(arg.val, 7)])).devWrite
    exec (.rbClear arg) s = .next ((if (w.ar.causes.getD arg.val 0 = 0 && !w.heldFor arg.val) = true then w.memberIn arg.val
      else (if w.ar.causes.getD arg.val 0 = 0 then w.setMem arg.val memCatchup else w).spillCheck).p RB_CMD_ERR 0)) ∧
  (∀ (s : State) (arg : Fin 128) (shadow : Fin 64),
    let u := (s.p RB_CMD_ARG arg.val).p RB_CMD_SHADOW shadow.val
    let g := u.geo arg.val
    let h := u.geo shadow.val
    let meets := fun (x : Geo) => x.set.any (fun m => h.set.contains m) && decide (h.base < x.base + x.rows * x.sz) &&
      decide (x.base < h.base + h.rows * h.sz)
    u.rbOn = true → arg.val < 64 → u.volOn arg.val = true → u.g (AR_VOL_CTL_STATE shadow.val) = stOff →
    u.anyPass = false → u.g RB_RS_STAT_STATE = rsNone → u.volCheck shadow.val true = 0 →
    (upTo 64).any (fun x => x ≠ shadow.val && u.g (AR_VOL_CTL_STATE x) ≠ stOff && meets (u.geo x)) = false →
    meets g = false → g.cap ≤ h.cap → h.set.any (fun m => u.mem m == memFailed) = false →
    let w := (((u.p RB_RS_STAT_VOL arg.val).p RB_RS_STAT_SHADOW shadow.val).p RB_RS_STAT_STATE rsRun).setMark 0
    let x := ((w.off RB_RS_STAT_WINDOW).off RB_RS_STAT_ROUND).rbU (fun r => { r with
      moved := [], dirty := [], winHold := false, pausing := false })
    exec (.rbReshape arg shadow) s = .next ((x.ckPut arg.val (fun c => { c with
      reshape := true, paused := false, shadow := shadow.val, geomCrc := x.geomCrc arg.val,
      newCrc := x.geomCrc shadow.val, mark := 0 })).p RB_CMD_ERR 0)) ∧
  (∀ (s : State), s.rbOn = true → s.g RB_RS_STAT_STATE = rsRun →
    exec .rbPause s = .next ((s.rbU (fun r => { r with pausing := true })).p RB_CMD_ERR 0)) ∧
  (∀ (s : State), s.rbOn = true → s.g RB_RS_STAT_STATE = rsPaused →
    exec .rbResume s = .next (((s.p RB_RS_STAT_STATE rsRun).ckPut (s.g RB_RS_STAT_VOL)
      (fun c => { c with paused := false })).p RB_CMD_ERR 0)) ∧
  (∀ (s : State) (arg : Fin 128),
    let u := s.p RB_CMD_ARG arg.val
    u.mode = mMaint → arg.val < 64 →
    let w := u.rbU (fun r => { r with ft := r.ft.filter (fun x => x.2.vol ≠ arg.val) })
    let b := volBit RB_FROZEN_LO_VOLS RB_FROZEN_HI_VOLS arg.val
    exec (.rbFtClear arg) s = .next ((if w.frozen arg.val then
      (w.offBit b.1 b.2).ckPut arg.val (fun c => { c with frozen := false }) else w).p RB_CMD_ERR 0)) ∧
  (∀ (s : State) (arg : Fin 128),
    let u := s.p RB_CMD_ARG arg.val
    arg.val < 64 → u.g (AR_VOL_CTL_STATE arg.val) = stOff →
    exec (.rbForget arg) s = .next ((u.rbU (fun r => { r with ck := r.ck.drop arg.val })).p RB_CMD_ERR 0))

/-- SLOW_TIMEOUT of an AVAILABLE member with an operation whose timer runs declares it FAILED. REBUILD_ROW_DONE of an
active pass rebuilds the row at the cursor, counts its strips, advances the cursor, with a checkpoint each 64 rows,
and ends the pass after the last row. RESHAPE_STRIPE_MOVED of the next stripe of a running reshape, free and untouched
by DATA records, writes it in the new layout. RESHAPE_CHECKPOINT with the window full and its stripes written
checkpoints the marker, or with dirty stripes begins a round, after four of which the window's writes wait.
FT_DATA_READ reads a forfeit word and steps. BACKGROUND_WINDOW_END starts the accounting again. PARITY_JOB_DONE ends a
reconstruction or the submitted job. Choices of the model that it rests on: notes/assumptions 2, 3, 7, 52, 53, 57, 58
and 84. -/
def Obligations.RebuildWorkCommandsComplete : Prop :=
  (∀ (s : State) (member : Fin 96) (mba : BitVec 40),
    let mine := fun (t : SlowTimer) => t.member == member.val && t.mba == mba.toNat && !t.granted
    s.mem member.val = memAvailable → s.rb.slow.any mine = true → s.timersHeld = false →
    let u := s.rbU (fun r => { r with slow := r.slow.map (fun (t : SlowTimer) => if mine t then { t with granted := true } else t) })
    exec (.slowTimeout member mba) s = .next
      ((((u.declareFailed member.val false).sat RB_SLOW_CNT_COUNT 1).fault RB_STAT_SLOW_FAIL 12 0 0x0801 0).stripeCheck.careFrom s)) ∧
  (∀ (s : State) (v : Fin 64) (lost : List (Nat × Nat × Nat)) (cur : List (Nat × Block)),
    let n := v.val
    let g := s.geo n
    let row := s.g (RB_CURSOR_ROW n)
    s.g RB_CTL_STATE = stOn → s.rbActive n = true → s.volOn n = true →
    (upTo g.q).any (fun i => s.rb.claims.contains (n, row * g.q + i)) = false → row < g.rows →
    let a := State.each (upTo g.q) (fun i t => t.rowStripe n (row * g.q + i)
      ((lost.filter (fun x => x.1 == row * g.q + i)).map (·.2)) (cur.map (fun x => (x.1, x.2.toNat)))) s
    let b := (a.p RB_STRIP_CNT_COUNT (a.g RB_STRIP_CNT_COUNT + a.rowStrips n row)).p (RB_CURSOR_ROW n) (row + 1)
    let k := b.rb.since.getD n 0 + 1
    let c := if k ≥ 64 then (b.rbU (fun r => { r with since := r.since.putD n 0 0 })).ckPut n (fun c => { c with cursor := row + 1 })
      else b.rbU (fun r => { r with since := r.since.putD n 0 k })
    exec (.rebuildRowDone v lost cur none) s = .next (if row + 1 ≥ g.rows then c.passEnd n else c)) ∧
  (∀ (s : State) (v : Fin 64) (m : Fin 96),
    let g := s.geo v.val
    let row := s.g (RB_CURSOR_ROW v.val)
    s.g RB_CTL_STATE = stOn → s.rbActive v.val = true → s.volOn v.val = true →
    (upTo g.q).any (fun i => s.rb.claims.contains (v.val, row * g.q + i)) = false →
    (s.spares v.val g row).any (fun x => x.2.1 == m.val) = true →
    exec (.rebuildRowDone v [] [] (some m)) s = .next (s.rbDeclare m.val)) ∧
  (∀ (s : State) (stripe : BitVec 40) (cur : List (Nat × Block)),
    let v := s.g RB_RS_STAT_VOL
    let w := s.g RB_RS_STAT_SHADOW
    let g := s.geo w
    let n := stripe.toNat
    let bs := (upTo (g.k * g.sz)).map (fun i => n * (g.k * g.sz) + i)
    s.g RB_CTL_STATE = stOn → s.g RB_RS_STAT_STATE = rsRun → n = s.rsNext → n < s.rsCount → s.rb.moved.length < 64 →
    s.jn.recs.any (fun r => r.typ == tData && !r.retired && bs.any (fun b => r.holds v b)) = false →
    s.rb.claims.contains (w, n) = false →
    let given := bs.filterMap (fun b => if b ≥ s.volCap v || s.ftHas v b then some (b, 0)
      else (cur.find? (fun x => x.1 == b)).map (fun x => (b, x.2.toNat)))
    let u := (s.stripeStart w n 0 (g.sz - 1) given 4).rbU (fun r => { r with
      moved := if r.moved.contains n then r.moved else r.moved ++ [n], dirty := r.dirty.filter (· ≠ n) })
    exec (.reshapeStripeMoved stripe cur) s = .next (u.p RB_RS_STAT_WINDOW u.rb.moved.length)) ∧
  (∀ (s : State),
    let w := s.g RB_RS_STAT_SHADOW
    s.g RB_RS_STAT_STATE = rsRun → s.g RB_CTL_STATE = stOn → (s.rb.moved.length = 64 ∨ s.rsCount ≤ s.rsNext) →
    (s.ar.stripes.any (fun x => x.vol == w && !s.stripeHeld x) || s.jn.waiting.any (fun r => r.typ == tStripe && r.vol == w)) = false →
    exec .reshapeCheckpoint s = .next (if s.rb.dirty.isEmpty then s.rsCheckpoint
      else if s.g RB_RS_STAT_ROUND ≥ 4 then (s.p RB_RS_STAT_ROUND (min 4 (s.g RB_RS_STAT_ROUND + 1))).rbU (fun x => { x with winHold := true })
      else s.p RB_RS_STAT_ROUND (min 4 (s.g RB_RS_STAT_ROUND + 1)))) ∧
  (∀ (s : State),
    let i := s.g RB_FT_ADDR_INDEX
    let w := s.g RB_FT_ADDR_WORD
    let u := ({ s with rdata := BitVec.ofNat 32 (bitsOf (s.ftBits i) (32 * w) 32) }).p RB_FT_ADDR_WORD (w + 1)
    exec .ftDataRead s = .next (if w = 3 then u.p RB_FT_ADDR_INDEX (i + 1) else u)) ∧
  (∀ (s : State), exec .backgroundWindowEnd s = .next (s.rbU (fun r => { r with usedN := [], usedP := [] }))) ∧
  (∀ (s : State) (i : Fin 65536) (r : Recon), s.cm.recons[i.val]? = some r →
    exec (.parityJobDone (some i)) s = .next ((s.reconDone r).chanSweep)) ∧
  (∀ (s : State), exec (.parityJobDone none) s = .next s.peDone)

/-- An aligned access from a control core while the core is powered, or over the link with LK ON (in BOOT only a read of
an MD_ or BT_ register), writes or reads the register. A CONTROL_WRITE_FRAME that LK hears, with a good check, not a
repeat of a saved request, outside BOOT, 32 bits wide and aligned, writes its register and answers WRITE_RSP where it
asked for a response; a CONTROL_READ_FRAME reads and answers READ_CPL with the value. A READ of the doorbell window
outside BOOT answers zeros. A misaligned access answers ERROR_RSP status 3, one that BOOT does not take status 1, a
repeat the response saved, and a frame whose check fails is discarded and counted. Choices of the model that it rests
on: notes/assumptions 2, 3, 7, 8, 18, 19, 30, 31, 76, 96 and 97. -/
def Obligations.WindowCommandsComplete : Prop :=
  (∀ (s : State) (addr : BitVec 24) (value : Word) (core : Bool) (sets : Word), addr.toNat % 4 = 0 →
    s.mode ≠ mOff → s.mode ≠ mRest → (core = true ∨ (s.g LK_CTL_STATE = stOn ∧ s.mode ≠ mBoot)) →
    exec (.registerWrite addr value core sets) s = .next (s.ctlWrite addr.toNat value.toNat sets.toNat)) ∧
  (∀ (s : State) (addr : BitVec 24) (core : Bool) (adds : Word), addr.toNat % 4 = 0 → s.mode ≠ mOff → s.mode ≠ mRest →
    (core = true ∨ (s.g LK_CTL_STATE = stOn ∧ (s.mode ≠ mBoot ∨ addr.toNat < PW_STAT))) →
    exec (.rcRegisterRead addr core adds) s = .next (s.ctlRead addr.toNat adds.toNat)) ∧
  (∀ (s : State) (src : BitVec 12) (tag : BitVec 16) (addr : BitVec 64) (data : Word) (rspReq : Bool) (sets : Word),
    s.g LK_CTL_STATE = stOn → s.is LK_ID_VALID = true → s.saved src.toNat tag.toNat = none → s.mode ≠ mBoot →
    addr.toNat % 4 = 0 → addr.toNat < 2 ^ 24 →
    exec (.controlWriteFrame src tag addr 4 data rspReq true sets) s = .next
      ((s.ctlWrite addr.toNat data.toNat sets.toNat).answer src.toNat tag.toNat (if rspReq then some {
        kind := 3, dst := src.toNat, tag := tag.toNat, addr := 0, len := 0, data := 0, code := 0 } else none))) ∧
  (∀ (s : State) (src : BitVec 12) (tag : BitVec 16) (addr : BitVec 64) (adds : Word), s.g LK_CTL_STATE = stOn →
    s.is LK_ID_VALID = true → s.saved src.toNat tag.toNat = none → (s.mode ≠ mBoot ∨ addr.toNat < PW_STAT) →
    addr.toNat % 4 = 0 → addr.toNat < 2 ^ 24 →
    let u := s.ctlRead addr.toNat adds.toNat
    exec (.controlReadFrame src tag addr 4 false true adds) s = .next (u.answer src.toNat tag.toNat (some {
      kind := 2, dst := src.toNat, tag := tag.toNat, addr := 0, len := 4, data := u.rdata.toNat, code := 0, vc := 0 }))) ∧
  (∀ (s : State) (src : BitVec 12) (tag : BitVec 16) (addr : BitVec 64) (len : Fin 4097) (adds : Word),
    s.g LK_CTL_STATE = stOn → s.is LK_ID_VALID = true → s.mode ≠ mBoot →
    exec (.controlReadFrame src tag addr len true true adds) s = .next (s.respond {
      kind := 2, dst := src.toNat, tag := tag.toNat, addr := 0, len := len.val, data := 0, code := 0, vc := 2 })) ∧
  (∀ (s : State) (src : BitVec 12) (tag : BitVec 16) (addr : BitVec 64) (len : Fin 4097) (data : Word) (rspReq : Bool)
    (sets : Word), s.g LK_CTL_STATE = stOn → s.is LK_ID_VALID = true → s.saved src.toNat tag.toNat = none →
    s.mode ≠ mBoot → (len.val ≠ 4 ∨ addr.toNat % 4 ≠ 0) →
    exec (.controlWriteFrame src tag addr len data rspReq true sets) s = .next (s.answer src.toNat tag.toNat (some {
        kind := 4, dst := src.toNat, tag := tag.toNat, addr := 0, len := 0, data := 0, code := 3 }))) ∧
  (∀ (s : State) (src : BitVec 12) (tag : BitVec 16) (addr : BitVec 64) (len : Fin 4097) (data : Word) (rspReq : Bool)
    (sets : Word), s.g LK_CTL_STATE = stOn → s.is LK_ID_VALID = true → s.saved src.toNat tag.toNat = none →
    s.mode = mBoot →
    exec (.controlWriteFrame src tag addr len data rspReq true sets) s = .next (s.answer src.toNat tag.toNat (some {
        kind := 4, dst := src.toNat, tag := tag.toNat, addr := 0, len := 0, data := 0, code := 1 }))) ∧
  (∀ (s : State) (src : BitVec 12) (tag : BitVec 16) (addr : BitVec 64) (len : Fin 4097) (data : Word) (rspReq : Bool)
    (sets : Word) (f : OutFrame), s.g LK_CTL_STATE = stOn → s.is LK_ID_VALID = true →
    s.saved src.toNat tag.toNat = some (some f) →
    exec (.controlWriteFrame src tag addr len data rspReq true sets) s = .next (s.respond f)) ∧
  (∀ (s : State) (src : BitVec 12) (tag : BitVec 16) (addr : BitVec 64) (len : Fin 4097) (data : Word) (rspReq : Bool)
    (sets : Word), s.g LK_CTL_STATE = stOn → s.is LK_ID_VALID = true →
    exec (.controlWriteFrame src tag addr len data rspReq false sets) s = .next s.fcrcBad)

/-- POWER_ON in OFF of an unpowered module with a feed and a chain powers it, with every register at reset, one power
cycle more, a partner tag drawn and no hardware table, and enters BOOT unless RESET_N is low; with no chain PM holds.
RESET_PIN low on a powered module resets the device, which stays in OFF; RESET_PIN high then enters BOOT.
DEVICE_RESET, after the pulse and the record of the reset are complete, resets the device. POWER_DOWN_COMPLETE during
a power-fail makes the commit durable, writes the superblock and the event records, notes an orderly end and leaves
the module dark. Choices of the model that it rests on: notes/assumptions 2, 3, 7, 8, 18, 19, 30, 31, 76, 96 and 97. -/
def Obligations.PackageCommandsComplete : Prop :=
  (∀ (s : State) (feedA feedB chainA chainB : Bool), s.mode = mOff → s.pw.powered = false →
    (feedA || feedB) = true → (chainA || chainB) = true →
    let a := s.pwU (fun p => {
      lostA := !feedA, lostB := !feedB, passAt := p.passAt, orderly := p.orderly, powered := true, startedB := !chainA,
      fromReset := false })
    let r := ((a.dark false).sat EV_PCYC_COUNT 1).free
    let u := ((r.2.lkU (fun l => { l with ownTag := r.1 % 2 ^ 32 })).btU (fun b => { b with reports := 0 })).dmU
      (fun d => { d with hwt := [] })
    exec (.powerOn feedA feedB chainA chainB) s = .next (if s.ft.resetLow then u else u.boot)) ∧
  (∀ (s : State) (feedA feedB : Bool), s.mode = mOff → s.pw.powered = false → (feedA || feedB) = true →
    exec (.powerOn feedA feedB false false) s = .next (s.ftU (fun f => { f with pmHold := true }))) ∧
  (∀ (s : State), s.pw.powered = true →
    exec (.resetPin true) s = .next (s.ftU (fun f => { f with resetLow := true })).deviceReset) ∧
  (∀ (s : State), s.pw.powered = false →
    exec (.resetPin true) s = .next (s.ftU (fun f => { f with resetLow := true }))) ∧
  (∀ (s : State), s.pw.powered = true → s.ft.resetLow = true →
    exec (.resetPin false) s = .next (s.ftU (fun f => { f with resetLow := false })).boot) ∧
  (∀ (s : State), s.ft.resetOf.isSome = true → s.ft.pulse = false →
    s.ev.queue.all (fun r => decide (r.code ≠ 0x0104)) = true → exec .deviceReset s = .next s.deviceReset) ∧
  (∀ (s : State) (c : JRec), s.pw.powerFail = true → s.g JN_CTL_STATE = stOn → s.anyDie = true → s.jn.commit = some c →
    exec .powerDownComplete s = .next
      ((((s.durable c).sbWrite).flushEvents.pwU (fun p => { p with orderly := true, powered := false })).dark true)) ∧
  (∀ (s : State), s.pw.powerFail = true → s.g JN_CTL_STATE = stOn → s.jn.commit = none →
    exec .powerDownComplete s = .next
      ((s.sbWrite.flushEvents.pwU (fun p => { p with orderly := true, powered := false })).dark true))

/-- For a taken command of the opcode that may run: READ, READ_STREAM and VERIFY, with no earlier conflicting command, a
full reference or a frozen volume in the way, start the command, look every block up, wait for the medium where blocks
are left, and (but for VERIFY) let read-ahead see it; WRITE and DEALLOCATE start to gather their data from the host;
WRITE_ZEROES journals its range without data; FLUSH and FLUSH_DONE complete with RESULT once every record covered is
on the medium. A READ first notes what reading the JD dies met. Choices of the model that it rests on:
notes/assumptions 2, 3, 7, 54, 55, 63, 64, 71, 85 and 91. -/
def Obligations.IoOpcodesComplete : Prop :=
  (∀ (s : State) (id ce : Nat) (lost : List (Nat × Bool)) (c : Cmd),
    let u := s.jdRead ce lost
    u.ready id 1 = some c → c.opc = 1 → u.blocked c = false → u.refFull c.vol c.block c.nblk = false → u.frozen c.vol = false →
    let a := u.cmdUp c.id (fun x => { x with started := true, left := c.nblk })
    let b := (State.each (upTo c.nblk) (fun i t => t.lookBlock c.id i) a).cmdUp c.id
      (fun x => { x with medium := decide (x.left > 0) && x.status.isNone })
    exec (.read id ce lost) s = .next (b.readAhead c).chanSweep) ∧
  (∀ (s : State) (id : Nat) (c : Cmd), s.ready id 3 = some c → c.opc = 3 → s.blocked c = false →
    s.refFull c.vol c.block c.nblk = false → s.frozen c.vol = false →
    let a := s.cmdUp c.id (fun x => { x with started := true, left := c.nblk })
    let b := (State.each (upTo c.nblk) (fun i t => t.lookBlock c.id i) a).cmdUp c.id
      (fun x => { x with medium := decide (x.left > 0) && x.status.isNone })
    exec (.readStream id) s = .next (b.readAhead c).chanSweep) ∧
  (∀ (s : State) (id : Nat) (c : Cmd), s.ready id 5 = some c → c.opc = 5 → s.blocked c = false →
    s.refFull c.vol c.block c.nblk = false → s.frozen c.vol = false →
    let a := s.cmdUp c.id (fun x => { x with started := true, left := c.nblk })
    let b := (State.each (upTo c.nblk) (fun i t => t.lookBlock c.id i) a).cmdUp c.id
      (fun x => { x with medium := decide (x.left > 0) && x.status.isNone })
    exec (.verify id) s = .next b.chanSweep) ∧
  (∀ (s : State) (id : Nat) (c : Cmd), s.ready id 2 = some c → c.want false ≠ 0 →
    exec (.write id) s = .next ((s.cmdUp c.id (fun x => { x with started := true, buf := 0, have_ := 0 })).xferStart c.id false)) ∧
  (∀ (s : State) (id : Nat) (c : Cmd), s.ready id 6 = some c → c.want false ≠ 0 →
    exec (.deallocate id) s = .next
      ((s.cmdUp c.id (fun x => { x with started := true, buf := 0, have_ := 0 })).xferStart c.id false)) ∧
  (∀ (s : State) (id : Nat) (c : Cmd), s.ready id 7 = some c →
    exec (.writeZeroes id) s = .next ((s.start id).journal id [(c.block, c.nblk)] none)) ∧
  (∀ (s : State) (id : Nat) (c : Cmd), s.ready id 4 = some c →
    let u := s.start id
    let l := c.cover.map (fun j => u.covered j)
    exec (.flush id) s = .next (if l.all (·.1) then u.complete c.id 0 (b2n (l.any (·.2))) else u)) ∧
  (∀ (s : State) (id : Nat), (s.cmd id).opc = 4 → (s.cmd id).started = true → (s.cmd id).status = none →
    let l := (s.cmd id).cover.map (fun j => s.covered j)
    exec (.flushDone id) s = .next (if l.all (·.1) then s.complete (s.cmd id).id 0 (b2n (l.any (·.2))) else s))

/-- For a taken command of the opcode that may run: VOL_DEFINE and PATTERN_LOAD gather their data; VOL_ENABLE and
VOL_DISABLE act as the volume's EN does and wait for the volume; MEMBER_FAIL, MEMBER_CLEAR, RESHAPE, RESHAPE_RESUME,
FORFEIT_CLEAR and VOL_FORGET do the operation of RB_CMD and complete with success, or with 0x030A and its ERR;
RESHAPE_PAUSE waits for the checkpoint. Choices of the model that it rests on: notes/assumptions 2, 3, 7, 54, 55, 63,
64, 71 and 91. -/
def Obligations.VolumeOpcodesComplete : Prop :=
  (∀ (s : State) (id : Nat) (c : Cmd), s.ready id 0x40 = some c →
    exec (.volDefine id) s = .next (s.fetch c)) ∧
  (∀ (s : State) (id : Nat) (c : Cmd), s.ready id 0x43 = some c →
    exec (.patternLoad id) s = .next (s.fetch c)) ∧
  (∀ (s : State) (id : Nat) (c : Cmd) (v : Fin 64), s.ready id 0x41 = some c → c.p0 % 64 = v.val →
    exec (.volEnable id) s = .next ((((s.start id).cmU (fun m => { m with
      admin := m.admin ++ [(id, 0x41)] })).enableFn (.vol v)).volWaits v.val)) ∧
  (∀ (s : State) (id : Nat) (c : Cmd) (v : Fin 64), s.ready id 0x42 = some c → c.p0 % 64 = v.val →
    exec (.volDisable id) s = .next ((((s.start id).cmU (fun m => { m with
      admin := m.admin ++ [(id, 0x42)] })).disableFn (.vol v)).volWaits v.val)) ∧
  (∀ (s : State) (id : Nat) (c : Cmd), s.ready id 0x44 = some c →
    let r := (s.start id).rbFail (c.p0 % 128)
    exec (.memberFail id) s = .next (if r.1 = 0 then r.2.complete id 0 0 else r.2.complete id 0x030A r.1)) ∧
  (∀ (s : State) (id : Nat) (c : Cmd), s.ready id 0x45 = some c →
    let r := (s.start id).rbClear (c.p0 % 128)
    exec (.memberClear id) s = .next (if r.1 = 0 then r.2.complete id 0 0 else r.2.complete id 0x030A r.1)) ∧
  (∀ (s : State) (id : Nat) (c : Cmd), s.ready id 0x46 = some c →
    let r := (s.start id).rbReshape (c.p0 % 64) (bitsOf c.p0 8 6)
    exec (.reshape id) s = .next (if r.1 = 0 then r.2.complete id 0 0 else r.2.complete id 0x030A r.1)) ∧
  (∀ (s : State) (id : Nat) (c : Cmd), s.ready id 0x47 = some c → (s.start id).rbOn = true →
    (s.start id).g RB_RS_STAT_STATE = rsRun →
    exec (.reshapePause id) s = .next (((s.start id).rbU (fun r => { r with pausing := true })).cmU (fun m => { m with
      admin := m.admin ++ [(id, 0x47)] }))) ∧
  (∀ (s : State) (id : Nat) (c : Cmd), s.ready id 0x48 = some c →
    let r := (s.start id).rbResume
    exec (.reshapeResume id) s = .next (if r.1 = 0 then r.2.complete id 0 0 else r.2.complete id 0x030A r.1)) ∧
  (∀ (s : State) (id : Nat) (c : Cmd), s.ready id 0x49 = some c →
    let r := (s.start id).rbFtClear (c.p0 % 64)
    exec (.forfeitClear id) s = .next (if r.1 = 0 then r.2.complete id 0 0 else r.2.complete id 0x030A r.1)) ∧
  (∀ (s : State) (id : Nat) (c : Cmd), s.ready id 0x4A = some c →
    let r := (s.start id).rbForget (c.p0 % 64)
    exec (.volForget id) s = .next (if r.1 = 0 then r.2.complete id 0 0 else r.2.complete id 0x030A r.1))

/-- For a taken command of the opcode that may run: IDENTIFY and GET_LOG give the host their data; QUEUE_CREATE of a QID
other than 0, FW_STAGE, ATTEST, and in MAINT KEY_ENROLL and MICRO_LOAD within the store, gather their data;
QUEUE_DELETE of a pair whose CQ no other live pair uses takes it to DELETING, and QUEUE_DELETE_DONE completes it once
DISABLED; SET_FEATURE writes and GET_FEATURE reads the feature's register; FW_ACTIVATE of a slot that passes its
checks begins the drain; ABORT completes with 1 where no such command is in flight, with 2 where it is past its point
of no return, and else ends it with 0x0006. ATTEST_DONE signs the oldest report and gives it. Choices of the model
that it rests on: notes/assumptions 2, 3, 7, 54, 55, 63, 64, 71 and 91. -/
def Obligations.DeviceOpcodesComplete : Prop :=
  (∀ (s : State) (id : Nat) (c : Cmd), s.ready id 0x80 = some c → exec (.identify id) s = .next (s.give id s.identify 0)) ∧
  (∀ (s : State) (id : Nat) (c : Cmd), s.ready id 0x81 = some c → c.p0 ≠ 0 → exec (.queueCreate id) s = .next (s.fetch c)) ∧
  (∀ (s : State) (id : Nat) (c : Cmd), s.ready id 0x82 = some c →
    let q := c.p0 % 2 ^ 20
    q ≠ 0 → s.qm.live.any (fun x => x ≠ q && (s.ctx x).cqid = q && (s.ctx x).sqState ≠ qDisabled) = false →
    exec (.queueDelete id) s = .next (((((s.ctxLoad q).2.start id).cmU (fun m => { m with
      admin := m.admin ++ [(id, 0x82)] })).deleteStart q).deleteCheck id q)) ∧
  (∀ (s : State) (id : Nat), s.cm.admin.contains (id, 0x82) = true →
    let q := (s.cmd id).p0 % 2 ^ 20
    let u := s.deleteStep q
    exec (.queueDeleteDone id) s = .next (if (u.ctx q).sqState = qDisabled && (u.ctx q).cqState = qDisabled then
      (u.cmU (fun m => { m with admin := m.admin.filter (fun y => y.1 ≠ id) })).complete id 0 0 else u)) ∧
  (∀ (s : State) (id n d : Nat) (c : Cmd), s.ready id 0x83 = some c → s.log (c.p0 % 256) = some (n, d) →
    exec (.getLog id) s = .next (s.give id (d % 2 ^ (8 * n) / 2 ^ (8 * c.p1) % 2 ^ (8 * c.dlen)) n)) ∧
  (∀ (s : State) (id a : Nat) (c : Cmd), s.ready id 0x84 = some c → featureReg (c.p0 % 256) = some a →
    let t := s.plainWrite a c.p1 0
    exec (.setFeature id) s = .next (t.complete id 0 (t.peek a).toNat)) ∧
  (∀ (s : State) (id a : Nat) (c : Cmd), s.ready id 0x85 = some c → featureReg (c.p0 % 256) = some a →
    exec (.getFeature id) s = .next (s.complete id 0 (s.peek a).toNat)) ∧
  (∀ (s : State) (id : Nat) (c : Cmd), s.ready id 0x86 = some c → exec (.fwStage id) s = .next (s.fetch c)) ∧
  (∀ (s : State) (id : Nat) (c : Cmd), s.ready id 0x87 = some c → s.cm.actCmd = none → s.actCheck (c.p0 % 2) = none →
    exec (.fwActivate id) s = .next ((((s.start id).p CM_ACT_PHASE 2).cmU (fun m => { m with
      actCmd := some id, actStart := s.now, actEnded := [] })).btU (fun b => { b with actSlot := some (c.p0 % 2) }))) ∧
  (∀ (s : State) (id : Nat) (c : Cmd), s.ready id 0x88 = some c → exec (.attest id) s = .next (s.fetch c)) ∧
  (∀ (s : State) (id : Nat) (t : List Nat), s.bt.signing = id :: t →
    let n := s.bt.reports + 1
    let r := s.report (s.cmd id).p1 (s.cmd id).buf n
    let u := s.btU (fun b => { b with signing := t, reports := n, sig := (Config.slhSign (r % 2 ^ 2048)).toNat })
    exec .attestDone s = .next ((u.p BT_ATT_SEQ n).give id r n).chanSweep) ∧
  (∀ (s : State) (id : Nat) (c : Cmd), s.ready id 0x89 = some c → s.mode = mMaint →
    exec (.keyEnroll id) s = .next (s.fetch c)) ∧
  (∀ (s : State) (id : Nat) (c : Cmd), s.ready id 0x8A = some c → s.mode = mMaint → c.p0 * 4096 + c.dlen ≤ 40960 →
    exec (.microLoad id) s = .next (s.fetch c)) ∧
  (∀ (s : State) (id : Nat) (c : Cmd), s.ready id 0x8B = some c →
    s.cm.table.find? (fun x => x.2.qid == c.p0 % 2 ^ 20 && x.2.cid == c.p1 % 2 ^ 16 && x.1 ≠ id && x.2.lib.isNone && !x.2.placed)
      = none →
    exec (.abort id) s = .next (s.complete id 0 1)) ∧
  (∀ (s : State) (id t : Nat) (c x : Cmd), s.ready id 0x8B = some c →
    s.cm.table.find? (fun x => x.2.qid == c.p0 % 2 ^ 20 && x.2.cid == c.p1 % 2 ^ 16 && x.1 ≠ id && x.2.lib.isNone && !x.2.placed)
      = some (t, x) → s.pastReturn x = true →
    exec (.abort id) s = .next (s.complete id 0 2)) ∧
  (∀ (s : State) (id t : Nat) (c x : Cmd), s.ready id 0x8B = some c →
    s.cm.table.find? (fun x => x.2.qid == c.p0 % 2 ^ 20 && x.2.cid == c.p1 % 2 ^ 16 && x.1 ≠ id && x.2.lib.isNone && !x.2.placed)
      = some (t, x) → s.pastReturn x = false → (s.cmd t).ctx = none →
    exec (.abort id) s = .next ((((s.endCmd t 0x0006 0).complete id 0 0).chanSweep).heldRetry))

/-- ACTUATOR_SCHEDULE issues background I/O within its share or floor, or, of an actuator whose arm is loaded, the
operation the scheduler picks. DEADLINE_EXPIRY of an uncompleted DROP command not past its point of no return
completes it 0x0009. CM_RESET with QM ON and no activation begins a reset, and CM_RESET_COMPLETE, no commit of its
running, ends every command 0x0007 and the halt. CM_SHUTDOWN_LIMIT ends the shut-down: OFF, or with ENABLE_PENDING
STARTING with CM_PACE.VALID clear. ACTIVATION_DRAIN_LIMIT ends every other command 0x0008; ACTIVATION_SWITCH with only
the activation left loads the new slot; ACTIVATION_DONE completes it. DMA_BURST_DONE moves one burst; DM_RESUME
retries or fails a faulted channel, and one not faulted counts a late resume; FAULT_TIMER_EXPIRY ends a faulted
channel. Choices of the model that it rests on: notes/assumptions 2, 3, 7, 54, 55, 63, 64, 71 and 91. -/
def Obligations.CommandSideCommandsComplete : Prop :=
  (∀ (s : State) (a : Fin 8) (est : List (Nat × Nat × Nat)) (o : ActOp),
    (s.bgWork a.val false = false ∨ 1000 * s.bgShare ≤ s.rb.usedN.getD a.val 0) → s.mode ≠ mSafe → s.actReady a.val = true →
    let e := fun (o : ActOp) => ((est.find? (fun x => x.1 == o.member && x.2.1 == o.mba)).map (fun x => x.2.2)).getD 0
    pickOp (1000000 * s.g CM_CFG_SLACK) e (s.actOps a.val) = some o →
    let w := (s.cm.waits.find? (fun w => w.member == o.member && w.mba == o.mba)).getD
      { cmd := none, vol := 0, block := 0, member := o.member, mba := o.mba, deadline := o.deadline, take := o.take }
    exec (.actuatorSchedule a est none) s = .next ((s.cmU (fun c => { c with
      sched := c.sched.putD a.val [] (c.sched.getD a.val [] ++ [w]), seekTries := c.seekTries.drop a.val })).slowArm o.member o.mba)) ∧
  (∀ (s : State) (a : Fin 8) (est : List (Nat × Nat × Nat)) (t : Nat), s.bgWork a.val false = true →
    s.rb.usedN.getD a.val 0 < 1000 * s.bgShare →
    exec (.actuatorSchedule a est (some (false, t))) s = .next
      (s.rbU (fun r => { r with usedN := r.usedN.putD a.val 0 (r.usedN.getD a.val 0 + t) }))) ∧
  (∀ (s : State) (a : Fin 8) (est : List (Nat × Nat × Nat)) (t : Nat), s.bgWork a.val true = true →
    (s.rb.usedP.getD a.val 0 < 1000 * s.bgFloor ∨ s.actOps a.val = []) →
    exec (.actuatorSchedule a est (some (true, t))) s = .next
      (s.rbU (fun r => { r with usedP := r.usedP.putD a.val 0 (r.usedP.getD a.val 0 + t) }))) ∧
  (∀ (s : State) (id : Nat), (s.cm.table.find id).isSome = true → (s.cmd id).opc = 3 → (s.cmd id).drop = true →
    (s.cmd id).status = none → (s.cmd id).pnr = false →
    let running := fun (w : BlkWait) => w.cmd == some id && (s.cm.sched.getD (actuatorOf w.member) []).any (fun x =>
      x.member == w.member && x.mba == w.mba)
    let n := (s.cm.waits.filter running).length
    let u := s.cmU (fun m => { m with
      waits := m.waits.map (fun (w : BlkWait) => if running w then { w with gone := true } else w),
      dlGone := if n = 0 then m.dlGone else m.dlGone ++ [(id, n)] })
    exec (.deadlineExpiry id) s = .next (((u.complete id 0x0009 0).sat CM_DROP_CNT_COUNT 1).chanSweep)) ∧
  (∀ (s : State), s.is CM_CMD_BUSY = false → s.g QM_CTL_STATE = stOn → s.g CM_ACT_PHASE = 0 → s.cm.resetting = none →
    let u := s.off CM_CMD_ERR
    let w := { u with cm := { u.cm with resetting := some (u.is QM_HALT_HALTED) } }
    exec .cmReset s = .next ((w.on CM_CMD_BUSY).raise 0x0B04 6 0)) ∧
  (∀ (s : State) (halted : Bool), s.cm.resetting = some halted → s.cm.table.any (fun x => s.committing x.1) = false →
    let q := s.g QM_HALT_QID
    let idx := s.g QM_HALT_SLOT_INDEX
    let a := if halted then ((s.off QM_HALT_HALTED).qmU (fun m => { m with parkArmed := false })).sqError q 6 else s
    let b := (((a.endAll 0x0007 (fun c => if halted && c.qid = q && c.idx = idx then 2 else 0) none).off CM_CMD_BUSY).on
      CM_STAT_RESET_DONE).mdU (fun m => { m with haltHold := m.haltHold && !halted })
    let c := b.cmU (fun m => { m with resetting := none })
    exec .cmResetComplete s = .next (State.each (c.qm.cq.map (·.1)) (fun q t => t.cqHeld q) c)) ∧
  (∀ (s : State), s.g CM_CTL_STATE = stStopping →
    let u := s.endAll 0x0007 (fun _ => 0) none
    u.cm.table.any (fun x => x.2.status.isNone) = false →
    exec .cmShutdownLimit s = .next (if u.is CM_CTL_ENABLE_PENDING then ((u.off CM_CTL_ENABLE_PENDING).p CM_CTL_STATE stStarting).off CM_PACE_VALID
      else u.p CM_CTL_STATE stOff)) ∧
  (∀ (s : State), s.g CM_ACT_PHASE = 2 →
    let ids := (s.cm.table.filter (fun x => x.2.status.isNone && x.2.lib.isNone && some x.1 ≠ s.cm.actCmd)).map (·.1)
    exec .activationDrainLimit s = .next
      ((s.cmU (fun m => { m with actEnded := m.actEnded ++ ids })).endAll 0x0008 (fun _ => 0) s.cm.actCmd)) ∧
  (∀ (s : State) (slot : Nat), s.bt.actSlot = some slot → s.g CM_ACT_PHASE = 2 →
    s.cm.table.all (fun x => x.2.status.isSome || some x.1 = s.cm.actCmd) = true →
    exec .activationSwitch s = .next ((s.p CM_ACT_PHASE 3).actSwitch slot).2.custAfterSwitch) ∧
  (∀ (s : State) (id : Nat), s.cm.actCmd = some id → s.g CM_ACT_PHASE = 3 → s.ft.resetOf = none →
    let a := (s.qmKeep.complete id 0 (Image.fwVer s.bt.hdr)).off CM_ACT_PHASE
    let b := ((a.p CM_ACT_LAST_MS (min 1023 ((s.now - s.cm.actStart) / 1000000))).off BT_BOOT_REC_DONE).btU
      (fun b => { b with actSlot := none, recDue := true })
    exec .activationDone s = .next (((b.mdU (fun m => { m with reached := [] })).cmU (fun m => { m with
      actCmd := none })).note CM_STAT_ACT_DONE 0x0B05 6 0)) ∧
  (∀ (s : State) (n : Fin 64) (data : BitVec 32768) (poison : Bool), s.dBusy n.val = true →
    s.is (DM_CH_STAT_PAUSED n.val) = false → s.dstSp n.val ≠ spHost →
    let r := s.dBurst n.val data.toNat poison
    exec (.dmaBurstDone n data poison) s = .next (if r.1 then r.2.xferDone n.val else r.2)) ∧
  (∀ (s : State) (n : Fin 64) (fail : Bool), s.dFaulted n.val = true →
    exec (.dmResume n fail) s = .next (if fail then s.faultEnd n.val else (s.dRetry n.val).guardAgain n.val)) ∧
  (∀ (s : State) (n : Fin 64) (fail : Bool), s.dFaulted n.val = false →
    exec (.dmResume n fail) s = .next ((s.sat DM_LATE_CNT_COUNT 1).note DM_STAT_RESUME_LATE 0x0C14 8 0)) ∧
  (∀ (s : State) (n : Fin 64), s.dFaulted n.val = true → (s.dch n.val).timer = true →
    exec (.faultTimerExpiry n) s = .next ((s.faultEnd n.val).note DM_STAT_FAULT_TMO 0x0C15 8 0))

/-- Where a context has the turn of its sequencer with no trap due, both its words good and legal, and its microword is of
the kind the row names (SEQ_NEXT, SEQ_JUMP, SEQ_BRANCH, SEQ_CALL, SEQ_RETURN, SEQ_WAIT, SEQ_DISPATCH, SEQ_END by its
SEQ code; VOL_READ, VOL_WRITE, VOL_FLUSH, VCRC and LIBRARY_UNDEFINED by the TARGET of a customer CALL into the library
range), the turn passes on and the microword runs: it waits, or takes effect as one. Choices of the model that it
rests on: notes/assumptions 2, 3, 7, 65 to 70. -/
def Obligations.SequencingRowsComplete : Prop :=
  (∀ (s : State) (n : Fin 256) (mw w : Nat), s.MayRun n.val mw w → Image.mwSeq mw = 0 →
    exec (.seqNext n) s = .next ((s.turnOn n.val).mwRun n.val mw w false)) ∧
  (∀ (s : State) (n : Fin 256) (mw w : Nat), s.MayRun n.val mw w → Image.mwSeq mw = 1 →
    exec (.seqJump n) s = .next ((s.turnOn n.val).mwRun n.val mw w false)) ∧
  (∀ (s : State) (n : Fin 256) (mw w : Nat), s.MayRun n.val mw w → Image.mwSeq mw = 2 →
    exec (.seqBranch n) s = .next ((s.turnOn n.val).mwRun n.val mw w false)) ∧
  (∀ (s : State) (n : Fin 256) (mw w : Nat), s.MayRun n.val mw w → Image.mwSeq mw = 3 →
    exec (.seqCall n) s = .next ((s.turnOn n.val).mwRun n.val mw w false)) ∧
  (∀ (s : State) (n : Fin 256) (mw w : Nat), s.MayRun n.val mw w → Image.mwSeq mw = 4 →
    exec (.seqReturn n) s = .next ((s.turnOn n.val).mwRun n.val mw w false)) ∧
  (∀ (s : State) (n : Fin 256) (mw w : Nat), s.MayRun n.val mw w → Image.mwSeq mw = 5 →
    exec (.seqWait n) s = .next ((s.turnOn n.val).mwRun n.val mw w false)) ∧
  (∀ (s : State) (n : Fin 256) (mw w : Nat), s.MayRun n.val mw w → Image.mwSeq mw = 6 →
    exec (.seqDispatch n) s = .next ((s.turnOn n.val).mwRun n.val mw w false)) ∧
  (∀ (s : State) (n : Fin 256) (mw w : Nat), s.MayRun n.val mw w → Image.mwSeq mw = 7 →
    exec (.seqEnd n) s = .next ((s.turnOn n.val).mwRun n.val mw w false)) ∧
  (∀ (s : State) (n : Fin 256) (mw w : Nat), s.MayRun n.val mw w → isLib (s.mctx n.val) mw = true → Image.mwTarget mw = 0x0F00 →
    exec (.volRead n) s = .next ((s.turnOn n.val).mwRun n.val mw w false)) ∧
  (∀ (s : State) (n : Fin 256) (mw w : Nat), s.MayRun n.val mw w → isLib (s.mctx n.val) mw = true → Image.mwTarget mw = 0x0F01 →
    exec (.volWrite n) s = .next ((s.turnOn n.val).mwRun n.val mw w false)) ∧
  (∀ (s : State) (n : Fin 256) (mw w : Nat), s.MayRun n.val mw w → isLib (s.mctx n.val) mw = true → Image.mwTarget mw = 0x0F02 →
    exec (.volFlush n) s = .next ((s.turnOn n.val).mwRun n.val mw w false)) ∧
  (∀ (s : State) (n : Fin 256) (mw w : Nat), s.MayRun n.val mw w → isLib (s.mctx n.val) mw = true → Image.mwTarget mw = 0x0F03 →
    exec (.vcrc n) s = .next ((s.turnOn n.val).mwRun n.val mw w false)) ∧
  (∀ (s : State) (n : Fin 256) (mw w : Nat), s.MayRun n.val mw w → isLib (s.mctx n.val) mw = true → 0x0F04 ≤ Image.mwTarget mw →
    exec (.libraryUndefined n) s = .next ((s.turnOn n.val).mwRun n.val mw w false))

/-- Where a context has the turn of its sequencer with no trap due, both its words good and legal, and its nanoword has
the ALU, MEM or UNIT code the row names (ALU_PASS to ALU_MUL; BUF_LOAD, BUF_STORE, HOST_LOAD, HOST_STORE; DMA_CLAIM,
UNIT_DMA_GO, UNIT_DMA_ARM, DMA_RELEASE, PE_SUB, SREQ, SET_STATUS, PARK, FRAME, DMA_ANY, JCOMMIT, SCHED; TRET where it
does not wait for a faulted channel), the turn passes on and the microword runs: it waits, or takes effect as one.
Choices of the model that it rests on: notes/assumptions 2, 3, 7, 65 to 70. -/
def Obligations.NanowordRowsComplete : Prop :=
  (∀ (s : State) (n : Fin 256) (mw w : Nat), s.MayRun n.val mw w → nwAlu w = 0 →
    exec (.aluPass n) s = .next ((s.turnOn n.val).mwRun n.val mw w false)) ∧
  (∀ (s : State) (n : Fin 256) (mw w : Nat), s.MayRun n.val mw w → nwAlu w = 1 →
    exec (.aluAdd n) s = .next ((s.turnOn n.val).mwRun n.val mw w false)) ∧
  (∀ (s : State) (n : Fin 256) (mw w : Nat), s.MayRun n.val mw w → nwAlu w = 2 →
    exec (.aluSub n) s = .next ((s.turnOn n.val).mwRun n.val mw w false)) ∧
  (∀ (s : State) (n : Fin 256) (mw w : Nat), s.MayRun n.val mw w → nwAlu w = 3 →
    exec (.aluAnd n) s = .next ((s.turnOn n.val).mwRun n.val mw w false)) ∧
  (∀ (s : State) (n : Fin 256) (mw w : Nat), s.MayRun n.val mw w → nwAlu w = 4 →
    exec (.aluOr n) s = .next ((s.turnOn n.val).mwRun n.val mw w false)) ∧
  (∀ (s : State) (n : Fin 256) (mw w : Nat), s.MayRun n.val mw w → nwAlu w = 5 →
    exec (.aluXor n) s = .next ((s.turnOn n.val).mwRun n.val mw w false)) ∧
  (∀ (s : State) (n : Fin 256) (mw w : Nat), s.MayRun n.val mw w → nwAlu w = 6 →
    exec (.aluShl n) s = .next ((s.turnOn n.val).mwRun n.val mw w false)) ∧
  (∀ (s : State) (n : Fin 256) (mw w : Nat), s.MayRun n.val mw w → nwAlu w = 7 →
    exec (.aluShr n) s = .next ((s.turnOn n.val).mwRun n.val mw w false)) ∧
  (∀ (s : State) (n : Fin 256) (mw w : Nat), s.MayRun n.val mw w → nwAlu w = 8 →
    exec (.aluCmp n) s = .next ((s.turnOn n.val).mwRun n.val mw w false)) ∧
  (∀ (s : State) (n : Fin 256) (mw w : Nat), s.MayRun n.val mw w → nwAlu w = 9 →
    exec (.aluCrc32c n) s = .next ((s.turnOn n.val).mwRun n.val mw w false)) ∧
  (∀ (s : State) (n : Fin 256) (mw w : Nat), s.MayRun n.val mw w → nwAlu w = 10 →
    exec (.aluMin n) s = .next ((s.turnOn n.val).mwRun n.val mw w false)) ∧
  (∀ (s : State) (n : Fin 256) (mw w : Nat), s.MayRun n.val mw w → nwAlu w = 11 →
    exec (.aluMax n) s = .next ((s.turnOn n.val).mwRun n.val mw w false)) ∧
  (∀ (s : State) (n : Fin 256) (mw w : Nat), s.MayRun n.val mw w → nwAlu w = 12 →
    exec (.aluExtract n) s = .next ((s.turnOn n.val).mwRun n.val mw w false)) ∧
  (∀ (s : State) (n : Fin 256) (mw w : Nat), s.MayRun n.val mw w → nwAlu w = 13 →
    exec (.aluMul n) s = .next ((s.turnOn n.val).mwRun n.val mw w false)) ∧
  (∀ (s : State) (n : Fin 256) (mw w : Nat), s.MayRun n.val mw w → Image.nwMem w = 1 →
    exec (.bufLoad n) s = .next ((s.turnOn n.val).mwRun n.val mw w false)) ∧
  (∀ (s : State) (n : Fin 256) (mw w : Nat), s.MayRun n.val mw w → Image.nwMem w = 2 →
    exec (.bufStore n) s = .next ((s.turnOn n.val).mwRun n.val mw w false)) ∧
  (∀ (s : State) (n : Fin 256) (mw w : Nat), s.MayRun n.val mw w → Image.nwMem w = 3 →
    exec (.hostLoad n) s = .next ((s.turnOn n.val).mwRun n.val mw w false)) ∧
  (∀ (s : State) (n : Fin 256) (mw w : Nat), s.MayRun n.val mw w → Image.nwMem w = 4 →
    exec (.hostStore n) s = .next ((s.turnOn n.val).mwRun n.val mw w false)) ∧
  (∀ (s : State) (n : Fin 256) (mw w : Nat), s.MayRun n.val mw w → Image.nwUnit w = 1 →
    exec (.dmaClaim n) s = .next ((s.turnOn n.val).mwRun n.val mw w false)) ∧
  (∀ (s : State) (n : Fin 256) (mw w : Nat), s.MayRun n.val mw w → Image.nwUnit w = 2 →
    exec (.unitDmaGo n) s = .next ((s.turnOn n.val).mwRun n.val mw w false)) ∧
  (∀ (s : State) (n : Fin 256) (mw w : Nat), s.MayRun n.val mw w → Image.nwUnit w = 3 →
    exec (.unitDmaArm n) s = .next ((s.turnOn n.val).mwRun n.val mw w false)) ∧
  (∀ (s : State) (n : Fin 256) (mw w : Nat), s.MayRun n.val mw w → Image.nwUnit w = 4 →
    exec (.dmaRelease n) s = .next ((s.turnOn n.val).mwRun n.val mw w false)) ∧
  (∀ (s : State) (n : Fin 256) (mw w : Nat), s.MayRun n.val mw w → Image.nwUnit w = 5 →
    exec (.peSub n) s = .next ((s.turnOn n.val).mwRun n.val mw w false)) ∧
  (∀ (s : State) (n : Fin 256) (mw w : Nat), s.MayRun n.val mw w → Image.nwUnit w = 6 →
    exec (.sreq n) s = .next ((s.turnOn n.val).mwRun n.val mw w false)) ∧
  (∀ (s : State) (n : Fin 256) (mw w : Nat), s.MayRun n.val mw w → Image.nwUnit w = 7 →
    exec (.setStatus n) s = .next ((s.turnOn n.val).mwRun n.val mw w false)) ∧
  (∀ (s : State) (n : Fin 256) (mw w : Nat), s.MayRun n.val mw w → Image.nwUnit w = 8 →
    exec (.park n) s = .next ((s.turnOn n.val).mwRun n.val mw w false)) ∧
  (∀ (s : State) (n : Fin 256) (mw w : Nat), s.MayRun n.val mw w → Image.nwUnit w = 9 →
    exec (.frame n) s = .next ((s.turnOn n.val).mwRun n.val mw w false)) ∧
  (∀ (s : State) (n : Fin 256) (mw w : Nat), s.MayRun n.val mw w → (s.mctx n.val).wait ≠ .xlat → Image.nwUnit w = 10 →
    exec (.tret n) s = .next ((s.turnOn n.val).mwRun n.val mw w false)) ∧
  (∀ (s : State) (n : Fin 256) (mw w : Nat), s.MayRun n.val mw w → Image.nwUnit w = 11 →
    exec (.dmaAny n) s = .next ((s.turnOn n.val).mwRun n.val mw w false)) ∧
  (∀ (s : State) (n : Fin 256) (mw w : Nat), s.MayRun n.val mw w → Image.nwUnit w = 12 →
    exec (.jcommit n) s = .next ((s.turnOn n.val).mwRun n.val mw w false)) ∧
  (∀ (s : State) (n : Fin 256) (mw w : Nat), s.MayRun n.val mw w → Image.nwUnit w = 13 →
    exec (.sched n) s = .next ((s.turnOn n.val).mwRun n.val mw w false))

/-- With the engine running, CONTEXT_DISPATCH of a command not completed that has no context and whose entry is present
starts it in the context the command gets; a customer command without an entry completes 0x0001. MICROWORD_EXECUTE
runs the microword of a context that may run, or takes the trap that is due. WAIT_EVENT_DONE runs a microword whose
event occurred; TRET and WAIT_EVENT_DONE end the wait of a translation trap whose channel is no longer faulted.
MICRO_IMAGE_INSTALL writes the staged image once no customer context is busy. CTX_SNAP, DISP_DATA_READ and
STORE_DATA_READ show a context, an entry or a store word, and the last two step. Choices of the model that it rests
on: notes/assumptions 2, 3, 7, 65 to 70. -/
def Obligations.EngineCommandsComplete : Prop :=
  (∀ (s : State) (id n : Nat) (c : Cmd), s.cm.table.find id = some c → s.mcRuns = true → c.status = none → c.ctx = none →
    c.lib = none → c.opc < 0xC0 → bitOf (s.mc.disp.getD c.opc 0) 14 = 1 → s.ctxPick = some n →
    exec (.contextDispatch id) s = .next ((s.cmdUp id (fun x => { x with late3 := false })).ctxStart id n (s.mc.disp.getD c.opc 0))) ∧
  (∀ (s : State) (id n : Nat) (c : Cmd), s.cm.table.find id = some c → s.mcRuns = true → c.status = none → c.ctx = none →
    c.lib = none → 0xC0 ≤ c.opc → s.mc.install = none → bitOf (s.mc.disp.getD c.opc 0) 14 = 1 →
    s.g MC_OCC_CUST < s.custMax → s.ctxPick = some n →
    exec (.contextDispatch id) s = .next ((s.cmdUp id (fun x => { x with late3 := false })).ctxStart id n (s.mc.disp.getD c.opc 0))) ∧
  (∀ (s : State) (n : Fin 256) (imgUe : Bool) (mw w : Nat),
    let u := s.trapSift n.val
    let c := u.mctx n.val
    s.mcOn = true → (s.mctx n.val).busy = true → s.ctxHeld (s.mctx n.val) = false → c.trapDue = none → c.level = false →
    u.seqTurn (n.val % 8) = some n.val → u.mwUe c = none → u.mwAt c = (mw, w) → (u.turnOn n.val).mwIllegal c mw w = false →
    exec (.microwordExecute n imgUe) s = .next ((u.turnOn n.val).mwRun n.val mw w false)) ∧
  (∀ (s : State) (n : Fin 256) (imgUe : Bool) (tr : Trap), s.mcOn = true → (s.mctx n.val).busy = true →
    s.ctxHeld (s.mctx n.val) = false → ((s.trapSift n.val).mctx n.val).trapDue = some tr →
    exec (.microwordExecute n imgUe) s = .next ((s.trapSift n.val).trapRun n.val tr)) ∧
  (∀ (s : State) (n : Fin 256) (mw w : Nat),
    let c := s.mctx n.val
    s.mcOn = true → c.st = 2 → s.ctxHeld c = false → c.trapDue = none → c.wait = .event → s.mwAt c = (mw, w) →
    (s.waitMet c w = true ∨ nwWaitEv w = 3) →
    exec (.waitEventDone n) s = .next (s.mwRun n.val mw w true)) ∧
  (∀ (s : State) (n : Fin 256),
    let c := s.mctx n.val
    s.mcOn = true → c.st = 2 → s.ctxHeld c = false → c.trapDue = none → c.wait = .xlat →
    s.dFaulted (bitsOf c.frame 256 6) = false →
    exec (.waitEventDone n) s = .next (s.mctxUp n.val CtxState.tret)) ∧
  (∀ (s : State) (n : Fin 256),
    let c := s.mctx n.val
    s.mcOn = true → c.level = true → c.wait = .xlat → c.trapDue = none → s.dFaulted (bitsOf c.frame 256 6) = false →
    exec (.tret n) s = .next (s.mctxUp n.val CtxState.tret)) ∧
  (∀ (s : State) (b : Nat), s.mc.install = some b → s.mc.ctx.any (fun x => x.2.busy && x.2.cust) = false →
    let a := s.pair MC_IMG_BASE_LO MC_IMG_BASE_HI
    let u := s.bWr a 40960 b
    let v := (u.custWrite (u.bRd a 40960)).mcU (fun m => { m with install := none, stored := some b })
    exec .microImageInstall s = .next ((v.custShow b).note MC_STAT_LOAD_OK 0x0E04 13 0)) ∧
  (∀ (s : State),
    let n := s.g MC_CTX_SEL_CTX
    let c := s.mctx n
    exec .ctxSnap s = .next (State.each (upTo 16) (fun i t => t.p (MC_FRAME_DATA i) (c.frame / 2 ^ (32 * i)))
      (s.wr MC_CTX_STAT (BitVec.ofNat 32 (pk [(c.st, 2), (b2n c.level, 1), (b2n c.zh4, 1), (b2n c.cust, 1), (c.opc, 8),
        (n % 8, 3), (c.upc, 14)]))))) ∧
  (∀ (s : State),
    let o := s.g MC_DISP_ADDR_OPC
    let v := BitVec.ofNat 32 (s.mc.disp.getD o 0)
    exec .dispDataRead s = .next (({ s with rdata := v }.wr MC_DISP_DATA v).p MC_DISP_ADDR_OPC (o + 1))) ∧
  (∀ (s : State),
    let a := s.g MC_STORE_ADDR_ADDR
    s.is MC_STORE_ADDR_STORE = false → s.mc.ue.contains a = false →
    let v := BitVec.ofNat 32 (s.mc.micro.getD a 0)
    exec .storeDataRead s = .next ((({ s with rdata := v }.wr MC_STORE_DATA v).off MC_STORE_ADDR_WORD).p MC_STORE_ADDR_ADDR (a + 1)))

/-- SEEK_START in SERVICE and SEEK in MAINT of an ON actuator with its loops closed ask for a seek: begun or held where
the targets lie within the span (SEEK shows ERR 0), else SPAN_ERR (ERR 3). SETTLE_TIMEOUT after 511 wedges reports a
failed seek. LOAD begins the load sequence where R190 allows it, or during an unload sets LOAD_PENDING; UNLOAD of a
loaded actuator begins the unload, cause COMMAND. LOAD_TIMEOUT before eight SAMs unloads with cause LOAD_FAIL.
SETTLE_TIMEOUT holds the arm where the estimator has it. UNLOAD_TICK of an unload or a load records the velocity, a
current within the limit and, of an unload, the slow count, and during the push the velocity alone; HEADS_PARKED after
400 slow ticks ends the unload; UNLOAD_TIMEOUT starts the push and UNLOAD_PUSH_END ends the unload with a fault.
SV_DRV_FAULT of the voice coil unloads with cause DRIVER; of a micro-actuator in use, its head is lost. Choices of the
model that it rests on: notes/assumptions 2, 3, 7, 42 to 46, 93 and 101. -/
def Obligations.ServoSequenceCommandsComplete : Prop :=
  (∀ (s : State) (a : Fin 8) (targets : List (Nat × BitVec 20)), s.mode = mService →
    exec (.seekStart a targets) s = .next
      (s.seekAsk a.val ((targets.filter (fun x => decide (x.1 < 4))).map (fun x => (x.1, x.2.toNat))) true).2) ∧
  (∀ (s : State) (a : Fin 8), s.mode = mMaint → s.g (SV_CTL_STATE a.val) = stOn →
    (s.astate a.val = aSeeking ∨ s.astate a.val = aSettling ∨ s.astate a.val = aFollowing) →
    let r := s.seekAsk a.val ((upTo 4).map (fun i => (i, s.g (SV_TARGET_TRACK a.val)))) false
    exec (.seek a) s = .next (r.2.p (SV_CMD_ERR a.val) (if r.1 then 0 else 3))) ∧
  (∀ (s : State) (a : Fin 8), s.astate a.val = aSettling → 511 ≤ (s.act a.val).settling → (s.act a.val).settleGranted = false →
    exec (.settleTimeout a) s = .next (((s.actUp a.val (fun (x : ActState) =>
      { x with settleGranted := true, holdAt := x.est.map Config.estPos })).note
      (SV_STAT_SETTLE_TMO a.val) 0x040B (48 + a.val) 0).seekFailed a.val)) ∧
  (∀ (s : State) (a : Fin 8), (s.mode = mService ∨ s.mode = mMaint) → s.g (SV_CTL_STATE a.val) = stOn →
    s.astate a.val = aUnloaded → s.is (SP_MODE_REG (a.val / 2)) = true → 5400 ≤ s.spTarget (a.val / 2) →
    s.spTarget (a.val / 2) ≤ 7200 → exec (.load a) s = .next ((s.off (SV_CMD_ERR a.val)).loadStart a.val)) ∧
  (∀ (s : State) (a : Fin 8), s.astate a.val = aUnloading →
    exec (.load a) s = .next ((s.off (SV_CMD_ERR a.val)).on (SV_MODE_LOAD_PENDING a.val))) ∧
  (∀ (s : State) (a : Fin 8), s.astate a.val ≠ aUnloaded →
    exec (.unload a) s = .next (((s.off (SV_CMD_ERR a.val)).unloadAct a.val ucCommand).careFrom s)) ∧
  (∀ (s : State) (a : Fin 8), s.astate a.val = aLoading → (s.act a.val).samRun < 8 →
    exec (.loadTimeout a) s = .next ((((s.fault (SV_STAT_LOAD_FAIL a.val) (48 + a.val) 11 0x0404 0).unloadAct a.val ucLoadFail).actUp
      a.val (fun x => { x with loadGranted := true, samRun := (s.act a.val).samRun })).careFrom s)) ∧
  (∀ (s : State) (a : Fin 8) (uv : Int), s.astate a.val = aUnloading → (s.act a.val).pushing = false →
    let e := uv - (s.act a.val).coil * (s.g (SV_BEMF_RCOIL a.val) : Int)
    let kb := s.g (SV_BEMF_KB a.val)
    let low := decide (5 * e.natAbs < s.g (SV_UNLOAD_VEL a.val) * kb)
    let lim := s.g (SV_LIM_VCM_ILIM a.val) / (if (s.act a.val).limited then 4 else 1)
    Answers (.unloadTick a uv) s (fun t => ∃ want : Int, t = s.actUp a.val (fun (x : ActState) => { x with
      vel := quot (1000 * e) kb, coil := clampI (-(lim : Int)) lim want, slow := if low then x.slow + 1 else 0 }))) ∧
  (∀ (s : State) (a : Fin 8) (uv : Int), s.astate a.val = aLoading → (s.act a.val).pushing = false →
    let e := uv - (s.act a.val).coil * (s.g (SV_BEMF_RCOIL a.val) : Int)
    let lim := s.g (SV_LIM_VCM_ILIM a.val) / (if (s.act a.val).limited then 4 else 1)
    Answers (.unloadTick a uv) s (fun t => ∃ want : Int, t = s.actUp a.val (fun (x : ActState) => { x with
      vel := quot (1000 * e) (s.g (SV_BEMF_KB a.val)), coil := clampI (-(lim : Int)) lim want, slow := 0 }))) ∧
  (∀ (s : State) (a : Fin 8) (uv : Int), s.astate a.val = aUnloading → (s.act a.val).pushing = true →
    exec (.unloadTick a uv) s = .next (s.actUp a.val (fun (x : ActState) => { x with
      vel := quot (1000 * (uv - (s.act a.val).coil * (s.g (SV_BEMF_RCOIL a.val) : Int))) (s.g (SV_BEMF_KB a.val)) }))) ∧
  (∀ (s : State) (a : Fin 8), s.astate a.val = aUnloading → (s.act a.val).pushing = false → 400 ≤ (s.act a.val).slow →
    exec (.headsParked a) s = .next (s.unloadDone a.val)) ∧
  (∀ (s : State) (a : Fin 8), s.astate a.val = aUnloading → (s.act a.val).pushing = false →
    exec (.unloadTimeout a) s = .next (s.actUp a.val (fun x => { x with
      pushing := true, parkLate := true, coil := ((s.g (SV_LIM_VCM_ILIM a.val) / 2 : Nat) : Int) }))) ∧
  (∀ (s : State) (a : Fin 8), s.astate a.val = aUnloading → (s.act a.val).pushing = true →
    exec (.unloadPushEnd a) s = .next (((s.actUp a.val (fun x => { x with parkLate := false })).unloadDone a.val).fault
      (SV_STAT_UNLOAD_TMO a.val) (48 + a.val) 12 0x0408 0)) ∧
  (∀ (s : State) (a : Fin 8),
    exec (.svDrvFault a none) s = .next
      (((s.fault (SV_STAT_DRV_FAULT a.val) (48 + a.val) 13 0x040A 0).unloadAct a.val ucDriver).careFrom s)) ∧
  (∀ (s : State) (a : Fin 8) (h : Fin 12) (i : Nat),
    let u := (s.fault (SV_STAT_DRV_FAULT a.val) (48 + a.val) 13 0x040A 0).actUp a.val (fun x => { x with micro := x.micro.drop h.val })
    (upTo 4).find? (fun i => u.headAt a.val i == h.val) = some i → u.isLost a.val i = false →
    exec (.svDrvFault a (some h)) s = .next ((u.headLost a.val i).careFrom s))

/-- WEDGE_FAST_CHECK with the loops closed takes the wedge; during a load it searches the SAMs, follows the wedge index,
counts the wedges in a row with a SAM, and with eight closes the loops. WEDGE_DEADLINE of a wedge being computed is an
overrun; WEDGE_OUTPUT_ARRIVAL applies its outputs, or counts a late set. ACCEL_SAMPLE of a good sensor keeps the
sample and its peaks, and fails it after 2,000 equal ones; ACCEL_SILENT fails it. COEF_WRITE unlocked writes a
coefficient, kept back under COEF_HOLD. RUNOUT_CLEAR empties the tables; RUNOUT_DATA_ACCESS reads an entry, or writes
it while LEARN is 0, and steps. TEST_INJECTION in MAINT while FOLLOWING starts injection. CAPTURE_ARM empties and arms
the ring; CAPTURE_DATA_READ reads it and steps. Choices of the model that it rests on: notes/assumptions 2, 3, 7, 42
to 46, 93 and 101. -/
def Obligations.ServoLoopCommandsComplete : Prop :=
  (∀ (s : State) (a : Fin 8) (r : WedgeResults), s.is PW_CHAIN_GAP = false → (s.astate a.val = aSeeking ∨
    s.astate a.val = aSettling ∨ s.astate a.val = aFollowing ∨ s.astate a.val = aPredicting) →
    exec (.wedgeFastCheck a r) s = .next ((s.wedge a.val r).careFrom s)) ∧
  (∀ (s : State) (a : Fin 8) (r : WedgeResults), s.is PW_CHAIN_GAP = false → s.astate a.val = aLoading →
    8 ≤ (s.act a.val).samRun → exec (.wedgeFastCheck a r) s = .next
      ((((s.setAstate a.val aSeeking).actUp a.val (fun x => { x with coil := 0 })).wedge a.val r).careFrom s)) ∧
  (∀ (s : State) (a : Fin 8) (r : WedgeResults), s.is PW_CHAIN_GAP = false → s.astate a.val = aLoading → (s.act a.val).samRun < 8 →
    let u := s.samWedge a.val r
    let f := u.samFirst a.val r
    let w := (f.map (·.wedge)).getD ((u.g (SV_POS_WEDGE a.val) + 1) % 440)
    exec (.wedgeFastCheck a r) s = .next (((u.p (SV_POS_WEDGE a.val) w).accShown a.val).actUp a.val (fun x => { x with
        samRun := if f.isNone then 0 else x.samRun + 1, peak0 := 0, peak1 := 0 }))) ∧
  (∀ (s : State) (a : Fin 8), (s.act a.val).job.isSome = true → (s.act a.val).overdue = false →
    exec (.wedgeDeadline a) s = .next (((s.actUp a.val (fun x => { x with overdue := true })).overrun a.val).careFrom s)) ∧
  (∀ (s : State) (a : Fin 8) (t5 : BitVec 14) (j : WedgeJob), (s.act a.val).job = some j → j.dropped = false →
    (s.act a.val).overdue = false → exec (.wedgeOutputArrival a t5) s = .next (s.output a.val j t5.toNat)) ∧
  (∀ (s : State) (a : Fin 8) (t5 : BitVec 14) (j : WedgeJob), (s.act a.val).job = some j → j.dropped = false →
    (s.act a.val).overdue = true → exec (.wedgeOutputArrival a t5) s = .next (((s.actUp a.val (fun x => { x with job := none, overdue := false })).sat
      (SV_LATE_CNT_COUNT a.val) 1).note (SV_STAT_LATE a.val) 0x0402 (48 + a.val) 0)) ∧
  (∀ (s : State) (x y z : BitVec 16), s.acc0.failed = false →
    let o := s.acc0
    let n : AccState := {
      x := x.toInt, y := y.toInt, z := z.toInt
      same := if o.same > 0 && o.x = x.toInt && o.y = y.toInt && o.z = z.toInt then o.same + 1 else 1 }
    let m := (n.x * n.x + n.y * n.y + n.z * n.z).natAbs
    let u := State.each (upTo 8) (fun a t => t.actUp a (fun v => { v with peak0 := max v.peak0 m })) { s with acc0 := n }
    exec (.accelSample 0 x y z) s = .next (if n.same ≥ 2000 then u.accFail 0 else u)) ∧
  (∀ (s : State) (sensor : Fin 2), (s.accOf sensor.val).failed = false →
    let u := (s.accPut sensor.val { s.accOf sensor.val with failed := true }).on
      (if sensor.val = 0 then SV_ACC_FAIL0 0 else SV_ACC_FAIL1 0)
    let r := u.raiseSeq 0x0409 48 0 true
    exec (.accelSilent sensor) s = .next
      (State.each (upTo 8) (fun a t => t.faultSeq (SV_STAT_ACC_FAIL a) (48 + a) 14 r.1) r.2)) ∧
  (∀ (s : State) (a : Fin 8) (k : Fin 64) (v : BitVec 30), s.is MD_LOCK_LOCK = false → s.is (SV_CTL_COEF_HOLD a.val) = false →
    Answers (.coefWrite a k v) s (fun t => t = s.wr (SV_COEF a.val k.val) (BitVec.ofNat 32 v.toNat))) ∧
  (∀ (s : State) (a : Fin 8), exec (.runoutClear a) s = .next (s.actUp a.val (fun x => { x with runout := [] }))) ∧
  (∀ (s : State) (a : Fin 8) (v : BitVec 16), s.g (SV_RC_ADDR_WEDGE a.val) < 440 → s.g (SV_RC_ADDR_TABLE a.val) ≤ 12 →
    s.is (SV_RC_CTL_LEARN a.val) = false →
    let w := s.g (SV_RC_ADDR_WEDGE a.val)
    exec (.runoutDataAccess a (some v)) s = .next ((s.actUp a.val (fun x => { x with
      runout := x.runout.putD (512 * s.g (SV_RC_ADDR_TABLE a.val) + w) 0 (sgn 16 v.toNat) })).p (SV_RC_ADDR_WEDGE a.val)
        (if w = 439 then 0 else w + 1))) ∧
  (∀ (s : State) (a : Fin 8), s.g (SV_RC_ADDR_WEDGE a.val) < 440 → s.g (SV_RC_ADDR_TABLE a.val) ≤ 12 →
    let w := s.g (SV_RC_ADDR_WEDGE a.val)
    exec (.runoutDataAccess a none) s = .next (({ s with rdata := BitVec.ofNat 32 (unsgn 16 ((s.act a.val).runout.getD
      (512 * s.g (SV_RC_ADDR_TABLE a.val) + w) 0)) }).p (SV_RC_ADDR_WEDGE a.val) (if w = 439 then 0 else w + 1))) ∧
  (∀ (s : State) (a : Fin 8) (point slot : Fin 4) (amp : BitVec 16), s.mode = mMaint → s.astate a.val = aFollowing →
    s.is (SV_TSI_CTL_EN a.val) = false →
    Answers (.testInjection a true point slot amp) s (fun t => t.is (SV_TSI_CTL_EN a.val) = true)) ∧
  (∀ (s : State) (a : Fin 8), exec (.captureArm a) s = .next ((s.off (SV_CAP_CTL_DONE a.val)).actUp a.val (fun x => { x with
    armed := true, post := none, ring := [], ringAt := 0 }))) ∧
  (∀ (s : State) (a : Fin 8),
    let i := s.g (SV_CAP_ADDR_INDEX a.val)
    exec (.captureDataRead a) s = .next
      (({ s with rdata := BitVec.ofNat 32 ((s.act a.val).ring.getD i 0) }).p (SV_CAP_ADDR_INDEX a.val) (i + 1)))

/-- With the spindle ON: SPIN to a legal speed spins up a stopped spindle, in a mode that serves, or retargets a running
one whose actuators are unloaded; STOP of a waiting, accelerating or running one with both unloaded stops it;
SHORT_CMD with both unloaded shorts it. SPINUP_START takes the first spindle in the queue to START while fewer than
two start; ROTOR_ANGLE_FOUND, OBSERVER_LOCK, START_ATTEMPT_FAIL and START_RETRY step it through angle, ramp, and pause
up to three tries; SPINUP_TIMEOUT ends it. SPINDLE_SPEED_SAMPLE shows the speed and acts on it, an overspeed once as
it begins; SPINDLE_REGULATED after 32 revolutions sets REG. SHORT_STANDSTILL ends a short or a free coast;
SAFE_SPINDLE_HOLD_END shorts a held spindle. Choices of the model that it rests on: notes/assumptions 2, 3, 7, 22, 47
to 50, 80 and 103. -/
def Obligations.SpindleSequenceCommandsComplete : Prop :=
  (∀ (s : State) (sp : Fin 4), s.g (SP_CTL_STATE sp.val) = stOn → (s.mode = mService ∨ s.mode = mMaint) →
    (s.g (SP_SET_RPM sp.val) = 4800 ∨ (5400 ≤ s.g (SP_SET_RPM sp.val) ∧ s.g (SP_SET_RPM sp.val) ≤ 7200)) →
    s.phase sp.val = phStopped → exec (.spin sp) s = .next ((s.off (SP_CMD_ERR sp.val)).spinUp sp.val)) ∧
  (∀ (s : State) (sp : Fin 4), s.g (SP_CTL_STATE sp.val) = stOn → (s.mode = mService ∨ s.mode = mMaint) →
    (s.g (SP_SET_RPM sp.val) = 4800 ∨ (5400 ≤ s.g (SP_SET_RPM sp.val) ∧ s.g (SP_SET_RPM sp.val) ≤ 7200)) →
    s.phase sp.val = phRun → s.bothUnloaded sp.val = true →
    exec (.spin sp) s = .next ((s.off (SP_CMD_ERR sp.val)).retarget sp.val)) ∧
  (∀ (s : State) (sp : Fin 4), s.g (SP_CTL_STATE sp.val) = stOn → s.bothUnloaded sp.val = true →
    (s.phase sp.val = phWait ∨ s.phase sp.val = phAccel ∨ s.phase sp.val = phRun) →
    exec (.stop sp) s = .next ((s.p (SP_CMD_ERR sp.val) (if s.phase sp.val ≠ phWait && s.anyChop then 4 else 0)).stopSpindle sp.val)) ∧
  (∀ (s : State) (sp : Fin 4), s.g (SP_CTL_STATE sp.val) = stOn → s.bothUnloaded sp.val = true →
    exec (.shortCmd sp) s = .next
      (State.goShort { s.off (SP_CMD_ERR sp.val) with spWait := s.spWait.filter (· ≠ sp.val) } sp.val)) ∧
  (∀ (s : State) (sp : Fin 4), s.phase sp.val = phWait → s.spWait.head? = some sp.val →
    ((upTo 4).filter (fun k => s.phase k = phStart)).length < 2 → s.switched = true →
    exec (.spinupStart sp) s = .next (((State.goPhase { s with spWait := s.spWait.drop 1 } sp.val phStart).p
      (SP_MODE_START_TRY sp.val) 1).spUp sp.val (fun x => { x with step := .angle, spinup := .armed, lateRun := 0, innRun := 0, foc := {} }))) ∧
  (∀ (s : State) (sp : Fin 4), s.phase sp.val = phStart → (s.sp sp.val).step = .angle →
    exec (.rotorAngleFound sp) s = .next (s.spUp sp.val (fun x => { x with step := .ramp }))) ∧
  (∀ (s : State) (sp : Fin 4), s.phase sp.val = phStart → (s.sp sp.val).step = .ramp →
    exec (.observerLock sp) s = .next ((s.goPhase sp.val phAccel).spUp sp.val (fun x => { x with step := .none })) ∧
    exec (.startAttemptFail sp) s = .next (if s.g (SP_MODE_START_TRY sp.val) ≥ 3 then s.spinupFail sp.val .idle
      else s.spUp sp.val (fun x => { x with step := .pause }))) ∧
  (∀ (s : State) (sp : Fin 4), s.phase sp.val = phStart → (s.sp sp.val).step = .pause →
    exec (.startRetry sp) s = .next ((s.inc (SP_MODE_START_TRY sp.val)).spUp sp.val (fun x => { x with step := .angle }))) ∧
  (∀ (s : State) (sp : Fin 4), (s.sp sp.val).spinup = .armed → s.timersHeld = false →
    exec (.spinupTimeout sp) s = .next (s.spinupFail sp.val .granted)) ∧
  (∀ (s : State) (sp : Fin 4) (meas : BitVec 16),
    let fast := decide (8 * s.g (SP_LIM_OVS sp.val) < meas.toNat)
    let u := ((s.p (SP_SPEED_MEAS sp.val) meas.toNat).p (SP_SPEED_SRC sp.val) (b2n (s.wedgeSpeed sp.val))).spUp sp.val
      (fun x => { x with fast := fast })
    exec (.spindleSpeedSample sp meas) s = .next
      ((if fast && !(s.sp sp.val).fast then u.overspeed sp.val else u.speedPhase sp.val meas.toNat).careFrom s)) ∧
  (∀ (s : State) (sp : Fin 4), (s.sp sp.val).spinup ≠ .granted → s.phase sp.val = phRun → s.is (SP_MODE_REG sp.val) = false →
    32 ≤ (s.sp sp.val).revs →
    exec (.spindleRegulated sp) s = .next (((s.on (SP_MODE_REG sp.val)).spUp sp.val (fun x => { x with spinup := .idle })).reload sp.val)) ∧
  (∀ (s : State) (sp : Fin 4), s.phase sp.val = phShort → (s.sp sp.val).forced = false →
    exec (.shortStandstill sp) s = .next (((s.goPhase sp.val phStopped).off (SP_SPEED_MEAS sp.val)).spUp sp.val
      (fun x => { x with bridgeOff := false, stopAfter := false, stuck := false, fast := false, acq := .idle, xings := [] }))) ∧
  (∀ (s : State) (sp : Fin 4), (s.sp sp.val).safeHold = true →
    exec (.safeSpindleHoldEnd sp) s = .next (s.goShort sp.val))

/-- PWM_PERIOD of a driven spindle, the timers not held, arms the deadline, takes the sample, measured or predicted, and
turns a phase current at ILIM into an overcurrent, or else runs the control loops and weighs the innovation in ACCEL,
RUN and DECEL; DUTY_SET_ARRIVAL within it applies the duty set of the control up to the depth limit, and after it is
counted late; PWM_DEADLINE grants it, the eighth in a row being a loss. MP_OVERCURRENT of a spindle that is not
stopped or waiting is a fault and a loss, and a second within 1 s fails it. CHOPPER_SWITCH at 13.8 V or more turns the
choppers on; CHOPPER_CURRENT_TIMEOUT and CHOPPER_BUS_TIMEOUT find chopper faults. BEMF_ZERO_CROSSING while
re-acquiring keeps the interval; agreeing intervals end it: RUN, the speed, and the angle of the sector. REACQ_TIMEOUT
fails it; MOTOR_BUS_COLLAPSE ends the rectification. Choices of the model that it rests on: notes/assumptions 2, 3, 7,
22, 47 to 50, 80 and 103. -/
def Obligations.SpindleDriveCommandsComplete : Prop :=
  (∀ (s : State) (sp : Fin 4) (ia ib : BitVec 16) (quiet innov : Nat), phStart ≤ s.phase sp.val → s.phase sp.val ≤ phDecel →
    s.timersHeld = false →
    (s.sp sp.val).step ≠ .pause →
    let good := decide (s.g (SP_PWM_CFG_TMIN sp.val) ≤ quiet)
    let u := (s.spUp sp.val (fun x => { x with pwm := .armed })).pwmSample sp.val ia.toNat ib.toNat quiet
    let v := u.focStep sp.val (if good then ia.toInt else (s.sp sp.val).foc.predA) (if good then ib.toInt else (s.sp sp.val).foc.predB)
    exec (.pwmPeriod sp ia ib quiet innov) s = .next
      ((if u.driven sp.val = false then u
        else if good && u.overIlim sp.val ia.toInt ib.toInt then u.overcurrent sp.val
        else if v.phase sp.val = phAccel || v.phase sp.val = phRun || v.phase sp.val = phDecel then v.innovation sp.val innov
        else v).careFrom s)) ∧
  (∀ (s : State) (sp : Fin 4), (s.sp sp.val).pwm = .armed →
    exec (.dutySetArrival sp) s = .next (s.spUp sp.val (fun x => { x with
      duty := x.foc.next.map (min (s.g (SP_MODE_DEPTH_LIM sp.val))), pwm := .idle, lateRun := 0 }))) ∧
  (∀ (s : State) (sp : Fin 4), (s.sp sp.val).pwm = .granted →
    exec (.dutySetArrival sp) s = .next (((s.spUp sp.val (fun x => { x with pwm := .idle })).sat
      (SP_LATE_CNT_PWM sp.val) 1).note (SP_STAT_PWM_LATE sp.val) 0x050B (56 + sp.val) 0)) ∧
  (∀ (s : State) (sp : Fin 4), (s.sp sp.val).pwm = .armed → s.timersHeld = false →
    let n := (s.sp sp.val).lateRun + 1
    let u := s.spUp sp.val (fun x => { x with lateRun := n })
    exec (.pwmDeadline sp) s = .next ((if n ≥ 8 then u.observerLoss sp.val else u).spUp sp.val (fun x => { x with pwm := .granted }))) ∧
  (∀ (s : State) (sp : Fin 4), phStart ≤ s.phase sp.val → (s.sp sp.val).ocAt = none →
    let u := (s.fault (SP_STAT_OC sp.val) (56 + sp.val) 7 0x0508 0).spUp sp.val (fun x => { x with ocAt := some s.now })
    let short := decide (u.phase sp.val = phShort)
    exec (.mpOvercurrent sp) s = .next
      ((if short && (u.sp sp.val).stuck then u
        else if u.driven sp.val || short || u.phase sp.val = phRectify then
          (((u.coast sp.val).spUp sp.val (fun x => { x with shortAfter := short })).sat (SP_LOSS_CNT_LOST sp.val) 1).note
            (SP_STAT_OBS_LOST sp.val) 0x0501 (56 + sp.val) 0
        else u).careFrom s)) ∧
  (∀ (s : State) (bus : BitVec 11), 1380 ≤ bus.toNat →
    exec (.chopperSwitch bus) s = .next (State.each (upTo 4) (fun i t => (t.on (SP_BUS_CHOP_ON i)).spUp i (fun x => { x with
      chopBus := if x.chopBus = .idle then .armed else x.chopBus,
      chopCur := if !t.is (SP_BUS_CHOP_ON i) then .armed else x.chopCur })) (s.busShown bus.toNat))) ∧
  (∀ (s : State) (sp : Fin 4) (amps : Nat), s.is (SP_BUS_CHOP_ON sp.val) = true → (s.sp sp.val).chopCur = .armed →
    let u := s.spUp sp.val (fun x => { x with chopCur := .idle })
    exec (.chopperCurrentTimeout sp amps) s = .next (if amps < u.g (SP_BRAKE_CFG_CHOP_IMIN sp.val) then u.chopFault sp.val else u)) ∧
  (∀ (s : State) (sp : Fin 4), s.is (SP_BUS_CHOP_ON sp.val) = true → (s.sp sp.val).chopBus = .armed →
    exec (.chopperBusTimeout sp) s = .next ((s.spUp sp.val (fun x => { x with chopBus := .granted })).chopFault sp.val)) ∧
  (∀ (s : State) (sp : Fin 4) (ns : Nat) (sector : Fin 6), s.phase sp.val = phCoast → (s.sp sp.val).acq = .armed →
    s.acqXings sp.val ≤ ((ns :: (s.sp sp.val).xings).take (s.acqXings sp.val)).length →
    agree (((ns :: (s.sp sp.val).xings).take (s.acqXings sp.val)).take (s.acqXings sp.val - 1)) = true →
    let u := (s.spUp sp.val (fun x => { x with xings := (ns :: (s.sp sp.val).xings).take (s.acqXings sp.val) })).spUp sp.val
      (fun x => { x with xings := [], acq := .idle })
    let v := ((u.goPhase sp.val phRun).sat (SP_LOSS_CNT_REACQ sp.val) 1).xingSpeed sp.val ns
    exec (.bemfZeroCrossing sp ns sector) s = .next ((v.spUp sp.val (fun x => { x with
      foc := { angle := (sector.val : ℚ) / 6, ramp := some s.now } })).spindleFree sp.val)) ∧
  (∀ (s : State) (sp : Fin 4), s.phase sp.val = phCoast → (s.sp sp.val).acq = .armed → s.timersHeld = false →
    exec (.reacqTimeout sp) s = .next ((s.reacqFail sp.val .granted).careFrom s)) ∧
  (∀ (s : State) (sp : Fin 4), s.phase sp.val = phRectify →
    exec (.motorBusCollapse sp) s = .next ((s.goPhase sp.val phCoast).spUp sp.val (fun x => { x with bridgeOff := true, acq := .idle })))

/-- FEED_LOSS, FEED_RETURN, FEED_OVERVOLTAGE and FEED_OV_RECOVER show the voltage and change the feed's presence or
isolation. POWER_FAIL_SIGNAL with both feeds lost, or no chain, raises the signal and rectifies. HOLDUP_MEASURE and
HOLDUP_VOLTAGE_CHANGE show the bank and check it. CHAIN_FAIL starts the gap; late, it is counted. STANDBY_REGULATED
ends a gap on the standby, or steps the test or the resynchronisation; STANDBY_TIMEOUT fails them. RESYNC_TIMER starts
one automatic resynchronisation; RESYNC_HOLD_DONE ends one. TEST_STANDBY, FORCE_SWITCH and PW_RESYNC start where
allowed, with ERR 0; TEST_STANDBY_LOAD_DONE passes or fails the test. Choices of the model that it rests on:
notes/assumptions 2, 3, 7, 23 to 29. -/
def Obligations.FeedAndChainCommandsComplete : Prop :=
  (∀ (s : State) (v : BitVec 11), s.pw.lostB = false →
    exec (.feedLoss true v) s = .next ((((s.feedVolt true v.toNat).pwU (fun p => { p with
      lostB := true, feedDue := setBit p.feedDue 1 })).feedShow true).note PW_STAT_FEED_B_LOST 0x1001 2 (pk [(1, 1)]))) ∧
  (∀ (s : State) (v : BitVec 11), bitOf s.pw.feedDue 0 = 0 → s.pw.lostA = true →
    exec (.feedReturn false true v) s = .next (((s.feedVolt false v.toNat).pwU (fun p => { p with lostA := false })).feedShow false)) ∧
  (∀ (s : State) (v : BitVec 11), bitOf s.pw.feedDue 0 = 1 →
    exec (.feedReturn false false v) s = .next ((((s.feedVolt false v.toNat).pwU (fun p => { p with
      feedDue := clrBit p.feedDue 0 })).sat PW_LATE_CNT_FEED 1).note PW_STAT_FEED_LATE 0x1009 2 (pk [(0, 1)]))) ∧
  (∀ (s : State) (v : BitVec 11), s.pw.isoA = false →
    exec (.feedOvervoltage false v) s = .next ((((s.feedVolt false v.toNat).pwU (fun p => { p with isoA := true })).feedShow
      false).fault PW_STAT_FEED_A_OV 2 2 0x1002 (pk [(0, 1)]))) ∧
  (∀ (s : State) (v : BitVec 11), s.pw.isoB = true →
    exec (.feedOvRecover true v) s = .next (((s.feedVolt true v.toNat).pwU (fun p => { p with isoB := false })).feedShow true)) ∧
  (∀ (s : State), s.pw.powerFail = false → s.mode ≠ mOff → ((s.pw.lostA = true ∧ s.pw.lostB = true) ∨ s.pw.stbyDead = true) →
    exec .powerFailSignal s = .next (((s.pwU (fun p => { p with powerFail := true })).raise 0x100D 2 0).rectify)) ∧
  (∀ (s : State) (t : BitVec 32),
    exec (.holdupMeasure t) s = .next ((s.holdupVolt 260).p PW_HOLDUP_EST (clampI 0 65535 (quot (9 * (t.toNat : Int)) 8000)).toNat).holdupCheck) ∧
  (∀ (s : State) (v : BitVec 9), exec (.holdupVoltageChange v) s = .next (s.holdupVolt v.toNat).holdupCheck) ∧
  (∀ (s : State), s.mode ≠ mOff → s.is PW_CHAIN_GAP = false → s.pw.powerFail = false →
    exec (.chainFail false) s = .next ((((s.pwU (fun p => { p with chainLate := true })).sat PW_SW_CNT_FAILS 1).fault
      PW_STAT_CHAIN_FAIL 2 4 0x1003 0).gapStart false)) ∧
  (∀ (s : State) (us : BitVec 10) (f : Bool), s.pw.job = .gap f → s.g (chainState s.pw.jobChain) = 2 → s.pw.stbyDead = false →
    exec (.standbyRegulated us) s = .next
      ((((s.pwU (fun p => { p with job := .none })).chainFlip).gapEnd.off PW_CMD_BUSY).note PW_STAT_SWITCHED 0x1004 2 0)) ∧
  (∀ (s : State) (us : BitVec 10), s.pw.job = .testStart →
    exec (.standbyRegulated us) s = .next (((s.pwU (fun p => { p with job := .testLoad })).p (chainState s.pw.jobChain) 3).p
      PW_TEST_T_REG us.toNat)) ∧
  (∀ (s : State) (us : BitVec 10), s.pw.job = .resyncStart →
    exec (.standbyRegulated us) s = .next ((s.pwU (fun p => { p with job := .resyncHold })).p PW_TEST_T_REG us.toNat)) ∧
  (∀ (s : State) (f : Bool), s.pw.job = .gap f → s.pw.stbyDead = false →
    exec .standbyTimeout s = .next ((((s.pwU (fun p => { p with job := .none, stbyDead := true, stbyLate := true })).p
      (chainState s.pw.jobChain) 5).off PW_CMD_BUSY).fault PW_STAT_STBY_FAIL 2 6 0x1005 0)) ∧
  (∀ (s : State), s.is PW_CFG_AUTO_RESYNC = true → s.pw.autoDone = false → s.g (chainState s.standby) = 5 → s.pw.job = .none →
    s.timersHeld = false → s.mode ≠ mOff →
    exec .resyncTimer s = .next ((s.pwU (fun p => { p with autoDone := true })).resyncStart)) ∧
  (∀ (s : State) (ok : Bool), s.pw.job = .resyncHold →
    exec (.resyncHoldDone ok) s = .next (s.resyncEnd (if ok then 1 else 3))) ∧
  (∀ (s : State), s.is PW_CMD_BUSY = false → s.pw.job = .none → (s.mode = mService ∨ s.mode = mMaint) →
    s.g (chainState s.standby) = 0 → exec .testStandby s = .next ((s.p PW_CMD_ERR 0).testStart)) ∧
  (∀ (s : State), s.pw.job = .testLoad →
    let u := ((s.p (chainState (s.g PW_CHAIN_ACTIVE)) 0).chainFlip)
    exec (.testStandbyLoadDone true) s = .next ((((u.pwU (fun p => { p with
      job := .none, passAt := u.g EV_HOURS_HOURS })).p PW_TEST_RESULT 1).off PW_TEST_HOURS).off PW_CMD_BUSY) ∧
    exec (.testStandbyLoadDone false) s = .next (s.testFail 3)) ∧
  (∀ (s : State), s.is PW_CMD_BUSY = false → s.pw.job = .none → s.mode = mMaint → s.g (chainState s.standby) = 0 →
    s.is PW_HOLDUP_OK = true →
    exec .forceSwitch s = .next (((s.p PW_CMD_ERR 0).fault PW_STAT_CHAIN_FAIL 2 4 0x1003 0).gapStart true)) ∧
  (∀ (s : State), s.is PW_CMD_BUSY = false → s.pw.job = .none → s.g (chainState s.standby) = 5 →
    exec .pwResync s = .next ((s.p PW_CMD_ERR 0).resyncStart))

/-- PACE_WINDOW_END in a mode other than OFF and not asleep records each enabled block's count and shortfall and, outside
a gap, lets the governor act. BUS_OVERVOLTAGE at 14.6 V forces every spindle short and trips; PM_SHORT_RELEASE
releases the force. SF_OVERSPEED and VCM_OVERCURRENT trip with cause 2 and 3 after turning off the bridge or
retracting. TEMP_SAMPLE shows the temperatures and counts warnings and trips. HEARTBEAT_TIMEOUT trips with cause 5,
and a HEARTBEAT after it is counted late. RETRACT_HOLD_END shorts the held spindles. SELFTEST in MAINT with everything
parked starts a test, and SELFTEST_DONE shows its result; CLEAR_CAUSE clears SF_CAUSE once nothing holds. Choices of
the model that it rests on: notes/assumptions 2, 3, 7, 23 to 29. -/
def Obligations.SafetyMonitorCommandsComplete : Prop :=
  (∀ (s : State) (counts : List Nat) (vmeas : BitVec 10), s.mode ≠ mOff → s.md.rest = .awake →
    let on_ := (paceBlocks.zip counts).filter (fun x => decide (s.g (Func.st x.1.2.1) ≠ stOff))
    let u := (State.each on_ (fun x t => t.paceLatch x.1.1 x.2 (t.g (PW_FLOOR_FLOOR x.1.2.2))) s).p PW_CORE_VMEAS vmeas.toNat
    exec (.paceWindowEnd counts vmeas) s = .next (if u.is PW_CHAIN_GAP then u
      else u.govern (on_.map (fun x => (x.1.1, x.2, s.g (PW_FLOOR_FLOOR x.1.2.2)))))) ∧
  (∀ (s : State) (bus : BitVec 11), 1460 ≤ bus.toNat →
    let u : State := { s.busShown bus.toNat with spWait := [] }
    let v := State.each (upTo 4) (fun i t => ((t.goShort i).spUp i (fun x => { x with forced := true, stuck := true })).on (SP_BUS_SHORT_FORCED i)) u
    let r := v.raiseSeq 0x0504 56 0 true
    exec (.busOvervoltage bus) s = .next
      ((State.each (upTo 4) (fun i t => t.faultSeq (SP_STAT_SHORT_FORCED i) (56 + i) 3 r.1) r.2).sfTrip 1 0 SF_STAT_BUS_OV 0 0x1101)) ∧
  (∀ (s : State) (bus : BitVec 11), exec (.pmShortRelease bus) s = .next (State.each (upTo 4) (fun i t =>
    (t.spUp i (fun x => { x with forced := false })).off (SP_BUS_SHORT_FORCED i)) (s.busShown bus.toNat))) ∧
  (∀ (s : State) (sp : Fin 4), exec (.sfOverspeed sp) s = .next
    (((((s.sfBridge sp.val).sfRetract (2 * sp.val)).sfRetract (2 * sp.val + 1)).sfHold [sp.val]).sfTrip 2 sp.val SF_STAT_OVERSPEED 1 0x1102)) ∧
  (∀ (s : State) (a : Fin 8) (ma : Int), exec (.vcmOvercurrent a ma) s = .next
    (((s.actUp a.val (fun x => { x with coil := ma })).sfRetract a.val).sfTrip 3 a.val SF_STAT_VCM_OC 2 0x1103)) ∧
  (∀ (s : State) (temps : BitVec 64),
    let t := fun (d : Nat) => bitsOf temps.toNat (8 * d) 8
    let u := (s.wr SF_TEMP0 (BitVec.ofNat 32 (pk [(t 0, 8), (t 1, 8), (t 2, 8), (t 7, 8)]))).wr SF_TEMP1
      (BitVec.ofNat 32 (pk [(t 3, 8), (t 4, 8), (t 5, 8), (t 6, 8)]))
    exec (.tempSample temps) s = .next (State.each (upTo 8) (fun d u =>
      let n := if t d ≥ sfTripAt d then min 4 (u.sf.tripRun.getD d 0 + 1) else 0
      let w := if t d ≥ u.sfWarnAt d then min 4 (u.sf.warnRun.getD d 0 + 1) else 0
      let v := u.sfU (fun m => { m with tripRun := m.tripRun.putD d 0 n, warnRun := m.warnRun.putD d 0 w })
      let x := if w = 3 then v.note SF_STAT_TEMP_WARN 0x1104 3 0 else v
      if n = 3 then x.tempTrip d else x) u)) ∧
  (∀ (s : State), s.sf.hbLost = true → exec .heartbeat s = .next
    (((s.sfU (fun m => { m with hbLost := false })).sat SF_LATE_CNT_HB 1).note SF_STAT_HB_LATE 0x1107 3 0)) ∧
  (∀ (s : State), s.sf.hbLost = false → exec .heartbeat s = .next s) ∧
  (∀ (s : State), s.sf.hbLost = false → s.is PW_CHAIN_GAP = false → s.mode ≠ mOff → s.md.rest = .awake →
    let u := State.each (upTo 8) (fun a t => t.sfRetract a) (s.sfU (fun m => { m with hbLost := true }))
    exec .heartbeatTimeout s = .next
      (((State.each (upTo 4) (fun i t => t.sfBridge i) u).sfHold (upTo 4)).sfTrip 5 0 SF_STAT_HB_LOST 5 0x1106)) ∧
  (∀ (s : State), exec .retractHoldEnd s = .next (State.each ((upTo 4).filter (fun i => bitOf s.sf.holdMask i = 1))
    (fun i t => if t.phase i = phStopped || t.phase i = phWait then t else t.goShort i) (s.sfU (fun m => { m with holdMask := 0 })))) ∧
  (∀ (s : State), s.sf.testing = false → s.mode = mMaint → (upTo 4).any (fun i => decide (s.phase i ≠ phStopped)) = false →
    (upTo 8).any (fun a => s.loaded a) = false →
    exec .selftest s = .next ((s.off SF_CMD_ERR).sfU (fun m => { m with testing := true }))) ∧
  (∀ (s : State) (res : BitVec 22), s.sf.testing = true →
    let u := ((s.sfU (fun m => { m with testing := false })).wr SF_TEST (BitVec.ofNat 32 res.toNat)).on SF_STAT_TEST_DONE
    exec (.selftestDone res) s = .next (if res.toNat = 2 ^ 22 - 1 then u else u.fault SF_STAT_TEST_FAIL 3 7 0x1108 0)) ∧
  (∀ (s : State), s.sf.testing = false → s.sfHolds = false →
    exec .clearCause s = .next (((s.off SF_CMD_ERR).off SF_CAUSE_CAUSE).off SF_CAUSE_UNIT))

/-- Outside REST's sequence and with MD_MODE.HELD 0: GOTO_SERVICE in BOOT ends boot, and in MAINT changes the mode, ends
test injection and clears the idle state; GOTO_MAINT in SERVICE changes the mode, and in SAFE with the cause cleared
leaves SAFE; GOTO_REST in SERVICE asks for REST and steps down. MD_CMD.ERR is 0 each time, and 1 where the mode does
not allow the command. SAFE_REQUEST enters SAFE from SERVICE or MAINT; in BOOT it is latched until boot ends (the
first source is kept: the model's reading, notes/assumptions/95.md), and in SAFE and OFF it has no effect.
TIMEBASE_SWITCH with the crystal locked switches; without the lock it is refused. CRYSTAL_LOCK shows the lock, and ROM
goes on where it waits. IDLE_CFG_WRITE is the register write of MD_IDLE_CFG; TIME_LO_READ answers the low half and
latches the high half. Choices of the model that it rests on: notes/assumptions 2, 3, 7, 74, 75, 78, 92 and 95. -/
def Obligations.ModeTransitionCommandsComplete : Prop :=
  (∀ (s : State), s.is MD_MODE_HELD = false → s.md.rest = .awake → s.mode = mMaint →
    exec .gotoService s = .next
      (State.each (upTo 8) (fun a t => t.off (SV_TSI_CTL_EN a)) ((s.p MD_CMD_ERR 0).goMode mService)).idleZero) ∧
  (∀ (s : State), s.is MD_MODE_HELD = false → s.md.rest = .awake → s.mode = mBoot → s.md.safeReq = 0 →
    exec .gotoService s = .next ((s.p MD_CMD_ERR 0).goMode (if s.md.pfrBad then mMaint else mService)) ∧
    exec .gotoMaint s = .next ((s.p MD_CMD_ERR 0).goMode mMaint)) ∧
  (∀ (s : State), s.is MD_MODE_HELD = false → s.md.rest = .awake → s.mode = mService →
    exec .gotoMaint s = .next (((s.p MD_CMD_ERR 0).goMode mMaint).idleZero) ∧
    exec .gotoRest s = .next (((s.p MD_CMD_ERR 0).mdU (fun m => { m with gotoRest := true })).idleStep) ∧
    exec .gotoService s = .next (s.p MD_CMD_ERR 1)) ∧
  (∀ (s : State), s.is MD_MODE_HELD = false → s.md.rest = .awake → s.mode = mSafe → s.g SF_CAUSE_CAUSE = 0 → s.unackedL3 = false →
    exec .gotoMaint s = .next (s.p MD_CMD_ERR 0).safeExit) ∧
  (∀ (s : State), s.is MD_MODE_HELD = false → s.md.rest = .awake → s.mode = mSafe →
    exec .gotoService s = .next (s.p MD_CMD_ERR 1) ∧ exec .gotoRest s = .next (s.p MD_CMD_ERR 1)) ∧
  (∀ (s : State), s.is MD_MODE_HELD = true →
    exec .gotoService s = .next (s.p MD_CMD_ERR 2) ∧ exec .gotoMaint s = .next (s.p MD_CMD_ERR 2) ∧
    exec .gotoRest s = .next (s.p MD_CMD_ERR 2)) ∧
  (∀ (s : State) (l3 : Bool), (s.mode = mService ∨ s.mode = mMaint) → s.md.rest = .awake →
    exec (.safeRequest l3) s = .next (s.safeNow (if l3 then 2 else 1))) ∧
  (∀ (s : State) (l3 : Bool), s.mode = mBoot → s.md.safeReq = 0 →
    exec (.safeRequest l3) s = .next ((s.mdU (fun m => { m with safeReq := if l3 then 2 else 1 })).on MD_STAT_SAFE)) ∧
  (∀ (s : State) (l3 : Bool), (s.mode = mSafe ∨ s.mode = mOff) → exec (.safeRequest l3) s = .next s) ∧
  (∀ (s : State), s.switched = false → s.is MD_TB_LOCK = true → exec .timebaseSwitch s = .next s.tbSwitch) ∧
  (∀ (s : State), s.switched = false → s.is MD_TB_LOCK = false → exec .timebaseSwitch s = .next (s.on MD_TB_REFUSED)) ∧
  (∀ (s : State), s.mode ≠ mOff → s.bt.wantSwitch = false → exec .crystalLock s = .next (s.on MD_TB_LOCK)) ∧
  (∀ (s : State), s.mode ≠ mOff → s.bt.wantSwitch = true → exec .crystalLock s = .next (s.on MD_TB_LOCK).romLink) ∧
  (∀ (s : State) (group : Fin 16) (level : Fin 4) (time : BitVec 24), exec (.idleCfgWrite group level time) s =
    .next (s.plainWrite MD_IDLE_CFG (pk [(group.val, 4), (level.val, 2), (0, 2), (time.toNat, 24)]) 0)) ∧
  (∀ (s : State), exec .timeLoRead s =
    .next ({ s with rdata := BitVec.ofNat 32 s.now }.wr MD_TIME_HI (BitVec.ofNat 32 (s.now / 2 ^ 32))))

/-- IDLE_TIMER_EXPIRY in SERVICE outside an activation and a gap records that the group's timer has reached the level and
lets a step down start. IDLE_STEP_DONE ends a step whose condition is met, ends an exit that has reached I0, and ends
the drain of REST entry once no command is ACTIVE. DEMAND starts an exit from a level above I0; during a step down, or
in REST's sequence, it is latched in EXIT_PEND and counted. REST_SPINDLES_STOPPED waits until, its queued parity jobs
complete, every function has drained; then it completes those jobs, turns the functions off, saves what REST keeps and
stops buffer memory; REST_POWER_OFF enters REST, asleep, or waking at once where a demand was latched. WAKE starts the
exit, a trip with the request for SAFE. REST_EXIT_COMPLETE starts the blocks again and enters SERVICE, or SAFE after a
trip. Choices of the model that it rests on: notes/assumptions 2, 3, 7, 74, 75, 78, 92 and 95. -/
def Obligations.IdleAndRestCommandsComplete : Prop :=
  (∀ (s : State) (group : Fin 16) (level : Fin 4), s.mode = mService → s.g CM_ACT_PHASE = 0 → s.timersHeld = false →
    exec (.idleTimerExpiry group level) s = .next (s.mdU (fun m =>
      { m with reached := m.reached.putD group.val 0 (setBit (m.reached.getD group.val 0) level.val) })).idleStep) ∧
  (∀ (s : State), s.md.rest = .awake → s.md.exiting = false → s.is MD_IDLE_STAT_STEPPING = true → s.stepMet = true →
    let u := (s.inc MD_IDLE_STAT_LEVEL).off MD_IDLE_STAT_STEPPING
    u.is MD_IDLE_STAT_EXIT_PEND = false → exec .idleStepDone s = .next u.idleStep) ∧
  (∀ (s : State), s.md.rest = .awake → s.md.exiting = false → s.is MD_IDLE_STAT_STEPPING = true → s.stepMet = true →
    let u := (s.inc MD_IDLE_STAT_LEVEL).off MD_IDLE_STAT_STEPPING
    u.is MD_IDLE_STAT_EXIT_PEND = true → exec .idleStepDone s = .next u.exitStart) ∧
  (∀ (s : State), s.md.rest = .awake → s.md.exiting = true → s.exitDone = true →
    exec .idleStepDone s = .next ((s.mdU (fun m => { m with exiting := false })).off MD_IDLE_STAT_LEVEL)) ∧
  (∀ (s : State), s.md.rest = .draining → s.cm.table = [] → exec .idleStepDone s = .next s.restStop) ∧
  (∀ (s : State), s.is QM_HALT_HALTED = false → (s.mode = mService ∨ s.mode = mMaint) →
    (s.is MD_IDLE_STAT_STEPPING = true ∨ s.md.rest ≠ .awake) →
    exec .demand s = .next ((s.on MD_IDLE_STAT_EXIT_PEND).sat MD_PEND_CNT_COUNT 1)) ∧
  (∀ (s : State), s.is QM_HALT_HALTED = false → (s.mode = mService ∨ s.mode = mMaint) → s.is MD_IDLE_STAT_STEPPING = false →
    s.md.rest = .awake → s.md.exiting = false → s.is MD_IDLE_STAT_LEVEL = true → exec .demand s = .next s.exitStart) ∧
  (∀ (s : State), s.md.rest = .stopping → (upTo 4).all (fun i => decide (s.phase i = phStopped)) = true →
    let v := State.each (upTo s.ar.pe.length) (fun _ t => t.peDone) s
    let u := (State.each restOrder (fun f t =>
      if t.g (Func.st f) = stOff then t else ((t.stopEnd f).p (Func.st f) stOff).off (Func.pend f)) v).saveArrays
    exec .restSpindlesStopped s = .next (if v.restReady = true
      then (u.mdU (fun m => { m with rest := .saved, saved := u.restRegs })).off BM_CTL_STATE else s)) ∧
  (∀ (s : State), s.md.rest = .saved →
    let u := (((((s.off LK_CTL_STATE).passClose).raise 0x0F04 0 0).coreOff).inc MD_REST_CNT_COUNT).goMode mRest
    exec .restPowerOff s = .next (if s.is MD_IDLE_STAT_EXIT_PEND
      then (u.mdU (fun m => { m with rest := .waking false, gotoRest := false })).linkWake
      else u.mdU (fun m => { m with rest := .asleep, gotoRest := false }))) ∧
  (∀ (s : State) (trip : Bool), s.md.rest = .asleep →
    exec (.wake trip) s = .next (s.mdU (fun m => { m with
      rest := .waking trip, safeReq := if trip then 1 else m.safeReq })).linkWake) ∧
  (∀ (s : State), s.md.rest = .waking false → s.mode = mRest → (s.is LK_CTL_EN = true → s.g LK_CTL_STATE = stOn) →
    let u := ((s.blocksOn.causesFresh).doorbellsAll).mdU (fun m => { m with rest := .awake })
    exec .restExitComplete s = .next ((u.goMode mService).note MD_STAT_REST_EXIT 0x0F05 0 0).exitStart) ∧
  (∀ (s : State), s.md.rest = .waking true → s.mode = mRest → (s.is LK_CTL_EN = true → s.g LK_CTL_STATE = stOn) →
    let u := ((s.blocksOn.causesFresh).doorbellsAll).mdU (fun m => { m with rest := .awake })
    exec .restExitComplete s = .next (((u.note MD_STAT_REST_EXIT 0x0F05 0 0).safeNow
      (if u.md.safeReq = 0 then 1 else u.md.safeReq)).mdU (fun m => { m with safeReq := 0 })))
end

