-- ==== Sys2Proof/Laws/Tbl.lean ====
section
/-! SUPPORT. Laws/Tbl.lean: sparse tables and bytes of buffer memory: what a lookup finds after an update, and that every
update keeps the canonical form. -/

namespace Sys2Proof

open Machine

variable {α : Type}

/-! Lookups. -/

@[simp] theorem Tbl.find_drop_same (t : Tbl α) (k : Nat) : (Tbl.drop t k).find k = none := by
  induction t with
  | nil => rfl
  | cons x t ih =>
    obtain ⟨j, v⟩ := x
    by_cases h : j = k
    · simp [Tbl.drop, h, ih]
    · simp [Tbl.drop, h, Tbl.find, ih]

theorem Tbl.find_drop_other (t : Tbl α) {k j : Nat} (h : j ≠ k) : (Tbl.drop t k).find j = t.find j := by
  induction t with
  | nil => rfl
  | cons x t ih =>
    obtain ⟨i, v⟩ := x
    by_cases hi : i = k
    · have : i ≠ j := fun e => h (e ▸ hi)
      simp [Tbl.drop, hi, Tbl.find, ih, Ne.symm h]
    · simp only [Tbl.drop, hi, if_false, Tbl.find, ih]

@[simp] theorem Tbl.find_ins_same (t : Tbl α) (k : Nat) (v : α) : (Tbl.ins t k v).find k = some v := by
  induction t with
  | nil => simp [Tbl.ins, Tbl.find]
  | cons x t ih =>
    obtain ⟨j, y⟩ := x
    by_cases h : k < j
    · simp [Tbl.ins, h, Tbl.find]
    · by_cases h2 : k = j
      · simp [Tbl.ins, h2, Tbl.find]
      · simp [Tbl.ins, h, h2, Tbl.find, ih, Ne.symm h2]

theorem Tbl.find_ins_other (t : Tbl α) {k j : Nat} (v : α) (h : j ≠ k) : (Tbl.ins t k v).find j = t.find j := by
  induction t with
  | nil => simp [Tbl.ins, Tbl.find, Ne.symm h]
  | cons x t ih =>
    obtain ⟨i, y⟩ := x
    by_cases h1 : k < i
    · simp [Tbl.ins, h1, Tbl.find, Ne.symm h]
    · by_cases h2 : k = i
      · subst h2; simp [Tbl.ins, Tbl.find, Ne.symm h]
      · simp only [Tbl.ins, h1, h2, if_false, Tbl.find, ih]

@[simp] theorem Tbl.getD_putD_same [DecidableEq α] (t : Tbl α) (k : Nat) (d v : α) : (t.putD k d v).getD k d = v := by
  by_cases h : v = d
  · simp [Tbl.getD, Tbl.putD, h]
  · simp [Tbl.getD, Tbl.putD, h]

theorem Tbl.getD_putD_other [DecidableEq α] (t : Tbl α) {k j : Nat} (d v e : α) (h : j ≠ k) :
    (t.putD k d v).getD j e = t.getD j e := by
  unfold Tbl.getD Tbl.putD
  split
  · rw [Tbl.find_drop_other t h]
  · rw [Tbl.find_ins_other t v h]

@[simp] theorem Tbl.getD_nil (k : Nat) (d : α) : Tbl.getD ([] : Tbl α) k d = d := rfl

/-! The canonical form. Every key of the rest lies above the head's. -/

theorem Tbl.rising_iff (t : Tbl α) : t.rising = true ↔ (t.map Prod.fst).Pairwise (· < ·) := by
  induction t with
  | nil => simp [Tbl.rising]
  | cons x t ih =>
    obtain ⟨a, v⟩ := x
    match t, ih with
    | [], _ => simp [Tbl.rising]
    | (b, y) :: t, ih =>
      rw [Tbl.rising, Bool.and_eq_true, ih]
      simp only [decide_eq_true_eq, List.map_cons, List.pairwise_cons, List.mem_cons, forall_eq_or_imp]
      constructor
      · rintro ⟨h, h1, h2⟩; exact ⟨⟨h, fun z hz => Nat.lt_trans h (h1 z hz)⟩, h1, h2⟩
      · rintro ⟨⟨h, _⟩, h1, h2⟩; exact ⟨h, h1, h2⟩

theorem Tbl.mem_drop {t : Tbl α} {k : Nat} {c : Nat × α} (h : c ∈ Tbl.drop t k) : c ∈ t := by
  induction t with
  | nil => exact h
  | cons x t ih =>
    obtain ⟨j, v⟩ := x
    by_cases hj : j = k
    · simp only [Tbl.drop, hj, if_true] at h; exact List.mem_cons_of_mem _ (ih h)
    · simp only [Tbl.drop, hj, if_false, List.mem_cons] at h
      rcases h with h | h
      · exact h ▸ List.mem_cons_self
      · exact List.mem_cons_of_mem _ (ih h)

theorem Tbl.mem_ins {t : Tbl α} {k : Nat} {v : α} {c : Nat × α} (h : c ∈ Tbl.ins t k v) : c = (k, v) ∨ c ∈ t := by
  induction t with
  | nil => simpa [Tbl.ins] using h
  | cons x t ih =>
    obtain ⟨j, y⟩ := x
    by_cases h1 : k < j
    · simp only [Tbl.ins, h1, if_true, List.mem_cons] at h; simpa using h
    · by_cases h2 : k = j
      · simp only [Tbl.ins, h2, if_false, if_true, Nat.lt_irrefl, List.mem_cons] at h
        rcases h with h | h
        · exact .inl (h2 ▸ h)
        · exact .inr (List.mem_cons_of_mem _ h)
      · simp only [Tbl.ins, h1, h2, if_false, List.mem_cons] at h
        rcases h with h | h
        · exact .inr (h ▸ List.mem_cons_self)
        · exact (ih h).imp_right (List.mem_cons_of_mem _)

theorem Tbl.rising_drop {t : Tbl α} (k : Nat) (h : t.rising = true) : (Tbl.drop t k).rising = true := by
  rw [Tbl.rising_iff] at *
  induction t with
  | nil => exact h
  | cons x t ih =>
    obtain ⟨j, v⟩ := x
    rw [List.map_cons, List.pairwise_cons] at h
    by_cases hj : j = k
    · simp only [Tbl.drop, hj, if_true]; exact ih h.2
    · simp only [Tbl.drop, hj, if_false, List.map_cons, List.pairwise_cons]
      refine ⟨fun a ha => ?_, ih h.2⟩
      obtain ⟨c, hc, rfl⟩ := List.mem_map.mp ha
      exact h.1 _ (List.mem_map.mpr ⟨c, Tbl.mem_drop hc, rfl⟩)

theorem Tbl.rising_ins {t : Tbl α} (k : Nat) (v : α) (h : t.rising = true) : (Tbl.ins t k v).rising = true := by
  rw [Tbl.rising_iff] at *
  induction t with
  | nil => simp [Tbl.ins]
  | cons x t ih =>
    obtain ⟨j, y⟩ := x
    rw [List.map_cons, List.pairwise_cons] at h
    by_cases h1 : k < j
    · rw [Tbl.ins, if_pos h1, List.map_cons, List.map_cons, List.pairwise_cons, List.pairwise_cons]
      refine ⟨fun a ha => ?_, h.1, h.2⟩
      rcases List.mem_cons.mp ha with ha | ha
      · subst ha; exact h1
      · exact Nat.lt_trans h1 (h.1 a ha)
    · by_cases h2 : k = j
      · simp only [Tbl.ins, h2, if_true, Nat.lt_irrefl, if_false, List.map_cons, List.pairwise_cons]
        exact h
      · simp only [Tbl.ins, h1, h2, if_false, List.map_cons, List.pairwise_cons]
        refine ⟨fun a ha => ?_, ih h.2⟩
        obtain ⟨c, hc, rfl⟩ := List.mem_map.mp ha
        rcases Tbl.mem_ins hc with hc | hc
        · subst hc; show j < k; omega
        · exact h.1 _ (List.mem_map.mpr ⟨c, hc, rfl⟩)

theorem Tbl.rising_filter {t : Tbl α} (p : Nat × α → Bool) (h : t.rising = true) : Tbl.rising (t.filter p) = true := by
  rw [Tbl.rising_iff] at *
  exact h.sublist (List.filter_sublist.map _)

/-! Register tables. -/

theorem regsWf_putD {t : Tbl Word} (k : Nat) (v : Word) (h : regsWf t = true) : regsWf (t.putD k (resetVal k) v) = true := by
  simp only [regsWf, Bool.and_eq_true, List.all_eq_true, decide_eq_true_eq] at *
  unfold Tbl.putD
  split
  · exact ⟨Tbl.rising_drop _ h.1, fun c hc => h.2 c (Tbl.mem_drop hc)⟩
  · rename_i hv
    refine ⟨Tbl.rising_ins _ _ h.1, fun c hc => ?_⟩
    rcases Tbl.mem_ins hc with hc | hc
    · subst hc; exact hv
    · exact h.2 c hc

theorem regsWf_filter {t : Tbl Word} (p : Nat × Word → Bool) (h : regsWf t = true) : regsWf (t.filter p) = true := by
  simp only [regsWf, Bool.and_eq_true, List.all_eq_true, decide_eq_true_eq] at *
  exact ⟨Tbl.rising_filter p h.1, fun c hc => h.2 c (List.mem_of_mem_filter hc)⟩

theorem regsWf_nil : regsWf [] = true := rfl

/-! Buffer memory. -/

namespace Machine

theorem Memory.cells_spec (n : Nat) : ∀ (a v : Nat),
    Tbl.rising (Memory.cells a n v) = true ∧ ∀ c ∈ Memory.cells a n v, a ≤ c.1 ∧ c.1 < a + n ∧ c.2 ≠ 0 := by
  induction n with
  | zero => intro a v; exact ⟨rfl, by simp [Memory.cells]⟩
  | succ n ih =>
    intro a v
    obtain ⟨h1, h2⟩ := ih (a + 1) (v / 256)
    unfold Memory.cells
    split
    · refine ⟨h1, fun c hc => ?_⟩
      obtain ⟨x, y, z⟩ := h2 c hc
      exact ⟨by omega, by omega, z⟩
    · rename_i hv
      constructor
      · rw [Tbl.rising_iff] at *
        rw [List.map_cons, List.pairwise_cons]
        refine ⟨fun b hb => ?_, h1⟩
        obtain ⟨c, hc, rfl⟩ := List.mem_map.mp hb
        have := (h2 c hc).1
        show a < c.1; omega
      · intro c hc
        rw [List.mem_cons] at hc
        rcases hc with rfl | hc
        · refine ⟨Nat.le_refl _, by show a < a + (n + 1); omega, fun h => hv ?_⟩
          have := congrArg BitVec.toNat h
          simpa using this
        · obtain ⟨x, y, z⟩ := h2 c hc
          exact ⟨by omega, by omega, z⟩

theorem Memory.wf_wrN {m : List Host.Cell} (a n v : Nat) (h : Memory.wf m = true) : Memory.wf (Memory.wrN m a n v) = true := by
  simp only [Memory.wf, Bool.and_eq_true, List.all_eq_true, decide_eq_true_eq] at *
  obtain ⟨hr, hz⟩ := h
  obtain ⟨c1, c2⟩ := Memory.cells_spec n a v
  refine ⟨?_, fun c hc => ?_⟩
  · unfold Memory.wrN
    have l := Tbl.rising_filter (fun c => decide (c.1 < a)) hr
    have r := Tbl.rising_filter (fun c => decide (a + n ≤ c.1)) hr
    rw [Tbl.rising_iff] at *
    rw [List.map_append, List.map_append, List.pairwise_append, List.pairwise_append]
    refine ⟨⟨l, c1, ?_⟩, r, ?_⟩
    · intro x hx y hy
      obtain ⟨c, hc, rfl⟩ := List.mem_map.mp hx
      obtain ⟨d, hd, rfl⟩ := List.mem_map.mp hy
      have := (List.mem_filter.mp hc).2
      have h2 := (c2 d hd).1
      simp only [decide_eq_true_eq] at this; omega
    · intro x hx y hy
      obtain ⟨d, hd, rfl⟩ := List.mem_map.mp hy
      have hd' := (List.mem_filter.mp hd).2
      simp only [decide_eq_true_eq] at hd'
      rw [List.mem_append] at hx
      rcases hx with hx | hx
      · obtain ⟨c, hc, rfl⟩ := List.mem_map.mp hx
        have := (List.mem_filter.mp hc).2
        simp only [decide_eq_true_eq] at this; omega
      · obtain ⟨c, hc, rfl⟩ := List.mem_map.mp hx
        have := (c2 c hc).2.1
        omega
  · unfold Memory.wrN at hc
    rw [List.mem_append, List.mem_append] at hc
    rcases hc with (hc | hc) | hc
    · exact hz c (List.mem_of_mem_filter hc)
    · exact (c2 c hc).2.2
    · exact hz c (List.mem_of_mem_filter hc)

theorem Memory.wf_filter {m : List Host.Cell} (p : Host.Cell → Bool) (h : Memory.wf m = true) : Memory.wf (m.filter p) = true := by
  simp only [Memory.wf, Bool.and_eq_true, List.all_eq_true, decide_eq_true_eq] at *
  exact ⟨Tbl.rising_filter p h.1, fun c hc => h.2 c (List.mem_of_mem_filter hc)⟩

theorem Memory.wf_wr {m : List Host.Cell} (a : Nat) (v : BitVec 8) (h : Memory.wf m = true) : Memory.wf (Memory.wr m a v) = true := by
  simp only [Memory.wf, Bool.and_eq_true, List.all_eq_true, decide_eq_true_eq] at *
  unfold Memory.wr Tbl.putD
  split
  · exact ⟨Tbl.rising_drop _ h.1, fun c hc => h.2 c (Tbl.mem_drop hc)⟩
  · rename_i hv
    refine ⟨Tbl.rising_ins _ _ h.1, fun c hc => ?_⟩
    rcases Tbl.mem_ins hc with hc | hc
    · subst hc; exact hv
    · exact h.2 c hc

end Machine

end Sys2Proof
end

