-- ==== Sys2Proof/Laws/State.lean ====
section
/-! SUPPORT. Laws/State.lean: what registers and their fields read after an update, and what each update of a part of
the state leaves in the others. -/

namespace Sys2Proof

/-! Bit fields. -/

theorem fieldOf_lt (v : Word) (lo w : Nat) : fieldOf v lo w < 2 ^ w := Nat.mod_lt _ (Nat.two_pow_pos w)

/-- A number cut at two places. -/
theorem split_at_field (n lo w : Nat) :
    n = n / 2 ^ (lo + w) * 2 ^ (lo + w) + (n / 2 ^ lo % 2 ^ w) * 2 ^ lo + n % 2 ^ lo := by
  have h1 := Nat.div_add_mod n (2 ^ lo)
  have h2 := Nat.div_add_mod (n / 2 ^ lo) (2 ^ w)
  rw [Nat.div_div_eq_div_mul, ← Nat.pow_add] at h2
  have e : 2 ^ (lo + w) = 2 ^ lo * 2 ^ w := Nat.pow_add ..
  calc n = 2 ^ lo * (n / 2 ^ lo) + n % 2 ^ lo := h1.symm
    _ = 2 ^ lo * (2 ^ w * (n / 2 ^ (lo + w)) + n / 2 ^ lo % 2 ^ w) + n % 2 ^ lo := by rw [h2]
    _ = _ := by rw [e]; ring

/-- The number a field write leaves. -/
theorem setField_toNat (v : Word) {lo w : Nat} (x : Nat) (h : lo + w ≤ 32) :
    (setField v lo w x).toNat =
      v.toNat / 2 ^ (lo + w) * 2 ^ (lo + w) + (x % 2 ^ w) * 2 ^ lo + v.toNat % 2 ^ lo := by
  have hv := v.isLt
  have hs := split_at_field v.toNat lo w
  have hx := Nat.mod_lt x (Nat.two_pow_pos w)
  have hl := Nat.mod_lt v.toNat (Nat.two_pow_pos lo)
  have e : 2 ^ (lo + w) = 2 ^ lo * 2 ^ w := Nat.pow_add ..
  obtain ⟨k, hk⟩ := Nat.exists_eq_add_of_le h
  have e32 : 2 ^ 32 = 2 ^ (lo + w) * 2 ^ k := by rw [← Nat.pow_add, ← hk]
  have hq : v.toNat / 2 ^ (lo + w) < 2 ^ k := by
    rw [Nat.div_lt_iff_lt_mul (Nat.two_pow_pos _), Nat.mul_comm, ← e32]; exact hv
  have hb : (x % 2 ^ w) * 2 ^ lo + v.toNat % 2 ^ lo < 2 ^ (lo + w) := by
    have : (x % 2 ^ w + 1) * 2 ^ lo ≤ 2 ^ w * 2 ^ lo := Nat.mul_le_mul_right _ hx
    rw [e, Nat.mul_comm (2 ^ lo)]
    rw [Nat.add_mul] at this; omega
  have hlt : v.toNat / 2 ^ (lo + w) * 2 ^ (lo + w) + (x % 2 ^ w) * 2 ^ lo + v.toNat % 2 ^ lo < 2 ^ 32 := by
    have : (v.toNat / 2 ^ (lo + w) + 1) * 2 ^ (lo + w) ≤ 2 ^ k * 2 ^ (lo + w) := Nat.mul_le_mul_right _ hq
    rw [e32, Nat.mul_comm (2 ^ (lo + w)) (2 ^ k)]
    rw [Nat.add_mul] at this; omega
  unfold setField fieldOf
  rw [BitVec.toNat_ofNat, Nat.mod_eq_of_lt]
  · omega
  · omega

@[simp] theorem fieldOf_setField_same (v : Word) {lo w : Nat} (x : Nat) (h : lo + w ≤ 32) :
    fieldOf (setField v lo w x) lo w = x % 2 ^ w := by
  have hx := Nat.mod_lt x (Nat.two_pow_pos w)
  have hl := Nat.mod_lt v.toNat (Nat.two_pow_pos lo)
  have e : 2 ^ (lo + w) = 2 ^ lo * 2 ^ w := Nat.pow_add ..
  unfold fieldOf
  rw [setField_toNat v x h]
  have : v.toNat / 2 ^ (lo + w) * 2 ^ (lo + w) + (x % 2 ^ w) * 2 ^ lo + v.toNat % 2 ^ lo =
      v.toNat % 2 ^ lo + 2 ^ lo * (v.toNat / 2 ^ (lo + w) * 2 ^ w + x % 2 ^ w) := by rw [e]; ring
  rw [this, Nat.add_mul_div_left _ _ (Nat.two_pow_pos lo), Nat.div_eq_of_lt hl, Nat.zero_add,
    Nat.add_comm, Nat.add_mul_mod_self_right, Nat.mod_eq_of_lt hx]

/-- A field below the one written. -/
theorem fieldOf_setField_below (v : Word) {lo w a b : Nat} (x : Nat) (h : lo + w ≤ 32) (hb : a + b ≤ lo) :
    fieldOf (setField v lo w x) a b = fieldOf v a b := by
  obtain ⟨k, hk⟩ := Nat.exists_eq_add_of_le hb
  unfold fieldOf
  rw [setField_toNat v x h]
  conv_rhs => rw [split_at_field v.toNat lo w]
  have key : ∀ m r : Nat, (m * 2 ^ (lo + w) + r * 2 ^ lo + v.toNat % 2 ^ lo) / 2 ^ a % 2 ^ b =
      (v.toNat % 2 ^ lo) / 2 ^ a % 2 ^ b := by
    intro m r
    have : m * 2 ^ (lo + w) + r * 2 ^ lo + v.toNat % 2 ^ lo =
        v.toNat % 2 ^ lo + 2 ^ a * (2 ^ b * (2 ^ k * (m * 2 ^ w + r))) := by
      have e : 2 ^ lo = 2 ^ a * 2 ^ b * 2 ^ k := by rw [hk, Nat.pow_add, Nat.pow_add]
      rw [Nat.pow_add, e]; ring
    rw [this, Nat.add_mul_div_left _ _ (Nat.two_pow_pos a), Nat.add_mul_mod_self_left]
  rw [key, key]

/-- A field above the one written. -/
theorem fieldOf_setField_above (v : Word) {lo w a b : Nat} (x : Nat) (h : lo + w ≤ 32) (hb : lo + w ≤ a) :
    fieldOf (setField v lo w x) a b = fieldOf v a b := by
  obtain ⟨k, hk⟩ := Nat.exists_eq_add_of_le hb
  have hx := Nat.mod_lt x (Nat.two_pow_pos w)
  have hl := Nat.mod_lt v.toNat (Nat.two_pow_pos lo)
  have hlw : ∀ r < 2 ^ w, r * 2 ^ lo + v.toNat % 2 ^ lo < 2 ^ (lo + w) := by
    intro r hr
    have : (r + 1) * 2 ^ lo ≤ 2 ^ w * 2 ^ lo := Nat.mul_le_mul_right _ hr
    rw [Nat.pow_add, Nat.mul_comm (2 ^ lo)]
    rw [Nat.add_mul] at this; omega
  have hd : (setField v lo w x).toNat / 2 ^ (lo + w) = v.toNat / 2 ^ (lo + w) := by
    rw [setField_toNat v x h, Nat.add_assoc, Nat.mul_comm, Nat.mul_add_div (Nat.two_pow_pos _),
      Nat.div_eq_of_lt (hlw _ hx), Nat.add_zero]
  unfold fieldOf
  rw [hk, Nat.pow_add, ← Nat.div_div_eq_div_mul, ← Nat.div_div_eq_div_mul, hd]

theorem setField_setField (v : Word) {lo w : Nat} (x y : Nat) (h : lo + w ≤ 32) :
    setField (setField v lo w x) lo w y = setField v lo w y := by
  have hx := Nat.mod_lt x (Nat.two_pow_pos w)
  have hl := Nat.mod_lt v.toNat (Nat.two_pow_pos lo)
  apply BitVec.eq_of_toNat_eq
  rw [setField_toNat _ y h, setField_toNat v y h]
  have hd : (setField v lo w x).toNat / 2 ^ (lo + w) = v.toNat / 2 ^ (lo + w) := by
    have := fieldOf_setField_above v (a := lo + w) (b := 32) x h (Nat.le_refl _)
    unfold fieldOf at this
    have l1 : (setField v lo w x).toNat / 2 ^ (lo + w) < 2 ^ 32 :=
      Nat.lt_of_le_of_lt (Nat.div_le_self _ _) (setField v lo w x).isLt
    have l2 : v.toNat / 2 ^ (lo + w) < 2 ^ 32 := Nat.lt_of_le_of_lt (Nat.div_le_self _ _) v.isLt
    rwa [Nat.mod_eq_of_lt l1, Nat.mod_eq_of_lt l2] at this
  have hm : (setField v lo w x).toNat % 2 ^ lo = v.toNat % 2 ^ lo := by
    have := fieldOf_setField_below v (a := 0) (b := lo) x h (Nat.le_of_eq (Nat.zero_add _))
    simpa [fieldOf] using this
  rw [hd, hm]

namespace Machine

open Reg

/-! Registers. -/

@[simp] theorem State.rd_wr_same (s : State) (a : Nat) (v : Word) : (s.wr a v).rd a = v :=
  Tbl.getD_putD_same ..

theorem State.rd_wr_other (s : State) {a b : Nat} (v : Word) (h : b ≠ a) : (s.wr a v).rd b = s.rd b :=
  Tbl.getD_putD_other _ _ _ _ h

/-- A field reads what was written to it, modulo its width. -/
theorem State.g_p_same (s : State) (f : RF) (x : Nat) (h : f.lo + f.w ≤ 32) : (s.p f x).g f = x % 2 ^ f.w := by
  unfold State.g State.p
  rw [State.rd_wr_same, fieldOf_setField_same _ _ h]

/-- A field of another register reads as before. -/
theorem State.g_p_reg (s : State) {f r : RF} (x : Nat) (h : r.addr ≠ f.addr) : (s.p f x).g r = s.g r := by
  unfold State.g State.p
  rw [State.rd_wr_other _ _ h]

/-- A field beside the one written reads as before. -/
theorem State.g_p_field (s : State) {f r : RF} (x : Nat) (a : r.addr = f.addr) (h : f.lo + f.w ≤ 32)
    (d : r.lo + r.w ≤ f.lo ∨ f.lo + f.w ≤ r.lo) : (s.p f x).g r = s.g r := by
  unfold State.g State.p
  rw [a, State.rd_wr_same]
  exact d.elim (fieldOf_setField_below _ _ h) (fieldOf_setField_above _ _ h)

/-- A register but the one written reads as before. -/
theorem State.rd_p_other (s : State) {f : RF} {b : Nat} (x : Nat) (h : b ≠ f.addr) : (s.p f x).rd b = s.rd b :=
  State.rd_wr_other _ _ h

@[simp] theorem State.rd_p_same (s : State) (f : RF) (x : Nat) :
    (s.p f x).rd f.addr = setField (s.rd f.addr) f.lo f.w x := State.rd_wr_same ..

end Machine

end Sys2Proof
end

