-- ==== Sys2Proof/Laws/Frame.lean ====
section
/-! SUPPORT. Laws/Frame.lean: what an operation may touch. A mask names the parts of the state; `Fr M s t` says that `t`
differs from `s` only in parts that `M` names, that the queue is untouched, and that the invariant is kept. -/

namespace Sys2Proof.Machine

open Reg

/-- Every part of the first mask is a part of the second. -/
def Mask.le (a b : Mask) : Bool :=
  (!a.now || b.now) &&
  (!a.free || b.free) &&
  (!a.rdata || b.rdata) &&
  (!a.sent || b.sent) &&
  (!a.ev || b.ev) &&
  (!a.unitT || b.unitT) &&
  (!a.ft || b.ft) &&
  (!a.pw || b.pw) &&
  (!a.sf || b.sf) &&
  (!a.md || b.md) &&
  (!a.chT || b.chT) &&
  (!a.paT || b.paT) &&
  (!a.ldT || b.ldT) &&
  (!a.actT || b.actT) &&
  (!a.acc0 || b.acc0) &&
  (!a.acc1 || b.acc1) &&
  (!a.spT || b.spT) &&
  (!a.spWait || b.spWait) &&
  (!a.ar || b.ar) &&
  (!a.jn || b.jn) &&
  (!a.rb || b.rb) &&
  (!a.lk || b.lk) &&
  (!a.qm || b.qm) &&
  (!a.cm || b.cm) &&
  (!a.hc || b.hc) &&
  (!a.dm || b.dm) &&
  (!a.hwt || b.hwt) &&
  (!a.bm || b.bm) &&
  (!a.mem || b.mem) &&
  (!a.mc || b.mc) &&
  (!a.bt || b.bt) &&
  (!a.fuse || b.fuse) &&
  (!a.revoked || b.revoked) &&
  (!a.store || b.store) &&
  (!a.r4 || b.r4) &&
  (!a.rmd || b.rmd) &&
  (!a.rbt || b.rbt) &&
  (!a.rpw || b.rpw) &&
  (!a.rsf || b.rsf)

/-- A write of the register at `a` stays within the parts. -/
def Mask.ok (M : Mask) (a : Nat) : Prop :=
  a ≠ 4 ∧ (M.rmd = true ∨ 0x10000 ≤ a) ∧ (M.rbt = true ∨ a < 0x10000 ∨ 0x20000 ≤ a) ∧ (M.rpw = true ∨ a < 0x20000 ∨ 0x28000 ≤ a) ∧ (M.rsf = true ∨ a < 0x28000 ∨ 0x30000 ≤ a)

/-- What changed is within the parts of the mask. -/
structure Fr (M : Mask) (s t : State) : Prop where
  pending : t.pending = s.pending
  now : M.now = true ∨ t.now = s.now
  free : M.free = true ∨ t.freeCtr = s.freeCtr
  rdata : M.rdata = true ∨ t.rdata = s.rdata
  sent : M.sent = true ∨ t.sent = s.sent
  ev : M.ev = true ∨ t.ev = s.ev
  unitT : M.unitT = true ∨ t.unitT = s.unitT
  ft : M.ft = true ∨ t.ft = s.ft
  pw : M.pw = true ∨ t.pw = s.pw
  sf : M.sf = true ∨ t.sf = s.sf
  md : M.md = true ∨ t.md = s.md
  chT : M.chT = true ∨ t.chT = s.chT
  paT : M.paT = true ∨ t.paT = s.paT
  ldT : M.ldT = true ∨ t.ldT = s.ldT
  actT : M.actT = true ∨ t.actT = s.actT
  acc0 : M.acc0 = true ∨ t.acc0 = s.acc0
  acc1 : M.acc1 = true ∨ t.acc1 = s.acc1
  spT : M.spT = true ∨ t.spT = s.spT
  spWait : M.spWait = true ∨ t.spWait = s.spWait
  ar : M.ar = true ∨ t.ar = s.ar
  jn : M.jn = true ∨ t.jn = s.jn
  rb : M.rb = true ∨ t.rb = s.rb
  lk : M.lk = true ∨ t.lk = s.lk
  qm : M.qm = true ∨ t.qm = s.qm
  cm : M.cm = true ∨ t.cm = s.cm
  hc : M.hc = true ∨ t.hc = s.hc
  dm : M.dm = true ∨ t.dm = s.dm
  hwt : M.hwt = true ∨ t.dm.hwt = s.dm.hwt
  bm : M.bm = true ∨ t.bm = s.bm
  mem : M.mem = true ∨ t.bm.mem = s.bm.mem
  mc : M.mc = true ∨ t.mc = s.mc
  bt : M.bt = true ∨ t.bt = s.bt
  fuse : M.fuse = true ∨ t.bt.fuse = s.bt.fuse
  revoked : M.revoked = true ∨ t.bt.revoked = s.bt.revoked
  store : M.store = true ∨ t.bt.store = s.bt.store
  r4 : M.r4 = true ∨ t.rd 4 = s.rd 4
  rmd : M.rmd = true ∨ ∀ a, a < 0x10000 → a ≠ 4 → t.rd a = s.rd a
  rbt : M.rbt = true ∨ ∀ a, 0x10000 ≤ a → a < 0x20000 → t.rd a = s.rd a
  rpw : M.rpw = true ∨ ∀ a, 0x20000 ≤ a → a < 0x28000 → t.rd a = s.rd a
  rsf : M.rsf = true ∨ ∀ a, 0x28000 ≤ a → a < 0x30000 → t.rd a = s.rd a
  inv : s.Inv → t.Inv

theorem Fr.refl (M : Mask) (s : State) : Fr M s s :=
  ⟨rfl, .inr rfl, .inr rfl, .inr rfl, .inr rfl, .inr rfl, .inr rfl, .inr rfl, .inr rfl, .inr rfl, .inr rfl, .inr rfl, .inr rfl, .inr rfl, .inr rfl, .inr rfl, .inr rfl, .inr rfl, .inr rfl, .inr rfl, .inr rfl, .inr rfl, .inr rfl, .inr rfl, .inr rfl, .inr rfl, .inr rfl, .inr rfl, .inr rfl, .inr rfl, .inr rfl, .inr rfl, .inr rfl, .inr rfl, .inr rfl, .inr rfl, .inr (fun _ _ _ => rfl), .inr (fun _ _ _ => rfl), .inr (fun _ _ _ => rfl), .inr (fun _ _ _ => rfl), id⟩

theorem Fr.or {α : Type} {p q : Bool} {x y z : α} (h : p = true ∨ y = x) (hm : (!q || p) = true) (k : q = true ∨ z = y) :
    p = true ∨ z = x := by
  cases p <;> cases q <;> simp_all

theorem Fr.orAll {p q : Bool} {x y z : Nat → Word} {R : Nat → Prop} (h : p = true ∨ ∀ a, R a → y a = x a)
    (hm : (!q || p) = true) (k : q = true ∨ ∀ a, R a → z a = y a) : p = true ∨ ∀ a, R a → z a = x a := by
  cases p
  · cases q
    · simp only [Bool.false_eq_true, false_or] at *
      exact fun a r => (k a r).trans (h a r)
    · simp at hm
  · exact .inl rfl

/-- One operation after others. -/
theorem Fr.via {M N : Mask} {s t u : State} (k : Fr N t u) (hm : N.le M = true) (h : Fr M s t) : Fr M s u := by
  unfold Mask.le at hm
  simp only [Bool.and_eq_true, and_assoc] at hm
  obtain ⟨m0, m1, m2, m3, m4, m5, m6, m7, m8, m9, m10, m11, m12, m13, m14, m15, m16, m17, m18, m19, m20, m21, m22, m23, m24, m25, m26, m27, m28, m29, m30, m31, m32, m33, m34, m35, m36, m37, m38⟩ := hm
  refine ⟨k.pending.trans h.pending, Fr.or h.now m0 k.now, Fr.or h.free m1 k.free, Fr.or h.rdata m2 k.rdata, Fr.or h.sent m3 k.sent, Fr.or h.ev m4 k.ev, Fr.or h.unitT m5 k.unitT, Fr.or h.ft m6 k.ft, Fr.or h.pw m7 k.pw, Fr.or h.sf m8 k.sf, Fr.or h.md m9 k.md, Fr.or h.chT m10 k.chT, Fr.or h.paT m11 k.paT, Fr.or h.ldT m12 k.ldT, Fr.or h.actT m13 k.actT, Fr.or h.acc0 m14 k.acc0, Fr.or h.acc1 m15 k.acc1, Fr.or h.spT m16 k.spT, Fr.or h.spWait m17 k.spWait, Fr.or h.ar m18 k.ar, Fr.or h.jn m19 k.jn, Fr.or h.rb m20 k.rb, Fr.or h.lk m21 k.lk, Fr.or h.qm m22 k.qm, Fr.or h.cm m23 k.cm, Fr.or h.hc m24 k.hc, Fr.or h.dm m25 k.dm, Fr.or h.hwt m26 k.hwt, Fr.or h.bm m27 k.bm, Fr.or h.mem m28 k.mem, Fr.or h.mc m29 k.mc, Fr.or h.bt m30 k.bt, Fr.or h.fuse m31 k.fuse, Fr.or h.revoked m32 k.revoked, Fr.or h.store m33 k.store, Fr.or h.r4 m34 k.r4, ?_, ?_, ?_, ?_,
    fun i => k.inv (h.inv i)⟩
  · have := Fr.orAll (R := fun a => a < 0x10000 ∧ a ≠ 4) (h.rmd.imp_right fun f a r => f a r.1 r.2) m35
      (k.rmd.imp_right fun f a r => f a r.1 r.2)
    exact this.imp_right fun f a x y => f a ⟨x, y⟩
  · have := Fr.orAll (R := fun a => 0x10000 ≤ a ∧ a < 0x20000) (h.rbt.imp_right fun f a r => f a r.1 r.2) m36
      (k.rbt.imp_right fun f a r => f a r.1 r.2)
    exact this.imp_right fun f a x y => f a ⟨x, y⟩
  · have := Fr.orAll (R := fun a => 0x20000 ≤ a ∧ a < 0x28000) (h.rpw.imp_right fun f a r => f a r.1 r.2) m37
      (k.rpw.imp_right fun f a r => f a r.1 r.2)
    exact this.imp_right fun f a x y => f a ⟨x, y⟩
  · have := Fr.orAll (R := fun a => 0x28000 ≤ a ∧ a < 0x30000) (h.rsf.imp_right fun f a r => f a r.1 r.2) m38
      (k.rsf.imp_right fun f a r => f a r.1 r.2)
    exact this.imp_right fun f a x y => f a ⟨x, y⟩

theorem Fr.tr {M : Mask} {s t u : State} (k : Fr M t u) (h : Fr M s t) : Fr M s u := Fr.via k (by simp [Mask.le]) h

/-- An update that touches no register, no saved register and no byte of buffer memory, as the new state is written. -/
theorem Fr.leaf {M : Mask} {s : State} {x_pending : List Instr} {x_now : Nat} {x_regs : Tbl Word} {x_freeCtr : Nat} {x_rdata : Word} {x_sent : List OutFrame} {x_ev : EvState} {x_unitT : Tbl UnitState} {x_ft : FtState} {x_pw : PwState} {x_sf : SfState} {x_md : MdState} {x_chT : Tbl ChState} {x_paT : Tbl PaState} {x_ldT : Tbl LdState} {x_actT : Tbl ActState} {x_acc0 : AccState} {x_acc1 : AccState} {x_spT : Tbl SpState} {x_spWait : List Nat} {x_ar : ArState} {x_jn : JnState} {x_rb : RbState} {x_lk : LkState} {x_qm : QmState} {x_cm : CmState} {x_hc : HcState} {x_dm : DmState} {x_bm : BmState} {x_mc : McState} {x_bt : BtState}
    (hp : x_pending = s.pending) (hr : x_regs = s.regs) (hs : x_md.saved = s.md.saved) (hmem : x_bm.mem = s.bm.mem)
    (h_now : M.now = true ∨ x_now = s.now)
    (h_free : M.free = true ∨ x_freeCtr = s.freeCtr)
    (h_rdata : M.rdata = true ∨ x_rdata = s.rdata)
    (h_sent : M.sent = true ∨ x_sent = s.sent)
    (h_ev : M.ev = true ∨ x_ev = s.ev)
    (h_unitT : M.unitT = true ∨ x_unitT = s.unitT)
    (h_ft : M.ft = true ∨ x_ft = s.ft)
    (h_pw : M.pw = true ∨ x_pw = s.pw)
    (h_sf : M.sf = true ∨ x_sf = s.sf)
    (h_md : M.md = true ∨ x_md = s.md)
    (h_chT : M.chT = true ∨ x_chT = s.chT)
    (h_paT : M.paT = true ∨ x_paT = s.paT)
    (h_ldT : M.ldT = true ∨ x_ldT = s.ldT)
    (h_actT : M.actT = true ∨ x_actT = s.actT)
    (h_acc0 : M.acc0 = true ∨ x_acc0 = s.acc0)
    (h_acc1 : M.acc1 = true ∨ x_acc1 = s.acc1)
    (h_spT : M.spT = true ∨ x_spT = s.spT)
    (h_spWait : M.spWait = true ∨ x_spWait = s.spWait)
    (h_ar : M.ar = true ∨ x_ar = s.ar)
    (h_jn : M.jn = true ∨ x_jn = s.jn)
    (h_rb : M.rb = true ∨ x_rb = s.rb)
    (h_lk : M.lk = true ∨ x_lk = s.lk)
    (h_qm : M.qm = true ∨ x_qm = s.qm)
    (h_cm : M.cm = true ∨ x_cm = s.cm)
    (h_hc : M.hc = true ∨ x_hc = s.hc)
    (h_dm : M.dm = true ∨ x_dm = s.dm)
    (h_hwt : M.hwt = true ∨ x_dm.hwt = s.dm.hwt)
    (h_bm : M.bm = true ∨ x_bm = s.bm)
    (h_mc : M.mc = true ∨ x_mc = s.mc)
    (h_bt : M.bt = true ∨ x_bt = s.bt)
    (h_fuse : M.fuse = true ∨ x_bt.fuse = s.bt.fuse)
    (h_revoked : M.revoked = true ∨ x_bt.revoked = s.bt.revoked)
    (h_store : M.store = true ∨ x_bt.store = s.bt.store) :
    Fr M s ⟨x_pending, x_now, x_regs, x_freeCtr, x_rdata, x_sent, x_ev, x_unitT, x_ft, x_pw, x_sf, x_md, x_chT, x_paT, x_ldT, x_actT, x_acc0, x_acc1, x_spT, x_spWait, x_ar, x_jn, x_rb, x_lk, x_qm, x_cm, x_hc, x_dm, x_bm, x_mc, x_bt⟩ := by
  subst hr
  refine ⟨hp, h_now, h_free, h_rdata, h_sent, h_ev, h_unitT, h_ft, h_pw, h_sf, h_md, h_chT, h_paT, h_ldT, h_actT, h_acc0, h_acc1, h_spT, h_spWait, h_ar, h_jn, h_rb, h_lk, h_qm, h_cm, h_hc, h_dm, h_hwt, h_bm, .inr hmem, h_mc, h_bt, h_fuse, h_revoked, h_store, .inr rfl, .inr fun _ _ _ => rfl,
    .inr fun _ _ _ => rfl, .inr fun _ _ _ => rfl, .inr fun _ _ _ => rfl, fun i => ?_⟩
  obtain ⟨⟨c1, c2, c3⟩, l⟩ := i
  refine ⟨⟨c1, ?_, ?_⟩, l⟩
  · show regsWf x_md.saved = true
    rw [hs]; exact c2
  · show Memory.wf x_bm.mem = true
    rw [hmem]; exact c3

theorem Fr.leafB {M : Mask} {z s : State} {x_pending : List Instr} {x_now : Nat} {x_regs : Tbl Word} {x_freeCtr : Nat} {x_rdata : Word} {x_sent : List OutFrame} {x_ev : EvState} {x_unitT : Tbl UnitState} {x_ft : FtState} {x_pw : PwState} {x_sf : SfState} {x_md : MdState} {x_chT : Tbl ChState} {x_paT : Tbl PaState} {x_ldT : Tbl LdState} {x_actT : Tbl ActState} {x_acc0 : AccState} {x_acc1 : AccState} {x_spT : Tbl SpState} {x_spWait : List Nat} {x_ar : ArState} {x_jn : JnState} {x_rb : RbState} {x_lk : LkState} {x_qm : QmState} {x_cm : CmState} {x_hc : HcState} {x_dm : DmState} {x_bm : BmState} {x_mc : McState} {x_bt : BtState}
    (hp : x_pending = s.pending) (hr : x_regs = s.regs) (hs : x_md.saved = s.md.saved) (hmem : x_bm.mem = s.bm.mem)
    (h_now : M.now = true ∨ x_now = s.now)
    (h_free : M.free = true ∨ x_freeCtr = s.freeCtr)
    (h_rdata : M.rdata = true ∨ x_rdata = s.rdata)
    (h_sent : M.sent = true ∨ x_sent = s.sent)
    (h_ev : M.ev = true ∨ x_ev = s.ev)
    (h_unitT : M.unitT = true ∨ x_unitT = s.unitT)
    (h_ft : M.ft = true ∨ x_ft = s.ft)
    (h_pw : M.pw = true ∨ x_pw = s.pw)
    (h_sf : M.sf = true ∨ x_sf = s.sf)
    (h_md : M.md = true ∨ x_md = s.md)
    (h_chT : M.chT = true ∨ x_chT = s.chT)
    (h_paT : M.paT = true ∨ x_paT = s.paT)
    (h_ldT : M.ldT = true ∨ x_ldT = s.ldT)
    (h_actT : M.actT = true ∨ x_actT = s.actT)
    (h_acc0 : M.acc0 = true ∨ x_acc0 = s.acc0)
    (h_acc1 : M.acc1 = true ∨ x_acc1 = s.acc1)
    (h_spT : M.spT = true ∨ x_spT = s.spT)
    (h_spWait : M.spWait = true ∨ x_spWait = s.spWait)
    (h_ar : M.ar = true ∨ x_ar = s.ar)
    (h_jn : M.jn = true ∨ x_jn = s.jn)
    (h_rb : M.rb = true ∨ x_rb = s.rb)
    (h_lk : M.lk = true ∨ x_lk = s.lk)
    (h_qm : M.qm = true ∨ x_qm = s.qm)
    (h_cm : M.cm = true ∨ x_cm = s.cm)
    (h_hc : M.hc = true ∨ x_hc = s.hc)
    (h_dm : M.dm = true ∨ x_dm = s.dm)
    (h_hwt : M.hwt = true ∨ x_dm.hwt = s.dm.hwt)
    (h_bm : M.bm = true ∨ x_bm = s.bm)
    (h_mc : M.mc = true ∨ x_mc = s.mc)
    (h_bt : M.bt = true ∨ x_bt = s.bt)
    (h_fuse : M.fuse = true ∨ x_bt.fuse = s.bt.fuse)
    (h_revoked : M.revoked = true ∨ x_bt.revoked = s.bt.revoked)
    (h_store : M.store = true ∨ x_bt.store = s.bt.store)
    (h : Fr M z s) : Fr M z ⟨x_pending, x_now, x_regs, x_freeCtr, x_rdata, x_sent, x_ev, x_unitT, x_ft, x_pw, x_sf, x_md, x_chT, x_paT, x_ldT, x_actT, x_acc0, x_acc1, x_spT, x_spWait, x_ar, x_jn, x_rb, x_lk, x_qm, x_cm, x_hc, x_dm, x_bm, x_mc, x_bt⟩ :=
  Fr.tr (Fr.leaf hp hr hs hmem h_now h_free h_rdata h_sent h_ev h_unitT h_ft h_pw h_sf h_md h_chT h_paT h_ldT h_actT h_acc0 h_acc1 h_spT h_spWait h_ar h_jn h_rb h_lk h_qm h_cm h_hc h_dm h_hwt h_bm h_mc h_bt h_fuse h_revoked h_store) h

/-- A register write. -/
theorem Fr.wr {M : Mask} {s : State} {a : Nat} {v : Word} (ok : M.ok a) : Fr M s (s.wr a v) := by
  obtain ⟨o4, o0, o1, o2, o3⟩ := ok
  have rd : ∀ b, b ≠ a → (s.wr a v).rd b = s.rd b := fun b h => State.rd_wr_other _ _ h
  have r4 : (s.wr a v).rd 4 = s.rd 4 := rd 4 (Ne.symm o4)
  refine ⟨rfl, .inr rfl, .inr rfl, .inr rfl, .inr rfl, .inr rfl, .inr rfl, .inr rfl, .inr rfl, .inr rfl, .inr rfl, .inr rfl, .inr rfl, .inr rfl, .inr rfl, .inr rfl, .inr rfl, .inr rfl, .inr rfl, .inr rfl, .inr rfl, .inr rfl, .inr rfl, .inr rfl, .inr rfl, .inr rfl, .inr rfl, .inr rfl, .inr rfl, .inr rfl, .inr rfl, .inr rfl, .inr rfl, .inr rfl, .inr rfl, .inr r4, ?_, ?_, ?_, ?_, fun i => ?_⟩
  · exact o0.imp_right fun h b x _ => rd b (by omega)
  · exact o1.imp_right fun h b x y => rd b (by omega)
  · exact o2.imp_right fun h b x y => rd b (by omega)
  · exact o3.imp_right fun h b x y => rd b (by omega)
  · obtain ⟨⟨c1, c2, c3⟩, l⟩ := i
    refine ⟨⟨regsWf_putD _ _ c1, c2, c3⟩, ?_⟩
    unfold State.LegalMode State.mode State.g at *
    have e : MD_MODE_MODE.addr = 4 := rfl
    have e' : MD_MODE_PREV.addr = 4 := rfl
    rw [e, e', r4]; rw [e, e'] at l; exact l

theorem Fr.p {M : Mask} {s : State} {f : RF} {x : Nat} (ok : M.ok f.addr) : Fr M s (s.p f x) := Fr.wr ok

/-- A write of a field of MD_MODE: a mode of R630, or a field beside MODE and PREV. -/
theorem Fr.pMode {M : Mask} {s : State} {f : RF} {x : Nat} (r4 : M.r4 = true) (ha : f.addr = 4)
    (hf : (f = MD_MODE_MODE ∨ f = MD_MODE_PREV) ∧ (s.LegalMode → x ≤ 5) ∨ 6 ≤ f.lo ∧ f.lo + f.w ≤ 32) : Fr M s (s.p f x) := by
  have rd : ∀ b, b ≠ 4 → (s.p f x).rd b = s.rd b := fun b h => State.rd_p_other _ _ (ha ▸ h)
  refine ⟨rfl, .inr rfl, .inr rfl, .inr rfl, .inr rfl, .inr rfl, .inr rfl, .inr rfl, .inr rfl, .inr rfl, .inr rfl, .inr rfl, .inr rfl, .inr rfl, .inr rfl, .inr rfl, .inr rfl, .inr rfl, .inr rfl, .inr rfl, .inr rfl, .inr rfl, .inr rfl, .inr rfl, .inr rfl, .inr rfl, .inr rfl, .inr rfl, .inr rfl, .inr rfl, .inr rfl, .inr rfl, .inr rfl, .inr rfl, .inr rfl, .inl r4, ?_, ?_, ?_, ?_, fun i => ?_⟩
  · exact .inr fun b _ y => rd b y
  · exact .inr fun b x _ => rd b (by omega)
  · exact .inr fun b x _ => rd b (by omega)
  · exact .inr fun b x _ => rd b (by omega)
  · obtain ⟨⟨c1, c2, c3⟩, l⟩ := i
    refine ⟨⟨regsWf_putD _ _ c1, c2, c3⟩, ?_⟩
    have hm : ∀ x, x ≤ 5 → x % 2 ^ 3 ≤ 5 := fun x h => by omega
    rcases hf with ⟨rfl | rfl, hx⟩ | ⟨h6, h32⟩
    · refine ⟨?_, ?_⟩
      · unfold State.mode; rw [State.g_p_same _ _ _ (by decide)]; exact hm _ (hx l)
      · rw [State.g_p_field (f := MD_MODE_MODE) (r := MD_MODE_PREV) _ _ rfl (by decide) (by decide)]; exact l.2
    · refine ⟨?_, ?_⟩
      · unfold State.mode
        rw [State.g_p_field (f := MD_MODE_PREV) (r := MD_MODE_MODE) _ _ rfl (by decide) (by decide)]; exact l.1
      · rw [State.g_p_same _ _ _ (by decide)]; exact hm _ (hx l)
    · refine ⟨?_, ?_⟩
      · unfold State.mode; rw [State.g_p_field (f := f) (r := MD_MODE_MODE) _ _ ha.symm h32 (.inl ?_)]
        · exact l.1
        · exact Nat.le_trans (by decide : 3 ≤ 6) h6
      · rw [State.g_p_field (f := f) (r := MD_MODE_PREV) _ _ ha.symm h32 (.inl ?_)]
        · exact l.2
        · exact h6

/-! Addresses. -/

theorem Mask.okHigh {M : Mask} {a : Nat} (h : 0x30000 ≤ a) : M.ok a := by
  refine ⟨?_, .inr ?_, .inr (.inr ?_), .inr (.inr ?_), .inr (.inr ?_)⟩ <;> omega

/-- Registers of BT and above, where the mask names them. -/
theorem Mask.okBt {M : Mask} {a : Nat} (h : 0x10000 ≤ a) (h1 : M.rbt = true) (h2 : M.rpw = true) (h3 : M.rsf = true) : M.ok a := by
  refine ⟨?_, .inr h, .inl h1, .inl h2, .inl h3⟩; omega

theorem Mask.okIn {N M : Mask} {a : Nat} (h : N.le M = true) (k : N.ok a) : M.ok a := by
  have x : ∀ p q : Bool, (!p || q) = true → p = true → q = true := by decide
  unfold Mask.le at h
  simp only [Bool.and_eq_true, and_assoc] at h
  obtain ⟨m0, m1, m2, m3, m4, m5, m6, m7, m8, m9, m10, m11, m12, m13, m14, m15, m16, m17, m18, m19, m20, m21, m22, m23, m24, m25, m26, m27, m28, m29, m30, m31, m32, m33, m34, m35, m36, m37, m38⟩ := h
  obtain ⟨k4, k0, k1, k2, k3⟩ := k
  exact ⟨k4, k0.imp_left (x _ _ m35), k1.imp_left (x _ _ m36), k2.imp_left (x _ _ m37), k3.imp_left (x _ _ m38)⟩

theorem ctl_high (f : Func) : 0x30000 ≤ Func.ctl f := by
  cases f <;> first | decide | exact Nat.le_add_right_of_le (by decide)

theorem Fr.snd {M : Mask} {s t : State} {α : Type} {p : α × State} {a : α} (e : p = (a, t)) (h : Fr M s p.2) : Fr M s t := by
  subst e; exact h

theorem volBit_ok {M : Mask} {lo hi : RF} {v : Nat} (h1 : M.ok lo.addr) (h2 : M.ok hi.addr) : M.ok (volBit lo hi v).1.addr := by
  unfold volBit; split <;> assumption

theorem le_add1 {a b c : Nat} (h : a ≤ b) : a ≤ b + c := Nat.le_add_right_of_le h

/-! Combinators. -/

theorem Fr.ite {M : Mask} {s t u : State} {c : Prop} [Decidable c] (h1 : Fr M s t) (h2 : Fr M s u) :
    Fr M s (if c then t else u) := by split <;> assumption

theorem Fr.ite2 {M : Mask} {s : State} {α : Type} {a b : α × State} {c : Prop} [Decidable c] (h1 : Fr M s a.2)
    (h2 : Fr M s b.2) : Fr M s (if c then a else b).2 := by split <;> assumption

theorem Fr.ite1 {M : Mask} {s : State} {α : Type} {a b : State × α} {c : Prop} [Decidable c] (h1 : Fr M s a.1)
    (h2 : Fr M s b.1) : Fr M s (if c then a else b).1 := by split <;> assumption

theorem Fr.cond {M : Mask} {s t u : State} {c : Bool} (h1 : Fr M s t) (h2 : Fr M s u) : Fr M s (bif c then t else u) := by
  cases c <;> assumption

theorem Fr.fold {M : Mask} {s : State} {α : Type} {l : List α} {f : State → α → State} (hf : ∀ t x, Fr M t (f t x)) :
    ∀ {t : State}, Fr M s t → Fr M s (l.foldl f t) := by
  induction l with
  | nil => exact fun h => h
  | cons x l ih => exact fun {t} h => ih (Fr.via (hf t x) (by simp [Mask.le]) h)

theorem Fr.foldr {M : Mask} {s : State} {α : Type} {l : List α} {f : α → State → State} (hf : ∀ t x, Fr M t (f x t)) :
    ∀ {t : State}, Fr M s t → Fr M s (l.foldr f t) := by
  induction l with
  | nil => exact fun h => h
  | cons x l ih => exact fun {t} h => Fr.via (hf _ x) (by simp [Mask.le]) (ih h)

theorem Fr.each {M : Mask} {s t : State} {α : Type} {l : List α} {f : α → State → State} (hf : ∀ x t, Fr M t (f x t))
    (h : Fr M s t) : Fr M s (State.each l f t) := Fr.fold (fun t x => hf x t) h

theorem Fr.eachMem {M : Mask} {s : State} {α : Type} {l : List α} {f : α → State → State} (hf : ∀ x ∈ l, ∀ t, Fr M t (f x t)) :
    ∀ {t : State}, Fr M s t → Fr M s (State.each l f t) := by
  unfold State.each
  induction l with
  | nil => exact fun h => h
  | cons x l ih =>
    exact fun {t} h => ih (fun y hy => hf y (List.mem_cons_of_mem _ hy)) (Fr.tr (hf x List.mem_cons_self t) h)

theorem Fr.when {M : Mask} {s t : State} {b : Bool} {f : State → State} (hf : ∀ t, Fr M t (f t)) (h : Fr M s t) :
    Fr M s (t.when b f) := by
  unfold State.when; split
  · exact Fr.via (hf t) (by simp [Mask.le]) h
  · exact h

theorem Fr.wrB {M : Mask} {s t : State} {a : Nat} {v : Word} (ok : M.ok a) (h : Fr M s t) : Fr M s (t.wr a v) := Fr.tr (Fr.wr ok) h

theorem Fr.pB {M : Mask} {s t : State} {f : RF} {x : Nat} (ok : M.ok f.addr) (h : Fr M s t) : Fr M s (t.p f x) := Fr.tr (Fr.p ok) h

/-- Buffer memory changes and keeps its canonical form. -/
theorem Fr.memB {M : Mask} {s t : State} {b : BmState} (hb : M.bm = true) (hm : M.mem = true)
    (hw : Memory.wf t.bm.mem = true → Memory.wf b.mem = true) (h : Fr M s t) : Fr M s { t with bm := b } := by
  refine Fr.tr (t := t) ?_ h
  exact ⟨rfl, .inr rfl, .inr rfl, .inr rfl, .inr rfl, .inr rfl, .inr rfl, .inr rfl, .inr rfl, .inr rfl, .inr rfl, .inr rfl, .inr rfl, .inr rfl, .inr rfl, .inr rfl, .inr rfl, .inr rfl, .inr rfl, .inr rfl, .inr rfl, .inr rfl, .inr rfl, .inr rfl, .inr rfl, .inr rfl, .inr rfl, .inr rfl, .inl hb, .inl hm, .inr rfl, .inr rfl, .inr rfl, .inr rfl, .inr rfl, .inr rfl,
    .inr fun _ _ _ => rfl, .inr fun _ _ _ => rfl, .inr fun _ _ _ => rfl, .inr fun _ _ _ => rfl,
    fun i => ⟨⟨i.1.1, i.1.2.1, hw i.1.2.2⟩, i.2⟩⟩

/-- The registers change and keep their canonical form and the mode. -/
theorem Fr.regsB {M : Mask} {s t : State} {r : Tbl Word} (h4 : M.r4 = true) (h0 : M.rmd = true) (h1 : M.rbt = true)
    (h2 : M.rpw = true) (h3 : M.rsf = true) (hw : t.Inv → regsWf r = true ∧ State.LegalMode { t with regs := r }) (h : Fr M s t) :
    Fr M s { t with regs := r } := by
  refine Fr.tr (t := t) ?_ h
  exact ⟨rfl, .inr rfl, .inr rfl, .inr rfl, .inr rfl, .inr rfl, .inr rfl, .inr rfl, .inr rfl, .inr rfl, .inr rfl, .inr rfl, .inr rfl, .inr rfl, .inr rfl, .inr rfl, .inr rfl, .inr rfl, .inr rfl, .inr rfl, .inr rfl, .inr rfl, .inr rfl, .inr rfl, .inr rfl, .inr rfl, .inr rfl, .inr rfl, .inr rfl, .inr rfl, .inr rfl, .inr rfl, .inr rfl, .inr rfl, .inr rfl, .inl h4, .inl h0, .inl h1, .inl h2, .inl h3,
    fun i => ⟨⟨(hw i).1, i.1.2.1, i.1.2.2⟩, (hw i).2⟩⟩

/-- The saved registers change and keep their canonical form. -/
theorem Fr.mdB {M : Mask} {s t : State} {m : MdState} (hm : M.md = true) (hw : t.Inv → regsWf m.saved = true)
    (h : Fr M s t) : Fr M s { t with md := m } := by
  refine Fr.tr (t := t) ?_ h
  exact ⟨rfl, .inr rfl, .inr rfl, .inr rfl, .inr rfl, .inr rfl, .inr rfl, .inr rfl, .inr rfl, .inr rfl, .inl hm, .inr rfl, .inr rfl, .inr rfl, .inr rfl, .inr rfl, .inr rfl, .inr rfl, .inr rfl, .inr rfl, .inr rfl, .inr rfl, .inr rfl, .inr rfl, .inr rfl, .inr rfl, .inr rfl, .inr rfl, .inr rfl, .inr rfl, .inr rfl, .inr rfl, .inr rfl, .inr rfl, .inr rfl, .inr rfl,
    .inr fun _ _ _ => rfl, .inr fun _ _ _ => rfl, .inr fun _ _ _ => rfl, .inr fun _ _ _ => rfl,
    fun i => ⟨⟨i.1.1, hw i, i.1.2.2⟩, i.2⟩⟩

theorem Fr.pModeB {M : Mask} {s t : State} {f : RF} {x : Nat} (h4 : M.r4 = true) (ha : f.addr = 4)
    (hf : 6 ≤ f.lo ∧ f.lo + f.w ≤ 32) (h : Fr M s t) : Fr M s (t.p f x) := Fr.tr (Fr.pMode h4 ha (.inr hf)) h

theorem Mask.le_trans {a b c : Mask} (h : a.le b = true) (k : b.le c = true) : a.le c = true := by
  have x : ∀ p q r : Bool, (!p || q) = true → (!q || r) = true → (!p || r) = true := by decide
  unfold Mask.le at *
  simp only [Bool.and_eq_true, and_assoc] at *
  obtain ⟨h0, h1, h2, h3, h4, h5, h6, h7, h8, h9, h10, h11, h12, h13, h14, h15, h16, h17, h18, h19, h20, h21, h22, h23, h24, h25, h26, h27, h28, h29, h30, h31, h32, h33, h34, h35, h36, h37, h38⟩ := h
  obtain ⟨k0, k1, k2, k3, k4, k5, k6, k7, k8, k9, k10, k11, k12, k13, k14, k15, k16, k17, k18, k19, k20, k21, k22, k23, k24, k25, k26, k27, k28, k29, k30, k31, k32, k33, k34, k35, k36, k37, k38⟩ := k
  exact ⟨x _ _ _ h0 k0, x _ _ _ h1 k1, x _ _ _ h2 k2, x _ _ _ h3 k3, x _ _ _ h4 k4, x _ _ _ h5 k5, x _ _ _ h6 k6, x _ _ _ h7 k7, x _ _ _ h8 k8, x _ _ _ h9 k9, x _ _ _ h10 k10, x _ _ _ h11 k11, x _ _ _ h12 k12, x _ _ _ h13 k13, x _ _ _ h14 k14, x _ _ _ h15 k15, x _ _ _ h16 k16, x _ _ _ h17 k17, x _ _ _ h18 k18, x _ _ _ h19 k19, x _ _ _ h20 k20, x _ _ _ h21 k21, x _ _ _ h22 k22, x _ _ _ h23 k23, x _ _ _ h24 k24, x _ _ _ h25 k25, x _ _ _ h26 k26, x _ _ _ h27 k27, x _ _ _ h28 k28, x _ _ _ h29 k29, x _ _ _ h30 k30, x _ _ _ h31 k31, x _ _ _ h32 k32, x _ _ _ h33 k33, x _ _ _ h34 k34, x _ _ _ h35 k35, x _ _ _ h36 k36, x _ _ _ h37 k37, x _ _ _ h38 k38⟩

/-- The next state of an outcome, if it is one. -/
def FrO (M : Mask) (s : State) (o : Host.Outcome State Fault Refusal) : Prop := ∀ t, o = .next t → Fr M s t

theorem FrO.next {M : Mask} {s t : State} (h : Fr M s t) : FrO M s (.next t) := fun _ e => by cases e; exact h

theorem FrO.ite {M : Mask} {s : State} {o p : Host.Outcome State Fault Refusal} {c : Prop} [Decidable c] (h1 : FrO M s o)
    (h2 : FrO M s p) : FrO M s (if c then o else p) := by split <;> assumption

theorem Fr.within {M : Mask} {s t : State} (h : Fr M s t) : Within M s t :=
  ⟨h.pending, h.now, h.free, h.rdata, h.sent, h.ev, h.unitT, h.ft, h.pw, h.sf, h.md, h.chT, h.paT, h.ldT, h.actT, h.acc0, h.acc1, h.spT, h.spWait, h.ar, h.jn, h.rb, h.lk, h.qm, h.cm, h.hc, h.dm, h.hwt, h.bm, h.mem, h.mc, h.bt, h.fuse, h.revoked, h.store, h.r4, h.rmd, h.rbt, h.rpw, h.rsf⟩

end Sys2Proof.Machine
end

