-- ==== Sys2Proof/Laws/FrOps.lean ====
section
/-! SUPPORT. Laws/FrOps.lean: what each operation of Machine/Ops.lean may touch: the lemma that later proofs cite in
place of unfolding it. -/

namespace Sys2Proof.Machine

open Reg

theorem State.on_fr {M : Mask} {z s : State} {f : RF} (hm : Mask.le {} M = true) (hf : M.ok f.addr) (h0 : Fr M z s) :
    Fr M z (State.on s f) := by
  refine Fr.tr ?_ h0
  unfold State.on
  repeat' first
    | with_reducible exact Fr.refl _ _
    | with_reducible assumption
    | with_reducible refine Fr.pB ?_ ?_

theorem State.off_fr {M : Mask} {z s : State} {f : RF} (hm : Mask.le {} M = true) (hf : M.ok f.addr) (h0 : Fr M z s) :
    Fr M z (State.off s f) := by
  refine Fr.tr ?_ h0
  unfold State.off
  repeat' first
    | with_reducible exact Fr.refl _ _
    | with_reducible assumption
    | with_reducible refine Fr.pB ?_ ?_

theorem State.inc_fr {M : Mask} {z s : State} {f : RF} (hm : Mask.le {} M = true) (hf : M.ok f.addr) (h0 : Fr M z s) :
    Fr M z (State.inc s f) := by
  refine Fr.tr ?_ h0
  unfold State.inc
  repeat' first
    | with_reducible exact Fr.refl _ _
    | with_reducible assumption
    | with_reducible refine Fr.pB ?_ ?_

theorem State.sat_fr {M : Mask} {z s : State} {f : RF} {n : Nat} (hm : Mask.le {} M = true) (hf : M.ok f.addr) (h0 : Fr M z s) :
    Fr M z (State.sat s f n) := by
  refine Fr.tr ?_ h0
  unfold State.sat
  repeat' first
    | with_reducible exact Fr.refl _ _
    | with_reducible assumption
    | with_reducible refine Fr.pB ?_ ?_

theorem State.onBit_fr {M : Mask} {z s : State} {f : RF} {i : Nat} (hm : Mask.le {} M = true) (hf : M.ok f.addr) (h0 : Fr M z s) :
    Fr M z (State.onBit s f i) := by
  refine Fr.tr ?_ h0
  unfold State.onBit
  repeat' first
    | with_reducible exact Fr.refl _ _
    | with_reducible assumption
    | with_reducible refine Fr.pB ?_ ?_

theorem State.offBit_fr {M : Mask} {z s : State} {f : RF} {i : Nat} (hm : Mask.le {} M = true) (hf : M.ok f.addr) (h0 : Fr M z s) :
    Fr M z (State.offBit s f i) := by
  refine Fr.tr ?_ h0
  unfold State.offBit
  repeat' first
    | with_reducible exact Fr.refl _ _
    | with_reducible assumption
    | with_reducible refine Fr.pB ?_ ?_

theorem State.setPair_fr {M : Mask} {z s : State} {lo hi n : Nat} (h1 : M.ok lo) (h2 : M.ok hi) (h0 : Fr M z s) : Fr M z (s.setPair lo hi n) :=
  Fr.wrB h2 (Fr.wrB h1 h0)

theorem State.free_fr {M : Mask} {z s : State} (hm : Mask.le { free := true } M = true) (h0 : Fr M z s) :
    Fr M z (State.free s).2 := by
  refine Fr.via ?_ hm h0
  unfold State.free
  repeat' first
    | with_reducible exact Fr.refl _ _
    | (apply Fr.leafB <;> first | rfl | exact .inl rfl | exact .inr rfl | guard_target =~ Fr _ _ _)

theorem State.portUp_fr {M : Mask} {z s : State} {p : Nat} {f : PortState → PortState} (hm : Mask.le { lk := true } M = true) (h0 : Fr M z s) :
    Fr M z (State.portUp s p f) := by
  refine Fr.via ?_ hm h0
  unfold State.portUp
  repeat' first
    | with_reducible exact Fr.refl _ _
    | (apply Fr.leafB <;> first | rfl | exact .inl rfl | exact .inr rfl | guard_target =~ Fr _ _ _)

theorem State.portPump_fr {M : Mask} {z s : State} {p : Nat} (hm : Mask.le { lk := true } M = true) (h0 : Fr M z s) :
    Fr M z (State.portPump s p) := by
  refine Fr.via ?_ hm h0
  unfold State.portPump
  repeat' first
    | with_reducible exact Fr.refl _ _
    | with_reducible refine Fr.ite ?_ ?_
    | with_reducible refine State.portUp_fr (by decide) ?_

theorem State.sendOn_fr {M : Mask} {z s : State} {p : Nat} {f : OutFrame} (hm : Mask.le { lk := true } M = true) (h0 : Fr M z s) :
    Fr M z (State.sendOn s p f) := by
  refine Fr.via ?_ hm h0
  unfold State.sendOn
  repeat' first
    | with_reducible exact Fr.refl _ _
    | with_reducible refine State.portPump_fr (by decide) ?_
    | with_reducible refine State.portUp_fr (by decide) ?_

theorem State.send_fr {M : Mask} {z s : State} {f0 : OutFrame} (hm : Mask.le { sent := true, lk := true } M = true) (h0 : Fr M z s) :
    Fr M z (State.send s f0) := by
  refine Fr.via ?_ hm h0
  unfold State.send
  repeat' first
    | with_reducible exact Fr.refl _ _
    | with_reducible refine State.sendOn_fr (by decide) ?_
    | (apply Fr.leafB <;> first | rfl | exact .inl rfl | exact .inr rfl | guard_target =~ Fr _ _ _)

theorem State.respond_fr {M : Mask} {z s : State} {f : OutFrame} (hm : Mask.le { sent := true, lk := true } M = true) (h0 : Fr M z s) :
    Fr M z (State.respond s f) := by
  refine Fr.via ?_ hm h0
  unfold State.respond
  repeat' first
    | with_reducible exact Fr.refl _ _
    | with_reducible refine State.sendOn_fr (by decide) ?_
    | (apply Fr.leafB <;> first | rfl | exact .inl rfl | exact .inr rfl | guard_target =~ Fr _ _ _)

theorem State.chUp_fr {M : Mask} {z s : State} {c : Nat} {f : ChState → ChState} (hm : Mask.le { chT := true } M = true) (h0 : Fr M z s) :
    Fr M z (State.chUp s c f) := by
  refine Fr.via ?_ hm h0
  unfold State.chUp
  repeat' first
    | with_reducible exact Fr.refl _ _
    | (apply Fr.leafB <;> first | rfl | exact .inl rfl | exact .inr rfl | guard_target =~ Fr _ _ _)

theorem State.paUp_fr {M : Mask} {z s : State} {a : Nat} {f : PaState → PaState} (hm : Mask.le { paT := true } M = true) (h0 : Fr M z s) :
    Fr M z (State.paUp s a f) := by
  refine Fr.via ?_ hm h0
  unfold State.paUp
  repeat' first
    | with_reducible exact Fr.refl _ _
    | (apply Fr.leafB <;> first | rfl | exact .inl rfl | exact .inr rfl | guard_target =~ Fr _ _ _)

theorem State.ldUp_fr {M : Mask} {z s : State} {a : Nat} {f : LdState → LdState} (hm : Mask.le { ldT := true } M = true) (h0 : Fr M z s) :
    Fr M z (State.ldUp s a f) := by
  refine Fr.via ?_ hm h0
  unfold State.ldUp
  repeat' first
    | with_reducible exact Fr.refl _ _
    | (apply Fr.leafB <;> first | rfl | exact .inl rfl | exact .inr rfl | guard_target =~ Fr _ _ _)

theorem State.actUp_fr {M : Mask} {z s : State} {a : Nat} {f : ActState → ActState} (hm : Mask.le { actT := true } M = true) (h0 : Fr M z s) :
    Fr M z (State.actUp s a f) := by
  refine Fr.via ?_ hm h0
  unfold State.actUp
  repeat' first
    | with_reducible exact Fr.refl _ _
    | (apply Fr.leafB <;> first | rfl | exact .inl rfl | exact .inr rfl | guard_target =~ Fr _ _ _)

theorem State.spUp_fr {M : Mask} {z s : State} {i : Nat} {f : SpState → SpState} (hm : Mask.le { spT := true } M = true) (h0 : Fr M z s) :
    Fr M z (State.spUp s i f) := by
  refine Fr.via ?_ hm h0
  unfold State.spUp
  repeat' first
    | with_reducible exact Fr.refl _ _
    | (apply Fr.leafB <;> first | rfl | exact .inl rfl | exact .inr rfl | guard_target =~ Fr _ _ _)

theorem State.unitUp_fr {M : Mask} {z s : State} {u : Nat} {f : UnitState → UnitState} (hm : Mask.le { unitT := true } M = true) (h0 : Fr M z s) :
    Fr M z (State.unitUp s u f) := by
  refine Fr.via ?_ hm h0
  unfold State.unitUp
  repeat' first
    | with_reducible exact Fr.refl _ _
    | (apply Fr.leafB <;> first | rfl | exact .inl rfl | exact .inr rfl | guard_target =~ Fr _ _ _)

theorem State.hcU_fr {M : Mask} {z s : State} {f : HcState → HcState} (hm : Mask.le { hc := true } M = true) (h0 : Fr M z s) :
    Fr M z (State.hcU s f) := by
  refine Fr.via ?_ hm h0
  unfold State.hcU
  repeat' first
    | with_reducible exact Fr.refl _ _
    | (apply Fr.leafB <;> first | rfl | exact .inl rfl | exact .inr rfl | guard_target =~ Fr _ _ _)

theorem State.cmU_fr {M : Mask} {z s : State} {f : CmState → CmState} (hm : Mask.le { cm := true } M = true) (h0 : Fr M z s) :
    Fr M z (State.cmU s f) := by
  refine Fr.via ?_ hm h0
  unfold State.cmU
  repeat' first
    | with_reducible exact Fr.refl _ _
    | (apply Fr.leafB <;> first | rfl | exact .inl rfl | exact .inr rfl | guard_target =~ Fr _ _ _)

theorem State.qmU_fr {M : Mask} {z s : State} {f : QmState → QmState} (hm : Mask.le { qm := true } M = true) (h0 : Fr M z s) :
    Fr M z (State.qmU s f) := by
  refine Fr.via ?_ hm h0
  unfold State.qmU
  repeat' first
    | with_reducible exact Fr.refl _ _
    | (apply Fr.leafB <;> first | rfl | exact .inl rfl | exact .inr rfl | guard_target =~ Fr _ _ _)

theorem State.dmU_fr {M : Mask} {z s : State} {f : DmState → DmState} (hm : M.dm = true)
    (hf : M.hwt = true ∨ (f s.dm).hwt = s.dm.hwt) (h0 : Fr M z s) : Fr M z (s.dmU f) := by
  refine Fr.tr ?_ h0
  unfold State.dmU
  apply Fr.leaf <;> first | rfl | exact hf | exact .inl hm | exact .inr rfl

theorem State.bmU_fr {M : Mask} {z s : State} {f : BmState → BmState} (hm : M.bm = true) (hf : (f s.bm).mem = s.bm.mem) (h0 : Fr M z s) :
    Fr M z (s.bmU f) := by
  refine Fr.tr ?_ h0
  unfold State.bmU
  apply Fr.leaf <;> first | rfl | exact hf | exact .inl hm | exact .inr rfl

theorem State.jnU_fr {M : Mask} {z s : State} {f : JnState → JnState} (hm : Mask.le { jn := true } M = true) (h0 : Fr M z s) :
    Fr M z (State.jnU s f) := by
  refine Fr.via ?_ hm h0
  unfold State.jnU
  repeat' first
    | with_reducible exact Fr.refl _ _
    | (apply Fr.leafB <;> first | rfl | exact .inl rfl | exact .inr rfl | guard_target =~ Fr _ _ _)

theorem State.rbU_fr {M : Mask} {z s : State} {f : RbState → RbState} (hm : Mask.le { rb := true } M = true) (h0 : Fr M z s) :
    Fr M z (State.rbU s f) := by
  refine Fr.via ?_ hm h0
  unfold State.rbU
  repeat' first
    | with_reducible exact Fr.refl _ _
    | (apply Fr.leafB <;> first | rfl | exact .inl rfl | exact .inr rfl | guard_target =~ Fr _ _ _)

theorem State.arU_fr {M : Mask} {z s : State} {f : ArState → ArState} (hm : Mask.le { ar := true } M = true) (h0 : Fr M z s) :
    Fr M z (State.arU s f) := by
  refine Fr.via ?_ hm h0
  unfold State.arU
  repeat' first
    | with_reducible exact Fr.refl _ _
    | (apply Fr.leafB <;> first | rfl | exact .inl rfl | exact .inr rfl | guard_target =~ Fr _ _ _)

theorem State.lkU_fr {M : Mask} {z s : State} {f : LkState → LkState} (hm : Mask.le { lk := true } M = true) (h0 : Fr M z s) :
    Fr M z (State.lkU s f) := by
  refine Fr.via ?_ hm h0
  unfold State.lkU
  repeat' first
    | with_reducible exact Fr.refl _ _
    | (apply Fr.leafB <;> first | rfl | exact .inl rfl | exact .inr rfl | guard_target =~ Fr _ _ _)

theorem State.mcU_fr {M : Mask} {z s : State} {f : McState → McState} (hm : Mask.le { mc := true } M = true) (h0 : Fr M z s) :
    Fr M z (State.mcU s f) := by
  refine Fr.via ?_ hm h0
  unfold State.mcU
  repeat' first
    | with_reducible exact Fr.refl _ _
    | (apply Fr.leafB <;> first | rfl | exact .inl rfl | exact .inr rfl | guard_target =~ Fr _ _ _)

theorem State.pwU_fr {M : Mask} {z s : State} {f : PwState → PwState} (hm : Mask.le { pw := true } M = true) (h0 : Fr M z s) :
    Fr M z (State.pwU s f) := by
  refine Fr.via ?_ hm h0
  unfold State.pwU
  repeat' first
    | with_reducible exact Fr.refl _ _
    | (apply Fr.leafB <;> first | rfl | exact .inl rfl | exact .inr rfl | guard_target =~ Fr _ _ _)

theorem State.sfU_fr {M : Mask} {z s : State} {f : SfState → SfState} (hm : Mask.le { sf := true } M = true) (h0 : Fr M z s) :
    Fr M z (State.sfU s f) := by
  refine Fr.via ?_ hm h0
  unfold State.sfU
  repeat' first
    | with_reducible exact Fr.refl _ _
    | (apply Fr.leafB <;> first | rfl | exact .inl rfl | exact .inr rfl | guard_target =~ Fr _ _ _)

theorem State.mdU_fr {M : Mask} {z s : State} {f : MdState → MdState} (hm : M.md = true) (hf : (f s.md).saved = s.md.saved) (h0 : Fr M z s) :
    Fr M z (s.mdU f) := by
  refine Fr.tr ?_ h0
  unfold State.mdU
  apply Fr.leaf <;> first | rfl | exact hf | exact .inl hm | exact .inr rfl

theorem State.ftU_fr {M : Mask} {z s : State} {f : FtState → FtState} (hm : Mask.le { ft := true } M = true) (h0 : Fr M z s) :
    Fr M z (State.ftU s f) := by
  refine Fr.via ?_ hm h0
  unfold State.ftU
  repeat' first
    | with_reducible exact Fr.refl _ _
    | (apply Fr.leafB <;> first | rfl | exact .inl rfl | exact .inr rfl | guard_target =~ Fr _ _ _)

theorem State.btU_fr {M : Mask} {z s : State} {f : BtState → BtState} (hm : M.bt = true)
    (h1 : M.fuse = true ∨ (f s.bt).fuse = s.bt.fuse) (h2 : M.revoked = true ∨ (f s.bt).revoked = s.bt.revoked)
    (h3 : M.store = true ∨ (f s.bt).store = s.bt.store) (h0 : Fr M z s) : Fr M z (s.btU f) := by
  refine Fr.tr ?_ h0
  unfold State.btU
  apply Fr.leaf <;> first | rfl | exact h1 | exact h2 | exact h3 | exact .inl hm | exact .inr rfl

theorem State.goMode_fr {M : Mask} {z s : State} {m : Nat} (h4 : M.r4 = true) (hm : m ≤ 5) (h0 : Fr M z s) : Fr M z (s.goMode m) :=
  Fr.tr (Fr.pMode h4 rfl (.inl ⟨.inl rfl, fun _ => hm⟩)) <| Fr.tr (Fr.pMode h4 rfl (.inl ⟨.inr rfl, fun l => l.1⟩)) h0

end Sys2Proof.Machine
end

