-- ==== Sys2Proof/Laws/FrEvents.lean ====
section
/-! SUPPORT. Laws/FrEvents.lean: what each operation of Machine/Events.lean may touch: the lemma that later proofs cite in
place of unfolding it. -/

namespace Sys2Proof.Machine

open Reg

theorem State.sendEvent_fr {M : Mask} {z s : State} {r : EvRec} (hm : Mask.le { sent := true, lk := true } M = true) (h0 : Fr M z s) :
    Fr M z (State.sendEvent s r) := by
  refine Fr.via ?_ hm h0
  unfold State.sendEvent
  repeat' first
    | with_reducible exact Fr.refl _ _
    | with_reducible refine Fr.ite ?_ ?_
    | with_reducible refine State.send_fr (by decide) ?_
    | (apply Fr.leafB <;> first | rfl | exact .inl rfl | exact .inr rfl | guard_target =~ Fr _ _ _)

theorem State.raiseSeq_fr {M : Mask} {z s : State} {code : Nat} {unit : Nat} {arg : Nat} {fault : Bool} (hm : Mask.le { sent := true, ev := true, lk := true } M = true) (h0 : Fr M z s) :
    Fr M z (State.raiseSeq s code unit arg fault).2 := by
  refine Fr.via ?_ hm h0
  unfold State.raiseSeq
  repeat' first
    | with_reducible exact Fr.refl _ _
    | with_reducible refine Fr.ite ?_ ?_
    | with_reducible refine Fr.ite2 ?_ ?_
    | with_reducible refine State.sat_fr (by decide) ?_ ?_
    | with_reducible refine State.sendEvent_fr (by decide) ?_
    | split
    | exact Mask.okHigh (Nat.le_of_ble_eq_true rfl)
    | (apply Fr.leafB <;> first | rfl | exact .inl rfl | exact .inr rfl | guard_target =~ Fr _ _ _)

theorem State.raise_fr {M : Mask} {z s : State} {code : Nat} {unit : Nat} {arg : Nat} (hm : Mask.le { sent := true, ev := true, lk := true } M = true) (h0 : Fr M z s) :
    Fr M z (State.raise s code unit arg) := by
  refine Fr.via ?_ hm h0
  unfold State.raise
  repeat' first
    | with_reducible exact Fr.refl _ _
    | with_reducible refine State.raiseSeq_fr (by decide) ?_

theorem State.note_fr {M : Mask} {z s : State} {f : RF} {code : Nat} {unit : Nat} {arg : Nat} (hm : Mask.le { sent := true, ev := true, lk := true } M = true) (hf : M.ok f.addr) (h0 : Fr M z s) :
    Fr M z (State.note s f code unit arg) := by
  refine Fr.tr ?_ h0
  unfold State.note
  repeat' first
    | with_reducible exact Fr.refl _ _
    | with_reducible assumption
    | with_reducible refine State.on_fr (by first | decide | exact Mask.le_trans (by decide) hm) ?_ ?_
    | with_reducible refine State.raise_fr (by first | decide | exact Mask.le_trans (by decide) hm) ?_

theorem State.storeRec_fr {M : Mask} {z s : State} {r0 : EvRec} (hm : Mask.le { sent := true, ev := true, lk := true } M = true) (h0 : Fr M z s) :
    Fr M z (State.storeRec s r0) := by
  refine Fr.via ?_ hm h0
  unfold State.storeRec
  repeat' first
    | with_reducible exact Fr.refl _ _
    | with_reducible refine State.note_fr (by decide) ?_ ?_
    | with_reducible refine State.on_fr (by decide) ?_ ?_
    | with_reducible refine State.sendEvent_fr (by decide) ?_
    | with_reducible refine Fr.pB ?_ ?_
    | with_reducible refine Fr.when (fun _ => ?_) ?_
    | exact Mask.okHigh (Nat.le_of_ble_eq_true rfl)
    | (apply Fr.leafB <;> first | rfl | exact .inl rfl | exact .inr rfl | guard_target =~ Fr _ _ _)

theorem State.flushEvents_fr {M : Mask} {z s : State} (hm : Mask.le { sent := true, ev := true, lk := true } M = true) (h0 : Fr M z s) :
    Fr M z (State.flushEvents s) := by
  refine Fr.via ?_ hm h0
  unfold State.flushEvents
  repeat' first
    | with_reducible exact Fr.refl _ _
    | with_reducible refine State.storeRec_fr (by decide) ?_
    | with_reducible refine Fr.each (fun _ _ => ?_) ?_
    | (apply Fr.leafB <;> first | rfl | exact .inl rfl | exact .inr rfl | guard_target =~ Fr _ _ _)

theorem State.reportDrops_fr {M : Mask} {z s : State} (hm : Mask.le { sent := true, ev := true, lk := true } M = true) (h0 : Fr M z s) :
    Fr M z (State.reportDrops s) := by
  refine Fr.via ?_ hm h0
  unfold State.reportDrops
  repeat' first
    | with_reducible exact Fr.refl _ _
    | with_reducible refine Fr.ite ?_ ?_
    | with_reducible refine State.note_fr (by decide) ?_ ?_
    | exact Mask.okHigh (Nat.le_of_ble_eq_true rfl)
    | (apply Fr.leafB <;> first | rfl | exact .inl rfl | exact .inr rfl | guard_target =~ Fr _ _ _)

end Sys2Proof.Machine
end

