-- ==== Sys2Proof/Laws/FrGeo.lean ====
section
/-! SUPPORT. Laws/FrGeo.lean: what each operation of Machine/Geo.lean may touch: the lemma that later proofs cite in
place of unfolding it. -/

namespace Sys2Proof.Machine

open Reg

theorem State.setMem_fr {M : Mask} {z s : State} {m : Nat} {v : Nat} (hm : Mask.le {} M = true) (h0 : Fr M z s) :
    Fr M z (State.setMem s m v) := by
  refine Fr.via ?_ hm h0
  unfold State.setMem
  repeat' first
    | with_reducible exact Fr.refl _ _
    | with_reducible refine Fr.pB ?_ ?_
    | exact Mask.okHigh (le_add1 (by decide))

end Sys2Proof.Machine
end

