-- ==== Sys2Proof/Laws/FrMember.lean ====
section
/-! SUPPORT. Laws/FrMember.lean: what each operation of Machine/Member.lean may touch: the lemma that later proofs cite in
place of unfolding it. -/

namespace Sys2Proof.Machine

open Reg

theorem State.setActiveVol_fr {M : Mask} {z s : State} {v : Nat} {b : Bool} (hm : Mask.le {} M = true) (h0 : Fr M z s) :
    Fr M z (State.setActiveVol s v b) := by
  refine Fr.via ?_ hm h0
  unfold State.setActiveVol
  repeat' first
    | with_reducible exact Fr.refl _ _
    | with_reducible refine Fr.ite ?_ ?_
    | with_reducible refine State.offBit_fr (by decide) ?_ ?_
    | with_reducible refine State.onBit_fr (by decide) ?_ ?_
    | (refine volBit_ok ?_ ?_ <;> exact Mask.okHigh (by decide))

theorem State.setMark_fr {M : Mask} {z s : State} {m : Nat} (hm : Mask.le {} M = true) (h0 : Fr M z s) :
    Fr M z (State.setMark s m) := by
  refine Fr.via ?_ hm h0
  unfold State.setMark
  repeat' first
    | with_reducible exact Fr.refl _ _
    | with_reducible refine Fr.pB ?_ ?_
    | exact Mask.okHigh (Nat.le_of_ble_eq_true rfl)

theorem State.ckPut_fr {M : Mask} {z s : State} {v : Nat} {f : CkRec → CkRec} (hm : Mask.le { rb := true } M = true) (h0 : Fr M z s) :
    Fr M z (State.ckPut s v f) := by
  refine Fr.via ?_ hm h0
  unfold State.ckPut
  repeat' first
    | with_reducible exact Fr.refl _ _
    | with_reducible refine State.rbU_fr (by decide) ?_

theorem State.passStart_fr {M : Mask} {z s : State} {v : Nat} (hm : Mask.le { sent := true, ev := true, rb := true, lk := true } M = true) (h0 : Fr M z s) :
    Fr M z (State.passStart s v) := by
  refine Fr.via ?_ hm h0
  unfold State.passStart
  repeat' first
    | with_reducible exact Fr.refl _ _
    | with_reducible refine Fr.ite ?_ ?_
    | with_reducible refine State.ckPut_fr (by decide) ?_
    | with_reducible refine State.note_fr (by decide) ?_ ?_
    | with_reducible refine State.off_fr (by decide) ?_ ?_
    | with_reducible refine State.rbU_fr (by decide) ?_
    | with_reducible refine State.setActiveVol_fr (by decide) ?_
    | with_reducible refine Fr.when (fun _ => ?_) ?_
    | exact Mask.okHigh (Nat.le_of_ble_eq_true rfl)
    | exact Mask.okHigh (le_add1 (by decide))

theorem State.classNote_fr {M : Mask} {z s : State} {v : Nat} (hm : Mask.le { sent := true, ev := true, ar := true, lk := true } M = true) (h0 : Fr M z s) :
    Fr M z (State.classNote s v) := by
  refine Fr.via ?_ hm h0
  unfold State.classNote
  repeat' first
    | with_reducible exact Fr.refl _ _
    | with_reducible refine Fr.ite ?_ ?_
    | with_reducible refine State.arU_fr (by decide) ?_
    | with_reducible refine State.note_fr (by decide) ?_ ?_
    | with_reducible refine State.on_fr (by decide) ?_ ?_
    | exact Mask.okHigh (Nat.le_of_ble_eq_true rfl)
    | exact Mask.okHigh (le_add1 (by decide))

theorem State.passTouch_fr {M : Mask} {z s : State} {m : Nat} (hm : Mask.le { sent := true, ev := true, ar := true, rb := true, lk := true } M = true) (h0 : Fr M z s) :
    Fr M z (State.passTouch s m) := by
  refine Fr.via ?_ hm h0
  unfold State.passTouch
  repeat' first
    | with_reducible exact Fr.refl _ _
    | with_reducible refine State.classNote_fr (by decide) ?_
    | with_reducible refine State.passStart_fr (by decide) ?_
    | with_reducible refine Fr.each (fun _ _ => ?_) ?_

theorem State.spillCheck_fr {M : Mask} {z s : State} (hm : Mask.le { sent := true, ev := true, lk := true } M = true) (h0 : Fr M z s) :
    Fr M z (State.spillCheck s) := by
  refine Fr.via ?_ hm h0
  unfold State.spillCheck
  repeat' first
    | with_reducible exact Fr.refl _ _
    | with_reducible refine Fr.ite ?_ ?_
    | with_reducible refine State.note_fr (by decide) ?_ ?_
    | with_reducible refine State.off_fr (by decide) ?_ ?_
    | with_reducible refine Fr.pB ?_ ?_
    | exact Mask.okHigh (Nat.le_of_ble_eq_true rfl)

theorem State.copiesBad_fr {M : Mask} {z s : State} {i : Nat} {a : SpillEnt → Bool} {b : SpillEnt → Bool} (hm : Mask.le { sent := true, ev := true, jn := true, lk := true } M = true) (h0 : Fr M z s) :
    Fr M z (State.copiesBad s i a b) := by
  refine Fr.via ?_ hm h0
  unfold State.copiesBad
  repeat' first
    | with_reducible exact Fr.refl _ _
    | with_reducible refine Fr.ite ?_ ?_
    | with_reducible refine State.jnU_fr (by decide) ?_
    | with_reducible refine State.note_fr (by decide) ?_ ?_
    | with_reducible refine State.onBit_fr (by decide) ?_ ?_
    | exact Mask.okHigh (Nat.le_of_ble_eq_true rfl)

theorem State.copiesLost_fr {M : Mask} {z s : State} {m : Nat} (hm : Mask.le { sent := true, ev := true, jn := true, lk := true } M = true) (h0 : Fr M z s) :
    Fr M z (State.copiesLost s m) := by
  refine Fr.via ?_ hm h0
  unfold State.copiesLost
  repeat' first
    | with_reducible exact Fr.refl _ _
    | with_reducible refine State.copiesBad_fr (by decide) ?_
    | with_reducible refine Fr.each (fun _ _ => ?_) ?_

theorem State.copyUnread_fr {M : Mask} {z s : State} {m : Nat} {mba : Nat} (hm : Mask.le { sent := true, ev := true, jn := true, lk := true } M = true) (h0 : Fr M z s) :
    Fr M z (State.copyUnread s m mba) := by
  refine Fr.via ?_ hm h0
  unfold State.copyUnread
  repeat' first
    | with_reducible exact Fr.refl _ _
    | with_reducible refine State.copiesBad_fr (by decide) ?_
    | with_reducible refine Fr.each (fun _ _ => ?_) ?_

theorem State.reconStart_fr {M : Mask} {z s : State} {slot : Nat} {stripe : Nat} {u : Nat} {pos : Nat} (hm : Mask.le { cm := true } M = true) (h0 : Fr M z s) :
    Fr M z (State.reconStart s slot stripe u pos) := by
  refine Fr.via ?_ hm h0
  unfold State.reconStart
  repeat' first
    | with_reducible exact Fr.refl _ _
    | with_reducible refine Fr.ite ?_ ?_
    | with_reducible refine State.cmU_fr (by decide) ?_

theorem State.reconAll_fr {M : Mask} {z s : State} {m : Nat} (hm : Mask.le { cm := true } M = true) (h0 : Fr M z s) :
    Fr M z (State.reconAll s m) := by
  refine Fr.via ?_ hm h0
  unfold State.reconAll
  repeat' first
    | with_reducible exact Fr.refl _ _
    | with_reducible refine Fr.ite ?_ ?_
    | with_reducible refine State.cmU_fr (by decide) ?_
    | with_reducible refine State.reconStart_fr (by decide) ?_
    | with_reducible refine Fr.each (fun _ _ => ?_) ?_

theorem State.stripsHeld_fr {M : Mask} {z s : State} {m : Nat} (hm : Mask.le { ar := true, rb := true } M = true) (h0 : Fr M z s) :
    Fr M z (State.stripsHeld s m) := by
  refine Fr.via ?_ hm h0
  unfold State.stripsHeld
  repeat' first
    | with_reducible exact Fr.refl _ _
    | with_reducible refine State.arU_fr (by decide) ?_
    | with_reducible refine State.rbU_fr (by decide) ?_

theorem State.memberOut_fr {M : Mask} {z s : State} {m : Nat} (hm : Mask.le { sent := true, ev := true, ar := true, jn := true, rb := true, lk := true, cm := true } M = true) (h0 : Fr M z s) :
    Fr M z (State.memberOut s m) := by
  refine Fr.via ?_ hm h0
  unfold State.memberOut
  repeat' first
    | with_reducible exact Fr.refl _ _
    | with_reducible refine State.copiesLost_fr (by decide) ?_
    | with_reducible refine State.passTouch_fr (by decide) ?_
    | with_reducible refine State.reconAll_fr (by decide) ?_
    | with_reducible refine State.spillCheck_fr (by decide) ?_
    | with_reducible refine State.stripsHeld_fr (by decide) ?_

theorem State.memberIn_fr {M : Mask} {z s : State} {m : Nat} (hm : Mask.le { sent := true, ev := true, ar := true, rb := true, lk := true } M = true) (h0 : Fr M z s) :
    Fr M z (State.memberIn s m) := by
  refine Fr.via ?_ hm h0
  unfold State.memberIn
  repeat' first
    | with_reducible exact Fr.refl _ _
    | with_reducible refine State.arU_fr (by decide) ?_
    | with_reducible refine State.passTouch_fr (by decide) ?_
    | with_reducible refine State.setMem_fr (by decide) ?_
    | with_reducible refine State.spillCheck_fr (by decide) ?_

theorem State.memberUnavail_fr {M : Mask} {z s : State} {m : Nat} {bit : Nat} (hm : Mask.le { sent := true, ev := true, ar := true, jn := true, rb := true, lk := true, cm := true } M = true) (h0 : Fr M z s) :
    Fr M z (State.memberUnavail s m bit) := by
  refine Fr.via ?_ hm h0
  unfold State.memberUnavail
  repeat' first
    | with_reducible exact Fr.refl _ _
    | with_reducible refine Fr.ite ?_ ?_
    | with_reducible refine State.arU_fr (by decide) ?_
    | with_reducible refine State.memberOut_fr (by decide) ?_
    | with_reducible refine State.note_fr (by decide) ?_ ?_
    | with_reducible refine State.setMem_fr (by decide) ?_
    | with_reducible refine State.spillCheck_fr (by decide) ?_
    | with_reducible refine State.stripsHeld_fr (by decide) ?_
    | exact Mask.okHigh (Nat.le_of_ble_eq_true rfl)

theorem State.memberLate_fr {M : Mask} {z s : State} {m : Nat} (hm : Mask.le { sent := true, ev := true, ar := true, lk := true } M = true) (h0 : Fr M z s) :
    Fr M z (State.memberLate s m) := by
  refine Fr.via ?_ hm h0
  unfold State.memberLate
  repeat' first
    | with_reducible exact Fr.refl _ _
    | with_reducible refine Fr.ite ?_ ?_
    | with_reducible refine State.arU_fr (by decide) ?_
    | with_reducible refine State.note_fr (by decide) ?_ ?_
    | with_reducible refine State.sat_fr (by decide) ?_ ?_
    | exact Mask.okHigh (Nat.le_of_ble_eq_true rfl)

theorem State.memberClear_fr {M : Mask} {z s : State} {m : Nat} {bit : Nat} (hm : Mask.le { sent := true, ev := true, ar := true, rb := true, lk := true } M = true) (h0 : Fr M z s) :
    Fr M z (State.memberClear s m bit) := by
  refine Fr.via ?_ hm h0
  unfold State.memberClear
  repeat' first
    | with_reducible exact Fr.refl _ _
    | with_reducible refine Fr.ite ?_ ?_
    | with_reducible refine State.arU_fr (by decide) ?_
    | with_reducible refine State.memberIn_fr (by decide) ?_
    | with_reducible refine State.memberLate_fr (by decide) ?_
    | with_reducible refine State.setMem_fr (by decide) ?_
    | with_reducible refine State.spillCheck_fr (by decide) ?_

end Sys2Proof.Machine
end

