-- ==== Sys2Proof/Laws/FrPrim.lean ====
section
/-! SUPPORT. Laws/FrPrim.lean: what each operation of Machine/Prim.lean may touch: the lemma that later proofs cite in
place of unfolding it. -/

namespace Sys2Proof.Machine

open Reg

theorem State.cutWrite_fr {M : Mask} {z s : State} {a : Nat} {n : Nat} (hm : Mask.le { chT := true } M = true) (h0 : Fr M z s) :
    Fr M z (State.cutWrite s a n) := by
  refine Fr.via ?_ hm h0
  unfold State.cutWrite
  repeat' first
    | with_reducible exact Fr.refl _ _
    | with_reducible refine Fr.ite ?_ ?_
    | with_reducible refine State.chUp_fr (by decide) ?_
    | with_reducible refine State.offBit_fr (by decide) ?_ ?_
    | with_reducible refine State.on_fr (by decide) ?_ ?_
    | exact Mask.okHigh (le_add1 (by decide))

theorem State.dropPerms_fr {M : Mask} {z s : State} {a : Nat} (hm : Mask.le { chT := true } M = true) (h0 : Fr M z s) :
    Fr M z (State.dropPerms s a) := by
  refine Fr.via ?_ hm h0
  unfold State.dropPerms
  repeat' first
    | with_reducible exact Fr.refl _ _
    | with_reducible refine State.cutWrite_fr (by decide) ?_
    | with_reducible refine State.off_fr (by decide) ?_ ?_
    | with_reducible refine Fr.each (fun _ _ => ?_) ?_
    | exact Mask.okHigh (le_add1 (by decide))

theorem State.unloadAct_fr {M : Mask} {z s : State} {a : Nat} {cause : Nat} (hm : Mask.le { sent := true, ev := true, chT := true, actT := true, ar := true, jn := true, rb := true, lk := true, cm := true } M = true) (h0 : Fr M z s) :
    Fr M z (State.unloadAct s a cause) := by
  refine Fr.via ?_ hm h0
  unfold State.unloadAct
  repeat' first
    | with_reducible exact Fr.refl _ _
    | with_reducible refine Fr.ite ?_ ?_
    | with_reducible refine State.actUp_fr (by decide) ?_
    | with_reducible refine State.dropPerms_fr (by decide) ?_
    | with_reducible refine State.memberUnavail_fr (by decide) ?_
    | with_reducible refine State.off_fr (by decide) ?_ ?_
    | with_reducible refine Fr.pB ?_ ?_
    | with_reducible refine Fr.each (fun _ _ => ?_) ?_
    | with_reducible refine Fr.when (fun _ => ?_) ?_
    | exact Mask.okHigh (le_add1 (by decide))

theorem State.goPhase_fr {M : Mask} {z s : State} {i : Nat} {ph : Nat} (hm : Mask.le { spT := true } M = true) (h0 : Fr M z s) :
    Fr M z (State.goPhase s i ph) := by
  refine Fr.via ?_ hm h0
  unfold State.goPhase
  repeat' first
    | with_reducible exact Fr.refl _ _
    | with_reducible refine State.off_fr (by decide) ?_ ?_
    | with_reducible refine State.spUp_fr (by decide) ?_
    | with_reducible refine Fr.pB ?_ ?_
    | with_reducible refine Fr.when (fun _ => ?_) ?_
    | exact Mask.okHigh (le_add1 (by decide))

theorem State.goShort_fr {M : Mask} {z s : State} {i : Nat} (hm : Mask.le { spT := true } M = true) (h0 : Fr M z s) :
    Fr M z (State.goShort s i) := by
  refine Fr.via ?_ hm h0
  unfold State.goShort
  repeat' first
    | with_reducible exact Fr.refl _ _
    | with_reducible refine State.goPhase_fr (by decide) ?_
    | with_reducible refine State.spUp_fr (by decide) ?_

theorem State.stopSpindle_fr {M : Mask} {z s : State} {i : Nat} (hm : Mask.le { spT := true, spWait := true } M = true) (h0 : Fr M z s) :
    Fr M z (State.stopSpindle s i) := by
  refine Fr.via ?_ hm h0
  unfold State.stopSpindle
  repeat' first
    | with_reducible exact Fr.refl _ _
    | with_reducible refine Fr.ite ?_ ?_
    | with_reducible refine State.goPhase_fr (by decide) ?_
    | with_reducible refine State.goShort_fr (by decide) ?_
    | with_reducible refine State.spUp_fr (by decide) ?_
    | (apply Fr.leafB <;> first | rfl | exact .inl rfl | exact .inr rfl | guard_target =~ Fr _ _ _)

theorem State.spindleFree_fr {M : Mask} {z s : State} {i : Nat} (hm : Mask.le { spT := true, spWait := true } M = true) (h0 : Fr M z s) :
    Fr M z (State.spindleFree s i) := by
  refine Fr.via ?_ hm h0
  unfold State.spindleFree
  repeat' first
    | with_reducible exact Fr.refl _ _
    | with_reducible refine Fr.ite ?_ ?_
    | with_reducible refine State.goShort_fr (by decide) ?_
    | with_reducible refine State.stopSpindle_fr (by decide) ?_

theorem State.setActive_fr {M : Mask} {z s : State} {c : Nat} {h : Nat} (hm : Mask.le { actT := true } M = true) (h0 : Fr M z s) :
    Fr M z (State.setActive s c h) := by
  refine Fr.via ?_ hm h0
  unfold State.setActive
  repeat' first
    | with_reducible exact Fr.refl _ _
    | with_reducible refine State.actUp_fr (by decide) ?_
    | with_reducible refine Fr.pB ?_ ?_
    | with_reducible refine Fr.when (fun _ => ?_) ?_
    | exact Mask.okHigh (le_add1 (by decide))

theorem State.outOfService_fr {M : Mask} {z s : State} {c : Nat} (hm : Mask.le { sent := true, ev := true, chT := true, actT := true, ar := true, jn := true, rb := true, lk := true, cm := true } M = true) (h0 : Fr M z s) :
    Fr M z (State.outOfService s c) := by
  refine Fr.via ?_ hm h0
  unfold State.outOfService
  repeat' first
    | with_reducible exact Fr.refl _ _
    | with_reducible refine State.chUp_fr (by decide) ?_
    | with_reducible refine State.memberUnavail_fr (by decide) ?_
    | with_reducible refine State.off_fr (by decide) ?_ ?_
    | with_reducible refine State.on_fr (by decide) ?_ ?_
    | with_reducible refine State.setActive_fr (by decide) ?_
    | with_reducible refine Fr.each (fun _ _ => ?_) ?_
    | with_reducible refine Fr.when (fun _ => ?_) ?_
    | exact Mask.okHigh (le_add1 (by decide))

theorem State.chansDown_fr {M : Mask} {z s : State} (hm : Mask.le {} M = true) (h0 : Fr M z s) :
    Fr M z (State.chansDown s) := by
  refine Fr.via ?_ hm h0
  unfold State.chansDown
  repeat' first
    | with_reducible exact Fr.refl _ _
    | with_reducible refine Fr.ite ?_ ?_
    | with_reducible refine Fr.pB ?_ ?_
    | with_reducible refine Fr.each (fun _ _ => ?_) ?_
    | exact Mask.okHigh (le_add1 (by decide))

theorem State.retrain_fr {M : Mask} {z s : State} {p : Nat} (hm : Mask.le { lk := true } M = true) (h0 : Fr M z s) :
    Fr M z (State.retrain s p) := by
  refine Fr.via ?_ hm h0
  unfold State.retrain
  repeat' first
    | with_reducible exact Fr.refl _ _
    | with_reducible refine Fr.ite ?_ ?_
    | with_reducible refine State.off_fr (by decide) ?_ ?_
    | with_reducible refine State.portUp_fr (by decide) ?_
    | with_reducible refine Fr.pB ?_ ?_
    | exact Mask.okHigh (le_add1 (by decide))

theorem State.hcOcc_fr {M : Mask} {z s : State} (hm : Mask.le {} M = true) (h0 : Fr M z s) :
    Fr M z (State.hcOcc s) := by
  refine Fr.via ?_ hm h0
  unfold State.hcOcc
  repeat' first
    | with_reducible exact Fr.refl _ _
    | with_reducible refine Fr.pB ?_ ?_
    | exact Mask.okHigh (Nat.le_of_ble_eq_true rfl)

theorem State.hcInval_fr {M : Mask} {z s : State} {hit : Nat → Bool} (hm : Mask.le { hc := true } M = true) (h0 : Fr M z s) :
    Fr M z (State.hcInval s hit) := by
  refine Fr.via ?_ hm h0
  unfold State.hcInval
  repeat' first
    | with_reducible exact Fr.refl _ _
    | with_reducible refine State.hcOcc_fr (by decide) ?_
    | (apply Fr.leafB <;> first | rfl | exact .inl rfl | exact .inr rfl | guard_target =~ Fr _ _ _)

theorem State.cmResetStart_fr {M : Mask} {z s : State} (hm : Mask.le { sent := true, ev := true, lk := true, cm := true } M = true) (h0 : Fr M z s) :
    Fr M z (State.cmResetStart s) := by
  refine Fr.via ?_ hm h0
  unfold State.cmResetStart
  repeat' first
    | with_reducible exact Fr.refl _ _
    | with_reducible refine Fr.ite ?_ ?_
    | with_reducible refine State.on_fr (by decide) ?_ ?_
    | with_reducible refine State.raise_fr (by decide) ?_
    | exact Mask.okHigh (Nat.le_of_ble_eq_true rfl)
    | (apply Fr.leafB <;> first | rfl | exact .inl rfl | exact .inr rfl | guard_target =~ Fr _ _ _)

theorem State.lkTap_fr {M : Mask} {z s : State} (hm : Mask.le {} M = true) (h0 : Fr M z s) :
    Fr M z (State.lkTap s) := by
  refine Fr.via ?_ hm h0
  unfold State.lkTap
  repeat' first
    | with_reducible exact Fr.refl _ _
    | with_reducible refine Fr.pB ?_ ?_
    | exact Mask.okHigh (Nat.le_of_ble_eq_true rfl)

theorem State.tbSwitch_fr {M : Mask} {z s : State} (hm : Mask.le { sent := true, ev := true, lk := true, rmd := true } M = true) (h0 : Fr M z s) :
    Fr M z (State.tbSwitch s) := by
  refine Fr.via ?_ hm h0
  unfold State.tbSwitch
  repeat' first
    | with_reducible exact Fr.refl _ _
    | with_reducible refine Fr.ite ?_ ?_
    | with_reducible refine State.lkTap_fr (by decide) ?_
    | with_reducible refine State.note_fr (by decide) ?_ ?_
    | with_reducible refine State.off_fr (by decide) ?_ ?_
    | with_reducible refine Fr.pB ?_ ?_
    | (unfold Mask.ok; decide)

theorem State.tbAsk_fr {M : Mask} {z s : State} (hm : Mask.le { sent := true, ev := true, lk := true, rmd := true } M = true) (h0 : Fr M z s) :
    Fr M z (State.tbAsk s) := by
  refine Fr.via ?_ hm h0
  unfold State.tbAsk
  repeat' first
    | with_reducible exact Fr.refl _ _
    | with_reducible refine Fr.ite ?_ ?_
    | with_reducible refine State.on_fr (by decide) ?_ ?_
    | with_reducible refine State.tbSwitch_fr (by decide) ?_
    | (unfold Mask.ok; decide)

theorem State.romLink_fr {M : Mask} {z s : State} (hm : Mask.le { sent := true, ev := true, lk := true, bt := true, rmd := true } M = true) (h0 : Fr M z s) :
    Fr M z (State.romLink s) := by
  refine Fr.via ?_ hm h0
  unfold State.romLink
  repeat' first
    | with_reducible exact Fr.refl _ _
    | with_reducible refine Fr.ite ?_ ?_
    | with_reducible refine State.btU_fr (by decide) (by first | exact .inl rfl | exact .inr rfl | (split <;> exact .inr rfl)) (by first | exact .inl rfl | exact .inr rfl | (split <;> exact .inr rfl)) (by first | exact .inl rfl | exact .inr rfl | (split <;> exact .inr rfl)) ?_
    | with_reducible refine State.lkTap_fr (by decide) ?_
    | with_reducible refine State.on_fr (by decide) ?_ ?_
    | with_reducible refine State.tbAsk_fr (by decide) ?_
    | with_reducible refine Fr.pB ?_ ?_
    | exact Mask.okHigh (Nat.le_of_ble_eq_true rfl)

theorem State.cmSafe_fr {M : Mask} {z s : State} (hm : Mask.le { cm := true } M = true) (h0 : Fr M z s) :
    Fr M z (State.cmSafe s) := by
  refine Fr.via ?_ hm h0
  unfold State.cmSafe
  repeat' first
    | with_reducible exact Fr.refl _ _
    | (apply Fr.leafB <;> first | rfl | exact .inl rfl | exact .inr rfl | guard_target =~ Fr _ _ _)

theorem State.testStart_fr {M : Mask} {z s : State} (hm : Mask.le { pw := true, rpw := true } M = true) (h0 : Fr M z s) :
    Fr M z (State.testStart s) := by
  refine Fr.via ?_ hm h0
  unfold State.testStart
  repeat' first
    | with_reducible exact Fr.refl _ _
    | with_reducible refine State.on_fr (by decide) ?_ ?_
    | with_reducible refine State.pwU_fr (by decide) ?_
    | with_reducible refine Fr.pB ?_ ?_
    | (unfold Mask.ok; decide)
    | (unfold chainState; split <;> (unfold Mask.ok; decide))

theorem State.chainTransfer_fr {M : Mask} {z s : State} (hm : Mask.le { pw := true, rpw := true } M = true) (h0 : Fr M z s) :
    Fr M z (State.chainTransfer s) := by
  refine Fr.via ?_ hm h0
  unfold State.chainTransfer
  repeat' first
    | with_reducible exact Fr.refl _ _
    | with_reducible refine Fr.ite ?_ ?_
    | with_reducible refine State.testStart_fr (by decide) ?_

theorem State.safeNow_fr {M : Mask} {z s : State} {src : Nat} (hm : Mask.le { sent := true, ev := true, md := true, chT := true, actT := true, spT := true, spWait := true, ar := true, jn := true, rb := true, lk := true, cm := true, r4 := true, rmd := true } M = true) (h0 : Fr M z s) :
    Fr M z (State.safeNow s src) := by
  refine Fr.via ?_ hm h0
  unfold State.safeNow
  repeat' first
    | with_reducible exact Fr.refl _ _
    | with_reducible refine Fr.ite ?_ ?_
    | with_reducible refine State.cmSafe_fr (by decide) ?_
    | with_reducible refine State.goMode_fr (by decide) (by decide) ?_
    | with_reducible refine State.goPhase_fr (by decide) ?_
    | with_reducible refine State.mdU_fr (by decide) (by first | rfl | (split <;> rfl)) ?_
    | with_reducible refine State.note_fr (by decide) ?_ ?_
    | with_reducible refine State.off_fr (by decide) ?_ ?_
    | with_reducible refine State.spUp_fr (by decide) ?_
    | with_reducible refine State.spindleFree_fr (by decide) ?_
    | with_reducible refine State.unloadAct_fr (by decide) ?_
    | with_reducible refine Fr.pModeB (by decide) (by decide) (by decide) ?_
    | with_reducible refine Fr.each (fun _ _ => ?_) ?_
    | (unfold Mask.ok; decide)
    | (apply Fr.leafB <;> first | rfl | exact .inl rfl | exact .inr rfl | guard_target =~ Fr _ _ _)

theorem State.enterSafe_fr {M : Mask} {z s : State} {src : Nat} (hm : Mask.le { sent := true, ev := true, md := true, chT := true, actT := true, spT := true, spWait := true, ar := true, jn := true, rb := true, lk := true, cm := true, r4 := true, rmd := true } M = true) (h0 : Fr M z s) :
    Fr M z (State.enterSafe s src) := by
  refine Fr.via ?_ hm h0
  unfold State.enterSafe
  repeat' first
    | with_reducible exact Fr.refl _ _
    | with_reducible refine Fr.ite ?_ ?_
    | with_reducible refine State.mdU_fr (by decide) (by first | rfl | (split <;> rfl)) ?_
    | with_reducible refine State.on_fr (by decide) ?_ ?_
    | with_reducible refine State.safeNow_fr (by decide) ?_
    | split
    | (unfold Mask.ok; decide)
    | (apply Fr.leafB <;> first | rfl | exact .inl rfl | exact .inr rfl | guard_target =~ Fr _ _ _)

end Sys2Proof.Machine
end

