-- ==== Sys2Proof/Laws/FrFaults.lean ====
section
/-! SUPPORT. Laws/FrFaults.lean: what each operation of Machine/Faults.lean may touch: the lemma that later proofs cite in
place of unfolding it. -/

namespace Sys2Proof.Machine

open Reg

theorem State.history_fr {M : Mask} {z s : State} {u : Nat} {e : HistEntry} (hm : Mask.le { unitT := true } M = true) (h0 : Fr M z s) :
    Fr M z (State.history s u e) := by
  refine Fr.via ?_ hm h0
  unfold State.history
  repeat' first
    | with_reducible exact Fr.refl _ _
    | with_reducible refine State.on_fr (by decide) ?_ ?_
    | with_reducible refine State.unitUp_fr (by decide) ?_
    | with_reducible refine Fr.pB ?_ ?_
    | with_reducible refine Fr.when (fun _ => ?_) ?_
    | exact Mask.okHigh (le_add1 (by decide))

theorem State.pulse_fr {M : Mask} {z s : State} (hm : Mask.le { ft := true } M = true) (h0 : Fr M z s) :
    Fr M z (State.pulse s) := by
  refine Fr.via ?_ hm h0
  unfold State.pulse
  repeat' first
    | with_reducible exact Fr.refl _ _
    | (apply Fr.leafB <;> first | rfl | exact .inl rfl | exact .inr rfl | guard_target =~ Fr _ _ _)

theorem State.levelOne_fr {M : Mask} {z s : State} {u : Nat} {bit : Nat} (hm : Mask.le { sent := true, ev := true, pw := true, chT := true, actT := true, ar := true, jn := true, rb := true, lk := true, cm := true, hc := true, rpw := true } M = true) (h0 : Fr M z s) :
    Fr M z (State.levelOne s u bit) := by
  refine Fr.via ?_ hm h0
  unfold State.levelOne
  repeat' first
    | with_reducible exact Fr.refl _ _
    | with_reducible refine Fr.ite ?_ ?_
    | with_reducible refine State.chainTransfer_fr (by decide) ?_
    | with_reducible refine State.hcInval_fr (by decide) ?_
    | with_reducible refine State.outOfService_fr (by decide) ?_
    | with_reducible refine State.retrain_fr (by decide) ?_

theorem State.levelUnload_fr {M : Mask} {z s : State} {u : Nat} (hm : Mask.le { sent := true, ev := true, chT := true, actT := true, ar := true, jn := true, rb := true, lk := true, cm := true } M = true) (h0 : Fr M z s) :
    Fr M z (State.levelUnload s u) := by
  refine Fr.via ?_ hm h0
  unfold State.levelUnload
  repeat' first
    | with_reducible exact Fr.refl _ _
    | with_reducible refine Fr.ite ?_ ?_
    | with_reducible refine State.unloadAct_fr (by decide) ?_

theorem State.levelTwo_fr {M : Mask} {z s : State} {u : Nat} (hm : Mask.le { sent := true, ev := true, ft := true, chT := true, actT := true, spT := true, spWait := true, ar := true, jn := true, rb := true, lk := true, cm := true } M = true) (h0 : Fr M z s) :
    Fr M z (State.levelTwo s u) := by
  refine Fr.via ?_ hm h0
  unfold State.levelTwo
  repeat' first
    | with_reducible exact Fr.refl _ _
    | with_reducible refine Fr.ite ?_ ?_
    | with_reducible refine State.cmResetStart_fr (by decide) ?_
    | with_reducible refine State.levelUnload_fr (by decide) ?_
    | with_reducible refine State.spUp_fr (by decide) ?_
    | with_reducible refine State.spindleFree_fr (by decide) ?_
    | split
    | (apply Fr.leafB <;> first | rfl | exact .inl rfl | exact .inr rfl | guard_target =~ Fr _ _ _)

theorem State.levelAction_fr {M : Mask} {z s : State} {level : Nat} {u : Nat} {bit : Nat} (hm : Mask.le { sent := true, ev := true, ft := true, pw := true, md := true, chT := true, actT := true, spT := true, spWait := true, ar := true, jn := true, rb := true, lk := true, cm := true, hc := true, r4 := true, rmd := true, rpw := true } M = true) (h0 : Fr M z s) :
    Fr M z (State.levelAction s level u bit) := by
  refine Fr.via ?_ hm h0
  unfold State.levelAction
  repeat' first
    | with_reducible exact Fr.refl _ _
    | with_reducible refine Fr.ite ?_ ?_
    | with_reducible refine State.enterSafe_fr (by decide) ?_
    | with_reducible refine State.levelOne_fr (by decide) ?_
    | with_reducible refine State.levelTwo_fr (by decide) ?_
    | with_reducible refine State.levelUnload_fr (by decide) ?_
    | (apply Fr.leafB <;> first | rfl | exact .inl rfl | exact .inr rfl | guard_target =~ Fr _ _ _)

theorem State.escalate_fr {M : Mask} {z s : State} {u : Nat} {trig : Nat} {bit : Nat} (hm : Mask.le { sent := true, ev := true, unitT := true, ft := true, pw := true, md := true, chT := true, actT := true, spT := true, spWait := true, ar := true, jn := true, rb := true, lk := true, cm := true, hc := true, r4 := true, rmd := true, rpw := true } M = true) (h0 : Fr M z s) :
    Fr M z (State.escalate s u trig bit) := by
  refine Fr.via ?_ hm h0
  unfold State.escalate
  repeat' first
    | with_reducible exact Fr.refl _ _
    | with_reducible refine State.history_fr (by decide) ?_
    | with_reducible refine State.inc_fr (by decide) ?_ ?_
    | with_reducible refine State.levelAction_fr (by decide) ?_
    | with_reducible refine State.pulse_fr (by decide) ?_
    | with_reducible refine State.raise_fr (by decide) ?_
    | with_reducible refine State.raiseSeq_fr (by decide) ?_
    | with_reducible refine Fr.pB ?_ ?_
    | with_reducible refine Fr.when (fun _ => ?_) ?_
    | exact Mask.okHigh (Nat.le_of_ble_eq_true rfl)
    | exact Mask.okHigh (le_add1 (by decide))

theorem State.faultSeq_fr {M : Mask} {z s : State} {f : RF} {u : Nat} {bit : Nat} {n : Nat} (hm : Mask.le { sent := true, ev := true, unitT := true, ft := true, pw := true, md := true, chT := true, actT := true, spT := true, spWait := true, ar := true, jn := true, rb := true, lk := true, cm := true, hc := true, r4 := true, rmd := true, rpw := true } M = true) (hf : M.ok f.addr) (h0 : Fr M z s) :
    Fr M z (State.faultSeq s f u bit n) := by
  refine Fr.tr ?_ h0
  unfold State.faultSeq
  repeat' first
    | with_reducible exact Fr.refl _ _
    | with_reducible assumption
    | with_reducible refine Fr.ite ?_ ?_
    | with_reducible refine State.escalate_fr (by first | decide | exact Mask.le_trans (by decide) hm) ?_
    | with_reducible refine State.history_fr (by first | decide | exact Mask.le_trans (by decide) hm) ?_
    | with_reducible refine State.on_fr (by first | decide | exact Mask.le_trans (by decide) hm) ?_ ?_
    | with_reducible refine State.onBit_fr (by first | decide | exact Mask.le_trans (by decide) hm) ?_ ?_
    | with_reducible refine State.pulse_fr (by first | decide | exact Mask.le_trans (by decide) hm) ?_
    | with_reducible refine State.raise_fr (by first | decide | exact Mask.le_trans (by decide) hm) ?_
    | with_reducible refine State.unitUp_fr (by first | decide | exact Mask.le_trans (by decide) hm) ?_
    | with_reducible refine Fr.when (fun _ => ?_) ?_
    | exact Mask.okHigh (le_add1 (by decide))

theorem State.fault_fr {M : Mask} {z s : State} {f : RF} {u : Nat} {bit : Nat} {code : Nat} {arg : Nat} (hm : Mask.le { sent := true, ev := true, unitT := true, ft := true, pw := true, md := true, chT := true, actT := true, spT := true, spWait := true, ar := true, jn := true, rb := true, lk := true, cm := true, hc := true, r4 := true, rmd := true, rpw := true } M = true) (hf : M.ok f.addr) (h0 : Fr M z s) :
    Fr M z (State.fault s f u bit code arg) := by
  refine Fr.tr ?_ h0
  unfold State.fault
  repeat' first
    | with_reducible exact Fr.refl _ _
    | with_reducible assumption
    | with_reducible refine State.faultSeq_fr (by first | decide | exact Mask.le_trans (by decide) hm) ?_ ?_
    | with_reducible refine State.raiseSeq_fr (by first | decide | exact Mask.le_trans (by decide) hm) ?_

theorem State.machineCheck_fr {M : Mask} {z s : State} {core : Nat} {cause : Nat} (hm : Mask.le { sent := true, ev := true, unitT := true, ft := true, pw := true, md := true, chT := true, actT := true, spT := true, spWait := true, ar := true, jn := true, rb := true, lk := true, cm := true, hc := true, r4 := true, rmd := true, rpw := true } M = true) (h0 : Fr M z s) :
    Fr M z (State.machineCheck s core cause) := by
  refine Fr.via ?_ hm h0
  unfold State.machineCheck
  repeat' first
    | with_reducible exact Fr.refl _ _
    | with_reducible refine State.fault_fr (by decide) ?_ ?_
    | exact Mask.okHigh (Nat.le_of_ble_eq_true rfl)

theorem State.ack_fr {M : Mask} {z s : State} {u : Nat} {mask : Nat} (hm : Mask.le { unitT := true, ft := true } M = true) (h0 : Fr M z s) :
    Fr M z (State.ack s u mask) := by
  refine Fr.via ?_ hm h0
  unfold State.ack
  repeat' first
    | with_reducible exact Fr.refl _ _
    | with_reducible refine Fr.ite ?_ ?_
    | with_reducible refine State.off_fr (by decide) ?_ ?_
    | with_reducible refine State.unitUp_fr (by decide) ?_
    | with_reducible refine Fr.pB ?_ ?_
    | exact Mask.okHigh (le_add1 (by decide))
    | (apply Fr.leafB <;> first | rfl | exact .inl rfl | exact .inr rfl | guard_target =~ Fr _ _ _)

theorem execFaultAck_fr {s : State} {u : Fin 60} {mask : Word} {late : Bool} : FrO { sent := true, ev := true, unitT := true, ft := true, lk := true } s (execFaultAck u mask late s) := by
  unfold execFaultAck
  repeat' first
    | with_reducible exact Fr.refl _ _
    | with_reducible refine FrO.next ?_
    | with_reducible refine Fr.ite ?_ ?_
    | with_reducible refine State.ack_fr (by decide) ?_
    | with_reducible refine State.note_fr (by decide) ?_ ?_
    | with_reducible refine State.sat_fr (by decide) ?_ ?_
    | exact Mask.okHigh (Nat.le_of_ble_eq_true rfl)
    | exact Mask.okHigh (le_add1 (by decide))

theorem execFaultPulseEnd_fr {s : State} {monitor : Bool} : FrO { ft := true } s (execFaultPulseEnd monitor s) := by
  unfold execFaultPulseEnd
  repeat' first
    | with_reducible exact Fr.refl _ _
    | with_reducible refine FrO.next ?_
    | with_reducible refine Fr.ite ?_ ?_
    | (apply Fr.leafB <;> first | rfl | exact .inl rfl | exact .inr rfl | guard_target =~ Fr _ _ _)

theorem State.histSnap_fr {M : Mask} {z s : State} {u : Nat} (hm : Mask.le {} M = true) (h0 : Fr M z s) :
    Fr M z (State.histSnap s u) := by
  refine Fr.via ?_ hm h0
  unfold State.histSnap
  repeat' first
    | with_reducible exact Fr.refl _ _
    | with_reducible refine Fr.pB ?_ ?_
    | with_reducible refine Fr.each (fun _ _ => ?_) ?_
    | exact Mask.okHigh (le_add1 (le_add1 (by decide)))

theorem execHistorySnap_fr {s : State} {u : Fin 60} : FrO {} s (execHistorySnap u s) := by
  unfold execHistorySnap
  repeat' first
    | with_reducible exact Fr.refl _ _
    | with_reducible refine FrO.next ?_
    | with_reducible refine State.histSnap_fr (by decide) ?_

theorem State.histClear_fr {M : Mask} {z s : State} {u : Nat} (hm : Mask.le { unitT := true } M = true) (h0 : Fr M z s) :
    Fr M z (State.histClear s u) := by
  refine Fr.via ?_ hm h0
  unfold State.histClear
  repeat' first
    | with_reducible exact Fr.refl _ _
    | with_reducible refine State.off_fr (by decide) ?_ ?_
    | with_reducible refine State.unitUp_fr (by decide) ?_
    | exact Mask.okHigh (le_add1 (by decide))

theorem execHistoryClear_fr {s : State} {u : Fin 60} : FrO { unitT := true } s (execHistoryClear u s) := by
  unfold execHistoryClear
  repeat' first
    | with_reducible exact Fr.refl _ _
    | with_reducible refine FrO.next ?_
    | with_reducible refine State.histClear_fr (by decide) ?_

theorem execEventRecordWritten_fr {s : State} : FrO { sent := true, ev := true, lk := true } s (execEventRecordWritten s) := by
  unfold execEventRecordWritten
  repeat' first
    | with_reducible exact Fr.refl _ _
    | with_reducible refine FrO.next ?_
    | with_reducible refine Fr.ite ?_ ?_
    | with_reducible refine State.reportDrops_fr (by decide) ?_
    | with_reducible refine State.storeRec_fr (by decide) ?_
    | split
    | (apply Fr.leafB <;> first | rfl | exact .inl rfl | exact .inr rfl | guard_target =~ Fr _ _ _)

theorem execRateTokenReturn_fr {s : State} {code : BitVec 16} : FrO { ev := true } s (execRateTokenReturn code s) := by
  unfold execRateTokenReturn
  repeat' first
    | with_reducible exact Fr.refl _ _
    | with_reducible refine FrO.next ?_
    | (apply Fr.leafB <;> first | rfl | exact .inl rfl | exact .inr rfl | guard_target =~ Fr _ _ _)

theorem State.testHours_fr {M : Mask} {z s : State} (hm : Mask.le { sent := true, ev := true, lk := true, rpw := true } M = true) (h0 : Fr M z s) :
    Fr M z (State.testHours s) := by
  refine Fr.via ?_ hm h0
  unfold State.testHours
  repeat' first
    | with_reducible exact Fr.refl _ _
    | with_reducible refine State.note_fr (by decide) ?_ ?_
    | with_reducible refine Fr.pB ?_ ?_
    | with_reducible refine Fr.when (fun _ => ?_) ?_
    | (unfold Mask.ok; decide)

theorem execHoursUpdate_fr {s : State} : FrO { sent := true, ev := true, lk := true, rpw := true } s (execHoursUpdate s) := by
  unfold execHoursUpdate
  repeat' first
    | with_reducible exact Fr.refl _ _
    | with_reducible refine FrO.next ?_
    | with_reducible refine Fr.ite ?_ ?_
    | with_reducible refine State.inc_fr (by decide) ?_ ?_
    | with_reducible refine State.testHours_fr (by decide) ?_
    | exact Mask.okHigh (Nat.le_of_ble_eq_true rfl)

theorem State.evClear_fr {M : Mask} {z s : State} {area : Nat} (hm : Mask.le { sent := true, ev := true, lk := true } M = true) (h0 : Fr M z s) :
    Fr M z (State.evClear s area) := by
  refine Fr.via ?_ hm h0
  unfold State.evClear
  repeat' first
    | with_reducible exact Fr.refl _ _
    | with_reducible refine Fr.ite ?_ ?_
    | with_reducible refine State.flushEvents_fr (by decide) ?_
    | with_reducible refine State.off_fr (by decide) ?_ ?_
    | with_reducible refine State.on_fr (by decide) ?_ ?_
    | with_reducible refine State.reportDrops_fr (by decide) ?_
    | with_reducible refine Fr.pB ?_ ?_
    | exact Mask.okHigh (Nat.le_of_ble_eq_true rfl)
    | (apply Fr.leafB <;> first | rfl | exact .inl rfl | exact .inr rfl | guard_target =~ Fr _ _ _)

theorem execClearFirst_fr {s : State} : FrO { sent := true, ev := true, lk := true } s (execClearFirst s) := by
  unfold execClearFirst
  repeat' first
    | with_reducible exact Fr.refl _ _
    | with_reducible refine FrO.next ?_
    | with_reducible refine State.evClear_fr (by decide) ?_

theorem execClearLast_fr {s : State} : FrO { sent := true, ev := true, lk := true } s (execClearLast s) := by
  unfold execClearLast
  repeat' first
    | with_reducible exact Fr.refl _ _
    | with_reducible refine FrO.next ?_
    | with_reducible refine State.evClear_fr (by decide) ?_

theorem execEvClearDone_fr {s : State} : FrO { sent := true, ev := true, lk := true } s (execEvClearDone s) := by
  unfold execEvClearDone
  repeat' first
    | with_reducible exact Fr.refl _ _
    | with_reducible refine FrO.next ?_
    | with_reducible refine Fr.ite ?_ ?_
    | with_reducible refine State.flushEvents_fr (by decide) ?_
    | with_reducible refine State.off_fr (by decide) ?_ ?_
    | with_reducible refine State.on_fr (by decide) ?_ ?_
    | with_reducible refine State.reportDrops_fr (by decide) ?_
    | with_reducible refine State.storeRec_fr (by decide) ?_
    | split
    | exact Mask.okHigh (Nat.le_of_ble_eq_true rfl)
    | (apply Fr.leafB <;> first | rfl | exact .inl rfl | exact .inr rfl | guard_target =~ Fr _ _ _)

theorem State.evRead_fr {M : Mask} {z s : State} (hm : Mask.le { rdata := true } M = true) (h0 : Fr M z s) :
    Fr M z (State.evRead s) := by
  refine Fr.via ?_ hm h0
  unfold State.evRead
  repeat' first
    | with_reducible exact Fr.refl _ _
    | with_reducible refine Fr.pB ?_ ?_
    | with_reducible refine Fr.when (fun _ => ?_) ?_
    | exact Mask.okHigh (Nat.le_of_ble_eq_true rfl)
    | (apply Fr.leafB <;> first | rfl | exact .inl rfl | exact .inr rfl | guard_target =~ Fr _ _ _)

theorem execEventReadData_fr {s : State} : FrO { rdata := true } s (execEventReadData s) := by
  unfold execEventReadData
  repeat' first
    | with_reducible exact Fr.refl _ _
    | with_reducible refine FrO.next ?_
    | with_reducible refine State.evRead_fr (by decide) ?_

end Sys2Proof.Machine
end

