-- ==== Sys2Proof/Laws/FrMem.lean ====
section
/-! SUPPORT. Laws/FrMem.lean: what each operation of Machine/Mem.lean may touch: the lemma that later proofs cite in
place of unfolding it. -/

namespace Sys2Proof.Machine

open Reg

theorem State.bPut_fr {M : Mask} {z s : State} {a n v : Nat} (hm : Mask.le { bm := true, mem := true } M = true)
    (h0 : Fr M z s) : Fr M z (s.bPut a n v) :=
  Fr.via (N := { bm := true, mem := true }) (Fr.memB rfl rfl (fun h => Memory.wf_wrN a n v h) (Fr.refl _ _)) hm h0

theorem State.bWr_fr {M : Mask} {z s : State} {a : Nat} {n : Nat} {v : Nat} (hm : Mask.le { bm := true, mem := true } M = true) (h0 : Fr M z s) :
    Fr M z (State.bWr s a n v) := by
  refine Fr.via ?_ hm h0
  unfold State.bWr
  repeat' first
    | with_reducible exact Fr.refl _ _
    | with_reducible refine Fr.ite ?_ ?_
    | with_reducible refine State.bPut_fr (by decide) ?_

theorem State.bSetErr_fr {M : Mask} {z s : State} {a : Nat} {e : Nat} (hm : Mask.le { bm := true } M = true) (h0 : Fr M z s) :
    Fr M z (State.bSetErr s a e) := by
  refine Fr.via ?_ hm h0
  unfold State.bSetErr
  repeat' first
    | with_reducible exact Fr.refl _ _
    | (apply Fr.leafB <;> first | rfl | exact .inl rfl | exact .inr rfl | guard_target =~ Fr _ _ _)

theorem State.eccNote_fr {M : Mask} {z s : State} {a : Nat} {bank : Nat} (hm : Mask.le { sent := true, ev := true, unitT := true, ft := true, pw := true, md := true, chT := true, actT := true, spT := true, spWait := true, ar := true, jn := true, rb := true, lk := true, cm := true, hc := true, r4 := true, rmd := true, rpw := true } M = true) (h0 : Fr M z s) :
    Fr M z (State.eccNote s a bank) := by
  refine Fr.via ?_ hm h0
  unfold State.eccNote
  repeat' first
    | with_reducible exact Fr.refl _ _
    | with_reducible refine Fr.ite ?_ ?_
    | with_reducible refine State.fault_fr (by decide) ?_ ?_
    | with_reducible refine State.on_fr (by decide) ?_ ?_
    | with_reducible refine State.sat_fr (by decide) ?_ ?_
    | with_reducible refine State.setPair_fr ?_ ?_ ?_
    | with_reducible refine Fr.pB ?_ ?_
    | with_reducible refine Fr.when (fun _ => ?_) ?_
    | exact Mask.okHigh (Nat.le_of_ble_eq_true rfl)

theorem State.rowNote_fr {M : Mask} {z s : State} {row : Nat} {first : Nat} (hm : Mask.le { sent := true, ev := true, lk := true, bm := true } M = true) (h0 : Fr M z s) :
    Fr M z (State.rowNote s row first) := by
  refine Fr.via ?_ hm h0
  unfold State.rowNote
  repeat' first
    | with_reducible exact Fr.refl _ _
    | with_reducible refine State.note_fr (by decide) ?_ ?_
    | with_reducible refine Fr.when (fun _ => ?_) ?_
    | exact Mask.okHigh (Nat.le_of_ble_eq_true rfl)
    | (apply Fr.leafB <;> first | rfl | exact .inl rfl | exact .inr rfl | guard_target =~ Fr _ _ _)

theorem State.edSet_fr {M : Mask} {z s : State} {t : Tbl EdEnt} (hm : Mask.le { bm := true } M = true) (h0 : Fr M z s) :
    Fr M z (State.edSet s t) := by
  refine Fr.via ?_ hm h0
  unfold State.edSet
  repeat' first
    | with_reducible exact Fr.refl _ _
    | with_reducible refine Fr.pB ?_ ?_
    | exact Mask.okHigh (Nat.le_of_ble_eq_true rfl)
    | (apply Fr.leafB <;> first | rfl | exact .inl rfl | exact .inr rfl | guard_target =~ Fr _ _ _)

theorem State.edCut_fr {M : Mask} {z s : State} {i : Nat} {e : EdEnt} {f : Nat} {n : Nat} (hm : Mask.le { bm := true } M = true) (h0 : Fr M z s) :
    Fr M z (State.edCut s i e f n) := by
  refine Fr.via ?_ hm h0
  unfold State.edCut
  repeat' first
    | with_reducible exact Fr.refl _ _
    | with_reducible refine Fr.ite ?_ ?_
    | with_reducible refine State.edSet_fr (by decide) ?_
    | split

theorem State.edRemove_fr {M : Mask} {z s : State} {vol : Nat} {f : Nat} {n : Nat} {only : EdEnt → Bool} (hm : Mask.le { bm := true } M = true) (h0 : Fr M z s) :
    Fr M z (State.edRemove s vol f n only) := by
  refine Fr.via ?_ hm h0
  unfold State.edRemove
  repeat' first
    | with_reducible exact Fr.refl _ _
    | with_reducible refine State.edCut_fr (by decide) ?_
    | with_reducible refine Fr.each (fun _ _ => ?_) ?_

theorem State.edHand_fr {M : Mask} {z : State} {pick : EdEnt → Bool} (hm : Mask.le { bm := true } M = true) :
    ∀ {fuel : Nat} {l : List (Nat × EdEnt)} {s : State}, Fr M z s → Fr M z (s.edHand pick fuel l).1 := by
  intro fuel
  induction fuel with
  | zero => intro l s h; exact h
  | succ fuel ih =>
    intro l s h
    match l with
    | [] => exact h
    | (i, x) :: rest =>
      have e : ∀ t : BmState, t.mem = s.bm.mem → Fr M z { s with bm := t } := fun t ht =>
        Fr.tr (Fr.via (N := { bm := true }) (by apply Fr.leaf <;> first | rfl | exact ht | exact .inl rfl | exact .inr rfl)
          (Mask.le_trans (by decide) hm) (Fr.refl _ _)) h
      simp only [State.edHand]
      split
      · exact ih h
      · split
        · exact ih h
        · split
          · exact ih (e _ rfl)
          · split
            · exact State.edSet_fr (Mask.le_trans (by decide) hm) (e _ rfl)
            · exact ih (e _ rfl)

theorem State.edEvict_fr {M : Mask} {z s : State} {pick : EdEnt → Bool} (hm : Mask.le { bm := true } M = true) (h0 : Fr M z s) :
    Fr M z (State.edEvict s pick).1 := by
  refine Fr.via ?_ hm h0
  unfold State.edEvict
  repeat' first
    | with_reducible exact Fr.refl _ _
    | with_reducible refine State.edHand_fr (by decide) ?_

theorem State.cleanPut_fr {M : Mask} {z s : State} {vol : Nat} {block : Nat} {data : Nat} {heat : Nat} {ahead : Bool} (hm : Mask.le { bm := true, mem := true } M = true) (h0 : Fr M z s) :
    Fr M z (State.cleanPut s vol block data heat ahead) := by
  refine Fr.via ?_ hm h0
  unfold State.cleanPut
  repeat' first
    | extract_lets
    | with_reducible exact Fr.refl _ _
    | with_reducible refine Fr.ite ?_ ?_
    | with_reducible refine State.bWr_fr (by decide) ?_
    | with_reducible refine State.edEvict_fr (by decide) ?_
    | with_reducible refine State.edSet_fr (by decide) ?_
    | split

theorem State.heatUp_fr {M : Mask} {z s : State} {i : Nat} {e : EdEnt} (hm : Mask.le { bm := true } M = true) (h0 : Fr M z s) :
    Fr M z (State.heatUp s i e) := by
  refine Fr.via ?_ hm h0
  unfold State.heatUp
  repeat' first
    | with_reducible exact Fr.refl _ _
    | (apply Fr.leafB <;> first | rfl | exact .inl rfl | exact .inr rfl | guard_target =~ Fr _ _ _)

end Sys2Proof.Machine
end

