-- ==== Sys2Proof/Laws/FrHc.lean ====
section
/-! SUPPORT. Laws/FrHc.lean: what each operation of Machine/Hc.lean may touch: the lemma that later proofs cite in
place of unfolding it. -/

namespace Sys2Proof.Machine

open Reg

theorem State.refuse1x_fr {M : Mask} {z s : State} (hm : Mask.le { sent := true, ev := true, lk := true } M = true) (h0 : Fr M z s) :
    Fr M z (State.refuse1x s) := by
  refine Fr.via ?_ hm h0
  unfold State.refuse1x
  repeat' first
    | with_reducible exact Fr.refl _ _
    | with_reducible refine State.note_fr (by decide) ?_ ?_
    | with_reducible refine State.sat_fr (by decide) ?_ ?_
    | exact Mask.okHigh (Nat.le_of_ble_eq_true rfl)

theorem State.txn_fr {M : Mask} {z s : State} {kind : Nat} {addr : Nat} {len : Nat} {data : Nat} {req : Req} (hm : Mask.le { sent := true, ev := true, lk := true } M = true) (h0 : Fr M z s) :
    Fr M z (State.txn s kind addr len data req) := by
  refine Fr.via ?_ hm h0
  unfold State.txn
  repeat' first
    | with_reducible exact Fr.refl _ _
    | with_reducible refine Fr.ite ?_ ?_
    | with_reducible refine State.refuse1x_fr (by decide) ?_
    | with_reducible refine State.send_fr (by decide) ?_
    | (apply Fr.leafB <;> first | rfl | exact .inl rfl | exact .inr rfl | guard_target =~ Fr _ _ _)

theorem State.sendRead_fr {M : Mask} {z s : State} {addr : Nat} {len : Nat} {req : Req} (hm : Mask.le { sent := true, ev := true, lk := true } M = true) (h0 : Fr M z s) :
    Fr M z (State.sendRead s addr len req) := by
  refine Fr.via ?_ hm h0
  unfold State.sendRead
  repeat' first
    | with_reducible exact Fr.refl _ _
    | with_reducible refine State.txn_fr (by decide) ?_

theorem State.sendWrite_fr {M : Mask} {z s : State} {addr : Nat} {len : Nat} {data : Nat} {req : Req} (hm : Mask.le { sent := true, ev := true, lk := true } M = true) (h0 : Fr M z s) :
    Fr M z (State.sendWrite s addr len data req) := by
  refine Fr.via ?_ hm h0
  unfold State.sendWrite
  repeat' first
    | with_reducible exact Fr.refl _ _
    | with_reducible refine State.txn_fr (by decide) ?_

theorem State.hcPut_fr {M : Mask} {z s : State} {i : Nat} {l : HcLine} (hm : Mask.le { hc := true } M = true) (h0 : Fr M z s) :
    Fr M z (State.hcPut s i l) := by
  refine Fr.via ?_ hm h0
  unfold State.hcPut
  repeat' first
    | with_reducible exact Fr.refl _ _
    | (apply Fr.leafB <;> first | rfl | exact .inl rfl | exact .inr rfl | guard_target =~ Fr _ _ _)

theorem State.hcDrop_fr {M : Mask} {z s : State} {i : Nat} (hm : Mask.le { hc := true } M = true) (h0 : Fr M z s) :
    Fr M z (State.hcDrop s i) := by
  refine Fr.via ?_ hm h0
  unfold State.hcDrop
  repeat' first
    | with_reducible exact Fr.refl _ _
    | (apply Fr.leafB <;> first | rfl | exact .inl rfl | exact .inr rfl | guard_target =~ Fr _ _ _)

theorem State.hcVictim_fr {M : Mask} {z s : State} (hm : Mask.le {} M = true) (h0 : Fr M z s) :
    Fr M z (State.hcVictim s).2 := by
  refine Fr.via ?_ hm h0
  unfold State.hcVictim
  repeat' first
    | with_reducible exact Fr.refl _ _
    | with_reducible refine Fr.ite2 ?_ ?_
    | with_reducible refine Fr.pB ?_ ?_
    | split
    | exact Mask.okHigh (Nat.le_of_ble_eq_true rfl)

theorem State.hcFill_fr {M : Mask} {z s : State} {line : Nat} {pf : Bool} {ws : List Waiter} {owned : Nat} (hm : Mask.le { sent := true, ev := true, lk := true, hc := true } M = true) (h0 : Fr M z s) :
    Fr M z (State.hcFill s line pf ws owned) := by
  refine Fr.via ?_ hm h0
  unfold State.hcFill
  repeat' first
    | with_reducible exact Fr.refl _ _
    | with_reducible refine Fr.ite ?_ ?_
    | with_reducible refine State.hcOcc_fr (by decide) ?_
    | with_reducible refine State.hcPut_fr (by decide) ?_
    | with_reducible refine State.hcVictim_fr (by decide) ?_
    | with_reducible refine State.sendRead_fr (by decide) ?_
    | with_reducible refine Fr.snd (by assumption) ?_
    | split
    | (apply Fr.leafB <;> first | rfl | exact .inl rfl | exact .inr rfl | guard_target =~ Fr _ _ _)

theorem State.hcTrack_fr {M : Mask} {z s : State} {req : Nat} {line : Nat} {q : Nat} {limit : Nat → Bool} {owned : Nat → Nat} (hm : Mask.le { sent := true, ev := true, lk := true, hc := true } M = true) (h0 : Fr M z s) :
    Fr M z (State.hcTrack s req line q limit owned) := by
  refine Fr.via ?_ hm h0
  unfold State.hcTrack
  repeat' first
    | with_reducible exact Fr.refl _ _
    | with_reducible refine Fr.ite ?_ ?_
    | with_reducible refine State.hcFill_fr (by decide) ?_
    | with_reducible refine State.hcOcc_fr (by decide) ?_
    | with_reducible refine State.inc_fr (by decide) ?_ ?_
    | with_reducible refine Fr.each (fun _ _ => ?_) ?_
    | split
    | exact Mask.okHigh (Nat.le_of_ble_eq_true rfl)
    | (apply Fr.leafB <;> first | rfl | exact .inl rfl | exact .inr rfl | guard_target =~ Fr _ _ _)

theorem State.hcRead_fr {M : Mask} {z s : State} {line : Nat} {w : Waiter} {owned : Nat} (hm : Mask.le { sent := true, ev := true, lk := true, hc := true } M = true) (h0 : Fr M z s) :
    Fr M z (State.hcRead s line w owned).2 := by
  refine Fr.via ?_ hm h0
  unfold State.hcRead
  repeat' first
    | with_reducible exact Fr.refl _ _
    | with_reducible refine Fr.ite2 ?_ ?_
    | with_reducible refine State.hcFill_fr (by decide) ?_
    | with_reducible refine State.hcPut_fr (by decide) ?_
    | with_reducible refine State.inc_fr (by decide) ?_ ?_
    | with_reducible refine Fr.when (fun _ => ?_) ?_
    | split
    | exact Mask.okHigh (Nat.le_of_ble_eq_true rfl)
    | (apply Fr.leafB <;> first | rfl | exact .inl rfl | exact .inr rfl | guard_target =~ Fr _ _ _)

theorem State.hcServe_fr {M : Mask} {z s : State} {line : Nat} {on : Bool} (hm : Mask.le { hc := true } M = true) (h0 : Fr M z s) :
    Fr M z (State.hcServe s line on) := by
  refine Fr.via ?_ hm h0
  unfold State.hcServe
  repeat' first
    | with_reducible exact Fr.refl _ _
    | with_reducible refine State.hcPut_fr (by decide) ?_
    | split

theorem State.wbIssueOne_fr {M : Mask} {z s : State} {e : WbEntry} (hm : Mask.le { sent := true, ev := true, lk := true, hc := true } M = true) (h0 : Fr M z s) :
    Fr M z (State.wbIssueOne s e) := by
  refine Fr.via ?_ hm h0
  unfold State.wbIssueOne
  repeat' first
    | with_reducible exact Fr.refl _ _
    | with_reducible refine State.sendWrite_fr (by decide) ?_
    | with_reducible refine Fr.each (fun _ _ => ?_) ?_
    | (apply Fr.leafB <;> first | rfl | exact .inl rfl | exact .inr rfl | guard_target =~ Fr _ _ _)

theorem State.wbIssue_fr {M : Mask} {z s : State} {which : WbEntry → Bool} (hm : Mask.le { sent := true, ev := true, lk := true, hc := true } M = true) (h0 : Fr M z s) :
    Fr M z (State.wbIssue s which) := by
  refine Fr.via ?_ hm h0
  unfold State.wbIssue
  repeat' first
    | with_reducible exact Fr.refl _ _
    | with_reducible refine State.wbIssueOne_fr (by decide) ?_
    | with_reducible refine Fr.each (fun _ _ => ?_) ?_

theorem State.wbPut_fr {M : Mask} {z s : State} {req : Nat} {addr : Nat} {n : Nat} {data : Nat} (hm : Mask.le { sent := true, ev := true, lk := true, hc := true } M = true) (h0 : Fr M z s) :
    Fr M z (State.wbPut s req addr n data) := by
  refine Fr.via ?_ hm h0
  unfold State.wbPut
  repeat' first
    | with_reducible exact Fr.refl _ _
    | with_reducible refine Fr.ite ?_ ?_
    | with_reducible refine State.hcOcc_fr (by decide) ?_
    | with_reducible refine State.hcU_fr (by decide) ?_
    | with_reducible refine State.wbIssue_fr (by decide) ?_
    | split

theorem State.hcWrite_fr {M : Mask} {z s : State} {req : Nat} {addr : Nat} {n : Nat} {data : Nat} (hm : Mask.le { sent := true, ev := true, lk := true, hc := true } M = true) (h0 : Fr M z s) :
    Fr M z (State.hcWrite s req addr n data) := by
  refine Fr.via ?_ hm h0
  unfold State.hcWrite
  repeat' first
    | with_reducible exact Fr.refl _ _
    | with_reducible refine State.hcPut_fr (by decide) ?_
    | with_reducible refine State.wbPut_fr (by decide) ?_
    | split

theorem State.maintDone_fr {M : Mask} {z s : State} (hm : Mask.le { hc := true } M = true) (h0 : Fr M z s) :
    Fr M z (State.maintDone s) := by
  refine Fr.via ?_ hm h0
  unfold State.maintDone
  repeat' first
    | with_reducible exact Fr.refl _ _
    | with_reducible refine Fr.ite ?_ ?_
    | with_reducible refine State.off_fr (by decide) ?_ ?_
    | split
    | exact Mask.okHigh (Nat.le_of_ble_eq_true rfl)
    | (apply Fr.leafB <;> first | rfl | exact .inl rfl | exact .inr rfl | guard_target =~ Fr _ _ _)

theorem State.wbRetry_fr {M : Mask} {z s : State} (hm : Mask.le { sent := true, ev := true, lk := true, hc := true } M = true) (h0 : Fr M z s) :
    Fr M z (State.wbRetry s) := by
  refine Fr.via ?_ hm h0
  unfold State.wbRetry
  repeat' first
    | with_reducible exact Fr.refl _ _
    | with_reducible refine State.wbPut_fr (by decide) ?_
    | with_reducible refine Fr.each (fun _ _ => ?_) ?_
    | (apply Fr.leafB <;> first | rfl | exact .inl rfl | exact .inr rfl | guard_target =~ Fr _ _ _)

theorem State.wbRetire_fr {M : Mask} {z s : State} {id : Nat} (hm : Mask.le { sent := true, ev := true, lk := true, hc := true } M = true) (h0 : Fr M z s) :
    Fr M z (State.wbRetire s id) := by
  refine Fr.via ?_ hm h0
  unfold State.wbRetire
  repeat' first
    | with_reducible exact Fr.refl _ _
    | with_reducible refine State.hcOcc_fr (by decide) ?_
    | with_reducible refine State.maintDone_fr (by decide) ?_
    | with_reducible refine State.wbRetry_fr (by decide) ?_
    | (apply Fr.leafB <;> first | rfl | exact .inl rfl | exact .inr rfl | guard_target =~ Fr _ _ _)

theorem execCacheRead_fr {s : State} {req : Fin 16} {addr : BitVec 64} {ue : Bool} : FrO { sent := true, ev := true, lk := true, hc := true } s (execCacheRead req addr ue s) := by
  unfold execCacheRead
  repeat' first
    | with_reducible exact Fr.refl _ _
    | with_reducible refine FrO.next ?_
    | with_reducible refine Fr.ite ?_ ?_
    | with_reducible refine State.hcDrop_fr (by decide) ?_
    | with_reducible refine State.hcOcc_fr (by decide) ?_
    | with_reducible refine State.hcRead_fr (by decide) ?_
    | with_reducible refine State.hcTrack_fr (by decide) ?_
    | with_reducible refine State.note_fr (by decide) ?_ ?_
    | with_reducible refine State.sat_fr (by decide) ?_ ?_
    | split
    | exact Mask.okHigh (Nat.le_of_ble_eq_true rfl)

theorem execCacheWrite_fr {s : State} {req : Fin 16} {addr : BitVec 64} {len : Fin 129} {data : BitVec 1024} : FrO { sent := true, ev := true, lk := true, hc := true } s (execCacheWrite req addr len data s) := by
  unfold execCacheWrite
  repeat' first
    | with_reducible exact Fr.refl _ _
    | with_reducible refine FrO.next ?_
    | with_reducible refine Fr.ite ?_ ?_
    | with_reducible refine State.hcWrite_fr (by decide) ?_
    | split

theorem State.maint_fr {M : Mask} {z s : State} {hit : Nat → Bool} (hm : Mask.le { hc := true } M = true) (h0 : Fr M z s) :
    Fr M z (State.maint s hit) := by
  refine Fr.via ?_ hm h0
  unfold State.maint
  repeat' first
    | with_reducible exact Fr.refl _ _
    | with_reducible refine Fr.ite ?_ ?_
    | with_reducible refine State.hcInval_fr (by decide) ?_
    | with_reducible refine State.maintDone_fr (by decide) ?_
    | with_reducible refine State.on_fr (by decide) ?_ ?_
    | exact Mask.okHigh (Nat.le_of_ble_eq_true rfl)

theorem doInvalLine_fr {M : Mask} {z s : State} (hm : Mask.le { hc := true } M = true) (h0 : Fr M z s) :
    Fr M z (doInvalLine s) := by
  refine Fr.via ?_ hm h0
  unfold doInvalLine
  repeat' first
    | with_reducible exact Fr.refl _ _
    | with_reducible refine State.maint_fr (by decide) ?_

theorem execInvalLine_fr {s : State} : FrO { hc := true } s (execInvalLine s) := by
  unfold execInvalLine
  repeat' first
    | with_reducible exact Fr.refl _ _
    | with_reducible refine FrO.next ?_
    | with_reducible refine doInvalLine_fr (by decide) ?_

theorem doInvalRange_fr {M : Mask} {z s : State} (hm : Mask.le { hc := true } M = true) (h0 : Fr M z s) :
    Fr M z (doInvalRange s) := by
  refine Fr.via ?_ hm h0
  unfold doInvalRange
  repeat' first
    | with_reducible exact Fr.refl _ _
    | with_reducible refine State.maint_fr (by decide) ?_

theorem execInvalRange_fr {s : State} : FrO { hc := true } s (execInvalRange s) := by
  unfold execInvalRange
  repeat' first
    | with_reducible exact Fr.refl _ _
    | with_reducible refine FrO.next ?_
    | with_reducible refine doInvalRange_fr (by decide) ?_

theorem execInvalAll_fr {s : State} : FrO { hc := true } s (execInvalAll s) := by
  unfold execInvalAll
  repeat' first
    | with_reducible exact Fr.refl _ _
    | with_reducible refine FrO.next ?_
    | with_reducible refine State.maint_fr (by decide) ?_

theorem doDrain_fr {M : Mask} {z s : State} (hm : Mask.le { sent := true, ev := true, lk := true, hc := true } M = true) (h0 : Fr M z s) :
    Fr M z (doDrain s) := by
  refine Fr.via ?_ hm h0
  unfold doDrain
  repeat' first
    | with_reducible exact Fr.refl _ _
    | with_reducible refine Fr.ite ?_ ?_
    | with_reducible refine State.maintDone_fr (by decide) ?_
    | with_reducible refine State.on_fr (by decide) ?_ ?_
    | with_reducible refine State.wbIssue_fr (by decide) ?_
    | exact Mask.okHigh (Nat.le_of_ble_eq_true rfl)
    | (apply Fr.leafB <;> first | rfl | exact .inl rfl | exact .inr rfl | guard_target =~ Fr _ _ _)

theorem execDrain_fr {s : State} : FrO { sent := true, ev := true, lk := true, hc := true } s (execDrain s) := by
  unfold execDrain
  repeat' first
    | with_reducible exact Fr.refl _ _
    | with_reducible refine FrO.next ?_
    | with_reducible refine doDrain_fr (by decide) ?_

end Sys2Proof.Machine
end

