-- ==== Sys2Proof/Laws/FrQueue.lean ====
section
/-! SUPPORT. Laws/FrQueue.lean: what each operation of Machine/Queue.lean may touch: the lemma that later proofs cite in
place of unfolding it. -/

namespace Sys2Proof.Machine

open Reg

theorem State.ctxWriteBack_fr {M : Mask} {z s : State} {q : Nat} {c : QmCtx} (hm : Mask.le { bm := true, mem := true } M = true) (h0 : Fr M z s) :
    Fr M z (State.ctxWriteBack s q c) := by
  refine Fr.via ?_ hm h0
  unfold State.ctxWriteBack
  repeat' first
    | with_reducible exact Fr.refl _ _
    | with_reducible refine State.bWr_fr (by decide) ?_

theorem State.ctxPut_fr {M : Mask} {z s : State} {q : Nat} {c : QmCtx} (hm : Mask.le { qm := true, bm := true, mem := true } M = true) (h0 : Fr M z s) :
    Fr M z (State.ctxPut s q c) := by
  refine Fr.via ?_ hm h0
  unfold State.ctxPut
  repeat' first
    | with_reducible exact Fr.refl _ _
    | with_reducible refine Fr.ite ?_ ?_
    | with_reducible refine State.ctxWriteBack_fr (by decide) ?_
    | with_reducible refine State.qmU_fr (by decide) ?_

theorem State.ctxUp_fr {M : Mask} {z s : State} {q : Nat} {f : QmCtx → QmCtx} (hm : Mask.le { qm := true, bm := true, mem := true } M = true) (h0 : Fr M z s) :
    Fr M z (State.ctxUp s q f) := by
  refine Fr.via ?_ hm h0
  unfold State.ctxUp
  repeat' first
    | with_reducible exact Fr.refl _ _
    | with_reducible refine State.ctxPut_fr (by decide) ?_

theorem State.cqrUp_fr {M : Mask} {z s : State} {q : Nat} {f : CqRun → CqRun} (hm : Mask.le { qm := true } M = true) (h0 : Fr M z s) :
    Fr M z (State.cqrUp s q f) := by
  refine Fr.via ?_ hm h0
  unfold State.cqrUp
  repeat' first
    | with_reducible exact Fr.refl _ _
    | with_reducible refine State.qmU_fr (by decide) ?_

theorem State.cmdUp_fr {M : Mask} {z s : State} {id : Nat} {f : Cmd → Cmd} (hm : Mask.le { cm := true } M = true) (h0 : Fr M z s) :
    Fr M z (State.cmdUp s id f) := by
  refine Fr.via ?_ hm h0
  unfold State.cmdUp
  repeat' first
    | with_reducible exact Fr.refl _ _
    | with_reducible refine State.cmU_fr (by decide) ?_
    | split

theorem State.cmOcc_fr {M : Mask} {z s : State} (hm : Mask.le {} M = true) (h0 : Fr M z s) :
    Fr M z (State.cmOcc s) := by
  refine Fr.via ?_ hm h0
  unfold State.cmOcc
  repeat' first
    | with_reducible exact Fr.refl _ _
    | with_reducible refine Fr.pB ?_ ?_
    | exact Mask.okHigh (Nat.le_of_ble_eq_true rfl)

theorem State.cmdFree_fr {M : Mask} {z s : State} {id : Nat} (hm : Mask.le { cm := true } M = true) (h0 : Fr M z s) :
    Fr M z (State.cmdFree s id) := by
  refine Fr.via ?_ hm h0
  unfold State.cmdFree
  repeat' first
    | with_reducible exact Fr.refl _ _
    | with_reducible refine State.cmOcc_fr (by decide) ?_
    | with_reducible refine State.cmU_fr (by decide) ?_

theorem State.ovfFree_fr {M : Mask} {z s : State} (hm : Mask.le {} M = true) (h0 : Fr M z s) :
    Fr M z (State.ovfFree s) := by
  refine Fr.via ?_ hm h0
  unfold State.ovfFree
  repeat' first
    | with_reducible exact Fr.refl _ _
    | with_reducible refine Fr.pB ?_ ?_
    | exact Mask.okHigh (Nat.le_of_ble_eq_true rfl)

theorem State.deleteStep_fr {M : Mask} {z s : State} {q : Nat} (hm : Mask.le { qm := true, bm := true, mem := true } M = true) (h0 : Fr M z s) :
    Fr M z (State.deleteStep s q) := by
  refine Fr.via ?_ hm h0
  unfold State.deleteStep
  repeat' first
    | with_reducible exact Fr.refl _ _
    | with_reducible refine Fr.ite ?_ ?_
    | with_reducible refine State.ctxPut_fr (by decide) ?_
    | with_reducible refine State.ovfFree_fr (by decide) ?_
    | with_reducible refine State.qmU_fr (by decide) ?_

theorem State.cqPaid_fr {M : Mask} {z s : State} {q : Nat} {id : Nat} (hm : Mask.le { qm := true, cm := true, bm := true, mem := true } M = true) (h0 : Fr M z s) :
    Fr M z (State.cqPaid s q id) := by
  refine Fr.via ?_ hm h0
  unfold State.cqPaid
  repeat' first
    | with_reducible exact Fr.refl _ _
    | with_reducible refine State.cmdFree_fr (by decide) ?_
    | with_reducible refine State.ctxUp_fr (by decide) ?_
    | with_reducible refine State.deleteStep_fr (by decide) ?_

theorem State.cqDiscard_fr {M : Mask} {z s : State} {q : Nat} {spill : Bool} (hm : Mask.le { qm := true, cm := true, bm := true, mem := true } M = true) (h0 : Fr M z s) :
    Fr M z (State.cqDiscard s q spill) := by
  refine Fr.via ?_ hm h0
  unfold State.cqDiscard
  repeat' first
    | with_reducible exact Fr.refl _ _
    | with_reducible refine State.cqPaid_fr (by decide) ?_
    | with_reducible refine State.cqrUp_fr (by decide) ?_
    | with_reducible refine State.ctxPut_fr (by decide) ?_
    | with_reducible refine State.sat_fr (by decide) ?_ ?_
    | with_reducible refine Fr.each (fun _ _ => ?_) ?_
    | exact Mask.okHigh (Nat.le_of_ble_eq_true rfl)

theorem State.dbClear_fr {M : Mask} {z s : State} {key : Nat} (hm : Mask.le { qm := true } M = true) (h0 : Fr M z s) :
    Fr M z (State.dbClear s key) := by
  refine Fr.via ?_ hm h0
  unfold State.dbClear
  repeat' first
    | with_reducible exact Fr.refl _ _
    | with_reducible refine State.qmU_fr (by decide) ?_

theorem State.sqError_fr {M : Mask} {z s : State} {q : Nat} {cause : Nat} (hm : Mask.le { sent := true, ev := true, lk := true, qm := true, bm := true, mem := true } M = true) (h0 : Fr M z s) :
    Fr M z (State.sqError s q cause) := by
  refine Fr.via ?_ hm h0
  unfold State.sqError
  repeat' first
    | with_reducible exact Fr.refl _ _
    | with_reducible refine Fr.ite ?_ ?_
    | with_reducible refine State.ctxPut_fr (by decide) ?_
    | with_reducible refine State.dbClear_fr (by decide) ?_
    | with_reducible refine State.note_fr (by decide) ?_ ?_
    | with_reducible refine State.qmU_fr (by decide) ?_
    | exact Mask.okHigh (Nat.le_of_ble_eq_true rfl)

theorem State.takeBack_fr {M : Mask} {z s : State} {q : Nat} (hm : Mask.le { qm := true, cm := true, bm := true, mem := true } M = true) (h0 : Fr M z s) :
    Fr M z (State.takeBack s q) := by
  refine Fr.via ?_ hm h0
  unfold State.takeBack
  repeat' first
    | with_reducible exact Fr.refl _ _
    | with_reducible refine State.bWr_fr (by decide) ?_
    | with_reducible refine State.cmdFree_fr (by decide) ?_
    | with_reducible refine State.cqrUp_fr (by decide) ?_
    | with_reducible refine State.ctxPut_fr (by decide) ?_
    | with_reducible refine State.ctxUp_fr (by decide) ?_
    | with_reducible refine State.deleteStep_fr (by decide) ?_
    | with_reducible refine Fr.each (fun _ _ => ?_) ?_

theorem State.cqError_fr {M : Mask} {z s : State} {q : Nat} {cause : Nat} (hm : Mask.le { sent := true, ev := true, lk := true, qm := true, cm := true, bm := true, mem := true } M = true) (h0 : Fr M z s) :
    Fr M z (State.cqError s q cause) := by
  refine Fr.via ?_ hm h0
  unfold State.cqError
  repeat' first
    | with_reducible exact Fr.refl _ _
    | with_reducible refine Fr.ite ?_ ?_
    | with_reducible refine State.cqDiscard_fr (by decide) ?_
    | with_reducible refine State.ctxPut_fr (by decide) ?_
    | with_reducible refine State.dbClear_fr (by decide) ?_
    | with_reducible refine State.deleteStep_fr (by decide) ?_
    | with_reducible refine State.note_fr (by decide) ?_ ?_
    | with_reducible refine State.sqError_fr (by decide) ?_
    | with_reducible refine State.takeBack_fr (by decide) ?_
    | with_reducible refine Fr.each (fun _ _ => ?_) ?_
    | exact Mask.okHigh (Nat.le_of_ble_eq_true rfl)

theorem State.ctxUe_fr {M : Mask} {z s : State} {q : Nat} (hm : Mask.le { sent := true, ev := true, unitT := true, ft := true, pw := true, md := true, chT := true, actT := true, spT := true, spWait := true, ar := true, jn := true, rb := true, lk := true, qm := true, cm := true, hc := true, bm := true, mem := true, r4 := true, rmd := true, rpw := true } M = true) (h0 : Fr M z s) :
    Fr M z (State.ctxUe s q) := by
  refine Fr.via ?_ hm h0
  unfold State.ctxUe
  repeat' first
    | with_reducible exact Fr.refl _ _
    | with_reducible refine State.cqError_fr (by decide) ?_
    | with_reducible refine State.fault_fr (by decide) ?_ ?_
    | with_reducible refine State.sqError_fr (by decide) ?_
    | exact Mask.okHigh (Nat.le_of_ble_eq_true rfl)

theorem State.ctxLoad_fr {M : Mask} {z s : State} {q : Nat} (hm : Mask.le { sent := true, ev := true, unitT := true, ft := true, pw := true, md := true, chT := true, actT := true, spT := true, spWait := true, ar := true, jn := true, rb := true, lk := true, qm := true, cm := true, hc := true, bm := true, mem := true, r4 := true, rmd := true, rpw := true } M = true) (h0 : Fr M z s) :
    Fr M z (State.ctxLoad s q).2 := by
  refine Fr.via ?_ hm h0
  unfold State.ctxLoad
  repeat' first
    | with_reducible exact Fr.refl _ _
    | with_reducible refine Fr.ite ?_ ?_
    | with_reducible refine Fr.ite2 ?_ ?_
    | with_reducible refine State.bWr_fr (by decide) ?_
    | with_reducible refine State.ctxUe_fr (by decide) ?_
    | with_reducible refine State.ctxWriteBack_fr (by decide) ?_
    | with_reducible refine State.qmU_fr (by decide) ?_
    | with_reducible refine State.sat_fr (by decide) ?_ ?_
    | split
    | exact Mask.okHigh (Nat.le_of_ble_eq_true rfl)

theorem State.uncapture_fr {M : Mask} {z s : State} {id : Nat} (hm : Mask.le { cm := true, bm := true } M = true) (h0 : Fr M z s) :
    Fr M z (State.uncapture s id) := by
  refine Fr.via ?_ hm h0
  unfold State.uncapture
  repeat' first
    | with_reducible exact Fr.refl _ _
    | with_reducible refine State.bmU_fr (by decide) (by first | rfl | (split <;> rfl)) ?_
    | with_reducible refine State.cmdUp_fr (by decide) ?_

theorem State.libEnd_fr {M : Mask} {z s : State} {id : Nat} {n : Nat} {dst : Nat} {status : Nat} (hm : Mask.le { cm := true, bm := true, mem := true, mc := true } M = true) (h0 : Fr M z s) :
    Fr M z (State.libEnd s id n dst status) := by
  refine Fr.via ?_ hm h0
  unfold State.libEnd
  repeat' first
    | with_reducible exact Fr.refl _ _
    | with_reducible refine Fr.ite ?_ ?_
    | with_reducible refine State.bWr_fr (by decide) ?_
    | with_reducible refine State.cmdFree_fr (by decide) ?_
    | with_reducible refine State.mcU_fr (by decide) ?_
    | with_reducible refine Fr.each (fun _ _ => ?_) ?_

theorem State.complete_fr {M : Mask} {z s : State} {id : Nat} {status : Nat} {result : Nat} (hm : Mask.le { cm := true, bm := true, mem := true, mc := true } M = true) (h0 : Fr M z s) :
    Fr M z (State.complete s id status result) := by
  refine Fr.via ?_ hm h0
  unfold State.complete
  repeat' first
    | with_reducible exact Fr.refl _ _
    | with_reducible refine Fr.ite ?_ ?_
    | with_reducible refine State.cmU_fr (by decide) ?_
    | with_reducible refine State.cmdUp_fr (by decide) ?_
    | with_reducible refine State.libEnd_fr (by decide) ?_
    | with_reducible refine State.sat_fr (by decide) ?_ ?_
    | with_reducible refine State.uncapture_fr (by decide) ?_
    | with_reducible refine Fr.when (fun _ => ?_) ?_
    | split
    | exact Mask.okHigh (Nat.le_of_ble_eq_true rfl)

theorem State.halt_fr {M : Mask} {z s : State} {q : Nat} {idx : Nat} {cause : Nat} (hm : Mask.le { sent := true, ev := true, lk := true, qm := true } M = true) (h0 : Fr M z s) :
    Fr M z (State.halt s q idx cause) := by
  refine Fr.via ?_ hm h0
  unfold State.halt
  repeat' first
    | with_reducible exact Fr.refl _ _
    | with_reducible refine Fr.ite ?_ ?_
    | with_reducible refine State.note_fr (by decide) ?_ ?_
    | with_reducible refine State.off_fr (by decide) ?_ ?_
    | with_reducible refine State.on_fr (by decide) ?_ ?_
    | with_reducible refine State.qmU_fr (by decide) ?_
    | with_reducible refine Fr.pB ?_ ?_
    | exact Mask.okHigh (Nat.le_of_ble_eq_true rfl)

theorem State.doorbell_fr {M : Mask} {z s : State} {q : Nat} {cq : Bool} (hm : Mask.le { sent := true, ev := true, lk := true, qm := true } M = true) (h0 : Fr M z s) :
    Fr M z (State.doorbell s q cq) := by
  refine Fr.via ?_ hm h0
  unfold State.doorbell
  repeat' first
    | with_reducible exact Fr.refl _ _
    | with_reducible refine Fr.ite ?_ ?_
    | with_reducible refine State.note_fr (by decide) ?_ ?_
    | with_reducible refine State.qmU_fr (by decide) ?_
    | with_reducible refine State.sat_fr (by decide) ?_ ?_
    | exact Mask.okHigh (Nat.le_of_ble_eq_true rfl)

theorem execDoorbellWrite_fr {s : State} {q : BitVec 20} {cq : Bool} {src : BitVec 12} {tag : BitVec 16} {rspReq : Bool} : FrO { sent := true, ev := true, lk := true, qm := true } s (execDoorbellWrite q cq src tag rspReq s) := by
  unfold execDoorbellWrite
  repeat' first
    | with_reducible exact Fr.refl _ _
    | with_reducible refine FrO.next ?_
    | with_reducible refine Fr.ite ?_ ?_
    | with_reducible refine State.doorbell_fr (by decide) ?_
    | with_reducible refine State.respond_fr (by decide) ?_

theorem execDoorbellServe_fr {s : State} {ue : Option (Fin 32768)} : FrO { sent := true, ev := true, unitT := true, ft := true, pw := true, md := true, chT := true, actT := true, spT := true, spWait := true, ar := true, jn := true, rb := true, lk := true, qm := true, cm := true, hc := true, bm := true, mem := true, r4 := true, rmd := true, rpw := true } s (execDoorbellServe ue s) := by
  unfold execDoorbellServe
  repeat' first
    | with_reducible exact Fr.refl _ _
    | with_reducible refine FrO.next ?_
    | with_reducible refine Fr.ite ?_ ?_
    | with_reducible refine State.ctxLoad_fr (by decide) ?_
    | with_reducible refine State.dbClear_fr (by decide) ?_
    | with_reducible refine State.qmU_fr (by decide) ?_
    | with_reducible refine State.sendRead_fr (by decide) ?_
    | with_reducible refine Fr.snd (by assumption) ?_
    | split

theorem State.scanRead_fr {M : Mask} {z s : State} {q : Nat} (hm : Mask.le { sent := true, ev := true, lk := true, hc := true } M = true) (h0 : Fr M z s) :
    Fr M z (State.scanRead s q) := by
  refine Fr.via ?_ hm h0
  unfold State.scanRead
  repeat' first
    | with_reducible exact Fr.refl _ _
    | with_reducible refine State.hcRead_fr (by decide) ?_
    | with_reducible refine State.hcTrack_fr (by decide) ?_

theorem State.piReturn_fr {M : Mask} {z s : State} {q : Nat} {p : Nat} (hm : Mask.le { sent := true, ev := true, lk := true, qm := true, hc := true, bm := true, mem := true } M = true) (h0 : Fr M z s) :
    Fr M z (State.piReturn s q p) := by
  refine Fr.via ?_ hm h0
  unfold State.piReturn
  repeat' first
    | with_reducible exact Fr.refl _ _
    | with_reducible refine Fr.ite ?_ ?_
    | with_reducible refine State.ctxPut_fr (by decide) ?_
    | with_reducible refine State.qmU_fr (by decide) ?_
    | with_reducible refine State.scanRead_fr (by decide) ?_
    | with_reducible refine State.sqError_fr (by decide) ?_

theorem State.takeReturn_fr {M : Mask} {z s t : State} {key v : Nat} (h : s.takeReturn key = some (v, t))
    (hm : Mask.le { qm := true } M = true) (h0 : Fr M z s) : Fr M z t := by
  unfold State.takeReturn at h
  split at h
  · cases h
  · simp only [Option.some.injEq, Prod.mk.injEq] at h
    rw [← h.2]
    exact State.qmU_fr hm h0

theorem execSqPiReadReturn_fr {s : State} {q : BitVec 20} : FrO { sent := true, ev := true, lk := true, qm := true, hc := true, bm := true, mem := true } s (execSqPiReadReturn q s) := by
  unfold execSqPiReadReturn
  repeat' first
    | with_reducible exact Fr.refl _ _
    | with_reducible refine FrO.next ?_
    | with_reducible refine State.piReturn_fr (by decide) ?_
    | split
    | with_reducible refine State.takeReturn_fr (by assumption) (by decide) ?_

theorem State.irq_fr {M : Mask} {z s : State} {q : Nat} (hm : Mask.le { sent := true, ev := true, lk := true, qm := true, hc := true } M = true) (h0 : Fr M z s) :
    Fr M z (State.irq s q) := by
  refine Fr.via ?_ hm h0
  unfold State.irq
  repeat' first
    | with_reducible exact Fr.refl _ _
    | with_reducible refine State.cqrUp_fr (by decide) ?_
    | with_reducible refine State.hcWrite_fr (by decide) ?_

theorem State.cqShadow_fr {M : Mask} {z s : State} {q : Nat} (hm : Mask.le { sent := true, ev := true, lk := true, qm := true, hc := true } M = true) (h0 : Fr M z s) :
    Fr M z (State.cqShadow s q) := by
  refine Fr.via ?_ hm h0
  unfold State.cqShadow
  repeat' first
    | with_reducible exact Fr.refl _ _
    | with_reducible refine Fr.ite ?_ ?_
    | with_reducible refine State.cqrUp_fr (by decide) ?_
    | with_reducible refine State.hcWrite_fr (by decide) ?_
    | with_reducible refine State.irq_fr (by decide) ?_

theorem State.cqRing_fr {M : Mask} {z s : State} {q : Nat} {cmd : Option Nat} {bits : Nat} (hm : Mask.le { sent := true, ev := true, lk := true, qm := true, hc := true, bm := true, mem := true } M = true) (h0 : Fr M z s) :
    Fr M z (State.cqRing s q cmd bits) := by
  refine Fr.via ?_ hm h0
  unfold State.cqRing
  repeat' first
    | with_reducible exact Fr.refl _ _
    | with_reducible refine State.cqrUp_fr (by decide) ?_
    | with_reducible refine State.ctxPut_fr (by decide) ?_
    | with_reducible refine State.hcWrite_fr (by decide) ?_

theorem State.cqSpill_fr {M : Mask} {z s : State} {q : Nat} {id : Nat} {bits : Nat} (hm : Mask.le { sent := true, ev := true, lk := true, qm := true, cm := true, bm := true, mem := true } M = true) (h0 : Fr M z s) :
    Fr M z (State.cqSpill s q id bits) := by
  refine Fr.via ?_ hm h0
  unfold State.cqSpill
  repeat' first
    | with_reducible exact Fr.refl _ _
    | with_reducible refine Fr.ite ?_ ?_
    | with_reducible refine State.bWr_fr (by decide) ?_
    | with_reducible refine State.cqPaid_fr (by decide) ?_
    | with_reducible refine State.cqrUp_fr (by decide) ?_
    | with_reducible refine State.ctxPut_fr (by decide) ?_
    | with_reducible refine State.note_fr (by decide) ?_ ?_
    | with_reducible refine State.sat_fr (by decide) ?_ ?_
    | exact Mask.okHigh (Nat.le_of_ble_eq_true rfl)

theorem State.cqPut_fr {M : Mask} {z s : State} {id : Nat} {shadow : Bool} (hm : Mask.le { sent := true, ev := true, lk := true, qm := true, cm := true, hc := true, bm := true, mem := true } M = true) (h0 : Fr M z s) :
    Fr M z (State.cqPut s id shadow) := by
  refine Fr.via ?_ hm h0
  unfold State.cqPut
  repeat' first
    | with_reducible exact Fr.refl _ _
    | with_reducible refine Fr.ite ?_ ?_
    | with_reducible refine State.cmdUp_fr (by decide) ?_
    | with_reducible refine State.cqPaid_fr (by decide) ?_
    | with_reducible refine State.cqRing_fr (by decide) ?_
    | with_reducible refine State.cqShadow_fr (by decide) ?_
    | with_reducible refine State.cqSpill_fr (by decide) ?_
    | with_reducible refine State.cqrUp_fr (by decide) ?_
    | with_reducible refine State.sat_fr (by decide) ?_ ?_
    | with_reducible refine State.sendRead_fr (by decide) ?_
    | exact Mask.okHigh (Nat.le_of_ble_eq_true rfl)

theorem State.cqHeld_fr {M : Mask} {z s : State} {q : Nat} (hm : Mask.le { sent := true, ev := true, lk := true, qm := true, cm := true, hc := true, bm := true, mem := true } M = true) (h0 : Fr M z s) :
    Fr M z (State.cqHeld s q) := by
  refine Fr.via ?_ hm h0
  unfold State.cqHeld
  repeat' first
    | with_reducible exact Fr.refl _ _
    | with_reducible refine Fr.ite ?_ ?_
    | with_reducible refine State.cqPut_fr (by decide) ?_
    | with_reducible refine Fr.each (fun _ _ => ?_) ?_

theorem execCompletionWrite_fr {s : State} {id : Nat} {shadow : Bool} : FrO { sent := true, ev := true, lk := true, qm := true, cm := true, hc := true, bm := true, mem := true } s (execCompletionWrite id shadow s) := by
  unfold execCompletionWrite
  repeat' first
    | with_reducible exact Fr.refl _ _
    | with_reducible refine FrO.next ?_
    | with_reducible refine Fr.ite ?_ ?_
    | with_reducible refine State.cmU_fr (by decide) ?_
    | with_reducible refine State.cqPut_fr (by decide) ?_
    | with_reducible refine State.note_fr (by decide) ?_ ?_
    | with_reducible refine State.sat_fr (by decide) ?_ ?_
    | exact Mask.okHigh (Nat.le_of_ble_eq_true rfl)

theorem execInterruptTimer_fr {s : State} {q : BitVec 20} : FrO { sent := true, ev := true, lk := true, qm := true, hc := true } s (execInterruptTimer q s) := by
  unfold execInterruptTimer
  repeat' first
    | with_reducible exact Fr.refl _ _
    | with_reducible refine FrO.next ?_
    | with_reducible refine Fr.ite ?_ ?_
    | with_reducible refine State.irq_fr (by decide) ?_

theorem State.spillDrain_fr {M : Mask} {z : State} {q : Nat} {fuel : Nat} (hm : Mask.le { sent := true, ev := true, lk := true, qm := true, hc := true, bm := true, mem := true } M = true) :
    ∀ {s : State}, Fr M z s → Fr M z (State.spillDrain s q fuel) := by
  induction fuel with
  | zero =>
    intro s h0
    unfold State.spillDrain
    repeat' first
      | with_reducible assumption
  | succ fuel ih =>
    intro s h0
    unfold State.spillDrain
    repeat' first
      | with_reducible assumption
      | with_reducible refine Fr.ite ?_ ?_
      | with_reducible refine ih ?_
      | with_reducible refine State.cqRing_fr (by first | decide | exact Mask.le_trans (by decide) hm) ?_
      | with_reducible refine State.ctxUp_fr (by first | decide | exact Mask.le_trans (by decide) hm) ?_

theorem State.ciReturn_fr {M : Mask} {z s : State} {q : Nat} {ci : Nat} (hm : Mask.le { sent := true, ev := true, lk := true, qm := true, cm := true, hc := true, bm := true, mem := true } M = true) (h0 : Fr M z s) :
    Fr M z (State.ciReturn s q ci) := by
  refine Fr.via ?_ hm h0
  unfold State.ciReturn
  repeat' first
    | with_reducible exact Fr.refl _ _
    | with_reducible refine Fr.ite ?_ ?_
    | with_reducible refine State.cqError_fr (by decide) ?_
    | with_reducible refine State.cqHeld_fr (by decide) ?_
    | with_reducible refine State.cqShadow_fr (by decide) ?_
    | with_reducible refine State.ctxPut_fr (by decide) ?_
    | with_reducible refine State.deleteStep_fr (by decide) ?_
    | with_reducible refine State.spillDrain_fr (by decide) ?_
    | with_reducible refine Fr.when (fun _ => ?_) ?_

theorem execCqCiReadReturn_fr {s : State} {q : BitVec 20} : FrO { sent := true, ev := true, lk := true, qm := true, cm := true, hc := true, bm := true, mem := true } s (execCqCiReadReturn q s) := by
  unfold execCqCiReadReturn
  repeat' first
    | with_reducible exact Fr.refl _ _
    | with_reducible refine FrO.next ?_
    | with_reducible refine State.ciReturn_fr (by decide) ?_
    | split
    | with_reducible refine State.takeReturn_fr (by assumption) (by decide) ?_

theorem State.scanTurn_fr {M : Mask} {z s : State} {q : Nat} (hm : Mask.le { qm := true } M = true) (h0 : Fr M z s) :
    Fr M z (State.scanTurn s q) := by
  refine Fr.via ?_ hm h0
  unfold State.scanTurn
  repeat' first
    | with_reducible exact Fr.refl _ _
    | with_reducible refine Fr.ite ?_ ?_
    | with_reducible refine State.qmU_fr (by decide) ?_

theorem State.take_fr {M : Mask} {z s : State} {q : Nat} {i : Nat} {l : HcLine} (hm : Mask.le { sent := true, ev := true, md := true, lk := true, qm := true, cm := true, hc := true, bm := true, mem := true, mc := true } M = true) (h0 : Fr M z s) :
    Fr M z (State.take s q i l) := by
  refine Fr.via ?_ hm h0
  unfold State.take
  repeat' first
    | with_reducible exact Fr.refl _ _
    | with_reducible refine Fr.ite ?_ ?_
    | with_reducible refine State.cmOcc_fr (by decide) ?_
    | with_reducible refine State.cmU_fr (by decide) ?_
    | with_reducible refine State.complete_fr (by decide) ?_
    | with_reducible refine State.ctxPut_fr (by decide) ?_
    | with_reducible refine State.ctxUp_fr (by decide) ?_
    | with_reducible refine State.halt_fr (by decide) ?_
    | with_reducible refine State.hcDrop_fr (by decide) ?_
    | with_reducible refine State.hcOcc_fr (by decide) ?_
    | with_reducible refine State.hcPut_fr (by decide) ?_
    | with_reducible refine State.hcWrite_fr (by decide) ?_
    | with_reducible refine State.mdU_fr (by decide) (by first | rfl | (split <;> rfl)) ?_
    | with_reducible refine State.scanTurn_fr (by decide) ?_
    | split
    | (apply Fr.leafB <;> first | rfl | exact .inl rfl | exact .inr rfl | guard_target =~ Fr _ _ _)

theorem execEntryTaken_fr {s : State} {q : BitVec 20} : FrO { sent := true, ev := true, md := true, lk := true, qm := true, cm := true, hc := true, bm := true, mem := true, mc := true } s (execEntryTaken q s) := by
  unfold execEntryTaken
  repeat' first
    | with_reducible exact Fr.refl _ _
    | with_reducible refine FrO.next ?_
    | with_reducible refine Fr.ite ?_ ?_
    | with_reducible refine State.hcDrop_fr (by decide) ?_
    | with_reducible refine State.hcFill_fr (by decide) ?_
    | with_reducible refine State.note_fr (by decide) ?_ ?_
    | with_reducible refine State.scanRead_fr (by decide) ?_
    | with_reducible refine State.take_fr (by decide) ?_
    | split
    | exact Mask.okHigh (Nat.le_of_ble_eq_true rfl)

theorem State.ctxCreate_fr {M : Mask} {z s : State} {q : Nat} {c0 : QmCtx} (hm : Mask.le { qm := true, bm := true, mem := true } M = true) (h0 : Fr M z s) :
    Fr M z (State.ctxCreate s q c0) := by
  refine Fr.via ?_ hm h0
  unfold State.ctxCreate
  repeat' first
    | with_reducible exact Fr.refl _ _
    | with_reducible refine State.ctxPut_fr (by decide) ?_
    | with_reducible refine State.ovfFree_fr (by decide) ?_
    | with_reducible refine State.qmU_fr (by decide) ?_

theorem State.deleteStart_fr {M : Mask} {z s : State} {q : Nat} (hm : Mask.le { qm := true, cm := true, bm := true, mem := true } M = true) (h0 : Fr M z s) :
    Fr M z (State.deleteStart s q) := by
  refine Fr.via ?_ hm h0
  unfold State.deleteStart
  repeat' first
    | with_reducible exact Fr.refl _ _
    | with_reducible refine Fr.ite ?_ ?_
    | with_reducible refine State.cqDiscard_fr (by decide) ?_
    | with_reducible refine State.ctxPut_fr (by decide) ?_
    | with_reducible refine State.dbClear_fr (by decide) ?_
    | with_reducible refine State.qmU_fr (by decide) ?_

theorem State.ctxShow_fr {M : Mask} {z s : State} {bits : Nat} (hm : Mask.le {} M = true) (h0 : Fr M z s) :
    Fr M z (State.ctxShow s bits) := by
  refine Fr.via ?_ hm h0
  unfold State.ctxShow
  repeat' first
    | with_reducible exact Fr.refl _ _
    | with_reducible refine Fr.pB ?_ ?_
    | with_reducible refine Fr.each (fun _ _ => ?_) ?_
    | exact Mask.okHigh (le_add1 (by decide))

theorem State.qErr_fr {M : Mask} {z s : State} {e : Nat} (hm : Mask.le {} M = true) (h0 : Fr M z s) :
    Fr M z (State.qErr s e) := by
  refine Fr.via ?_ hm h0
  unfold State.qErr
  repeat' first
    | with_reducible exact Fr.refl _ _
    | with_reducible refine State.off_fr (by decide) ?_ ?_
    | with_reducible refine Fr.pB ?_ ?_
    | exact Mask.okHigh (Nat.le_of_ble_eq_true rfl)

theorem doQmRead_fr {M : Mask} {z s : State} (hm : Mask.le {} M = true) (h0 : Fr M z s) :
    Fr M z (doQmRead s) := by
  refine Fr.via ?_ hm h0
  unfold doQmRead
  repeat' first
    | with_reducible exact Fr.refl _ _
    | with_reducible refine Fr.ite ?_ ?_
    | with_reducible refine State.ctxShow_fr (by decide) ?_
    | with_reducible refine State.qErr_fr (by decide) ?_

theorem execQmRead_fr {s : State} : FrO {} s (execQmRead s) := by
  unfold execQmRead
  repeat' first
    | with_reducible exact Fr.refl _ _
    | with_reducible refine FrO.next ?_
    | with_reducible refine doQmRead_fr (by decide) ?_

theorem doQmCreate_fr {M : Mask} {z s : State} (hm : Mask.le { qm := true, bm := true, mem := true } M = true) (h0 : Fr M z s) :
    Fr M z (doQmCreate s) := by
  refine Fr.via ?_ hm h0
  unfold doQmCreate
  repeat' first
    | with_reducible exact Fr.refl _ _
    | with_reducible refine Fr.ite ?_ ?_
    | with_reducible refine State.ctxCreate_fr (by decide) ?_
    | with_reducible refine State.qErr_fr (by decide) ?_
    | with_reducible refine Fr.pB ?_ ?_
    | exact Mask.okHigh (Nat.le_of_ble_eq_true rfl)

theorem execQmCreate_fr {s : State} : FrO { qm := true, bm := true, mem := true } s (execQmCreate s) := by
  unfold execQmCreate
  repeat' first
    | with_reducible exact Fr.refl _ _
    | with_reducible refine FrO.next ?_
    | with_reducible refine doQmCreate_fr (by decide) ?_

theorem State.recoverSq_fr {M : Mask} {z s : State} {q : Nat} (hm : Mask.le { sent := true, ev := true, lk := true, qm := true } M = true) (h0 : Fr M z s) :
    Fr M z (State.recoverSq s q) := by
  refine Fr.via ?_ hm h0
  unfold State.recoverSq
  repeat' first
    | with_reducible exact Fr.refl _ _
    | with_reducible refine Fr.ite ?_ ?_
    | with_reducible refine State.off_fr (by decide) ?_ ?_
    | with_reducible refine State.qmU_fr (by decide) ?_
    | with_reducible refine State.sendRead_fr (by decide) ?_
    | with_reducible refine Fr.pB ?_ ?_
    | exact Mask.okHigh (Nat.le_of_ble_eq_true rfl)

theorem doQmRecover_fr {M : Mask} {z s : State} (hm : Mask.le { sent := true, ev := true, lk := true, qm := true } M = true) (h0 : Fr M z s) :
    Fr M z (doQmRecover s) := by
  refine Fr.via ?_ hm h0
  unfold doQmRecover
  repeat' first
    | with_reducible exact Fr.refl _ _
    | with_reducible refine Fr.ite ?_ ?_
    | with_reducible refine State.on_fr (by decide) ?_ ?_
    | with_reducible refine State.qErr_fr (by decide) ?_
    | with_reducible refine State.qmU_fr (by decide) ?_
    | with_reducible refine State.recoverSq_fr (by decide) ?_
    | with_reducible refine State.sendRead_fr (by decide) ?_
    | exact Mask.okHigh (Nat.le_of_ble_eq_true rfl)

theorem execQmRecover_fr {s : State} : FrO { sent := true, ev := true, lk := true, qm := true } s (execQmRecover s) := by
  unfold execQmRecover
  repeat' first
    | with_reducible exact Fr.refl _ _
    | with_reducible refine FrO.next ?_
    | with_reducible refine doQmRecover_fr (by decide) ?_

theorem State.recovered_fr {M : Mask} {z s : State} {q : Nat} {cq : Bool} {r : Option Nat} (hm : Mask.le { sent := true, ev := true, lk := true, qm := true, cm := true, hc := true, bm := true, mem := true } M = true) (h0 : Fr M z s) :
    Fr M z (State.recovered s q cq r) := by
  refine Fr.via ?_ hm h0
  unfold State.recovered
  repeat' first
    | with_reducible exact Fr.refl _ _
    | with_reducible refine Fr.ite ?_ ?_
    | with_reducible refine State.cqHeld_fr (by decide) ?_
    | with_reducible refine State.cqShadow_fr (by decide) ?_
    | with_reducible refine State.ctxPut_fr (by decide) ?_
    | with_reducible refine State.off_fr (by decide) ?_ ?_
    | with_reducible refine State.piReturn_fr (by decide) ?_
    | with_reducible refine State.qmU_fr (by decide) ?_
    | with_reducible refine State.recoverSq_fr (by decide) ?_
    | with_reducible refine State.spillDrain_fr (by decide) ?_
    | with_reducible refine Fr.pB ?_ ?_
    | with_reducible refine Fr.when (fun _ => ?_) ?_
    | split
    | exact Mask.okHigh (Nat.le_of_ble_eq_true rfl)

theorem execQmRecoverDone_fr {s : State} : FrO { sent := true, ev := true, lk := true, qm := true, cm := true, hc := true, bm := true, mem := true } s (execQmRecoverDone s) := by
  unfold execQmRecoverDone
  repeat' first
    | with_reducible exact Fr.refl _ _
    | with_reducible refine FrO.next ?_
    | with_reducible refine Fr.ite ?_ ?_
    | with_reducible refine State.qmU_fr (by decide) ?_
    | with_reducible refine State.recovered_fr (by decide) ?_
    | split
    | (apply Fr.leafB <;> first | rfl | exact .inl rfl | exact .inr rfl | guard_target =~ Fr _ _ _)

theorem doQmDelete_fr {M : Mask} {z s : State} (hm : Mask.le { qm := true, cm := true, bm := true, mem := true } M = true) (h0 : Fr M z s) :
    Fr M z (doQmDelete s) := by
  refine Fr.via ?_ hm h0
  unfold doQmDelete
  repeat' first
    | with_reducible exact Fr.refl _ _
    | with_reducible refine Fr.ite ?_ ?_
    | with_reducible refine State.deleteStart_fr (by decide) ?_
    | with_reducible refine State.deleteStep_fr (by decide) ?_
    | with_reducible refine State.qErr_fr (by decide) ?_

theorem execQmDelete_fr {s : State} : FrO { qm := true, cm := true, bm := true, mem := true } s (execQmDelete s) := by
  unfold execQmDelete
  repeat' first
    | with_reducible exact Fr.refl _ _
    | with_reducible refine FrO.next ?_
    | with_reducible refine doQmDelete_fr (by decide) ?_

theorem execHaltPark_fr {s : State} : FrO { sent := true, ev := true, md := true, chT := true, actT := true, ar := true, jn := true, rb := true, lk := true, qm := true, cm := true, rmd := true } s (execHaltPark s) := by
  unfold execHaltPark
  repeat' first
    | with_reducible exact Fr.refl _ _
    | with_reducible refine FrO.next ?_
    | with_reducible refine Fr.ite ?_ ?_
    | with_reducible refine State.chansDown_fr (by decide) ?_
    | with_reducible refine State.mdU_fr (by decide) (by first | rfl | (split <;> rfl)) ?_
    | with_reducible refine State.off_fr (by decide) ?_ ?_
    | with_reducible refine State.on_fr (by decide) ?_ ?_
    | with_reducible refine State.qmU_fr (by decide) ?_
    | with_reducible refine State.unloadAct_fr (by decide) ?_
    | with_reducible refine Fr.pB ?_ ?_
    | with_reducible refine Fr.each (fun _ _ => ?_) ?_
    | exact Mask.okHigh (Nat.le_of_ble_eq_true rfl)
    | (unfold Mask.ok; decide)

end Sys2Proof.Machine
end

