-- ==== Sys2Proof/Laws/FrRung.lean ====
section
/-! SUPPORT. Laws/FrRung.lean: what each operation of Machine/Rung.lean may touch: the lemma that later proofs cite in
place of unfolding it. -/

namespace Sys2Proof.Machine

open Reg

theorem State.smemShow_fr {M : Mask} {z s : State} {c : Nat} (hm : Mask.le {} M = true) (h0 : Fr M z s) :
    Fr M z (State.smemShow s c) := by
  refine Fr.via ?_ hm h0
  unfold State.smemShow
  repeat' first
    | with_reducible exact Fr.refl _ _
    | with_reducible refine Fr.pB ?_ ?_
    | exact Mask.okHigh (le_add1 (by decide))

theorem State.slotUp_fr {M : Mask} {z s : State} {c : Nat} {i : Nat} {f : SmemSlot → SmemSlot} (hm : Mask.le { chT := true } M = true) (h0 : Fr M z s) :
    Fr M z (State.slotUp s c i f) := by
  refine Fr.via ?_ hm h0
  unfold State.slotUp
  repeat' first
    | with_reducible exact Fr.refl _ _
    | with_reducible refine State.chUp_fr (by decide) ?_
    | with_reducible refine State.smemShow_fr (by decide) ?_

theorem State.unpin_fr {M : Mask} {z s : State} {l : Ladder} (hm : Mask.le { chT := true } M = true) (h0 : Fr M z s) :
    Fr M z (State.unpin s l) := by
  refine Fr.via ?_ hm h0
  unfold State.unpin
  repeat' first
    | with_reducible exact Fr.refl _ _
    | with_reducible refine State.slotUp_fr (by decide) ?_
    | split

theorem State.ldShow_fr {M : Mask} {z s : State} {c : Nat} (hm : Mask.le {} M = true) (h0 : Fr M z s) :
    Fr M z (State.ldShow s c) := by
  refine Fr.via ?_ hm h0
  unfold State.ldShow
  repeat' first
    | with_reducible exact Fr.refl _ _
    | with_reducible refine Fr.pB ?_ ?_
    | split
    | exact Mask.okHigh (le_add1 (by decide))
    | (apply Fr.leafB <;> first | rfl | exact .inl rfl | exact .inr rfl | guard_target =~ Fr _ _ _)

theorem State.ldLast_fr {M : Mask} {z s : State} {c : Nat} {result : Nat} {rung : Nat} {trial : Nat} {ofs : Int} {iter : Nat} (hm : Mask.le {} M = true) (h0 : Fr M z s) :
    Fr M z (State.ldLast s c result rung trial ofs iter) := by
  refine Fr.via ?_ hm h0
  unfold State.ldLast
  repeat' first
    | with_reducible exact Fr.refl _ _
    | with_reducible refine Fr.pB ?_ ?_
    | exact Mask.okHigh (le_add1 (by decide))

theorem State.ladDrop_fr {M : Mask} {z s : State} {l : Ladder} (hm : Mask.le { chT := true, ldT := true } M = true) (h0 : Fr M z s) :
    Fr M z (State.ladDrop s l) := by
  refine Fr.via ?_ hm h0
  unfold State.ladDrop
  repeat' first
    | with_reducible exact Fr.refl _ _
    | with_reducible refine State.ldShow_fr (by decide) ?_
    | with_reducible refine State.ldUp_fr (by decide) ?_
    | with_reducible refine State.unpin_fr (by decide) ?_

theorem State.ladUp_fr {M : Mask} {z s : State} {l : Ladder} {l' : Ladder} (hm : Mask.le { ldT := true } M = true) (h0 : Fr M z s) :
    Fr M z (State.ladUp s l l') := by
  refine Fr.via ?_ hm h0
  unfold State.ladUp
  repeat' first
    | with_reducible exact Fr.refl _ _
    | with_reducible refine State.ldShow_fr (by decide) ?_
    | with_reducible refine State.ldUp_fr (by decide) ?_

theorem State.queueRewrite_fr {M : Mask} {z s : State} {m : Nat} {mba : Nat} {data : Nat} {w : Nat} (hm : Mask.le { ldT := true } M = true) (h0 : Fr M z s) :
    Fr M z (State.queueRewrite s m mba data w) := by
  refine Fr.via ?_ hm h0
  unfold State.queueRewrite
  repeat' first
    | with_reducible exact Fr.refl _ _
    | with_reducible refine State.ldUp_fr (by decide) ?_

theorem State.rewriteAt_fr {M : Mask} {z s : State} {c : Nat} {rung : Nat} {stale : Bool} {m : Nat} {mba : Nat} {data : Nat} {w : Nat} (hm : Mask.le { ldT := true } M = true) (h0 : Fr M z s) :
    Fr M z (State.rewriteAt s c rung stale m mba data w) := by
  refine Fr.via ?_ hm h0
  unfold State.rewriteAt
  repeat' first
    | with_reducible exact Fr.refl _ _
    | with_reducible refine Fr.ite ?_ ?_
    | with_reducible refine State.queueRewrite_fr (by decide) ?_

theorem State.rewriteCancel_fr {M : Mask} {z s : State} {m : Nat} {mba : Nat} (hm : Mask.le { ldT := true } M = true) (h0 : Fr M z s) :
    Fr M z (State.rewriteCancel s m mba) := by
  refine Fr.via ?_ hm h0
  unfold State.rewriteCancel
  repeat' first
    | with_reducible exact Fr.refl _ _
    | with_reducible refine State.ldUp_fr (by decide) ?_

theorem State.gaveUp_fr {M : Mask} {z s : State} {e : LadEnd} (hm : Mask.le { sent := true, ev := true, ldT := true, lk := true } M = true) (h0 : Fr M z s) :
    Fr M z (State.gaveUp s e) := by
  refine Fr.via ?_ hm h0
  unfold State.gaveUp
  repeat' first
    | with_reducible exact Fr.refl _ _
    | with_reducible refine State.ldLast_fr (by decide) ?_
    | with_reducible refine State.ldUp_fr (by decide) ?_
    | with_reducible refine State.note_fr (by decide) ?_ ?_
    | with_reducible refine State.sat_fr (by decide) ?_ ?_
    | with_reducible refine Fr.when (fun _ => ?_) ?_
    | exact Mask.okHigh (le_add1 (by decide))

theorem State.ladLost_fr {M : Mask} {z s : State} {m : Nat} {mba : Nat} (hm : Mask.le { sent := true, ev := true, ldT := true, lk := true } M = true) (h0 : Fr M z s) :
    Fr M z (State.ladLost s m mba) := by
  refine Fr.via ?_ hm h0
  unfold State.ladLost
  repeat' first
    | with_reducible exact Fr.refl _ _
    | with_reducible refine State.gaveUp_fr (by decide) ?_
    | with_reducible refine Fr.each (fun _ _ => ?_) ?_

theorem State.ladWon_fr {M : Mask} {z s : State} {m : Nat} {mba : Nat} {data : Nat} {w : Nat} (hm : Mask.le { chT := true, ldT := true } M = true) (h0 : Fr M z s) :
    Fr M z (State.ladWon s m mba data w) := by
  refine Fr.via ?_ hm h0
  unfold State.ladWon
  repeat' first
    | with_reducible exact Fr.refl _ _
    | with_reducible refine Fr.ite ?_ ?_
    | with_reducible refine State.ladDrop_fr (by decide) ?_
    | with_reducible refine State.ladUp_fr (by decide) ?_
    | with_reducible refine State.ldLast_fr (by decide) ?_
    | with_reducible refine State.ldUp_fr (by decide) ?_
    | with_reducible refine State.on_fr (by decide) ?_ ?_
    | with_reducible refine State.rewriteAt_fr (by decide) ?_
    | with_reducible refine State.sat_fr (by decide) ?_ ?_
    | with_reducible refine Fr.each (fun _ _ => ?_) ?_
    | exact Mask.okHigh (le_add1 (by decide))

end Sys2Proof.Machine
end

