-- ==== Sys2Proof/Laws/FrJournal.lean ====
section
/-! SUPPORT. Laws/FrJournal.lean: what each operation of Machine/Journal.lean may touch: the lemma that later proofs cite in
place of unfolding it. -/

namespace Sys2Proof.Machine

open Reg

theorem State.freeze_fr {M : Mask} {z s : State} {v : Nat} (hm : Mask.le { sent := true, ev := true, unitT := true, ft := true, pw := true, md := true, chT := true, actT := true, spT := true, spWait := true, ar := true, jn := true, rb := true, lk := true, cm := true, hc := true, r4 := true, rmd := true, rpw := true } M = true) (h0 : Fr M z s) :
    Fr M z (State.freeze s v) := by
  refine Fr.via ?_ hm h0
  unfold State.freeze
  repeat' first
    | with_reducible exact Fr.refl _ _
    | with_reducible refine Fr.ite ?_ ?_
    | with_reducible refine State.ckPut_fr (by decide) ?_
    | with_reducible refine State.fault_fr (by decide) ?_ ?_
    | with_reducible refine State.onBit_fr (by decide) ?_ ?_
    | exact Mask.okHigh (Nat.le_of_ble_eq_true rfl)
    | (refine volBit_ok ?_ ?_ <;> exact Mask.okHigh (by decide))

theorem State.ftAdd_fr {M : Mask} {z s : State} {v : Nat} {b : Nat} {cause : Nat} (hm : Mask.le { sent := true, ev := true, unitT := true, ft := true, pw := true, md := true, chT := true, actT := true, spT := true, spWait := true, ar := true, jn := true, rb := true, lk := true, cm := true, hc := true, r4 := true, rmd := true, rpw := true } M = true) (h0 : Fr M z s) :
    Fr M z (State.ftAdd s v b cause) := by
  refine Fr.via ?_ hm h0
  unfold State.ftAdd
  repeat' first
    | with_reducible exact Fr.refl _ _
    | with_reducible refine Fr.ite ?_ ?_
    | with_reducible refine State.freeze_fr (by decide) ?_
    | with_reducible refine State.rbU_fr (by decide) ?_
    | with_reducible refine State.sat_fr (by decide) ?_ ?_
    | split
    | exact Mask.okHigh (Nat.le_of_ble_eq_true rfl)
    | (apply Fr.leafB <;> first | rfl | exact .inl rfl | exact .inr rfl | guard_target =~ Fr _ _ _)

theorem State.forfeit_fr {M : Mask} {z s : State} {v : Nat} {cause : Nat} {bs : List Nat} (hm : Mask.le { sent := true, ev := true, unitT := true, ft := true, pw := true, md := true, chT := true, actT := true, spT := true, spWait := true, ar := true, jn := true, rb := true, lk := true, cm := true, hc := true, r4 := true, rmd := true, rpw := true } M = true) (h0 : Fr M z s) :
    Fr M z (State.forfeit s v cause bs) := by
  refine Fr.via ?_ hm h0
  unfold State.forfeit
  repeat' first
    | with_reducible exact Fr.refl _ _
    | with_reducible refine State.ftAdd_fr (by decide) ?_
    | with_reducible refine Fr.each (fun _ _ => ?_) ?_

theorem State.forfeitEvent_fr {M : Mask} {z s : State} (hm : Mask.le { sent := true, ev := true, unitT := true, ft := true, pw := true, md := true, chT := true, actT := true, spT := true, spWait := true, ar := true, jn := true, rb := true, lk := true, cm := true, hc := true, r4 := true, rmd := true, rpw := true } M = true) (h0 : Fr M z s) :
    Fr M z (State.forfeitEvent s) := by
  refine Fr.via ?_ hm h0
  unfold State.forfeitEvent
  repeat' first
    | with_reducible exact Fr.refl _ _
    | with_reducible refine State.fault_fr (by decide) ?_ ?_
    | exact Mask.okHigh (Nat.le_of_ble_eq_true rfl)

theorem State.ftDrop_fr {M : Mask} {z s : State} {v : Nat} {b : Nat} (hm : Mask.le { rb := true } M = true) (h0 : Fr M z s) :
    Fr M z (State.ftDrop s v b).2 := by
  refine Fr.via ?_ hm h0
  unfold State.ftDrop
  repeat' first
    | with_reducible exact Fr.refl _ _
    | with_reducible refine Fr.ite2 ?_ ?_
    | with_reducible refine State.rbU_fr (by decide) ?_
    | split

theorem State.ftDropAll_fr {M : Mask} {z s t : State} {v : Nat} {bs : List Nat} (h : s.ftDropAll v bs = some t)
    (hm : Mask.le { rb := true } M = true) (h0 : Fr M z s) : Fr M z t := by
  unfold State.ftDropAll at h
  have key : ∀ (l : List Nat) (o : Option State), (∀ u, o = some u → Fr M z u) → ∀ u, l.foldl (fun o b => match o with
      | none => none
      | some t => match t.ftDrop v b with
        | (true, u) => some u
        | (false, _) => none) o = some u → Fr M z u := by
    intro l
    induction l with
    | nil => exact fun o h => h
    | cons b l ih =>
      intro o h
      refine ih _ (fun u hu => ?_)
      match o, h with
      | none, _ => cases hu
      | some w, h =>
        simp only at hu
        split at hu
        · rename_i e
          cases hu
          have := State.ftDrop_fr (v := v) (b := b) hm (h w rfl)
          rwa [e] at this
        · cases hu
  exact key bs (some s) (fun u hu => by cases hu; exact h0) t h

theorem State.recUp_fr {M : Mask} {z s : State} {p : JRec → Bool} {f : JRec → JRec} (hm : Mask.le { jn := true } M = true) (h0 : Fr M z s) :
    Fr M z (State.recUp s p f) := by
  refine Fr.via ?_ hm h0
  unfold State.recUp
  repeat' first
    | with_reducible exact Fr.refl _ _
    | with_reducible refine State.jnU_fr (by decide) ?_

theorem State.jTrim_fr {M : Mask} {z s : State} (hm : Mask.le { jn := true } M = true) (h0 : Fr M z s) :
    Fr M z (State.jTrim s) := by
  refine Fr.via ?_ hm h0
  unfold State.jTrim
  repeat' first
    | with_reducible exact Fr.refl _ _
    | with_reducible refine State.jnU_fr (by decide) ?_

theorem State.jdWrite_fr {M : Mask} {z s : State} {f : DieLog → DieLog} (hm : Mask.le { jn := true } M = true) (h0 : Fr M z s) :
    Fr M z (State.jdWrite s f) := by
  refine Fr.via ?_ hm h0
  unfold State.jdWrite
  repeat' first
    | with_reducible exact Fr.refl _ _
    | with_reducible refine State.jnU_fr (by decide) ?_

theorem State.devWrite_fr {M : Mask} {z s : State} (hm : Mask.le { rb := true } M = true) (h0 : Fr M z s) :
    Fr M z (State.devWrite s) := by
  refine Fr.via ?_ hm h0
  unfold State.devWrite
  repeat' first
    | with_reducible exact Fr.refl _ _
    | with_reducible refine State.rbU_fr (by decide) ?_

theorem State.setFail_fr {M : Mask} {z s : State} {v : Nat} {l : List Nat} (hm : Mask.le {} M = true) (h0 : Fr M z s) :
    Fr M z (State.setFail s v l) := by
  refine Fr.via ?_ hm h0
  unfold State.setFail
  repeat' first
    | with_reducible exact Fr.refl _ _
    | with_reducible refine Fr.pB ?_ ?_
    | with_reducible refine Fr.wrB ?_ ?_
    | exact Mask.okHigh (le_add1 (by decide))

theorem State.declareFailed_fr {M : Mask} {z s : State} {m : Nat} {granted : Bool} (hm : Mask.le { sent := true, ev := true, unitT := true, ft := true, pw := true, md := true, chT := true, actT := true, spT := true, spWait := true, ar := true, jn := true, rb := true, lk := true, cm := true, hc := true, r4 := true, rmd := true, rpw := true } M = true) (h0 : Fr M z s) :
    Fr M z (State.declareFailed s m granted) := by
  refine Fr.via ?_ hm h0
  unfold State.declareFailed
  repeat' first
    | with_reducible exact Fr.refl _ _
    | with_reducible refine Fr.ite ?_ ?_
    | with_reducible refine State.arU_fr (by decide) ?_
    | with_reducible refine State.ckPut_fr (by decide) ?_
    | with_reducible refine State.classNote_fr (by decide) ?_
    | with_reducible refine State.copiesLost_fr (by decide) ?_
    | with_reducible refine State.devWrite_fr (by decide) ?_
    | with_reducible refine State.fault_fr (by decide) ?_ ?_
    | with_reducible refine State.passStart_fr (by decide) ?_
    | with_reducible refine State.passTouch_fr (by decide) ?_
    | with_reducible refine State.rbU_fr (by decide) ?_
    | with_reducible refine State.reconAll_fr (by decide) ?_
    | with_reducible refine State.setFail_fr (by decide) ?_
    | with_reducible refine State.setMem_fr (by decide) ?_
    | with_reducible refine State.spillCheck_fr (by decide) ?_
    | with_reducible refine Fr.each (fun _ _ => ?_) ?_
    | with_reducible refine Fr.when (fun _ => ?_) ?_
    | exact Mask.okHigh (Nat.le_of_ble_eq_true rfl)

theorem State.holdCheck_fr {M : Mask} {z : State}  {fuel : Nat} (hm : Mask.le { sent := true, ev := true, unitT := true, ft := true, pw := true, md := true, chT := true, actT := true, spT := true, spWait := true, ar := true, jn := true, rb := true, lk := true, cm := true, hc := true, r4 := true, rmd := true, rpw := true } M = true) :
    ∀ {s : State}, Fr M z s → Fr M z (State.holdCheck s fuel) := by
  induction fuel with
  | zero =>
    intro s h0
    unfold State.holdCheck
    repeat' first
      | with_reducible assumption
  | succ fuel ih =>
    intro s h0
    unfold State.holdCheck
    repeat' first
      | with_reducible assumption
      | with_reducible refine Fr.ite ?_ ?_
      | with_reducible refine ih ?_
      | with_reducible refine State.declareFailed_fr (by first | decide | exact Mask.le_trans (by decide) hm) ?_
      | with_reducible refine State.note_fr (by first | decide | exact Mask.le_trans (by decide) hm) ?_ ?_
      | split
      | exact Mask.okHigh (Nat.le_of_ble_eq_true rfl)

theorem State.edAdd_fr {M : Mask} {z s : State} {e : EdEnt} (hm : Mask.le { bm := true } M = true) (h0 : Fr M z s) :
    Fr M z (State.edAdd s e) := by
  refine Fr.via ?_ hm h0
  unfold State.edAdd
  repeat' first
    | with_reducible exact Fr.refl _ _
    | with_reducible refine State.edEvict_fr (by decide) ?_
    | with_reducible refine State.edSet_fr (by decide) ?_
    | split
    | (apply Fr.leafB <;> first | rfl | exact .inl rfl | exact .inr rfl | guard_target =~ Fr _ _ _)

theorem State.dirPut_fr {M : Mask} {z s : State} {r : JRec} (hm : Mask.le { ldT := true, cm := true, bm := true } M = true) (h0 : Fr M z s) :
    Fr M z (State.dirPut s r) := by
  refine Fr.via ?_ hm h0
  unfold State.dirPut
  repeat' first
    | with_reducible exact Fr.refl _ _
    | with_reducible refine State.cmU_fr (by decide) ?_
    | with_reducible refine State.edAdd_fr (by decide) ?_
    | with_reducible refine State.edRemove_fr (by decide) ?_
    | with_reducible refine State.rewriteCancel_fr (by decide) ?_
    | with_reducible refine Fr.each (fun _ _ => ?_) ?_

theorem State.dirDrop_fr {M : Mask} {z s : State} {r : JRec} (hm : Mask.le { bm := true } M = true) (h0 : Fr M z s) :
    Fr M z (State.dirDrop s r) := by
  refine Fr.via ?_ hm h0
  unfold State.dirDrop
  repeat' first
    | with_reducible exact Fr.refl _ _
    | with_reducible refine State.edRemove_fr (by decide) ?_

theorem State.dirRestore_fr {M : Mask} {z s : State} {v : Nat} {bs : List Nat} (hm : Mask.le { bm := true } M = true) (h0 : Fr M z s) :
    Fr M z (State.dirRestore s v bs) := by
  refine Fr.via ?_ hm h0
  unfold State.dirRestore
  repeat' first
    | with_reducible exact Fr.refl _ _
    | with_reducible refine State.edAdd_fr (by decide) ?_
    | with_reducible refine State.edRemove_fr (by decide) ?_
    | with_reducible refine Fr.each (fun _ _ => ?_) ?_
    | split

theorem State.retireRec_fr {M : Mask} {z s : State} {j : Nat} (hm : Mask.le { jn := true } M = true) (h0 : Fr M z s) :
    Fr M z (State.retireRec s j) := by
  refine Fr.via ?_ hm h0
  unfold State.retireRec
  repeat' first
    | with_reducible exact Fr.refl _ _
    | with_reducible refine Fr.ite ?_ ?_
    | with_reducible refine State.jnU_fr (by decide) ?_
    | split
    | (apply Fr.leafB <;> first | rfl | exact .inl rfl | exact .inr rfl | guard_target =~ Fr _ _ _)

theorem State.dataRetire_fr {M : Mask} {z s : State} (hm : Mask.le { jn := true } M = true) (h0 : Fr M z s) :
    Fr M z (State.dataRetire s) := by
  refine Fr.via ?_ hm h0
  unfold State.dataRetire
  repeat' first
    | with_reducible exact Fr.refl _ _
    | with_reducible refine State.retireRec_fr (by decide) ?_
    | with_reducible refine Fr.each (fun _ _ => ?_) ?_

theorem State.replayDone_fr {M : Mask} {z s : State} (hm : Mask.le { sent := true, ev := true, jn := true, lk := true } M = true) (h0 : Fr M z s) :
    Fr M z (State.replayDone s) := by
  refine Fr.via ?_ hm h0
  unfold State.replayDone
  repeat' first
    | with_reducible exact Fr.refl _ _
    | with_reducible refine Fr.ite ?_ ?_
    | with_reducible refine State.jnU_fr (by decide) ?_
    | with_reducible refine State.note_fr (by decide) ?_ ?_
    | with_reducible refine Fr.pB ?_ ?_
    | exact Mask.okHigh (Nat.le_of_ble_eq_true rfl)

theorem State.onMedium_fr {M : Mask} {z s : State} {r : JRec} (hm : Mask.le { jn := true, cm := true, bm := true, mem := true, mc := true } M = true) (h0 : Fr M z s) :
    Fr M z (State.onMedium s r) := by
  refine Fr.via ?_ hm h0
  unfold State.onMedium
  repeat' first
    | with_reducible exact Fr.refl _ _
    | with_reducible refine Fr.ite ?_ ?_
    | with_reducible refine State.cmdUp_fr (by decide) ?_
    | with_reducible refine State.complete_fr (by decide) ?_
    | with_reducible refine State.recUp_fr (by decide) ?_
    | with_reducible refine Fr.each (fun _ _ => ?_) ?_

theorem State.copyLost_fr {M : Mask} {z s : State} (hm : Mask.le {} M = true) (h0 : Fr M z s) :
    Fr M z (State.copyLost s) := by
  refine Fr.via ?_ hm h0
  unfold State.copyLost
  repeat' first
    | with_reducible exact Fr.refl _ _
    | with_reducible refine Fr.pB ?_ ?_
    | exact Mask.okHigh (Nat.le_of_ble_eq_true rfl)

theorem State.retired_fr {M : Mask} {z s : State} {js : List Nat} (hm : Mask.le { sent := true, ev := true, jn := true, lk := true, cm := true, bm := true, mem := true, mc := true } M = true) (h0 : Fr M z s) :
    Fr M z (State.retired s js) := by
  refine Fr.via ?_ hm h0
  unfold State.retired
  repeat' first
    | with_reducible exact Fr.refl _ _
    | with_reducible refine State.copyLost_fr (by decide) ?_
    | with_reducible refine State.dataRetire_fr (by decide) ?_
    | with_reducible refine State.dirDrop_fr (by decide) ?_
    | with_reducible refine State.jTrim_fr (by decide) ?_
    | with_reducible refine State.jnU_fr (by decide) ?_
    | with_reducible refine State.onMedium_fr (by decide) ?_
    | with_reducible refine State.recUp_fr (by decide) ?_
    | with_reducible refine State.replayDone_fr (by decide) ?_
    | with_reducible refine Fr.each (fun _ _ => ?_) ?_

theorem State.spillSet_fr {M : Mask} {z s : State} {x : Option (Nat × Nat)} (hm : Mask.le { jn := true } M = true) (h0 : Fr M z s) :
    Fr M z (State.spillSet s x) := by
  refine Fr.via ?_ hm h0
  unfold State.spillSet
  repeat' first
    | with_reducible exact Fr.refl _ _
    | with_reducible refine State.jnU_fr (by decide) ?_

theorem State.spillNext_fr {M : Mask} {z s : State} (hm : Mask.le { sent := true, ev := true, unitT := true, ft := true, pw := true, md := true, chT := true, actT := true, spT := true, spWait := true, ar := true, jn := true, rb := true, lk := true, cm := true, hc := true, r4 := true, rmd := true, rpw := true } M = true) (h0 : Fr M z s) :
    Fr M z (State.spillNext s) := by
  refine Fr.via ?_ hm h0
  unfold State.spillNext
  repeat' first
    | with_reducible exact Fr.refl _ _
    | with_reducible refine Fr.ite ?_ ?_
    | with_reducible refine State.fault_fr (by decide) ?_ ?_
    | with_reducible refine State.jnU_fr (by decide) ?_
    | with_reducible refine State.note_fr (by decide) ?_ ?_
    | with_reducible refine State.spillSet_fr (by decide) ?_
    | split
    | exact Mask.okHigh (Nat.le_of_ble_eq_true rfl)

theorem State.spillStep_fr {M : Mask} {z s : State} (hm : Mask.le { sent := true, ev := true, unitT := true, ft := true, pw := true, md := true, chT := true, actT := true, spT := true, spWait := true, ar := true, jn := true, rb := true, lk := true, cm := true, hc := true, r4 := true, rmd := true, rpw := true } M = true) (h0 : Fr M z s) :
    Fr M z (State.spillStep s) := by
  refine Fr.via ?_ hm h0
  unfold State.spillStep
  repeat' first
    | with_reducible exact Fr.refl _ _
    | with_reducible refine Fr.ite ?_ ?_
    | with_reducible refine State.jnU_fr (by decide) ?_
    | with_reducible refine State.spillNext_fr (by decide) ?_

theorem State.dirFollow_fr {M : Mask} {z s : State} {r : JRec} (hm : Mask.le { bm := true } M = true) (h0 : Fr M z s) :
    Fr M z (State.dirFollow s r) := by
  refine Fr.via ?_ hm h0
  unfold State.dirFollow
  repeat' first
    | with_reducible exact Fr.refl _ _
    | with_reducible refine State.edSet_fr (by decide) ?_

theorem State.padNow_fr {M : Mask} {z s : State} (hm : Mask.le { jn := true } M = true) (h0 : Fr M z s) :
    Fr M z (State.padNow s) := by
  refine Fr.via ?_ hm h0
  unfold State.padNow
  repeat' first
    | with_reducible exact Fr.refl _ _
    | with_reducible refine State.inc_fr (by decide) ?_ ?_
    | with_reducible refine State.jdWrite_fr (by decide) ?_
    | with_reducible refine State.jnU_fr (by decide) ?_
    | exact Mask.okHigh (Nat.le_of_ble_eq_true rfl)

theorem State.copyBack_fr {M : Mask} {z s : State} {r : JRec} (hm : Mask.le { sent := true, ev := true, unitT := true, ft := true, pw := true, md := true, chT := true, actT := true, spT := true, spWait := true, ar := true, jn := true, rb := true, lk := true, cm := true, hc := true, bm := true, r4 := true, rmd := true, rpw := true } M = true) (h0 : Fr M z s) :
    Fr M z (State.copyBack s r) := by
  refine Fr.via ?_ hm h0
  unfold State.copyBack
  repeat' first
    | with_reducible exact Fr.refl _ _
    | with_reducible refine Fr.ite ?_ ?_
    | with_reducible refine State.copyLost_fr (by decide) ?_
    | with_reducible refine State.dirFollow_fr (by decide) ?_
    | with_reducible refine State.jdWrite_fr (by decide) ?_
    | with_reducible refine State.jnU_fr (by decide) ?_
    | with_reducible refine State.padNow_fr (by decide) ?_
    | with_reducible refine State.recUp_fr (by decide) ?_
    | with_reducible refine State.spillSet_fr (by decide) ?_
    | with_reducible refine State.spillStep_fr (by decide) ?_

theorem execSpillIndexWrite_fr {s : State} : FrO { sent := true, ev := true, unitT := true, ft := true, pw := true, md := true, chT := true, actT := true, spT := true, spWait := true, ar := true, jn := true, rb := true, lk := true, cm := true, hc := true, bm := true, r4 := true, rmd := true, rpw := true } s (execSpillIndexWrite s) := by
  unfold execSpillIndexWrite
  repeat' first
    | with_reducible exact Fr.refl _ _
    | with_reducible refine FrO.next ?_
    | with_reducible refine Fr.ite ?_ ?_
    | with_reducible refine State.copyBack_fr (by decide) ?_
    | with_reducible refine State.copyLost_fr (by decide) ?_
    | with_reducible refine State.dirFollow_fr (by decide) ?_
    | with_reducible refine State.jnU_fr (by decide) ?_
    | with_reducible refine State.recUp_fr (by decide) ?_
    | with_reducible refine State.spillSet_fr (by decide) ?_
    | with_reducible refine State.spillStep_fr (by decide) ?_
    | split

theorem State.recLost_fr {M : Mask} {z s : State} {j : Nat} {readable : Bool} (hm : Mask.le { sent := true, ev := true, unitT := true, ft := true, pw := true, md := true, chT := true, actT := true, spT := true, spWait := true, ar := true, jn := true, rb := true, lk := true, cm := true, hc := true, bm := true, r4 := true, rmd := true, rpw := true } M = true) (h0 : Fr M z s) :
    Fr M z (State.recLost s j readable) := by
  refine Fr.via ?_ hm h0
  unfold State.recLost
  repeat' first
    | with_reducible exact Fr.refl _ _
    | with_reducible refine Fr.ite ?_ ?_
    | with_reducible refine State.arU_fr (by decide) ?_
    | with_reducible refine State.copyLost_fr (by decide) ?_
    | with_reducible refine State.dirDrop_fr (by decide) ?_
    | with_reducible refine State.fault_fr (by decide) ?_ ?_
    | with_reducible refine State.forfeit_fr (by decide) ?_
    | with_reducible refine State.jTrim_fr (by decide) ?_
    | with_reducible refine State.jnU_fr (by decide) ?_
    | with_reducible refine State.recUp_fr (by decide) ?_
    | with_reducible refine State.sat_fr (by decide) ?_ ?_
    | with_reducible refine Fr.when (fun _ => ?_) ?_
    | split
    | exact Mask.okHigh (Nat.le_of_ble_eq_true rfl)

theorem State.jdRead_fr {M : Mask} {z s : State} {ce : Nat} {lost : List (Nat × Bool)} (hm : Mask.le { sent := true, ev := true, unitT := true, ft := true, pw := true, md := true, chT := true, actT := true, spT := true, spWait := true, ar := true, jn := true, rb := true, lk := true, cm := true, hc := true, bm := true, r4 := true, rmd := true, rpw := true } M = true) (h0 : Fr M z s) :
    Fr M z (State.jdRead s ce lost) := by
  refine Fr.via ?_ hm h0
  unfold State.jdRead
  repeat' first
    | with_reducible exact Fr.refl _ _
    | with_reducible refine State.on_fr (by decide) ?_ ?_
    | with_reducible refine State.recLost_fr (by decide) ?_
    | with_reducible refine State.sat_fr (by decide) ?_ ?_
    | with_reducible refine Fr.each (fun _ _ => ?_) ?_
    | with_reducible refine Fr.when (fun _ => ?_) ?_
    | exact Mask.okHigh (Nat.le_of_ble_eq_true rfl)

theorem State.lostCheck_fr {M : Mask} {z s : State} (hm : Mask.le { sent := true, ev := true, unitT := true, ft := true, pw := true, md := true, chT := true, actT := true, spT := true, spWait := true, ar := true, jn := true, rb := true, lk := true, cm := true, hc := true, bm := true, r4 := true, rmd := true, rpw := true } M = true) (h0 : Fr M z s) :
    Fr M z (State.lostCheck s) := by
  refine Fr.via ?_ hm h0
  unfold State.lostCheck
  repeat' first
    | with_reducible exact Fr.refl _ _
    | with_reducible refine State.recLost_fr (by decide) ?_
    | with_reducible refine Fr.each (fun _ _ => ?_) ?_

theorem State.settle_fr {M : Mask} {z s : State} (hm : Mask.le { sent := true, ev := true, unitT := true, ft := true, pw := true, md := true, chT := true, actT := true, spT := true, spWait := true, ar := true, jn := true, rb := true, lk := true, cm := true, hc := true, bm := true, r4 := true, rmd := true, rpw := true } M = true) (h0 : Fr M z s) :
    Fr M z (State.settle s) := by
  refine Fr.via ?_ hm h0
  unfold State.settle
  repeat' first
    | with_reducible exact Fr.refl _ _
    | with_reducible refine State.holdCheck_fr (by decide) ?_
    | with_reducible refine State.lostCheck_fr (by decide) ?_
    | with_reducible refine State.spillNext_fr (by decide) ?_

theorem State.commitStart_fr {M : Mask} {z s : State} (hm : Mask.le { sent := true, ev := true, ar := true, jn := true, lk := true, cm := true } M = true) (h0 : Fr M z s) :
    Fr M z (State.commitStart s) := by
  refine Fr.via ?_ hm h0
  unfold State.commitStart
  repeat' first
    | with_reducible exact Fr.refl _ _
    | with_reducible refine Fr.ite ?_ ?_
    | with_reducible refine State.arU_fr (by decide) ?_
    | with_reducible refine State.cmdUp_fr (by decide) ?_
    | with_reducible refine State.jnU_fr (by decide) ?_
    | with_reducible refine State.note_fr (by decide) ?_ ?_
    | split
    | exact Mask.okHigh (Nat.le_of_ble_eq_true rfl)
    | (apply Fr.leafB <;> first | rfl | exact .inl rfl | exact .inr rfl | guard_target =~ Fr _ _ _)

theorem execCommitStart_fr {s : State} : FrO { sent := true, ev := true, ar := true, jn := true, lk := true, cm := true } s (execCommitStart s) := by
  unfold execCommitStart
  repeat' first
    | with_reducible exact Fr.refl _ _
    | with_reducible refine FrO.next ?_
    | with_reducible refine State.commitStart_fr (by decide) ?_

theorem State.cutOff_fr {M : Mask} {z s : State} {id : Nat} (hm : Mask.le { jn := true, bm := true } M = true) (h0 : Fr M z s) :
    Fr M z (State.cutOff s id) := by
  refine Fr.via ?_ hm h0
  unfold State.cutOff
  repeat' first
    | with_reducible exact Fr.refl _ _
    | with_reducible refine State.dirDrop_fr (by decide) ?_
    | with_reducible refine State.dirRestore_fr (by decide) ?_
    | with_reducible refine State.jnU_fr (by decide) ?_
    | with_reducible refine State.recUp_fr (by decide) ?_
    | with_reducible refine State.retireRec_fr (by decide) ?_
    | with_reducible refine Fr.each (fun _ _ => ?_) ?_

theorem State.windowDirty_fr {M : Mask} {z s : State} {v : Nat} {bs : List Nat} (hm : Mask.le { rb := true } M = true) (h0 : Fr M z s) :
    Fr M z (State.windowDirty s v bs) := by
  refine Fr.via ?_ hm h0
  unfold State.windowDirty
  repeat' first
    | with_reducible exact Fr.refl _ _
    | with_reducible refine Fr.ite ?_ ?_
    | with_reducible refine State.rbU_fr (by decide) ?_

theorem State.lastDurable_fr {M : Mask} {z s : State} {r : JRec} (hm : Mask.le { sent := true, ev := true, unitT := true, ft := true, pw := true, md := true, chT := true, actT := true, spT := true, spWait := true, ar := true, jn := true, rb := true, lk := true, cm := true, hc := true, bm := true, mem := true, mc := true, r4 := true, rmd := true, rpw := true } M = true) (h0 : Fr M z s) :
    Fr M z (State.lastDurable s r) := by
  refine Fr.via ?_ hm h0
  unfold State.lastDurable
  repeat' first
    | with_reducible exact Fr.refl _ _
    | with_reducible refine State.cmdUp_fr (by decide) ?_
    | with_reducible refine State.complete_fr (by decide) ?_
    | with_reducible refine State.cutOff_fr (by decide) ?_
    | with_reducible refine State.dataRetire_fr (by decide) ?_
    | with_reducible refine State.freeze_fr (by decide) ?_
    | with_reducible refine State.recUp_fr (by decide) ?_
    | with_reducible refine State.windowDirty_fr (by decide) ?_
    | split
    | with_reducible refine State.ftDropAll_fr (by assumption) (by decide) ?_
    | (apply Fr.leafB <;> first | rfl | exact .inl rfl | exact .inr rfl | guard_target =~ Fr _ _ _)

theorem State.durable_fr {M : Mask} {z s : State} {c : JRec} (hm : Mask.le { sent := true, ev := true, unitT := true, ft := true, pw := true, md := true, chT := true, ldT := true, actT := true, spT := true, spWait := true, ar := true, jn := true, rb := true, lk := true, cm := true, hc := true, bm := true, mem := true, mc := true, r4 := true, rmd := true, rpw := true } M = true) (h0 : Fr M z s) :
    Fr M z (State.durable s c) := by
  refine Fr.via ?_ hm h0
  unfold State.durable
  repeat' first
    | with_reducible exact Fr.refl _ _
    | with_reducible refine Fr.ite ?_ ?_
    | with_reducible refine State.arU_fr (by decide) ?_
    | with_reducible refine State.complete_fr (by decide) ?_
    | with_reducible refine State.cutOff_fr (by decide) ?_
    | with_reducible refine State.dirPut_fr (by decide) ?_
    | with_reducible refine State.inc_fr (by decide) ?_ ?_
    | with_reducible refine State.jdWrite_fr (by decide) ?_
    | with_reducible refine State.jnU_fr (by decide) ?_
    | with_reducible refine State.lastDurable_fr (by decide) ?_
    | with_reducible refine State.retired_fr (by decide) ?_
    | split
    | exact Mask.okHigh (Nat.le_of_ble_eq_true rfl)

theorem State.dieLateAck_fr {M : Mask} {z s : State} {d : Nat} (hm : Mask.le { sent := true, ev := true, jn := true, lk := true } M = true) (h0 : Fr M z s) :
    Fr M z (State.dieLateAck s d) := by
  refine Fr.via ?_ hm h0
  unfold State.dieLateAck
  repeat' first
    | with_reducible exact Fr.refl _ _
    | with_reducible refine Fr.ite ?_ ?_
    | with_reducible refine State.jnU_fr (by decide) ?_
    | with_reducible refine State.note_fr (by decide) ?_ ?_
    | with_reducible refine State.sat_fr (by decide) ?_ ?_
    | split
    | exact Mask.okHigh (Nat.le_of_ble_eq_true rfl)

theorem State.jnQueue_fr {M : Mask} {z s : State} {rs : List JRec} (hm : Mask.le { jn := true } M = true) (h0 : Fr M z s) :
    Fr M z (State.jnQueue s rs) := by
  refine Fr.via ?_ hm h0
  unfold State.jnQueue
  repeat' first
    | with_reducible exact Fr.refl _ _
    | with_reducible refine State.jnU_fr (by decide) ?_

theorem execCommitDurable_fr {s : State} {late : BitVec 2} : FrO { sent := true, ev := true, unitT := true, ft := true, pw := true, md := true, chT := true, ldT := true, actT := true, spT := true, spWait := true, ar := true, jn := true, rb := true, lk := true, cm := true, hc := true, bm := true, mem := true, mc := true, r4 := true, rmd := true, rpw := true } s (execCommitDurable late s) := by
  unfold execCommitDurable
  repeat' first
    | with_reducible exact Fr.refl _ _
    | with_reducible refine FrO.next ?_
    | with_reducible refine Fr.ite ?_ ?_
    | with_reducible refine State.dieLateAck_fr (by decide) ?_
    | with_reducible refine State.durable_fr (by decide) ?_
    | with_reducible refine State.settle_fr (by decide) ?_
    | with_reducible refine State.spillStep_fr (by decide) ?_
    | with_reducible refine Fr.when (fun _ => ?_) ?_
    | split
    | (apply Fr.leafB <;> first | rfl | exact .inl rfl | exact .inr rfl | guard_target =~ Fr _ _ _)

theorem State.dieFail_fr {M : Mask} {z s : State} {d : Nat} (hm : Mask.le { sent := true, ev := true, unitT := true, ft := true, pw := true, md := true, chT := true, actT := true, spT := true, spWait := true, ar := true, jn := true, rb := true, lk := true, cm := true, hc := true, r4 := true, rmd := true, rpw := true } M = true) (h0 : Fr M z s) :
    Fr M z (State.dieFail s d) := by
  refine Fr.via ?_ hm h0
  unfold State.dieFail
  repeat' first
    | with_reducible exact Fr.refl _ _
    | with_reducible refine State.fault_fr (by decide) ?_ ?_
    | with_reducible refine State.off_fr (by decide) ?_ ?_
    | split
    | exact Mask.okHigh (Nat.le_of_ble_eq_true rfl)

theorem State.resyncStop_fr {M : Mask} {z s : State} (hm : Mask.le {} M = true) (h0 : Fr M z s) :
    Fr M z (State.resyncStop s) := by
  refine Fr.via ?_ hm h0
  unfold State.resyncStop
  repeat' first
    | with_reducible exact Fr.refl _ _
    | with_reducible refine Fr.ite ?_ ?_
    | with_reducible refine State.off_fr (by decide) ?_ ?_
    | exact Mask.okHigh (Nat.le_of_ble_eq_true rfl)

theorem State.replayLost_fr {M : Mask} {z s : State} (hm : Mask.le {} M = true) (h0 : Fr M z s) :
    Fr M z (State.replayLost s) := by
  refine Fr.via ?_ hm h0
  unfold State.replayLost
  repeat' first
    | with_reducible exact Fr.refl _ _
    | with_reducible refine Fr.ite ?_ ?_
    | with_reducible refine State.off_fr (by decide) ?_ ?_
    | exact Mask.okHigh (Nat.le_of_ble_eq_true rfl)

theorem execJdAccessTimeout_fr {s : State} {d : Fin 2} : FrO { sent := true, ev := true, unitT := true, ft := true, pw := true, md := true, chT := true, actT := true, spT := true, spWait := true, ar := true, jn := true, rb := true, lk := true, cm := true, hc := true, r4 := true, rmd := true, rpw := true } s (execJdAccessTimeout d s) := by
  unfold execJdAccessTimeout
  repeat' first
    | with_reducible exact Fr.refl _ _
    | with_reducible refine FrO.next ?_
    | with_reducible refine Fr.ite ?_ ?_
    | with_reducible refine State.dieFail_fr (by decide) ?_
    | with_reducible refine State.jnU_fr (by decide) ?_
    | with_reducible refine State.replayLost_fr (by decide) ?_
    | with_reducible refine State.resyncStop_fr (by decide) ?_

theorem execJdDieFault_fr {s : State} {d : Fin 2} : FrO { sent := true, ev := true, unitT := true, ft := true, pw := true, md := true, chT := true, actT := true, spT := true, spWait := true, ar := true, jn := true, rb := true, lk := true, cm := true, hc := true, r4 := true, rmd := true, rpw := true } s (execJdDieFault d s) := by
  unfold execJdDieFault
  repeat' first
    | with_reducible exact Fr.refl _ _
    | with_reducible refine FrO.next ?_
    | with_reducible refine Fr.ite ?_ ?_
    | with_reducible refine State.dieFail_fr (by decide) ?_
    | with_reducible refine State.replayLost_fr (by decide) ?_
    | with_reducible refine State.resyncStop_fr (by decide) ?_

theorem State.sbWrite_fr {M : Mask} {z s : State} (hm : Mask.le { jn := true } M = true) (h0 : Fr M z s) :
    Fr M z (State.sbWrite s) := by
  refine Fr.via ?_ hm h0
  unfold State.sbWrite
  repeat' first
    | with_reducible exact Fr.refl _ _
    | with_reducible refine Fr.ite ?_ ?_
    | with_reducible refine State.jdWrite_fr (by decide) ?_
    | with_reducible refine State.jnU_fr (by decide) ?_

theorem execSuperblockWrite_fr {s : State} : FrO { jn := true } s (execSuperblockWrite s) := by
  unfold execSuperblockWrite
  repeat' first
    | with_reducible exact Fr.refl _ _
    | with_reducible refine FrO.next ?_
    | with_reducible refine Fr.ite ?_ ?_
    | with_reducible refine State.sbWrite_fr (by decide) ?_

theorem doJnResync_fr {M : Mask} {z s : State} (hm : Mask.le {} M = true) (h0 : Fr M z s) :
    Fr M z (doJnResync s) := by
  refine Fr.via ?_ hm h0
  unfold doJnResync
  repeat' first
    | with_reducible exact Fr.refl _ _
    | with_reducible refine Fr.ite ?_ ?_
    | with_reducible refine State.off_fr (by decide) ?_ ?_
    | with_reducible refine State.on_fr (by decide) ?_ ?_
    | with_reducible refine Fr.pB ?_ ?_
    | exact Mask.okHigh (Nat.le_of_ble_eq_true rfl)

theorem execJnResync_fr {s : State} : FrO {} s (execJnResync s) := by
  unfold execJnResync
  repeat' first
    | with_reducible exact Fr.refl _ _
    | with_reducible refine FrO.next ?_
    | with_reducible refine doJnResync_fr (by decide) ?_

theorem execJnResyncDone_fr {s : State} : FrO { jn := true } s (execJnResyncDone s) := by
  unfold execJnResyncDone
  repeat' first
    | with_reducible exact Fr.refl _ _
    | with_reducible refine FrO.next ?_
    | with_reducible refine Fr.ite ?_ ?_
    | with_reducible refine State.jnU_fr (by decide) ?_
    | with_reducible refine State.off_fr (by decide) ?_ ?_
    | with_reducible refine State.on_fr (by decide) ?_ ?_
    | with_reducible refine Fr.pB ?_ ?_
    | exact Mask.okHigh (Nat.le_of_ble_eq_true rfl)

theorem doJnFormat_fr {M : Mask} {z s : State} (hm : Mask.le { ar := true, jn := true, bm := true } M = true) (h0 : Fr M z s) :
    Fr M z (doJnFormat s) := by
  refine Fr.via ?_ hm h0
  unfold doJnFormat
  repeat' first
    | with_reducible exact Fr.refl _ _
    | with_reducible refine Fr.ite ?_ ?_
    | with_reducible refine State.arU_fr (by decide) ?_
    | with_reducible refine State.copyLost_fr (by decide) ?_
    | with_reducible refine State.edSet_fr (by decide) ?_
    | with_reducible refine State.jnU_fr (by decide) ?_
    | with_reducible refine State.off_fr (by decide) ?_ ?_
    | with_reducible refine Fr.pB ?_ ?_
    | exact Mask.okHigh (Nat.le_of_ble_eq_true rfl)

theorem execJnFormat_fr {s : State} : FrO { ar := true, jn := true, bm := true } s (execJnFormat s) := by
  unfold execJnFormat
  repeat' first
    | with_reducible exact Fr.refl _ _
    | with_reducible refine FrO.next ?_
    | with_reducible refine doJnFormat_fr (by decide) ?_

theorem State.replay_fr {M : Mask} {z s : State} {ce : Nat} {lost : List (Nat × Bool)} (hm : Mask.le { sent := true, ev := true, unitT := true, ft := true, pw := true, md := true, chT := true, ldT := true, actT := true, spT := true, spWait := true, ar := true, jn := true, rb := true, lk := true, cm := true, hc := true, bm := true, r4 := true, rmd := true, rpw := true } M = true) (h0 : Fr M z s) :
    Fr M z (State.replay s ce lost) := by
  refine Fr.via ?_ hm h0
  unfold State.replay
  repeat' first
    | with_reducible exact Fr.refl _ _
    | with_reducible refine State.dirPut_fr (by decide) ?_
    | with_reducible refine State.edSet_fr (by decide) ?_
    | with_reducible refine State.jdRead_fr (by decide) ?_
    | with_reducible refine State.jdWrite_fr (by decide) ?_
    | with_reducible refine State.jnU_fr (by decide) ?_
    | with_reducible refine State.note_fr (by decide) ?_ ?_
    | with_reducible refine State.replayDone_fr (by decide) ?_
    | with_reducible refine State.retireRec_fr (by decide) ?_
    | with_reducible refine State.spillSet_fr (by decide) ?_
    | with_reducible refine Fr.pB ?_ ?_
    | with_reducible refine Fr.each (fun _ _ => ?_) ?_
    | with_reducible refine Fr.when (fun _ => ?_) ?_
    | split
    | exact Mask.okHigh (Nat.le_of_ble_eq_true rfl)

end Sys2Proof.Machine
end

