-- ==== Sys2Proof/Laws/FrArray.lean ====
section
/-! SUPPORT. Laws/FrArray.lean: what each operation of Machine/Array.lean may touch: the lemma that later proofs cite in
place of unfolding it. -/

namespace Sys2Proof.Machine

open Reg

theorem State.showCap_fr {M : Mask} {z s : State} {v : Nat} (hm : Mask.le {} M = true) (h0 : Fr M z s) :
    Fr M z (State.showCap s v) := by
  refine Fr.via ?_ hm h0
  unfold State.showCap
  repeat' first
    | with_reducible exact Fr.refl _ _
    | with_reducible refine Fr.pB ?_ ?_
    | exact Mask.okHigh (le_add1 (by decide))

theorem State.passResume_fr {M : Mask} {z s : State} {v : Nat} (hm : Mask.le {} M = true) (h0 : Fr M z s) :
    Fr M z (State.passResume s v) := by
  refine Fr.via ?_ hm h0
  unfold State.passResume
  repeat' first
    | with_reducible exact Fr.refl _ _
    | with_reducible refine Fr.ite ?_ ?_
    | with_reducible refine State.setActiveVol_fr (by decide) ?_
    | with_reducible refine Fr.pB ?_ ?_
    | exact Mask.okHigh (le_add1 (by decide))

theorem State.rsRestore_fr {M : Mask} {z s : State} {v : Nat} {st : Nat} (hm : Mask.le {} M = true) (h0 : Fr M z s) :
    Fr M z (State.rsRestore s v st) := by
  refine Fr.via ?_ hm h0
  unfold State.rsRestore
  repeat' first
    | with_reducible exact Fr.refl _ _
    | with_reducible refine State.setMark_fr (by decide) ?_
    | with_reducible refine Fr.pB ?_ ?_
    | exact Mask.okHigh (Nat.le_of_ble_eq_true rfl)

theorem State.volRestore_fr {M : Mask} {z s : State} {v : Nat} (hm : Mask.le { sent := true, ev := true, rb := true, lk := true } M = true) (h0 : Fr M z s) :
    Fr M z (State.volRestore s v) := by
  refine Fr.via ?_ hm h0
  unfold State.volRestore
  repeat' first
    | with_reducible exact Fr.refl _ _
    | with_reducible refine Fr.ite ?_ ?_
    | with_reducible refine State.ckPut_fr (by decide) ?_
    | with_reducible refine State.note_fr (by decide) ?_ ?_
    | with_reducible refine State.onBit_fr (by decide) ?_ ?_
    | with_reducible refine State.passResume_fr (by decide) ?_
    | with_reducible refine State.rbU_fr (by decide) ?_
    | with_reducible refine State.rsRestore_fr (by decide) ?_
    | with_reducible refine State.setFail_fr (by decide) ?_
    | with_reducible refine Fr.pB ?_ ?_
    | with_reducible refine Fr.when (fun _ => ?_) ?_
    | split
    | exact Mask.okHigh (Nat.le_of_ble_eq_true rfl)
    | exact Mask.okHigh (le_add1 (by decide))
    | (refine volBit_ok ?_ ?_ <;> exact Mask.okHigh (by decide))

theorem State.volStart_fr {M : Mask} {z s : State} {v : Nat} (hm : Mask.le { sent := true, ev := true, ar := true, rb := true, lk := true } M = true) (h0 : Fr M z s) :
    Fr M z (State.volStart s v) := by
  refine Fr.via ?_ hm h0
  unfold State.volStart
  repeat' first
    | with_reducible exact Fr.refl _ _
    | with_reducible refine Fr.ite ?_ ?_
    | with_reducible refine State.arU_fr (by decide) ?_
    | with_reducible refine State.classNote_fr (by decide) ?_
    | with_reducible refine State.note_fr (by decide) ?_ ?_
    | with_reducible refine State.off_fr (by decide) ?_ ?_
    | with_reducible refine State.on_fr (by decide) ?_ ?_
    | with_reducible refine State.showCap_fr (by decide) ?_
    | with_reducible refine State.spillCheck_fr (by decide) ?_
    | with_reducible refine State.volRestore_fr (by decide) ?_
    | with_reducible refine Fr.pB ?_ ?_
    | exact Mask.okHigh (Nat.le_of_ble_eq_true rfl)
    | exact Mask.okHigh (le_add1 (by decide))

theorem State.volStop_fr {M : Mask} {z s : State} {v : Nat} (hm : Mask.le { ar := true } M = true) (h0 : Fr M z s) :
    Fr M z (State.volStop s v) := by
  refine Fr.via ?_ hm h0
  unfold State.volStop
  repeat' first
    | with_reducible exact Fr.refl _ _
    | with_reducible refine Fr.ite ?_ ?_
    | with_reducible refine State.arU_fr (by decide) ?_
    | with_reducible refine State.setActiveVol_fr (by decide) ?_
    | with_reducible refine State.setFail_fr (by decide) ?_
    | with_reducible refine Fr.pB ?_ ?_
    | exact Mask.okHigh (le_add1 (by decide))

theorem State.patPut_fr {M : Mask} {z s : State} {pat : Nat} {word : Nat} {v : Nat} (hm : Mask.le { ar := true } M = true) (h0 : Fr M z s) :
    Fr M z (State.patPut s pat word v) := by
  refine Fr.via ?_ hm h0
  unfold State.patPut
  repeat' first
    | with_reducible exact Fr.refl _ _
    | with_reducible refine State.arU_fr (by decide) ?_

theorem State.patAccess_fr {M : Mask} {z s : State} {write : Option Nat} (hm : Mask.le { rdata := true, ar := true } M = true) (h0 : Fr M z s) :
    Fr M z (State.patAccess s write) := by
  refine Fr.via ?_ hm h0
  unfold State.patAccess
  repeat' first
    | with_reducible exact Fr.refl _ _
    | with_reducible refine Fr.ite ?_ ?_
    | with_reducible refine State.off_fr (by decide) ?_ ?_
    | with_reducible refine State.patPut_fr (by decide) ?_
    | with_reducible refine Fr.pB ?_ ?_
    | split
    | exact Mask.okHigh (Nat.le_of_ble_eq_true rfl)
    | (apply Fr.leafB <;> first | rfl | exact .inl rfl | exact .inr rfl | guard_target =~ Fr _ _ _)

theorem execPatternDataAccess_fr {s : State} {write : Option Word} : FrO { rdata := true, ar := true } s (execPatternDataAccess write s) := by
  unfold execPatternDataAccess
  repeat' first
    | with_reducible exact Fr.refl _ _
    | with_reducible refine FrO.next ?_
    | with_reducible refine State.patAccess_fr (by decide) ?_

theorem State.stripeStart_fr {M : Mask} {z s : State} {slot : Nat} {stripe : Nat} {u0 : Nat} {u1 : Nat} {cur : Tbl Nat} {cause : Nat} (hm : Mask.le { sent := true, ev := true, unitT := true, ft := true, pw := true, md := true, chT := true, actT := true, spT := true, spWait := true, ar := true, jn := true, rb := true, lk := true, cm := true, hc := true, r4 := true, rmd := true, rpw := true } M = true) (h0 : Fr M z s) :
    Fr M z (State.stripeStart s slot stripe u0 u1 cur cause) := by
  refine Fr.via ?_ hm h0
  unfold State.stripeStart
  repeat' first
    | with_reducible exact Fr.refl _ _
    | with_reducible refine State.arU_fr (by decide) ?_
    | with_reducible refine State.forfeit_fr (by decide) ?_
    | with_reducible refine State.forfeitEvent_fr (by decide) ?_
    | with_reducible refine State.inc_fr (by decide) ?_ ?_
    | with_reducible refine State.jnQueue_fr (by decide) ?_
    | with_reducible refine State.rbU_fr (by decide) ?_
    | with_reducible refine Fr.when (fun _ => ?_) ?_
    | exact Mask.okHigh (Nat.le_of_ble_eq_true rfl)

theorem State.stripeAgain_fr {M : Mask} {z s : State} {r : JRec} (hm : Mask.le { ar := true, jn := true, rb := true } M = true) (h0 : Fr M z s) :
    Fr M z (State.stripeAgain s r) := by
  refine Fr.via ?_ hm h0
  unfold State.stripeAgain
  repeat' first
    | with_reducible exact Fr.refl _ _
    | with_reducible refine State.arU_fr (by decide) ?_
    | with_reducible refine State.rbU_fr (by decide) ?_
    | with_reducible refine State.recUp_fr (by decide) ?_

theorem State.stripeCheck_fr {M : Mask} {z s : State} (hm : Mask.le { ar := true, jn := true, rb := true } M = true) (h0 : Fr M z s) :
    Fr M z (State.stripeCheck s) := by
  refine Fr.via ?_ hm h0
  unfold State.stripeCheck
  repeat' first
    | with_reducible exact Fr.refl _ _
    | with_reducible refine State.arU_fr (by decide) ?_
    | with_reducible refine State.rbU_fr (by decide) ?_
    | with_reducible refine State.retireRec_fr (by decide) ?_
    | with_reducible refine Fr.each (fun _ _ => ?_) ?_

theorem State.stripesAgain_fr {M : Mask} {z s : State} (hm : Mask.le { ar := true, jn := true, rb := true } M = true) (h0 : Fr M z s) :
    Fr M z (State.stripesAgain s) := by
  refine Fr.via ?_ hm h0
  unfold State.stripesAgain
  repeat' first
    | with_reducible exact Fr.refl _ _
    | with_reducible refine Fr.ite ?_ ?_
    | with_reducible refine State.stripeAgain_fr (by decide) ?_
    | with_reducible refine State.stripeCheck_fr (by decide) ?_
    | with_reducible refine Fr.each (fun _ _ => ?_) ?_

theorem State.slowEnd_fr {M : Mask} {z s : State} {m : Nat} {mba : Nat} (hm : Mask.le { sent := true, ev := true, rb := true, lk := true } M = true) (h0 : Fr M z s) :
    Fr M z (State.slowEnd s m mba).2 := by
  refine Fr.via ?_ hm h0
  unfold State.slowEnd
  repeat' first
    | with_reducible exact Fr.refl _ _
    | with_reducible refine Fr.ite ?_ ?_
    | with_reducible refine State.note_fr (by decide) ?_ ?_
    | with_reducible refine State.rbU_fr (by decide) ?_
    | with_reducible refine State.sat_fr (by decide) ?_ ?_
    | exact Mask.okHigh (Nat.le_of_ble_eq_true rfl)

theorem State.slowArm_fr {M : Mask} {z s : State} {m : Nat} {mba : Nat} (hm : Mask.le { rb := true } M = true) (h0 : Fr M z s) :
    Fr M z (State.slowArm s m mba) := by
  refine Fr.via ?_ hm h0
  unfold State.slowArm
  repeat' first
    | with_reducible exact Fr.refl _ _
    | with_reducible refine Fr.ite ?_ ?_
    | with_reducible refine State.rbU_fr (by decide) ?_

theorem State.catchupDone_fr {M : Mask} {z s : State} {m : Nat} (hm : Mask.le { sent := true, ev := true, ar := true, rb := true, lk := true } M = true) (h0 : Fr M z s) :
    Fr M z (State.catchupDone s m) := by
  refine Fr.via ?_ hm h0
  unfold State.catchupDone
  repeat' first
    | with_reducible exact Fr.refl _ _
    | with_reducible refine Fr.ite ?_ ?_
    | with_reducible refine State.memberIn_fr (by decide) ?_

theorem execStripWriteDone_fr {s : State} {jseq : BitVec 64} {member : Fin 96} : FrO { sent := true, ev := true, unitT := true, ft := true, pw := true, md := true, chT := true, actT := true, spT := true, spWait := true, ar := true, jn := true, rb := true, lk := true, cm := true, hc := true, bm := true, mem := true, mc := true, r4 := true, rmd := true, rpw := true } s (execStripWriteDone jseq member s) := by
  unfold execStripWriteDone
  repeat' first
    | with_reducible exact Fr.refl _ _
    | with_reducible refine FrO.next ?_
    | with_reducible refine Fr.ite ?_ ?_
    | with_reducible refine Fr.ite2 ?_ ?_
    | with_reducible refine State.arU_fr (by decide) ?_
    | with_reducible refine State.catchupDone_fr (by decide) ?_
    | with_reducible refine State.complete_fr (by decide) ?_
    | with_reducible refine State.memberLate_fr (by decide) ?_
    | with_reducible refine State.settle_fr (by decide) ?_
    | with_reducible refine State.slowEnd_fr (by decide) ?_
    | with_reducible refine State.spillStep_fr (by decide) ?_
    | with_reducible refine State.stripeCheck_fr (by decide) ?_
    | with_reducible refine Fr.each (fun _ _ => ?_) ?_
    | split
    | (apply Fr.leafB <;> first | rfl | exact .inl rfl | exact .inr rfl | guard_target =~ Fr _ _ _)

theorem State.peSubmit_fr {M : Mask} {z s : State} {addr : Nat} {ctx : Option Nat} {cmd : Nat} {slice : Option (Nat × Nat)} (hm : Mask.le { ar := true } M = true) (h0 : Fr M z s) :
    Fr M z (State.peSubmit s addr ctx cmd slice).2 := by
  refine Fr.via ?_ hm h0
  unfold State.peSubmit
  repeat' first
    | with_reducible exact Fr.refl _ _
    | with_reducible refine Fr.ite2 ?_ ?_
    | with_reducible refine State.arU_fr (by decide) ?_
    | with_reducible refine State.on_fr (by decide) ?_ ?_
    | with_reducible refine Fr.pB ?_ ?_
    | exact Mask.okHigh (Nat.le_of_ble_eq_true rfl)

theorem execParityJobSubmit_fr {s : State} {hi : Word} : FrO { ar := true } s (execParityJobSubmit hi s) := by
  unfold execParityJobSubmit
  repeat' first
    | with_reducible exact Fr.refl _ _
    | with_reducible refine FrO.next ?_
    | with_reducible refine State.peSubmit_fr (by decide) ?_
    | with_reducible refine Fr.wrB ?_ ?_
    | exact Mask.okHigh (Nat.le_of_ble_eq_true rfl)

theorem State.poisonBlock_fr {M : Mask} {z s : State} {a : Nat} (hm : Mask.le { bm := true } M = true) (h0 : Fr M z s) :
    Fr M z (State.poisonBlock s a) := by
  refine Fr.via ?_ hm h0
  unfold State.poisonBlock
  repeat' first
    | with_reducible exact Fr.refl _ _
    | with_reducible refine State.bSetErr_fr (by decide) ?_
    | with_reducible refine Fr.each (fun _ _ => ?_) ?_

theorem State.peRun_fr {M : Mask} {z s t : State} {d base : Nat} {ok : Bool} {a b c : Nat}
    (h : s.peRun d base ok = (a, b, c, t)) (hm : Mask.le { bm := true, mem := true } M = true) (h0 : Fr M z s) : Fr M z t := by
  have e : t = (s.peRun d base ok).2.2.2 := by rw [h]
  rw [e]
  refine Fr.via (N := { bm := true, mem := true }) ?_ hm h0
  clear h e
  unfold State.peRun
  extract_lets
  repeat' first
    | with_reducible exact Fr.refl _ _
    | split
  all_goals
    refine Fr.each (fun _ _ => ?_) (Fr.refl _ _)
    refine Fr.each (fun _ _ => ?_) (Fr.refl _ _)
    exact Fr.ite (State.poisonBlock_fr (by decide) (State.bWr_fr (by decide) (Fr.refl _ _))) (State.bWr_fr (by decide) (Fr.refl _ _))

theorem State.peDone_fr {M : Mask} {z s : State} (hm : Mask.le { sent := true, ev := true, unitT := true, ft := true, pw := true, md := true, chT := true, actT := true, spT := true, spWait := true, ar := true, jn := true, rb := true, lk := true, cm := true, hc := true, bm := true, mem := true, mc := true, r4 := true, rmd := true, rpw := true } M = true) (h0 : Fr M z s) : Fr M z s.peDone := by
  refine Fr.via ?_ hm h0
  unfold State.peDone
  split
  · exact Fr.refl _ _
  · extract_lets base okSlice
    split
    rename_i e
    have h1 := State.peRun_fr (M := { sent := true, ev := true, unitT := true, ft := true, pw := true, md := true, chT := true, actT := true, spT := true, spWait := true, ar := true, jn := true, rb := true, lk := true, cm := true, hc := true, bm := true, mem := true, mc := true, r4 := true, rmd := true, rpw := true }) e (by decide) (Fr.refl _ _)
    clear e
    extract_lets t1 t2 t3 t4
    have h2 : Fr _ _ t1 := Fr.ite h1 (State.bWr_fr (by decide) h1)
    have h3 : Fr _ _ t2 := State.arU_fr (by decide) h2
    have h4 : Fr _ _ t3 := Fr.pB (Mask.okHigh (by decide)) (Fr.pB (Mask.okHigh (by decide)) h3)
    have h5 : Fr { sent := true, ev := true, unitT := true, ft := true, pw := true, md := true, chT := true, actT := true, spT := true, spWait := true, ar := true, jn := true, rb := true, lk := true, cm := true, hc := true, bm := true, mem := true, mc := true, r4 := true, rmd := true, rpw := true } s t4 := by
      unfold t4
      split
      · exact State.mcU_fr (by decide) h4
      · exact h4
    exact Fr.when (fun _ => State.fault_fr (by decide) (by exact Mask.okHigh (by decide)) (Fr.refl _ _)) h5

theorem execJnReplay_fr {s : State} {dies : BitVec 2} {sb : Bool} {ce : Nat} {lost : List (Nat × Bool)} : FrO { sent := true, ev := true, unitT := true, ft := true, pw := true, md := true, chT := true, ldT := true, actT := true, spT := true, spWait := true, ar := true, jn := true, rb := true, lk := true, cm := true, hc := true, bm := true, r4 := true, rmd := true, rpw := true } s (execJnReplay dies sb ce lost s) := by
  unfold execJnReplay
  repeat' first
    | with_reducible exact Fr.refl _ _
    | with_reducible refine FrO.next ?_
    | with_reducible refine Fr.ite ?_ ?_
    | with_reducible refine State.dieFail_fr (by decide) ?_
    | with_reducible refine State.fault_fr (by decide) ?_ ?_
    | with_reducible refine State.off_fr (by decide) ?_ ?_
    | with_reducible refine State.replay_fr (by decide) ?_
    | with_reducible refine State.spillCheck_fr (by decide) ?_
    | with_reducible refine State.stripesAgain_fr (by decide) ?_
    | with_reducible refine Fr.pB ?_ ?_
    | with_reducible refine Fr.when (fun _ => ?_) ?_
    | exact Mask.okHigh (Nat.le_of_ble_eq_true rfl)

end Sys2Proof.Machine
end

