-- ==== Sys2Proof/Laws/FrDm.lean ====
section
/-! SUPPORT. Laws/FrDm.lean: what each operation of Machine/Dm.lean may touch: the lemma that later proofs cite in
place of unfolding it. -/

namespace Sys2Proof.Machine

open Reg

theorem State.dchUp_fr {M : Mask} {z s : State} {n : Nat} {f : DmChan → DmChan} (hm : Mask.le { dm := true } M = true) (h0 : Fr M z s) :
    Fr M z (State.dchUp s n f) := by
  refine Fr.via ?_ hm h0
  unfold State.dchUp
  repeat' first
    | with_reducible exact Fr.refl _ _
    | with_reducible refine State.dmU_fr (by decide) (by first | exact .inl rfl | exact .inr rfl | (split <;> exact .inr rfl)) ?_

theorem State.dOutst_fr {M : Mask} {z s : State} {n : Nat} (hm : Mask.le {} M = true) (h0 : Fr M z s) :
    Fr M z (State.dOutst s n) := by
  refine Fr.via ?_ hm h0
  unfold State.dOutst
  repeat' first
    | with_reducible exact Fr.refl _ _
    | with_reducible refine Fr.pB ?_ ?_
    | exact Mask.okHigh (le_add1 (by decide))

theorem State.hwtAccess_fr {M : Mask} {z s : State} {write : Option Nat} (hm : Mask.le { rdata := true, dm := true, hwt := true } M = true) (h0 : Fr M z s) :
    Fr M z (State.hwtAccess s write) := by
  refine Fr.via ?_ hm h0
  unfold State.hwtAccess
  repeat' first
    | with_reducible exact Fr.refl _ _
    | with_reducible refine Fr.ite ?_ ?_
    | with_reducible refine State.dmU_fr (by decide) (by first | exact .inl rfl | exact .inr rfl | (split <;> exact .inr rfl)) ?_
    | with_reducible refine Fr.pB ?_ ?_
    | with_reducible refine Fr.when (fun _ => ?_) ?_
    | split
    | exact Mask.okHigh (Nat.le_of_ble_eq_true rfl)
    | (apply Fr.leafB <;> first | rfl | exact .inl rfl | exact .inr rfl | guard_target =~ Fr _ _ _)

theorem execHwtDataAccess_fr {s : State} {write : Option Word} : FrO { rdata := true, dm := true, hwt := true } s (execHwtDataAccess write s) := by
  unfold execHwtDataAccess
  repeat' first
    | with_reducible exact Fr.refl _ _
    | with_reducible refine FrO.next ?_
    | with_reducible refine State.hwtAccess_fr (by decide) ?_

theorem State.dHalt_fr {M : Mask} {z s : State} {n : Nat} {cause : Nat} (hm : Mask.le { sent := true, ev := true, unitT := true, ft := true, pw := true, md := true, chT := true, actT := true, spT := true, spWait := true, ar := true, jn := true, rb := true, lk := true, cm := true, hc := true, dm := true, r4 := true, rmd := true, rpw := true } M = true) (h0 : Fr M z s) :
    Fr M z (State.dHalt s n cause) := by
  refine Fr.via ?_ hm h0
  unfold State.dHalt
  repeat' first
    | with_reducible exact Fr.refl _ _
    | with_reducible refine State.dchUp_fr (by decide) ?_
    | with_reducible refine State.fault_fr (by decide) ?_ ?_
    | with_reducible refine State.off_fr (by decide) ?_ ?_
    | with_reducible refine State.on_fr (by decide) ?_ ?_
    | with_reducible refine Fr.pB ?_ ?_
    | exact Mask.okHigh (Nat.le_of_ble_eq_true rfl)
    | exact Mask.okHigh (le_add1 (by decide))

theorem State.dClear_fr {M : Mask} {z s : State} {n : Nat} (hm : Mask.le { lk := true, dm := true } M = true) (h0 : Fr M z s) :
    Fr M z (State.dClear s n) := by
  refine Fr.via ?_ hm h0
  unfold State.dClear
  repeat' first
    | with_reducible exact Fr.refl _ _
    | with_reducible refine State.dmU_fr (by decide) (by first | exact .inl rfl | exact .inr rfl | (split <;> exact .inr rfl)) ?_
    | with_reducible refine State.lkU_fr (by decide) ?_
    | with_reducible refine State.off_fr (by decide) ?_ ?_
    | with_reducible refine State.offBit_fr (by decide) ?_ ?_
    | exact Mask.okHigh (le_add1 (by decide))
    | (refine volBit_ok ?_ ?_ <;> exact Mask.okHigh (by decide))

theorem State.dRelease_fr {M : Mask} {z s : State} {n : Nat} (hm : Mask.le { lk := true, dm := true } M = true) (h0 : Fr M z s) :
    Fr M z (State.dRelease s n) := by
  refine Fr.via ?_ hm h0
  unfold State.dRelease
  simp only [State.each, List.foldl]
  repeat' first
    | with_reducible exact Fr.refl _ _
    | with_reducible refine State.dClear_fr (by decide) ?_
    | with_reducible refine State.off_fr (by decide) ?_ ?_
    | with_reducible refine Fr.wrB ?_ ?_
    | exact Mask.okHigh (le_add1 (by decide))

theorem State.dMove_fr {M : Mask} {z s : State} {n : Nat} {d : Nat} (hm : Mask.le { dm := true } M = true) (h0 : Fr M z s) :
    Fr M z (State.dMove s n d) := by
  refine Fr.via ?_ hm h0
  unfold State.dMove
  repeat' first
    | with_reducible exact Fr.refl _ _
    | with_reducible refine Fr.ite ?_ ?_
    | with_reducible refine State.dchUp_fr (by decide) ?_
    | with_reducible refine State.setPair_fr ?_ ?_ ?_
    | with_reducible refine Fr.pB ?_ ?_
    | with_reducible refine Fr.when (fun _ => ?_) ?_
    | exact Mask.okHigh (le_add1 (by decide))

theorem State.dSettle_fr {M : Mask} {z s : State} {n : Nat} (hm : Mask.le { dm := true } M = true) (h0 : Fr M z s) :
    Fr M z (State.dSettle s n) := by
  refine Fr.via ?_ hm h0
  unfold State.dSettle
  repeat' first
    | with_reducible exact Fr.refl _ _
    | with_reducible refine Fr.ite ?_ ?_
    | with_reducible refine State.dMove_fr (by decide) ?_

theorem State.dShadow_fr {M : Mask} {z s : State} {n : Nat} (hm : Mask.le {} M = true) (h0 : Fr M z s) :
    Fr M z (State.dShadow s n) := by
  refine Fr.via ?_ hm h0
  unfold State.dShadow
  repeat' first
    | with_reducible exact Fr.refl _ _
    | with_reducible refine State.off_fr (by decide) ?_ ?_
    | with_reducible refine Fr.wrB ?_ ?_
    | exact Mask.okHigh (le_add1 (by decide))

theorem State.trapCtx_fr {M : Mask} {z s : State} {n : Nat} {t : Trap} (hm : Mask.le { mc := true } M = true) (h0 : Fr M z s) :
    Fr M z (State.trapCtx s n t) := by
  refine Fr.via ?_ hm h0
  unfold State.trapCtx
  repeat' first
    | with_reducible exact Fr.refl _ _
    | with_reducible refine State.mcU_fr (by decide) ?_

theorem State.dFault_fr {M : Mask} {z s : State} {n : Nat} {off : Nat} {addr : Nat} (hm : Mask.le { dm := true } M = true) (h0 : Fr M z s) :
    Fr M z (State.dFault s n off addr) := by
  refine Fr.via ?_ hm h0
  unfold State.dFault
  repeat' first
    | with_reducible exact Fr.refl _ _
    | with_reducible refine Fr.ite ?_ ?_
    | with_reducible refine State.dchUp_fr (by decide) ?_
    | with_reducible refine State.on_fr (by decide) ?_ ?_
    | with_reducible refine State.setPair_fr ?_ ?_ ?_
    | exact Mask.okHigh (le_add1 (by decide))

theorem State.dFaultSettle_fr {M : Mask} {z s : State} {n : Nat} (hm : Mask.le { sent := true, ev := true, lk := true, dm := true, mc := true } M = true) (h0 : Fr M z s) :
    Fr M z (State.dFaultSettle s n) := by
  refine Fr.via ?_ hm h0
  unfold State.dFaultSettle
  repeat' first
    | with_reducible exact Fr.refl _ _
    | with_reducible refine Fr.ite ?_ ?_
    | with_reducible refine State.dchUp_fr (by decide) ?_
    | with_reducible refine State.note_fr (by decide) ?_ ?_
    | with_reducible refine State.onBit_fr (by decide) ?_ ?_
    | with_reducible refine State.sat_fr (by decide) ?_ ?_
    | with_reducible refine State.trapCtx_fr (by decide) ?_
    | split
    | exact Mask.okHigh (Nat.le_of_ble_eq_true rfl)
    | (refine volBit_ok ?_ ?_ <;> exact Mask.okHigh (by decide))
    | (apply Fr.leafB <;> first | rfl | exact .inl rfl | exact .inr rfl | guard_target =~ Fr _ _ _)

theorem State.dFail_fr {M : Mask} {z s : State} {n : Nat} {status : Nat} (hm : Mask.le { cm := true, bm := true, mem := true, mc := true } M = true) (h0 : Fr M z s) :
    Fr M z (State.dFail s n status) := by
  refine Fr.via ?_ hm h0
  unfold State.dFail
  repeat' first
    | with_reducible exact Fr.refl _ _
    | with_reducible refine State.complete_fr (by decide) ?_
    | split

theorem State.dIssueOne_fr {M : Mask} {z s : State} {n : Nat} (hm : Mask.le { sent := true, ev := true, unitT := true, ft := true, pw := true, md := true, chT := true, actT := true, spT := true, spWait := true, ar := true, jn := true, rb := true, lk := true, cm := true, hc := true, dm := true, bm := true, mem := true, mc := true, r4 := true, rmd := true, rpw := true } M = true) (h0 : Fr M z s) :
    Fr M z (State.dIssueOne s n).2 := by
  refine Fr.via ?_ hm h0
  unfold State.dIssueOne
  repeat' first
    | extract_lets
    | with_reducible exact Fr.refl _ _
    | with_reducible refine Fr.ite2 ?_ ?_
    | with_reducible refine State.dFail_fr (by decide) ?_
    | with_reducible refine State.dFault_fr (by decide) ?_
    | with_reducible refine State.dFaultSettle_fr (by decide) ?_
    | with_reducible refine State.dHalt_fr (by decide) ?_
    | with_reducible refine State.dSettle_fr (by decide) ?_
    | with_reducible refine State.dchUp_fr (by decide) ?_
    | with_reducible refine State.sat_fr (by decide) ?_ ?_
    | with_reducible refine State.sendRead_fr (by decide) ?_
    | with_reducible refine State.sendWrite_fr (by decide) ?_
    | with_reducible refine Fr.when (fun _ => ?_) ?_
    | split
    | exact Mask.okHigh (Nat.le_of_ble_eq_true rfl)

theorem State.dPump_fr {M : Mask} {z : State} {n : Nat} {fuel : Nat} (hm : Mask.le { sent := true, ev := true, unitT := true, ft := true, pw := true, md := true, chT := true, actT := true, spT := true, spWait := true, ar := true, jn := true, rb := true, lk := true, cm := true, hc := true, dm := true, bm := true, mem := true, mc := true, r4 := true, rmd := true, rpw := true } M = true) :
    ∀ {s : State}, Fr M z s → Fr M z (State.dPump s n fuel) := by
  induction fuel with
  | zero =>
    intro s h0
    unfold State.dPump
    repeat' first
      | with_reducible assumption
      | with_reducible refine State.dOutst_fr (by first | decide | exact Mask.le_trans (by decide) hm) ?_
  | succ fuel ih =>
    intro s h0
    unfold State.dPump
    repeat' first
      | with_reducible assumption
      | with_reducible refine ih ?_
      | with_reducible refine State.dIssueOne_fr (by first | decide | exact Mask.le_trans (by decide) hm) ?_
      | with_reducible refine State.dOutst_fr (by first | decide | exact Mask.le_trans (by decide) hm) ?_
      | with_reducible refine Fr.snd (by assumption) ?_
      | split

theorem State.dCheck_fr {M : Mask} {z s : State} {n : Nat} (hm : Mask.le { sent := true, ev := true, unitT := true, ft := true, pw := true, md := true, chT := true, actT := true, spT := true, spWait := true, ar := true, jn := true, rb := true, lk := true, cm := true, hc := true, dm := true, bm := true, mem := true, mc := true, r4 := true, rmd := true, rpw := true } M = true) (h0 : Fr M z s) :
    Fr M z (State.dCheck s n).2 := by
  refine Fr.via ?_ hm h0
  unfold State.dCheck
  repeat' first
    | with_reducible exact Fr.refl _ _
    | with_reducible refine Fr.ite2 ?_ ?_
    | with_reducible refine State.dFaultSettle_fr (by decide) ?_
    | with_reducible refine State.dHalt_fr (by decide) ?_
    | with_reducible refine State.dPump_fr (by decide) ?_
    | with_reducible refine State.dShadow_fr (by decide) ?_
    | with_reducible refine State.dchUp_fr (by decide) ?_
    | with_reducible refine State.off_fr (by decide) ?_ ?_
    | with_reducible refine State.on_fr (by decide) ?_ ?_
    | exact Mask.okHigh (le_add1 (by decide))

theorem State.chainMalformed_fr {M : Mask} {z s : State} {n : Nat} {cause : Nat} (hm : Mask.le { sent := true, ev := true, unitT := true, ft := true, pw := true, md := true, chT := true, actT := true, spT := true, spWait := true, ar := true, jn := true, rb := true, lk := true, qm := true, cm := true, hc := true, dm := true, r4 := true, rmd := true, rpw := true } M = true) (h0 : Fr M z s) :
    Fr M z (State.chainMalformed s n cause) := by
  refine Fr.via ?_ hm h0
  unfold State.chainMalformed
  repeat' first
    | with_reducible exact Fr.refl _ _
    | with_reducible refine State.dHalt_fr (by decide) ?_
    | with_reducible refine State.dchUp_fr (by decide) ?_
    | with_reducible refine State.halt_fr (by decide) ?_
    | with_reducible refine State.off_fr (by decide) ?_ ?_
    | split
    | exact Mask.okHigh (le_add1 (by decide))
    | (apply Fr.leafB <;> first | rfl | exact .inl rfl | exact .inr rfl | guard_target =~ Fr _ _ _)

theorem State.chainBad_fr {M : Mask} {z s : State} {n : Nat} {status : Nat} (hm : Mask.le { sent := true, ev := true, unitT := true, ft := true, pw := true, md := true, chT := true, actT := true, spT := true, spWait := true, ar := true, jn := true, rb := true, lk := true, cm := true, hc := true, dm := true, bm := true, mem := true, mc := true, r4 := true, rmd := true, rpw := true } M = true) (h0 : Fr M z s) :
    Fr M z (State.chainBad s n status) := by
  refine Fr.via ?_ hm h0
  unfold State.chainBad
  repeat' first
    | with_reducible exact Fr.refl _ _
    | with_reducible refine State.dFail_fr (by decide) ?_
    | with_reducible refine State.dHalt_fr (by decide) ?_
    | with_reducible refine State.dchUp_fr (by decide) ?_

theorem State.chainHop_fr {M : Mask} {z s : State} {n : Nat} {addr : Nat} {hops : Nat} {d : Nat} (hm : Mask.le { sent := true, ev := true, unitT := true, ft := true, pw := true, md := true, chT := true, actT := true, spT := true, spWait := true, ar := true, jn := true, rb := true, lk := true, qm := true, cm := true, hc := true, dm := true, bm := true, mem := true, mc := true, r4 := true, rmd := true, rpw := true } M = true) (h0 : Fr M z s) :
    Fr M z (State.chainHop s n addr hops d) := by
  refine Fr.via ?_ hm h0
  unfold State.chainHop
  repeat' first
    | with_reducible exact Fr.refl _ _
    | with_reducible refine Fr.ite ?_ ?_
    | with_reducible refine State.chainBad_fr (by decide) ?_
    | with_reducible refine State.chainMalformed_fr (by decide) ?_
    | with_reducible refine State.dchUp_fr (by decide) ?_
    | with_reducible refine State.setPair_fr ?_ ?_ ?_
    | with_reducible refine Fr.pB ?_ ?_
    | exact Mask.okHigh (le_add1 (by decide))

theorem State.chainWalk_fr {M : Mask} {z : State} {n : Nat} {fuel : Nat} (hm : Mask.le { sent := true, ev := true, unitT := true, ft := true, pw := true, md := true, chT := true, actT := true, spT := true, spWait := true, ar := true, jn := true, rb := true, lk := true, qm := true, cm := true, hc := true, dm := true, bm := true, mem := true, mc := true, r4 := true, rmd := true, rpw := true } M = true) :
    ∀ {s : State}, Fr M z s → Fr M z (State.chainWalk s n fuel) := by
  induction fuel with
  | zero =>
    intro s h0
    unfold State.chainWalk
    repeat' first
      | with_reducible assumption
  | succ fuel ih =>
    intro s h0
    unfold State.chainWalk
    repeat' first
      | with_reducible assumption
      | with_reducible refine Fr.ite ?_ ?_
      | with_reducible refine ih ?_
      | with_reducible refine State.chainHop_fr (by first | decide | exact Mask.le_trans (by decide) hm) ?_
      | with_reducible refine State.chainMalformed_fr (by first | decide | exact Mask.le_trans (by decide) hm) ?_
      | with_reducible refine State.dFault_fr (by first | decide | exact Mask.le_trans (by decide) hm) ?_
      | with_reducible refine State.dFaultSettle_fr (by first | decide | exact Mask.le_trans (by decide) hm) ?_
      | with_reducible refine State.hcRead_fr (by first | decide | exact Mask.le_trans (by decide) hm) ?_
      | with_reducible refine State.hcTrack_fr (by first | decide | exact Mask.le_trans (by decide) hm) ?_
      | with_reducible refine Fr.snd (by assumption) ?_
      | split

theorem State.dGo_fr {M : Mask} {z s : State} {n : Nat} (hm : Mask.le { sent := true, ev := true, unitT := true, ft := true, pw := true, md := true, chT := true, actT := true, spT := true, spWait := true, ar := true, jn := true, rb := true, lk := true, qm := true, cm := true, hc := true, dm := true, bm := true, mem := true, mc := true, r4 := true, rmd := true, rpw := true } M = true) (h0 : Fr M z s) :
    Fr M z (State.dGo s n) := by
  refine Fr.via ?_ hm h0
  unfold State.dGo
  repeat' first
    | with_reducible exact Fr.refl _ _
    | with_reducible refine Fr.ite ?_ ?_
    | with_reducible refine State.chainWalk_fr (by decide) ?_
    | with_reducible refine State.dPump_fr (by decide) ?_

theorem State.dStart_fr {M : Mask} {z s : State} {n : Nat} (hm : Mask.le { sent := true, ev := true, unitT := true, ft := true, pw := true, md := true, chT := true, actT := true, spT := true, spWait := true, ar := true, jn := true, rb := true, lk := true, qm := true, cm := true, hc := true, dm := true, bm := true, mem := true, mc := true, r4 := true, rmd := true, rpw := true } M = true) (h0 : Fr M z s) :
    Fr M z (State.dStart s n) := by
  refine Fr.via ?_ hm h0
  unfold State.dStart
  repeat' first
    | with_reducible exact Fr.refl _ _
    | with_reducible refine Fr.ite ?_ ?_
    | with_reducible refine State.dGo_fr (by decide) ?_
    | with_reducible refine State.dHalt_fr (by decide) ?_
    | with_reducible refine State.dchUp_fr (by decide) ?_
    | with_reducible refine State.off_fr (by decide) ?_ ?_
    | with_reducible refine State.on_fr (by decide) ?_ ?_
    | exact Mask.okHigh (le_add1 (by decide))

theorem doDmChGo_fr {M : Mask} {z s : State} {n : Fin 64} (hm : Mask.le { sent := true, ev := true, unitT := true, ft := true, pw := true, md := true, chT := true, actT := true, spT := true, spWait := true, ar := true, jn := true, rb := true, lk := true, qm := true, cm := true, hc := true, dm := true, bm := true, mem := true, mc := true, r4 := true, rmd := true, rpw := true } M = true) (h0 : Fr M z s) :
    Fr M z (doDmChGo n s) := by
  refine Fr.via ?_ hm h0
  unfold doDmChGo
  repeat' first
    | with_reducible exact Fr.refl _ _
    | with_reducible refine Fr.ite ?_ ?_
    | with_reducible refine State.dStart_fr (by decide) ?_

theorem execDmChGo_fr {s : State} {n : Fin 64} : FrO { sent := true, ev := true, unitT := true, ft := true, pw := true, md := true, chT := true, actT := true, spT := true, spWait := true, ar := true, jn := true, rb := true, lk := true, qm := true, cm := true, hc := true, dm := true, bm := true, mem := true, mc := true, r4 := true, rmd := true, rpw := true } s (execDmChGo n s) := by
  unfold execDmChGo
  repeat' first
    | with_reducible exact Fr.refl _ _
    | with_reducible refine FrO.next ?_
    | with_reducible refine Fr.ite ?_ ?_
    | with_reducible refine doDmChGo_fr (by decide) ?_

theorem State.dPause_fr {M : Mask} {z s : State} {n : Nat} (hm : Mask.le { sent := true, ev := true, unitT := true, ft := true, pw := true, md := true, chT := true, actT := true, spT := true, spWait := true, ar := true, jn := true, rb := true, lk := true, cm := true, hc := true, dm := true, bm := true, mem := true, mc := true, r4 := true, rmd := true, rpw := true } M = true) (h0 : Fr M z s) :
    Fr M z (State.dPause s n) := by
  refine Fr.via ?_ hm h0
  unfold State.dPause
  repeat' first
    | with_reducible exact Fr.refl _ _
    | with_reducible refine Fr.ite ?_ ?_
    | with_reducible refine State.dCheck_fr (by decide) ?_
    | with_reducible refine State.dchUp_fr (by decide) ?_
    | with_reducible refine State.on_fr (by decide) ?_ ?_
    | exact Mask.okHigh (le_add1 (by decide))

theorem execDmaPause_fr {s : State} {n : Fin 64} : FrO { sent := true, ev := true, unitT := true, ft := true, pw := true, md := true, chT := true, actT := true, spT := true, spWait := true, ar := true, jn := true, rb := true, lk := true, cm := true, hc := true, dm := true, bm := true, mem := true, mc := true, r4 := true, rmd := true, rpw := true } s (execDmaPause n s) := by
  unfold execDmaPause
  repeat' first
    | with_reducible exact Fr.refl _ _
    | with_reducible refine FrO.next ?_
    | with_reducible refine Fr.ite ?_ ?_
    | with_reducible refine State.dPause_fr (by decide) ?_

theorem doDmaUnpause_fr {M : Mask} {z s : State} {n : Fin 64} (hm : Mask.le { sent := true, ev := true, unitT := true, ft := true, pw := true, md := true, chT := true, actT := true, spT := true, spWait := true, ar := true, jn := true, rb := true, lk := true, qm := true, cm := true, hc := true, dm := true, bm := true, mem := true, mc := true, r4 := true, rmd := true, rpw := true } M = true) (h0 : Fr M z s) :
    Fr M z (doDmaUnpause n s) := by
  refine Fr.via ?_ hm h0
  unfold doDmaUnpause
  repeat' first
    | with_reducible exact Fr.refl _ _
    | with_reducible refine Fr.ite ?_ ?_
    | with_reducible refine State.dGo_fr (by decide) ?_
    | with_reducible refine State.dchUp_fr (by decide) ?_
    | with_reducible refine State.off_fr (by decide) ?_ ?_
    | exact Mask.okHigh (le_add1 (by decide))

theorem execDmaUnpause_fr {s : State} {n : Fin 64} : FrO { sent := true, ev := true, unitT := true, ft := true, pw := true, md := true, chT := true, actT := true, spT := true, spWait := true, ar := true, jn := true, rb := true, lk := true, qm := true, cm := true, hc := true, dm := true, bm := true, mem := true, mc := true, r4 := true, rmd := true, rpw := true } s (execDmaUnpause n s) := by
  unfold execDmaUnpause
  repeat' first
    | with_reducible exact Fr.refl _ _
    | with_reducible refine FrO.next ?_
    | with_reducible refine Fr.ite ?_ ?_
    | with_reducible refine doDmaUnpause_fr (by decide) ?_

theorem State.dArm_fr {M : Mask} {z s : State} {n : Nat} (hm : Mask.le { sent := true, ev := true, unitT := true, ft := true, pw := true, md := true, chT := true, actT := true, spT := true, spWait := true, ar := true, jn := true, rb := true, lk := true, qm := true, cm := true, hc := true, dm := true, bm := true, mem := true, mc := true, r4 := true, rmd := true, rpw := true } M = true) (h0 : Fr M z s) :
    Fr M z (State.dArm s n) := by
  refine Fr.via ?_ hm h0
  unfold State.dArm
  repeat' first
    | with_reducible exact Fr.refl _ _
    | with_reducible refine Fr.ite ?_ ?_
    | with_reducible refine State.dShadow_fr (by decide) ?_
    | with_reducible refine State.dStart_fr (by decide) ?_
    | with_reducible refine State.on_fr (by decide) ?_ ?_
    | exact Mask.okHigh (le_add1 (by decide))

theorem execShadowArm_fr {s : State} {n : Fin 64} : FrO { sent := true, ev := true, unitT := true, ft := true, pw := true, md := true, chT := true, actT := true, spT := true, spWait := true, ar := true, jn := true, rb := true, lk := true, qm := true, cm := true, hc := true, dm := true, bm := true, mem := true, mc := true, r4 := true, rmd := true, rpw := true } s (execShadowArm n s) := by
  unfold execShadowArm
  repeat' first
    | with_reducible exact Fr.refl _ _
    | with_reducible refine FrO.next ?_
    | with_reducible refine Fr.ite ?_ ?_
    | with_reducible refine State.dArm_fr (by decide) ?_

theorem State.dBurst_fr {M : Mask} {z s : State} {n : Nat} {data : Nat} {poison : Bool} (hm : Mask.le { sent := true, ev := true, unitT := true, ft := true, pw := true, md := true, chT := true, actT := true, spT := true, spWait := true, ar := true, jn := true, rb := true, lk := true, cm := true, hc := true, dm := true, bm := true, mem := true, mc := true, r4 := true, rmd := true, rpw := true } M = true) (h0 : Fr M z s) :
    Fr M z (State.dBurst s n data poison).2 := by
  refine Fr.via ?_ hm h0
  unfold State.dBurst
  repeat' first
    | with_reducible exact Fr.refl _ _
    | with_reducible refine Fr.ite ?_ ?_
    | with_reducible refine Fr.ite2 ?_ ?_
    | with_reducible refine State.bSetErr_fr (by decide) ?_
    | with_reducible refine State.bWr_fr (by decide) ?_
    | with_reducible refine State.cmdUp_fr (by decide) ?_
    | with_reducible refine State.dCheck_fr (by decide) ?_
    | with_reducible refine State.dHalt_fr (by decide) ?_
    | with_reducible refine State.dMove_fr (by decide) ?_
    | with_reducible refine State.dPump_fr (by decide) ?_
    | with_reducible refine State.dchUp_fr (by decide) ?_
    | with_reducible refine State.sat_fr (by decide) ?_ ?_
    | with_reducible refine Fr.each (fun _ _ => ?_) ?_
    | split
    | exact Mask.okHigh (Nat.le_of_ble_eq_true rfl)

theorem State.perRequest_fr {M : Mask} {z s : State} {line : Nat} (hm : Mask.le { sent := true, ev := true, unitT := true, ft := true, pw := true, md := true, chT := true, actT := true, spT := true, spWait := true, ar := true, jn := true, rb := true, lk := true, cm := true, hc := true, dm := true, bm := true, mem := true, mc := true, r4 := true, rmd := true, rpw := true } M = true) (h0 : Fr M z s) :
    Fr M z (State.perRequest s line) := by
  refine Fr.via ?_ hm h0
  unfold State.perRequest
  repeat' first
    | with_reducible exact Fr.refl _ _
    | with_reducible refine Fr.ite ?_ ?_
    | with_reducible refine State.dPump_fr (by decide) ?_
    | with_reducible refine State.dchUp_fr (by decide) ?_
    | with_reducible refine State.dmU_fr (by decide) (by first | exact .inl rfl | exact .inr rfl | (split <;> exact .inr rfl)) ?_
    | with_reducible refine Fr.each (fun _ _ => ?_) ?_

theorem execPeripheralRequest_fr {s : State} {line : Fin 128} : FrO { sent := true, ev := true, unitT := true, ft := true, pw := true, md := true, chT := true, actT := true, spT := true, spWait := true, ar := true, jn := true, rb := true, lk := true, cm := true, hc := true, dm := true, bm := true, mem := true, mc := true, r4 := true, rmd := true, rpw := true } s (execPeripheralRequest line s) := by
  unfold execPeripheralRequest
  repeat' first
    | with_reducible exact Fr.refl _ _
    | with_reducible refine FrO.next ?_
    | with_reducible refine State.perRequest_fr (by decide) ?_

theorem execPeripheralWithdraw_fr {s : State} {line : Fin 128} {started : Bool} : FrO { sent := true, ev := true, lk := true, dm := true } s (execPeripheralWithdraw line started s) := by
  unfold execPeripheralWithdraw
  repeat' first
    | with_reducible exact Fr.refl _ _
    | with_reducible refine FrO.next ?_
    | with_reducible refine Fr.ite ?_ ?_
    | with_reducible refine State.dchUp_fr (by decide) ?_
    | with_reducible refine State.dmU_fr (by decide) (by first | exact .inl rfl | exact .inr rfl | (split <;> exact .inr rfl)) ?_
    | with_reducible refine State.note_fr (by decide) ?_ ?_
    | with_reducible refine State.on_fr (by decide) ?_ ?_
    | with_reducible refine State.sat_fr (by decide) ?_ ?_
    | with_reducible refine Fr.each (fun _ _ => ?_) ?_
    | exact Mask.okHigh (Nat.le_of_ble_eq_true rfl)
    | exact Mask.okHigh (le_add1 (by decide))

theorem State.dResponse_fr {M : Mask} {z s : State} {n : Nat} {off : Nat} {len : Nat} {data : Nat} {write : Bool} (hm : Mask.le { sent := true, ev := true, unitT := true, ft := true, pw := true, md := true, chT := true, actT := true, spT := true, spWait := true, ar := true, jn := true, rb := true, lk := true, cm := true, hc := true, dm := true, bm := true, mem := true, mc := true, r4 := true, rmd := true, rpw := true } M = true) (h0 : Fr M z s) :
    Fr M z (State.dResponse s n off len data write).2 := by
  refine Fr.via ?_ hm h0
  unfold State.dResponse
  repeat' first
    | with_reducible exact Fr.refl _ _
    | with_reducible refine Fr.ite ?_ ?_
    | with_reducible refine Fr.ite2 ?_ ?_
    | with_reducible refine State.dCheck_fr (by decide) ?_
    | with_reducible refine State.dOutst_fr (by decide) ?_
    | with_reducible refine State.dPump_fr (by decide) ?_
    | with_reducible refine State.dSettle_fr (by decide) ?_
    | with_reducible refine State.dchUp_fr (by decide) ?_

theorem State.dHostErr_fr {M : Mask} {z s : State} {n : Nat} {tmo : Bool} (hm : Mask.le { sent := true, ev := true, unitT := true, ft := true, pw := true, md := true, chT := true, actT := true, spT := true, spWait := true, ar := true, jn := true, rb := true, lk := true, cm := true, hc := true, dm := true, bm := true, mem := true, mc := true, r4 := true, rmd := true, rpw := true } M = true) (h0 : Fr M z s) :
    Fr M z (State.dHostErr s n tmo) := by
  refine Fr.via ?_ hm h0
  unfold State.dHostErr
  repeat' first
    | with_reducible exact Fr.refl _ _
    | with_reducible refine State.dFail_fr (by decide) ?_
    | with_reducible refine State.dHalt_fr (by decide) ?_

theorem State.sqNoRsp_fr {M : Mask} {z s : State} {q : Option Nat} {tmo : Bool} (hm : Mask.le { sent := true, ev := true, lk := true, qm := true, bm := true, mem := true } M = true) (h0 : Fr M z s) :
    Fr M z (State.sqNoRsp s q tmo) := by
  refine Fr.via ?_ hm h0
  unfold State.sqNoRsp
  repeat' first
    | with_reducible exact Fr.refl _ _
    | with_reducible refine Fr.ite ?_ ?_
    | with_reducible refine State.sqError_fr (by decide) ?_
    | split

theorem State.dError_fr {M : Mask} {z s : State} {n : Nat} {off : Nat} {xlat : Bool} {tmo : Bool} (hm : Mask.le { sent := true, ev := true, unitT := true, ft := true, pw := true, md := true, chT := true, actT := true, spT := true, spWait := true, ar := true, jn := true, rb := true, lk := true, qm := true, cm := true, hc := true, dm := true, bm := true, mem := true, mc := true, r4 := true, rmd := true, rpw := true } M = true) (h0 : Fr M z s) :
    Fr M z (State.dError s n off xlat tmo) := by
  refine Fr.via ?_ hm h0
  unfold State.dError
  repeat' first
    | with_reducible exact Fr.refl _ _
    | with_reducible refine Fr.ite ?_ ?_
    | with_reducible refine State.dFault_fr (by decide) ?_
    | with_reducible refine State.dFaultSettle_fr (by decide) ?_
    | with_reducible refine State.dHostErr_fr (by decide) ?_
    | with_reducible refine State.dOutst_fr (by decide) ?_
    | with_reducible refine State.sqNoRsp_fr (by decide) ?_

theorem State.dRetry_fr {M : Mask} {z s : State} {n : Nat} (hm : Mask.le { sent := true, ev := true, unitT := true, ft := true, pw := true, md := true, chT := true, actT := true, spT := true, spWait := true, ar := true, jn := true, rb := true, lk := true, qm := true, cm := true, hc := true, dm := true, bm := true, mem := true, mc := true, r4 := true, rmd := true, rpw := true } M = true) (h0 : Fr M z s) :
    Fr M z (State.dRetry s n) := by
  refine Fr.via ?_ hm h0
  unfold State.dRetry
  repeat' first
    | with_reducible exact Fr.refl _ _
    | with_reducible refine State.dGo_fr (by decide) ?_
    | with_reducible refine State.dchUp_fr (by decide) ?_
    | with_reducible refine State.mcU_fr (by decide) ?_
    | with_reducible refine State.off_fr (by decide) ?_ ?_
    | with_reducible refine State.offBit_fr (by decide) ?_ ?_
    | split
    | exact Mask.okHigh (le_add1 (by decide))
    | (refine volBit_ok ?_ ?_ <;> exact Mask.okHigh (by decide))

end Sys2Proof.Machine
end

