-- ==== Sys2Proof/Laws/FrCmds.lean ====
section
/-! SUPPORT. Laws/FrCmds.lean: what each operation of Machine/Cmds.lean may touch: the lemma that later proofs cite in
place of unfolding it. -/

namespace Sys2Proof.Machine

open Reg

theorem State.xferOn_fr {M : Mask} {z s : State} {id : Nat} {n : Nat} {toHost : Bool} {base : Nat} (hm : Mask.le { sent := true, ev := true, unitT := true, ft := true, pw := true, md := true, chT := true, actT := true, spT := true, spWait := true, ar := true, jn := true, rb := true, lk := true, qm := true, cm := true, hc := true, dm := true, bm := true, mem := true, mc := true, r4 := true, rmd := true, rpw := true } M = true) (h0 : Fr M z s) :
    Fr M z (State.xferOn s id n toHost base) := by
  refine Fr.via ?_ hm h0
  unfold State.xferOn
  repeat' first
    | with_reducible exact Fr.refl _ _
    | with_reducible refine Fr.ite ?_ ?_
    | with_reducible refine State.cmdUp_fr (by decide) ?_
    | with_reducible refine State.dClear_fr (by decide) ?_
    | with_reducible refine State.dStart_fr (by decide) ?_
    | with_reducible refine State.dchUp_fr (by decide) ?_
    | with_reducible refine State.off_fr (by decide) ?_ ?_
    | with_reducible refine State.setPair_fr ?_ ?_ ?_
    | with_reducible refine Fr.pB ?_ ?_
    | exact Mask.okHigh (le_add1 (by decide))

theorem State.guardSend_fr {M : Mask} {z s : State} {id : Nat} (hm : Mask.le { sent := true, ev := true, lk := true, cm := true, hc := true, dm := true, mc := true } M = true) (h0 : Fr M z s) :
    Fr M z (State.guardSend s id) := by
  refine Fr.via ?_ hm h0
  unfold State.guardSend
  repeat' first
    | with_reducible exact Fr.refl _ _
    | with_reducible refine Fr.ite ?_ ?_
    | with_reducible refine State.cmdUp_fr (by decide) ?_
    | with_reducible refine State.dFault_fr (by decide) ?_
    | with_reducible refine State.dFaultSettle_fr (by decide) ?_
    | with_reducible refine State.hcWrite_fr (by decide) ?_
    | with_reducible refine Fr.each (fun _ _ => ?_) ?_
    | split

theorem State.guardOut_fr {M : Mask} {z s : State} {id : Nat} (hm : Mask.le { sent := true, ev := true, lk := true, cm := true, hc := true, dm := true, mc := true } M = true) (h0 : Fr M z s) :
    Fr M z (State.guardOut s id) := by
  refine Fr.via ?_ hm h0
  unfold State.guardOut
  repeat' first
    | with_reducible exact Fr.refl _ _
    | with_reducible refine Fr.ite ?_ ?_
    | with_reducible refine State.cmdUp_fr (by decide) ?_
    | with_reducible refine State.guardSend_fr (by decide) ?_

theorem State.xferStart_fr {M : Mask} {z s : State} {id : Nat} {toHost : Bool} (hm : Mask.le { sent := true, ev := true, unitT := true, ft := true, pw := true, md := true, chT := true, actT := true, spT := true, spWait := true, ar := true, jn := true, rb := true, lk := true, qm := true, cm := true, hc := true, dm := true, bm := true, mem := true, mc := true, r4 := true, rmd := true, rpw := true } M = true) (h0 : Fr M z s) :
    Fr M z (State.xferStart s id toHost) := by
  refine Fr.via ?_ hm h0
  unfold State.xferStart
  repeat' first
    | with_reducible exact Fr.refl _ _
    | with_reducible refine Fr.ite ?_ ?_
    | with_reducible refine State.cmdUp_fr (by decide) ?_
    | with_reducible refine State.guardOut_fr (by decide) ?_
    | with_reducible refine State.xferOn_fr (by decide) ?_
    | split

theorem State.egressBlock_fr {M : Mask} {z s : State} {id : Nat} {i : Nat} (hm : Mask.le { sent := true, ev := true, unitT := true, ft := true, pw := true, md := true, chT := true, actT := true, spT := true, spWait := true, ar := true, jn := true, rb := true, lk := true, cm := true, hc := true, bm := true, mem := true, mc := true, r4 := true, rmd := true, rpw := true } M = true) (h0 : Fr M z s) :
    Fr M z (State.egressBlock s id i) := by
  refine Fr.via ?_ hm h0
  unfold State.egressBlock
  repeat' first
    | with_reducible exact Fr.refl _ _
    | with_reducible refine Fr.ite ?_ ?_
    | with_reducible refine State.cmU_fr (by decide) ?_
    | with_reducible refine State.cmdUp_fr (by decide) ?_
    | with_reducible refine State.complete_fr (by decide) ?_
    | with_reducible refine State.edSet_fr (by decide) ?_
    | with_reducible refine State.fault_fr (by decide) ?_ ?_
    | with_reducible refine State.sat_fr (by decide) ?_ ?_
    | split
    | exact Mask.okHigh (Nat.le_of_ble_eq_true rfl)
    | (apply Fr.leafB <;> first | rfl | exact .inl rfl | exact .inr rfl | guard_target =~ Fr _ _ _)

theorem State.readReady_fr {M : Mask} {z s : State} {id : Nat} (hm : Mask.le { sent := true, ev := true, unitT := true, ft := true, pw := true, md := true, chT := true, actT := true, spT := true, spWait := true, ar := true, jn := true, rb := true, lk := true, qm := true, cm := true, hc := true, dm := true, bm := true, mem := true, mc := true, r4 := true, rmd := true, rpw := true } M = true) (h0 : Fr M z s) :
    Fr M z (State.readReady s id) := by
  refine Fr.via ?_ hm h0
  unfold State.readReady
  repeat' first
    | with_reducible exact Fr.refl _ _
    | with_reducible refine Fr.ite ?_ ?_
    | with_reducible refine State.complete_fr (by decide) ?_
    | with_reducible refine State.egressBlock_fr (by decide) ?_
    | with_reducible refine State.xferStart_fr (by decide) ?_
    | with_reducible refine Fr.each (fun _ _ => ?_) ?_
    | split

theorem State.readDone_fr {M : Mask} {z s : State} {id : Nat} (hm : Mask.le { cm := true, bm := true, mem := true, mc := true } M = true) (h0 : Fr M z s) :
    Fr M z (State.readDone s id) := by
  refine Fr.via ?_ hm h0
  unfold State.readDone
  repeat' first
    | with_reducible exact Fr.refl _ _
    | with_reducible refine State.complete_fr (by decide) ?_
    | split
    | (apply Fr.leafB <;> first | rfl | exact .inl rfl | exact .inr rfl | guard_target =~ Fr _ _ _)

theorem State.blockOk_fr {M : Mask} {z s : State} {id : Nat} {i : Nat} {data : Nat} (hm : Mask.le { sent := true, ev := true, unitT := true, ft := true, pw := true, md := true, chT := true, actT := true, spT := true, spWait := true, ar := true, jn := true, rb := true, lk := true, qm := true, cm := true, hc := true, dm := true, bm := true, mem := true, mc := true, r4 := true, rmd := true, rpw := true } M = true) (h0 : Fr M z s) :
    Fr M z (State.blockOk s id i data) := by
  refine Fr.via ?_ hm h0
  unfold State.blockOk
  repeat' first
    | with_reducible exact Fr.refl _ _
    | with_reducible refine State.cmdUp_fr (by decide) ?_
    | with_reducible refine State.readReady_fr (by decide) ?_

theorem State.blockFail_fr {M : Mask} {z s : State} {id : Nat} {i : Nat} {status : Nat} (hm : Mask.le { sent := true, ev := true, unitT := true, ft := true, pw := true, md := true, chT := true, actT := true, spT := true, spWait := true, ar := true, jn := true, rb := true, lk := true, qm := true, cm := true, hc := true, dm := true, bm := true, mem := true, mc := true, r4 := true, rmd := true, rpw := true } M = true) (h0 : Fr M z s) :
    Fr M z (State.blockFail s id i status) := by
  refine Fr.via ?_ hm h0
  unfold State.blockFail
  repeat' first
    | with_reducible exact Fr.refl _ _
    | with_reducible refine State.cmdUp_fr (by decide) ?_
    | with_reducible refine State.readReady_fr (by decide) ?_

theorem State.goneDone_fr {M : Mask} {z s : State} {id : Nat} (hm : Mask.le { sent := true, ev := true, lk := true, cm := true } M = true) (h0 : Fr M z s) :
    Fr M z (State.goneDone s id) := by
  refine Fr.via ?_ hm h0
  unfold State.goneDone
  repeat' first
    | with_reducible exact Fr.refl _ _
    | with_reducible refine Fr.ite ?_ ?_
    | with_reducible refine State.cmU_fr (by decide) ?_
    | with_reducible refine State.note_fr (by decide) ?_ ?_
    | with_reducible refine State.sat_fr (by decide) ?_ ?_
    | split
    | exact Mask.okHigh (Nat.le_of_ble_eq_true rfl)

theorem State.gatherPut_fr {M : Mask} {z s : State} {w : BlkWait} {f : Gather → Gather} (hm : Mask.le { ar := true } M = true) (h0 : Fr M z s) :
    Fr M z (State.gatherPut s w f) := by
  refine Fr.via ?_ hm h0
  unfold State.gatherPut
  repeat' first
    | with_reducible exact Fr.refl _ _
    | with_reducible refine State.arU_fr (by decide) ?_

theorem State.waitOk_fr {M : Mask} {z s : State} {w : BlkWait} {data : Nat} {recon : Bool} {laddered : Bool} (hm : Mask.le { sent := true, ev := true, unitT := true, ft := true, pw := true, md := true, chT := true, actT := true, spT := true, spWait := true, ar := true, jn := true, rb := true, lk := true, qm := true, cm := true, hc := true, dm := true, bm := true, mem := true, mc := true, r4 := true, rmd := true, rpw := true } M = true) (h0 : Fr M z s) :
    Fr M z (State.waitOk s w data recon laddered) := by
  refine Fr.via ?_ hm h0
  unfold State.waitOk
  repeat' first
    | with_reducible exact Fr.refl _ _
    | with_reducible refine Fr.ite ?_ ?_
    | with_reducible refine State.blockOk_fr (by decide) ?_
    | with_reducible refine State.cleanPut_fr (by decide) ?_
    | with_reducible refine State.cmU_fr (by decide) ?_
    | with_reducible refine State.cmdUp_fr (by decide) ?_
    | with_reducible refine State.gatherPut_fr (by decide) ?_
    | with_reducible refine State.goneDone_fr (by decide) ?_
    | split

theorem State.waitFail_fr {M : Mask} {z s : State} {w : BlkWait} {status : Nat} (hm : Mask.le { sent := true, ev := true, unitT := true, ft := true, pw := true, md := true, chT := true, actT := true, spT := true, spWait := true, ar := true, jn := true, rb := true, lk := true, qm := true, cm := true, hc := true, dm := true, bm := true, mem := true, mc := true, r4 := true, rmd := true, rpw := true } M = true) (h0 : Fr M z s) :
    Fr M z (State.waitFail s w status) := by
  refine Fr.via ?_ hm h0
  unfold State.waitFail
  repeat' first
    | with_reducible exact Fr.refl _ _
    | with_reducible refine Fr.ite ?_ ?_
    | with_reducible refine State.blockFail_fr (by decide) ?_
    | with_reducible refine State.cmU_fr (by decide) ?_
    | with_reducible refine State.gatherPut_fr (by decide) ?_
    | with_reducible refine State.goneDone_fr (by decide) ?_
    | split

theorem State.schedDone_fr {M : Mask} {z s : State} {m : Nat} {mba : Nat} (hm : Mask.le { cm := true } M = true) (h0 : Fr M z s) :
    Fr M z (State.schedDone s m mba) := by
  refine Fr.via ?_ hm h0
  unfold State.schedDone
  repeat' first
    | with_reducible exact Fr.refl _ _
    | with_reducible refine State.cmU_fr (by decide) ?_

theorem State.directOk_fr {M : Mask} {z s : State} {m : Nat} {mba : Nat} {data : Nat} {laddered : Bool} (hm : Mask.le { sent := true, ev := true, unitT := true, ft := true, pw := true, md := true, chT := true, actT := true, spT := true, spWait := true, ar := true, jn := true, rb := true, lk := true, qm := true, cm := true, hc := true, dm := true, bm := true, mem := true, mc := true, r4 := true, rmd := true, rpw := true } M = true) (h0 : Fr M z s) :
    Fr M z (State.directOk s m mba data laddered) := by
  refine Fr.via ?_ hm h0
  unfold State.directOk
  repeat' first
    | with_reducible exact Fr.refl _ _
    | with_reducible refine State.schedDone_fr (by decide) ?_
    | with_reducible refine State.waitOk_fr (by decide) ?_
    | with_reducible refine Fr.each (fun _ _ => ?_) ?_

theorem State.directFail_fr {M : Mask} {z s : State} {m : Nat} {mba : Nat} (hm : Mask.le { sent := true, ev := true, unitT := true, ft := true, pw := true, md := true, chT := true, actT := true, spT := true, spWait := true, ar := true, jn := true, rb := true, lk := true, qm := true, cm := true, hc := true, dm := true, bm := true, mem := true, mc := true, r4 := true, rmd := true, rpw := true } M = true) (h0 : Fr M z s) :
    Fr M z (State.directFail s m mba) := by
  refine Fr.via ?_ hm h0
  unfold State.directFail
  repeat' first
    | with_reducible exact Fr.refl _ _
    | with_reducible refine Fr.ite ?_ ?_
    | with_reducible refine State.cmU_fr (by decide) ?_
    | with_reducible refine State.reconStart_fr (by decide) ?_
    | with_reducible refine State.schedDone_fr (by decide) ?_
    | with_reducible refine State.waitFail_fr (by decide) ?_
    | with_reducible refine Fr.each (fun _ _ => ?_) ?_

theorem State.askRecon_fr {M : Mask} {z s : State} {m : Nat} {mba : Nat} (hm : Mask.le { cm := true } M = true) (h0 : Fr M z s) :
    Fr M z (State.askRecon s m mba) := by
  refine Fr.via ?_ hm h0
  unfold State.askRecon
  repeat' first
    | with_reducible exact Fr.refl _ _
    | with_reducible refine Fr.ite ?_ ?_
    | with_reducible refine State.cmU_fr (by decide) ?_
    | with_reducible refine State.reconStart_fr (by decide) ?_
    | with_reducible refine Fr.each (fun _ _ => ?_) ?_

theorem State.reconUp_fr {M : Mask} {z s : State} {r : Recon} {r' : Recon} (hm : Mask.le { cm := true } M = true) (h0 : Fr M z s) :
    Fr M z (State.reconUp s r r') := by
  refine Fr.via ?_ hm h0
  unfold State.reconUp
  repeat' first
    | with_reducible exact Fr.refl _ _
    | with_reducible refine State.cmU_fr (by decide) ?_

theorem State.reconLost_fr {M : Mask} {z s : State} {r : Recon} (hm : Mask.le { sent := true, ev := true, unitT := true, ft := true, pw := true, md := true, chT := true, ldT := true, actT := true, spT := true, spWait := true, ar := true, jn := true, rb := true, lk := true, qm := true, cm := true, hc := true, dm := true, bm := true, mem := true, mc := true, r4 := true, rmd := true, rpw := true } M = true) (h0 : Fr M z s) :
    Fr M z (State.reconLost s r) := by
  refine Fr.via ?_ hm h0
  unfold State.reconLost
  repeat' first
    | with_reducible exact Fr.refl _ _
    | with_reducible refine Fr.ite ?_ ?_
    | with_reducible refine State.cmU_fr (by decide) ?_
    | with_reducible refine State.forfeit_fr (by decide) ?_
    | with_reducible refine State.ladLost_fr (by decide) ?_
    | with_reducible refine State.waitFail_fr (by decide) ?_
    | with_reducible refine Fr.each (fun _ _ => ?_) ?_
    | split

theorem State.reconCheck_fr {M : Mask} {z s : State} {r : Recon} (hm : Mask.le { sent := true, ev := true, unitT := true, ft := true, pw := true, md := true, chT := true, ldT := true, actT := true, spT := true, spWait := true, ar := true, jn := true, rb := true, lk := true, qm := true, cm := true, hc := true, dm := true, bm := true, mem := true, mc := true, r4 := true, rmd := true, rpw := true } M = true) (h0 : Fr M z s) :
    Fr M z (State.reconCheck s r) := by
  refine Fr.via ?_ hm h0
  unfold State.reconCheck
  repeat' first
    | with_reducible exact Fr.refl _ _
    | with_reducible refine Fr.ite ?_ ?_
    | with_reducible refine State.fault_fr (by decide) ?_ ?_
    | with_reducible refine State.on_fr (by decide) ?_ ?_
    | with_reducible refine State.reconLost_fr (by decide) ?_
    | with_reducible refine State.reconUp_fr (by decide) ?_
    | with_reducible refine State.sat_fr (by decide) ?_ ?_
    | exact Mask.okHigh (Nat.le_of_ble_eq_true rfl)
    | exact Mask.okHigh (le_add1 (by decide))

theorem State.blockWait_fr {M : Mask} {z s : State} {cmd : Option Nat} {v : Nat} {b : Nat} {deadline : Nat} {take : Nat} {ahead : Bool} {gather : Bool} (hm : Mask.le { sent := true, ev := true, unitT := true, ft := true, pw := true, md := true, chT := true, ldT := true, actT := true, spT := true, spWait := true, ar := true, jn := true, rb := true, lk := true, qm := true, cm := true, hc := true, dm := true, bm := true, mem := true, mc := true, r4 := true, rmd := true, rpw := true } M = true) (h0 : Fr M z s) :
    Fr M z (State.blockWait s cmd v b deadline take ahead gather) := by
  refine Fr.via ?_ hm h0
  unfold State.blockWait
  repeat' first
    | with_reducible exact Fr.refl _ _
    | with_reducible refine Fr.ite ?_ ?_
    | with_reducible refine State.blockFail_fr (by decide) ?_
    | with_reducible refine State.cmU_fr (by decide) ?_
    | with_reducible refine State.reconCheck_fr (by decide) ?_
    | with_reducible refine State.reconStart_fr (by decide) ?_
    | split
    | (apply Fr.leafB <;> first | rfl | exact .inl rfl | exact .inr rfl | guard_target =~ Fr _ _ _)

theorem State.gatherAsk_fr {M : Mask} {z s : State} {x : Gather} (hm : Mask.le { sent := true, ev := true, unitT := true, ft := true, pw := true, md := true, chT := true, ldT := true, actT := true, spT := true, spWait := true, ar := true, jn := true, rb := true, lk := true, qm := true, cm := true, hc := true, dm := true, bm := true, mem := true, mc := true, r4 := true, rmd := true, rpw := true } M = true) (h0 : Fr M z s) :
    Fr M z (State.gatherAsk s x) := by
  refine Fr.via ?_ hm h0
  unfold State.gatherAsk
  repeat' first
    | with_reducible exact Fr.refl _ _
    | with_reducible refine Fr.ite ?_ ?_
    | with_reducible refine State.blockWait_fr (by decide) ?_
    | with_reducible refine Fr.each (fun _ _ => ?_) ?_

theorem State.gatherRun_fr {M : Mask} {z s : State} {x : Gather} (hm : Mask.le { sent := true, ev := true, unitT := true, ft := true, pw := true, md := true, chT := true, actT := true, spT := true, spWait := true, ar := true, jn := true, rb := true, lk := true, cm := true, hc := true, r4 := true, rmd := true, rpw := true } M = true) (h0 : Fr M z s) :
    Fr M z (State.gatherRun s x) := by
  refine Fr.via ?_ hm h0
  unfold State.gatherRun
  repeat' first
    | with_reducible exact Fr.refl _ _
    | with_reducible refine Fr.ite ?_ ?_
    | with_reducible refine State.arU_fr (by decide) ?_
    | with_reducible refine State.rbU_fr (by decide) ?_
    | with_reducible refine State.stripeStart_fr (by decide) ?_

theorem State.gatherSweep_fr {M : Mask} {z s : State} (hm : Mask.le { sent := true, ev := true, unitT := true, ft := true, pw := true, md := true, chT := true, ldT := true, actT := true, spT := true, spWait := true, ar := true, jn := true, rb := true, lk := true, qm := true, cm := true, hc := true, dm := true, bm := true, mem := true, mc := true, r4 := true, rmd := true, rpw := true } M = true) (h0 : Fr M z s) :
    Fr M z (State.gatherSweep s) := by
  refine Fr.via ?_ hm h0
  unfold State.gatherSweep
  repeat' first
    | with_reducible exact Fr.refl _ _
    | with_reducible refine State.gatherAsk_fr (by decide) ?_
    | with_reducible refine State.gatherRun_fr (by decide) ?_
    | with_reducible refine Fr.each (fun _ _ => ?_) ?_
    | split
    | (apply Fr.leafB <;> first | rfl | exact .inl rfl | exact .inr rfl | guard_target =~ Fr _ _ _)

theorem execStripeWriteStart_fr {s : State} {slot : Fin 64} {stripe : BitVec 40} {u0 : Fin 256} {u1 : Fin 256} {ce : Nat} {lost : List (Nat × Bool)} : FrO { sent := true, ev := true, unitT := true, ft := true, pw := true, md := true, chT := true, ldT := true, actT := true, spT := true, spWait := true, ar := true, jn := true, rb := true, lk := true, qm := true, cm := true, hc := true, dm := true, bm := true, mem := true, mc := true, r4 := true, rmd := true, rpw := true } s (execStripeWriteStart slot stripe u0 u1 ce lost s) := by
  unfold execStripeWriteStart
  repeat' first
    | with_reducible exact Fr.refl _ _
    | with_reducible refine FrO.next ?_
    | with_reducible refine Fr.ite ?_ ?_
    | with_reducible refine State.arU_fr (by decide) ?_
    | with_reducible refine State.gatherSweep_fr (by decide) ?_
    | with_reducible refine State.jdRead_fr (by decide) ?_
    | with_reducible refine State.rbU_fr (by decide) ?_

theorem State.abandon_fr {M : Mask} {z s : State} {l : Ladder} (hm : Mask.le { sent := true, ev := true, chT := true, ldT := true, rb := true, lk := true, cm := true } M = true) (h0 : Fr M z s) :
    Fr M z (State.abandon s l) := by
  refine Fr.via ?_ hm h0
  unfold State.abandon
  repeat' first
    | with_reducible exact Fr.refl _ _
    | with_reducible refine State.cmU_fr (by decide) ?_
    | with_reducible refine State.ladDrop_fr (by decide) ?_
    | with_reducible refine State.ldLast_fr (by decide) ?_
    | with_reducible refine State.schedDone_fr (by decide) ?_
    | with_reducible refine State.slowEnd_fr (by decide) ?_

theorem State.abandonSweep_fr {M : Mask} {z s : State} (hm : Mask.le { sent := true, ev := true, chT := true, ldT := true, rb := true, lk := true, cm := true } M = true) (h0 : Fr M z s) :
    Fr M z (State.abandonSweep s) := by
  refine Fr.via ?_ hm h0
  unfold State.abandonSweep
  repeat' first
    | with_reducible exact Fr.refl _ _
    | with_reducible refine Fr.ite ?_ ?_
    | with_reducible refine State.abandon_fr (by decide) ?_
    | with_reducible refine State.cmU_fr (by decide) ?_
    | with_reducible refine Fr.each (fun _ _ => ?_) ?_

theorem State.chanSweep_fr {M : Mask} {z s : State} (hm : Mask.le { sent := true, ev := true, unitT := true, ft := true, pw := true, md := true, chT := true, ldT := true, actT := true, spT := true, spWait := true, ar := true, jn := true, rb := true, lk := true, qm := true, cm := true, hc := true, dm := true, bm := true, mem := true, mc := true, r4 := true, rmd := true, rpw := true } M = true) (h0 : Fr M z s) :
    Fr M z (State.chanSweep s) := by
  refine Fr.via ?_ hm h0
  unfold State.chanSweep
  repeat' first
    | with_reducible exact Fr.refl _ _
    | with_reducible refine Fr.ite ?_ ?_
    | with_reducible refine State.abandonSweep_fr (by decide) ?_
    | with_reducible refine State.cmdUp_fr (by decide) ?_
    | with_reducible refine State.dClear_fr (by decide) ?_
    | with_reducible refine State.gatherSweep_fr (by decide) ?_
    | with_reducible refine State.xferStart_fr (by decide) ?_
    | with_reducible refine Fr.each (fun _ _ => ?_) ?_
    | split

theorem State.reconSweep_fr {M : Mask} {z s : State} (hm : Mask.le { sent := true, ev := true, unitT := true, ft := true, pw := true, md := true, chT := true, ldT := true, actT := true, spT := true, spWait := true, ar := true, jn := true, rb := true, lk := true, qm := true, cm := true, hc := true, dm := true, bm := true, mem := true, mc := true, r4 := true, rmd := true, rpw := true } M = true) (h0 : Fr M z s) :
    Fr M z (State.reconSweep s) := by
  refine Fr.via ?_ hm h0
  unfold State.reconSweep
  repeat' first
    | with_reducible exact Fr.refl _ _
    | with_reducible refine Fr.ite ?_ ?_
    | with_reducible refine State.reconCheck_fr (by decide) ?_
    | with_reducible refine State.waitFail_fr (by decide) ?_
    | with_reducible refine Fr.each (fun _ _ => ?_) ?_

theorem State.careFrom_fr {M : Mask} {z s : State} {old : State} (hm : Mask.le { sent := true, ev := true, unitT := true, ft := true, pw := true, md := true, chT := true, ldT := true, actT := true, spT := true, spWait := true, ar := true, jn := true, rb := true, lk := true, qm := true, cm := true, hc := true, dm := true, bm := true, mem := true, mc := true, r4 := true, rmd := true, rpw := true } M = true) (h0 : Fr M z s) :
    Fr M z (State.careFrom s old) := by
  refine Fr.via ?_ hm h0
  unfold State.careFrom
  repeat' first
    | with_reducible exact Fr.refl _ _
    | with_reducible refine Fr.ite ?_ ?_
    | with_reducible refine State.chanSweep_fr (by decide) ?_
    | with_reducible refine State.reconSweep_fr (by decide) ?_
    | with_reducible refine State.settle_fr (by decide) ?_

theorem execUnavailTimeout_fr {s : State} {member : Fin 96} : FrO { sent := true, ev := true, unitT := true, ft := true, pw := true, md := true, chT := true, ldT := true, actT := true, spT := true, spWait := true, ar := true, jn := true, rb := true, lk := true, qm := true, cm := true, hc := true, dm := true, bm := true, mem := true, mc := true, r4 := true, rmd := true, rpw := true } s (execUnavailTimeout member s) := by
  unfold execUnavailTimeout
  repeat' first
    | with_reducible exact Fr.refl _ _
    | with_reducible refine FrO.next ?_
    | with_reducible refine Fr.ite ?_ ?_
    | with_reducible refine State.careFrom_fr (by decide) ?_
    | with_reducible refine State.declareFailed_fr (by decide) ?_
    | with_reducible refine State.stripeCheck_fr (by decide) ?_

theorem State.sourceOk_fr {M : Mask} {z s : State} {m : Nat} {mba : Nat} {wseq : Nat} {data : Nat} (hm : Mask.le { sent := true, ev := true, unitT := true, ft := true, pw := true, md := true, chT := true, ldT := true, actT := true, spT := true, spWait := true, ar := true, jn := true, rb := true, lk := true, qm := true, cm := true, hc := true, dm := true, bm := true, mem := true, mc := true, r4 := true, rmd := true, rpw := true } M = true) (h0 : Fr M z s) :
    Fr M z (State.sourceOk s m mba wseq data) := by
  refine Fr.via ?_ hm h0
  unfold State.sourceOk
  repeat' first
    | with_reducible exact Fr.refl _ _
    | with_reducible refine Fr.ite ?_ ?_
    | with_reducible refine State.reconCheck_fr (by decide) ?_
    | with_reducible refine State.reconUp_fr (by decide) ?_
    | with_reducible refine State.schedDone_fr (by decide) ?_
    | with_reducible refine Fr.each (fun _ _ => ?_) ?_

theorem State.sourceBad_fr {M : Mask} {z s : State} {m : Nat} {mba : Nat} (hm : Mask.le { sent := true, ev := true, unitT := true, ft := true, pw := true, md := true, chT := true, ldT := true, actT := true, spT := true, spWait := true, ar := true, jn := true, rb := true, lk := true, qm := true, cm := true, hc := true, dm := true, bm := true, mem := true, mc := true, r4 := true, rmd := true, rpw := true } M = true) (h0 : Fr M z s) :
    Fr M z (State.sourceBad s m mba) := by
  refine Fr.via ?_ hm h0
  unfold State.sourceBad
  repeat' first
    | with_reducible exact Fr.refl _ _
    | with_reducible refine State.reconCheck_fr (by decide) ?_
    | with_reducible refine State.reconUp_fr (by decide) ?_
    | with_reducible refine Fr.each (fun _ _ => ?_) ?_

theorem State.sourceGone_fr {M : Mask} {z s : State} {m : Nat} {mba : Nat} (hm : Mask.le { sent := true, ev := true, unitT := true, ft := true, pw := true, md := true, chT := true, ldT := true, actT := true, spT := true, spWait := true, ar := true, jn := true, rb := true, lk := true, qm := true, cm := true, hc := true, dm := true, bm := true, mem := true, mc := true, r4 := true, rmd := true, rpw := true } M = true) (h0 : Fr M z s) :
    Fr M z (State.sourceGone s m mba) := by
  refine Fr.via ?_ hm h0
  unfold State.sourceGone
  repeat' first
    | with_reducible exact Fr.refl _ _
    | with_reducible refine State.reconCheck_fr (by decide) ?_
    | with_reducible refine State.reconUp_fr (by decide) ?_
    | with_reducible refine State.schedDone_fr (by decide) ?_
    | with_reducible refine Fr.each (fun _ _ => ?_) ?_

theorem State.reconDone_fr {M : Mask} {z s : State} {r : Recon} (hm : Mask.le { sent := true, ev := true, unitT := true, ft := true, pw := true, md := true, chT := true, ldT := true, actT := true, spT := true, spWait := true, ar := true, jn := true, rb := true, lk := true, qm := true, cm := true, hc := true, dm := true, bm := true, mem := true, mc := true, r4 := true, rmd := true, rpw := true } M = true) (h0 : Fr M z s) :
    Fr M z (State.reconDone s r) := by
  refine Fr.via ?_ hm h0
  unfold State.reconDone
  repeat' first
    | with_reducible exact Fr.refl _ _
    | with_reducible refine Fr.ite ?_ ?_
    | with_reducible refine State.cmU_fr (by decide) ?_
    | with_reducible refine State.ladWon_fr (by decide) ?_
    | with_reducible refine State.sat_fr (by decide) ?_ ?_
    | with_reducible refine State.schedDone_fr (by decide) ?_
    | with_reducible refine State.waitOk_fr (by decide) ?_
    | with_reducible refine Fr.each (fun _ _ => ?_) ?_
    | exact Mask.okHigh (Nat.le_of_ble_eq_true rfl)
    | exact Mask.okHigh (le_add1 (by decide))

theorem execParityJobDone_fr {s : State} {recon : Option (Fin 65536)} : FrO { sent := true, ev := true, unitT := true, ft := true, pw := true, md := true, chT := true, ldT := true, actT := true, spT := true, spWait := true, ar := true, jn := true, rb := true, lk := true, qm := true, cm := true, hc := true, dm := true, bm := true, mem := true, mc := true, r4 := true, rmd := true, rpw := true } s (execParityJobDone recon s) := by
  unfold execParityJobDone
  repeat' first
    | with_reducible exact Fr.refl _ _
    | with_reducible refine FrO.next ?_
    | with_reducible refine State.chanSweep_fr (by decide) ?_
    | with_reducible refine State.peDone_fr (by decide) ?_
    | with_reducible refine State.reconDone_fr (by decide) ?_
    | split

theorem State.lookBlock_fr {M : Mask} {z s : State} {id : Nat} {i : Nat} (hm : Mask.le { sent := true, ev := true, unitT := true, ft := true, pw := true, md := true, chT := true, ldT := true, actT := true, spT := true, spWait := true, ar := true, jn := true, rb := true, lk := true, qm := true, cm := true, hc := true, dm := true, bm := true, mem := true, mc := true, r4 := true, rmd := true, rpw := true } M = true) (h0 : Fr M z s) :
    Fr M z (State.lookBlock s id i) := by
  refine Fr.via ?_ hm h0
  unfold State.lookBlock
  repeat' first
    | with_reducible exact Fr.refl _ _
    | with_reducible refine Fr.ite ?_ ?_
    | with_reducible refine State.blockFail_fr (by decide) ?_
    | with_reducible refine State.blockOk_fr (by decide) ?_
    | with_reducible refine State.blockWait_fr (by decide) ?_
    | with_reducible refine State.bmU_fr (by decide) (by first | rfl | (split <;> rfl)) ?_
    | with_reducible refine State.cmdUp_fr (by decide) ?_
    | with_reducible refine State.edSet_fr (by decide) ?_
    | with_reducible refine State.fault_fr (by decide) ?_ ?_
    | with_reducible refine State.heatUp_fr (by decide) ?_
    | with_reducible refine State.inc_fr (by decide) ?_ ?_
    | with_reducible refine State.sat_fr (by decide) ?_ ?_
    | split
    | exact Mask.okHigh (Nat.le_of_ble_eq_true rfl)
    | (apply Fr.leafB <;> first | rfl | exact .inl rfl | exact .inr rfl | guard_target =~ Fr _ _ _)

theorem State.readAhead_fr {M : Mask} {z s : State} {c : Cmd} (hm : Mask.le { sent := true, ev := true, unitT := true, ft := true, pw := true, md := true, chT := true, ldT := true, actT := true, spT := true, spWait := true, ar := true, jn := true, rb := true, lk := true, qm := true, cm := true, hc := true, dm := true, bm := true, mem := true, mc := true, r4 := true, rmd := true, rpw := true } M = true) (h0 : Fr M z s) :
    Fr M z (State.readAhead s c) := by
  refine Fr.via ?_ hm h0
  unfold State.readAhead
  repeat' first
    | with_reducible exact Fr.refl _ _
    | with_reducible refine Fr.ite ?_ ?_
    | with_reducible refine State.blockWait_fr (by decide) ?_
    | with_reducible refine State.cmOcc_fr (by decide) ?_
    | with_reducible refine State.cmU_fr (by decide) ?_
    | with_reducible refine Fr.each (fun _ _ => ?_) ?_

theorem State.opRead_fr {M : Mask} {z s : State} {c : Cmd} (hm : Mask.le { sent := true, ev := true, unitT := true, ft := true, pw := true, md := true, chT := true, ldT := true, actT := true, spT := true, spWait := true, ar := true, jn := true, rb := true, lk := true, qm := true, cm := true, hc := true, dm := true, bm := true, mem := true, mc := true, r4 := true, rmd := true, rpw := true } M = true) (h0 : Fr M z s) :
    Fr M z (State.opRead s c) := by
  refine Fr.via ?_ hm h0
  unfold State.opRead
  repeat' first
    | with_reducible exact Fr.refl _ _
    | with_reducible refine Fr.ite ?_ ?_
    | with_reducible refine State.chanSweep_fr (by decide) ?_
    | with_reducible refine State.cmdUp_fr (by decide) ?_
    | with_reducible refine State.complete_fr (by decide) ?_
    | with_reducible refine State.lookBlock_fr (by decide) ?_
    | with_reducible refine State.readAhead_fr (by decide) ?_
    | with_reducible refine Fr.each (fun _ _ => ?_) ?_

theorem State.journal_fr {M : Mask} {z s : State} {id : Nat} {rs : List (Nat × Nat)} {data : Option (Nat → Nat)} (hm : Mask.le { sent := true, ev := true, unitT := true, ft := true, pw := true, md := true, chT := true, actT := true, spT := true, spWait := true, ar := true, jn := true, rb := true, lk := true, cm := true, hc := true, bm := true, mem := true, mc := true, r4 := true, rmd := true, rpw := true } M = true) (h0 : Fr M z s) :
    Fr M z (State.journal s id rs data) := by
  refine Fr.via ?_ hm h0
  unfold State.journal
  repeat' first
    | with_reducible exact Fr.refl _ _
    | with_reducible refine Fr.ite ?_ ?_
    | with_reducible refine State.cmdUp_fr (by decide) ?_
    | with_reducible refine State.complete_fr (by decide) ?_
    | with_reducible refine State.freeze_fr (by decide) ?_
    | with_reducible refine State.jnQueue_fr (by decide) ?_
    | split
    | (apply Fr.leafB <;> first | rfl | exact .inl rfl | exact .inr rfl | guard_target =~ Fr _ _ _)

theorem State.writeData_fr {M : Mask} {z s : State} {id : Nat} (hm : Mask.le { sent := true, ev := true, unitT := true, ft := true, pw := true, md := true, chT := true, actT := true, spT := true, spWait := true, ar := true, jn := true, rb := true, lk := true, cm := true, hc := true, bm := true, mem := true, mc := true, r4 := true, rmd := true, rpw := true } M = true) (h0 : Fr M z s) :
    Fr M z (State.writeData s id) := by
  refine Fr.via ?_ hm h0
  unfold State.writeData
  repeat' first
    | with_reducible exact Fr.refl _ _
    | with_reducible refine State.complete_fr (by decide) ?_
    | with_reducible refine State.fault_fr (by decide) ?_ ?_
    | with_reducible refine State.journal_fr (by decide) ?_
    | with_reducible refine State.sat_fr (by decide) ?_ ?_
    | split
    | exact Mask.okHigh (Nat.le_of_ble_eq_true rfl)
    | (apply Fr.leafB <;> first | rfl | exact .inl rfl | exact .inr rfl | guard_target =~ Fr _ _ _)

theorem State.guardIn_fr {M : Mask} {z s : State} {id : Nat} (hm : Mask.le { sent := true, ev := true, unitT := true, ft := true, pw := true, md := true, chT := true, actT := true, spT := true, spWait := true, ar := true, jn := true, rb := true, lk := true, cm := true, hc := true, dm := true, bm := true, mem := true, mc := true, r4 := true, rmd := true, rpw := true } M = true) (h0 : Fr M z s) :
    Fr M z (State.guardIn s id) := by
  refine Fr.via ?_ hm h0
  unfold State.guardIn
  repeat' first
    | with_reducible exact Fr.refl _ _
    | with_reducible refine Fr.ite ?_ ?_
    | with_reducible refine State.cmdUp_fr (by decide) ?_
    | with_reducible refine State.dClear_fr (by decide) ?_
    | with_reducible refine State.dFault_fr (by decide) ?_
    | with_reducible refine State.dFaultSettle_fr (by decide) ?_
    | with_reducible refine State.hcRead_fr (by decide) ?_
    | with_reducible refine State.hcTrack_fr (by decide) ?_
    | with_reducible refine State.writeData_fr (by decide) ?_
    | with_reducible refine Fr.each (fun _ _ => ?_) ?_
    | split

theorem State.deallocData_fr {M : Mask} {z s : State} {id : Nat} (hm : Mask.le { sent := true, ev := true, unitT := true, ft := true, pw := true, md := true, chT := true, actT := true, spT := true, spWait := true, ar := true, jn := true, rb := true, lk := true, cm := true, hc := true, bm := true, mem := true, mc := true, r4 := true, rmd := true, rpw := true } M = true) (h0 : Fr M z s) :
    Fr M z (State.deallocData s id) := by
  refine Fr.via ?_ hm h0
  unfold State.deallocData
  repeat' first
    | with_reducible exact Fr.refl _ _
    | with_reducible refine Fr.ite ?_ ?_
    | with_reducible refine State.cmdUp_fr (by decide) ?_
    | with_reducible refine State.complete_fr (by decide) ?_
    | with_reducible refine State.journal_fr (by decide) ?_
    | split
    | (apply Fr.leafB <;> first | rfl | exact .inl rfl | exact .inr rfl | guard_target =~ Fr _ _ _)

theorem State.heldRetry_fr {M : Mask} {z s : State} (hm : Mask.le { sent := true, ev := true, unitT := true, ft := true, pw := true, md := true, chT := true, actT := true, spT := true, spWait := true, ar := true, jn := true, rb := true, lk := true, cm := true, hc := true, bm := true, mem := true, mc := true, r4 := true, rmd := true, rpw := true } M = true) (h0 : Fr M z s) :
    Fr M z (State.heldRetry s) := by
  refine Fr.via ?_ hm h0
  unfold State.heldRetry
  repeat' first
    | with_reducible exact Fr.refl _ _
    | with_reducible refine Fr.ite ?_ ?_
    | with_reducible refine State.journal_fr (by decide) ?_
    | with_reducible refine Fr.each (fun _ _ => ?_) ?_

theorem State.flushDone_fr {M : Mask} {z s : State} {c : Cmd} (hm : Mask.le { cm := true, bm := true, mem := true, mc := true } M = true) (h0 : Fr M z s) :
    Fr M z (State.flushDone s c) := by
  refine Fr.via ?_ hm h0
  unfold State.flushDone
  repeat' first
    | with_reducible exact Fr.refl _ _
    | with_reducible refine Fr.ite ?_ ?_
    | with_reducible refine State.complete_fr (by decide) ?_

theorem State.enableFn_fr {M : Mask} {z s : State} {f : Func} (hm : Mask.le {} M = true) (h0 : Fr M z s) :
    Fr M z (State.enableFn s f) := by
  refine Fr.via ?_ hm h0
  unfold State.enableFn
  repeat' first
    | with_reducible exact Fr.refl _ _
    | with_reducible refine Fr.ite ?_ ?_
    | with_reducible refine State.on_fr (by decide) ?_ ?_
    | with_reducible refine Fr.pB ?_ ?_
    | exact Mask.okHigh (ctl_high _)

theorem State.disableFn_fr {M : Mask} {z s : State} {f : Func} (hm : Mask.le {} M = true) (h0 : Fr M z s) :
    Fr M z (State.disableFn s f) := by
  refine Fr.via ?_ hm h0
  unfold State.disableFn
  repeat' first
    | with_reducible exact Fr.refl _ _
    | with_reducible refine Fr.ite ?_ ?_
    | with_reducible refine State.off_fr (by decide) ?_ ?_
    | with_reducible refine Fr.pB ?_ ?_
    | exact Mask.okHigh (ctl_high _)

theorem State.volWaits_fr {M : Mask} {z s : State} {v : Nat} (hm : Mask.le { cm := true, bm := true, mem := true, mc := true } M = true) (h0 : Fr M z s) :
    Fr M z (State.volWaits s v) := by
  refine Fr.via ?_ hm h0
  unfold State.volWaits
  repeat' first
    | with_reducible exact Fr.refl _ _
    | with_reducible refine Fr.ite ?_ ?_
    | with_reducible refine State.cmU_fr (by decide) ?_
    | with_reducible refine State.complete_fr (by decide) ?_
    | with_reducible refine Fr.each (fun _ _ => ?_) ?_

end Sys2Proof.Machine
end

