-- ==== Sys2Proof/Laws/FrRebuild.lean ====
section
/-! SUPPORT. Laws/FrRebuild.lean: what each operation of Machine/Rebuild.lean may touch: the lemma that later proofs cite in
place of unfolding it. -/

namespace Sys2Proof.Machine

open Reg

theorem execSlowTimeout_fr {s : State} {member : Fin 96} {mba : BitVec 40} : FrO { sent := true, ev := true, unitT := true, ft := true, pw := true, md := true, chT := true, ldT := true, actT := true, spT := true, spWait := true, ar := true, jn := true, rb := true, lk := true, qm := true, cm := true, hc := true, dm := true, bm := true, mem := true, mc := true, r4 := true, rmd := true, rpw := true } s (execSlowTimeout member mba s) := by
  unfold execSlowTimeout
  repeat' first
    | with_reducible exact Fr.refl _ _
    | with_reducible refine FrO.next ?_
    | with_reducible refine Fr.ite ?_ ?_
    | with_reducible refine State.careFrom_fr (by decide) ?_
    | with_reducible refine State.declareFailed_fr (by decide) ?_
    | with_reducible refine State.fault_fr (by decide) ?_ ?_
    | with_reducible refine State.rbU_fr (by decide) ?_
    | with_reducible refine State.sat_fr (by decide) ?_ ?_
    | with_reducible refine State.stripeCheck_fr (by decide) ?_
    | exact Mask.okHigh (Nat.le_of_ble_eq_true rfl)

theorem State.rbDeclare_fr {M : Mask} {z s : State} {m : Nat} (hm : Mask.le { sent := true, ev := true, unitT := true, ft := true, pw := true, md := true, chT := true, ldT := true, actT := true, spT := true, spWait := true, ar := true, jn := true, rb := true, lk := true, qm := true, cm := true, hc := true, dm := true, bm := true, mem := true, mc := true, r4 := true, rmd := true, rpw := true } M = true) (h0 : Fr M z s) :
    Fr M z (State.rbDeclare s m) := by
  refine Fr.via ?_ hm h0
  unfold State.rbDeclare
  repeat' first
    | with_reducible exact Fr.refl _ _
    | with_reducible refine State.careFrom_fr (by decide) ?_
    | with_reducible refine State.declareFailed_fr (by decide) ?_
    | with_reducible refine State.note_fr (by decide) ?_ ?_
    | with_reducible refine State.stripeCheck_fr (by decide) ?_
    | exact Mask.okHigh (Nat.le_of_ble_eq_true rfl)

theorem State.rbFail_fr {M : Mask} {z s : State} {m : Nat} (hm : Mask.le { sent := true, ev := true, unitT := true, ft := true, pw := true, md := true, chT := true, ldT := true, actT := true, spT := true, spWait := true, ar := true, jn := true, rb := true, lk := true, qm := true, cm := true, hc := true, dm := true, bm := true, mem := true, mc := true, r4 := true, rmd := true, rpw := true } M = true) (h0 : Fr M z s) :
    Fr M z (State.rbFail s m).2 := by
  refine Fr.via ?_ hm h0
  unfold State.rbFail
  repeat' first
    | with_reducible exact Fr.refl _ _
    | with_reducible refine Fr.ite2 ?_ ?_
    | with_reducible refine State.rbDeclare_fr (by decide) ?_

theorem State.rbClear_fr {M : Mask} {z s : State} {m : Nat} (hm : Mask.le { sent := true, ev := true, ar := true, rb := true, lk := true } M = true) (h0 : Fr M z s) :
    Fr M z (State.rbClear s m).2 := by
  refine Fr.via ?_ hm h0
  unfold State.rbClear
  repeat' first
    | with_reducible exact Fr.refl _ _
    | with_reducible refine Fr.ite ?_ ?_
    | with_reducible refine Fr.ite2 ?_ ?_
    | with_reducible refine State.arU_fr (by decide) ?_
    | with_reducible refine State.devWrite_fr (by decide) ?_
    | with_reducible refine State.memberIn_fr (by decide) ?_
    | with_reducible refine State.note_fr (by decide) ?_ ?_
    | with_reducible refine State.setMem_fr (by decide) ?_
    | with_reducible refine State.spillCheck_fr (by decide) ?_
    | exact Mask.okHigh (Nat.le_of_ble_eq_true rfl)

theorem State.rbReshape_fr {M : Mask} {z s : State} {v : Nat} {w : Nat} (hm : Mask.le { rb := true } M = true) (h0 : Fr M z s) :
    Fr M z (State.rbReshape s v w).2 := by
  refine Fr.via ?_ hm h0
  unfold State.rbReshape
  repeat' first
    | with_reducible exact Fr.refl _ _
    | with_reducible refine Fr.ite2 ?_ ?_
    | with_reducible refine State.ckPut_fr (by decide) ?_
    | with_reducible refine State.off_fr (by decide) ?_ ?_
    | with_reducible refine State.rbU_fr (by decide) ?_
    | with_reducible refine State.setMark_fr (by decide) ?_
    | with_reducible refine Fr.pB ?_ ?_
    | exact Mask.okHigh (Nat.le_of_ble_eq_true rfl)

theorem State.rbPause_fr {M : Mask} {z s : State} (hm : Mask.le { rb := true } M = true) (h0 : Fr M z s) :
    Fr M z (State.rbPause s).2 := by
  refine Fr.via ?_ hm h0
  unfold State.rbPause
  repeat' first
    | with_reducible exact Fr.refl _ _
    | with_reducible refine Fr.ite2 ?_ ?_
    | with_reducible refine State.rbU_fr (by decide) ?_

theorem State.rbResume_fr {M : Mask} {z s : State} (hm : Mask.le { rb := true } M = true) (h0 : Fr M z s) :
    Fr M z (State.rbResume s).2 := by
  refine Fr.via ?_ hm h0
  unfold State.rbResume
  repeat' first
    | with_reducible exact Fr.refl _ _
    | with_reducible refine Fr.ite2 ?_ ?_
    | with_reducible refine State.ckPut_fr (by decide) ?_
    | with_reducible refine State.rbU_fr (by decide) ?_
    | with_reducible refine Fr.pB ?_ ?_
    | exact Mask.okHigh (Nat.le_of_ble_eq_true rfl)

theorem State.rbFtClear_fr {M : Mask} {z s : State} {v : Nat} (hm : Mask.le { rb := true } M = true) (h0 : Fr M z s) :
    Fr M z (State.rbFtClear s v).2 := by
  refine Fr.via ?_ hm h0
  unfold State.rbFtClear
  repeat' first
    | with_reducible exact Fr.refl _ _
    | with_reducible refine Fr.ite ?_ ?_
    | with_reducible refine Fr.ite2 ?_ ?_
    | with_reducible refine State.ckPut_fr (by decide) ?_
    | with_reducible refine State.offBit_fr (by decide) ?_ ?_
    | with_reducible refine State.rbU_fr (by decide) ?_
    | (refine volBit_ok ?_ ?_ <;> exact Mask.okHigh (by decide))

theorem State.rbForget_fr {M : Mask} {z s : State} {v : Nat} (hm : Mask.le { rb := true } M = true) (h0 : Fr M z s) :
    Fr M z (State.rbForget s v).2 := by
  refine Fr.via ?_ hm h0
  unfold State.rbForget
  repeat' first
    | with_reducible exact Fr.refl _ _
    | with_reducible refine Fr.ite2 ?_ ?_
    | with_reducible refine State.rbU_fr (by decide) ?_

theorem State.rbShow_fr {M : Mask} {z : State} {r : Nat × State} (_hm : Mask.le {} M = true) (h0 : Fr M z r.2) :
    Fr M z (State.rbShow r) := Fr.pB (Mask.okHigh (by decide)) h0

theorem execRbFail_fr {s : State} {arg : Fin 128} : FrO { sent := true, ev := true, unitT := true, ft := true, pw := true, md := true, chT := true, ldT := true, actT := true, spT := true, spWait := true, ar := true, jn := true, rb := true, lk := true, qm := true, cm := true, hc := true, dm := true, bm := true, mem := true, mc := true, r4 := true, rmd := true, rpw := true } s (execRbFail arg s) := by
  unfold execRbFail
  repeat' first
    | with_reducible exact Fr.refl _ _
    | with_reducible refine FrO.next ?_
    | with_reducible refine State.rbFail_fr (by decide) ?_
    | with_reducible refine State.rbShow_fr (by decide) ?_
    | with_reducible refine Fr.pB ?_ ?_
    | exact Mask.okHigh (Nat.le_of_ble_eq_true rfl)

theorem execRbClear_fr {s : State} {arg : Fin 128} : FrO { sent := true, ev := true, ar := true, rb := true, lk := true } s (execRbClear arg s) := by
  unfold execRbClear
  repeat' first
    | with_reducible exact Fr.refl _ _
    | with_reducible refine FrO.next ?_
    | with_reducible refine State.rbClear_fr (by decide) ?_
    | with_reducible refine State.rbShow_fr (by decide) ?_
    | with_reducible refine Fr.pB ?_ ?_
    | exact Mask.okHigh (Nat.le_of_ble_eq_true rfl)

theorem execRbReshape_fr {s : State} {arg : Fin 128} {shadow : Fin 64} : FrO { rb := true } s (execRbReshape arg shadow s) := by
  unfold execRbReshape
  repeat' first
    | with_reducible exact Fr.refl _ _
    | with_reducible refine FrO.next ?_
    | with_reducible refine State.rbReshape_fr (by decide) ?_
    | with_reducible refine State.rbShow_fr (by decide) ?_
    | with_reducible refine Fr.pB ?_ ?_
    | exact Mask.okHigh (Nat.le_of_ble_eq_true rfl)

theorem execRbPause_fr {s : State} : FrO { rb := true } s (execRbPause s) := by
  unfold execRbPause
  repeat' first
    | with_reducible exact Fr.refl _ _
    | with_reducible refine FrO.next ?_
    | with_reducible refine State.rbPause_fr (by decide) ?_
    | with_reducible refine State.rbShow_fr (by decide) ?_

theorem execRbResume_fr {s : State} : FrO { rb := true } s (execRbResume s) := by
  unfold execRbResume
  repeat' first
    | with_reducible exact Fr.refl _ _
    | with_reducible refine FrO.next ?_
    | with_reducible refine State.rbResume_fr (by decide) ?_
    | with_reducible refine State.rbShow_fr (by decide) ?_

theorem execRbFtClear_fr {s : State} {arg : Fin 128} : FrO { rb := true } s (execRbFtClear arg s) := by
  unfold execRbFtClear
  repeat' first
    | with_reducible exact Fr.refl _ _
    | with_reducible refine FrO.next ?_
    | with_reducible refine State.rbFtClear_fr (by decide) ?_
    | with_reducible refine State.rbShow_fr (by decide) ?_
    | with_reducible refine Fr.pB ?_ ?_
    | exact Mask.okHigh (Nat.le_of_ble_eq_true rfl)

theorem execRbForget_fr {s : State} {arg : Fin 128} : FrO { rb := true } s (execRbForget arg s) := by
  unfold execRbForget
  repeat' first
    | with_reducible exact Fr.refl _ _
    | with_reducible refine FrO.next ?_
    | with_reducible refine State.rbForget_fr (by decide) ?_
    | with_reducible refine State.rbShow_fr (by decide) ?_
    | with_reducible refine Fr.pB ?_ ?_
    | exact Mask.okHigh (Nat.le_of_ble_eq_true rfl)

theorem State.rowStripe_fr {M : Mask} {z s : State} {v : Nat} {stripe : Nat} {lost : List (Nat × Nat)} {cur : Tbl Nat} (hm : Mask.le { free := true, sent := true, ev := true, unitT := true, ft := true, pw := true, md := true, chT := true, ldT := true, actT := true, spT := true, spWait := true, ar := true, jn := true, rb := true, lk := true, cm := true, hc := true, r4 := true, rmd := true, rpw := true } M = true) (h0 : Fr M z s) :
    Fr M z (State.rowStripe s v stripe lost cur) := by
  refine Fr.via ?_ hm h0
  unfold State.rowStripe
  repeat' first
    | with_reducible exact Fr.refl _ _
    | with_reducible refine Fr.ite ?_ ?_
    | with_reducible refine State.forfeitEvent_fr (by decide) ?_
    | with_reducible refine State.free_fr (by decide) ?_
    | with_reducible refine State.queueRewrite_fr (by decide) ?_
    | with_reducible refine State.stripeStart_fr (by decide) ?_
    | with_reducible refine Fr.each (fun _ _ => ?_) ?_
    | split

theorem State.passEnd_fr {M : Mask} {z s : State} {v : Nat} (hm : Mask.le { sent := true, ev := true, rb := true, lk := true } M = true) (h0 : Fr M z s) :
    Fr M z (State.passEnd s v) := by
  refine Fr.via ?_ hm h0
  unfold State.passEnd
  repeat' first
    | with_reducible exact Fr.refl _ _
    | with_reducible refine State.ckPut_fr (by decide) ?_
    | with_reducible refine State.note_fr (by decide) ?_ ?_
    | with_reducible refine State.rbU_fr (by decide) ?_
    | with_reducible refine State.setActiveVol_fr (by decide) ?_
    | exact Mask.okHigh (Nat.le_of_ble_eq_true rfl)

theorem execRebuildRowDone_fr {s : State} {v : Fin 64} {lost : List (Nat × Nat × Nat)} {cur : List (Nat × Block)} {bad : Option (Fin 96)} : FrO { free := true, sent := true, ev := true, unitT := true, ft := true, pw := true, md := true, chT := true, ldT := true, actT := true, spT := true, spWait := true, ar := true, jn := true, rb := true, lk := true, qm := true, cm := true, hc := true, dm := true, bm := true, mem := true, mc := true, r4 := true, rmd := true, rpw := true } s (execRebuildRowDone v lost cur bad s) := by
  unfold execRebuildRowDone
  repeat' first
    | with_reducible exact Fr.refl _ _
    | with_reducible refine FrO.next ?_
    | with_reducible refine Fr.ite ?_ ?_
    | with_reducible refine State.ckPut_fr (by decide) ?_
    | with_reducible refine State.passEnd_fr (by decide) ?_
    | with_reducible refine State.rbDeclare_fr (by decide) ?_
    | with_reducible refine State.rbU_fr (by decide) ?_
    | with_reducible refine State.rowStripe_fr (by decide) ?_
    | with_reducible refine Fr.pB ?_ ?_
    | with_reducible refine Fr.each (fun _ _ => ?_) ?_
    | split
    | exact Mask.okHigh (Nat.le_of_ble_eq_true rfl)
    | exact Mask.okHigh (le_add1 (by decide))

theorem execReshapeStripeMoved_fr {s : State} {stripe : BitVec 40} {cur : List (Nat × Block)} : FrO { sent := true, ev := true, unitT := true, ft := true, pw := true, md := true, chT := true, actT := true, spT := true, spWait := true, ar := true, jn := true, rb := true, lk := true, cm := true, hc := true, r4 := true, rmd := true, rpw := true } s (execReshapeStripeMoved stripe cur s) := by
  unfold execReshapeStripeMoved
  repeat' first
    | with_reducible exact Fr.refl _ _
    | with_reducible refine FrO.next ?_
    | with_reducible refine Fr.ite ?_ ?_
    | with_reducible refine State.rbU_fr (by decide) ?_
    | with_reducible refine State.stripeStart_fr (by decide) ?_
    | with_reducible refine Fr.pB ?_ ?_
    | exact Mask.okHigh (Nat.le_of_ble_eq_true rfl)

theorem geomRegs_high (v i : Nat) (h : i < 8) : 0x30000 ≤ (geomRegs v).getD i 0 := by
  match i, h with
  | 0, _ | 1, _ | 2, _ | 3, _ | 4, _ | 5, _ | 6, _ | 7, _ =>
    first | exact le_add1 (by decide) | exact le_add1 (le_add1 (by decide))

theorem State.rsDone_fr {M : Mask} {z s : State} (hm : Mask.le { sent := true, ev := true, ar := true, jn := true, rb := true, lk := true } M = true) (h0 : Fr M z s) :
    Fr M z (State.rsDone s) := by
  refine Fr.via ?_ hm h0
  unfold State.rsDone
  repeat' first
    | with_reducible exact Fr.refl _ _
    | with_reducible refine Fr.ite ?_ ?_
    | with_reducible refine Fr.eachMem (fun i hi _ => ?_) ?_
    | with_reducible refine State.arU_fr (by decide) ?_
    | with_reducible refine State.ckPut_fr (by decide) ?_
    | with_reducible refine State.jnU_fr (by decide) ?_
    | with_reducible refine State.note_fr (by decide) ?_ ?_
    | with_reducible refine State.off_fr (by decide) ?_ ?_
    | with_reducible refine State.passStart_fr (by decide) ?_
    | with_reducible refine State.rbU_fr (by decide) ?_
    | with_reducible refine State.setMark_fr (by decide) ?_
    | with_reducible refine State.showCap_fr (by decide) ?_
    | with_reducible refine Fr.wrB ?_ ?_
    | exact Mask.okHigh (geomRegs_high _ _ (List.mem_range.mp (by assumption)))
    | exact Mask.okHigh (Nat.le_of_ble_eq_true rfl)

theorem State.pauseWaits_fr {M : Mask} {z s : State} (hm : Mask.le { cm := true, bm := true, mem := true, mc := true } M = true) (h0 : Fr M z s) :
    Fr M z (State.pauseWaits s) := by
  refine Fr.via ?_ hm h0
  unfold State.pauseWaits
  repeat' first
    | with_reducible exact Fr.refl _ _
    | with_reducible refine State.cmU_fr (by decide) ?_
    | with_reducible refine State.complete_fr (by decide) ?_
    | with_reducible refine Fr.each (fun _ _ => ?_) ?_

theorem State.rsCheckpoint_fr {M : Mask} {z s : State} (hm : Mask.le { sent := true, ev := true, unitT := true, ft := true, pw := true, md := true, chT := true, actT := true, spT := true, spWait := true, ar := true, jn := true, rb := true, lk := true, cm := true, hc := true, bm := true, mem := true, mc := true, r4 := true, rmd := true, rpw := true } M = true) (h0 : Fr M z s) :
    Fr M z (State.rsCheckpoint s) := by
  refine Fr.via ?_ hm h0
  unfold State.rsCheckpoint
  repeat' first
    | with_reducible exact Fr.refl _ _
    | with_reducible refine Fr.ite ?_ ?_
    | with_reducible refine State.ckPut_fr (by decide) ?_
    | with_reducible refine State.heldRetry_fr (by decide) ?_
    | with_reducible refine State.off_fr (by decide) ?_ ?_
    | with_reducible refine State.pauseWaits_fr (by decide) ?_
    | with_reducible refine State.rbU_fr (by decide) ?_
    | with_reducible refine State.rsDone_fr (by decide) ?_
    | with_reducible refine State.setMark_fr (by decide) ?_
    | with_reducible refine Fr.pB ?_ ?_
    | exact Mask.okHigh (Nat.le_of_ble_eq_true rfl)

theorem execReshapeCheckpoint_fr {s : State} : FrO { sent := true, ev := true, unitT := true, ft := true, pw := true, md := true, chT := true, actT := true, spT := true, spWait := true, ar := true, jn := true, rb := true, lk := true, cm := true, hc := true, bm := true, mem := true, mc := true, r4 := true, rmd := true, rpw := true } s (execReshapeCheckpoint s) := by
  unfold execReshapeCheckpoint
  repeat' first
    | with_reducible exact Fr.refl _ _
    | with_reducible refine FrO.next ?_
    | with_reducible refine Fr.ite ?_ ?_
    | with_reducible refine State.rbU_fr (by decide) ?_
    | with_reducible refine State.rsCheckpoint_fr (by decide) ?_
    | with_reducible refine Fr.pB ?_ ?_
    | exact Mask.okHigh (Nat.le_of_ble_eq_true rfl)

theorem State.ftRead_fr {M : Mask} {z s : State} (hm : Mask.le { rdata := true } M = true) (h0 : Fr M z s) :
    Fr M z (State.ftRead s) := by
  refine Fr.via ?_ hm h0
  unfold State.ftRead
  repeat' first
    | with_reducible exact Fr.refl _ _
    | with_reducible refine Fr.ite ?_ ?_
    | with_reducible refine Fr.pB ?_ ?_
    | exact Mask.okHigh (Nat.le_of_ble_eq_true rfl)
    | (apply Fr.leafB <;> first | rfl | exact .inl rfl | exact .inr rfl | guard_target =~ Fr _ _ _)

theorem execFtDataRead_fr {s : State} : FrO { rdata := true } s (execFtDataRead s) := by
  unfold execFtDataRead
  repeat' first
    | with_reducible exact Fr.refl _ _
    | with_reducible refine FrO.next ?_
    | with_reducible refine State.ftRead_fr (by decide) ?_

theorem execBackgroundWindowEnd_fr {s : State} : FrO { rb := true } s (execBackgroundWindowEnd s) := by
  unfold execBackgroundWindowEnd
  repeat' first
    | with_reducible exact Fr.refl _ _
    | with_reducible refine FrO.next ?_
    | with_reducible refine State.rbU_fr (by decide) ?_

theorem State.rbStart_fr {M : Mask} {z s : State} (hm : Mask.le { sent := true, ev := true, unitT := true, ft := true, pw := true, md := true, chT := true, actT := true, spT := true, spWait := true, ar := true, jn := true, rb := true, lk := true, cm := true, hc := true, r4 := true, rmd := true, rpw := true } M = true) (h0 : Fr M z s) :
    Fr M z (State.rbStart s) := by
  refine Fr.via ?_ hm h0
  unfold State.rbStart
  repeat' first
    | with_reducible exact Fr.refl _ _
    | with_reducible refine State.fault_fr (by decide) ?_ ?_
    | with_reducible refine State.passResume_fr (by decide) ?_
    | with_reducible refine State.rsRestore_fr (by decide) ?_
    | with_reducible refine State.setMem_fr (by decide) ?_
    | with_reducible refine State.spillCheck_fr (by decide) ?_
    | with_reducible refine Fr.pB ?_ ?_
    | with_reducible refine Fr.each (fun _ _ => ?_) ?_
    | with_reducible refine Fr.when (fun _ => ?_) ?_
    | split
    | exact Mask.okHigh (Nat.le_of_ble_eq_true rfl)

theorem State.rbStop_fr {M : Mask} {z s : State} (hm : Mask.le { rb := true } M = true) (h0 : Fr M z s) :
    Fr M z (State.rbStop s) := by
  refine Fr.via ?_ hm h0
  unfold State.rbStop
  repeat' first
    | with_reducible exact Fr.refl _ _
    | with_reducible refine State.ckPut_fr (by decide) ?_
    | with_reducible refine State.off_fr (by decide) ?_ ?_
    | with_reducible refine State.rbU_fr (by decide) ?_
    | with_reducible refine State.setActiveVol_fr (by decide) ?_
    | with_reducible refine Fr.pB ?_ ?_
    | with_reducible refine Fr.each (fun _ _ => ?_) ?_
    | exact Mask.okHigh (Nat.le_of_ble_eq_true rfl)

end Sys2Proof.Machine
end

