-- ==== Sys2Proof/Laws/FrBt.lean ====
section
/-! SUPPORT. Laws/FrBt.lean: what each operation of Machine/Bt.lean may touch: the lemma that later proofs cite in
place of unfolding it. -/

namespace Sys2Proof.Machine

open Reg

theorem State.fsWr_fr {M : Mask} {z s : State} {p : Nat} {k : Nat} {v : Nat} (hm : Mask.le { bt := true, store := true } M = true) (h0 : Fr M z s) :
    Fr M z (State.fsWr s p k v) := by
  refine Fr.via ?_ hm h0
  unfold State.fsWr
  repeat' first
    | with_reducible exact Fr.refl _ _
    | with_reducible refine State.btU_fr (by decide) (by first | exact .inl rfl | exact .inr rfl | (split <;> exact .inr rfl)) (by first | exact .inl rfl | exact .inr rfl | (split <;> exact .inr rfl)) (by first | exact .inl rfl | exact .inr rfl | (split <;> exact .inr rfl)) ?_

theorem State.fsErase_fr {M : Mask} {z s : State} {p : Nat} {k : Nat} (hm : Mask.le { bt := true, store := true } M = true) (h0 : Fr M z s) :
    Fr M z (State.fsErase s p k) := by
  refine Fr.via ?_ hm h0
  unfold State.fsErase
  repeat' first
    | with_reducible exact Fr.refl _ _
    | with_reducible refine State.btU_fr (by decide) (by first | exact .inl rfl | exact .inr rfl | (split <;> exact .inr rfl)) (by first | exact .inl rfl | exact .inr rfl | (split <;> exact .inr rfl)) (by first | exact .inl rfl | exact .inr rfl | (split <;> exact .inr rfl)) ?_

theorem State.btSlotUp_fr {M : Mask} {z s : State} {i : Nat} {f : BtSlot → BtSlot} (hm : Mask.le { bt := true } M = true) (h0 : Fr M z s) :
    Fr M z (State.btSlotUp s i f) := by
  refine Fr.via ?_ hm h0
  unfold State.btSlotUp
  repeat' first
    | with_reducible exact Fr.refl _ _
    | with_reducible refine State.btU_fr (by decide) (by first | exact .inl rfl | exact .inr rfl | (split <;> exact .inr rfl)) (by first | exact .inl rfl | exact .inr rfl | (split <;> exact .inr rfl)) (by first | exact .inl rfl | exact .inr rfl | (split <;> exact .inr rfl)) ?_

theorem State.stgShow_fr {M : Mask} {z s : State} {i : Nat} (hm : Mask.le { rbt := true } M = true) (h0 : Fr M z s) :
    Fr M z (State.stgShow s i) := by
  refine Fr.via ?_ hm h0
  unfold State.stgShow
  repeat' first
    | with_reducible exact Fr.refl _ _
    | with_reducible refine Fr.pB ?_ ?_
    | (unfold Mask.ok; decide)

theorem State.blowTo_fr {M : Mask} {z s : State} {n : Nat} (hm : Mask.le { bt := true, fuse := true } M = true) (h0 : Fr M z s) :
    Fr M z (State.blowTo s n) := by
  refine Fr.via ?_ hm h0
  unfold State.blowTo
  repeat' first
    | with_reducible exact Fr.refl _ _
    | with_reducible refine State.btU_fr (by decide) (by first | exact .inl rfl | exact .inr rfl | (split <;> exact .inr rfl)) (by first | exact .inl rfl | exact .inr rfl | (split <;> exact .inr rfl)) (by first | exact .inl rfl | exact .inr rfl | (split <;> exact .inr rfl)) ?_

theorem State.setWords8_fr {M : Mask} {z s : State} {f : Nat → RF} {v : Nat} (hm : Mask.le {} M = true) (hf : ∀ n, M.ok (f n).addr) (h0 : Fr M z s) :
    Fr M z (State.setWords8 s f v) := by
  refine Fr.tr ?_ h0
  unfold State.setWords8
  repeat' first
    | with_reducible exact Fr.refl _ _
    | with_reducible refine Fr.pB ?_ ?_
    | with_reducible refine Fr.each (fun _ _ => ?_) ?_
    | with_reducible exact hf _

theorem State.measure_fr {M : Mask} {z s : State} {h : Nat} (hm : Mask.le { rbt := true, rpw := true, rsf := true } M = true) (h0 : Fr M z s) :
    Fr M z (State.measure s h) := by
  refine Fr.via ?_ hm h0
  unfold State.measure
  repeat' first
    | with_reducible exact Fr.refl _ _
    | with_reducible refine State.setWords8_fr (by decide) ?_ ?_
    | exact fun _ => Mask.okBt (le_add1 (by decide)) rfl rfl rfl

theorem State.keysShow_fr {M : Mask} {z s : State} (hm : Mask.le { rbt := true, rpw := true, rsf := true } M = true) (h0 : Fr M z s) :
    Fr M z (State.keysShow s) := by
  refine Fr.via ?_ hm h0
  unfold State.keysShow
  repeat' first
    | with_reducible exact Fr.refl _ _
    | with_reducible refine State.setWords8_fr (by decide) ?_ ?_
    | with_reducible refine Fr.pB ?_ ?_
    | (unfold Mask.ok; decide)
    | exact fun _ => Mask.okBt (le_add1 (by decide)) rfl rfl rfl

theorem State.runHdr_fr {M : Mask} {z s : State} {slot : Nat} (hm : Mask.le { bt := true, rbt := true, rpw := true, rsf := true } M = true) (h0 : Fr M z s) :
    Fr M z (State.runHdr s slot) := by
  refine Fr.via ?_ hm h0
  unfold State.runHdr
  repeat' first
    | with_reducible exact Fr.refl _ _
    | with_reducible refine State.btU_fr (by decide) (by first | exact .inl rfl | exact .inr rfl | (split <;> exact .inr rfl)) (by first | exact .inl rfl | exact .inr rfl | (split <;> exact .inr rfl)) (by first | exact .inl rfl | exact .inr rfl | (split <;> exact .inr rfl)) ?_
    | with_reducible refine State.measure_fr (by decide) ?_
    | with_reducible refine State.setWords8_fr (by decide) ?_ ?_
    | with_reducible refine Fr.pB ?_ ?_
    | exact Mask.okHigh (Nat.le_of_ble_eq_true rfl)
    | (unfold Mask.ok; decide)
    | exact fun _ => Mask.okBt (le_add1 (by decide)) rfl rfl rfl

theorem State.slotBad_fr {M : Mask} {z s : State} {slot : Nat} {why : Nat} (hm : Mask.le { sent := true, ev := true, lk := true, rbt := true } M = true) (h0 : Fr M z s) :
    Fr M z (State.slotBad s slot why) := by
  refine Fr.via ?_ hm h0
  unfold State.slotBad
  repeat' first
    | with_reducible exact Fr.refl _ _
    | with_reducible refine State.note_fr (by decide) ?_ ?_
    | with_reducible refine Fr.pB ?_ ?_
    | (unfold Mask.ok; decide)

theorem State.bootSlot_fr {M : Mask} {z s : State} {slot : Nat} (hm : Mask.le { bt := true, rbt := true, rpw := true, rsf := true } M = true) (h0 : Fr M z s) :
    Fr M z (State.bootSlot s slot) := by
  refine Fr.via ?_ hm h0
  unfold State.bootSlot
  repeat' first
    | with_reducible exact Fr.refl _ _
    | with_reducible refine State.measure_fr (by decide) ?_
    | with_reducible refine State.off_fr (by decide) ?_ ?_
    | with_reducible refine State.runHdr_fr (by decide) ?_
    | with_reducible refine State.stgShow_fr (by decide) ?_
    | with_reducible refine Fr.pB ?_ ?_
    | split
    | (unfold Mask.ok; decide)

theorem execRomBoot_fr {s : State} : FrO { sent := true, ev := true, unitT := true, ft := true, pw := true, md := true, chT := true, actT := true, spT := true, spWait := true, ar := true, jn := true, rb := true, lk := true, cm := true, hc := true, bt := true, fuse := true, r4 := true, rmd := true, rbt := true, rpw := true, rsf := true } s (execRomBoot s) := by
  unfold execRomBoot
  repeat' first
    | with_reducible exact Fr.refl _ _
    | with_reducible refine FrO.next ?_
    | with_reducible refine Fr.ite ?_ ?_
    | with_reducible refine State.bootSlot_fr (by decide) ?_
    | with_reducible refine State.btU_fr (by decide) (by first | exact .inl rfl | exact .inr rfl | (split <;> exact .inr rfl)) (by first | exact .inl rfl | exact .inr rfl | (split <;> exact .inr rfl)) (by first | exact .inl rfl | exact .inr rfl | (split <;> exact .inr rfl)) ?_
    | with_reducible refine State.fault_fr (by decide) ?_ ?_
    | with_reducible refine State.keysShow_fr (by decide) ?_
    | with_reducible refine State.on_fr (by decide) ?_ ?_
    | with_reducible refine State.raise_fr (by decide) ?_
    | with_reducible refine State.romLink_fr (by decide) ?_
    | with_reducible refine State.setWords8_fr (by decide) ?_ ?_
    | with_reducible refine State.slotBad_fr (by decide) ?_
    | with_reducible refine Fr.pB ?_ ?_
    | with_reducible refine Fr.each (fun _ _ => ?_) ?_
    | (unfold Mask.ok; decide)
    | exact Mask.okBt (le_add1 (by decide)) rfl rfl rfl
    | exact fun _ => Mask.okBt (le_add1 (by decide)) rfl rfl rfl

theorem State.gateStart_fr {M : Mask} {z s : State} (hm : Mask.le { bt := true, rbt := true } M = true) (h0 : Fr M z s) :
    Fr M z (State.gateStart s) := by
  refine Fr.via ?_ hm h0
  unfold State.gateStart
  repeat' first
    | with_reducible exact Fr.refl _ _
    | with_reducible refine Fr.ite ?_ ?_
    | with_reducible refine State.btU_fr (by decide) (by first | exact .inl rfl | exact .inr rfl | (split <;> exact .inr rfl)) (by first | exact .inl rfl | exact .inr rfl | (split <;> exact .inr rfl)) (by first | exact .inl rfl | exact .inr rfl | (split <;> exact .inr rfl)) ?_
    | with_reducible refine State.off_fr (by decide) ?_ ?_
    | with_reducible refine State.on_fr (by decide) ?_ ?_
    | with_reducible refine Fr.pB ?_ ?_
    | (unfold Mask.ok; decide)

theorem execGate_fr {s : State} : FrO { bt := true, rbt := true } s (execGate s) := by
  unfold execGate
  repeat' first
    | with_reducible exact Fr.refl _ _
    | with_reducible refine FrO.next ?_
    | with_reducible refine State.gateStart_fr (by decide) ?_

theorem State.microLoad_fr {M : Mask} {z s : State} {d : Nat} (hm : Mask.le { mc := true } M = true) (h0 : Fr M z s) :
    Fr M z (State.microLoad s d) := by
  refine Fr.via ?_ hm h0
  unfold State.microLoad
  repeat' first
    | with_reducible exact Fr.refl _ _
    | with_reducible refine State.mcU_fr (by decide) ?_

theorem State.stageLoad_fr {M : Mask} {z s : State} {typ : Nat} {len : Nat} {body : Nat} (hm : Mask.le { bm := true, mem := true, mc := true, rbt := true } M = true) (h0 : Fr M z s) :
    Fr M z (State.stageLoad s typ len body) := by
  refine Fr.via ?_ hm h0
  unfold State.stageLoad
  repeat' first
    | with_reducible exact Fr.refl _ _
    | with_reducible refine Fr.ite ?_ ?_
    | with_reducible refine State.bPut_fr (by decide) ?_
    | with_reducible refine State.microLoad_fr (by decide) ?_

theorem State.gatePass_fr {M : Mask} {z s : State} {i : Nat} (hm : Mask.le { bt := true, rbt := true, rpw := true, rsf := true } M = true) (h0 : Fr M z s) :
    Fr M z (State.gatePass s i) := by
  refine Fr.via ?_ hm h0
  unfold State.gatePass
  repeat' first
    | with_reducible exact Fr.refl _ _
    | with_reducible refine Fr.ite ?_ ?_
    | with_reducible refine State.btSlotUp_fr (by decide) ?_
    | with_reducible refine State.measure_fr (by decide) ?_
    | with_reducible refine State.onBit_fr (by decide) ?_ ?_
    | with_reducible refine Fr.pB ?_ ?_
    | with_reducible refine Fr.when (fun _ => ?_) ?_
    | (unfold Mask.ok; decide)

theorem State.gateFail_fr {M : Mask} {z s : State} {i : Nat} (hm : Mask.le { sent := true, ev := true, unitT := true, ft := true, pw := true, md := true, chT := true, actT := true, spT := true, spWait := true, ar := true, jn := true, rb := true, lk := true, cm := true, hc := true, mc := true, bt := true, r4 := true, rmd := true, rbt := true, rpw := true } M = true) (h0 : Fr M z s) :
    Fr M z (State.gateFail s i) := by
  refine Fr.via ?_ hm h0
  unfold State.gateFail
  repeat' first
    | with_reducible exact Fr.refl _ _
    | with_reducible refine Fr.ite ?_ ?_
    | with_reducible refine State.btSlotUp_fr (by decide) ?_
    | with_reducible refine State.fault_fr (by decide) ?_ ?_
    | with_reducible refine State.ftU_fr (by decide) ?_
    | with_reducible refine State.mcU_fr (by decide) ?_
    | with_reducible refine Fr.when (fun _ => ?_) ?_
    | (unfold Mask.ok; decide)

theorem State.gateRun_fr {M : Mask} {z s : State} {i : Nat} (hm : Mask.le { sent := true, ev := true, unitT := true, ft := true, pw := true, md := true, chT := true, actT := true, spT := true, spWait := true, ar := true, jn := true, rb := true, lk := true, cm := true, hc := true, bm := true, mem := true, mc := true, bt := true, r4 := true, rmd := true, rbt := true, rpw := true, rsf := true } M = true) (h0 : Fr M z s) :
    Fr M z (State.gateRun s i) := by
  refine Fr.via ?_ hm h0
  unfold State.gateRun
  repeat' first
    | with_reducible exact Fr.refl _ _
    | with_reducible refine Fr.ite ?_ ?_
    | with_reducible refine State.gateFail_fr (by decide) ?_
    | with_reducible refine State.gatePass_fr (by decide) ?_
    | with_reducible refine State.stageLoad_fr (by decide) ?_

theorem execGateComplete_fr {s : State} : FrO { sent := true, ev := true, unitT := true, ft := true, pw := true, md := true, chT := true, actT := true, spT := true, spWait := true, ar := true, jn := true, rb := true, lk := true, cm := true, hc := true, bm := true, mem := true, mc := true, bt := true, r4 := true, rmd := true, rbt := true, rpw := true, rsf := true } s (execGateComplete s) := by
  unfold execGateComplete
  repeat' first
    | with_reducible exact Fr.refl _ _
    | with_reducible refine FrO.next ?_
    | with_reducible refine State.btU_fr (by decide) (by first | exact .inl rfl | exact .inr rfl | (split <;> exact .inr rfl)) (by first | exact .inl rfl | exact .inr rfl | (split <;> exact .inr rfl)) (by first | exact .inl rfl | exact .inr rfl | (split <;> exact .inr rfl)) ?_
    | with_reducible refine State.gateRun_fr (by decide) ?_
    | with_reducible refine State.off_fr (by decide) ?_ ?_
    | split
    | (unfold Mask.ok; decide)

theorem State.svnStart_fr {M : Mask} {z s : State} (hm : Mask.le { rbt := true } M = true) (h0 : Fr M z s) :
    Fr M z (State.svnStart s) := by
  refine Fr.via ?_ hm h0
  unfold State.svnStart
  repeat' first
    | with_reducible exact Fr.refl _ _
    | with_reducible refine Fr.ite ?_ ?_
    | with_reducible refine State.off_fr (by decide) ?_ ?_
    | with_reducible refine State.on_fr (by decide) ?_ ?_
    | with_reducible refine Fr.pB ?_ ?_
    | (unfold Mask.ok; decide)

theorem execCommitSvn_fr {s : State} : FrO { rbt := true } s (execCommitSvn s) := by
  unfold execCommitSvn
  repeat' first
    | with_reducible exact Fr.refl _ _
    | with_reducible refine FrO.next ?_
    | with_reducible refine State.svnStart_fr (by decide) ?_

theorem execCommitSvnDone_fr {s : State} : FrO { sent := true, ev := true, lk := true, bt := true, fuse := true, rbt := true } s (execCommitSvnDone s) := by
  unfold execCommitSvnDone
  repeat' first
    | with_reducible exact Fr.refl _ _
    | with_reducible refine FrO.next ?_
    | with_reducible refine Fr.ite ?_ ?_
    | with_reducible refine State.blowTo_fr (by decide) ?_
    | with_reducible refine State.off_fr (by decide) ?_ ?_
    | with_reducible refine State.raise_fr (by decide) ?_
    | with_reducible refine Fr.pB ?_ ?_
    | (unfold Mask.ok; decide)

theorem State.revokeVk0_fr {M : Mask} {z s : State} (hm : Mask.le { sent := true, ev := true, lk := true, bt := true, revoked := true, rbt := true } M = true) (h0 : Fr M z s) :
    Fr M z (State.revokeVk0 s) := by
  refine Fr.via ?_ hm h0
  unfold State.revokeVk0
  repeat' first
    | with_reducible exact Fr.refl _ _
    | with_reducible refine Fr.ite ?_ ?_
    | with_reducible refine State.btU_fr (by decide) (by first | exact .inl rfl | exact .inr rfl | (split <;> exact .inr rfl)) (by first | exact .inl rfl | exact .inr rfl | (split <;> exact .inr rfl)) (by first | exact .inl rfl | exact .inr rfl | (split <;> exact .inr rfl)) ?_
    | with_reducible refine State.off_fr (by decide) ?_ ?_
    | with_reducible refine State.on_fr (by decide) ?_ ?_
    | with_reducible refine State.raise_fr (by decide) ?_
    | with_reducible refine Fr.pB ?_ ?_
    | (unfold Mask.ok; decide)

theorem execRevokeVk0_fr {s : State} : FrO { sent := true, ev := true, lk := true, bt := true, revoked := true, rbt := true } s (execRevokeVk0 s) := by
  unfold execRevokeVk0
  repeat' first
    | with_reducible exact Fr.refl _ _
    | with_reducible refine FrO.next ?_
    | with_reducible refine State.revokeVk0_fr (by decide) ?_

theorem State.stageJudge_fr {M : Mask} {z s : State} {slot : Nat} (hm : Mask.le { bt := true } M = true) (h0 : Fr M z s) :
    Fr M z (State.stageJudge s slot) := by
  refine Fr.via ?_ hm h0
  unfold State.stageJudge
  repeat' first
    | with_reducible exact Fr.refl _ _
    | with_reducible refine Fr.ite ?_ ?_
    | with_reducible refine State.btSlotUp_fr (by decide) ?_

theorem State.fwPiece_fr {M : Mask} {z s : State} {id : Nat} (hm : Mask.le { cm := true, bm := true, mem := true, mc := true, bt := true } M = true) (h0 : Fr M z s) :
    Fr M z (State.fwPiece s id) := by
  refine Fr.via ?_ hm h0
  unfold State.fwPiece
  repeat' first
    | with_reducible exact Fr.refl _ _
    | with_reducible refine Fr.ite ?_ ?_
    | with_reducible refine State.btSlotUp_fr (by decide) ?_
    | with_reducible refine State.btU_fr (by decide) (by first | exact .inl rfl | exact .inr rfl | (split <;> exact .inr rfl)) (by first | exact .inl rfl | exact .inr rfl | (split <;> exact .inr rfl)) (by first | exact .inl rfl | exact .inr rfl | (split <;> exact .inr rfl)) ?_
    | with_reducible refine State.complete_fr (by decide) ?_

theorem State.fwNext_fr {M : Mask} {z : State} {fuel : Nat} (hm : Mask.le { cm := true, bm := true, mem := true, mc := true, bt := true } M = true) :
    ∀ {s : State}, Fr M z s → Fr M z (s.fwNext fuel) := by
  induction fuel with
  | zero => exact fun h => h
  | succ fuel ih =>
    intro s h0
    unfold State.fwNext
    split
    · refine ih (State.fwPiece_fr (Mask.le_trans (by decide) hm) ?_)
      exact Fr.via (N := { bt := true }) (State.btU_fr rfl (.inr rfl) (.inr rfl) (.inr rfl) (Fr.refl _ _))
        (Mask.le_trans (by decide) hm) h0
    · exact h0

theorem State.fwData_fr {M : Mask} {z s : State} {id : Nat} (hm : Mask.le { cm := true, bm := true, mem := true, mc := true, bt := true } M = true) (h0 : Fr M z s) :
    Fr M z (State.fwData s id) := by
  refine Fr.via ?_ hm h0
  unfold State.fwData
  repeat' first
    | with_reducible exact Fr.refl _ _
    | with_reducible refine State.btU_fr (by decide) (by first | exact .inl rfl | exact .inr rfl | (split <;> exact .inr rfl)) (by first | exact .inl rfl | exact .inr rfl | (split <;> exact .inr rfl)) (by first | exact .inl rfl | exact .inr rfl | (split <;> exact .inr rfl)) ?_
    | with_reducible refine State.fwNext_fr (by decide) ?_

theorem execStoreOpDone_fr {s : State} : FrO { sent := true, ev := true, lk := true, cm := true, bm := true, mem := true, mc := true, bt := true, store := true, rbt := true } s (execStoreOpDone s) := by
  unfold execStoreOpDone
  repeat' first
    | with_reducible exact Fr.refl _ _
    | with_reducible refine FrO.next ?_
    | with_reducible refine Fr.ite ?_ ?_
    | with_reducible refine State.btSlotUp_fr (by decide) ?_
    | with_reducible refine State.btU_fr (by decide) (by first | exact .inl rfl | exact .inr rfl | (split <;> exact .inr rfl)) (by first | exact .inl rfl | exact .inr rfl | (split <;> exact .inr rfl)) (by first | exact .inl rfl | exact .inr rfl | (split <;> exact .inr rfl)) ?_
    | with_reducible refine State.complete_fr (by decide) ?_
    | with_reducible refine State.fsErase_fr (by decide) ?_
    | with_reducible refine State.fsWr_fr (by decide) ?_
    | with_reducible refine State.fwNext_fr (by decide) ?_
    | with_reducible refine State.note_fr (by decide) ?_ ?_
    | with_reducible refine State.sat_fr (by decide) ?_ ?_
    | with_reducible refine State.stageJudge_fr (by decide) ?_
    | with_reducible refine State.stgShow_fr (by decide) ?_
    | split
    | (unfold Mask.ok; decide)

theorem execStoreTimeout_fr {s : State} : FrO { sent := true, ev := true, unitT := true, ft := true, pw := true, md := true, chT := true, actT := true, spT := true, spWait := true, ar := true, jn := true, rb := true, lk := true, cm := true, hc := true, bm := true, mem := true, mc := true, bt := true, r4 := true, rmd := true, rbt := true, rpw := true } s (execStoreTimeout s) := by
  unfold execStoreTimeout
  repeat' first
    | with_reducible exact Fr.refl _ _
    | with_reducible refine FrO.next ?_
    | with_reducible refine State.btSlotUp_fr (by decide) ?_
    | with_reducible refine State.btU_fr (by decide) (by first | exact .inl rfl | exact .inr rfl | (split <;> exact .inr rfl)) (by first | exact .inl rfl | exact .inr rfl | (split <;> exact .inr rfl)) (by first | exact .inl rfl | exact .inr rfl | (split <;> exact .inr rfl)) ?_
    | with_reducible refine State.complete_fr (by decide) ?_
    | with_reducible refine State.fault_fr (by decide) ?_ ?_
    | with_reducible refine State.fwNext_fr (by decide) ?_
    | with_reducible refine State.stgShow_fr (by decide) ?_
    | split
    | (unfold Mask.ok; decide)

theorem State.actSwitch_fr {M : Mask} {z s : State} {slot : Nat} (hm : Mask.le { sent := true, ev := true, unitT := true, ft := true, pw := true, md := true, chT := true, actT := true, spT := true, spWait := true, ar := true, jn := true, rb := true, lk := true, cm := true, hc := true, bm := true, mem := true, mc := true, bt := true, r4 := true, rmd := true, rbt := true, rpw := true, rsf := true } M = true) (h0 : Fr M z s) :
    Fr M z (s.actSwitch slot).2 := by
  have key : ∀ (l : List Nat) (r : Bool × State), Fr M z r.2 → Fr M z (l.foldl (fun r i =>
      if r.1 && 2 ≤ Image.stTyp r.2.bt.hdr i then (r.2.gateHolds i, r.2.gateRun i) else r) r).2 := by
    intro l
    induction l with
    | nil => exact fun r h => h
    | cons i l ih =>
      intro r h
      refine ih _ ?_
      beta_reduce
      have k := State.gateRun_fr (i := i) (Mask.le_trans (by decide) hm) h
      generalize r.2.gateRun i = u at k ⊢
      generalize r.2.gateHolds i = b
      exact Fr.ite2 k h
  unfold State.actSwitch
  refine key _ _ ?_
  exact State.off_fr (Mask.le_trans (by decide) hm) (by first | exact Mask.okHigh (by decide) | exact Mask.okIn hm (by unfold Mask.ok; decide))
    (State.runHdr_fr (Mask.le_trans (by decide) hm) h0)

theorem execBootRecordWrite_fr {s : State} : FrO { bt := true, store := true, rbt := true } s (execBootRecordWrite s) := by
  unfold execBootRecordWrite
  repeat' first
    | with_reducible exact Fr.refl _ _
    | with_reducible refine FrO.next ?_
    | with_reducible refine Fr.ite ?_ ?_
    | with_reducible refine State.btU_fr (by decide) (by first | exact .inl rfl | exact .inr rfl | (split <;> exact .inr rfl)) (by first | exact .inl rfl | exact .inr rfl | (split <;> exact .inr rfl)) (by first | exact .inl rfl | exact .inr rfl | (split <;> exact .inr rfl)) ?_
    | with_reducible refine State.fsWr_fr (by decide) ?_
    | with_reducible refine State.on_fr (by decide) ?_ ?_
    | (unfold Mask.ok; decide)

theorem State.sigRead_fr {M : Mask} {z s : State} (hm : Mask.le { rdata := true, rbt := true } M = true) (h0 : Fr M z s) :
    Fr M z (State.sigRead s) := by
  refine Fr.via ?_ hm h0
  unfold State.sigRead
  repeat' first
    | with_reducible exact Fr.refl _ _
    | with_reducible refine Fr.pB ?_ ?_
    | split
    | (unfold Mask.ok; decide)
    | (apply Fr.leafB <;> first | rfl | exact .inl rfl | exact .inr rfl | guard_target =~ Fr _ _ _)

theorem execSigDataRead_fr {s : State} : FrO { rdata := true, rbt := true } s (execSigDataRead s) := by
  unfold execSigDataRead
  repeat' first
    | with_reducible exact Fr.refl _ _
    | with_reducible refine FrO.next ?_
    | with_reducible refine State.sigRead_fr (by decide) ?_

theorem State.keyData_fr {M : Mask} {z s : State} {id : Nat} (hm : Mask.le { sent := true, ev := true, lk := true, cm := true, bm := true, mem := true, mc := true, bt := true, rbt := true, rpw := true, rsf := true } M = true) (h0 : Fr M z s) :
    Fr M z (State.keyData s id) := by
  refine Fr.via ?_ hm h0
  unfold State.keyData
  repeat' first
    | with_reducible exact Fr.refl _ _
    | with_reducible refine Fr.ite ?_ ?_
    | with_reducible refine State.btU_fr (by decide) (by first | exact .inl rfl | exact .inr rfl | (split <;> exact .inr rfl)) (by first | exact .inl rfl | exact .inr rfl | (split <;> exact .inr rfl)) (by first | exact .inl rfl | exact .inr rfl | (split <;> exact .inr rfl)) ?_
    | with_reducible refine State.complete_fr (by decide) ?_
    | with_reducible refine State.keysShow_fr (by decide) ?_
    | with_reducible refine State.raise_fr (by decide) ?_

end Sys2Proof.Machine
end

