-- ==== Sys2Proof/Laws/FrAccess.lean ====
section
/-! SUPPORT. Laws/FrAccess.lean: what each operation of Machine/Access.lean may touch: the lemma that later proofs cite in
place of unfolding it. -/

namespace Sys2Proof.Machine

open Reg

theorem State.fieldWrite_fr {M : Mask} {z s : State} {addr v sets : Nat} {force : Bool} {f : FieldDesc}
    (hm : Mask.le { rmd := true, rbt := true, rpw := true, rsf := true } M = true)
    (ha : addr = 4 → f.acc = .ro) (h0 : Fr M z s) : Fr M z (s.fieldWrite addr v sets force f) := by
  have ok : f.acc ≠ .ro → M.ok addr := fun h =>
    Mask.okIn hm ⟨fun e => h (ha e), .inl rfl, .inl rfl, .inl rfl, .inl rfl⟩
  unfold State.fieldWrite
  split
  · exact Fr.pB (ok (by simp_all)) h0
  · exact Fr.ite h0 (Fr.pB (ok (by simp_all)) h0)
  · exact Fr.pB (ok (by simp_all)) h0
  · exact h0

theorem regFields_mode : ∀ fs, regFields 4 = some fs → ∀ f ∈ fs, f.acc = .ro := by
  intro fs h
  cases h
  decide

theorem State.plainWrite_fr {M : Mask} {z s : State} {addr v sets : Nat}
    (hm : Mask.le { md := true, rmd := true, rbt := true, rpw := true, rsf := true } M = true)
    (h0 : Fr M z s) : Fr M z (s.plainWrite addr v sets) := by
  unfold State.plainWrite
  split
  · exact h0
  · rename_i fs e
    have h1 := Fr.eachMem (f := fun f t => State.fieldWrite t addr v sets false f) (l := fs)
      (fun f hf t => State.fieldWrite_fr (Mask.le_trans (by decide) hm)
        (fun h4 => regFields_mode fs (h4 ▸ e) f hf) (Fr.refl M t)) h0
    refine Fr.ite ?_ h1
    exact Fr.via (N := { md := true }) (State.mdU_fr rfl rfl (Fr.refl _ _)) (Mask.le_trans (by decide) hm) h1

theorem State.plainRead_fr {M : Mask} {z s : State} {addr adds : Nat}
    (hm : Mask.le { rdata := true, rmd := true, rbt := true, rpw := true, rsf := true } M = true)
    (h0 : Fr M z s) : Fr M z (s.plainRead addr adds) := by
  have put : ∀ x, Fr M z { s with rdata := x } := fun x =>
    Fr.via (N := { rdata := true }) (by apply Fr.leaf <;> first | rfl | exact .inl rfl | exact .inr rfl)
      (Mask.le_trans (by decide) hm) h0
  unfold State.plainRead
  split
  · exact put 0
  · rename_i fs e
    refine Fr.eachMem (fun f hf t => ?_) (put _)
    refine Fr.p (Mask.okIn hm ⟨fun h4 => ?_, .inl rfl, .inl rfl, .inl rfl, .inl rfl⟩)
    have h := List.mem_filter.mp hf
    have := regFields_mode fs (h4 ▸ e) f h.1
    simp [this] at h

end Sys2Proof.Machine
end

