-- ==== Sys2Proof/Laws/FrCmdRows.lean ====
section
/-! SUPPORT. Laws/FrCmdRows.lean: what each operation of Machine/CmdRows.lean may touch: the lemma that later proofs cite in
place of unfolding it. -/

namespace Sys2Proof.Machine

open Reg

theorem State.opDone_fr {M : Mask} {z : State} {id : Nat} {r : Nat × State} (hm : Mask.le { cm := true, bm := true, mem := true, mc := true } M = true) (h0 : Fr M z r.2) :
    Fr M z (State.opDone id r) := by
  unfold State.opDone
  exact Fr.ite (State.complete_fr hm h0) (State.complete_fr hm h0)

theorem State.volDefine_fr {M : Mask} {z s : State} {id : Nat} (hm : Mask.le { md := true, cm := true, bm := true, mem := true, mc := true, rmd := true, rbt := true, rpw := true, rsf := true } M = true) (h0 : Fr M z s) :
    Fr M z (State.volDefine s id) := by
  refine Fr.via ?_ hm h0
  unfold State.volDefine
  repeat' first
    | with_reducible exact Fr.refl _ _
    | with_reducible refine Fr.ite ?_ ?_
    | with_reducible refine State.complete_fr (by decide) ?_
    | with_reducible refine State.plainWrite_fr (by decide) ?_
    | with_reducible refine Fr.each (fun _ _ => ?_) ?_

theorem State.patternLoad_fr {M : Mask} {z s : State} {id : Nat} (hm : Mask.le { ar := true, cm := true, bm := true, mem := true, mc := true } M = true) (h0 : Fr M z s) :
    Fr M z (State.patternLoad s id) := by
  refine Fr.via ?_ hm h0
  unfold State.patternLoad
  repeat' first
    | with_reducible exact Fr.refl _ _
    | with_reducible refine Fr.ite ?_ ?_
    | with_reducible refine State.complete_fr (by decide) ?_
    | with_reducible refine State.patPut_fr (by decide) ?_
    | with_reducible refine Fr.each (fun _ _ => ?_) ?_

theorem State.queueCreate_fr {M : Mask} {z s : State} {id : Nat} (hm : Mask.le { sent := true, ev := true, unitT := true, ft := true, pw := true, md := true, chT := true, actT := true, spT := true, spWait := true, ar := true, jn := true, rb := true, lk := true, qm := true, cm := true, hc := true, bm := true, mem := true, mc := true, r4 := true, rmd := true, rpw := true } M = true) (h0 : Fr M z s) :
    Fr M z (State.queueCreate s id) := by
  refine Fr.via ?_ hm h0
  unfold State.queueCreate
  repeat' first
    | with_reducible exact Fr.refl _ _
    | with_reducible refine Fr.ite ?_ ?_
    | with_reducible refine State.complete_fr (by decide) ?_
    | with_reducible refine State.ctxCreate_fr (by decide) ?_
    | with_reducible refine State.ctxLoad_fr (by decide) ?_

theorem State.microJudge_fr {M : Mask} {z s : State} {id : Nat} (hm : Mask.le { sent := true, ev := true, lk := true, cm := true, bm := true, mem := true, mc := true } M = true) (h0 : Fr M z s) :
    Fr M z (State.microJudge s id) := by
  refine Fr.via ?_ hm h0
  unfold State.microJudge
  repeat' first
    | with_reducible exact Fr.refl _ _
    | with_reducible refine Fr.ite ?_ ?_
    | with_reducible refine State.complete_fr (by decide) ?_
    | with_reducible refine State.mcU_fr (by decide) ?_
    | with_reducible refine State.note_fr (by decide) ?_ ?_
    | with_reducible refine State.off_fr (by decide) ?_ ?_
    | with_reducible refine Fr.pB ?_ ?_
    | exact Mask.okHigh (Nat.le_of_ble_eq_true rfl)

theorem State.microData_fr {M : Mask} {z s : State} {id : Nat} (hm : Mask.le { sent := true, ev := true, lk := true, cm := true, bm := true, mem := true, mc := true } M = true) (h0 : Fr M z s) :
    Fr M z (State.microData s id) := by
  refine Fr.via ?_ hm h0
  unfold State.microData
  repeat' first
    | with_reducible exact Fr.refl _ _
    | with_reducible refine Fr.ite ?_ ?_
    | with_reducible refine State.complete_fr (by decide) ?_
    | with_reducible refine State.mcU_fr (by decide) ?_
    | with_reducible refine State.microJudge_fr (by decide) ?_
    | with_reducible refine State.onBit_fr (by decide) ?_ ?_
    | with_reducible refine Fr.each (fun _ _ => ?_) ?_
    | exact Mask.okHigh (Nat.le_of_ble_eq_true rfl)

theorem State.dataReady_fr {M : Mask} {z s : State} {id : Nat} (hm : Mask.le { sent := true, ev := true, unitT := true, ft := true, pw := true, md := true, chT := true, actT := true, spT := true, spWait := true, ar := true, jn := true, rb := true, lk := true, qm := true, cm := true, hc := true, dm := true, bm := true, mem := true, mc := true, bt := true, r4 := true, rmd := true, rbt := true, rpw := true, rsf := true } M = true) (h0 : Fr M z s) :
    Fr M z (State.dataReady s id) := by
  refine Fr.via ?_ hm h0
  unfold State.dataReady
  repeat' first
    | with_reducible exact Fr.refl _ _
    | with_reducible refine Fr.ite ?_ ?_
    | with_reducible refine State.btU_fr (by decide) (by first | exact .inl rfl | exact .inr rfl | (split <;> exact .inr rfl)) (by first | exact .inl rfl | exact .inr rfl | (split <;> exact .inr rfl)) (by first | exact .inl rfl | exact .inr rfl | (split <;> exact .inr rfl)) ?_
    | with_reducible refine State.cmdUp_fr (by decide) ?_
    | with_reducible refine State.deallocData_fr (by decide) ?_
    | with_reducible refine State.fwData_fr (by decide) ?_
    | with_reducible refine State.guardIn_fr (by decide) ?_
    | with_reducible refine State.keyData_fr (by decide) ?_
    | with_reducible refine State.microData_fr (by decide) ?_
    | with_reducible refine State.patternLoad_fr (by decide) ?_
    | with_reducible refine State.queueCreate_fr (by decide) ?_
    | with_reducible refine State.volDefine_fr (by decide) ?_
    | with_reducible refine State.writeData_fr (by decide) ?_

theorem State.sentAll_fr {M : Mask} {z s : State} {id : Nat} (hm : Mask.le { cm := true, bm := true, mem := true, mc := true } M = true) (h0 : Fr M z s) :
    Fr M z (State.sentAll s id) := by
  refine Fr.via ?_ hm h0
  unfold State.sentAll
  repeat' first
    | with_reducible exact Fr.refl _ _
    | with_reducible refine Fr.ite ?_ ?_
    | with_reducible refine State.complete_fr (by decide) ?_
    | with_reducible refine State.readDone_fr (by decide) ?_

theorem State.xferDone_fr {M : Mask} {z s : State} {n : Nat} (hm : Mask.le { sent := true, ev := true, unitT := true, ft := true, pw := true, md := true, chT := true, ldT := true, actT := true, spT := true, spWait := true, ar := true, jn := true, rb := true, lk := true, qm := true, cm := true, hc := true, dm := true, bm := true, mem := true, mc := true, bt := true, r4 := true, rmd := true, rbt := true, rpw := true, rsf := true } M = true) (h0 : Fr M z s) :
    Fr M z (State.xferDone s n) := by
  refine Fr.via ?_ hm h0
  unfold State.xferDone
  repeat' first
    | with_reducible exact Fr.refl _ _
    | with_reducible refine Fr.ite ?_ ?_
    | with_reducible refine State.chanSweep_fr (by decide) ?_
    | with_reducible refine State.cmdUp_fr (by decide) ?_
    | with_reducible refine State.dClear_fr (by decide) ?_
    | with_reducible refine State.dataReady_fr (by decide) ?_
    | with_reducible refine State.sentAll_fr (by decide) ?_
    | with_reducible refine State.xferOn_fr (by decide) ?_
    | split
    | (apply Fr.leafB <;> first | rfl | exact .inl rfl | exact .inr rfl | guard_target =~ Fr _ _ _)

theorem State.xferCheck_fr {M : Mask} {z s : State} {n : Nat} (hm : Mask.le { sent := true, ev := true, unitT := true, ft := true, pw := true, md := true, chT := true, ldT := true, actT := true, spT := true, spWait := true, ar := true, jn := true, rb := true, lk := true, qm := true, cm := true, hc := true, dm := true, bm := true, mem := true, mc := true, bt := true, r4 := true, rmd := true, rbt := true, rpw := true, rsf := true } M = true) (h0 : Fr M z s) :
    Fr M z (State.xferCheck s n) := by
  refine Fr.via ?_ hm h0
  unfold State.xferCheck
  repeat' first
    | with_reducible exact Fr.refl _ _
    | with_reducible refine State.dCheck_fr (by decide) ?_
    | with_reducible refine State.xferDone_fr (by decide) ?_
    | with_reducible refine Fr.snd (by assumption) ?_
    | split

theorem State.fetch_fr {M : Mask} {z s : State} {c : Cmd} (hm : Mask.le { sent := true, ev := true, unitT := true, ft := true, pw := true, md := true, chT := true, actT := true, spT := true, spWait := true, ar := true, jn := true, rb := true, lk := true, qm := true, cm := true, hc := true, dm := true, bm := true, mem := true, mc := true, bt := true, r4 := true, rmd := true, rbt := true, rpw := true, rsf := true } M = true) (h0 : Fr M z s) :
    Fr M z (State.fetch s c) := by
  refine Fr.via ?_ hm h0
  unfold State.fetch
  repeat' first
    | with_reducible exact Fr.refl _ _
    | with_reducible refine Fr.ite ?_ ?_
    | with_reducible refine State.cmdUp_fr (by decide) ?_
    | with_reducible refine State.dataReady_fr (by decide) ?_
    | with_reducible refine State.xferStart_fr (by decide) ?_

theorem State.give_fr {M : Mask} {z s : State} {id : Nat} {data : Nat} {result : Nat} (hm : Mask.le { sent := true, ev := true, unitT := true, ft := true, pw := true, md := true, chT := true, actT := true, spT := true, spWait := true, ar := true, jn := true, rb := true, lk := true, qm := true, cm := true, hc := true, dm := true, bm := true, mem := true, mc := true, r4 := true, rmd := true, rpw := true } M = true) (h0 : Fr M z s) :
    Fr M z (State.give s id data result) := by
  refine Fr.via ?_ hm h0
  unfold State.give
  repeat' first
    | with_reducible exact Fr.refl _ _
    | with_reducible refine State.cmdUp_fr (by decide) ?_
    | with_reducible refine State.xferStart_fr (by decide) ?_

theorem State.start_fr {M : Mask} {z s : State} {id : Nat} (hm : Mask.le { cm := true } M = true) (h0 : Fr M z s) :
    Fr M z (State.start s id) := by
  refine Fr.via ?_ hm h0
  unfold State.start
  repeat' first
    | with_reducible exact Fr.refl _ _
    | with_reducible refine State.cmdUp_fr (by decide) ?_

theorem State.onReady_fr {M : Mask} {z s : State} {id opc : Nat} {f : Cmd → State} (hf : ∀ c, Fr M z (f c)) (h0 : Fr M z s) :
    Fr M z (s.onReady id opc f) := by
  unfold State.onReady
  split
  · exact hf _
  · exact h0

theorem execRead_fr {s : State} {id : Nat} {ce : Nat} {lost : List (Nat × Bool)} : FrO { sent := true, ev := true, unitT := true, ft := true, pw := true, md := true, chT := true, ldT := true, actT := true, spT := true, spWait := true, ar := true, jn := true, rb := true, lk := true, qm := true, cm := true, hc := true, dm := true, bm := true, mem := true, mc := true, r4 := true, rmd := true, rpw := true } s (execRead id ce lost s) := by
  unfold execRead
  repeat' first
    | with_reducible exact Fr.refl _ _
    | with_reducible refine FrO.next ?_
    | with_reducible refine State.jdRead_fr (by decide) ?_
    | with_reducible refine State.onReady_fr (fun _ => ?_) ?_
    | with_reducible refine State.opRead_fr (by decide) ?_

theorem execWrite_fr {s : State} {id : Nat} : FrO { sent := true, ev := true, unitT := true, ft := true, pw := true, md := true, chT := true, actT := true, spT := true, spWait := true, ar := true, jn := true, rb := true, lk := true, qm := true, cm := true, hc := true, dm := true, bm := true, mem := true, mc := true, bt := true, r4 := true, rmd := true, rbt := true, rpw := true, rsf := true } s (execWrite id s) := by
  unfold execWrite
  repeat' first
    | with_reducible exact Fr.refl _ _
    | with_reducible refine FrO.next ?_
    | with_reducible refine State.fetch_fr (by decide) ?_
    | with_reducible refine State.onReady_fr (fun _ => ?_) ?_

theorem execReadStream_fr {s : State} {id : Nat} : FrO { sent := true, ev := true, unitT := true, ft := true, pw := true, md := true, chT := true, ldT := true, actT := true, spT := true, spWait := true, ar := true, jn := true, rb := true, lk := true, qm := true, cm := true, hc := true, dm := true, bm := true, mem := true, mc := true, r4 := true, rmd := true, rpw := true } s (execReadStream id s) := by
  unfold execReadStream
  repeat' first
    | with_reducible exact Fr.refl _ _
    | with_reducible refine FrO.next ?_
    | with_reducible refine State.onReady_fr (fun _ => ?_) ?_
    | with_reducible refine State.opRead_fr (by decide) ?_

theorem execFlush_fr {s : State} {id : Nat} : FrO { cm := true, bm := true, mem := true, mc := true } s (execFlush id s) := by
  unfold execFlush
  repeat' first
    | with_reducible exact Fr.refl _ _
    | with_reducible refine FrO.next ?_
    | with_reducible refine State.flushDone_fr (by decide) ?_
    | with_reducible refine State.onReady_fr (fun _ => ?_) ?_
    | with_reducible refine State.start_fr (by decide) ?_

theorem execFlushDone_fr {s : State} {id : Nat} : FrO { cm := true, bm := true, mem := true, mc := true } s (execFlushDone id s) := by
  unfold execFlushDone
  repeat' first
    | with_reducible exact Fr.refl _ _
    | with_reducible refine FrO.next ?_
    | with_reducible refine Fr.ite ?_ ?_
    | with_reducible refine State.flushDone_fr (by decide) ?_

theorem execVerify_fr {s : State} {id : Nat} : FrO { sent := true, ev := true, unitT := true, ft := true, pw := true, md := true, chT := true, ldT := true, actT := true, spT := true, spWait := true, ar := true, jn := true, rb := true, lk := true, qm := true, cm := true, hc := true, dm := true, bm := true, mem := true, mc := true, r4 := true, rmd := true, rpw := true } s (execVerify id s) := by
  unfold execVerify
  repeat' first
    | with_reducible exact Fr.refl _ _
    | with_reducible refine FrO.next ?_
    | with_reducible refine State.onReady_fr (fun _ => ?_) ?_
    | with_reducible refine State.opRead_fr (by decide) ?_

theorem execDeallocate_fr {s : State} {id : Nat} : FrO { sent := true, ev := true, unitT := true, ft := true, pw := true, md := true, chT := true, actT := true, spT := true, spWait := true, ar := true, jn := true, rb := true, lk := true, qm := true, cm := true, hc := true, dm := true, bm := true, mem := true, mc := true, bt := true, r4 := true, rmd := true, rbt := true, rpw := true, rsf := true } s (execDeallocate id s) := by
  unfold execDeallocate
  repeat' first
    | with_reducible exact Fr.refl _ _
    | with_reducible refine FrO.next ?_
    | with_reducible refine State.fetch_fr (by decide) ?_
    | with_reducible refine State.onReady_fr (fun _ => ?_) ?_

theorem execWriteZeroes_fr {s : State} {id : Nat} : FrO { sent := true, ev := true, unitT := true, ft := true, pw := true, md := true, chT := true, actT := true, spT := true, spWait := true, ar := true, jn := true, rb := true, lk := true, cm := true, hc := true, bm := true, mem := true, mc := true, r4 := true, rmd := true, rpw := true } s (execWriteZeroes id s) := by
  unfold execWriteZeroes
  repeat' first
    | with_reducible exact Fr.refl _ _
    | with_reducible refine FrO.next ?_
    | with_reducible refine State.journal_fr (by decide) ?_
    | with_reducible refine State.onReady_fr (fun _ => ?_) ?_
    | with_reducible refine State.start_fr (by decide) ?_

theorem execVolDefine_fr {s : State} {id : Nat} : FrO { sent := true, ev := true, unitT := true, ft := true, pw := true, md := true, chT := true, actT := true, spT := true, spWait := true, ar := true, jn := true, rb := true, lk := true, qm := true, cm := true, hc := true, dm := true, bm := true, mem := true, mc := true, bt := true, r4 := true, rmd := true, rbt := true, rpw := true, rsf := true } s (execVolDefine id s) := by
  unfold execVolDefine
  repeat' first
    | with_reducible exact Fr.refl _ _
    | with_reducible refine FrO.next ?_
    | with_reducible refine State.fetch_fr (by decide) ?_
    | with_reducible refine State.onReady_fr (fun _ => ?_) ?_

theorem execVolEnable_fr {s : State} {id : Nat} : FrO { cm := true, bm := true, mem := true, mc := true } s (execVolEnable id s) := by
  unfold execVolEnable
  repeat' first
    | with_reducible exact Fr.refl _ _
    | with_reducible refine FrO.next ?_
    | with_reducible refine State.cmU_fr (by decide) ?_
    | with_reducible refine State.enableFn_fr (by decide) ?_
    | with_reducible refine State.onReady_fr (fun _ => ?_) ?_
    | with_reducible refine State.start_fr (by decide) ?_
    | with_reducible refine State.volWaits_fr (by decide) ?_

theorem execVolDisable_fr {s : State} {id : Nat} : FrO { cm := true, bm := true, mem := true, mc := true } s (execVolDisable id s) := by
  unfold execVolDisable
  repeat' first
    | with_reducible exact Fr.refl _ _
    | with_reducible refine FrO.next ?_
    | with_reducible refine State.cmU_fr (by decide) ?_
    | with_reducible refine State.disableFn_fr (by decide) ?_
    | with_reducible refine State.onReady_fr (fun _ => ?_) ?_
    | with_reducible refine State.start_fr (by decide) ?_
    | with_reducible refine State.volWaits_fr (by decide) ?_

theorem execPatternLoad_fr {s : State} {id : Nat} : FrO { sent := true, ev := true, unitT := true, ft := true, pw := true, md := true, chT := true, actT := true, spT := true, spWait := true, ar := true, jn := true, rb := true, lk := true, qm := true, cm := true, hc := true, dm := true, bm := true, mem := true, mc := true, bt := true, r4 := true, rmd := true, rbt := true, rpw := true, rsf := true } s (execPatternLoad id s) := by
  unfold execPatternLoad
  repeat' first
    | with_reducible exact Fr.refl _ _
    | with_reducible refine FrO.next ?_
    | with_reducible refine State.fetch_fr (by decide) ?_
    | with_reducible refine State.onReady_fr (fun _ => ?_) ?_

theorem execMemberFail_fr {s : State} {id : Nat} : FrO { sent := true, ev := true, unitT := true, ft := true, pw := true, md := true, chT := true, ldT := true, actT := true, spT := true, spWait := true, ar := true, jn := true, rb := true, lk := true, qm := true, cm := true, hc := true, dm := true, bm := true, mem := true, mc := true, r4 := true, rmd := true, rpw := true } s (execMemberFail id s) := by
  unfold execMemberFail
  repeat' first
    | with_reducible exact Fr.refl _ _
    | with_reducible refine FrO.next ?_
    | with_reducible refine State.onReady_fr (fun _ => ?_) ?_
    | with_reducible refine State.opDone_fr (by decide) ?_
    | with_reducible refine State.rbFail_fr (by decide) ?_
    | with_reducible refine State.start_fr (by decide) ?_

theorem execMemberClear_fr {s : State} {id : Nat} : FrO { sent := true, ev := true, ar := true, rb := true, lk := true, cm := true, bm := true, mem := true, mc := true } s (execMemberClear id s) := by
  unfold execMemberClear
  repeat' first
    | with_reducible exact Fr.refl _ _
    | with_reducible refine FrO.next ?_
    | with_reducible refine State.onReady_fr (fun _ => ?_) ?_
    | with_reducible refine State.opDone_fr (by decide) ?_
    | with_reducible refine State.rbClear_fr (by decide) ?_
    | with_reducible refine State.start_fr (by decide) ?_

theorem execReshape_fr {s : State} {id : Nat} : FrO { rb := true, cm := true, bm := true, mem := true, mc := true } s (execReshape id s) := by
  unfold execReshape
  repeat' first
    | with_reducible exact Fr.refl _ _
    | with_reducible refine FrO.next ?_
    | with_reducible refine State.onReady_fr (fun _ => ?_) ?_
    | with_reducible refine State.opDone_fr (by decide) ?_
    | with_reducible refine State.rbReshape_fr (by decide) ?_
    | with_reducible refine State.start_fr (by decide) ?_

theorem execReshapePause_fr {s : State} {id : Nat} : FrO { rb := true, cm := true, bm := true, mem := true, mc := true } s (execReshapePause id s) := by
  unfold execReshapePause
  repeat' first
    | with_reducible exact Fr.refl _ _
    | with_reducible refine FrO.next ?_
    | with_reducible refine State.cmU_fr (by decide) ?_
    | with_reducible refine State.complete_fr (by decide) ?_
    | with_reducible refine State.onReady_fr (fun _ => ?_) ?_
    | with_reducible refine State.rbPause_fr (by decide) ?_
    | with_reducible refine State.start_fr (by decide) ?_
    | with_reducible refine Fr.snd (by assumption) ?_
    | split

theorem execReshapeResume_fr {s : State} {id : Nat} : FrO { rb := true, cm := true, bm := true, mem := true, mc := true } s (execReshapeResume id s) := by
  unfold execReshapeResume
  repeat' first
    | with_reducible exact Fr.refl _ _
    | with_reducible refine FrO.next ?_
    | with_reducible refine State.onReady_fr (fun _ => ?_) ?_
    | with_reducible refine State.opDone_fr (by decide) ?_
    | with_reducible refine State.rbResume_fr (by decide) ?_
    | with_reducible refine State.start_fr (by decide) ?_

theorem execForfeitClear_fr {s : State} {id : Nat} : FrO { rb := true, cm := true, bm := true, mem := true, mc := true } s (execForfeitClear id s) := by
  unfold execForfeitClear
  repeat' first
    | with_reducible exact Fr.refl _ _
    | with_reducible refine FrO.next ?_
    | with_reducible refine State.onReady_fr (fun _ => ?_) ?_
    | with_reducible refine State.opDone_fr (by decide) ?_
    | with_reducible refine State.rbFtClear_fr (by decide) ?_
    | with_reducible refine State.start_fr (by decide) ?_

theorem execVolForget_fr {s : State} {id : Nat} : FrO { rb := true, cm := true, bm := true, mem := true, mc := true } s (execVolForget id s) := by
  unfold execVolForget
  repeat' first
    | with_reducible exact Fr.refl _ _
    | with_reducible refine FrO.next ?_
    | with_reducible refine State.onReady_fr (fun _ => ?_) ?_
    | with_reducible refine State.opDone_fr (by decide) ?_
    | with_reducible refine State.rbForget_fr (by decide) ?_
    | with_reducible refine State.start_fr (by decide) ?_

theorem execIdentify_fr {s : State} {id : Nat} : FrO { sent := true, ev := true, unitT := true, ft := true, pw := true, md := true, chT := true, actT := true, spT := true, spWait := true, ar := true, jn := true, rb := true, lk := true, qm := true, cm := true, hc := true, dm := true, bm := true, mem := true, mc := true, r4 := true, rmd := true, rpw := true } s (execIdentify id s) := by
  unfold execIdentify
  repeat' first
    | with_reducible exact Fr.refl _ _
    | with_reducible refine FrO.next ?_
    | with_reducible refine State.give_fr (by decide) ?_
    | with_reducible refine State.onReady_fr (fun _ => ?_) ?_

theorem execQueueCreate_fr {s : State} {id : Nat} : FrO { sent := true, ev := true, unitT := true, ft := true, pw := true, md := true, chT := true, actT := true, spT := true, spWait := true, ar := true, jn := true, rb := true, lk := true, qm := true, cm := true, hc := true, dm := true, bm := true, mem := true, mc := true, bt := true, r4 := true, rmd := true, rbt := true, rpw := true, rsf := true } s (execQueueCreate id s) := by
  unfold execQueueCreate
  repeat' first
    | with_reducible exact Fr.refl _ _
    | with_reducible refine FrO.next ?_
    | with_reducible refine Fr.ite ?_ ?_
    | with_reducible refine State.complete_fr (by decide) ?_
    | with_reducible refine State.fetch_fr (by decide) ?_
    | with_reducible refine State.onReady_fr (fun _ => ?_) ?_

theorem State.deleteCheck_fr {M : Mask} {z s : State} {id : Nat} {q : Nat} (hm : Mask.le { qm := true, cm := true, bm := true, mem := true, mc := true } M = true) (h0 : Fr M z s) :
    Fr M z (State.deleteCheck s id q) := by
  refine Fr.via ?_ hm h0
  unfold State.deleteCheck
  repeat' first
    | with_reducible exact Fr.refl _ _
    | with_reducible refine Fr.ite ?_ ?_
    | with_reducible refine State.cmU_fr (by decide) ?_
    | with_reducible refine State.complete_fr (by decide) ?_
    | with_reducible refine State.deleteStep_fr (by decide) ?_

theorem execQueueDelete_fr {s : State} {id : Nat} : FrO { sent := true, ev := true, unitT := true, ft := true, pw := true, md := true, chT := true, actT := true, spT := true, spWait := true, ar := true, jn := true, rb := true, lk := true, qm := true, cm := true, hc := true, bm := true, mem := true, mc := true, r4 := true, rmd := true, rpw := true } s (execQueueDelete id s) := by
  unfold execQueueDelete
  repeat' first
    | with_reducible exact Fr.refl _ _
    | with_reducible refine FrO.next ?_
    | with_reducible refine Fr.ite ?_ ?_
    | with_reducible refine State.cmU_fr (by decide) ?_
    | with_reducible refine State.complete_fr (by decide) ?_
    | with_reducible refine State.ctxLoad_fr (by decide) ?_
    | with_reducible refine State.deleteCheck_fr (by decide) ?_
    | with_reducible refine State.deleteStart_fr (by decide) ?_
    | with_reducible refine State.onReady_fr (fun _ => ?_) ?_
    | with_reducible refine State.start_fr (by decide) ?_

theorem execQueueDeleteDone_fr {s : State} {id : Nat} : FrO { qm := true, cm := true, bm := true, mem := true, mc := true } s (execQueueDeleteDone id s) := by
  unfold execQueueDeleteDone
  repeat' first
    | with_reducible exact Fr.refl _ _
    | with_reducible refine FrO.next ?_
    | with_reducible refine Fr.ite ?_ ?_
    | with_reducible refine State.deleteCheck_fr (by decide) ?_

theorem execGetLog_fr {s : State} {id : Nat} : FrO { sent := true, ev := true, unitT := true, ft := true, pw := true, md := true, chT := true, actT := true, spT := true, spWait := true, ar := true, jn := true, rb := true, lk := true, qm := true, cm := true, hc := true, dm := true, bm := true, mem := true, mc := true, r4 := true, rmd := true, rpw := true } s (execGetLog id s) := by
  unfold execGetLog
  repeat' first
    | with_reducible exact Fr.refl _ _
    | with_reducible refine FrO.next ?_
    | with_reducible refine State.complete_fr (by decide) ?_
    | with_reducible refine State.give_fr (by decide) ?_
    | with_reducible refine State.onReady_fr (fun _ => ?_) ?_
    | split

theorem execSetFeature_fr {s : State} {id : Nat} : FrO { md := true, cm := true, bm := true, mem := true, mc := true, rmd := true, rbt := true, rpw := true, rsf := true } s (execSetFeature id s) := by
  unfold execSetFeature
  repeat' first
    | with_reducible exact Fr.refl _ _
    | with_reducible refine FrO.next ?_
    | with_reducible refine State.complete_fr (by decide) ?_
    | with_reducible refine State.onReady_fr (fun _ => ?_) ?_
    | with_reducible refine State.plainWrite_fr (by decide) ?_
    | split

theorem execGetFeature_fr {s : State} {id : Nat} : FrO { cm := true, bm := true, mem := true, mc := true } s (execGetFeature id s) := by
  unfold execGetFeature
  repeat' first
    | with_reducible exact Fr.refl _ _
    | with_reducible refine FrO.next ?_
    | with_reducible refine State.complete_fr (by decide) ?_
    | with_reducible refine State.onReady_fr (fun _ => ?_) ?_
    | split

theorem execFwStage_fr {s : State} {id : Nat} : FrO { sent := true, ev := true, unitT := true, ft := true, pw := true, md := true, chT := true, actT := true, spT := true, spWait := true, ar := true, jn := true, rb := true, lk := true, qm := true, cm := true, hc := true, dm := true, bm := true, mem := true, mc := true, bt := true, r4 := true, rmd := true, rbt := true, rpw := true, rsf := true } s (execFwStage id s) := by
  unfold execFwStage
  repeat' first
    | with_reducible exact Fr.refl _ _
    | with_reducible refine FrO.next ?_
    | with_reducible refine State.fetch_fr (by decide) ?_
    | with_reducible refine State.onReady_fr (fun _ => ?_) ?_

theorem execFwActivate_fr {s : State} {id : Nat} : FrO { cm := true, bm := true, mem := true, mc := true, bt := true } s (execFwActivate id s) := by
  unfold execFwActivate
  repeat' first
    | with_reducible exact Fr.refl _ _
    | with_reducible refine FrO.next ?_
    | with_reducible refine Fr.ite ?_ ?_
    | with_reducible refine State.btU_fr (by decide) (by first | exact .inl rfl | exact .inr rfl | (split <;> exact .inr rfl)) (by first | exact .inl rfl | exact .inr rfl | (split <;> exact .inr rfl)) (by first | exact .inl rfl | exact .inr rfl | (split <;> exact .inr rfl)) ?_
    | with_reducible refine State.cmU_fr (by decide) ?_
    | with_reducible refine State.complete_fr (by decide) ?_
    | with_reducible refine State.onReady_fr (fun _ => ?_) ?_
    | with_reducible refine State.start_fr (by decide) ?_
    | with_reducible refine Fr.pB ?_ ?_
    | split
    | exact Mask.okHigh (Nat.le_of_ble_eq_true rfl)
    | (apply Fr.leafB <;> first | rfl | exact .inl rfl | exact .inr rfl | guard_target =~ Fr _ _ _)

theorem execAttest_fr {s : State} {id : Nat} : FrO { sent := true, ev := true, unitT := true, ft := true, pw := true, md := true, chT := true, actT := true, spT := true, spWait := true, ar := true, jn := true, rb := true, lk := true, qm := true, cm := true, hc := true, dm := true, bm := true, mem := true, mc := true, bt := true, r4 := true, rmd := true, rbt := true, rpw := true, rsf := true } s (execAttest id s) := by
  unfold execAttest
  repeat' first
    | with_reducible exact Fr.refl _ _
    | with_reducible refine FrO.next ?_
    | with_reducible refine State.fetch_fr (by decide) ?_
    | with_reducible refine State.onReady_fr (fun _ => ?_) ?_

theorem execAttestDone_fr {s : State} : FrO { sent := true, ev := true, unitT := true, ft := true, pw := true, md := true, chT := true, ldT := true, actT := true, spT := true, spWait := true, ar := true, jn := true, rb := true, lk := true, qm := true, cm := true, hc := true, dm := true, bm := true, mem := true, mc := true, bt := true, r4 := true, rmd := true, rbt := true, rpw := true } s (execAttestDone s) := by
  unfold execAttestDone
  repeat' first
    | with_reducible exact Fr.refl _ _
    | with_reducible refine FrO.next ?_
    | with_reducible refine State.btU_fr (by decide) (by first | exact .inl rfl | exact .inr rfl | (split <;> exact .inr rfl)) (by first | exact .inl rfl | exact .inr rfl | (split <;> exact .inr rfl)) (by first | exact .inl rfl | exact .inr rfl | (split <;> exact .inr rfl)) ?_
    | with_reducible refine State.chanSweep_fr (by decide) ?_
    | with_reducible refine State.give_fr (by decide) ?_
    | with_reducible refine Fr.pB ?_ ?_
    | split
    | (unfold Mask.ok; decide)

theorem execKeyEnroll_fr {s : State} {id : Nat} : FrO { sent := true, ev := true, unitT := true, ft := true, pw := true, md := true, chT := true, actT := true, spT := true, spWait := true, ar := true, jn := true, rb := true, lk := true, qm := true, cm := true, hc := true, dm := true, bm := true, mem := true, mc := true, bt := true, r4 := true, rmd := true, rbt := true, rpw := true, rsf := true } s (execKeyEnroll id s) := by
  unfold execKeyEnroll
  repeat' first
    | with_reducible exact Fr.refl _ _
    | with_reducible refine FrO.next ?_
    | with_reducible refine Fr.ite ?_ ?_
    | with_reducible refine State.complete_fr (by decide) ?_
    | with_reducible refine State.fetch_fr (by decide) ?_
    | with_reducible refine State.onReady_fr (fun _ => ?_) ?_

theorem execMicroLoad_fr {s : State} {id : Nat} : FrO { sent := true, ev := true, unitT := true, ft := true, pw := true, md := true, chT := true, actT := true, spT := true, spWait := true, ar := true, jn := true, rb := true, lk := true, qm := true, cm := true, hc := true, dm := true, bm := true, mem := true, mc := true, bt := true, r4 := true, rmd := true, rbt := true, rpw := true, rsf := true } s (execMicroLoad id s) := by
  unfold execMicroLoad
  repeat' first
    | with_reducible exact Fr.refl _ _
    | with_reducible refine FrO.next ?_
    | with_reducible refine Fr.ite ?_ ?_
    | with_reducible refine State.complete_fr (by decide) ?_
    | with_reducible refine State.fetch_fr (by decide) ?_
    | with_reducible refine State.onReady_fr (fun _ => ?_) ?_

theorem State.intTrap_fr {M : Mask} {z s : State} {id : Nat} {cause : Nat} (hm : Mask.le { mc := true } M = true) (h0 : Fr M z s) :
    Fr M z (State.intTrap s id cause).2 := by
  refine Fr.via ?_ hm h0
  unfold State.intTrap
  repeat' first
    | with_reducible exact Fr.refl _ _
    | with_reducible refine Fr.ite2 ?_ ?_
    | with_reducible refine State.trapCtx_fr (by decide) ?_
    | split

theorem State.endCmd_fr {M : Mask} {z s : State} {id : Nat} {status : Nat} {flags : Nat} (hm : Mask.le { jn := true, cm := true, bm := true, mem := true, mc := true } M = true) (h0 : Fr M z s) :
    Fr M z (State.endCmd s id status flags) := by
  refine Fr.via ?_ hm h0
  unfold State.endCmd
  repeat' first
    | with_reducible exact Fr.refl _ _
    | with_reducible refine Fr.ite ?_ ?_
    | with_reducible refine State.cmdUp_fr (by decide) ?_
    | with_reducible refine State.complete_fr (by decide) ?_
    | with_reducible refine State.cutOff_fr (by decide) ?_

theorem execAbort_fr {s : State} {id : Nat} : FrO { sent := true, ev := true, unitT := true, ft := true, pw := true, md := true, chT := true, ldT := true, actT := true, spT := true, spWait := true, ar := true, jn := true, rb := true, lk := true, qm := true, cm := true, hc := true, dm := true, bm := true, mem := true, mc := true, r4 := true, rmd := true, rpw := true } s (execAbort id s) := by
  unfold execAbort
  repeat' first
    | with_reducible exact Fr.refl _ _
    | with_reducible refine FrO.next ?_
    | with_reducible refine Fr.ite ?_ ?_
    | with_reducible refine State.chanSweep_fr (by decide) ?_
    | with_reducible refine State.complete_fr (by decide) ?_
    | with_reducible refine State.endCmd_fr (by decide) ?_
    | with_reducible refine State.heldRetry_fr (by decide) ?_
    | with_reducible refine State.intTrap_fr (by decide) ?_
    | with_reducible refine State.onReady_fr (fun _ => ?_) ?_
    | with_reducible refine Fr.snd (by assumption) ?_
    | split

theorem execActuatorSchedule_fr {s : State} {a : Fin 8} {est : List (Nat × Nat × Nat)} {bg : Option (Bool × Nat)} : FrO { rb := true, cm := true } s (execActuatorSchedule a est bg s) := by
  unfold execActuatorSchedule
  repeat' first
    | with_reducible exact Fr.refl _ _
    | with_reducible refine FrO.next ?_
    | with_reducible refine Fr.ite ?_ ?_
    | with_reducible refine State.cmU_fr (by decide) ?_
    | with_reducible refine State.rbU_fr (by decide) ?_
    | with_reducible refine State.slowArm_fr (by decide) ?_
    | split
    | (apply Fr.leafB <;> first | rfl | exact .inl rfl | exact .inr rfl | guard_target =~ Fr _ _ _)

theorem State.seekFailed_fr {M : Mask} {z s : State} {a : Nat} (hm : Mask.le { sent := true, ev := true, lk := true, cm := true } M = true) (h0 : Fr M z s) :
    Fr M z (State.seekFailed s a) := by
  refine Fr.via ?_ hm h0
  unfold State.seekFailed
  repeat' first
    | with_reducible exact Fr.refl _ _
    | with_reducible refine Fr.ite ?_ ?_
    | with_reducible refine State.askRecon_fr (by decide) ?_
    | with_reducible refine State.cmU_fr (by decide) ?_
    | with_reducible refine State.note_fr (by decide) ?_ ?_
    | with_reducible refine State.sat_fr (by decide) ?_ ?_
    | with_reducible refine State.schedDone_fr (by decide) ?_
    | with_reducible refine Fr.each (fun _ _ => ?_) ?_
    | exact Mask.okHigh (Nat.le_of_ble_eq_true rfl)

theorem execDeadlineExpiry_fr {s : State} {id : Nat} : FrO { sent := true, ev := true, unitT := true, ft := true, pw := true, md := true, chT := true, ldT := true, actT := true, spT := true, spWait := true, ar := true, jn := true, rb := true, lk := true, qm := true, cm := true, hc := true, dm := true, bm := true, mem := true, mc := true, r4 := true, rmd := true, rpw := true } s (execDeadlineExpiry id s) := by
  unfold execDeadlineExpiry
  repeat' first
    | with_reducible exact Fr.refl _ _
    | with_reducible refine FrO.next ?_
    | with_reducible refine Fr.ite ?_ ?_
    | with_reducible refine State.chanSweep_fr (by decide) ?_
    | with_reducible refine State.cmU_fr (by decide) ?_
    | with_reducible refine State.complete_fr (by decide) ?_
    | with_reducible refine State.sat_fr (by decide) ?_ ?_
    | exact Mask.okHigh (Nat.le_of_ble_eq_true rfl)

theorem State.cmReset_fr {M : Mask} {z s : State} (hm : Mask.le { sent := true, ev := true, lk := true, cm := true } M = true) (h0 : Fr M z s) :
    Fr M z (State.cmReset s) := by
  refine Fr.via ?_ hm h0
  unfold State.cmReset
  repeat' first
    | with_reducible exact Fr.refl _ _
    | with_reducible refine Fr.ite ?_ ?_
    | with_reducible refine State.cmResetStart_fr (by decide) ?_
    | with_reducible refine State.off_fr (by decide) ?_ ?_
    | with_reducible refine Fr.pB ?_ ?_
    | exact Mask.okHigh (Nat.le_of_ble_eq_true rfl)

theorem execCmReset_fr {s : State} : FrO { sent := true, ev := true, lk := true, cm := true } s (execCmReset s) := by
  unfold execCmReset
  repeat' first
    | with_reducible exact Fr.refl _ _
    | with_reducible refine FrO.next ?_
    | with_reducible refine State.cmReset_fr (by decide) ?_

theorem State.ctxSweep_fr {M : Mask} {z s : State} (hm : Mask.le { lk := true, dm := true, mc := true } M = true) (h0 : Fr M z s) :
    Fr M z (State.ctxSweep s) := by
  refine Fr.via ?_ hm h0
  unfold State.ctxSweep
  repeat' first
    | with_reducible exact Fr.refl _ _
    | with_reducible refine State.dRelease_fr (by decide) ?_
    | with_reducible refine State.mcU_fr (by decide) ?_
    | with_reducible refine Fr.pB ?_ ?_
    | with_reducible refine Fr.each (fun _ _ => ?_) ?_
    | exact Mask.okHigh (Nat.le_of_ble_eq_true rfl)

theorem State.endAll_fr {M : Mask} {z s : State} {status : Nat} {flags : Cmd → Nat} {but : Option Nat} (hm : Mask.le { sent := true, ev := true, unitT := true, ft := true, pw := true, md := true, chT := true, ldT := true, actT := true, spT := true, spWait := true, ar := true, jn := true, rb := true, lk := true, qm := true, cm := true, hc := true, dm := true, bm := true, mem := true, mc := true, r4 := true, rmd := true, rpw := true } M = true) (h0 : Fr M z s) :
    Fr M z (State.endAll s status flags but) := by
  refine Fr.via ?_ hm h0
  unfold State.endAll
  repeat' first
    | with_reducible exact Fr.refl _ _
    | with_reducible refine Fr.ite ?_ ?_
    | with_reducible refine State.chanSweep_fr (by decide) ?_
    | with_reducible refine State.cmU_fr (by decide) ?_
    | with_reducible refine State.ctxSweep_fr (by decide) ?_
    | with_reducible refine State.cutOff_fr (by decide) ?_
    | with_reducible refine State.endCmd_fr (by decide) ?_
    | with_reducible refine Fr.pB ?_ ?_
    | with_reducible refine Fr.each (fun _ _ => ?_) ?_
    | exact Mask.okHigh (Nat.le_of_ble_eq_true rfl)

theorem execCmResetComplete_fr {s : State} : FrO { sent := true, ev := true, unitT := true, ft := true, pw := true, md := true, chT := true, ldT := true, actT := true, spT := true, spWait := true, ar := true, jn := true, rb := true, lk := true, qm := true, cm := true, hc := true, dm := true, bm := true, mem := true, mc := true, r4 := true, rmd := true, rpw := true } s (execCmResetComplete s) := by
  unfold execCmResetComplete
  repeat' first
    | with_reducible exact Fr.refl _ _
    | with_reducible refine FrO.next ?_
    | with_reducible refine Fr.ite ?_ ?_
    | with_reducible refine State.cmU_fr (by decide) ?_
    | with_reducible refine State.cqHeld_fr (by decide) ?_
    | with_reducible refine State.endAll_fr (by decide) ?_
    | with_reducible refine State.mdU_fr (by decide) (by first | rfl | (split <;> rfl)) ?_
    | with_reducible refine State.off_fr (by decide) ?_ ?_
    | with_reducible refine State.on_fr (by decide) ?_ ?_
    | with_reducible refine State.qmU_fr (by decide) ?_
    | with_reducible refine State.sqError_fr (by decide) ?_
    | with_reducible refine Fr.each (fun _ _ => ?_) ?_
    | split
    | exact Mask.okHigh (Nat.le_of_ble_eq_true rfl)

theorem execCmShutdownLimit_fr {s : State} : FrO { sent := true, ev := true, unitT := true, ft := true, pw := true, md := true, chT := true, ldT := true, actT := true, spT := true, spWait := true, ar := true, jn := true, rb := true, lk := true, qm := true, cm := true, hc := true, dm := true, bm := true, mem := true, mc := true, r4 := true, rmd := true, rpw := true } s (execCmShutdownLimit s) := by
  unfold execCmShutdownLimit
  repeat' first
    | with_reducible exact Fr.refl _ _
    | with_reducible refine FrO.next ?_
    | with_reducible refine Fr.ite ?_ ?_
    | with_reducible refine State.endAll_fr (by decide) ?_
    | with_reducible refine State.off_fr (by decide) ?_ ?_
    | with_reducible refine Fr.pB ?_ ?_
    | exact Mask.okHigh (Nat.le_of_ble_eq_true rfl)

theorem execActivationDrainLimit_fr {s : State} : FrO { sent := true, ev := true, unitT := true, ft := true, pw := true, md := true, chT := true, ldT := true, actT := true, spT := true, spWait := true, ar := true, jn := true, rb := true, lk := true, qm := true, cm := true, hc := true, dm := true, bm := true, mem := true, mc := true, r4 := true, rmd := true, rpw := true } s (execActivationDrainLimit s) := by
  unfold execActivationDrainLimit
  repeat' first
    | with_reducible exact Fr.refl _ _
    | with_reducible refine FrO.next ?_
    | with_reducible refine Fr.ite ?_ ?_
    | with_reducible refine State.cmU_fr (by decide) ?_
    | with_reducible refine State.endAll_fr (by decide) ?_

theorem State.custAfterSwitch_fr {M : Mask} {z s : State} (hm : Mask.le { mc := true } M = true) (h0 : Fr M z s) :
    Fr M z (State.custAfterSwitch s) := by
  refine Fr.via ?_ hm h0
  unfold State.custAfterSwitch
  repeat' first
    | with_reducible exact Fr.refl _ _
    | with_reducible refine Fr.ite ?_ ?_
    | with_reducible refine State.mcU_fr (by decide) ?_
    | with_reducible refine Fr.pB ?_ ?_
    | split
    | exact Mask.okHigh (Nat.le_of_ble_eq_true rfl)

theorem execActivationSwitch_fr {s : State} : FrO { sent := true, ev := true, unitT := true, ft := true, pw := true, md := true, chT := true, actT := true, spT := true, spWait := true, ar := true, jn := true, rb := true, lk := true, cm := true, hc := true, bm := true, mem := true, mc := true, bt := true, r4 := true, rmd := true, rbt := true, rpw := true, rsf := true } s (execActivationSwitch s) := by
  unfold execActivationSwitch
  repeat' first
    | with_reducible exact Fr.refl _ _
    | with_reducible refine FrO.next ?_
    | with_reducible refine Fr.ite ?_ ?_
    | with_reducible refine State.actSwitch_fr (by decide) ?_
    | with_reducible refine State.custAfterSwitch_fr (by decide) ?_
    | with_reducible refine Fr.pB ?_ ?_
    | split
    | exact Mask.okHigh (Nat.le_of_ble_eq_true rfl)

theorem State.qmKeep_fr {M : Mask} {z s : State} (hm : Mask.le { qm := true } M = true) (h0 : Fr M z s) :
    Fr M z (State.qmKeep s) := by
  refine Fr.via ?_ hm h0
  unfold State.qmKeep
  repeat' first
    | with_reducible exact Fr.refl _ _
    | with_reducible refine State.ovfFree_fr (by decide) ?_
    | with_reducible refine State.qmU_fr (by decide) ?_

theorem execActivationDone_fr {s : State} : FrO { sent := true, ev := true, md := true, lk := true, qm := true, cm := true, bm := true, mem := true, mc := true, bt := true, rbt := true } s (execActivationDone s) := by
  unfold execActivationDone
  repeat' first
    | with_reducible exact Fr.refl _ _
    | with_reducible refine FrO.next ?_
    | with_reducible refine Fr.ite ?_ ?_
    | with_reducible refine State.btU_fr (by decide) (by first | exact .inl rfl | exact .inr rfl | (split <;> exact .inr rfl)) (by first | exact .inl rfl | exact .inr rfl | (split <;> exact .inr rfl)) (by first | exact .inl rfl | exact .inr rfl | (split <;> exact .inr rfl)) ?_
    | with_reducible refine State.cmU_fr (by decide) ?_
    | with_reducible refine State.complete_fr (by decide) ?_
    | with_reducible refine State.mdU_fr (by decide) (by first | rfl | (split <;> rfl)) ?_
    | with_reducible refine State.note_fr (by decide) ?_ ?_
    | with_reducible refine State.off_fr (by decide) ?_ ?_
    | with_reducible refine State.qmKeep_fr (by decide) ?_
    | with_reducible refine Fr.pB ?_ ?_
    | split
    | exact Mask.okHigh (Nat.le_of_ble_eq_true rfl)
    | (unfold Mask.ok; decide)

theorem execDmaBurstDone_fr {s : State} {n : Fin 64} {data : BitVec 32768} {poison : Bool} : FrO { sent := true, ev := true, unitT := true, ft := true, pw := true, md := true, chT := true, ldT := true, actT := true, spT := true, spWait := true, ar := true, jn := true, rb := true, lk := true, qm := true, cm := true, hc := true, dm := true, bm := true, mem := true, mc := true, bt := true, r4 := true, rmd := true, rbt := true, rpw := true, rsf := true } s (execDmaBurstDone n data poison s) := by
  unfold execDmaBurstDone
  repeat' first
    | with_reducible exact Fr.refl _ _
    | with_reducible refine FrO.next ?_
    | with_reducible refine State.dBurst_fr (by decide) ?_
    | with_reducible refine State.xferDone_fr (by decide) ?_
    | with_reducible refine Fr.snd (by assumption) ?_
    | split

theorem State.faultEnd_fr {M : Mask} {z s : State} {n : Nat} (hm : Mask.le { sent := true, ev := true, unitT := true, ft := true, pw := true, md := true, chT := true, ldT := true, actT := true, spT := true, spWait := true, ar := true, jn := true, rb := true, lk := true, qm := true, cm := true, hc := true, dm := true, bm := true, mem := true, mc := true, r4 := true, rmd := true, rpw := true } M = true) (h0 : Fr M z s) :
    Fr M z (State.faultEnd s n) := by
  refine Fr.via ?_ hm h0
  unfold State.faultEnd
  repeat' first
    | with_reducible exact Fr.refl _ _
    | with_reducible refine State.chanSweep_fr (by decide) ?_
    | with_reducible refine State.cmdUp_fr (by decide) ?_
    | with_reducible refine State.complete_fr (by decide) ?_
    | with_reducible refine State.ctxSweep_fr (by decide) ?_
    | with_reducible refine State.dClear_fr (by decide) ?_
    | split
    | (apply Fr.leafB <;> first | rfl | exact .inl rfl | exact .inr rfl | guard_target =~ Fr _ _ _)

theorem State.guardAgain_fr {M : Mask} {z s : State} {n : Nat} (hm : Mask.le { sent := true, ev := true, unitT := true, ft := true, pw := true, md := true, chT := true, ldT := true, actT := true, spT := true, spWait := true, ar := true, jn := true, rb := true, lk := true, qm := true, cm := true, hc := true, dm := true, bm := true, mem := true, mc := true, r4 := true, rmd := true, rpw := true } M = true) (h0 : Fr M z s) :
    Fr M z (State.guardAgain s n) := by
  refine Fr.via ?_ hm h0
  unfold State.guardAgain
  repeat' first
    | with_reducible exact Fr.refl _ _
    | with_reducible refine Fr.ite ?_ ?_
    | with_reducible refine State.chanSweep_fr (by decide) ?_
    | with_reducible refine State.guardIn_fr (by decide) ?_
    | with_reducible refine State.guardSend_fr (by decide) ?_
    | split

theorem State.dResume_fr {M : Mask} {z s : State} {n : Nat} {fail : Bool} (hm : Mask.le { sent := true, ev := true, unitT := true, ft := true, pw := true, md := true, chT := true, ldT := true, actT := true, spT := true, spWait := true, ar := true, jn := true, rb := true, lk := true, qm := true, cm := true, hc := true, dm := true, bm := true, mem := true, mc := true, r4 := true, rmd := true, rpw := true } M = true) (h0 : Fr M z s) :
    Fr M z (State.dResume s n fail) := by
  refine Fr.via ?_ hm h0
  unfold State.dResume
  repeat' first
    | with_reducible exact Fr.refl _ _
    | with_reducible refine Fr.ite ?_ ?_
    | with_reducible refine State.dRetry_fr (by decide) ?_
    | with_reducible refine State.faultEnd_fr (by decide) ?_
    | with_reducible refine State.guardAgain_fr (by decide) ?_
    | with_reducible refine State.note_fr (by decide) ?_ ?_
    | with_reducible refine State.sat_fr (by decide) ?_ ?_
    | exact Mask.okHigh (Nat.le_of_ble_eq_true rfl)

theorem execDmResume_fr {s : State} {n : Fin 64} {fail : Bool} : FrO { sent := true, ev := true, unitT := true, ft := true, pw := true, md := true, chT := true, ldT := true, actT := true, spT := true, spWait := true, ar := true, jn := true, rb := true, lk := true, qm := true, cm := true, hc := true, dm := true, bm := true, mem := true, mc := true, r4 := true, rmd := true, rpw := true } s (execDmResume n fail s) := by
  unfold execDmResume
  repeat' first
    | with_reducible exact Fr.refl _ _
    | with_reducible refine FrO.next ?_
    | with_reducible refine State.dResume_fr (by decide) ?_

theorem execFaultTimerExpiry_fr {s : State} {n : Fin 64} : FrO { sent := true, ev := true, unitT := true, ft := true, pw := true, md := true, chT := true, ldT := true, actT := true, spT := true, spWait := true, ar := true, jn := true, rb := true, lk := true, qm := true, cm := true, hc := true, dm := true, bm := true, mem := true, mc := true, r4 := true, rmd := true, rpw := true } s (execFaultTimerExpiry n s) := by
  unfold execFaultTimerExpiry
  repeat' first
    | with_reducible exact Fr.refl _ _
    | with_reducible refine FrO.next ?_
    | with_reducible refine Fr.ite ?_ ?_
    | with_reducible refine State.faultEnd_fr (by decide) ?_
    | with_reducible refine State.note_fr (by decide) ?_ ?_
    | exact Mask.okHigh (Nat.le_of_ble_eq_true rfl)

end Sys2Proof.Machine
end

