-- ==== Sys2Proof/Laws/FrLink.lean ====
section
/-! SUPPORT. Laws/FrLink.lean: what each operation of Machine/Link.lean may touch: the lemma that later proofs cite in
place of unfolding it. -/

namespace Sys2Proof.Machine

open Reg

theorem State.ctxLoaded_fr {M : Mask} {z s : State} {n : Nat} {v : Nat} {err : Bool} (hm : Mask.le { mc := true } M = true) (h0 : Fr M z s) :
    Fr M z (State.ctxLoaded s n v err) := by
  refine Fr.via ?_ hm h0
  unfold State.ctxLoaded
  repeat' first
    | with_reducible exact Fr.refl _ _
    | with_reducible refine State.mcU_fr (by decide) ?_

theorem State.hostLoad_fr {M : Mask} {z s : State} {n : Nat} {addr : Nat} {size : Nat} (hm : Mask.le { sent := true, ev := true, lk := true, hc := true, mc := true } M = true) (h0 : Fr M z s) :
    Fr M z (State.hostLoad s n addr size) := by
  refine Fr.via ?_ hm h0
  unfold State.hostLoad
  repeat' first
    | with_reducible exact Fr.refl _ _
    | with_reducible refine Fr.ite ?_ ?_
    | with_reducible refine State.ctxLoaded_fr (by decide) ?_
    | with_reducible refine State.hcRead_fr (by decide) ?_
    | with_reducible refine State.hcTrack_fr (by decide) ?_
    | split

theorem State.wake_fr {M : Mask} {z s : State} {w : Waiter} (hm : Mask.le { sent := true, ev := true, unitT := true, ft := true, pw := true, md := true, chT := true, ldT := true, actT := true, spT := true, spWait := true, ar := true, jn := true, rb := true, lk := true, qm := true, cm := true, hc := true, dm := true, bm := true, mem := true, mc := true, bt := true, r4 := true, rmd := true, rbt := true, rpw := true, rsf := true } M = true) (h0 : Fr M z s) :
    Fr M z (State.wake s w) := by
  refine Fr.via ?_ hm h0
  unfold State.wake
  repeat' first
    | with_reducible exact Fr.refl _ _
    | with_reducible refine State.chanSweep_fr (by decide) ?_
    | with_reducible refine State.dGo_fr (by decide) ?_
    | with_reducible refine State.guardIn_fr (by decide) ?_
    | with_reducible refine State.hostLoad_fr (by decide) ?_
    | with_reducible refine State.xferCheck_fr (by decide) ?_
    | split

theorem State.wakeErr_fr {M : Mask} {z s : State} {w : Waiter} {xlat : Bool} {tmo : Bool} (hm : Mask.le { sent := true, ev := true, unitT := true, ft := true, pw := true, md := true, chT := true, ldT := true, actT := true, spT := true, spWait := true, ar := true, jn := true, rb := true, lk := true, qm := true, cm := true, hc := true, dm := true, bm := true, mem := true, mc := true, r4 := true, rmd := true, rpw := true } M = true) (h0 : Fr M z s) :
    Fr M z (State.wakeErr s w xlat tmo) := by
  refine Fr.via ?_ hm h0
  unfold State.wakeErr
  repeat' first
    | with_reducible exact Fr.refl _ _
    | with_reducible refine Fr.ite ?_ ?_
    | with_reducible refine State.chanSweep_fr (by decide) ?_
    | with_reducible refine State.complete_fr (by decide) ?_
    | with_reducible refine State.ctxLoaded_fr (by decide) ?_
    | with_reducible refine State.dFault_fr (by decide) ?_
    | with_reducible refine State.dFaultSettle_fr (by decide) ?_
    | with_reducible refine State.dHalt_fr (by decide) ?_
    | with_reducible refine State.dHostErr_fr (by decide) ?_
    | with_reducible refine State.sqError_fr (by decide) ?_
    | with_reducible refine State.sqNoRsp_fr (by decide) ?_
    | split

theorem State.hcRetry_fr {M : Mask} {z s : State} (hm : Mask.le { sent := true, ev := true, unitT := true, ft := true, pw := true, md := true, chT := true, ldT := true, actT := true, spT := true, spWait := true, ar := true, jn := true, rb := true, lk := true, qm := true, cm := true, hc := true, dm := true, bm := true, mem := true, mc := true, bt := true, r4 := true, rmd := true, rbt := true, rpw := true, rsf := true } M = true) (h0 : Fr M z s) :
    Fr M z (State.hcRetry s) := by
  refine Fr.via ?_ hm h0
  unfold State.hcRetry
  repeat' first
    | with_reducible exact Fr.refl _ _
    | with_reducible refine State.hcRead_fr (by decide) ?_
    | with_reducible refine State.hcServe_fr (by decide) ?_
    | with_reducible refine State.wake_fr (by decide) ?_
    | with_reducible refine Fr.each (fun _ _ => ?_) ?_
    | with_reducible refine Fr.snd (by assumption) ?_
    | split
    | (apply Fr.leafB <;> first | rfl | exact .inl rfl | exact .inr rfl | guard_target =~ Fr _ _ _)

theorem State.fillDone_fr {M : Mask} {z s : State} {line : Nat} {data : Nat} (hm : Mask.le { sent := true, ev := true, unitT := true, ft := true, pw := true, md := true, chT := true, ldT := true, actT := true, spT := true, spWait := true, ar := true, jn := true, rb := true, lk := true, qm := true, cm := true, hc := true, dm := true, bm := true, mem := true, mc := true, bt := true, r4 := true, rmd := true, rbt := true, rpw := true, rsf := true } M = true) (h0 : Fr M z s) :
    Fr M z (State.fillDone s line data) := by
  refine Fr.via ?_ hm h0
  unfold State.fillDone
  repeat' first
    | with_reducible exact Fr.refl _ _
    | with_reducible refine Fr.ite ?_ ?_
    | with_reducible refine State.hcDrop_fr (by decide) ?_
    | with_reducible refine State.hcOcc_fr (by decide) ?_
    | with_reducible refine State.hcPut_fr (by decide) ?_
    | with_reducible refine State.hcRetry_fr (by decide) ?_
    | with_reducible refine State.hcServe_fr (by decide) ?_
    | with_reducible refine State.maintDone_fr (by decide) ?_
    | with_reducible refine State.wake_fr (by decide) ?_
    | with_reducible refine Fr.each (fun _ _ => ?_) ?_
    | split

theorem State.fillErr_fr {M : Mask} {z s : State} {line : Nat} {pf : Bool} {xlat : Bool} {tmo : Bool} (hm : Mask.le { sent := true, ev := true, unitT := true, ft := true, pw := true, md := true, chT := true, ldT := true, actT := true, spT := true, spWait := true, ar := true, jn := true, rb := true, lk := true, qm := true, cm := true, hc := true, dm := true, bm := true, mem := true, mc := true, bt := true, r4 := true, rmd := true, rbt := true, rpw := true, rsf := true } M = true) (h0 : Fr M z s) :
    Fr M z (State.fillErr s line pf xlat tmo) := by
  refine Fr.via ?_ hm h0
  unfold State.fillErr
  repeat' first
    | with_reducible exact Fr.refl _ _
    | with_reducible refine Fr.ite ?_ ?_
    | with_reducible refine State.hcDrop_fr (by decide) ?_
    | with_reducible refine State.hcOcc_fr (by decide) ?_
    | with_reducible refine State.hcRead_fr (by decide) ?_
    | with_reducible refine State.hcRetry_fr (by decide) ?_
    | with_reducible refine State.maintDone_fr (by decide) ?_
    | with_reducible refine State.note_fr (by decide) ?_ ?_
    | with_reducible refine State.wakeErr_fr (by decide) ?_
    | with_reducible refine Fr.each (fun _ _ => ?_) ?_
    | split
    | exact Mask.okHigh (Nat.le_of_ble_eq_true rfl)

theorem State.wbOk_fr {M : Mask} {z s : State} {addr : Nat} {len : Nat} (hm : Mask.le { qm := true, cm := true, bm := true, mem := true } M = true) (h0 : Fr M z s) :
    Fr M z (State.wbOk s addr len) := by
  refine Fr.via ?_ hm h0
  unfold State.wbOk
  repeat' first
    | with_reducible exact Fr.refl _ _
    | with_reducible refine Fr.ite ?_ ?_
    | with_reducible refine State.cqPaid_fr (by decide) ?_
    | with_reducible refine State.cqrUp_fr (by decide) ?_
    | with_reducible refine Fr.each (fun _ _ => ?_) ?_

theorem State.wbFail_fr {M : Mask} {z s : State} {req : Nat} {addr : Nat} {len : Nat} {tmo : Bool} (hm : Mask.le { sent := true, ev := true, unitT := true, ft := true, pw := true, md := true, chT := true, ldT := true, actT := true, spT := true, spWait := true, ar := true, jn := true, rb := true, lk := true, qm := true, cm := true, hc := true, dm := true, bm := true, mem := true, mc := true, r4 := true, rmd := true, rpw := true } M = true) (h0 : Fr M z s) :
    Fr M z (State.wbFail s req addr len tmo) := by
  refine Fr.via ?_ hm h0
  unfold State.wbFail
  repeat' first
    | with_reducible exact Fr.refl _ _
    | with_reducible refine Fr.ite ?_ ?_
    | with_reducible refine State.chanSweep_fr (by decide) ?_
    | with_reducible refine State.complete_fr (by decide) ?_
    | with_reducible refine State.cqError_fr (by decide) ?_
    | with_reducible refine State.dHalt_fr (by decide) ?_
    | with_reducible refine State.mcU_fr (by decide) ?_
    | with_reducible refine State.sqError_fr (by decide) ?_
    | with_reducible refine State.sqNoRsp_fr (by decide) ?_
    | with_reducible refine Fr.each (fun _ _ => ?_) ?_
    | split

theorem State.wbFrame_fr {M : Mask} {z s : State} {id : Nat} (hm : Mask.le { sent := true, ev := true, lk := true, hc := true, mc := true } M = true) (h0 : Fr M z s) :
    Fr M z (State.wbFrame s id) := by
  refine Fr.via ?_ hm h0
  unfold State.wbFrame
  repeat' first
    | with_reducible exact Fr.refl _ _
    | with_reducible refine Fr.ite ?_ ?_
    | with_reducible refine State.hcU_fr (by decide) ?_
    | with_reducible refine State.mcU_fr (by decide) ?_
    | with_reducible refine State.wbRetire_fr (by decide) ?_
    | split

theorem State.txnDrop_fr {M : Mask} {z s : State} {t : Txn} (hm : Mask.le { lk := true } M = true) (h0 : Fr M z s) :
    Fr M z (State.txnDrop s t) := by
  refine Fr.via ?_ hm h0
  unfold State.txnDrop
  repeat' first
    | with_reducible exact Fr.refl _ _
    | with_reducible refine State.lkU_fr (by decide) ?_

theorem State.strayRsp_fr {M : Mask} {z s : State} (hm : Mask.le {} M = true) (h0 : Fr M z s) :
    Fr M z (State.strayRsp s) := by
  refine Fr.via ?_ hm h0
  unfold State.strayRsp
  repeat' first
    | with_reducible exact Fr.refl _ _
    | with_reducible refine State.sat_fr (by decide) ?_ ?_
    | exact Mask.okHigh (Nat.le_of_ble_eq_true rfl)

theorem State.lateRsp_fr {M : Mask} {z s : State} {t : Txn} (hm : Mask.le { sent := true, ev := true, lk := true } M = true) (h0 : Fr M z s) :
    Fr M z (State.lateRsp s t) := by
  refine Fr.via ?_ hm h0
  unfold State.lateRsp
  repeat' first
    | with_reducible exact Fr.refl _ _
    | with_reducible refine State.note_fr (by decide) ?_ ?_
    | with_reducible refine State.sat_fr (by decide) ?_ ?_
    | with_reducible refine State.txnDrop_fr (by decide) ?_
    | exact Mask.okHigh (Nat.le_of_ble_eq_true rfl)

theorem State.dmaRsp_fr {M : Mask} {z s : State} {n : Nat} {off : Nat} {len : Nat} {data : Nat} {write : Bool} (hm : Mask.le { sent := true, ev := true, unitT := true, ft := true, pw := true, md := true, chT := true, ldT := true, actT := true, spT := true, spWait := true, ar := true, jn := true, rb := true, lk := true, qm := true, cm := true, hc := true, dm := true, bm := true, mem := true, mc := true, bt := true, r4 := true, rmd := true, rbt := true, rpw := true, rsf := true } M = true) (h0 : Fr M z s) :
    Fr M z (State.dmaRsp s n off len data write) := by
  refine Fr.via ?_ hm h0
  unfold State.dmaRsp
  repeat' first
    | with_reducible exact Fr.refl _ _
    | with_reducible refine State.dResponse_fr (by decide) ?_
    | with_reducible refine State.xferCheck_fr (by decide) ?_
    | with_reducible refine State.xferDone_fr (by decide) ?_
    | with_reducible refine Fr.snd (by assumption) ?_
    | split

theorem State.readData_fr {M : Mask} {z s : State} {req : Req} {data : Nat} (hm : Mask.le { sent := true, ev := true, unitT := true, ft := true, pw := true, md := true, chT := true, ldT := true, actT := true, spT := true, spWait := true, ar := true, jn := true, rb := true, lk := true, qm := true, cm := true, hc := true, dm := true, bm := true, mem := true, mc := true, bt := true, r4 := true, rmd := true, rbt := true, rpw := true, rsf := true } M = true) (h0 : Fr M z s) :
    Fr M z (State.readData s req data) := by
  refine Fr.via ?_ hm h0
  unfold State.readData
  repeat' first
    | with_reducible exact Fr.refl _ _
    | with_reducible refine State.ciReturn_fr (by decide) ?_
    | with_reducible refine State.cqHeld_fr (by decide) ?_
    | with_reducible refine State.dmaRsp_fr (by decide) ?_
    | with_reducible refine State.fillDone_fr (by decide) ?_
    | with_reducible refine State.qmU_fr (by decide) ?_
    | split

theorem State.txnFail_fr {M : Mask} {z s : State} {t : Txn} {xlat : Bool} {tmo : Bool} (hm : Mask.le { sent := true, ev := true, unitT := true, ft := true, pw := true, md := true, chT := true, ldT := true, actT := true, spT := true, spWait := true, ar := true, jn := true, rb := true, lk := true, qm := true, cm := true, hc := true, dm := true, bm := true, mem := true, mc := true, bt := true, r4 := true, rmd := true, rbt := true, rpw := true, rsf := true } M = true) (h0 : Fr M z s) :
    Fr M z (State.txnFail s t xlat tmo) := by
  refine Fr.via ?_ hm h0
  unfold State.txnFail
  repeat' first
    | with_reducible exact Fr.refl _ _
    | with_reducible refine State.chanSweep_fr (by decide) ?_
    | with_reducible refine State.cqError_fr (by decide) ?_
    | with_reducible refine State.cqHeld_fr (by decide) ?_
    | with_reducible refine State.dError_fr (by decide) ?_
    | with_reducible refine State.fillErr_fr (by decide) ?_
    | with_reducible refine State.qmU_fr (by decide) ?_
    | with_reducible refine State.sqError_fr (by decide) ?_
    | with_reducible refine State.wbFail_fr (by decide) ?_
    | with_reducible refine State.wbFrame_fr (by decide) ?_
    | with_reducible refine State.xferCheck_fr (by decide) ?_
    | split

theorem execReadCplReceive_fr {s : State} {tag : BitVec 16} {data : BitVec 32768} : FrO { sent := true, ev := true, unitT := true, ft := true, pw := true, md := true, chT := true, ldT := true, actT := true, spT := true, spWait := true, ar := true, jn := true, rb := true, lk := true, qm := true, cm := true, hc := true, dm := true, bm := true, mem := true, mc := true, bt := true, r4 := true, rmd := true, rbt := true, rpw := true, rsf := true } s (execReadCplReceive tag data s) := by
  unfold execReadCplReceive
  repeat' first
    | with_reducible exact Fr.refl _ _
    | with_reducible refine FrO.next ?_
    | with_reducible refine Fr.ite ?_ ?_
    | with_reducible refine State.lateRsp_fr (by decide) ?_
    | with_reducible refine State.readData_fr (by decide) ?_
    | with_reducible refine State.strayRsp_fr (by decide) ?_
    | with_reducible refine State.txnDrop_fr (by decide) ?_
    | split

theorem execWriteRspReceive_fr {s : State} {tag : BitVec 16} : FrO { sent := true, ev := true, unitT := true, ft := true, pw := true, md := true, chT := true, ldT := true, actT := true, spT := true, spWait := true, ar := true, jn := true, rb := true, lk := true, qm := true, cm := true, hc := true, dm := true, bm := true, mem := true, mc := true, bt := true, r4 := true, rmd := true, rbt := true, rpw := true, rsf := true } s (execWriteRspReceive tag s) := by
  unfold execWriteRspReceive
  repeat' first
    | with_reducible exact Fr.refl _ _
    | with_reducible refine FrO.next ?_
    | with_reducible refine Fr.ite ?_ ?_
    | with_reducible refine State.dmaRsp_fr (by decide) ?_
    | with_reducible refine State.lateRsp_fr (by decide) ?_
    | with_reducible refine State.strayRsp_fr (by decide) ?_
    | with_reducible refine State.txnDrop_fr (by decide) ?_
    | with_reducible refine State.wbFrame_fr (by decide) ?_
    | with_reducible refine State.wbOk_fr (by decide) ?_
    | split

theorem execErrorRspReceive_fr {s : State} {tag : BitVec 16} {status : BitVec 8} : FrO { sent := true, ev := true, unitT := true, ft := true, pw := true, md := true, chT := true, ldT := true, actT := true, spT := true, spWait := true, ar := true, jn := true, rb := true, lk := true, qm := true, cm := true, hc := true, dm := true, bm := true, mem := true, mc := true, bt := true, r4 := true, rmd := true, rbt := true, rpw := true, rsf := true } s (execErrorRspReceive tag status s) := by
  unfold execErrorRspReceive
  repeat' first
    | with_reducible exact Fr.refl _ _
    | with_reducible refine FrO.next ?_
    | with_reducible refine Fr.ite ?_ ?_
    | with_reducible refine State.lateRsp_fr (by decide) ?_
    | with_reducible refine State.strayRsp_fr (by decide) ?_
    | with_reducible refine State.txnDrop_fr (by decide) ?_
    | with_reducible refine State.txnFail_fr (by decide) ?_
    | split

theorem execLinkTransactionTimeout_fr {s : State} {tag : BitVec 16} : FrO { sent := true, ev := true, unitT := true, ft := true, pw := true, md := true, chT := true, ldT := true, actT := true, spT := true, spWait := true, ar := true, jn := true, rb := true, lk := true, qm := true, cm := true, hc := true, dm := true, bm := true, mem := true, mc := true, bt := true, r4 := true, rmd := true, rbt := true, rpw := true, rsf := true } s (execLinkTransactionTimeout tag s) := by
  unfold execLinkTransactionTimeout
  repeat' first
    | with_reducible exact Fr.refl _ _
    | with_reducible refine FrO.next ?_
    | with_reducible refine Fr.ite ?_ ?_
    | with_reducible refine State.lkU_fr (by decide) ?_
    | with_reducible refine State.txnFail_fr (by decide) ?_
    | split

theorem State.wbUe_fr {M : Mask} {z s : State} {e : WbEntry} (hm : Mask.le { sent := true, ev := true, unitT := true, ft := true, pw := true, md := true, chT := true, ldT := true, actT := true, spT := true, spWait := true, ar := true, jn := true, rb := true, lk := true, qm := true, cm := true, hc := true, dm := true, bm := true, mem := true, mc := true, r4 := true, rmd := true, rpw := true } M = true) (h0 : Fr M z s) :
    Fr M z (State.wbUe s e) := by
  refine Fr.via ?_ hm h0
  unfold State.wbUe
  repeat' first
    | with_reducible exact Fr.refl _ _
    | with_reducible refine Fr.ite ?_ ?_
    | with_reducible refine State.fault_fr (by decide) ?_ ?_
    | with_reducible refine State.hcU_fr (by decide) ?_
    | with_reducible refine State.sat_fr (by decide) ?_ ?_
    | with_reducible refine State.wbFail_fr (by decide) ?_
    | with_reducible refine State.wbIssueOne_fr (by decide) ?_
    | with_reducible refine State.wbRetire_fr (by decide) ?_
    | with_reducible refine Fr.each (fun _ _ => ?_) ?_
    | exact Mask.okHigh (Nat.le_of_ble_eq_true rfl)

theorem execMergeHoldExpiry_fr {s : State} {ue : Bool} : FrO { sent := true, ev := true, unitT := true, ft := true, pw := true, md := true, chT := true, ldT := true, actT := true, spT := true, spWait := true, ar := true, jn := true, rb := true, lk := true, qm := true, cm := true, hc := true, dm := true, bm := true, mem := true, mc := true, r4 := true, rmd := true, rpw := true } s (execMergeHoldExpiry ue s) := by
  unfold execMergeHoldExpiry
  repeat' first
    | with_reducible exact Fr.refl _ _
    | with_reducible refine FrO.next ?_
    | with_reducible refine Fr.ite ?_ ?_
    | with_reducible refine State.wbIssueOne_fr (by decide) ?_
    | with_reducible refine State.wbUe_fr (by decide) ?_
    | split

theorem State.blockReplay_fr {M : Mask} {z s : State} {p : Nat} (hm : Mask.le { lk := true } M = true) (h0 : Fr M z s) :
    Fr M z (State.blockReplay s p) := by
  refine Fr.via ?_ hm h0
  unfold State.blockReplay
  repeat' first
    | with_reducible exact Fr.refl _ _
    | with_reducible refine Fr.ite ?_ ?_
    | with_reducible refine State.portUp_fr (by decide) ?_
    | with_reducible refine State.sat_fr (by decide) ?_ ?_
    | exact Mask.okHigh (le_add1 (by decide))

theorem execBlockReceive_fr {s : State} {p : Fin 2} {bits : BitVec 5140} {errs : Fin 545} {drained : Nat} : FrO { sent := true, ev := true, unitT := true, ft := true, pw := true, md := true, chT := true, actT := true, spT := true, spWait := true, ar := true, jn := true, rb := true, lk := true, cm := true, hc := true, r4 := true, rmd := true, rpw := true } s (execBlockReceive p bits errs drained s) := by
  unfold execBlockReceive
  repeat' first
    | with_reducible exact Fr.refl _ _
    | with_reducible refine FrO.next ?_
    | with_reducible refine Fr.ite ?_ ?_
    | with_reducible refine State.fault_fr (by decide) ?_ ?_
    | with_reducible refine State.portPump_fr (by decide) ?_
    | with_reducible refine State.portUp_fr (by decide) ?_
    | with_reducible refine State.retrain_fr (by decide) ?_
    | with_reducible refine State.sat_fr (by decide) ?_ ?_
    | split
    | exact Mask.okHigh (Nat.le_of_ble_eq_true rfl)
    | exact Mask.okHigh (le_add1 (by decide))
    | (apply Fr.leafB <;> first | rfl | exact .inl rfl | exact .inr rfl | guard_target =~ Fr _ _ _)

theorem execLcfReceive_fr {s : State} {p : Fin 2} {cr0 : BitVec 16} {cr1 : BitVec 16} {cr2 : BitVec 16} {cr3 : BitVec 16} {nak : Option (BitVec 10)} : FrO { lk := true } s (execLcfReceive p cr0 cr1 cr2 cr3 nak s) := by
  unfold execLcfReceive
  repeat' first
    | with_reducible exact Fr.refl _ _
    | with_reducible refine FrO.next ?_
    | with_reducible refine Fr.ite ?_ ?_
    | with_reducible refine State.blockReplay_fr (by decide) ?_
    | with_reducible refine State.portPump_fr (by decide) ?_
    | with_reducible refine State.portUp_fr (by decide) ?_

theorem execReplayTimeout_fr {s : State} {p : Fin 2} : FrO { lk := true } s (execReplayTimeout p s) := by
  unfold execReplayTimeout
  repeat' first
    | with_reducible exact Fr.refl _ _
    | with_reducible refine FrO.next ?_
    | with_reducible refine Fr.ite ?_ ?_
    | with_reducible refine State.blockReplay_fr (by decide) ?_

theorem execPortSignalDetect_fr {s : State} {p : Fin 2} {partnerMax : Fin 4} : FrO { lk := true } s (execPortSignalDetect p partnerMax s) := by
  unfold execPortSignalDetect
  repeat' first
    | with_reducible exact Fr.refl _ _
    | with_reducible refine FrO.next ?_
    | with_reducible refine Fr.ite ?_ ?_
    | with_reducible refine State.portUp_fr (by decide) ?_

theorem State.trialFailed_fr {M : Mask} {z s : State} {p : Nat} (hm : Mask.le { lk := true } M = true) (h0 : Fr M z s) :
    Fr M z (State.trialFailed s p) := by
  refine Fr.via ?_ hm h0
  unfold State.trialFailed
  repeat' first
    | with_reducible exact Fr.refl _ _
    | with_reducible refine Fr.ite ?_ ?_
    | with_reducible refine State.portUp_fr (by decide) ?_

theorem execRateTrialDone_fr {s : State} {p : Fin 2} {lanes : BitVec 8} : FrO { lk := true } s (execRateTrialDone p lanes s) := by
  unfold execRateTrialDone
  repeat' first
    | with_reducible exact Fr.refl _ _
    | with_reducible refine FrO.next ?_
    | with_reducible refine Fr.ite ?_ ?_
    | with_reducible refine State.portUp_fr (by decide) ?_
    | with_reducible refine State.trialFailed_fr (by decide) ?_

theorem State.dropResent_fr {M : Mask} {z s : State} {l : List OutFrame} (hm : Mask.le { sent := true, ev := true, lk := true, hc := true, mc := true } M = true) (h0 : Fr M z s) :
    Fr M z (State.dropResent s l) := by
  refine Fr.via ?_ hm h0
  unfold State.dropResent
  repeat' first
    | with_reducible exact Fr.refl _ _
    | with_reducible refine Fr.ite ?_ ?_
    | with_reducible refine State.txnDrop_fr (by decide) ?_
    | with_reducible refine State.wbFrame_fr (by decide) ?_
    | with_reducible refine Fr.each (fun _ _ => ?_) ?_
    | split

theorem State.partnerChange_fr {M : Mask} {z s : State} {p : Nat} (hm : Mask.le { sent := true, ev := true, lk := true, hc := true, mc := true } M = true) (h0 : Fr M z s) :
    Fr M z (State.partnerChange s p) := by
  refine Fr.via ?_ hm h0
  unfold State.partnerChange
  repeat' first
    | with_reducible exact Fr.refl _ _
    | with_reducible refine State.dropResent_fr (by decide) ?_
    | with_reducible refine State.note_fr (by decide) ?_ ?_
    | with_reducible refine State.portUp_fr (by decide) ?_
    | exact Mask.okHigh (Nat.le_of_ble_eq_true rfl)

theorem State.portComesUp_fr {M : Mask} {z s : State} {p : Nat} {tag : Nat} {lanes : Nat} {ver : Nat} {next : Nat} {cr : List Nat} {line : Nat} (hm : Mask.le { sent := true, ev := true, lk := true, hc := true, mc := true } M = true) (h0 : Fr M z s) :
    Fr M z (State.portComesUp s p tag lanes ver next cr line) := by
  refine Fr.via ?_ hm h0
  unfold State.portComesUp
  repeat' first
    | with_reducible exact Fr.refl _ _
    | with_reducible refine Fr.ite ?_ ?_
    | with_reducible refine State.note_fr (by decide) ?_ ?_
    | with_reducible refine State.off_fr (by decide) ?_ ?_
    | with_reducible refine State.partnerChange_fr (by decide) ?_
    | with_reducible refine State.portPump_fr (by decide) ?_
    | with_reducible refine State.portUp_fr (by decide) ?_
    | with_reducible refine Fr.pB ?_ ?_
    | with_reducible refine Fr.when (fun _ => ?_) ?_
    | exact Mask.okHigh (Nat.le_of_ble_eq_true rfl)
    | exact Mask.okHigh (le_add1 (by decide))

theorem execPortTrained_fr {s : State} {p : Fin 2} {tag : Word} {v1 : Option (Fin 16)} {v2 : Option (Fin 16)} {lanes : BitVec 8} {next : BitVec 10} {cr0 : BitVec 16} {cr1 : BitVec 16} {cr2 : BitVec 16} {cr3 : BitVec 16} {skew : Nat} {line : BitVec 58} : FrO { sent := true, ev := true, lk := true, hc := true, mc := true } s (execPortTrained p tag v1 v2 lanes next cr0 cr1 cr2 cr3 skew line s) := by
  unfold execPortTrained
  repeat' first
    | with_reducible exact Fr.refl _ _
    | with_reducible refine FrO.next ?_
    | with_reducible refine Fr.ite ?_ ?_
    | with_reducible refine State.portComesUp_fr (by decide) ?_
    | with_reducible refine State.portUp_fr (by decide) ?_
    | with_reducible refine State.trialFailed_fr (by decide) ?_
    | split

theorem execRetrainW_fr {s : State} : FrO { lk := true } s (execRetrainW s) := by
  unfold execRetrainW
  repeat' first
    | with_reducible exact Fr.refl _ _
    | with_reducible refine FrO.next ?_
    | with_reducible refine State.retrain_fr (by decide) ?_

theorem execRetrainE_fr {s : State} : FrO { lk := true } s (execRetrainE s) := by
  unfold execRetrainE
  repeat' first
    | with_reducible exact Fr.refl _ _
    | with_reducible refine FrO.next ?_
    | with_reducible refine State.retrain_fr (by decide) ?_

theorem execTapTrainingDone_fr {s : State} : FrO { lk := true } s (execTapTrainingDone s) := by
  unfold execTapTrainingDone
  repeat' first
    | with_reducible exact Fr.refl _ _
    | with_reducible refine FrO.next ?_
    | with_reducible refine Fr.ite ?_ ?_
    | with_reducible refine State.off_fr (by decide) ?_ ?_
    | with_reducible refine State.portUp_fr (by decide) ?_
    | with_reducible refine State.retrain_fr (by decide) ?_
    | with_reducible refine Fr.each (fun _ _ => ?_) ?_
    | exact Mask.okHigh (Nat.le_of_ble_eq_true rfl)

theorem State.passClose_fr {M : Mask} {z s : State} (hm : Mask.le { lk := true } M = true) (h0 : Fr M z s) :
    Fr M z (State.passClose s) := by
  refine Fr.via ?_ hm h0
  unfold State.passClose
  repeat' first
    | with_reducible exact Fr.refl _ _
    | with_reducible refine State.off_fr (by decide) ?_ ?_
    | with_reducible refine State.on_fr (by decide) ?_ ?_
    | with_reducible refine State.portUp_fr (by decide) ?_
    | with_reducible refine Fr.pB ?_ ?_
    | with_reducible refine Fr.wrB ?_ ?_
    | with_reducible refine Fr.each (fun _ _ => ?_) ?_
    | exact Mask.okHigh (Nat.le_of_ble_eq_true rfl)
    | exact Mask.okHigh (le_add1 (by decide))

theorem execLkShutdownDrain_fr {s : State} {expired : Bool} : FrO { lk := true } s (execLkShutdownDrain expired s) := by
  unfold execLkShutdownDrain
  repeat' first
    | with_reducible exact Fr.refl _ _
    | with_reducible refine FrO.next ?_
    | with_reducible refine Fr.ite ?_ ?_
    | with_reducible refine State.passClose_fr (by decide) ?_

theorem State.errorTo_fr {M : Mask} {z s : State} {f : OutFrame} {status : Nat} (hm : Mask.le { sent := true, lk := true } M = true) (h0 : Fr M z s) :
    Fr M z (State.errorTo s f status) := by
  refine Fr.via ?_ hm h0
  unfold State.errorTo
  repeat' first
    | with_reducible exact Fr.refl _ _
    | with_reducible refine State.respond_fr (by decide) ?_

theorem State.stranded_fr {M : Mask} {z s : State} {f : OutFrame} (hm : Mask.le { sent := true, lk := true } M = true) (h0 : Fr M z s) :
    Fr M z (State.stranded s f) := by
  refine Fr.via ?_ hm h0
  unfold State.stranded
  repeat' first
    | with_reducible exact Fr.refl _ _
    | with_reducible refine Fr.ite ?_ ?_
    | with_reducible refine State.errorTo_fr (by decide) ?_
    | with_reducible refine State.sat_fr (by decide) ?_ ?_
    | exact Mask.okHigh (Nat.le_of_ble_eq_true rfl)

theorem State.fcrcBad_fr {M : Mask} {z s : State} (hm : Mask.le { sent := true, ev := true, lk := true } M = true) (h0 : Fr M z s) :
    Fr M z (State.fcrcBad s) := by
  refine Fr.via ?_ hm h0
  unfold State.fcrcBad
  repeat' first
    | with_reducible exact Fr.refl _ _
    | with_reducible refine State.note_fr (by decide) ?_ ?_
    | with_reducible refine State.sat_fr (by decide) ?_ ?_
    | exact Mask.okHigh (Nat.le_of_ble_eq_true rfl)

theorem execFrameForward_fr {s : State} {p : Fin 2} {kind : Fin 8} {dst : BitVec 12} {src : BitVec 12} {vc : Fin 4} {hops : BitVec 8} {tag : BitVec 16} {len : Fin 4097} {addr : BitVec 64} {space : BitVec 8} {data : BitVec 32768} {code : BitVec 8} {hcrc : Bool} : FrO { sent := true, ev := true, lk := true } s (execFrameForward p kind dst src vc hops tag len addr space data code hcrc s) := by
  unfold execFrameForward
  repeat' first
    | with_reducible exact Fr.refl _ _
    | with_reducible refine FrO.next ?_
    | with_reducible refine Fr.ite ?_ ?_
    | with_reducible refine State.errorTo_fr (by decide) ?_
    | with_reducible refine State.fcrcBad_fr (by decide) ?_
    | with_reducible refine State.note_fr (by decide) ?_ ?_
    | with_reducible refine State.refuse1x_fr (by decide) ?_
    | with_reducible refine State.sendOn_fr (by decide) ?_
    | with_reducible refine State.stranded_fr (by decide) ?_
    | exact Mask.okHigh (Nat.le_of_ble_eq_true rfl)

theorem execEnumReceive_fr {s : State} {p : Fin 2} {loop : Fin 32} {next : Fin 64} {floor : BitVec 8} : FrO { lk := true } s (execEnumReceive p loop next floor s) := by
  unfold execEnumReceive
  repeat' first
    | with_reducible exact Fr.refl _ _
    | with_reducible refine FrO.next ?_
    | with_reducible refine Fr.ite ?_ ?_
    | with_reducible refine State.on_fr (by decide) ?_ ?_
    | with_reducible refine State.sendOn_fr (by decide) ?_
    | with_reducible refine Fr.pB ?_ ?_
    | exact Mask.okHigh (Nat.le_of_ble_eq_true rfl)

theorem execLaneLockLoss_fr {s : State} {p : Fin 2} {lane : Fin 8} {loss : Bool} : FrO { lk := true } s (execLaneLockLoss p lane loss s) := by
  unfold execLaneLockLoss
  repeat' first
    | with_reducible exact Fr.refl _ _
    | with_reducible refine FrO.next ?_
    | with_reducible refine Fr.ite ?_ ?_
    | with_reducible refine State.portUp_fr (by decide) ?_

theorem execLaneFail_fr {s : State} {p : Fin 2} {lane : Fin 8} {errors : Bool} : FrO { sent := true, ev := true, unitT := true, ft := true, pw := true, md := true, chT := true, actT := true, spT := true, spWait := true, ar := true, jn := true, rb := true, lk := true, cm := true, hc := true, r4 := true, rmd := true, rpw := true } s (execLaneFail p lane errors s) := by
  unfold execLaneFail
  repeat' first
    | with_reducible exact Fr.refl _ _
    | with_reducible refine FrO.next ?_
    | with_reducible refine Fr.ite ?_ ?_
    | with_reducible refine State.fault_fr (by decide) ?_ ?_
    | with_reducible refine State.portUp_fr (by decide) ?_
    | with_reducible refine State.retrain_fr (by decide) ?_
    | exact Mask.okHigh (Nat.le_of_ble_eq_true rfl)

theorem execPortDown_fr {s : State} {p : Fin 2} : FrO { sent := true, ev := true, unitT := true, ft := true, pw := true, md := true, chT := true, actT := true, spT := true, spWait := true, ar := true, jn := true, rb := true, lk := true, cm := true, hc := true, mc := true, r4 := true, rmd := true, rpw := true } s (execPortDown p s) := by
  unfold execPortDown
  repeat' first
    | with_reducible exact Fr.refl _ _
    | with_reducible refine FrO.next ?_
    | with_reducible refine Fr.ite ?_ ?_
    | with_reducible refine State.dropResent_fr (by decide) ?_
    | with_reducible refine State.fault_fr (by decide) ?_ ?_
    | with_reducible refine State.on_fr (by decide) ?_ ?_
    | with_reducible refine State.portUp_fr (by decide) ?_
    | with_reducible refine State.sendOn_fr (by decide) ?_
    | with_reducible refine State.stranded_fr (by decide) ?_
    | with_reducible refine Fr.wrB ?_ ?_
    | with_reducible refine Fr.each (fun _ _ => ?_) ?_
    | exact Mask.okHigh (Nat.le_of_ble_eq_true rfl)
    | exact Mask.okHigh (le_add1 (by decide))

theorem execPortRetry_fr {s : State} {p : Fin 2} : FrO { lk := true } s (execPortRetry p s) := by
  unfold execPortRetry
  repeat' first
    | with_reducible exact Fr.refl _ _
    | with_reducible refine FrO.next ?_
    | with_reducible refine Fr.ite ?_ ?_
    | with_reducible refine State.retrain_fr (by decide) ?_

end Sys2Proof.Machine
end

