-- ==== Sys2Proof/Laws/FrBm.lean ====
section
/-! SUPPORT. Laws/FrBm.lean: what each operation of Machine/Bm.lean may touch: the lemma that later proofs cite in
place of unfolding it. -/

namespace Sys2Proof.Machine

open Reg

theorem State.flip_fr {M : Mask} {z s : State} {a : Nat} {e : Nat} (hm : Mask.le { bm := true } M = true) (h0 : Fr M z s) :
    Fr M z (State.flip s a e) := by
  refine Fr.via ?_ hm h0
  unfold State.flip
  repeat' first
    | with_reducible exact Fr.refl _ _
    | with_reducible refine State.bSetErr_fr (by decide) ?_

theorem State.coreCheck_fr {M : Mask} {z s : State} {core : Nat} {cause : Nat} (hm : Mask.le { sent := true, ev := true, unitT := true, ft := true, pw := true, md := true, chT := true, actT := true, spT := true, spWait := true, ar := true, jn := true, rb := true, lk := true, cm := true, hc := true, r4 := true, rmd := true, rpw := true } M = true) (h0 : Fr M z s) :
    Fr M z (State.coreCheck s core cause) := by
  refine Fr.via ?_ hm h0
  unfold State.coreCheck
  repeat' first
    | with_reducible exact Fr.refl _ _
    | with_reducible refine State.machineCheck_fr (by decide) ?_

theorem State.badWord_fr {M : Mask} {z s : State} {a : Nat} {who : BufUser} (hm : Mask.le { sent := true, ev := true, unitT := true, ft := true, pw := true, md := true, chT := true, ldT := true, actT := true, spT := true, spWait := true, ar := true, jn := true, rb := true, lk := true, qm := true, cm := true, hc := true, dm := true, bm := true, mem := true, mc := true, bt := true, r4 := true, rmd := true, rbt := true, rpw := true, rsf := true } M = true) (h0 : Fr M z s) :
    Fr M z (State.badWord s a who) := by
  refine Fr.via ?_ hm h0
  unfold State.badWord
  repeat' first
    | with_reducible exact Fr.refl _ _
    | with_reducible refine Fr.ite ?_ ?_
    | with_reducible refine State.bPut_fr (by decide) ?_
    | with_reducible refine State.chanSweep_fr (by decide) ?_
    | with_reducible refine State.cmdUp_fr (by decide) ?_
    | with_reducible refine State.complete_fr (by decide) ?_
    | with_reducible refine State.coreCheck_fr (by decide) ?_
    | with_reducible refine State.dFail_fr (by decide) ?_
    | with_reducible refine State.dHalt_fr (by decide) ?_
    | with_reducible refine State.dchUp_fr (by decide) ?_
    | with_reducible refine State.edSet_fr (by decide) ?_
    | with_reducible refine State.fault_fr (by decide) ?_ ?_
    | with_reducible refine State.fetch_fr (by decide) ?_
    | with_reducible refine State.flip_fr (by decide) ?_
    | with_reducible refine State.jnU_fr (by decide) ?_
    | with_reducible refine State.sat_fr (by decide) ?_ ?_
    | split
    | exact Mask.okHigh (Nat.le_of_ble_eq_true rfl)

theorem State.bufRefused_fr {M : Mask} {z s : State} {a : Nat} {who : BufUser} (hm : Mask.le { sent := true, ev := true, unitT := true, ft := true, pw := true, md := true, chT := true, ldT := true, actT := true, spT := true, spWait := true, ar := true, jn := true, rb := true, lk := true, qm := true, cm := true, hc := true, dm := true, bm := true, mem := true, mc := true, bt := true, r4 := true, rmd := true, rbt := true, rpw := true, rsf := true } M = true) (h0 : Fr M z s) :
    Fr M z (State.bufRefused s a who) := by
  refine Fr.via ?_ hm h0
  cases who with
  | fetch core _ => exact State.coreCheck_fr (by decide) (Fr.refl _ _)
  | other => exact Fr.refl _ _
  | load core => exact State.badWord_fr (a := a) (who := .load core) (by decide) (Fr.refl _ _)
  | commit id => exact State.badWord_fr (a := a) (who := .commit id) (by decide) (Fr.refl _ _)
  | egress id => exact State.badWord_fr (a := a) (who := .egress id) (by decide) (Fr.refl _ _)
  | dma n => exact State.badWord_fr (a := a) (who := .dma n) (by decide) (Fr.refl _ _)

theorem execBufferRead_fr {s : State} {addr : BitVec 64} {flips : BitVec 80} {row : Nat} {first : BitVec 64} {rank : Fin 2} {who : BufUser} : FrO { sent := true, ev := true, unitT := true, ft := true, pw := true, md := true, chT := true, ldT := true, actT := true, spT := true, spWait := true, ar := true, jn := true, rb := true, lk := true, qm := true, cm := true, hc := true, dm := true, bm := true, mem := true, mc := true, bt := true, r4 := true, rmd := true, rbt := true, rpw := true, rsf := true } s (execBufferRead addr flips row first rank who s) := by
  unfold execBufferRead
  repeat' first
    | with_reducible exact Fr.refl _ _
    | with_reducible refine FrO.next ?_
    | with_reducible refine Fr.ite ?_ ?_
    | with_reducible refine State.badWord_fr (by decide) ?_
    | with_reducible refine State.bufRefused_fr (by decide) ?_
    | with_reducible refine State.coreCheck_fr (by decide) ?_
    | with_reducible refine State.eccNote_fr (by decide) ?_
    | with_reducible refine State.fault_fr (by decide) ?_ ?_
    | with_reducible refine State.flip_fr (by decide) ?_
    | with_reducible refine State.rowNote_fr (by decide) ?_
    | split
    | exact Mask.okHigh (Nat.le_of_ble_eq_true rfl)

theorem State.scrubWord_fr {M : Mask} {z s : State} {a : Nat} {row : Nat} {first : Nat} (hm : Mask.le { sent := true, ev := true, unitT := true, ft := true, pw := true, md := true, chT := true, actT := true, spT := true, spWait := true, ar := true, jn := true, rb := true, lk := true, cm := true, hc := true, bm := true, mem := true, r4 := true, rmd := true, rpw := true } M = true) (h0 : Fr M z s) :
    Fr M z (State.scrubWord s a row first) := by
  refine Fr.via ?_ hm h0
  unfold State.scrubWord
  repeat' first
    | with_reducible exact Fr.refl _ _
    | with_reducible refine Fr.ite ?_ ?_
    | with_reducible refine State.bSetErr_fr (by decide) ?_
    | with_reducible refine State.ctxWriteBack_fr (by decide) ?_
    | with_reducible refine State.eccNote_fr (by decide) ?_
    | with_reducible refine State.rowNote_fr (by decide) ?_
    | with_reducible refine State.sat_fr (by decide) ?_ ?_
    | split
    | exact Mask.okHigh (Nat.le_of_ble_eq_true rfl)
    | (apply Fr.leafB <;> first | rfl | exact .inl rfl | exact .inr rfl | guard_target =~ Fr _ _ _)

theorem execScrubBurst_fr {s : State} {flips : List (Nat × BitVec 80)} {row : Nat} {first : BitVec 64} : FrO { sent := true, ev := true, unitT := true, ft := true, pw := true, md := true, chT := true, actT := true, spT := true, spWait := true, ar := true, jn := true, rb := true, lk := true, cm := true, hc := true, bm := true, mem := true, r4 := true, rmd := true, rpw := true } s (execScrubBurst flips row first s) := by
  unfold execScrubBurst
  repeat' first
    | with_reducible exact Fr.refl _ _
    | with_reducible refine FrO.next ?_
    | with_reducible refine Fr.ite ?_ ?_
    | with_reducible refine State.bmU_fr (by decide) (by first | rfl | (split <;> rfl)) ?_
    | with_reducible refine State.flip_fr (by decide) ?_
    | with_reducible refine State.inc_fr (by decide) ?_ ?_
    | with_reducible refine State.off_fr (by decide) ?_ ?_
    | with_reducible refine State.on_fr (by decide) ?_ ?_
    | with_reducible refine State.scrubWord_fr (by decide) ?_
    | with_reducible refine Fr.pB ?_ ?_
    | with_reducible refine Fr.each (fun _ _ => ?_) ?_
    | exact Mask.okHigh (Nat.le_of_ble_eq_true rfl)

theorem State.edUe_fr {M : Mask} {z s : State} {v : Nat} (hm : Mask.le { sent := true, ev := true, unitT := true, ft := true, pw := true, md := true, chT := true, actT := true, spT := true, spWait := true, ar := true, jn := true, rb := true, lk := true, cm := true, hc := true, bm := true, r4 := true, rmd := true, rpw := true } M = true) (h0 : Fr M z s) :
    Fr M z (State.edUe s v) := by
  refine Fr.via ?_ hm h0
  unfold State.edUe
  repeat' first
    | with_reducible exact Fr.refl _ _
    | with_reducible refine State.bmU_fr (by decide) (by first | rfl | (split <;> rfl)) ?_
    | with_reducible refine State.fault_fr (by decide) ?_ ?_
    | exact Mask.okHigh (Nat.le_of_ble_eq_true rfl)

theorem State.smemUe_fr {M : Mask} {z s : State} {c : Nat} {slot : Nat} (hm : Mask.le { sent := true, ev := true, unitT := true, ft := true, pw := true, md := true, chT := true, actT := true, spT := true, spWait := true, ar := true, jn := true, rb := true, lk := true, cm := true, hc := true, r4 := true, rmd := true, rpw := true } M = true) (h0 : Fr M z s) :
    Fr M z (State.smemUe s c slot) := by
  refine Fr.via ?_ hm h0
  unfold State.smemUe
  repeat' first
    | with_reducible exact Fr.refl _ _
    | with_reducible refine State.fault_fr (by decide) ?_ ?_
    | with_reducible refine State.slotUp_fr (by decide) ?_
    | exact Mask.okHigh (le_add1 (by decide))

theorem State.sramUe_fr {M : Mask} {z s : State} {w : SramWord} (hm : Mask.le { sent := true, ev := true, unitT := true, ft := true, pw := true, md := true, chT := true, ldT := true, actT := true, spT := true, spWait := true, ar := true, jn := true, rb := true, lk := true, qm := true, cm := true, hc := true, dm := true, bm := true, mem := true, mc := true, r4 := true, rmd := true, rpw := true } M = true) (h0 : Fr M z s) :
    Fr M z (State.sramUe s w) := by
  refine Fr.via ?_ hm h0
  unfold State.sramUe
  repeat' first
    | with_reducible exact Fr.refl _ _
    | with_reducible refine Fr.ite ?_ ?_
    | with_reducible refine State.actUp_fr (by decide) ?_
    | with_reducible refine State.chanSweep_fr (by decide) ?_
    | with_reducible refine State.complete_fr (by decide) ?_
    | with_reducible refine State.ctxLoad_fr (by decide) ?_
    | with_reducible refine State.edSet_fr (by decide) ?_
    | with_reducible refine State.edUe_fr (by decide) ?_
    | with_reducible refine State.hcDrop_fr (by decide) ?_
    | with_reducible refine State.hcOcc_fr (by decide) ?_
    | with_reducible refine State.mcU_fr (by decide) ?_
    | with_reducible refine State.note_fr (by decide) ?_ ?_
    | with_reducible refine State.qmU_fr (by decide) ?_
    | with_reducible refine State.sat_fr (by decide) ?_ ?_
    | with_reducible refine State.smemUe_fr (by decide) ?_
    | with_reducible refine State.wbUe_fr (by decide) ?_
    | split
    | exact Mask.okHigh (Nat.le_of_ble_eq_true rfl)

theorem execSramScrub_fr {s : State} {word : SramWord} {ue : Bool} : FrO { free := true, sent := true, ev := true, unitT := true, ft := true, pw := true, md := true, chT := true, ldT := true, actT := true, spT := true, spWait := true, ar := true, jn := true, rb := true, lk := true, qm := true, cm := true, hc := true, dm := true, bm := true, mem := true, mc := true, r4 := true, rmd := true, rpw := true } s (execSramScrub word ue s) := by
  unfold execSramScrub
  repeat' first
    | with_reducible exact Fr.refl _ _
    | with_reducible refine FrO.next ?_
    | with_reducible refine Fr.ite ?_ ?_
    | with_reducible refine State.fault_fr (by decide) ?_ ?_
    | with_reducible refine State.free_fr (by decide) ?_
    | with_reducible refine State.on_fr (by decide) ?_ ?_
    | with_reducible refine State.sat_fr (by decide) ?_ ?_
    | with_reducible refine State.sramUe_fr (by decide) ?_
    | split
    | exact Mask.okHigh (Nat.le_of_ble_eq_true rfl)
    | exact Mask.okHigh (le_add1 (by decide))

theorem execEdRebuildDone_fr {s : State} {v : Fin 64} : FrO { ldT := true, cm := true, bm := true } s (execEdRebuildDone v s) := by
  unfold execEdRebuildDone
  repeat' first
    | with_reducible exact Fr.refl _ _
    | with_reducible refine FrO.next ?_
    | with_reducible refine Fr.ite ?_ ?_
    | with_reducible refine State.bmU_fr (by decide) (by first | rfl | (split <;> rfl)) ?_
    | with_reducible refine State.dirPut_fr (by decide) ?_
    | with_reducible refine State.edSet_fr (by decide) ?_
    | with_reducible refine Fr.each (fun _ _ => ?_) ?_

theorem execMr4Poll_fr {s : State} {chan : Fin 4} {fine : Bool} {temp : BitVec 8} : FrO { sent := true, ev := true, lk := true, bm := true } s (execMr4Poll chan fine temp s) := by
  unfold execMr4Poll
  repeat' first
    | with_reducible exact Fr.refl _ _
    | with_reducible refine FrO.next ?_
    | with_reducible refine Fr.ite ?_ ?_
    | with_reducible refine State.bmU_fr (by decide) (by first | rfl | (split <;> rfl)) ?_
    | with_reducible refine State.note_fr (by decide) ?_ ?_
    | with_reducible refine Fr.pB ?_ ?_
    | with_reducible refine Fr.when (fun _ => ?_) ?_
    | exact Mask.okHigh (Nat.le_of_ble_eq_true rfl)

end Sys2Proof.Machine
end

