-- ==== Sys2Proof/Laws/FrChannel.lean ====
section
/-! SUPPORT. Laws/FrChannel.lean: what each operation of Machine/Channel.lean may touch: the lemma that later proofs cite in
place of unfolding it. -/

namespace Sys2Proof.Machine

open Reg

theorem State.paStep_fr {M : Mask} {z s : State} {a : Nat} {f : PaState → PaState} (hm : Mask.le { paT := true } M = true) (h0 : Fr M z s) :
    Fr M z (State.paStep s a f) := by
  refine Fr.via ?_ hm h0
  unfold State.paStep
  repeat' first
    | with_reducible exact Fr.refl _ _
    | with_reducible refine Fr.ite ?_ ?_
    | with_reducible refine State.off_fr (by decide) ?_ ?_
    | with_reducible refine State.paUp_fr (by decide) ?_
    | exact Mask.okHigh (le_add1 (by decide))

theorem State.paFlush_fr {M : Mask} {z s : State} {a : Nat} (hm : Mask.le { paT := true } M = true) (h0 : Fr M z s) :
    Fr M z (State.paFlush s a) := by
  refine Fr.via ?_ hm h0
  unfold State.paFlush
  repeat' first
    | with_reducible exact Fr.refl _ _
    | with_reducible refine State.paStep_fr (by decide) ?_

theorem State.paSend_fr {M : Mask} {z s : State} {a : Nat} {addr : Nat} {data : Nat} (hm : Mask.le { paT := true } M = true) (h0 : Fr M z s) :
    Fr M z (State.paSend s a addr data) := by
  refine Fr.via ?_ hm h0
  unfold State.paSend
  repeat' first
    | with_reducible exact Fr.refl _ _
    | with_reducible refine State.paStep_fr (by decide) ?_

theorem State.paModeTo_fr {M : Mask} {z s : State} {a : Nat} {m : Nat} (hm : Mask.le { paT := true } M = true) (h0 : Fr M z s) :
    Fr M z (State.paModeTo s a m) := by
  refine Fr.via ?_ hm h0
  unfold State.paModeTo
  repeat' first
    | with_reducible exact Fr.refl _ _
    | with_reducible refine Fr.ite ?_ ?_
    | with_reducible refine State.paSend_fr (by decide) ?_
    | with_reducible refine State.paUp_fr (by decide) ?_

theorem State.paIdle_fr {M : Mask} {z s : State} {a : Nat} (hm : Mask.le { paT := true } M = true) (h0 : Fr M z s) :
    Fr M z (State.paIdle s a) := by
  refine Fr.via ?_ hm h0
  unfold State.paIdle
  repeat' first
    | with_reducible exact Fr.refl _ _
    | with_reducible refine State.paModeTo_fr (by decide) ?_
    | with_reducible refine State.paStep_fr (by decide) ?_

theorem State.select_fr {M : Mask} {z s : State} {c : Nat} {head : Nat} (hm : Mask.le { sent := true, ev := true, chT := true, paT := true, actT := true, lk := true } M = true) (h0 : Fr M z s) :
    Fr M z (State.select s c head) := by
  refine Fr.via ?_ hm h0
  unfold State.select
  repeat' first
    | with_reducible exact Fr.refl _ _
    | with_reducible refine Fr.ite ?_ ?_
    | with_reducible refine State.chUp_fr (by decide) ?_
    | with_reducible refine State.note_fr (by decide) ?_ ?_
    | with_reducible refine State.off_fr (by decide) ?_ ?_
    | with_reducible refine State.paSend_fr (by decide) ?_
    | with_reducible refine State.setActive_fr (by decide) ?_
    | with_reducible refine Fr.pB ?_ ?_
    | exact Mask.okHigh (le_add1 (by decide))

theorem doHeadselWrite_fr {M : Mask} {z s : State} {c : Fin 32} {head : Fin 16} {fw : Bool} (hm : Mask.le { sent := true, ev := true, chT := true, paT := true, actT := true, lk := true } M = true) (h0 : Fr M z s) :
    Fr M z (doHeadselWrite c head fw s) := by
  refine Fr.via ?_ hm h0
  unfold doHeadselWrite
  repeat' first
    | with_reducible exact Fr.refl _ _
    | with_reducible refine Fr.ite ?_ ?_
    | with_reducible refine State.on_fr (by decide) ?_ ?_
    | with_reducible refine State.select_fr (by decide) ?_
    | with_reducible refine Fr.pB ?_ ?_
    | exact Mask.okHigh (le_add1 (by decide))

theorem execHeadselWrite_fr {s : State} {c : Fin 32} {head : Fin 16} {fw : Bool} : FrO { sent := true, ev := true, chT := true, paT := true, actT := true, lk := true } s (execHeadselWrite c head fw s) := by
  unfold execHeadselWrite
  repeat' first
    | with_reducible exact Fr.refl _ _
    | with_reducible refine FrO.next ?_
    | with_reducible refine doHeadselWrite_fr (by decide) ?_

theorem execHeadSelectApply_fr {s : State} {c : Fin 32} : FrO { sent := true, ev := true, chT := true, paT := true, actT := true, lk := true } s (execHeadSelectApply c s) := by
  unfold execHeadSelectApply
  repeat' first
    | with_reducible exact Fr.refl _ _
    | with_reducible refine FrO.next ?_
    | with_reducible refine Fr.ite ?_ ?_
    | with_reducible refine State.select_fr (by decide) ?_

theorem execHeadSettleDone_fr {s : State} {c : Fin 32} : FrO { chT := true, paT := true, actT := true } s (execHeadSettleDone c s) := by
  unfold execHeadSettleDone
  repeat' first
    | with_reducible exact Fr.refl _ _
    | with_reducible refine FrO.next ?_
    | with_reducible refine Fr.ite ?_ ?_
    | with_reducible refine State.chUp_fr (by decide) ?_
    | with_reducible refine State.paFlush_fr (by decide) ?_
    | with_reducible refine State.setActive_fr (by decide) ?_
    | split

theorem State.pfrLoad_fr {M : Mask} {z s : State} {r : Nat} (hm : Mask.le { md := true } M = true) (h0 : Fr M z s) :
    Fr M z (State.pfrLoad s r) := by
  refine Fr.via ?_ hm h0
  unfold State.pfrLoad
  repeat' first
    | with_reducible exact Fr.refl _ _
    | with_reducible refine Fr.ite ?_ ?_
    | with_reducible refine State.mdU_fr (by decide) (by first | rfl | (split <;> rfl)) ?_
    | with_reducible refine Fr.pB ?_ ?_
    | with_reducible refine Fr.wrB ?_ ?_
    | with_reducible refine Fr.each (fun _ _ => ?_) ?_
    | exact Mask.okHigh (le_add1 (le_add1 (by decide)))

theorem State.packFound_fr {M : Mask} {z s : State} (hm : Mask.le { sent := true, ev := true, unitT := true, ft := true, pw := true, md := true, chT := true, actT := true, spT := true, spWait := true, ar := true, jn := true, rb := true, lk := true, cm := true, hc := true, r4 := true, rmd := true, rpw := true } M = true) (h0 : Fr M z s) :
    Fr M z (State.packFound s) := by
  refine Fr.via ?_ hm h0
  unfold State.packFound
  repeat' first
    | with_reducible exact Fr.refl _ _
    | with_reducible refine Fr.ite ?_ ?_
    | refine Fr.pModeB (f := MD_MODE_HELD) (by decide) (by decide) (by decide) ?_
    | with_reducible refine State.fault_fr (by decide) ?_ ?_
    | with_reducible refine State.mdU_fr (by decide) (by first | rfl | (split <;> rfl)) ?_
    | with_reducible refine State.pfrLoad_fr (by decide) ?_
    | with_reducible refine State.setMem_fr (by decide) ?_
    | with_reducible refine Fr.pB ?_ ?_
    | with_reducible refine Fr.each (fun _ _ => ?_) ?_
    | split
    | (unfold Mask.ok; decide)

theorem State.packMask_fr {M : Mask} {z s : State} {a : Nat} {mask : Nat} (hm : Mask.le { sent := true, ev := true, unitT := true, ft := true, pw := true, md := true, chT := true, actT := true, spT := true, spWait := true, ar := true, jn := true, rb := true, lk := true, cm := true, hc := true, r4 := true, rmd := true, rpw := true } M = true) (h0 : Fr M z s) :
    Fr M z (State.packMask s a mask) := by
  refine Fr.via ?_ hm h0
  unfold State.packMask
  repeat' first
    | with_reducible exact Fr.refl _ _
    | with_reducible refine Fr.ite ?_ ?_
    | with_reducible refine State.mdU_fr (by decide) (by first | rfl | (split <;> rfl)) ?_
    | with_reducible refine State.packFound_fr (by decide) ?_

theorem State.fwFrame_fr {M : Mask} {z s : State} {a : Nat} {f : PaFrame} (hm : Mask.le { paT := true } M = true) (h0 : Fr M z s) :
    Fr M z (State.fwFrame s a f) := by
  refine Fr.via ?_ hm h0
  unfold State.fwFrame
  repeat' first
    | with_reducible exact Fr.refl _ _
    | with_reducible refine State.paStep_fr (by decide) ?_
    | with_reducible refine State.paUp_fr (by decide) ?_

theorem State.paFree_fr {M : Mask} {z s : State} {a : Nat} (hm : Mask.le { paT := true } M = true) (h0 : Fr M z s) :
    Fr M z (State.paFree s a) := by
  refine Fr.via ?_ hm h0
  unfold State.paFree
  repeat' first
    | with_reducible exact Fr.refl _ _
    | with_reducible refine State.paStep_fr (by decide) ?_

theorem doPreampAccess_fr {M : Mask} {z s : State} {a : Fin 8} {addr : Fin 128} {write : Bool} {data : BitVec 16} (hm : Mask.le { paT := true } M = true) (h0 : Fr M z s) :
    Fr M z (doPreampAccess a addr write data s) := by
  refine Fr.via ?_ hm h0
  unfold doPreampAccess
  repeat' first
    | with_reducible exact Fr.refl _ _
    | with_reducible refine Fr.ite ?_ ?_
    | with_reducible refine State.fwFrame_fr (by decide) ?_
    | with_reducible refine State.off_fr (by decide) ?_ ?_
    | with_reducible refine State.on_fr (by decide) ?_ ?_
    | with_reducible refine State.paUp_fr (by decide) ?_
    | with_reducible refine Fr.pB ?_ ?_
    | exact Mask.okHigh (le_add1 (by decide))

theorem execPreampAccess_fr {s : State} {a : Fin 8} {addr : Fin 128} {write : Bool} {data : BitVec 16} : FrO { paT := true } s (execPreampAccess a addr write data s) := by
  unfold execPreampAccess
  repeat' first
    | with_reducible exact Fr.refl _ _
    | with_reducible refine FrO.next ?_
    | with_reducible refine doPreampAccess_fr (by decide) ?_

theorem execPreampReadResponse_fr {s : State} {a : Fin 8} {data : BitVec 16} {crc : BitVec 8} {late : Bool} : FrO { sent := true, ev := true, unitT := true, ft := true, pw := true, md := true, chT := true, paT := true, actT := true, spT := true, spWait := true, ar := true, jn := true, rb := true, lk := true, cm := true, hc := true, r4 := true, rmd := true, rpw := true } s (execPreampReadResponse a data crc late s) := by
  unfold execPreampReadResponse
  repeat' first
    | with_reducible exact Fr.refl _ _
    | with_reducible refine FrO.next ?_
    | with_reducible refine Fr.ite ?_ ?_
    | with_reducible refine State.off_fr (by decide) ?_ ?_
    | with_reducible refine State.paFlush_fr (by decide) ?_
    | with_reducible refine State.paFree_fr (by decide) ?_
    | with_reducible refine State.paUp_fr (by decide) ?_
    | with_reducible refine State.packMask_fr (by decide) ?_
    | with_reducible refine State.raise_fr (by decide) ?_
    | with_reducible refine State.sat_fr (by decide) ?_ ?_
    | with_reducible refine Fr.pB ?_ ?_
    | exact Mask.okHigh (le_add1 (by decide))

theorem execPreampTimeout_fr {s : State} {a : Fin 8} : FrO { sent := true, ev := true, unitT := true, ft := true, pw := true, md := true, chT := true, paT := true, actT := true, spT := true, spWait := true, ar := true, jn := true, rb := true, lk := true, cm := true, hc := true, r4 := true, rmd := true, rpw := true } s (execPreampTimeout a s) := by
  unfold execPreampTimeout
  repeat' first
    | with_reducible exact Fr.refl _ _
    | with_reducible refine FrO.next ?_
    | with_reducible refine Fr.ite ?_ ?_
    | with_reducible refine State.fault_fr (by decide) ?_ ?_
    | with_reducible refine State.off_fr (by decide) ?_ ?_
    | with_reducible refine State.paFlush_fr (by decide) ?_
    | with_reducible refine State.paFree_fr (by decide) ?_
    | with_reducible refine State.paUp_fr (by decide) ?_
    | with_reducible refine Fr.pB ?_ ?_
    | exact Mask.okHigh (le_add1 (by decide))

theorem execPreampFault_fr {s : State} {a : Fin 8} : FrO { sent := true, ev := true, unitT := true, ft := true, pw := true, md := true, chT := true, paT := true, actT := true, spT := true, spWait := true, ar := true, jn := true, rb := true, lk := true, cm := true, hc := true, r4 := true, rmd := true, rpw := true } s (execPreampFault a s) := by
  unfold execPreampFault
  repeat' first
    | with_reducible exact Fr.refl _ _
    | with_reducible refine FrO.next ?_
    | with_reducible refine Fr.ite ?_ ?_
    | with_reducible refine State.chUp_fr (by decide) ?_
    | with_reducible refine State.fault_fr (by decide) ?_ ?_
    | with_reducible refine State.paUp_fr (by decide) ?_
    | with_reducible refine Fr.each (fun _ _ => ?_) ?_
    | exact Mask.okHigh (le_add1 (by decide))

theorem execPreampFaultRelease_fr {s : State} {a : Fin 8} : FrO { paT := true } s (execPreampFaultRelease a s) := by
  unfold execPreampFaultRelease
  repeat' first
    | with_reducible exact Fr.refl _ _
    | with_reducible refine FrO.next ?_
    | with_reducible refine State.paUp_fr (by decide) ?_

theorem State.outcome_fr {M : Mask} {z s : State} {c : Nat} {oc : Nat} {iter : Nat} {serr : Nat} {sofs : Int} (hm : Mask.le {} M = true) (h0 : Fr M z s) :
    Fr M z (State.outcome s c oc iter serr sofs) := by
  refine Fr.via ?_ hm h0
  unfold State.outcome
  repeat' first
    | with_reducible exact Fr.refl _ _
    | with_reducible refine Fr.ite ?_ ?_
    | with_reducible refine State.inc_fr (by decide) ?_ ?_
    | with_reducible refine State.on_fr (by decide) ?_ ?_
    | with_reducible refine State.sat_fr (by decide) ?_ ?_
    | with_reducible refine Fr.pB ?_ ?_
    | exact Mask.okHigh (le_add1 (by decide))

theorem State.opStart_fr {M : Mask} {z s : State} {c : Nat} {op : SecOp} {dir : Nat} {last : Bool} (hm : Mask.le { chT := true, paT := true } M = true) (h0 : Fr M z s) :
    Fr M z (State.opStart s c op dir last) := by
  refine Fr.via ?_ hm h0
  unfold State.opStart
  repeat' first
    | with_reducible exact Fr.refl _ _
    | with_reducible refine State.chUp_fr (by decide) ?_
    | with_reducible refine State.paFlush_fr (by decide) ?_
    | with_reducible refine State.paModeTo_fr (by decide) ?_
    | with_reducible refine Fr.pB ?_ ?_
    | with_reducible refine Fr.when (fun _ => ?_) ?_
    | exact Mask.okHigh (le_add1 (by decide))

theorem State.smemRead_fr {M : Mask} {z s : State} {c : Nat} (hm : Mask.le { rdata := true } M = true) (h0 : Fr M z s) :
    Fr M z (State.smemRead s c) := by
  refine Fr.via ?_ hm h0
  unfold State.smemRead
  repeat' first
    | with_reducible exact Fr.refl _ _
    | with_reducible refine Fr.pB ?_ ?_
    | split
    | exact Mask.okHigh (le_add1 (by decide))
    | (apply Fr.leafB <;> first | rfl | exact .inl rfl | exact .inr rfl | guard_target =~ Fr _ _ _)

theorem execSmemDataRead_fr {s : State} {c : Fin 32} : FrO { rdata := true } s (execSmemDataRead c s) := by
  unfold execSmemDataRead
  repeat' first
    | with_reducible exact Fr.refl _ _
    | with_reducible refine FrO.next ?_
    | with_reducible refine State.smemRead_fr (by decide) ?_

theorem State.smemFresh_fr {M : Mask} {z s : State} {c : Nat} (hm : Mask.le { chT := true } M = true) (h0 : Fr M z s) :
    Fr M z (State.smemFresh s c) := by
  refine Fr.via ?_ hm h0
  unfold State.smemFresh
  repeat' first
    | with_reducible exact Fr.refl _ _
    | with_reducible refine State.chUp_fr (by decide) ?_

end Sys2Proof.Machine
end

