-- ==== Sys2Proof/Laws/FrMc.lean ====
section
/-! SUPPORT. Laws/FrMc.lean: what each operation of Machine/Mc.lean may touch: the lemma that later proofs cite in
place of unfolding it. -/

namespace Sys2Proof.Machine

open Reg

theorem State.mctxUp_fr {M : Mask} {z s : State} {n : Nat} {f : CtxState → CtxState} (hm : Mask.le { mc := true } M = true) (h0 : Fr M z s) :
    Fr M z (State.mctxUp s n f) := by
  refine Fr.via ?_ hm h0
  unfold State.mctxUp
  repeat' first
    | with_reducible exact Fr.refl _ _
    | with_reducible refine State.mcU_fr (by decide) ?_

theorem State.mcOcc_fr {M : Mask} {z s : State} (hm : Mask.le {} M = true) (h0 : Fr M z s) :
    Fr M z (State.mcOcc s) := by
  refine Fr.via ?_ hm h0
  unfold State.mcOcc
  repeat' first
    | with_reducible exact Fr.refl _ _
    | with_reducible refine Fr.pB ?_ ?_
    | exact Mask.okHigh (Nat.le_of_ble_eq_true rfl)

theorem State.freeList_fr {M : Mask} {z : State} {k : Nat} (hm : Mask.le { free := true } M = true) :
    ∀ {s : State}, Fr M z s → Fr M z (s.freeList k).2 := by
  induction k with
  | zero => exact fun h => h
  | succ k ih => exact fun h => ih (State.free_fr hm h)

theorem State.ctxStart_fr {M : Mask} {z s : State} {id : Nat} {n : Nat} {e : Nat} (hm : Mask.le { free := true, cm := true, mc := true } M = true) (h0 : Fr M z s) :
    Fr M z (State.ctxStart s id n e) := by
  refine Fr.via ?_ hm h0
  unfold State.ctxStart
  repeat' first
    | with_reducible exact Fr.refl _ _
    | with_reducible refine State.cmdUp_fr (by decide) ?_
    | with_reducible refine State.free_fr (by decide) ?_
    | with_reducible refine State.freeList_fr (by decide) ?_
    | with_reducible refine State.mcOcc_fr (by decide) ?_
    | with_reducible refine State.mctxUp_fr (by decide) ?_

theorem execContextDispatch_fr {s : State} {id : Nat} : FrO { free := true, cm := true, bm := true, mem := true, mc := true } s (execContextDispatch id s) := by
  unfold execContextDispatch
  repeat' first
    | with_reducible exact Fr.refl _ _
    | with_reducible refine FrO.next ?_
    | with_reducible refine Fr.ite ?_ ?_
    | with_reducible refine State.cmdUp_fr (by decide) ?_
    | with_reducible refine State.complete_fr (by decide) ?_
    | with_reducible refine State.ctxStart_fr (by decide) ?_
    | split

theorem State.trapTake_fr {M : Mask} {z s : State} {n : Nat} {tr : Trap} {restart : Bool} (hm : Mask.le { mc := true } M = true) (h0 : Fr M z s) :
    Fr M z (State.trapTake s n tr restart) := by
  refine Fr.via ?_ hm h0
  unfold State.trapTake
  repeat' first
    | with_reducible exact Fr.refl _ _
    | with_reducible refine State.inc_fr (by decide) ?_ ?_
    | with_reducible refine State.mctxUp_fr (by decide) ?_
    | exact Mask.okHigh (Nat.le_of_ble_eq_true rfl)

theorem State.libDrop_fr {M : Mask} {z s : State} {n : Nat} (hm : Mask.le { jn := true, cm := true, bm := true } M = true) (h0 : Fr M z s) :
    Fr M z (State.libDrop s n) := by
  refine Fr.via ?_ hm h0
  unfold State.libDrop
  repeat' first
    | with_reducible exact Fr.refl _ _
    | with_reducible refine Fr.ite ?_ ?_
    | with_reducible refine State.cmU_fr (by decide) ?_
    | with_reducible refine State.cmdFree_fr (by decide) ?_
    | with_reducible refine State.cutOff_fr (by decide) ?_
    | with_reducible refine State.uncapture_fr (by decide) ?_
    | with_reducible refine Fr.each (fun _ _ => ?_) ?_

theorem State.ctxEnd_fr {M : Mask} {z s : State} {n : Nat} {status : Nat} {result : Nat} (hm : Mask.le { sent := true, ev := true, unitT := true, ft := true, pw := true, md := true, chT := true, ldT := true, actT := true, spT := true, spWait := true, ar := true, jn := true, rb := true, lk := true, qm := true, cm := true, hc := true, dm := true, bm := true, mem := true, mc := true, r4 := true, rmd := true, rpw := true } M = true) (h0 : Fr M z s) :
    Fr M z (State.ctxEnd s n status result) := by
  refine Fr.via ?_ hm h0
  unfold State.ctxEnd
  repeat' first
    | with_reducible exact Fr.refl _ _
    | with_reducible refine State.chanSweep_fr (by decide) ?_
    | with_reducible refine State.complete_fr (by decide) ?_
    | with_reducible refine State.ctxSweep_fr (by decide) ?_
    | with_reducible refine State.libDrop_fr (by decide) ?_

theorem State.trapSift_fr {M : Mask} {z s : State} {n : Nat} (hm : Mask.le { mc := true } M = true) (h0 : Fr M z s) :
    Fr M z (State.trapSift s n) := by
  refine Fr.via ?_ hm h0
  unfold State.trapSift
  repeat' first
    | with_reducible exact Fr.refl _ _
    | with_reducible refine Fr.ite ?_ ?_
    | with_reducible refine State.mctxUp_fr (by decide) ?_
    | with_reducible refine State.sat_fr (by decide) ?_ ?_
    | with_reducible refine Fr.when (fun _ => ?_) ?_
    | exact Mask.okHigh (Nat.le_of_ble_eq_true rfl)

theorem State.trapRun_fr {M : Mask} {z s : State} {n : Nat} {tr : Trap} (hm : Mask.le { sent := true, ev := true, unitT := true, ft := true, pw := true, md := true, chT := true, ldT := true, actT := true, spT := true, spWait := true, ar := true, jn := true, rb := true, lk := true, qm := true, cm := true, hc := true, dm := true, bm := true, mem := true, mc := true, r4 := true, rmd := true, rpw := true } M = true) (h0 : Fr M z s) :
    Fr M z (State.trapRun s n tr) := by
  refine Fr.via ?_ hm h0
  unfold State.trapRun
  repeat' first
    | with_reducible exact Fr.refl _ _
    | with_reducible refine Fr.ite ?_ ?_
    | with_reducible refine State.ctxEnd_fr (by decide) ?_
    | with_reducible refine State.mctxUp_fr (by decide) ?_
    | with_reducible refine State.trapTake_fr (by decide) ?_

theorem State.storeReload_fr {M : Mask} {z s : State} {n : Nat} {key : Nat} {imgUe : Bool} (hm : Mask.le { sent := true, ev := true, unitT := true, ft := true, pw := true, md := true, chT := true, ldT := true, actT := true, spT := true, spWait := true, ar := true, jn := true, rb := true, lk := true, qm := true, cm := true, hc := true, dm := true, bm := true, mem := true, mc := true, r4 := true, rmd := true, rpw := true } M = true) (h0 : Fr M z s) :
    Fr M z (State.storeReload s n key imgUe) := by
  refine Fr.via ?_ hm h0
  unfold State.storeReload
  repeat' first
    | with_reducible exact Fr.refl _ _
    | with_reducible refine Fr.ite ?_ ?_
    | with_reducible refine State.ctxEnd_fr (by decide) ?_
    | with_reducible refine State.fault_fr (by decide) ?_ ?_
    | with_reducible refine State.mcU_fr (by decide) ?_
    | with_reducible refine State.note_fr (by decide) ?_ ?_
    | with_reducible refine State.sat_fr (by decide) ?_ ?_
    | exact Mask.okHigh (Nat.le_of_ble_eq_true rfl)

theorem State.illegal_fr {M : Mask} {z s : State} {n : Nat} {imgUe : Bool} (hm : Mask.le { sent := true, ev := true, unitT := true, ft := true, pw := true, md := true, chT := true, ldT := true, actT := true, spT := true, spWait := true, ar := true, jn := true, rb := true, lk := true, qm := true, cm := true, hc := true, dm := true, bm := true, mem := true, mc := true, r4 := true, rmd := true, rpw := true } M = true) (h0 : Fr M z s) :
    Fr M z (State.illegal s n imgUe) := by
  refine Fr.via ?_ hm h0
  unfold State.illegal
  repeat' first
    | with_reducible exact Fr.refl _ _
    | with_reducible refine Fr.ite ?_ ?_
    | with_reducible refine State.ctxEnd_fr (by decide) ?_
    | with_reducible refine State.mcU_fr (by decide) ?_
    | with_reducible refine State.note_fr (by decide) ?_ ?_
    | with_reducible refine State.sat_fr (by decide) ?_ ?_
    | with_reducible refine State.storeReload_fr (by decide) ?_
    | with_reducible refine State.trapTake_fr (by decide) ?_
    | exact Mask.okHigh (Nat.le_of_ble_eq_true rfl)

theorem State.ctxPnr_fr {M : Mask} {z s : State} {c : CtxState} (hm : Mask.le { cm := true } M = true) (h0 : Fr M z s) :
    Fr M z (State.ctxPnr s c) := by
  refine Fr.via ?_ hm h0
  unfold State.ctxPnr
  repeat' first
    | with_reducible exact Fr.refl _ _
    | with_reducible refine State.cmdUp_fr (by decide) ?_

theorem State.dmaSet_fr {M : Mask} {z s : State} {n : Nat} {c : CtxState} {w : Nat} {k : Nat} {shadow : Bool} (hm : Mask.le { cm := true } M = true) (h0 : Fr M z s) :
    Fr M z (State.dmaSet s n c w k shadow) := by
  refine Fr.via ?_ hm h0
  unfold State.dmaSet
  repeat' first
    | with_reducible exact Fr.refl _ _
    | with_reducible refine Fr.ite ?_ ?_
    | with_reducible refine State.ctxPnr_fr (by decide) ?_
    | with_reducible refine State.setPair_fr ?_ ?_ ?_
    | with_reducible refine Fr.pB ?_ ?_
    | with_reducible refine Fr.wrB ?_ ?_
    | with_reducible refine Fr.when (fun _ => ?_) ?_
    | exact Mask.okHigh (le_add1 (by decide))

theorem State.unitGo_fr {M : Mask} {z s : State} {n : Nat} {c : CtxState} {w : Nat} (hm : Mask.le { sent := true, ev := true, unitT := true, ft := true, pw := true, md := true, chT := true, actT := true, spT := true, spWait := true, ar := true, jn := true, rb := true, lk := true, qm := true, cm := true, hc := true, dm := true, bm := true, mem := true, mc := true, r4 := true, rmd := true, rpw := true } M = true) (h0 : Fr M z s) :
    Fr M z (State.unitGo s n c w) := by
  refine Fr.via ?_ hm h0
  unfold State.unitGo
  repeat' first
    | with_reducible exact Fr.refl _ _
    | with_reducible refine Fr.ite ?_ ?_
    | with_reducible refine State.dStart_fr (by decide) ?_
    | with_reducible refine State.dchUp_fr (by decide) ?_
    | with_reducible refine State.dmaSet_fr (by decide) ?_
    | with_reducible refine State.off_fr (by decide) ?_ ?_
    | exact Mask.okHigh (le_add1 (by decide))

theorem State.unitArm_fr {M : Mask} {z s : State} {n : Nat} {c : CtxState} {w : Nat} (hm : Mask.le { sent := true, ev := true, unitT := true, ft := true, pw := true, md := true, chT := true, actT := true, spT := true, spWait := true, ar := true, jn := true, rb := true, lk := true, qm := true, cm := true, hc := true, dm := true, bm := true, mem := true, mc := true, r4 := true, rmd := true, rpw := true } M = true) (h0 : Fr M z s) :
    Fr M z (State.unitArm s n c w) := by
  refine Fr.via ?_ hm h0
  unfold State.unitArm
  repeat' first
    | with_reducible exact Fr.refl _ _
    | with_reducible refine Fr.ite ?_ ?_
    | with_reducible refine State.dArm_fr (by decide) ?_
    | with_reducible refine State.dchUp_fr (by decide) ?_
    | with_reducible refine State.dmaSet_fr (by decide) ?_

theorem State.unitPe_fr {M : Mask} {z s : State} {n : Nat} {c : CtxState} {w : Nat} (hm : Mask.le { ar := true, mc := true } M = true) (h0 : Fr M z s) :
    Fr M z (State.unitPe s n c w) := by
  refine Fr.via ?_ hm h0
  unfold State.unitPe
  repeat' first
    | with_reducible exact Fr.refl _ _
    | with_reducible refine State.mctxUp_fr (by decide) ?_
    | with_reducible refine State.peSubmit_fr (by decide) ?_

theorem State.unitSreq_fr {M : Mask} {z s : State} {c : CtxState} {w : Nat} (hm : Mask.le { sent := true, ev := true, unitT := true, ft := true, pw := true, md := true, chT := true, actT := true, spT := true, spWait := true, ar := true, jn := true, rb := true, lk := true, cm := true, hc := true, dm := true, bm := true, mem := true, mc := true, r4 := true, rmd := true, rpw := true } M = true) (h0 : Fr M z s) :
    Fr M z (State.unitSreq s c w) := by
  refine Fr.via ?_ hm h0
  unfold State.unitSreq
  repeat' first
    | with_reducible exact Fr.refl _ _
    | with_reducible refine State.dmU_fr (by decide) (by first | exact .inl rfl | exact .inr rfl | (split <;> exact .inr rfl)) ?_
    | with_reducible refine State.perRequest_fr (by decide) ?_

theorem State.unitRelease_fr {M : Mask} {z s : State} {n : Nat} {c : CtxState} {w : Nat} (hm : Mask.le { lk := true, dm := true, mc := true } M = true) (h0 : Fr M z s) :
    Fr M z (State.unitRelease s n c w) := by
  refine Fr.via ?_ hm h0
  unfold State.unitRelease
  repeat' first
    | with_reducible exact Fr.refl _ _
    | with_reducible refine Fr.ite ?_ ?_
    | with_reducible refine State.dRelease_fr (by decide) ?_
    | with_reducible refine State.mctxUp_fr (by decide) ?_

theorem State.hostStore_fr {M : Mask} {z s : State} {n : Nat} {c : CtxState} {addr : Nat} {size : Nat} {v : Nat} (hm : Mask.le { sent := true, ev := true, lk := true, cm := true, hc := true, mc := true } M = true) (h0 : Fr M z s) :
    Fr M z (State.hostStore s n c addr size v) := by
  refine Fr.via ?_ hm h0
  unfold State.hostStore
  repeat' first
    | with_reducible exact Fr.refl _ _
    | with_reducible refine Fr.ite ?_ ?_
    | with_reducible refine State.ctxPnr_fr (by decide) ?_
    | with_reducible refine State.hcWrite_fr (by decide) ?_
    | with_reducible refine State.mctxUp_fr (by decide) ?_
    | split
    | (apply Fr.leafB <;> first | rfl | exact .inl rfl | exact .inr rfl | guard_target =~ Fr _ _ _)

theorem State.libStart_fr {M : Mask} {z s : State} {n : Nat} {t : Nat} {v : Nat} {b : Nat} {k : Nat} {dst : Nat} (hm : Mask.le { sent := true, ev := true, unitT := true, ft := true, pw := true, md := true, chT := true, ldT := true, actT := true, spT := true, spWait := true, ar := true, jn := true, rb := true, lk := true, qm := true, cm := true, hc := true, dm := true, bm := true, mem := true, mc := true, r4 := true, rmd := true, rpw := true } M = true) (h0 : Fr M z s) :
    Fr M z (State.libStart s n t v b k dst) := by
  refine Fr.via ?_ hm h0
  unfold State.libStart
  repeat' first
    | with_reducible exact Fr.refl _ _
    | with_reducible refine Fr.ite ?_ ?_
    | with_reducible refine State.cmU_fr (by decide) ?_
    | with_reducible refine State.cmdUp_fr (by decide) ?_
    | with_reducible refine State.complete_fr (by decide) ?_
    | with_reducible refine State.flushDone_fr (by decide) ?_
    | with_reducible refine State.mctxUp_fr (by decide) ?_
    | with_reducible refine State.opRead_fr (by decide) ?_
    | with_reducible refine State.start_fr (by decide) ?_
    | with_reducible refine State.writeData_fr (by decide) ?_

theorem State.libCall_fr {M : Mask} {z s : State} {n : Nat} {t : Nat} (hm : Mask.le { sent := true, ev := true, unitT := true, ft := true, pw := true, md := true, chT := true, ldT := true, actT := true, spT := true, spWait := true, ar := true, jn := true, rb := true, lk := true, qm := true, cm := true, hc := true, dm := true, bm := true, mem := true, mc := true, r4 := true, rmd := true, rpw := true } M = true) (h0 : Fr M z s) :
    Fr M z (State.libCall s n t) := by
  refine Fr.via ?_ hm h0
  unfold State.libCall
  repeat' first
    | with_reducible exact Fr.refl _ _
    | with_reducible refine Fr.ite ?_ ?_
    | with_reducible refine State.libStart_fr (by decide) ?_
    | with_reducible refine State.mctxUp_fr (by decide) ?_

theorem State.unitOp_fr {M : Mask} {z s : State} {n : Nat} {c : CtxState} {w : Nat} (hm : Mask.le { sent := true, ev := true, unitT := true, ft := true, pw := true, md := true, chT := true, actT := true, spT := true, spWait := true, ar := true, jn := true, rb := true, lk := true, qm := true, cm := true, hc := true, dm := true, bm := true, mem := true, mc := true, r4 := true, rmd := true, rpw := true } M = true) (h0 : Fr M z s) :
    Fr M z (State.unitOp s n c w) := by
  refine Fr.via ?_ hm h0
  unfold State.unitOp
  repeat' first
    | with_reducible exact Fr.refl _ _
    | with_reducible refine Fr.ite ?_ ?_
    | with_reducible refine State.mctxUp_fr (by decide) ?_
    | with_reducible refine State.unitArm_fr (by decide) ?_
    | with_reducible refine State.unitGo_fr (by decide) ?_
    | with_reducible refine State.unitPe_fr (by decide) ?_
    | with_reducible refine State.unitRelease_fr (by decide) ?_
    | with_reducible refine State.unitSreq_fr (by decide) ?_
    | split

theorem State.mwNext_fr {M : Mask} {z s : State} {n : Nat} {c : CtxState} {mw : Nat} {w : Nat} (hm : Mask.le { sent := true, ev := true, unitT := true, ft := true, pw := true, md := true, chT := true, ldT := true, actT := true, spT := true, spWait := true, ar := true, jn := true, rb := true, lk := true, qm := true, cm := true, hc := true, dm := true, bm := true, mem := true, mc := true, r4 := true, rmd := true, rpw := true } M = true) (h0 : Fr M z s) :
    Fr M z (State.mwNext s n c mw w) := by
  refine Fr.via ?_ hm h0
  unfold State.mwNext
  repeat' first
    | with_reducible exact Fr.refl _ _
    | with_reducible refine Fr.ite ?_ ?_
    | with_reducible refine State.ctxEnd_fr (by decide) ?_
    | with_reducible refine State.libCall_fr (by decide) ?_
    | with_reducible refine State.mctxUp_fr (by decide) ?_
    | with_reducible refine State.sat_fr (by decide) ?_ ?_
    | with_reducible refine Fr.when (fun _ => ?_) ?_
    | exact Mask.okHigh (Nat.le_of_ble_eq_true rfl)

theorem State.mwApply_fr {M : Mask} {z s : State} {n : Nat} {mw : Nat} {w : Nat} (hm : Mask.le { free := true, sent := true, ev := true, unitT := true, ft := true, pw := true, md := true, chT := true, ldT := true, actT := true, spT := true, spWait := true, ar := true, jn := true, rb := true, lk := true, qm := true, cm := true, hc := true, dm := true, bm := true, mem := true, mc := true, r4 := true, rmd := true, rpw := true } M = true) (h0 : Fr M z s) :
    Fr M z (State.mwApply s n mw w) := by
  refine Fr.via ?_ hm h0
  unfold State.mwApply
  repeat' first
    | with_reducible exact Fr.refl _ _
    | with_reducible refine Fr.ite ?_ ?_
    | with_reducible refine Fr.ite2 ?_ ?_
    | with_reducible refine State.bWr_fr (by decide) ?_
    | with_reducible refine State.cmdUp_fr (by decide) ?_
    | with_reducible refine State.free_fr (by decide) ?_
    | with_reducible refine State.hostStore_fr (by decide) ?_
    | with_reducible refine State.mcOcc_fr (by decide) ?_
    | with_reducible refine State.mctxUp_fr (by decide) ?_
    | with_reducible refine State.mwNext_fr (by decide) ?_
    | with_reducible refine State.unitOp_fr (by decide) ?_

theorem State.mwRun_fr {M : Mask} {z s : State} {n : Nat} {mw : Nat} {w : Nat} {met : Bool} (hm : Mask.le { free := true, sent := true, ev := true, unitT := true, ft := true, pw := true, md := true, chT := true, ldT := true, actT := true, spT := true, spWait := true, ar := true, jn := true, rb := true, lk := true, qm := true, cm := true, hc := true, dm := true, bm := true, mem := true, mc := true, r4 := true, rmd := true, rpw := true } M = true) (h0 : Fr M z s) :
    Fr M z (State.mwRun s n mw w met) := by
  refine Fr.via ?_ hm h0
  unfold State.mwRun
  repeat' first
    | with_reducible exact Fr.refl _ _
    | with_reducible refine Fr.ite ?_ ?_
    | with_reducible refine State.hostLoad_fr (by decide) ?_
    | with_reducible refine State.mctxUp_fr (by decide) ?_
    | with_reducible refine State.mwApply_fr (by decide) ?_

theorem State.turnOn_fr {M : Mask} {z s : State} {n : Nat} (hm : Mask.le { mc := true } M = true) (h0 : Fr M z s) :
    Fr M z (State.turnOn s n) := by
  refine Fr.via ?_ hm h0
  unfold State.turnOn
  repeat' first
    | with_reducible exact Fr.refl _ _
    | with_reducible refine State.mcU_fr (by decide) ?_

theorem State.mwOf_fr {M : Mask} {z s : State} {n : Nat} {kind : CtxState → Nat → Nat → Bool} (hm : Mask.le { free := true, sent := true, ev := true, unitT := true, ft := true, pw := true, md := true, chT := true, ldT := true, actT := true, spT := true, spWait := true, ar := true, jn := true, rb := true, lk := true, qm := true, cm := true, hc := true, dm := true, bm := true, mem := true, mc := true, r4 := true, rmd := true, rpw := true } M = true) (h0 : Fr M z s) :
    Fr M z (State.mwOf s n kind) := by
  refine Fr.via ?_ hm h0
  unfold State.mwOf
  repeat' first
    | with_reducible exact Fr.refl _ _
    | with_reducible refine Fr.ite ?_ ?_
    | with_reducible refine State.illegal_fr (by decide) ?_
    | with_reducible refine State.mwRun_fr (by decide) ?_
    | with_reducible refine State.turnOn_fr (by decide) ?_

theorem execMicrowordExecute_fr {s : State} {n : Fin 256} {imgUe : Bool} : FrO { free := true, sent := true, ev := true, unitT := true, ft := true, pw := true, md := true, chT := true, ldT := true, actT := true, spT := true, spWait := true, ar := true, jn := true, rb := true, lk := true, qm := true, cm := true, hc := true, dm := true, bm := true, mem := true, mc := true, r4 := true, rmd := true, rpw := true } s (execMicrowordExecute n imgUe s) := by
  unfold execMicrowordExecute
  repeat' first
    | with_reducible exact Fr.refl _ _
    | with_reducible refine FrO.next ?_
    | with_reducible refine Fr.ite ?_ ?_
    | with_reducible refine State.ctxEnd_fr (by decide) ?_
    | with_reducible refine State.fault_fr (by decide) ?_ ?_
    | with_reducible refine State.illegal_fr (by decide) ?_
    | with_reducible refine State.inc_fr (by decide) ?_ ?_
    | with_reducible refine State.mwRun_fr (by decide) ?_
    | with_reducible refine State.storeReload_fr (by decide) ?_
    | with_reducible refine State.trapRun_fr (by decide) ?_
    | with_reducible refine State.trapSift_fr (by decide) ?_
    | with_reducible refine State.trapTake_fr (by decide) ?_
    | with_reducible refine State.turnOn_fr (by decide) ?_
    | split
    | exact Mask.okHigh (Nat.le_of_ble_eq_true rfl)
    | (apply Fr.leafB <;> first | rfl | exact .inl rfl | exact .inr rfl | guard_target =~ Fr _ _ _)

theorem execSeqNext_fr {s : State} {n : Fin 256} : FrO { free := true, sent := true, ev := true, unitT := true, ft := true, pw := true, md := true, chT := true, ldT := true, actT := true, spT := true, spWait := true, ar := true, jn := true, rb := true, lk := true, qm := true, cm := true, hc := true, dm := true, bm := true, mem := true, mc := true, r4 := true, rmd := true, rpw := true } s (execSeqNext n s) := by
  unfold execSeqNext
  repeat' first
    | with_reducible exact Fr.refl _ _
    | with_reducible refine FrO.next ?_
    | with_reducible refine State.mwOf_fr (by decide) ?_

theorem execSeqJump_fr {s : State} {n : Fin 256} : FrO { free := true, sent := true, ev := true, unitT := true, ft := true, pw := true, md := true, chT := true, ldT := true, actT := true, spT := true, spWait := true, ar := true, jn := true, rb := true, lk := true, qm := true, cm := true, hc := true, dm := true, bm := true, mem := true, mc := true, r4 := true, rmd := true, rpw := true } s (execSeqJump n s) := by
  unfold execSeqJump
  repeat' first
    | with_reducible exact Fr.refl _ _
    | with_reducible refine FrO.next ?_
    | with_reducible refine State.mwOf_fr (by decide) ?_

theorem execSeqBranch_fr {s : State} {n : Fin 256} : FrO { free := true, sent := true, ev := true, unitT := true, ft := true, pw := true, md := true, chT := true, ldT := true, actT := true, spT := true, spWait := true, ar := true, jn := true, rb := true, lk := true, qm := true, cm := true, hc := true, dm := true, bm := true, mem := true, mc := true, r4 := true, rmd := true, rpw := true } s (execSeqBranch n s) := by
  unfold execSeqBranch
  repeat' first
    | with_reducible exact Fr.refl _ _
    | with_reducible refine FrO.next ?_
    | with_reducible refine State.mwOf_fr (by decide) ?_

theorem execSeqCall_fr {s : State} {n : Fin 256} : FrO { free := true, sent := true, ev := true, unitT := true, ft := true, pw := true, md := true, chT := true, ldT := true, actT := true, spT := true, spWait := true, ar := true, jn := true, rb := true, lk := true, qm := true, cm := true, hc := true, dm := true, bm := true, mem := true, mc := true, r4 := true, rmd := true, rpw := true } s (execSeqCall n s) := by
  unfold execSeqCall
  repeat' first
    | with_reducible exact Fr.refl _ _
    | with_reducible refine FrO.next ?_
    | with_reducible refine State.mwOf_fr (by decide) ?_

theorem execSeqReturn_fr {s : State} {n : Fin 256} : FrO { free := true, sent := true, ev := true, unitT := true, ft := true, pw := true, md := true, chT := true, ldT := true, actT := true, spT := true, spWait := true, ar := true, jn := true, rb := true, lk := true, qm := true, cm := true, hc := true, dm := true, bm := true, mem := true, mc := true, r4 := true, rmd := true, rpw := true } s (execSeqReturn n s) := by
  unfold execSeqReturn
  repeat' first
    | with_reducible exact Fr.refl _ _
    | with_reducible refine FrO.next ?_
    | with_reducible refine State.mwOf_fr (by decide) ?_

theorem execSeqWait_fr {s : State} {n : Fin 256} : FrO { free := true, sent := true, ev := true, unitT := true, ft := true, pw := true, md := true, chT := true, ldT := true, actT := true, spT := true, spWait := true, ar := true, jn := true, rb := true, lk := true, qm := true, cm := true, hc := true, dm := true, bm := true, mem := true, mc := true, r4 := true, rmd := true, rpw := true } s (execSeqWait n s) := by
  unfold execSeqWait
  repeat' first
    | with_reducible exact Fr.refl _ _
    | with_reducible refine FrO.next ?_
    | with_reducible refine State.mwOf_fr (by decide) ?_

theorem execSeqDispatch_fr {s : State} {n : Fin 256} : FrO { free := true, sent := true, ev := true, unitT := true, ft := true, pw := true, md := true, chT := true, ldT := true, actT := true, spT := true, spWait := true, ar := true, jn := true, rb := true, lk := true, qm := true, cm := true, hc := true, dm := true, bm := true, mem := true, mc := true, r4 := true, rmd := true, rpw := true } s (execSeqDispatch n s) := by
  unfold execSeqDispatch
  repeat' first
    | with_reducible exact Fr.refl _ _
    | with_reducible refine FrO.next ?_
    | with_reducible refine State.mwOf_fr (by decide) ?_

theorem execSeqEnd_fr {s : State} {n : Fin 256} : FrO { free := true, sent := true, ev := true, unitT := true, ft := true, pw := true, md := true, chT := true, ldT := true, actT := true, spT := true, spWait := true, ar := true, jn := true, rb := true, lk := true, qm := true, cm := true, hc := true, dm := true, bm := true, mem := true, mc := true, r4 := true, rmd := true, rpw := true } s (execSeqEnd n s) := by
  unfold execSeqEnd
  repeat' first
    | with_reducible exact Fr.refl _ _
    | with_reducible refine FrO.next ?_
    | with_reducible refine State.mwOf_fr (by decide) ?_

theorem execWaitEventDone_fr {s : State} {n : Fin 256} : FrO { free := true, sent := true, ev := true, unitT := true, ft := true, pw := true, md := true, chT := true, ldT := true, actT := true, spT := true, spWait := true, ar := true, jn := true, rb := true, lk := true, qm := true, cm := true, hc := true, dm := true, bm := true, mem := true, mc := true, r4 := true, rmd := true, rpw := true } s (execWaitEventDone n s) := by
  unfold execWaitEventDone
  repeat' first
    | with_reducible exact Fr.refl _ _
    | with_reducible refine FrO.next ?_
    | with_reducible refine Fr.ite ?_ ?_
    | with_reducible refine State.mctxUp_fr (by decide) ?_
    | with_reducible refine State.mwRun_fr (by decide) ?_

theorem execAluPass_fr {s : State} {n : Fin 256} : FrO { free := true, sent := true, ev := true, unitT := true, ft := true, pw := true, md := true, chT := true, ldT := true, actT := true, spT := true, spWait := true, ar := true, jn := true, rb := true, lk := true, qm := true, cm := true, hc := true, dm := true, bm := true, mem := true, mc := true, r4 := true, rmd := true, rpw := true } s (execAluPass n s) := by
  unfold execAluPass
  repeat' first
    | with_reducible exact Fr.refl _ _
    | with_reducible refine FrO.next ?_
    | with_reducible refine State.mwOf_fr (by decide) ?_

theorem execAluAdd_fr {s : State} {n : Fin 256} : FrO { free := true, sent := true, ev := true, unitT := true, ft := true, pw := true, md := true, chT := true, ldT := true, actT := true, spT := true, spWait := true, ar := true, jn := true, rb := true, lk := true, qm := true, cm := true, hc := true, dm := true, bm := true, mem := true, mc := true, r4 := true, rmd := true, rpw := true } s (execAluAdd n s) := by
  unfold execAluAdd
  repeat' first
    | with_reducible exact Fr.refl _ _
    | with_reducible refine FrO.next ?_
    | with_reducible refine State.mwOf_fr (by decide) ?_

theorem execAluSub_fr {s : State} {n : Fin 256} : FrO { free := true, sent := true, ev := true, unitT := true, ft := true, pw := true, md := true, chT := true, ldT := true, actT := true, spT := true, spWait := true, ar := true, jn := true, rb := true, lk := true, qm := true, cm := true, hc := true, dm := true, bm := true, mem := true, mc := true, r4 := true, rmd := true, rpw := true } s (execAluSub n s) := by
  unfold execAluSub
  repeat' first
    | with_reducible exact Fr.refl _ _
    | with_reducible refine FrO.next ?_
    | with_reducible refine State.mwOf_fr (by decide) ?_

theorem execAluAnd_fr {s : State} {n : Fin 256} : FrO { free := true, sent := true, ev := true, unitT := true, ft := true, pw := true, md := true, chT := true, ldT := true, actT := true, spT := true, spWait := true, ar := true, jn := true, rb := true, lk := true, qm := true, cm := true, hc := true, dm := true, bm := true, mem := true, mc := true, r4 := true, rmd := true, rpw := true } s (execAluAnd n s) := by
  unfold execAluAnd
  repeat' first
    | with_reducible exact Fr.refl _ _
    | with_reducible refine FrO.next ?_
    | with_reducible refine State.mwOf_fr (by decide) ?_

theorem execAluOr_fr {s : State} {n : Fin 256} : FrO { free := true, sent := true, ev := true, unitT := true, ft := true, pw := true, md := true, chT := true, ldT := true, actT := true, spT := true, spWait := true, ar := true, jn := true, rb := true, lk := true, qm := true, cm := true, hc := true, dm := true, bm := true, mem := true, mc := true, r4 := true, rmd := true, rpw := true } s (execAluOr n s) := by
  unfold execAluOr
  repeat' first
    | with_reducible exact Fr.refl _ _
    | with_reducible refine FrO.next ?_
    | with_reducible refine State.mwOf_fr (by decide) ?_

theorem execAluXor_fr {s : State} {n : Fin 256} : FrO { free := true, sent := true, ev := true, unitT := true, ft := true, pw := true, md := true, chT := true, ldT := true, actT := true, spT := true, spWait := true, ar := true, jn := true, rb := true, lk := true, qm := true, cm := true, hc := true, dm := true, bm := true, mem := true, mc := true, r4 := true, rmd := true, rpw := true } s (execAluXor n s) := by
  unfold execAluXor
  repeat' first
    | with_reducible exact Fr.refl _ _
    | with_reducible refine FrO.next ?_
    | with_reducible refine State.mwOf_fr (by decide) ?_

theorem execAluShl_fr {s : State} {n : Fin 256} : FrO { free := true, sent := true, ev := true, unitT := true, ft := true, pw := true, md := true, chT := true, ldT := true, actT := true, spT := true, spWait := true, ar := true, jn := true, rb := true, lk := true, qm := true, cm := true, hc := true, dm := true, bm := true, mem := true, mc := true, r4 := true, rmd := true, rpw := true } s (execAluShl n s) := by
  unfold execAluShl
  repeat' first
    | with_reducible exact Fr.refl _ _
    | with_reducible refine FrO.next ?_
    | with_reducible refine State.mwOf_fr (by decide) ?_

theorem execAluShr_fr {s : State} {n : Fin 256} : FrO { free := true, sent := true, ev := true, unitT := true, ft := true, pw := true, md := true, chT := true, ldT := true, actT := true, spT := true, spWait := true, ar := true, jn := true, rb := true, lk := true, qm := true, cm := true, hc := true, dm := true, bm := true, mem := true, mc := true, r4 := true, rmd := true, rpw := true } s (execAluShr n s) := by
  unfold execAluShr
  repeat' first
    | with_reducible exact Fr.refl _ _
    | with_reducible refine FrO.next ?_
    | with_reducible refine State.mwOf_fr (by decide) ?_

theorem execAluCmp_fr {s : State} {n : Fin 256} : FrO { free := true, sent := true, ev := true, unitT := true, ft := true, pw := true, md := true, chT := true, ldT := true, actT := true, spT := true, spWait := true, ar := true, jn := true, rb := true, lk := true, qm := true, cm := true, hc := true, dm := true, bm := true, mem := true, mc := true, r4 := true, rmd := true, rpw := true } s (execAluCmp n s) := by
  unfold execAluCmp
  repeat' first
    | with_reducible exact Fr.refl _ _
    | with_reducible refine FrO.next ?_
    | with_reducible refine State.mwOf_fr (by decide) ?_

theorem execAluCrc32c_fr {s : State} {n : Fin 256} : FrO { free := true, sent := true, ev := true, unitT := true, ft := true, pw := true, md := true, chT := true, ldT := true, actT := true, spT := true, spWait := true, ar := true, jn := true, rb := true, lk := true, qm := true, cm := true, hc := true, dm := true, bm := true, mem := true, mc := true, r4 := true, rmd := true, rpw := true } s (execAluCrc32c n s) := by
  unfold execAluCrc32c
  repeat' first
    | with_reducible exact Fr.refl _ _
    | with_reducible refine FrO.next ?_
    | with_reducible refine State.mwOf_fr (by decide) ?_

theorem execAluMin_fr {s : State} {n : Fin 256} : FrO { free := true, sent := true, ev := true, unitT := true, ft := true, pw := true, md := true, chT := true, ldT := true, actT := true, spT := true, spWait := true, ar := true, jn := true, rb := true, lk := true, qm := true, cm := true, hc := true, dm := true, bm := true, mem := true, mc := true, r4 := true, rmd := true, rpw := true } s (execAluMin n s) := by
  unfold execAluMin
  repeat' first
    | with_reducible exact Fr.refl _ _
    | with_reducible refine FrO.next ?_
    | with_reducible refine State.mwOf_fr (by decide) ?_

theorem execAluMax_fr {s : State} {n : Fin 256} : FrO { free := true, sent := true, ev := true, unitT := true, ft := true, pw := true, md := true, chT := true, ldT := true, actT := true, spT := true, spWait := true, ar := true, jn := true, rb := true, lk := true, qm := true, cm := true, hc := true, dm := true, bm := true, mem := true, mc := true, r4 := true, rmd := true, rpw := true } s (execAluMax n s) := by
  unfold execAluMax
  repeat' first
    | with_reducible exact Fr.refl _ _
    | with_reducible refine FrO.next ?_
    | with_reducible refine State.mwOf_fr (by decide) ?_

theorem execAluExtract_fr {s : State} {n : Fin 256} : FrO { free := true, sent := true, ev := true, unitT := true, ft := true, pw := true, md := true, chT := true, ldT := true, actT := true, spT := true, spWait := true, ar := true, jn := true, rb := true, lk := true, qm := true, cm := true, hc := true, dm := true, bm := true, mem := true, mc := true, r4 := true, rmd := true, rpw := true } s (execAluExtract n s) := by
  unfold execAluExtract
  repeat' first
    | with_reducible exact Fr.refl _ _
    | with_reducible refine FrO.next ?_
    | with_reducible refine State.mwOf_fr (by decide) ?_

theorem execAluMul_fr {s : State} {n : Fin 256} : FrO { free := true, sent := true, ev := true, unitT := true, ft := true, pw := true, md := true, chT := true, ldT := true, actT := true, spT := true, spWait := true, ar := true, jn := true, rb := true, lk := true, qm := true, cm := true, hc := true, dm := true, bm := true, mem := true, mc := true, r4 := true, rmd := true, rpw := true } s (execAluMul n s) := by
  unfold execAluMul
  repeat' first
    | with_reducible exact Fr.refl _ _
    | with_reducible refine FrO.next ?_
    | with_reducible refine State.mwOf_fr (by decide) ?_

theorem execBufLoad_fr {s : State} {n : Fin 256} : FrO { free := true, sent := true, ev := true, unitT := true, ft := true, pw := true, md := true, chT := true, ldT := true, actT := true, spT := true, spWait := true, ar := true, jn := true, rb := true, lk := true, qm := true, cm := true, hc := true, dm := true, bm := true, mem := true, mc := true, r4 := true, rmd := true, rpw := true } s (execBufLoad n s) := by
  unfold execBufLoad
  repeat' first
    | with_reducible exact Fr.refl _ _
    | with_reducible refine FrO.next ?_
    | with_reducible refine State.mwOf_fr (by decide) ?_

theorem execBufStore_fr {s : State} {n : Fin 256} : FrO { free := true, sent := true, ev := true, unitT := true, ft := true, pw := true, md := true, chT := true, ldT := true, actT := true, spT := true, spWait := true, ar := true, jn := true, rb := true, lk := true, qm := true, cm := true, hc := true, dm := true, bm := true, mem := true, mc := true, r4 := true, rmd := true, rpw := true } s (execBufStore n s) := by
  unfold execBufStore
  repeat' first
    | with_reducible exact Fr.refl _ _
    | with_reducible refine FrO.next ?_
    | with_reducible refine State.mwOf_fr (by decide) ?_

theorem execHostLoad_fr {s : State} {n : Fin 256} : FrO { free := true, sent := true, ev := true, unitT := true, ft := true, pw := true, md := true, chT := true, ldT := true, actT := true, spT := true, spWait := true, ar := true, jn := true, rb := true, lk := true, qm := true, cm := true, hc := true, dm := true, bm := true, mem := true, mc := true, r4 := true, rmd := true, rpw := true } s (execHostLoad n s) := by
  unfold execHostLoad
  repeat' first
    | with_reducible exact Fr.refl _ _
    | with_reducible refine FrO.next ?_
    | with_reducible refine State.mwOf_fr (by decide) ?_

theorem execHostStore_fr {s : State} {n : Fin 256} : FrO { free := true, sent := true, ev := true, unitT := true, ft := true, pw := true, md := true, chT := true, ldT := true, actT := true, spT := true, spWait := true, ar := true, jn := true, rb := true, lk := true, qm := true, cm := true, hc := true, dm := true, bm := true, mem := true, mc := true, r4 := true, rmd := true, rpw := true } s (execHostStore n s) := by
  unfold execHostStore
  repeat' first
    | with_reducible exact Fr.refl _ _
    | with_reducible refine FrO.next ?_
    | with_reducible refine State.mwOf_fr (by decide) ?_

theorem execDmaClaim_fr {s : State} {n : Fin 256} : FrO { free := true, sent := true, ev := true, unitT := true, ft := true, pw := true, md := true, chT := true, ldT := true, actT := true, spT := true, spWait := true, ar := true, jn := true, rb := true, lk := true, qm := true, cm := true, hc := true, dm := true, bm := true, mem := true, mc := true, r4 := true, rmd := true, rpw := true } s (execDmaClaim n s) := by
  unfold execDmaClaim
  repeat' first
    | with_reducible exact Fr.refl _ _
    | with_reducible refine FrO.next ?_
    | with_reducible refine State.mwOf_fr (by decide) ?_

theorem execUnitDmaGo_fr {s : State} {n : Fin 256} : FrO { free := true, sent := true, ev := true, unitT := true, ft := true, pw := true, md := true, chT := true, ldT := true, actT := true, spT := true, spWait := true, ar := true, jn := true, rb := true, lk := true, qm := true, cm := true, hc := true, dm := true, bm := true, mem := true, mc := true, r4 := true, rmd := true, rpw := true } s (execUnitDmaGo n s) := by
  unfold execUnitDmaGo
  repeat' first
    | with_reducible exact Fr.refl _ _
    | with_reducible refine FrO.next ?_
    | with_reducible refine State.mwOf_fr (by decide) ?_

theorem execUnitDmaArm_fr {s : State} {n : Fin 256} : FrO { free := true, sent := true, ev := true, unitT := true, ft := true, pw := true, md := true, chT := true, ldT := true, actT := true, spT := true, spWait := true, ar := true, jn := true, rb := true, lk := true, qm := true, cm := true, hc := true, dm := true, bm := true, mem := true, mc := true, r4 := true, rmd := true, rpw := true } s (execUnitDmaArm n s) := by
  unfold execUnitDmaArm
  repeat' first
    | with_reducible exact Fr.refl _ _
    | with_reducible refine FrO.next ?_
    | with_reducible refine State.mwOf_fr (by decide) ?_

theorem execDmaRelease_fr {s : State} {n : Fin 256} : FrO { free := true, sent := true, ev := true, unitT := true, ft := true, pw := true, md := true, chT := true, ldT := true, actT := true, spT := true, spWait := true, ar := true, jn := true, rb := true, lk := true, qm := true, cm := true, hc := true, dm := true, bm := true, mem := true, mc := true, r4 := true, rmd := true, rpw := true } s (execDmaRelease n s) := by
  unfold execDmaRelease
  repeat' first
    | with_reducible exact Fr.refl _ _
    | with_reducible refine FrO.next ?_
    | with_reducible refine State.mwOf_fr (by decide) ?_

theorem execPeSub_fr {s : State} {n : Fin 256} : FrO { free := true, sent := true, ev := true, unitT := true, ft := true, pw := true, md := true, chT := true, ldT := true, actT := true, spT := true, spWait := true, ar := true, jn := true, rb := true, lk := true, qm := true, cm := true, hc := true, dm := true, bm := true, mem := true, mc := true, r4 := true, rmd := true, rpw := true } s (execPeSub n s) := by
  unfold execPeSub
  repeat' first
    | with_reducible exact Fr.refl _ _
    | with_reducible refine FrO.next ?_
    | with_reducible refine State.mwOf_fr (by decide) ?_

theorem execSreq_fr {s : State} {n : Fin 256} : FrO { free := true, sent := true, ev := true, unitT := true, ft := true, pw := true, md := true, chT := true, ldT := true, actT := true, spT := true, spWait := true, ar := true, jn := true, rb := true, lk := true, qm := true, cm := true, hc := true, dm := true, bm := true, mem := true, mc := true, r4 := true, rmd := true, rpw := true } s (execSreq n s) := by
  unfold execSreq
  repeat' first
    | with_reducible exact Fr.refl _ _
    | with_reducible refine FrO.next ?_
    | with_reducible refine State.mwOf_fr (by decide) ?_

theorem execSetStatus_fr {s : State} {n : Fin 256} : FrO { free := true, sent := true, ev := true, unitT := true, ft := true, pw := true, md := true, chT := true, ldT := true, actT := true, spT := true, spWait := true, ar := true, jn := true, rb := true, lk := true, qm := true, cm := true, hc := true, dm := true, bm := true, mem := true, mc := true, r4 := true, rmd := true, rpw := true } s (execSetStatus n s) := by
  unfold execSetStatus
  repeat' first
    | with_reducible exact Fr.refl _ _
    | with_reducible refine FrO.next ?_
    | with_reducible refine State.mwOf_fr (by decide) ?_

theorem execPark_fr {s : State} {n : Fin 256} : FrO { free := true, sent := true, ev := true, unitT := true, ft := true, pw := true, md := true, chT := true, ldT := true, actT := true, spT := true, spWait := true, ar := true, jn := true, rb := true, lk := true, qm := true, cm := true, hc := true, dm := true, bm := true, mem := true, mc := true, r4 := true, rmd := true, rpw := true } s (execPark n s) := by
  unfold execPark
  repeat' first
    | with_reducible exact Fr.refl _ _
    | with_reducible refine FrO.next ?_
    | with_reducible refine State.mwOf_fr (by decide) ?_

theorem execFrame_fr {s : State} {n : Fin 256} : FrO { free := true, sent := true, ev := true, unitT := true, ft := true, pw := true, md := true, chT := true, ldT := true, actT := true, spT := true, spWait := true, ar := true, jn := true, rb := true, lk := true, qm := true, cm := true, hc := true, dm := true, bm := true, mem := true, mc := true, r4 := true, rmd := true, rpw := true } s (execFrame n s) := by
  unfold execFrame
  repeat' first
    | with_reducible exact Fr.refl _ _
    | with_reducible refine FrO.next ?_
    | with_reducible refine State.mwOf_fr (by decide) ?_

theorem execTret_fr {s : State} {n : Fin 256} : FrO { free := true, sent := true, ev := true, unitT := true, ft := true, pw := true, md := true, chT := true, ldT := true, actT := true, spT := true, spWait := true, ar := true, jn := true, rb := true, lk := true, qm := true, cm := true, hc := true, dm := true, bm := true, mem := true, mc := true, r4 := true, rmd := true, rpw := true } s (execTret n s) := by
  unfold execTret
  repeat' first
    | with_reducible exact Fr.refl _ _
    | with_reducible refine FrO.next ?_
    | with_reducible refine Fr.ite ?_ ?_
    | with_reducible refine State.mctxUp_fr (by decide) ?_
    | with_reducible refine State.mwOf_fr (by decide) ?_

theorem execDmaAny_fr {s : State} {n : Fin 256} : FrO { free := true, sent := true, ev := true, unitT := true, ft := true, pw := true, md := true, chT := true, ldT := true, actT := true, spT := true, spWait := true, ar := true, jn := true, rb := true, lk := true, qm := true, cm := true, hc := true, dm := true, bm := true, mem := true, mc := true, r4 := true, rmd := true, rpw := true } s (execDmaAny n s) := by
  unfold execDmaAny
  repeat' first
    | with_reducible exact Fr.refl _ _
    | with_reducible refine FrO.next ?_
    | with_reducible refine State.mwOf_fr (by decide) ?_

theorem execJcommit_fr {s : State} {n : Fin 256} : FrO { free := true, sent := true, ev := true, unitT := true, ft := true, pw := true, md := true, chT := true, ldT := true, actT := true, spT := true, spWait := true, ar := true, jn := true, rb := true, lk := true, qm := true, cm := true, hc := true, dm := true, bm := true, mem := true, mc := true, r4 := true, rmd := true, rpw := true } s (execJcommit n s) := by
  unfold execJcommit
  repeat' first
    | with_reducible exact Fr.refl _ _
    | with_reducible refine FrO.next ?_
    | with_reducible refine State.mwOf_fr (by decide) ?_

theorem execSched_fr {s : State} {n : Fin 256} : FrO { free := true, sent := true, ev := true, unitT := true, ft := true, pw := true, md := true, chT := true, ldT := true, actT := true, spT := true, spWait := true, ar := true, jn := true, rb := true, lk := true, qm := true, cm := true, hc := true, dm := true, bm := true, mem := true, mc := true, r4 := true, rmd := true, rpw := true } s (execSched n s) := by
  unfold execSched
  repeat' first
    | with_reducible exact Fr.refl _ _
    | with_reducible refine FrO.next ?_
    | with_reducible refine State.mwOf_fr (by decide) ?_

theorem execVolRead_fr {s : State} {n : Fin 256} : FrO { free := true, sent := true, ev := true, unitT := true, ft := true, pw := true, md := true, chT := true, ldT := true, actT := true, spT := true, spWait := true, ar := true, jn := true, rb := true, lk := true, qm := true, cm := true, hc := true, dm := true, bm := true, mem := true, mc := true, r4 := true, rmd := true, rpw := true } s (execVolRead n s) := by
  unfold execVolRead
  repeat' first
    | with_reducible exact Fr.refl _ _
    | with_reducible refine FrO.next ?_
    | with_reducible refine State.mwOf_fr (by decide) ?_

theorem execVolWrite_fr {s : State} {n : Fin 256} : FrO { free := true, sent := true, ev := true, unitT := true, ft := true, pw := true, md := true, chT := true, ldT := true, actT := true, spT := true, spWait := true, ar := true, jn := true, rb := true, lk := true, qm := true, cm := true, hc := true, dm := true, bm := true, mem := true, mc := true, r4 := true, rmd := true, rpw := true } s (execVolWrite n s) := by
  unfold execVolWrite
  repeat' first
    | with_reducible exact Fr.refl _ _
    | with_reducible refine FrO.next ?_
    | with_reducible refine State.mwOf_fr (by decide) ?_

theorem execVolFlush_fr {s : State} {n : Fin 256} : FrO { free := true, sent := true, ev := true, unitT := true, ft := true, pw := true, md := true, chT := true, ldT := true, actT := true, spT := true, spWait := true, ar := true, jn := true, rb := true, lk := true, qm := true, cm := true, hc := true, dm := true, bm := true, mem := true, mc := true, r4 := true, rmd := true, rpw := true } s (execVolFlush n s) := by
  unfold execVolFlush
  repeat' first
    | with_reducible exact Fr.refl _ _
    | with_reducible refine FrO.next ?_
    | with_reducible refine State.mwOf_fr (by decide) ?_

theorem execVcrc_fr {s : State} {n : Fin 256} : FrO { free := true, sent := true, ev := true, unitT := true, ft := true, pw := true, md := true, chT := true, ldT := true, actT := true, spT := true, spWait := true, ar := true, jn := true, rb := true, lk := true, qm := true, cm := true, hc := true, dm := true, bm := true, mem := true, mc := true, r4 := true, rmd := true, rpw := true } s (execVcrc n s) := by
  unfold execVcrc
  repeat' first
    | with_reducible exact Fr.refl _ _
    | with_reducible refine FrO.next ?_
    | with_reducible refine State.mwOf_fr (by decide) ?_

theorem execLibraryUndefined_fr {s : State} {n : Fin 256} : FrO { free := true, sent := true, ev := true, unitT := true, ft := true, pw := true, md := true, chT := true, ldT := true, actT := true, spT := true, spWait := true, ar := true, jn := true, rb := true, lk := true, qm := true, cm := true, hc := true, dm := true, bm := true, mem := true, mc := true, r4 := true, rmd := true, rpw := true } s (execLibraryUndefined n s) := by
  unfold execLibraryUndefined
  repeat' first
    | with_reducible exact Fr.refl _ _
    | with_reducible refine FrO.next ?_
    | with_reducible refine State.mwOf_fr (by decide) ?_

theorem State.custWrite_fr {M : Mask} {z s : State} {b : Nat} (hm : Mask.le { mc := true } M = true) (h0 : Fr M z s) :
    Fr M z (State.custWrite s b) := by
  refine Fr.via ?_ hm h0
  unfold State.custWrite
  repeat' first
    | with_reducible exact Fr.refl _ _
    | with_reducible refine State.mcU_fr (by decide) ?_

theorem State.custShow_fr {M : Mask} {z s : State} {b : Nat} (hm : Mask.le { rbt := true, rpw := true, rsf := true } M = true) (h0 : Fr M z s) :
    Fr M z (State.custShow s b) := by
  refine Fr.via ?_ hm h0
  unfold State.custShow
  repeat' first
    | with_reducible exact Fr.refl _ _
    | with_reducible refine State.off_fr (by decide) ?_ ?_
    | with_reducible refine State.on_fr (by decide) ?_ ?_
    | with_reducible refine State.setWords8_fr (by decide) ?_ ?_
    | with_reducible refine Fr.pB ?_ ?_
    | exact Mask.okHigh (Nat.le_of_ble_eq_true rfl)
    | exact fun _ => Mask.okBt (le_add1 (by decide)) rfl rfl rfl

theorem execMicroImageInstall_fr {s : State} : FrO { sent := true, ev := true, lk := true, bm := true, mem := true, mc := true, rbt := true, rpw := true, rsf := true } s (execMicroImageInstall s) := by
  unfold execMicroImageInstall
  repeat' first
    | with_reducible exact Fr.refl _ _
    | with_reducible refine FrO.next ?_
    | with_reducible refine Fr.ite ?_ ?_
    | with_reducible refine State.bWr_fr (by decide) ?_
    | with_reducible refine State.custShow_fr (by decide) ?_
    | with_reducible refine State.custWrite_fr (by decide) ?_
    | with_reducible refine State.mcU_fr (by decide) ?_
    | with_reducible refine State.note_fr (by decide) ?_ ?_
    | split
    | exact Mask.okHigh (Nat.le_of_ble_eq_true rfl)

theorem State.custStart_fr {M : Mask} {z s : State} (hm : Mask.le { sent := true, ev := true, lk := true, bm := true, mem := true, mc := true, rbt := true, rpw := true, rsf := true } M = true) (h0 : Fr M z s) :
    Fr M z (State.custStart s) := by
  refine Fr.via ?_ hm h0
  unfold State.custStart
  repeat' first
    | with_reducible exact Fr.refl _ _
    | with_reducible refine Fr.ite ?_ ?_
    | with_reducible refine State.bWr_fr (by decide) ?_
    | with_reducible refine State.custShow_fr (by decide) ?_
    | with_reducible refine State.custWrite_fr (by decide) ?_
    | with_reducible refine State.mcU_fr (by decide) ?_
    | with_reducible refine State.note_fr (by decide) ?_ ?_
    | with_reducible refine State.off_fr (by decide) ?_ ?_
    | with_reducible refine Fr.pB ?_ ?_
    | split
    | exact Mask.okHigh (Nat.le_of_ble_eq_true rfl)

theorem State.ctxSnap_fr {M : Mask} {z s : State} (hm : Mask.le {} M = true) (h0 : Fr M z s) :
    Fr M z (State.ctxSnap s) := by
  refine Fr.via ?_ hm h0
  unfold State.ctxSnap
  repeat' first
    | with_reducible exact Fr.refl _ _
    | with_reducible refine Fr.pB ?_ ?_
    | with_reducible refine Fr.wrB ?_ ?_
    | with_reducible refine Fr.each (fun _ _ => ?_) ?_
    | exact Mask.okHigh (Nat.le_of_ble_eq_true rfl)
    | exact Mask.okHigh (le_add1 (by decide))

theorem execCtxSnap_fr {s : State} : FrO {} s (execCtxSnap s) := by
  unfold execCtxSnap
  repeat' first
    | with_reducible exact Fr.refl _ _
    | with_reducible refine FrO.next ?_
    | with_reducible refine State.ctxSnap_fr (by decide) ?_

theorem State.dispRead_fr {M : Mask} {z s : State} (hm : Mask.le { rdata := true } M = true) (h0 : Fr M z s) :
    Fr M z (State.dispRead s) := by
  refine Fr.via ?_ hm h0
  unfold State.dispRead
  repeat' first
    | with_reducible exact Fr.refl _ _
    | with_reducible refine Fr.pB ?_ ?_
    | with_reducible refine Fr.wrB ?_ ?_
    | exact Mask.okHigh (Nat.le_of_ble_eq_true rfl)
    | (apply Fr.leafB <;> first | rfl | exact .inl rfl | exact .inr rfl | guard_target =~ Fr _ _ _)

theorem execDispDataRead_fr {s : State} : FrO { rdata := true } s (execDispDataRead s) := by
  unfold execDispDataRead
  repeat' first
    | with_reducible exact Fr.refl _ _
    | with_reducible refine FrO.next ?_
    | with_reducible refine State.dispRead_fr (by decide) ?_

theorem State.storeRead_fr {M : Mask} {z s : State} (hm : Mask.le { rdata := true, sent := true, ev := true, lk := true } M = true) (h0 : Fr M z s) :
    Fr M z (State.storeRead s) := by
  refine Fr.via ?_ hm h0
  unfold State.storeRead
  repeat' first
    | with_reducible exact Fr.refl _ _
    | with_reducible refine Fr.ite ?_ ?_
    | with_reducible refine State.note_fr (by decide) ?_ ?_
    | with_reducible refine State.off_fr (by decide) ?_ ?_
    | with_reducible refine Fr.pB ?_ ?_
    | with_reducible refine Fr.wrB ?_ ?_
    | with_reducible refine Fr.when (fun _ => ?_) ?_
    | split
    | exact Mask.okHigh (Nat.le_of_ble_eq_true rfl)
    | (apply Fr.leafB <;> first | rfl | exact .inl rfl | exact .inr rfl | guard_target =~ Fr _ _ _)

theorem execStoreDataRead_fr {s : State} : FrO { rdata := true, sent := true, ev := true, lk := true } s (execStoreDataRead s) := by
  unfold execStoreDataRead
  repeat' first
    | with_reducible exact Fr.refl _ _
    | with_reducible refine FrO.next ?_
    | with_reducible refine State.storeRead_fr (by decide) ?_

end Sys2Proof.Machine
end

