-- ==== Sys2Proof/Laws/FrLadder.lean ====
section
/-! SUPPORT. Laws/FrLadder.lean: what each operation of Machine/Ladder.lean may touch: the lemma that later proofs cite in
place of unfolding it. -/

namespace Sys2Proof.Machine

open Reg

theorem State.readOk_fr {M : Mask} {z s : State} {m : Nat} {mba : Nat} {p : Code.Plain} {laddered : Bool} (hm : Mask.le { sent := true, ev := true, unitT := true, ft := true, pw := true, md := true, chT := true, ldT := true, actT := true, spT := true, spWait := true, ar := true, jn := true, rb := true, lk := true, qm := true, cm := true, hc := true, dm := true, bm := true, mem := true, mc := true, r4 := true, rmd := true, rpw := true } M = true) (h0 : Fr M z s) :
    Fr M z (State.readOk s m mba p laddered) := by
  refine Fr.via ?_ hm h0
  unfold State.readOk
  repeat' first
    | with_reducible exact Fr.refl _ _
    | with_reducible refine Fr.ite ?_ ?_
    | with_reducible refine State.chanSweep_fr (by decide) ?_
    | with_reducible refine State.directOk_fr (by decide) ?_
    | with_reducible refine State.schedDone_fr (by decide) ?_
    | with_reducible refine State.settle_fr (by decide) ?_
    | with_reducible refine State.slowEnd_fr (by decide) ?_
    | with_reducible refine State.sourceOk_fr (by decide) ?_

theorem State.noMore_fr {M : Mask} {z s : State} {e : LadEnd} (hm : Mask.le { sent := true, ev := true, unitT := true, ft := true, pw := true, md := true, chT := true, ldT := true, actT := true, spT := true, spWait := true, ar := true, jn := true, rb := true, lk := true, qm := true, cm := true, hc := true, dm := true, bm := true, mem := true, mc := true, r4 := true, rmd := true, rpw := true } M = true) (h0 : Fr M z s) :
    Fr M z (State.noMore s e) := by
  refine Fr.via ?_ hm h0
  unfold State.noMore
  repeat' first
    | with_reducible exact Fr.refl _ _
    | with_reducible refine Fr.ite ?_ ?_
    | with_reducible refine State.chanSweep_fr (by decide) ?_
    | with_reducible refine State.copyUnread_fr (by decide) ?_
    | with_reducible refine State.directFail_fr (by decide) ?_
    | with_reducible refine State.gaveUp_fr (by decide) ?_
    | with_reducible refine State.ldLast_fr (by decide) ?_
    | with_reducible refine State.ldUp_fr (by decide) ?_
    | with_reducible refine State.reconCheck_fr (by decide) ?_
    | with_reducible refine State.reconStart_fr (by decide) ?_
    | with_reducible refine State.settle_fr (by decide) ?_
    | with_reducible refine State.slowEnd_fr (by decide) ?_
    | with_reducible refine State.sourceGone_fr (by decide) ?_
    | with_reducible refine Fr.each (fun _ _ => ?_) ?_
    | with_reducible refine Fr.when (fun _ => ?_) ?_
    | split

theorem State.ladFail_fr {M : Mask} {z s : State} {l : Ladder} {tlim : Bool} (hm : Mask.le { sent := true, ev := true, unitT := true, ft := true, pw := true, md := true, chT := true, ldT := true, actT := true, spT := true, spWait := true, ar := true, jn := true, rb := true, lk := true, qm := true, cm := true, hc := true, dm := true, bm := true, mem := true, mc := true, r4 := true, rmd := true, rpw := true } M = true) (h0 : Fr M z s) :
    Fr M z (State.ladFail s l tlim) := by
  refine Fr.via ?_ hm h0
  unfold State.ladFail
  repeat' first
    | with_reducible exact Fr.refl _ _
    | with_reducible refine State.ladDrop_fr (by decide) ?_
    | with_reducible refine State.noMore_fr (by decide) ?_

theorem State.ladOk_fr {M : Mask} {z s : State} {l : Ladder} {rung : Nat} {trial : Nat} {ofs : Int} {iter : Nat} {p : Code.Plain} (hm : Mask.le { sent := true, ev := true, unitT := true, ft := true, pw := true, md := true, chT := true, ldT := true, actT := true, spT := true, spWait := true, ar := true, jn := true, rb := true, lk := true, qm := true, cm := true, hc := true, dm := true, bm := true, mem := true, mc := true, r4 := true, rmd := true, rpw := true } M = true) (h0 : Fr M z s) :
    Fr M z (State.ladOk s l rung trial ofs iter p) := by
  refine Fr.via ?_ hm h0
  unfold State.ladOk
  repeat' first
    | with_reducible exact Fr.refl _ _
    | with_reducible refine Fr.ite ?_ ?_
    | with_reducible refine State.ladDrop_fr (by decide) ?_
    | with_reducible refine State.ldLast_fr (by decide) ?_
    | with_reducible refine State.ldUp_fr (by decide) ?_
    | with_reducible refine State.readOk_fr (by decide) ?_
    | with_reducible refine State.rewriteAt_fr (by decide) ?_
    | with_reducible refine State.sat_fr (by decide) ?_ ?_
    | exact Mask.okHigh (le_add1 (le_add1 (by decide)))

theorem State.ladReread_fr {M : Mask} {z s : State} {l : Ladder} {l' : Ladder} (hm : Mask.le { sent := true, ev := true, unitT := true, ft := true, pw := true, md := true, chT := true, ldT := true, actT := true, spT := true, spWait := true, ar := true, jn := true, rb := true, lk := true, qm := true, cm := true, hc := true, dm := true, bm := true, mem := true, mc := true, r4 := true, rmd := true, rpw := true } M = true) (h0 : Fr M z s) :
    Fr M z (State.ladReread s l l') := by
  refine Fr.via ?_ hm h0
  unfold State.ladReread
  repeat' first
    | with_reducible exact Fr.refl _ _
    | with_reducible refine Fr.ite ?_ ?_
    | with_reducible refine State.ladFail_fr (by decide) ?_
    | with_reducible refine State.ladUp_fr (by decide) ?_
    | with_reducible refine State.unpin_fr (by decide) ?_

theorem State.askReconFor_fr {M : Mask} {z s : State} {op : SecOp} (hm : Mask.le { cm := true } M = true) (h0 : Fr M z s) :
    Fr M z (State.askReconFor s op) := by
  refine Fr.via ?_ hm h0
  unfold State.askReconFor
  repeat' first
    | with_reducible exact Fr.refl _ _
    | with_reducible refine Fr.ite ?_ ?_
    | with_reducible refine State.askRecon_fr (by decide) ?_
    | with_reducible refine State.reconStart_fr (by decide) ?_
    | split

theorem State.ladGo_fr {M : Mask} {z s : State} {l : Ladder} {l0 : Ladder} {r : Nat} {keep : Bool} (hm : Mask.le { sent := true, ev := true, unitT := true, ft := true, pw := true, md := true, chT := true, ldT := true, actT := true, spT := true, spWait := true, ar := true, jn := true, rb := true, lk := true, qm := true, cm := true, hc := true, dm := true, bm := true, mem := true, mc := true, r4 := true, rmd := true, rpw := true } M = true) (h0 : Fr M z s) :
    Fr M z (State.ladGo s l l0 r keep) := by
  refine Fr.via ?_ hm h0
  unfold State.ladGo
  repeat' first
    | with_reducible exact Fr.refl _ _
    | with_reducible refine Fr.ite ?_ ?_
    | with_reducible refine State.askReconFor_fr (by decide) ?_
    | with_reducible refine State.ladReread_fr (by decide) ?_
    | with_reducible refine State.ladUp_fr (by decide) ?_

theorem State.nextTurn_fr {M : Mask} {z s : State} {a : Nat} (hm : Mask.le { ldT := true } M = true) (h0 : Fr M z s) :
    Fr M z (State.nextTurn s a).2 := by
  refine Fr.via ?_ hm h0
  unfold State.nextTurn
  repeat' first
    | with_reducible exact Fr.refl _ _
    | with_reducible refine State.ldUp_fr (by decide) ?_

theorem State.pinFor_fr {M : Mask} {z s : State} {c : Nat} {slot : Option Nat} (hm : Mask.le { chT := true } M = true) (h0 : Fr M z s) :
    Fr M z (State.pinFor s c slot).2 := by
  refine Fr.via ?_ hm h0
  unfold State.pinFor
  repeat' first
    | with_reducible exact Fr.refl _ _
    | with_reducible refine Fr.ite2 ?_ ?_
    | with_reducible refine State.on_fr (by decide) ?_ ?_
    | with_reducible refine State.slotUp_fr (by decide) ?_
    | split
    | exact Mask.okHigh (le_add1 (by decide))

theorem State.ladEnter_fr {M : Mask} {z s : State} {c : Nat} {op : SecOp} {slot : Option Nat} {sync : Option Int} {undec : Bool} {off : Nat} {dec : Option (Int × Nat)} (hm : Mask.le { sent := true, ev := true, unitT := true, ft := true, pw := true, md := true, chT := true, ldT := true, actT := true, spT := true, spWait := true, ar := true, jn := true, rb := true, lk := true, qm := true, cm := true, hc := true, dm := true, bm := true, mem := true, mc := true, r4 := true, rmd := true, rpw := true } M = true) (h0 : Fr M z s) :
    Fr M z (State.ladEnter s c op slot sync undec off dec) := by
  refine Fr.via ?_ hm h0
  unfold State.ladEnter
  repeat' first
    | with_reducible exact Fr.refl _ _
    | with_reducible refine Fr.ite ?_ ?_
    | with_reducible refine State.ladGo_fr (by decide) ?_
    | with_reducible refine State.ldUp_fr (by decide) ?_
    | with_reducible refine State.nextTurn_fr (by decide) ?_
    | with_reducible refine State.noMore_fr (by decide) ?_
    | with_reducible refine State.pinFor_fr (by decide) ?_
    | with_reducible refine State.schedDone_fr (by decide) ?_
    | with_reducible refine State.sourceBad_fr (by decide) ?_

theorem State.rereadFailed_fr {M : Mask} {z s : State} {l : Ladder} {c : Nat} {slot : Option Nat} {sync : Option Int} {undec : Bool} {off : Nat} {dec : Option (Int × Nat)} (hm : Mask.le { sent := true, ev := true, unitT := true, ft := true, pw := true, md := true, chT := true, ldT := true, actT := true, spT := true, spWait := true, ar := true, jn := true, rb := true, lk := true, qm := true, cm := true, hc := true, dm := true, bm := true, mem := true, mc := true, r4 := true, rmd := true, rpw := true } M = true) (h0 : Fr M z s) :
    Fr M z (State.rereadFailed s l c slot sync undec off dec) := by
  refine Fr.via ?_ hm h0
  unfold State.rereadFailed
  repeat' first
    | with_reducible exact Fr.refl _ _
    | with_reducible refine State.ladGo_fr (by decide) ?_
    | with_reducible refine State.nextTurn_fr (by decide) ?_
    | with_reducible refine State.pinFor_fr (by decide) ?_

theorem State.rewriteSet_fr {M : Mask} {z s : State} {m : Nat} {mba : Nat} {r : Option Rewrite} (hm : Mask.le { ldT := true } M = true) (h0 : Fr M z s) :
    Fr M z (State.rewriteSet s m mba r) := by
  refine Fr.via ?_ hm h0
  unfold State.rewriteSet
  repeat' first
    | with_reducible exact Fr.refl _ _
    | with_reducible refine State.ldUp_fr (by decide) ?_

theorem State.stripUp_fr {M : Mask} {z s : State} {m : Nat} {mba : Nat} {f : Nat → Strip → Strip} (hm : Mask.le { ar := true } M = true) (h0 : Fr M z s) :
    Fr M z (State.stripUp s m mba f) := by
  refine Fr.via ?_ hm h0
  unfold State.stripUp
  repeat' first
    | with_reducible exact Fr.refl _ _
    | with_reducible refine State.arU_fr (by decide) ?_
    | split

theorem State.spillMark_fr {M : Mask} {z s : State} {m : Nat} {mba : Nat} (hm : Mask.le { jn := true } M = true) (h0 : Fr M z s) :
    Fr M z (State.spillMark s m mba) := by
  refine Fr.via ?_ hm h0
  unfold State.spillMark
  repeat' first
    | with_reducible exact Fr.refl _ _
    | with_reducible refine State.jnU_fr (by decide) ?_
    | split

theorem State.sectorDone_fr {M : Mask} {z s : State} {op : SecOp} {stripe : Bool} (hm : Mask.le { ar := true, jn := true } M = true) (h0 : Fr M z s) :
    Fr M z (State.sectorDone s op stripe) := by
  refine Fr.via ?_ hm h0
  unfold State.sectorDone
  repeat' first
    | with_reducible exact Fr.refl _ _
    | with_reducible refine Fr.ite ?_ ?_
    | with_reducible refine State.spillMark_fr (by decide) ?_
    | with_reducible refine State.stripUp_fr (by decide) ?_

theorem State.attemptFailed_fr {M : Mask} {z s : State} {c : Nat} {op : SecOp} {n : Nat} {stripe : Bool} (hm : Mask.le { sent := true, ev := true, unitT := true, ft := true, pw := true, md := true, chT := true, ldT := true, actT := true, spT := true, spWait := true, ar := true, jn := true, rb := true, lk := true, cm := true, hc := true, r4 := true, rmd := true, rpw := true } M = true) (h0 : Fr M z s) :
    Fr M z (State.attemptFailed s c op n stripe) := by
  refine Fr.via ?_ hm h0
  unfold State.attemptFailed
  repeat' first
    | with_reducible exact Fr.refl _ _
    | with_reducible refine Fr.ite ?_ ?_
    | with_reducible refine State.fault_fr (by decide) ?_ ?_
    | with_reducible refine State.rewriteSet_fr (by decide) ?_
    | with_reducible refine State.slowEnd_fr (by decide) ?_
    | with_reducible refine State.stripUp_fr (by decide) ?_
    | exact Mask.okHigh (le_add1 (by decide))

theorem State.verified_fr {M : Mask} {z s : State} {op : SecOp} (hm : Mask.le { sent := true, ev := true, ldT := true, ar := true, jn := true, rb := true, lk := true, cm := true } M = true) (h0 : Fr M z s) :
    Fr M z (State.verified s op) := by
  refine Fr.via ?_ hm h0
  unfold State.verified
  repeat' first
    | with_reducible exact Fr.refl _ _
    | with_reducible refine Fr.ite ?_ ?_
    | with_reducible refine State.rewriteSet_fr (by decide) ?_
    | with_reducible refine State.schedDone_fr (by decide) ?_
    | with_reducible refine State.sectorDone_fr (by decide) ?_
    | with_reducible refine State.slowEnd_fr (by decide) ?_
    | split
    | (apply Fr.leafB <;> first | rfl | exact .inl rfl | exact .inr rfl | guard_target =~ Fr _ _ _)

theorem State.verifyBad_fr {M : Mask} {z s : State} {c : Nat} {op : SecOp} (hm : Mask.le { sent := true, ev := true, unitT := true, ft := true, pw := true, md := true, chT := true, ldT := true, actT := true, spT := true, spWait := true, ar := true, jn := true, rb := true, lk := true, cm := true, hc := true, r4 := true, rmd := true, rpw := true } M = true) (h0 : Fr M z s) :
    Fr M z (State.verifyBad s c op) := by
  refine Fr.via ?_ hm h0
  unfold State.verifyBad
  repeat' first
    | with_reducible exact Fr.refl _ _
    | with_reducible refine State.attemptFailed_fr (by decide) ?_
    | with_reducible refine State.sat_fr (by decide) ?_ ?_
    | with_reducible refine State.schedDone_fr (by decide) ?_
    | split
    | exact Mask.okHigh (le_add1 (by decide))
    | (apply Fr.leafB <;> first | rfl | exact .inl rfl | exact .inr rfl | guard_target =~ Fr _ _ _)

theorem State.verifySolo_fr {M : Mask} {z s : State} {c : Nat} {op : SecOp} {slot : Option Nat} {off : Nat} (hm : Mask.le { sent := true, ev := true, unitT := true, ft := true, pw := true, md := true, chT := true, ldT := true, actT := true, spT := true, spWait := true, ar := true, jn := true, rb := true, lk := true, cm := true, hc := true, r4 := true, rmd := true, rpw := true } M = true) (h0 : Fr M z s) :
    Fr M z (State.verifySolo s c op slot off) := by
  refine Fr.via ?_ hm h0
  unfold State.verifySolo
  repeat' first
    | with_reducible exact Fr.refl _ _
    | with_reducible refine Fr.ite ?_ ?_
    | with_reducible refine State.ldUp_fr (by decide) ?_
    | with_reducible refine State.slotUp_fr (by decide) ?_
    | with_reducible refine State.verifyBad_fr (by decide) ?_
    | split

theorem State.readBad_fr {M : Mask} {z s : State} {c : Nat} {op : SecOp} {slot : Option Nat} {sync : Option Int} {undec : Bool} {off : Nat} {dec : Option (Int × Nat)} (hm : Mask.le { sent := true, ev := true, unitT := true, ft := true, pw := true, md := true, chT := true, ldT := true, actT := true, spT := true, spWait := true, ar := true, jn := true, rb := true, lk := true, qm := true, cm := true, hc := true, dm := true, bm := true, mem := true, mc := true, r4 := true, rmd := true, rpw := true } M = true) (h0 : Fr M z s) :
    Fr M z (State.readBad s c op slot sync undec off dec) := by
  refine Fr.via ?_ hm h0
  unfold State.readBad
  repeat' first
    | with_reducible exact Fr.refl _ _
    | with_reducible refine Fr.ite ?_ ?_
    | with_reducible refine State.abandon_fr (by decide) ?_
    | with_reducible refine State.ladEnter_fr (by decide) ?_
    | with_reducible refine State.ldUp_fr (by decide) ?_
    | with_reducible refine State.note_fr (by decide) ?_ ?_
    | with_reducible refine State.rereadFailed_fr (by decide) ?_
    | with_reducible refine State.sat_fr (by decide) ?_ ?_
    | with_reducible refine State.schedDone_fr (by decide) ?_
    | with_reducible refine State.verifySolo_fr (by decide) ?_
    | split
    | exact Mask.okHigh (le_add1 (by decide))

theorem State.freeField_fr {M : Mask} {z s : State} {f : RF} (hm : Mask.le { free := true } M = true) (hf : M.ok f.addr) (h0 : Fr M z s) :
    Fr M z (State.freeField s f) := by
  refine Fr.tr ?_ h0
  unfold State.freeField
  repeat' first
    | with_reducible exact Fr.refl _ _
    | with_reducible assumption
    | with_reducible refine State.free_fr (by first | decide | exact Mask.le_trans (by decide) hm) ?_
    | with_reducible refine Fr.pB ?_ ?_

theorem State.adapt_fr {M : Mask} {z s : State} {c : Nat} {off : Nat} {on_ : Bool} {freeze : Bool} {ok : Bool} (hm : Mask.le { free := true } M = true) (h0 : Fr M z s) :
    Fr M z (State.adapt s c off on_ freeze ok) := by
  refine Fr.via ?_ hm h0
  unfold State.adapt
  repeat' first
    | with_reducible exact Fr.refl _ _
    | with_reducible refine Fr.ite ?_ ?_
    | with_reducible refine State.freeField_fr (by decide) ?_ ?_
    | with_reducible refine Fr.each (fun _ _ => ?_) ?_
    | exact Mask.okHigh (le_add1 (le_add1 (by decide)))

theorem State.readEnd_fr {M : Mask} {z s : State} {n : Nat} {op : SecOp} {slot : Option Nat} {oc : Nat} {e : Nat} {sync : Option Int} {undec : Bool} {off : Nat} (hm : Mask.le { free := true, sent := true, ev := true, unitT := true, ft := true, pw := true, md := true, chT := true, ldT := true, actT := true, spT := true, spWait := true, ar := true, jn := true, rb := true, lk := true, qm := true, cm := true, hc := true, dm := true, bm := true, mem := true, mc := true, r4 := true, rmd := true, rpw := true } M = true) (h0 : Fr M z s) :
    Fr M z (State.readEnd s n op slot oc e sync undec off) := by
  refine Fr.via ?_ hm h0
  unfold State.readEnd
  repeat' first
    | with_reducible exact Fr.refl _ _
    | with_reducible refine State.adapt_fr (by decide) ?_
    | with_reducible refine State.outcome_fr (by decide) ?_
    | with_reducible refine State.readBad_fr (by decide) ?_

theorem State.toDecoder_fr {M : Mask} {z s : State} {n : Nat} {op : SecOp} {slot : Option Nat} {o : Int} {e : Nat} {off : Nat} (hm : Mask.le { free := true, sent := true, ev := true, unitT := true, ft := true, pw := true, md := true, chT := true, ldT := true, actT := true, spT := true, spWait := true, ar := true, jn := true, rb := true, lk := true, qm := true, cm := true, hc := true, dm := true, bm := true, mem := true, mc := true, r4 := true, rmd := true, rpw := true } M = true) (h0 : Fr M z s) :
    Fr M z (State.toDecoder s n op slot o e off) := by
  refine Fr.via ?_ hm h0
  unfold State.toDecoder
  repeat' first
    | with_reducible exact Fr.refl _ _
    | with_reducible refine Fr.ite ?_ ?_
    | with_reducible refine State.chUp_fr (by decide) ?_
    | with_reducible refine State.readEnd_fr (by decide) ?_
    | with_reducible refine State.slotUp_fr (by decide) ?_
    | split

theorem State.smemFill_fr {M : Mask} {z s : State} {n : Nat} {op : SecOp} {around : BitVec 56} {bursts : List (BitVec 46)}
    {s0 s1 : BitVec 221184} {ue : Bool} (hm : Mask.le { sent := true, ev := true, unitT := true, ft := true, pw := true, md := true, chT := true, actT := true, spT := true, spWait := true, ar := true, jn := true, rb := true, lk := true, cm := true, hc := true, r4 := true, rmd := true, rpw := true } M = true) (h0 : Fr M z s) :
    Fr M z (s.smemFill n op around bursts s0 s1 ue).2 := by
  refine Fr.via ?_ hm h0
  unfold State.smemFill
  dsimp only
  split
  · exact Fr.ite (State.smemUe_fr (by decide) (State.slotUp_fr (by decide) (State.chUp_fr (by decide) (Fr.refl _ _))))
      (State.slotUp_fr (by decide) (State.chUp_fr (by decide) (Fr.refl _ _)))
  · exact Fr.refl _ _

theorem execSectorRead_fr {s : State} {c : Fin 32} {op : SecOp} {around : BitVec 56} {resync : List (BitVec 46)} {fofs : BitVec 16}
    {s0 s1 : BitVec 221184} {ue last : Bool} : FrO { free := true, sent := true, ev := true, unitT := true, ft := true, pw := true, md := true, chT := true, paT := true, ldT := true, actT := true, spT := true, spWait := true, ar := true, jn := true, rb := true, lk := true, qm := true, cm := true, hc := true, dm := true, bm := true, mem := true, mc := true, r4 := true, rmd := true, rpw := true } s (execSectorRead c op around resync fofs s0 s1 ue last s) := by
  unfold execSectorRead
  refine FrO.next ?_
  extract_lets n re held cut hit t1 off t2 bits f range
  refine Fr.ite ?_ (Fr.ite (Fr.refl _ _) ?_)
  · split
    · exact State.abandon_fr (by decide) (Fr.refl _ _)
    · exact Fr.refl _ _
  have h1 : Fr { free := true, sent := true, ev := true, unitT := true, ft := true, pw := true, md := true, chT := true, paT := true, ldT := true, actT := true, spT := true, spWait := true, ar := true, jn := true, rb := true, lk := true, qm := true, cm := true, hc := true, dm := true, bm := true, mem := true, mc := true, r4 := true, rmd := true, rpw := true } s t1 := State.opStart_fr (by decide) (Fr.refl _ _)
  clear_value t1 re
  have h2 : Fr { free := true, sent := true, ev := true, unitT := true, ft := true, pw := true, md := true, chT := true, paT := true, ldT := true, actT := true, spT := true, spWait := true, ar := true, jn := true, rb := true, lk := true, qm := true, cm := true, hc := true, dm := true, bm := true, mem := true, mc := true, r4 := true, rmd := true, rpw := true } s t2 := by
    unfold t2
    split
    · exact Fr.ite (State.ladUp_fr (by decide) h1) h1
    · exact h1
  clear_value t2 bits f range
  have h3 := State.smemFill_fr (M := { free := true, sent := true, ev := true, unitT := true, ft := true, pw := true, md := true, chT := true, paT := true, ldT := true, actT := true, spT := true, spWait := true, ar := true, jn := true, rb := true, lk := true, qm := true, cm := true, hc := true, dm := true, bm := true, mem := true, mc := true, r4 := true, rmd := true, rpw := true }) (z := s) (n := n) (op := op) (around := bits) (bursts := resync) (s0 := s0) (s1 := s1) (ue := ue)
    (by decide) h2
  generalize t2.smemFill n op bits resync s0 s1 ue = r at h3 ⊢
  obtain ⟨slot, t3⟩ := r
  dsimp only at h3 ⊢
  have h4 : Fr { free := true, sent := true, ev := true, unitT := true, ft := true, pw := true, md := true, chT := true, paT := true, ldT := true, actT := true, spT := true, spWait := true, ar := true, jn := true, rb := true, lk := true, qm := true, cm := true, hc := true, dm := true, bm := true, mem := true, mc := true, r4 := true, rmd := true, rpw := true } s (if t3.is (CH_AGC_HOLD n) then t3 else (t3.freeField (CH_AGC_GAIN0 n)).freeField (CH_AGC_GAIN1 n)) :=
    Fr.ite h3 (State.freeField_fr (by decide) (Mask.okHigh (le_add1 (by decide)))
      (State.freeField_fr (by decide) (Mask.okHigh (le_add1 (by decide))) h3))
  generalize (if t3.is (CH_AGC_HOLD n) then t3 else (t3.freeField (CH_AGC_GAIN0 n)).freeField (CH_AGC_GAIN1 n)) = t4 at h4 ⊢
  have h6 : Fr { free := true, sent := true, ev := true, unitT := true, ft := true, pw := true, md := true, chT := true, paT := true, ldT := true, actT := true, spT := true, spWait := true, ar := true, jn := true, rb := true, lk := true, qm := true, cm := true, hc := true, dm := true, bm := true, mem := true, mc := true, r4 := true, rmd := true, rpw := true } s (((t4.p (CH_TR_STAT_FOFS n) fofs.toNat).p (CH_TR_STAT_LOCK n) (b2n (!range))).chUp n (fun x => { x with
      tr := ((t4.p (CH_TR_STAT_FOFS n) fofs.toNat).p (CH_TR_STAT_LOCK n) (b2n (!range))).trUse n op f })) :=
    State.chUp_fr (by decide) (Fr.pB (Mask.okHigh (le_add1 (by decide))) (Fr.pB (Mask.okHigh (le_add1 (by decide))) h4))
  refine Fr.ite (State.readEnd_fr (by decide) h3) (Fr.ite ?_ ?_)
  · exact State.readEnd_fr (by decide) (State.note_fr (by decide) (Mask.okHigh (le_add1 (by decide))) h6)
  · split
    · exact State.readEnd_fr (by decide) h6
    · exact State.toDecoder_fr (by decide) h6

theorem State.decPop_fr {M : Mask} {z s : State} {c : Nat} {j : DecJob} (hm : Mask.le { chT := true } M = true) (h0 : Fr M z s) :
    Fr M z (State.decPop s c j) := by
  refine Fr.via ?_ hm h0
  unfold State.decPop
  repeat' first
    | with_reducible exact Fr.refl _ _
    | with_reducible refine State.chUp_fr (by decide) ?_
    | with_reducible refine State.slotUp_fr (by decide) ?_
    | split

theorem State.decEnd_fr {M : Mask} {z s : State} {c : Nat} {j : DecJob} {conv : Bool} {ok : Bool} {iter : Nat} (hm : Mask.le { free := true, chT := true } M = true) (h0 : Fr M z s) :
    Fr M z (State.decEnd s c j conv ok iter) := by
  refine Fr.via ?_ hm h0
  unfold State.decEnd
  repeat' first
    | with_reducible exact Fr.refl _ _
    | with_reducible refine State.adapt_fr (by decide) ?_
    | with_reducible refine State.decPop_fr (by decide) ?_
    | with_reducible refine State.outcome_fr (by decide) ?_

theorem execDecodeDone_fr {s : State} {c : Fin 32} {cw : BitVec 36480} {iter : Nat} : FrO { free := true, sent := true, ev := true, unitT := true, ft := true, pw := true, md := true, chT := true, ldT := true, actT := true, spT := true, spWait := true, ar := true, jn := true, rb := true, lk := true, qm := true, cm := true, hc := true, dm := true, bm := true, mem := true, mc := true, r4 := true, rmd := true, rpw := true } s (execDecodeDone c cw iter s) := by
  unfold execDecodeDone
  repeat' first
    | with_reducible exact Fr.refl _ _
    | with_reducible refine FrO.next ?_
    | with_reducible refine Fr.ite ?_ ?_
    | with_reducible refine State.decEnd_fr (by decide) ?_
    | with_reducible refine State.ladOk_fr (by decide) ?_
    | with_reducible refine State.on_fr (by decide) ?_ ?_
    | with_reducible refine State.readBad_fr (by decide) ?_
    | with_reducible refine State.readOk_fr (by decide) ?_
    | with_reducible refine State.sat_fr (by decide) ?_ ?_
    | split
    | exact Mask.okHigh (le_add1 (by decide))
    | (apply Fr.leafB <;> first | rfl | exact .inl rfl | exact .inr rfl | guard_target =~ Fr _ _ _)

theorem State.vcrcBad_fr {M : Mask} {z s : State} {op : SecOp} (hm : Mask.le { sent := true, ev := true, unitT := true, ft := true, pw := true, md := true, chT := true, actT := true, spT := true, spWait := true, ar := true, jn := true, rb := true, lk := true, cm := true, hc := true, r4 := true, rmd := true, rpw := true } M = true) (h0 : Fr M z s) :
    Fr M z (State.vcrcBad s op) := by
  refine Fr.via ?_ hm h0
  unfold State.vcrcBad
  repeat' first
    | with_reducible exact Fr.refl _ _
    | with_reducible refine State.fault_fr (by decide) ?_ ?_
    | with_reducible refine State.sat_fr (by decide) ?_ ?_
    | exact Mask.okHigh (Nat.le_of_ble_eq_true rfl)

theorem State.driveSlot_fr {M : Mask} {z s : State} {n : Nat} {op : SecOp} {cw : Nat} (hm : Mask.le { chT := true } M = true) (h0 : Fr M z s) :
    Fr M z (State.driveSlot s n op cw) := by
  refine Fr.via ?_ hm h0
  unfold State.driveSlot
  repeat' first
    | with_reducible exact Fr.refl _ _
    | with_reducible refine State.chUp_fr (by decide) ?_

theorem execSectorWrite_fr {s : State} {c : Fin 32} {op : SecOp} {vcrcOk : Bool} {completed : Bool} {last : Bool} : FrO { sent := true, ev := true, unitT := true, ft := true, pw := true, md := true, chT := true, paT := true, ldT := true, actT := true, spT := true, spWait := true, ar := true, jn := true, rb := true, lk := true, cm := true, hc := true, r4 := true, rmd := true, rpw := true } s (execSectorWrite c op vcrcOk completed last s) := by
  unfold execSectorWrite
  repeat' first
    | with_reducible exact Fr.refl _ _
    | with_reducible refine FrO.next ?_
    | with_reducible refine Fr.ite ?_ ?_
    | with_reducible refine State.actUp_fr (by decide) ?_
    | with_reducible refine State.attemptFailed_fr (by decide) ?_
    | with_reducible refine State.driveSlot_fr (by decide) ?_
    | with_reducible refine State.ldUp_fr (by decide) ?_
    | with_reducible refine State.on_fr (by decide) ?_ ?_
    | with_reducible refine State.opStart_fr (by decide) ?_
    | with_reducible refine State.outcome_fr (by decide) ?_
    | with_reducible refine State.rewriteSet_fr (by decide) ?_
    | with_reducible refine State.sat_fr (by decide) ?_ ?_
    | with_reducible refine State.schedDone_fr (by decide) ?_
    | with_reducible refine State.sectorDone_fr (by decide) ?_
    | with_reducible refine State.vcrcBad_fr (by decide) ?_
    | split
    | exact Mask.okHigh (le_add1 (by decide))

theorem State.rdrSuspect_fr {M : Mask} {z s : State} {c : Nat} {m : Nat} {reader : Nat} (hm : Mask.le { sent := true, ev := true, lk := true } M = true) (h0 : Fr M z s) :
    Fr M z (State.rdrSuspect s c m reader) := by
  refine Fr.via ?_ hm h0
  unfold State.rdrSuspect
  repeat' first
    | with_reducible exact Fr.refl _ _
    | with_reducible refine Fr.ite ?_ ?_
    | with_reducible refine State.on_fr (by decide) ?_ ?_
    | with_reducible refine State.raise_fr (by decide) ?_
    | with_reducible refine State.sat_fr (by decide) ?_ ?_
    | split
    | exact Mask.okHigh (le_add1 (by decide))

theorem State.soloEnd_fr {M : Mask} {z s : State} {n : Nat} {v : SoloVerify} {ok0 : Bool} {ok1 : Bool} (hm : Mask.le { sent := true, ev := true, unitT := true, ft := true, pw := true, md := true, chT := true, ldT := true, actT := true, spT := true, spWait := true, ar := true, jn := true, rb := true, lk := true, cm := true, hc := true, r4 := true, rmd := true, rpw := true } M = true) (h0 : Fr M z s) :
    Fr M z (State.soloEnd s n v ok0 ok1) := by
  refine Fr.via ?_ hm h0
  unfold State.soloEnd
  repeat' first
    | with_reducible exact Fr.refl _ _
    | with_reducible refine Fr.ite ?_ ?_
    | with_reducible refine State.rdrSuspect_fr (by decide) ?_
    | with_reducible refine State.slotUp_fr (by decide) ?_
    | with_reducible refine State.verified_fr (by decide) ?_
    | with_reducible refine State.verifyBad_fr (by decide) ?_

theorem execVerifyDone_fr {s : State} {c : Fin 32} {cw : BitVec 36480} {iter : Nat} : FrO { free := true, sent := true, ev := true, unitT := true, ft := true, pw := true, md := true, chT := true, ldT := true, actT := true, spT := true, spWait := true, ar := true, jn := true, rb := true, lk := true, qm := true, cm := true, hc := true, dm := true, bm := true, mem := true, mc := true, r4 := true, rmd := true, rpw := true } s (execVerifyDone c cw iter s) := by
  unfold execVerifyDone
  repeat' first
    | with_reducible exact Fr.refl _ _
    | with_reducible refine FrO.next ?_
    | with_reducible refine Fr.ite ?_ ?_
    | with_reducible refine State.decEnd_fr (by decide) ?_
    | with_reducible refine State.ladEnter_fr (by decide) ?_
    | with_reducible refine State.ldUp_fr (by decide) ?_
    | with_reducible refine State.schedDone_fr (by decide) ?_
    | with_reducible refine State.slowEnd_fr (by decide) ?_
    | with_reducible refine State.soloEnd_fr (by decide) ?_
    | with_reducible refine State.verified_fr (by decide) ?_
    | with_reducible refine State.verifySolo_fr (by decide) ?_
    | split
    | (apply Fr.leafB <;> first | rfl | exact .inl rfl | exact .inr rfl | guard_target =~ Fr _ _ _)

theorem execLadderSectorStart_fr {s : State} {a : Fin 8} : FrO { sent := true, ev := true, unitT := true, ft := true, pw := true, md := true, chT := true, ldT := true, actT := true, spT := true, spWait := true, ar := true, jn := true, rb := true, lk := true, qm := true, cm := true, hc := true, dm := true, bm := true, mem := true, mc := true, r4 := true, rmd := true, rpw := true } s (execLadderSectorStart a s) := by
  unfold execLadderSectorStart
  repeat' first
    | with_reducible exact Fr.refl _ _
    | with_reducible refine FrO.next ?_
    | with_reducible refine Fr.ite ?_ ?_
    | with_reducible refine State.abandon_fr (by decide) ?_
    | with_reducible refine State.ladGo_fr (by decide) ?_
    | with_reducible refine State.ladUp_fr (by decide) ?_
    | split

theorem State.misdirect_fr {M : Mask} {z s : State} {l : Ladder} (hm : Mask.le { sent := true, ev := true, lk := true } M = true) (h0 : Fr M z s) :
    Fr M z (State.misdirect s l).2 := by
  refine Fr.via ?_ hm h0
  unfold State.misdirect
  repeat' first
    | with_reducible exact Fr.refl _ _
    | with_reducible refine Fr.ite ?_ ?_
    | with_reducible refine Fr.ite2 ?_ ?_
    | with_reducible refine State.note_fr (by decide) ?_ ?_
    | exact Mask.okHigh (le_add1 (by decide))

theorem State.decSet_fr {M : Mask} {z s : State} {l : Ladder} {t : Nat} (hm : Mask.le { free := true } M = true) (h0 : Fr M z s) :
    Fr M z (State.decSet s l t).2 := by
  refine Fr.via ?_ hm h0
  unfold State.decSet
  repeat' first
    | with_reducible exact Fr.refl _ _
    | with_reducible refine Fr.ite2 ?_ ?_
    | (apply Fr.leafB <;> first | rfl | exact .inl rfl | exact .inr rfl | guard_target =~ Fr _ _ _)

theorem State.ladDecoded_fr {M : Mask} {z s : State} {l : Ladder} {t : Int} {rest : List Int} {conv : Bool} {it : Nat} {unsat : Nat} (hm : Mask.le { free := true } M = true) (h0 : Fr M z s) :
    Fr M z (State.ladDecoded s l t rest conv it unsat).2 := by
  refine Fr.via ?_ hm h0
  unfold State.ladDecoded
  repeat' first
    | with_reducible exact Fr.refl _ _
    | with_reducible refine Fr.ite ?_ ?_
    | with_reducible refine State.decSet_fr (by decide) ?_
    | with_reducible refine State.on_fr (by decide) ?_ ?_
    | with_reducible refine State.sat_fr (by decide) ?_ ?_
    | exact Mask.okHigh (le_add1 (by decide))

theorem execLadderDecodeDone_fr {s : State} {a : Fin 8} {cw : BitVec 36480} {iter : Nat} {unsat : Nat} : FrO { free := true, sent := true, ev := true, unitT := true, ft := true, pw := true, md := true, chT := true, ldT := true, actT := true, spT := true, spWait := true, ar := true, jn := true, rb := true, lk := true, qm := true, cm := true, hc := true, dm := true, bm := true, mem := true, mc := true, r4 := true, rmd := true, rpw := true } s (execLadderDecodeDone a cw iter unsat s) := by
  unfold execLadderDecodeDone
  repeat' first
    | extract_lets
    | with_reducible exact Fr.refl _ _
    | with_reducible refine FrO.next ?_
    | with_reducible refine Fr.ite ?_ ?_
    | with_reducible refine Fr.ite2 ?_ ?_
    | with_reducible refine State.abandon_fr (by decide) ?_
    | with_reducible refine State.ladDecoded_fr (by decide) ?_
    | with_reducible refine State.ladDrop_fr (by decide) ?_
    | with_reducible refine State.ladGo_fr (by decide) ?_
    | with_reducible refine State.ladOk_fr (by decide) ?_
    | with_reducible refine State.ladUp_fr (by decide) ?_
    | with_reducible refine State.ldLast_fr (by decide) ?_
    | with_reducible refine State.ldUp_fr (by decide) ?_
    | with_reducible refine State.misdirect_fr (by decide) ?_
    | with_reducible refine State.note_fr (by decide) ?_ ?_
    | with_reducible refine State.sat_fr (by decide) ?_ ?_
    | with_reducible refine State.slowEnd_fr (by decide) ?_
    | split
    | exact Mask.okHigh (le_add1 (by decide))

theorem execLadderTimeLimit_fr {s : State} {c : Fin 32} {mba : BitVec 40} : FrO { sent := true, ev := true, unitT := true, ft := true, pw := true, md := true, chT := true, ldT := true, actT := true, spT := true, spWait := true, ar := true, jn := true, rb := true, lk := true, qm := true, cm := true, hc := true, dm := true, bm := true, mem := true, mc := true, r4 := true, rmd := true, rpw := true } s (execLadderTimeLimit c mba s) := by
  unfold execLadderTimeLimit
  repeat' first
    | with_reducible exact Fr.refl _ _
    | with_reducible refine FrO.next ?_
    | with_reducible refine Fr.ite ?_ ?_
    | with_reducible refine State.abandon_fr (by decide) ?_
    | with_reducible refine State.ladFail_fr (by decide) ?_
    | with_reducible refine State.ldUp_fr (by decide) ?_
    | split
    | (apply Fr.leafB <;> first | rfl | exact .inl rfl | exact .inr rfl | guard_target =~ Fr _ _ _)

end Sys2Proof.Machine
end

