-- ==== Sys2Proof/Laws/FrServo.lean ====
section
/-! SUPPORT. Laws/FrServo.lean: what each operation of Machine/Servo.lean may touch: the lemma that later proofs cite in
place of unfolding it. -/

namespace Sys2Proof.Machine

open Reg

theorem State.coreSet_fr {M : Mask} {z s : State} {mv : Nat} (hm : Mask.le { rpw := true } M = true) (h0 : Fr M z s) :
    Fr M z (State.coreSet s mv) := by
  refine Fr.via ?_ hm h0
  unfold State.coreSet
  repeat' first
    | with_reducible exact Fr.refl _ _
    | with_reducible refine Fr.pB ?_ ?_
    | (unfold Mask.ok; decide)

theorem State.setAstate_fr {M : Mask} {z s : State} {a : Nat} {st : Nat} (hm : Mask.le {} M = true) (h0 : Fr M z s) :
    Fr M z (State.setAstate s a st) := by
  refine Fr.via ?_ hm h0
  unfold State.setAstate
  repeat' first
    | with_reducible exact Fr.refl _ _
    | with_reducible refine Fr.ite ?_ ?_
    | with_reducible refine State.off_fr (by decide) ?_ ?_
    | with_reducible refine Fr.pB ?_ ?_
    | exact Mask.okHigh (le_add1 (by decide))

theorem State.slotPut_fr {M : Mask} {z s : State} {a : Nat} {n : Nat} {f : SvSlot → SvSlot} (hm : Mask.le { actT := true } M = true) (h0 : Fr M z s) :
    Fr M z (State.slotPut s a n f) := by
  refine Fr.via ?_ hm h0
  unfold State.slotPut
  repeat' first
    | with_reducible exact Fr.refl _ _
    | with_reducible refine State.actUp_fr (by decide) ?_

theorem State.capture_fr {M : Mask} {z s : State} {a : Nat} {e : Nat} (hm : Mask.le { actT := true } M = true) (h0 : Fr M z s) :
    Fr M z (State.capture s a e) := by
  refine Fr.via ?_ hm h0
  unfold State.capture
  repeat' first
    | with_reducible exact Fr.refl _ _
    | with_reducible refine Fr.ite ?_ ?_
    | with_reducible refine State.actUp_fr (by decide) ?_
    | with_reducible refine State.on_fr (by decide) ?_ ?_
    | with_reducible refine Fr.pB ?_ ?_
    | split
    | exact Mask.okHigh (le_add1 (by decide))

theorem State.capTrig_fr {M : Mask} {z s : State} {a : Nat} {mode : Nat} (hm : Mask.le { actT := true } M = true) (h0 : Fr M z s) :
    Fr M z (State.capTrig s a mode) := by
  refine Fr.via ?_ hm h0
  unfold State.capTrig
  repeat' first
    | with_reducible exact Fr.refl _ _
    | with_reducible refine Fr.ite ?_ ?_
    | with_reducible refine State.actUp_fr (by decide) ?_
    | with_reducible refine State.on_fr (by decide) ?_ ?_
    | exact Mask.okHigh (le_add1 (by decide))

theorem doCaptureArm_fr {M : Mask} {z s : State} {a : Fin 8} (hm : Mask.le { actT := true } M = true) (h0 : Fr M z s) :
    Fr M z (doCaptureArm a s) := by
  refine Fr.via ?_ hm h0
  unfold doCaptureArm
  repeat' first
    | with_reducible exact Fr.refl _ _
    | with_reducible refine State.actUp_fr (by decide) ?_
    | with_reducible refine State.off_fr (by decide) ?_ ?_
    | exact Mask.okHigh (le_add1 (by decide))

theorem execCaptureArm_fr {s : State} {a : Fin 8} : FrO { actT := true } s (execCaptureArm a s) := by
  unfold execCaptureArm
  repeat' first
    | with_reducible exact Fr.refl _ _
    | with_reducible refine FrO.next ?_
    | with_reducible refine doCaptureArm_fr (by decide) ?_

theorem State.capRead_fr {M : Mask} {z s : State} {a : Nat} (hm : Mask.le { rdata := true } M = true) (h0 : Fr M z s) :
    Fr M z (State.capRead s a) := by
  refine Fr.via ?_ hm h0
  unfold State.capRead
  repeat' first
    | with_reducible exact Fr.refl _ _
    | with_reducible refine Fr.pB ?_ ?_
    | exact Mask.okHigh (le_add1 (by decide))
    | (apply Fr.leafB <;> first | rfl | exact .inl rfl | exact .inr rfl | guard_target =~ Fr _ _ _)

theorem execCaptureDataRead_fr {s : State} {a : Fin 8} : FrO { rdata := true } s (execCaptureDataRead a s) := by
  unfold execCaptureDataRead
  repeat' first
    | with_reducible exact Fr.refl _ _
    | with_reducible refine FrO.next ?_
    | with_reducible refine State.capRead_fr (by decide) ?_

theorem State.overrun_fr {M : Mask} {z s : State} {a : Nat} (hm : Mask.le { sent := true, ev := true, unitT := true, ft := true, pw := true, md := true, chT := true, actT := true, spT := true, spWait := true, ar := true, jn := true, rb := true, lk := true, cm := true, hc := true, r4 := true, rmd := true, rpw := true } M = true) (h0 : Fr M z s) :
    Fr M z (State.overrun s a) := by
  refine Fr.via ?_ hm h0
  unfold State.overrun
  repeat' first
    | with_reducible exact Fr.refl _ _
    | with_reducible refine Fr.ite ?_ ?_
    | with_reducible refine State.actUp_fr (by decide) ?_
    | with_reducible refine State.capTrig_fr (by decide) ?_
    | with_reducible refine State.capture_fr (by decide) ?_
    | with_reducible refine State.coreSet_fr (by decide) ?_
    | with_reducible refine State.cutWrite_fr (by decide) ?_
    | with_reducible refine State.fault_fr (by decide) ?_ ?_
    | with_reducible refine State.note_fr (by decide) ?_ ?_
    | with_reducible refine State.off_fr (by decide) ?_ ?_
    | with_reducible refine State.on_fr (by decide) ?_ ?_
    | with_reducible refine State.sat_fr (by decide) ?_ ?_
    | with_reducible refine State.unloadAct_fr (by decide) ?_
    | with_reducible refine Fr.pB ?_ ?_
    | with_reducible refine Fr.each (fun _ _ => ?_) ?_
    | exact Mask.okHigh (le_add1 (by decide))

theorem execWedgeDeadline_fr {s : State} {a : Fin 8} : FrO { sent := true, ev := true, unitT := true, ft := true, pw := true, md := true, chT := true, ldT := true, actT := true, spT := true, spWait := true, ar := true, jn := true, rb := true, lk := true, qm := true, cm := true, hc := true, dm := true, bm := true, mem := true, mc := true, r4 := true, rmd := true, rpw := true } s (execWedgeDeadline a s) := by
  unfold execWedgeDeadline
  repeat' first
    | with_reducible exact Fr.refl _ _
    | with_reducible refine FrO.next ?_
    | with_reducible refine Fr.ite ?_ ?_
    | with_reducible refine State.actUp_fr (by decide) ?_
    | with_reducible refine State.careFrom_fr (by decide) ?_
    | with_reducible refine State.overrun_fr (by decide) ?_

theorem State.seekNow_fr {M : Mask} {z s : State} {a : Nat} {ts : List (Nat × Nat)} (hm : Mask.le { chT := true, actT := true } M = true) (h0 : Fr M z s) :
    Fr M z (State.seekNow s a ts) := by
  refine Fr.via ?_ hm h0
  unfold State.seekNow
  repeat' first
    | with_reducible exact Fr.refl _ _
    | with_reducible refine Fr.ite ?_ ?_
    | with_reducible refine State.actUp_fr (by decide) ?_
    | with_reducible refine State.dropPerms_fr (by decide) ?_
    | with_reducible refine State.setAstate_fr (by decide) ?_
    | with_reducible refine State.slotPut_fr (by decide) ?_
    | with_reducible refine Fr.pB ?_ ?_
    | with_reducible refine Fr.each (fun _ _ => ?_) ?_
    | exact Mask.okHigh (le_add1 (by decide))

theorem State.seekAsk_fr {M : Mask} {z s : State} {a : Nat} {ts : List (Nat × Nat)} {wedge : Bool} (hm : Mask.le { sent := true, ev := true, chT := true, actT := true, lk := true } M = true) (h0 : Fr M z s) :
    Fr M z (State.seekAsk s a ts wedge).2 := by
  refine Fr.via ?_ hm h0
  unfold State.seekAsk
  repeat' first
    | with_reducible exact Fr.refl _ _
    | with_reducible refine Fr.ite2 ?_ ?_
    | with_reducible refine State.actUp_fr (by decide) ?_
    | with_reducible refine State.note_fr (by decide) ?_ ?_
    | with_reducible refine State.seekNow_fr (by decide) ?_
    | exact Mask.okHigh (le_add1 (by decide))

theorem execSeekStart_fr {s : State} {a : Fin 8} {targets : List (Nat × BitVec 20)} : FrO { sent := true, ev := true, chT := true, actT := true, lk := true } s (execSeekStart a targets s) := by
  unfold execSeekStart
  repeat' first
    | with_reducible exact Fr.refl _ _
    | with_reducible refine FrO.next ?_
    | with_reducible refine Fr.ite ?_ ?_
    | with_reducible refine State.seekAsk_fr (by decide) ?_

theorem doSeek_fr {M : Mask} {z s : State} {a : Fin 8} (hm : Mask.le { sent := true, ev := true, chT := true, actT := true, lk := true } M = true) (h0 : Fr M z s) :
    Fr M z (doSeek a s) := by
  refine Fr.via ?_ hm h0
  unfold doSeek
  repeat' first
    | with_reducible exact Fr.refl _ _
    | with_reducible refine Fr.ite ?_ ?_
    | with_reducible refine State.seekAsk_fr (by decide) ?_
    | with_reducible refine Fr.pB ?_ ?_
    | exact Mask.okHigh (le_add1 (by decide))

theorem execSeek_fr {s : State} {a : Fin 8} : FrO { sent := true, ev := true, chT := true, actT := true, lk := true } s (execSeek a s) := by
  unfold execSeek
  repeat' first
    | with_reducible exact Fr.refl _ _
    | with_reducible refine FrO.next ?_
    | with_reducible refine doSeek_fr (by decide) ?_

theorem execSettleTimeout_fr {s : State} {a : Fin 8} : FrO { sent := true, ev := true, actT := true, lk := true, cm := true } s (execSettleTimeout a s) := by
  unfold execSettleTimeout
  repeat' first
    | with_reducible exact Fr.refl _ _
    | with_reducible refine FrO.next ?_
    | with_reducible refine Fr.ite ?_ ?_
    | with_reducible refine State.actUp_fr (by decide) ?_
    | with_reducible refine State.note_fr (by decide) ?_ ?_
    | with_reducible refine State.seekFailed_fr (by decide) ?_
    | exact Mask.okHigh (le_add1 (by decide))

theorem State.loadStart_fr {M : Mask} {z s : State} {a : Nat} (hm : Mask.le { actT := true } M = true) (h0 : Fr M z s) :
    Fr M z (State.loadStart s a) := by
  refine Fr.via ?_ hm h0
  unfold State.loadStart
  repeat' first
    | with_reducible exact Fr.refl _ _
    | with_reducible refine State.actUp_fr (by decide) ?_
    | with_reducible refine State.off_fr (by decide) ?_ ?_
    | with_reducible refine State.setAstate_fr (by decide) ?_
    | exact Mask.okHigh (le_add1 (by decide))

theorem doLoad_fr {M : Mask} {z s : State} {a : Fin 8} (hm : Mask.le { actT := true } M = true) (h0 : Fr M z s) :
    Fr M z (doLoad a s) := by
  refine Fr.via ?_ hm h0
  unfold doLoad
  repeat' first
    | with_reducible exact Fr.refl _ _
    | with_reducible refine Fr.ite ?_ ?_
    | with_reducible refine State.loadStart_fr (by decide) ?_
    | with_reducible refine State.off_fr (by decide) ?_ ?_
    | with_reducible refine State.on_fr (by decide) ?_ ?_
    | with_reducible refine Fr.pB ?_ ?_
    | exact Mask.okHigh (le_add1 (by decide))

theorem execLoad_fr {s : State} {a : Fin 8} : FrO { actT := true } s (execLoad a s) := by
  unfold execLoad
  repeat' first
    | with_reducible exact Fr.refl _ _
    | with_reducible refine FrO.next ?_
    | with_reducible refine doLoad_fr (by decide) ?_

theorem doUnload_fr {M : Mask} {z s : State} {a : Fin 8} (hm : Mask.le { sent := true, ev := true, unitT := true, ft := true, pw := true, md := true, chT := true, ldT := true, actT := true, spT := true, spWait := true, ar := true, jn := true, rb := true, lk := true, qm := true, cm := true, hc := true, dm := true, bm := true, mem := true, mc := true, r4 := true, rmd := true, rpw := true } M = true) (h0 : Fr M z s) :
    Fr M z (doUnload a s) := by
  refine Fr.via ?_ hm h0
  unfold doUnload
  repeat' first
    | with_reducible exact Fr.refl _ _
    | with_reducible refine Fr.ite ?_ ?_
    | with_reducible refine State.careFrom_fr (by decide) ?_
    | with_reducible refine State.off_fr (by decide) ?_ ?_
    | with_reducible refine State.unloadAct_fr (by decide) ?_
    | with_reducible refine Fr.pB ?_ ?_
    | exact Mask.okHigh (le_add1 (by decide))

theorem execUnload_fr {s : State} {a : Fin 8} : FrO { sent := true, ev := true, unitT := true, ft := true, pw := true, md := true, chT := true, ldT := true, actT := true, spT := true, spWait := true, ar := true, jn := true, rb := true, lk := true, qm := true, cm := true, hc := true, dm := true, bm := true, mem := true, mc := true, r4 := true, rmd := true, rpw := true } s (execUnload a s) := by
  unfold execUnload
  repeat' first
    | with_reducible exact Fr.refl _ _
    | with_reducible refine FrO.next ?_
    | with_reducible refine doUnload_fr (by decide) ?_

theorem execLoadTimeout_fr {s : State} {a : Fin 8} : FrO { sent := true, ev := true, unitT := true, ft := true, pw := true, md := true, chT := true, ldT := true, actT := true, spT := true, spWait := true, ar := true, jn := true, rb := true, lk := true, qm := true, cm := true, hc := true, dm := true, bm := true, mem := true, mc := true, r4 := true, rmd := true, rpw := true } s (execLoadTimeout a s) := by
  unfold execLoadTimeout
  repeat' first
    | with_reducible exact Fr.refl _ _
    | with_reducible refine FrO.next ?_
    | with_reducible refine Fr.ite ?_ ?_
    | with_reducible refine State.actUp_fr (by decide) ?_
    | with_reducible refine State.careFrom_fr (by decide) ?_
    | with_reducible refine State.fault_fr (by decide) ?_ ?_
    | with_reducible refine State.unloadAct_fr (by decide) ?_
    | exact Mask.okHigh (le_add1 (by decide))

theorem State.unloadDone_fr {M : Mask} {z s : State} {a : Nat} (hm : Mask.le { actT := true, spT := true, spWait := true } M = true) (h0 : Fr M z s) :
    Fr M z (State.unloadDone s a) := by
  refine Fr.via ?_ hm h0
  unfold State.unloadDone
  repeat' first
    | with_reducible exact Fr.refl _ _
    | with_reducible refine Fr.ite ?_ ?_
    | with_reducible refine State.actUp_fr (by decide) ?_
    | with_reducible refine State.loadStart_fr (by decide) ?_
    | with_reducible refine State.off_fr (by decide) ?_ ?_
    | with_reducible refine State.setAstate_fr (by decide) ?_
    | with_reducible refine State.spindleFree_fr (by decide) ?_
    | exact Mask.okHigh (le_add1 (by decide))

theorem execUnloadTick_fr {s : State} {a : Fin 8} {uv : Int} : FrO { actT := true } s (execUnloadTick a uv s) := by
  unfold execUnloadTick
  repeat' first
    | with_reducible exact Fr.refl _ _
    | with_reducible refine FrO.next ?_
    | with_reducible refine Fr.ite ?_ ?_
    | with_reducible refine State.actUp_fr (by decide) ?_

theorem execHeadsParked_fr {s : State} {a : Fin 8} : FrO { sent := true, ev := true, actT := true, spT := true, spWait := true, lk := true } s (execHeadsParked a s) := by
  unfold execHeadsParked
  repeat' first
    | with_reducible exact Fr.refl _ _
    | with_reducible refine FrO.next ?_
    | with_reducible refine Fr.ite ?_ ?_
    | with_reducible refine State.actUp_fr (by decide) ?_
    | with_reducible refine State.note_fr (by decide) ?_ ?_
    | with_reducible refine State.sat_fr (by decide) ?_ ?_
    | with_reducible refine State.unloadDone_fr (by decide) ?_
    | exact Mask.okHigh (le_add1 (by decide))

theorem execUnloadTimeout_fr {s : State} {a : Fin 8} : FrO { actT := true } s (execUnloadTimeout a s) := by
  unfold execUnloadTimeout
  repeat' first
    | with_reducible exact Fr.refl _ _
    | with_reducible refine FrO.next ?_
    | with_reducible refine Fr.ite ?_ ?_
    | with_reducible refine State.actUp_fr (by decide) ?_

theorem execUnloadPushEnd_fr {s : State} {a : Fin 8} : FrO { sent := true, ev := true, unitT := true, ft := true, pw := true, md := true, chT := true, actT := true, spT := true, spWait := true, ar := true, jn := true, rb := true, lk := true, cm := true, hc := true, r4 := true, rmd := true, rpw := true } s (execUnloadPushEnd a s) := by
  unfold execUnloadPushEnd
  repeat' first
    | with_reducible exact Fr.refl _ _
    | with_reducible refine FrO.next ?_
    | with_reducible refine Fr.ite ?_ ?_
    | with_reducible refine State.actUp_fr (by decide) ?_
    | with_reducible refine State.fault_fr (by decide) ?_ ?_
    | with_reducible refine State.unloadDone_fr (by decide) ?_
    | exact Mask.okHigh (le_add1 (by decide))

theorem State.headLost_fr {M : Mask} {z s : State} {a : Nat} {n : Nat} (hm : Mask.le { sent := true, ev := true, unitT := true, ft := true, pw := true, md := true, chT := true, actT := true, spT := true, spWait := true, ar := true, jn := true, rb := true, lk := true, cm := true, hc := true, r4 := true, rmd := true, rpw := true } M = true) (h0 : Fr M z s) :
    Fr M z (State.headLost s a n) := by
  refine Fr.via ?_ hm h0
  unfold State.headLost
  repeat' first
    | with_reducible exact Fr.refl _ _
    | with_reducible refine State.actUp_fr (by decide) ?_
    | with_reducible refine State.cutWrite_fr (by decide) ?_
    | with_reducible refine State.fault_fr (by decide) ?_ ?_
    | with_reducible refine State.memberUnavail_fr (by decide) ?_
    | with_reducible refine State.offBit_fr (by decide) ?_ ?_
    | with_reducible refine State.onBit_fr (by decide) ?_ ?_
    | with_reducible refine State.slotPut_fr (by decide) ?_
    | exact Mask.okHigh (le_add1 (by decide))

theorem execSvDrvFault_fr {s : State} {a : Fin 8} {head : Option (Fin 12)} : FrO { sent := true, ev := true, unitT := true, ft := true, pw := true, md := true, chT := true, ldT := true, actT := true, spT := true, spWait := true, ar := true, jn := true, rb := true, lk := true, qm := true, cm := true, hc := true, dm := true, bm := true, mem := true, mc := true, r4 := true, rmd := true, rpw := true } s (execSvDrvFault a head s) := by
  unfold execSvDrvFault
  repeat' first
    | with_reducible exact Fr.refl _ _
    | with_reducible refine FrO.next ?_
    | with_reducible refine Fr.ite ?_ ?_
    | with_reducible refine State.actUp_fr (by decide) ?_
    | with_reducible refine State.careFrom_fr (by decide) ?_
    | with_reducible refine State.fault_fr (by decide) ?_ ?_
    | with_reducible refine State.headLost_fr (by decide) ?_
    | with_reducible refine State.memberUnavail_fr (by decide) ?_
    | with_reducible refine State.unloadAct_fr (by decide) ?_
    | split
    | exact Mask.okHigh (le_add1 (by decide))
    | (apply Fr.leafB <;> first | rfl | exact .inl rfl | exact .inr rfl | guard_target =~ Fr _ _ _)

theorem State.accPut_fr {M : Mask} {z s : State} {i : Nat} {x : AccState} (hm : Mask.le { acc0 := true, acc1 := true } M = true) (h0 : Fr M z s) :
    Fr M z (State.accPut s i x) := by
  refine Fr.via ?_ hm h0
  unfold State.accPut
  repeat' first
    | with_reducible exact Fr.refl _ _
    | with_reducible refine Fr.ite ?_ ?_
    | (apply Fr.leafB <;> first | rfl | exact .inl rfl | exact .inr rfl | guard_target =~ Fr _ _ _)

theorem State.accFail_fr {M : Mask} {z s : State} {i : Nat} (hm : Mask.le { sent := true, ev := true, unitT := true, ft := true, pw := true, md := true, chT := true, actT := true, acc0 := true, acc1 := true, spT := true, spWait := true, ar := true, jn := true, rb := true, lk := true, cm := true, hc := true, r4 := true, rmd := true, rpw := true } M = true) (h0 : Fr M z s) :
    Fr M z (State.accFail s i) := by
  refine Fr.via ?_ hm h0
  unfold State.accFail
  repeat' first
    | with_reducible exact Fr.refl _ _
    | with_reducible refine Fr.ite ?_ ?_
    | with_reducible refine State.accPut_fr (by decide) ?_
    | with_reducible refine State.faultSeq_fr (by decide) ?_ ?_
    | with_reducible refine State.on_fr (by decide) ?_ ?_
    | with_reducible refine State.raiseSeq_fr (by decide) ?_
    | with_reducible refine Fr.each (fun _ _ => ?_) ?_
    | split
    | exact Mask.okHigh (Nat.le_of_ble_eq_true rfl)
    | exact Mask.okHigh (le_add1 (by decide))

theorem execAccelSample_fr {s : State} {sensor : Fin 2} {x : BitVec 16} {y : BitVec 16} {z : BitVec 16} : FrO { sent := true, ev := true, unitT := true, ft := true, pw := true, md := true, chT := true, actT := true, acc0 := true, acc1 := true, spT := true, spWait := true, ar := true, jn := true, rb := true, lk := true, cm := true, hc := true, r4 := true, rmd := true, rpw := true } s (execAccelSample sensor x y z s) := by
  unfold execAccelSample
  repeat' first
    | with_reducible exact Fr.refl _ _
    | with_reducible refine FrO.next ?_
    | with_reducible refine Fr.ite ?_ ?_
    | with_reducible refine State.accFail_fr (by decide) ?_
    | with_reducible refine State.accPut_fr (by decide) ?_
    | with_reducible refine State.actUp_fr (by decide) ?_
    | with_reducible refine Fr.each (fun _ _ => ?_) ?_

theorem execAccelSilent_fr {s : State} {sensor : Fin 2} : FrO { sent := true, ev := true, unitT := true, ft := true, pw := true, md := true, chT := true, actT := true, acc0 := true, acc1 := true, spT := true, spWait := true, ar := true, jn := true, rb := true, lk := true, cm := true, hc := true, r4 := true, rmd := true, rpw := true } s (execAccelSilent sensor s) := by
  unfold execAccelSilent
  repeat' first
    | with_reducible exact Fr.refl _ _
    | with_reducible refine FrO.next ?_
    | with_reducible refine State.accFail_fr (by decide) ?_

theorem State.accShown_fr {M : Mask} {z s : State} {a : Nat} (hm : Mask.le {} M = true) (h0 : Fr M z s) :
    Fr M z (State.accShown s a) := by
  refine Fr.via ?_ hm h0
  unfold State.accShown
  repeat' first
    | with_reducible exact Fr.refl _ _
    | with_reducible refine Fr.ite ?_ ?_
    | with_reducible refine Fr.pB ?_ ?_
    | exact Mask.okHigh (Nat.le_of_ble_eq_true rfl)

theorem State.coefWrite_fr {M : Mask} {z s : State} {a : Nat} {k : Nat} {v : Nat} (hm : Mask.le { actT := true } M = true) (h0 : Fr M z s) :
    Fr M z (State.coefWrite s a k v) := by
  refine Fr.via ?_ hm h0
  unfold State.coefWrite
  repeat' first
    | with_reducible exact Fr.refl _ _
    | with_reducible refine Fr.ite ?_ ?_
    | with_reducible refine State.actUp_fr (by decide) ?_
    | with_reducible refine Fr.wrB ?_ ?_
    | exact Mask.okHigh (le_add1 (le_add1 (by decide)))

theorem execCoefWrite_fr {s : State} {a : Fin 8} {k : Fin 64} {v : BitVec 30} : FrO { actT := true } s (execCoefWrite a k v s) := by
  unfold execCoefWrite
  repeat' first
    | with_reducible exact Fr.refl _ _
    | with_reducible refine FrO.next ?_
    | with_reducible refine State.coefWrite_fr (by decide) ?_

theorem doRunoutClear_fr {M : Mask} {z s : State} {a : Fin 8} (hm : Mask.le { actT := true } M = true) (h0 : Fr M z s) :
    Fr M z (doRunoutClear a s) := by
  refine Fr.via ?_ hm h0
  unfold doRunoutClear
  repeat' first
    | with_reducible exact Fr.refl _ _
    | with_reducible refine State.actUp_fr (by decide) ?_

theorem execRunoutClear_fr {s : State} {a : Fin 8} : FrO { actT := true } s (execRunoutClear a s) := by
  unfold execRunoutClear
  repeat' first
    | with_reducible exact Fr.refl _ _
    | with_reducible refine FrO.next ?_
    | with_reducible refine doRunoutClear_fr (by decide) ?_

theorem State.runoutAccess_fr {M : Mask} {z s : State} {a : Nat} {write : Option Nat} (hm : Mask.le { rdata := true, actT := true } M = true) (h0 : Fr M z s) :
    Fr M z (State.runoutAccess s a write) := by
  refine Fr.via ?_ hm h0
  unfold State.runoutAccess
  repeat' first
    | with_reducible exact Fr.refl _ _
    | with_reducible refine Fr.ite ?_ ?_
    | with_reducible refine State.actUp_fr (by decide) ?_
    | with_reducible refine Fr.pB ?_ ?_
    | split
    | exact Mask.okHigh (le_add1 (by decide))
    | (apply Fr.leafB <;> first | rfl | exact .inl rfl | exact .inr rfl | guard_target =~ Fr _ _ _)

theorem execRunoutDataAccess_fr {s : State} {a : Fin 8} {write : Option (BitVec 16)} : FrO { rdata := true, actT := true } s (execRunoutDataAccess a write s) := by
  unfold execRunoutDataAccess
  repeat' first
    | with_reducible exact Fr.refl _ _
    | with_reducible refine FrO.next ?_
    | with_reducible refine State.runoutAccess_fr (by decide) ?_

theorem State.tsiWrite_fr {M : Mask} {z s : State} {a : Nat} {en : Bool} {point : Nat} {slot : Nat} {amp : Nat} (hm : Mask.le { free := true, actT := true } M = true) (h0 : Fr M z s) :
    Fr M z (State.tsiWrite s a en point slot amp) := by
  refine Fr.via ?_ hm h0
  unfold State.tsiWrite
  repeat' first
    | with_reducible exact Fr.refl _ _
    | with_reducible refine Fr.ite ?_ ?_
    | with_reducible refine State.actUp_fr (by decide) ?_
    | with_reducible refine State.capTrig_fr (by decide) ?_
    | with_reducible refine State.free_fr (by decide) ?_
    | with_reducible refine State.off_fr (by decide) ?_ ?_
    | with_reducible refine State.on_fr (by decide) ?_ ?_
    | with_reducible refine Fr.pB ?_ ?_
    | exact Mask.okHigh (le_add1 (by decide))

theorem execTestInjection_fr {s : State} {a : Fin 8} {en : Bool} {point : Fin 4} {slot : Fin 4} {amp : BitVec 16} : FrO { free := true, actT := true } s (execTestInjection a en point slot amp s) := by
  unfold execTestInjection
  repeat' first
    | with_reducible exact Fr.refl _ _
    | with_reducible refine FrO.next ?_
    | with_reducible refine State.tsiWrite_fr (by decide) ?_

theorem State.samWedge_fr {M : Mask} {z s : State} {a : Nat} {r : WedgeResults} (hm : Mask.le { actT := true } M = true) (h0 : Fr M z s) :
    Fr M z (State.samWedge s a r) := by
  refine Fr.via ?_ hm h0
  unfold State.samWedge
  repeat' first
    | with_reducible exact Fr.refl _ _
    | with_reducible refine State.slotPut_fr (by decide) ?_
    | with_reducible refine Fr.each (fun _ _ => ?_) ?_
    | split

theorem State.servoSlot_fr {M : Mask} {z s : State} {a : Nat} {n : Nat} {wedge : Nat} {arm : Option Int} {r : SlotDemod} (hm : Mask.le { actT := true } M = true) (h0 : Fr M z s) :
    Fr M z (State.servoSlot s a n wedge arm r) := by
  refine Fr.via ?_ hm h0
  unfold State.servoSlot
  repeat' first
    | with_reducible exact Fr.refl _ _
    | with_reducible refine Fr.ite ?_ ?_
    | with_reducible refine State.offBit_fr (by decide) ?_ ?_
    | with_reducible refine State.on_fr (by decide) ?_ ?_
    | with_reducible refine State.onBit_fr (by decide) ?_ ?_
    | with_reducible refine State.sat_fr (by decide) ?_ ?_
    | with_reducible refine State.slotPut_fr (by decide) ?_
    | with_reducible refine Fr.pB ?_ ?_
    | exact Mask.okHigh (le_add1 (by decide))

theorem State.shock_fr {M : Mask} {z s : State} {a : Nat} {n : Nat} (hm : Mask.le { actT := true } M = true) (h0 : Fr M z s) :
    Fr M z (State.shock s a n).2 := by
  refine Fr.via ?_ hm h0
  unfold State.shock
  repeat' first
    | with_reducible exact Fr.refl _ _
    | with_reducible refine Fr.ite2 ?_ ?_
    | with_reducible refine State.slotPut_fr (by decide) ?_

theorem State.permit_fr {M : Mask} {z s : State} {a : Nat} {n : Nat} (hm : Mask.le { chT := true, actT := true } M = true) (h0 : Fr M z s) :
    Fr M z (State.permit s a n) := by
  refine Fr.via ?_ hm h0
  unfold State.permit
  repeat' first
    | with_reducible exact Fr.refl _ _
    | with_reducible refine Fr.ite ?_ ?_
    | with_reducible refine State.cutWrite_fr (by decide) ?_
    | with_reducible refine State.offBit_fr (by decide) ?_ ?_
    | with_reducible refine State.on_fr (by decide) ?_ ?_
    | with_reducible refine State.onBit_fr (by decide) ?_ ?_
    | with_reducible refine State.shock_fr (by decide) ?_
    | with_reducible refine State.slotPut_fr (by decide) ?_
    | exact Mask.okHigh (le_add1 (by decide))

theorem State.following_fr {M : Mask} {z s : State} {a : Nat} (hm : Mask.le { sent := true, ev := true, ar := true, rb := true, lk := true } M = true) (h0 : Fr M z s) :
    Fr M z (State.following s a) := by
  refine Fr.via ?_ hm h0
  unfold State.following
  repeat' first
    | with_reducible exact Fr.refl _ _
    | with_reducible refine State.arU_fr (by decide) ?_
    | with_reducible refine State.memberClear_fr (by decide) ?_
    | with_reducible refine State.setAstate_fr (by decide) ?_
    | with_reducible refine Fr.each (fun _ _ => ?_) ?_

theorem State.feedback_fr {M : Mask} {z s : State} {a : Nat} (hm : Mask.le { sent := true, ev := true, unitT := true, ft := true, pw := true, md := true, chT := true, actT := true, spT := true, spWait := true, ar := true, jn := true, rb := true, lk := true, cm := true, hc := true, r4 := true, rmd := true, rpw := true } M = true) (h0 : Fr M z s) :
    Fr M z (State.feedback s a) := by
  refine Fr.via ?_ hm h0
  unfold State.feedback
  repeat' first
    | with_reducible exact Fr.refl _ _
    | with_reducible refine Fr.ite ?_ ?_
    | with_reducible refine State.actUp_fr (by decide) ?_
    | with_reducible refine State.capTrig_fr (by decide) ?_
    | with_reducible refine State.fault_fr (by decide) ?_ ?_
    | with_reducible refine State.following_fr (by decide) ?_
    | with_reducible refine State.headLost_fr (by decide) ?_
    | with_reducible refine State.inc_fr (by decide) ?_ ?_
    | with_reducible refine State.memberClear_fr (by decide) ?_
    | with_reducible refine State.note_fr (by decide) ?_ ?_
    | with_reducible refine State.off_fr (by decide) ?_ ?_
    | with_reducible refine State.offBit_fr (by decide) ?_ ?_
    | with_reducible refine State.sat_fr (by decide) ?_ ?_
    | with_reducible refine State.setAstate_fr (by decide) ?_
    | with_reducible refine State.slotPut_fr (by decide) ?_
    | with_reducible refine State.unloadAct_fr (by decide) ?_
    | with_reducible refine Fr.pB ?_ ?_
    | with_reducible refine Fr.each (fun _ _ => ?_) ?_
    | exact Mask.okHigh (le_add1 (by decide))

theorem State.wedge_fr {M : Mask} {z s : State} {a : Nat} {r : WedgeResults} (hm : Mask.le { sent := true, ev := true, unitT := true, ft := true, pw := true, md := true, chT := true, actT := true, spT := true, spWait := true, ar := true, jn := true, rb := true, lk := true, cm := true, hc := true, r4 := true, rmd := true, rpw := true } M = true) (h0 : Fr M z s) :
    Fr M z (State.wedge s a r) := by
  refine Fr.via ?_ hm h0
  unfold State.wedge
  repeat' first
    | with_reducible exact Fr.refl _ _
    | with_reducible refine Fr.ite ?_ ?_
    | with_reducible refine State.accShown_fr (by decide) ?_
    | with_reducible refine State.actUp_fr (by decide) ?_
    | with_reducible refine State.feedback_fr (by decide) ?_
    | with_reducible refine State.overrun_fr (by decide) ?_
    | with_reducible refine State.permit_fr (by decide) ?_
    | with_reducible refine State.samWedge_fr (by decide) ?_
    | with_reducible refine State.seekNow_fr (by decide) ?_
    | with_reducible refine State.servoSlot_fr (by decide) ?_
    | with_reducible refine Fr.pB ?_ ?_
    | with_reducible refine Fr.each (fun _ _ => ?_) ?_
    | split
    | exact Mask.okHigh (le_add1 (by decide))

theorem execWedgeFastCheck_fr {s : State} {a : Fin 8} {r : WedgeResults} : FrO { sent := true, ev := true, unitT := true, ft := true, pw := true, md := true, chT := true, ldT := true, actT := true, spT := true, spWait := true, ar := true, jn := true, rb := true, lk := true, qm := true, cm := true, hc := true, dm := true, bm := true, mem := true, mc := true, r4 := true, rmd := true, rpw := true } s (execWedgeFastCheck a r s) := by
  unfold execWedgeFastCheck
  repeat' first
    | with_reducible exact Fr.refl _ _
    | with_reducible refine FrO.next ?_
    | with_reducible refine Fr.ite ?_ ?_
    | with_reducible refine State.accShown_fr (by decide) ?_
    | with_reducible refine State.actUp_fr (by decide) ?_
    | with_reducible refine State.careFrom_fr (by decide) ?_
    | with_reducible refine State.note_fr (by decide) ?_ ?_
    | with_reducible refine State.samWedge_fr (by decide) ?_
    | with_reducible refine State.sat_fr (by decide) ?_ ?_
    | with_reducible refine State.setAstate_fr (by decide) ?_
    | with_reducible refine State.wedge_fr (by decide) ?_
    | with_reducible refine Fr.pB ?_ ?_
    | split
    | exact Mask.okHigh (le_add1 (by decide))

theorem State.satBits_fr {M : Mask} {z s : State} {a : Nat} {mask : Nat} (hm : Mask.le { sent := true, ev := true, lk := true } M = true) (h0 : Fr M z s) :
    Fr M z (State.satBits s a mask) := by
  refine Fr.via ?_ hm h0
  unfold State.satBits
  repeat' first
    | with_reducible exact Fr.refl _ _
    | with_reducible refine Fr.ite ?_ ?_
    | with_reducible refine State.note_fr (by decide) ?_ ?_
    | with_reducible refine Fr.wrB ?_ ?_
    | exact Mask.okHigh (le_add1 (by decide))

theorem State.output_fr {M : Mask} {z s : State} {a : Nat} {j : WedgeJob} {t5 : Nat} (hm : Mask.le { sent := true, ev := true, chT := true, actT := true, lk := true } M = true) (h0 : Fr M z s) :
    Fr M z (State.output s a j t5) := by
  refine Fr.via ?_ hm h0
  unfold State.output
  repeat' first
    | with_reducible exact Fr.refl _ _
    | with_reducible refine Fr.ite ?_ ?_
    | with_reducible refine State.actUp_fr (by decide) ?_
    | with_reducible refine State.capture_fr (by decide) ?_
    | with_reducible refine State.cutWrite_fr (by decide) ?_
    | with_reducible refine State.off_fr (by decide) ?_ ?_
    | with_reducible refine State.on_fr (by decide) ?_ ?_
    | with_reducible refine State.satBits_fr (by decide) ?_
    | with_reducible refine State.setAstate_fr (by decide) ?_
    | with_reducible refine State.slotPut_fr (by decide) ?_
    | with_reducible refine Fr.pB ?_ ?_
    | with_reducible refine Fr.each (fun _ _ => ?_) ?_
    | exact Mask.okHigh (le_add1 (by decide))

theorem execWedgeOutputArrival_fr {s : State} {a : Fin 8} {t5 : BitVec 14} : FrO { sent := true, ev := true, chT := true, actT := true, lk := true } s (execWedgeOutputArrival a t5 s) := by
  unfold execWedgeOutputArrival
  repeat' first
    | with_reducible exact Fr.refl _ _
    | with_reducible refine FrO.next ?_
    | with_reducible refine Fr.ite ?_ ?_
    | with_reducible refine State.actUp_fr (by decide) ?_
    | with_reducible refine State.note_fr (by decide) ?_ ?_
    | with_reducible refine State.output_fr (by decide) ?_
    | with_reducible refine State.sat_fr (by decide) ?_ ?_
    | split
    | exact Mask.okHigh (le_add1 (by decide))
    | (apply Fr.leafB <;> first | rfl | exact .inl rfl | exact .inr rfl | guard_target =~ Fr _ _ _)

end Sys2Proof.Machine
end

