-- ==== Sys2Proof/Laws/FrSpindle.lean ====
section
/-! SUPPORT. Laws/FrSpindle.lean: what each operation of Machine/Spindle.lean may touch: the lemma that later proofs cite in
place of unfolding it. -/

namespace Sys2Proof.Machine

open Reg

theorem State.coast_fr {M : Mask} {z s : State} {i : Nat} (hm : Mask.le { spT := true } M = true) (h0 : Fr M z s) :
    Fr M z (State.coast s i) := by
  refine Fr.via ?_ hm h0
  unfold State.coast
  repeat' first
    | with_reducible exact Fr.refl _ _
    | with_reducible refine State.goPhase_fr (by decide) ?_
    | with_reducible refine State.spUp_fr (by decide) ?_

theorem State.observerLoss_fr {M : Mask} {z s : State} {i : Nat} (hm : Mask.le { sent := true, ev := true, spT := true, lk := true } M = true) (h0 : Fr M z s) :
    Fr M z (State.observerLoss s i) := by
  refine Fr.via ?_ hm h0
  unfold State.observerLoss
  repeat' first
    | with_reducible exact Fr.refl _ _
    | with_reducible refine Fr.ite ?_ ?_
    | with_reducible refine State.coast_fr (by decide) ?_
    | with_reducible refine State.note_fr (by decide) ?_ ?_
    | with_reducible refine State.sat_fr (by decide) ?_ ?_
    | exact Mask.okHigh (le_add1 (by decide))

theorem State.reacqFail_fr {M : Mask} {z s : State} {i : Nat} {acq : Race} (hm : Mask.le { sent := true, ev := true, unitT := true, ft := true, pw := true, md := true, chT := true, actT := true, spT := true, spWait := true, ar := true, jn := true, rb := true, lk := true, cm := true, hc := true, r4 := true, rmd := true, rpw := true } M = true) (h0 : Fr M z s) :
    Fr M z (State.reacqFail s i acq) := by
  refine Fr.via ?_ hm h0
  unfold State.reacqFail
  repeat' first
    | with_reducible exact Fr.refl _ _
    | with_reducible refine State.fault_fr (by decide) ?_ ?_
    | with_reducible refine State.goPhase_fr (by decide) ?_
    | with_reducible refine State.memberUnavail_fr (by decide) ?_
    | with_reducible refine State.spUp_fr (by decide) ?_
    | with_reducible refine State.spindleFree_fr (by decide) ?_
    | with_reducible refine State.unloadAct_fr (by decide) ?_
    | with_reducible refine Fr.each (fun _ _ => ?_) ?_
    | exact Mask.okHigh (le_add1 (by decide))

theorem State.overcurrent_fr {M : Mask} {z s : State} {i : Nat} (hm : Mask.le { sent := true, ev := true, unitT := true, ft := true, pw := true, md := true, chT := true, actT := true, spT := true, spWait := true, ar := true, jn := true, rb := true, lk := true, cm := true, hc := true, r4 := true, rmd := true, rpw := true } M = true) (h0 : Fr M z s) :
    Fr M z (State.overcurrent s i) := by
  refine Fr.via ?_ hm h0
  unfold State.overcurrent
  repeat' first
    | with_reducible exact Fr.refl _ _
    | with_reducible refine Fr.ite ?_ ?_
    | with_reducible refine State.coast_fr (by decide) ?_
    | with_reducible refine State.fault_fr (by decide) ?_ ?_
    | with_reducible refine State.note_fr (by decide) ?_ ?_
    | with_reducible refine State.reacqFail_fr (by decide) ?_
    | with_reducible refine State.sat_fr (by decide) ?_ ?_
    | with_reducible refine State.spUp_fr (by decide) ?_
    | exact Mask.okHigh (le_add1 (by decide))

theorem State.pwmSample_fr {M : Mask} {z s : State} {i : Nat} {ia : Nat} {ib : Nat} {quiet : Nat} (hm : Mask.le { sent := true, ev := true, unitT := true, ft := true, pw := true, md := true, chT := true, actT := true, spT := true, spWait := true, ar := true, jn := true, rb := true, lk := true, cm := true, hc := true, r4 := true, rmd := true, rpw := true } M = true) (h0 : Fr M z s) :
    Fr M z (State.pwmSample s i ia ib quiet) := by
  refine Fr.via ?_ hm h0
  unfold State.pwmSample
  repeat' first
    | with_reducible exact Fr.refl _ _
    | with_reducible refine Fr.ite ?_ ?_
    | with_reducible refine State.fault_fr (by decide) ?_ ?_
    | with_reducible refine State.note_fr (by decide) ?_ ?_
    | with_reducible refine State.observerLoss_fr (by decide) ?_
    | with_reducible refine State.off_fr (by decide) ?_ ?_
    | with_reducible refine State.sat_fr (by decide) ?_ ?_
    | with_reducible refine State.spUp_fr (by decide) ?_
    | with_reducible refine Fr.pB ?_ ?_
    | exact Mask.okHigh (le_add1 (by decide))

theorem State.innovation_fr {M : Mask} {z s : State} {i : Nat} {innov : Nat} (hm : Mask.le { sent := true, ev := true, spT := true, lk := true } M = true) (h0 : Fr M z s) :
    Fr M z (State.innovation s i innov) := by
  refine Fr.via ?_ hm h0
  unfold State.innovation
  repeat' first
    | with_reducible exact Fr.refl _ _
    | with_reducible refine Fr.ite ?_ ?_
    | with_reducible refine State.observerLoss_fr (by decide) ?_
    | with_reducible refine State.spUp_fr (by decide) ?_

theorem State.focStep_fr {M : Mask} {z s : State} {i : Nat} {ia : Int} {ib : Int} (hm : Mask.le { spT := true } M = true) (h0 : Fr M z s) :
    Fr M z (State.focStep s i ia ib) := by
  refine Fr.via ?_ hm h0
  unfold State.focStep
  repeat' first
    | with_reducible exact Fr.refl _ _
    | with_reducible refine State.spUp_fr (by decide) ?_

theorem execPwmPeriod_fr {s : State} {sp : Fin 4} {ia : BitVec 16} {ib : BitVec 16} {quiet : Nat} {innov : Nat} : FrO { sent := true, ev := true, unitT := true, ft := true, pw := true, md := true, chT := true, ldT := true, actT := true, spT := true, spWait := true, ar := true, jn := true, rb := true, lk := true, qm := true, cm := true, hc := true, dm := true, bm := true, mem := true, mc := true, r4 := true, rmd := true, rpw := true } s (execPwmPeriod sp ia ib quiet innov s) := by
  unfold execPwmPeriod
  repeat' first
    | with_reducible exact Fr.refl _ _
    | with_reducible refine FrO.next ?_
    | with_reducible refine Fr.ite ?_ ?_
    | with_reducible refine State.careFrom_fr (by decide) ?_
    | with_reducible refine State.focStep_fr (by decide) ?_
    | with_reducible refine State.innovation_fr (by decide) ?_
    | with_reducible refine State.overcurrent_fr (by decide) ?_
    | with_reducible refine State.pwmSample_fr (by decide) ?_
    | with_reducible refine State.spUp_fr (by decide) ?_

theorem execDutySetArrival_fr {s : State} {sp : Fin 4} : FrO { sent := true, ev := true, spT := true, lk := true } s (execDutySetArrival sp s) := by
  unfold execDutySetArrival
  repeat' first
    | with_reducible exact Fr.refl _ _
    | with_reducible refine FrO.next ?_
    | with_reducible refine State.note_fr (by decide) ?_ ?_
    | with_reducible refine State.sat_fr (by decide) ?_ ?_
    | with_reducible refine State.spUp_fr (by decide) ?_
    | split
    | exact Mask.okHigh (le_add1 (by decide))
    | (apply Fr.leafB <;> first | rfl | exact .inl rfl | exact .inr rfl | guard_target =~ Fr _ _ _)

theorem execPwmDeadline_fr {s : State} {sp : Fin 4} : FrO { sent := true, ev := true, spT := true, lk := true } s (execPwmDeadline sp s) := by
  unfold execPwmDeadline
  repeat' first
    | with_reducible exact Fr.refl _ _
    | with_reducible refine FrO.next ?_
    | with_reducible refine Fr.ite ?_ ?_
    | with_reducible refine State.observerLoss_fr (by decide) ?_
    | with_reducible refine State.spUp_fr (by decide) ?_

theorem execMpOvercurrent_fr {s : State} {sp : Fin 4} : FrO { sent := true, ev := true, unitT := true, ft := true, pw := true, md := true, chT := true, ldT := true, actT := true, spT := true, spWait := true, ar := true, jn := true, rb := true, lk := true, qm := true, cm := true, hc := true, dm := true, bm := true, mem := true, mc := true, r4 := true, rmd := true, rpw := true } s (execMpOvercurrent sp s) := by
  unfold execMpOvercurrent
  repeat' first
    | with_reducible exact Fr.refl _ _
    | with_reducible refine FrO.next ?_
    | with_reducible refine Fr.ite ?_ ?_
    | with_reducible refine State.careFrom_fr (by decide) ?_
    | with_reducible refine State.overcurrent_fr (by decide) ?_

theorem State.retarget_fr {M : Mask} {z s : State} {i : Nat} (hm : Mask.le { spT := true } M = true) (h0 : Fr M z s) :
    Fr M z (State.retarget s i) := by
  refine Fr.via ?_ hm h0
  unfold State.retarget
  repeat' first
    | with_reducible exact Fr.refl _ _
    | with_reducible refine Fr.ite ?_ ?_
    | with_reducible refine State.goPhase_fr (by decide) ?_
    | with_reducible refine State.off_fr (by decide) ?_ ?_
    | with_reducible refine State.spUp_fr (by decide) ?_
    | exact Mask.okHigh (le_add1 (by decide))

theorem State.spinUp_fr {M : Mask} {z s : State} {i : Nat} (hm : Mask.le { spT := true, spWait := true } M = true) (h0 : Fr M z s) : Fr M z (s.spinUp i) := by
  refine Fr.via ?_ hm h0
  have h1 := State.spUp_fr (i := i) (f := fun x => { x with step := .none, spinup := .idle, ocAt := none }) (M := { spT := true, spWait := true }) (by decide)
    (State.off_fr (f := SP_MODE_START_TRY i) (by decide) (Mask.okHigh (le_add1 (by decide))) (State.goPhase_fr (i := i) (ph := phWait) (by decide) (Fr.refl _ s)))
  exact Fr.leafB (h := h1) (h_spWait := .inl rfl) rfl rfl rfl rfl (.inr rfl) (.inr rfl) (.inr rfl) (.inr rfl) (.inr rfl) (.inr rfl)
    (.inr rfl) (.inr rfl) (.inr rfl) (.inr rfl) (.inr rfl) (.inr rfl) (.inr rfl) (.inr rfl) (.inr rfl) (.inr rfl) (.inr rfl)
    (.inr rfl) (.inr rfl) (.inr rfl) (.inr rfl) (.inr rfl) (.inr rfl) (.inr rfl) (.inr rfl) (.inr rfl) (.inr rfl) (.inr rfl)
    (.inr rfl) (.inr rfl) (.inr rfl) (.inr rfl)

theorem doSpin_fr {M : Mask} {z s : State} {sp : Fin 4} (hm : Mask.le { spT := true, spWait := true } M = true) (h0 : Fr M z s) :
    Fr M z (doSpin sp s) := by
  refine Fr.via ?_ hm h0
  unfold doSpin
  repeat' first
    | with_reducible exact Fr.refl _ _
    | with_reducible refine Fr.ite ?_ ?_
    | with_reducible refine State.off_fr (by decide) ?_ ?_
    | with_reducible refine State.retarget_fr (by decide) ?_
    | with_reducible refine State.spinUp_fr (by decide) ?_
    | with_reducible refine Fr.pB ?_ ?_
    | exact Mask.okHigh (le_add1 (by decide))

theorem execSpin_fr {s : State} {sp : Fin 4} : FrO { spT := true, spWait := true } s (execSpin sp s) := by
  unfold execSpin
  repeat' first
    | with_reducible exact Fr.refl _ _
    | with_reducible refine FrO.next ?_
    | with_reducible refine doSpin_fr (by decide) ?_

theorem doStop_fr {M : Mask} {z s : State} {sp : Fin 4} (hm : Mask.le { spT := true, spWait := true } M = true) (h0 : Fr M z s) :
    Fr M z (doStop sp s) := by
  refine Fr.via ?_ hm h0
  unfold doStop
  repeat' first
    | with_reducible exact Fr.refl _ _
    | with_reducible refine Fr.ite ?_ ?_
    | with_reducible refine State.stopSpindle_fr (by decide) ?_
    | with_reducible refine Fr.pB ?_ ?_
    | exact Mask.okHigh (le_add1 (by decide))

theorem execStop_fr {s : State} {sp : Fin 4} : FrO { spT := true, spWait := true } s (execStop sp s) := by
  unfold execStop
  repeat' first
    | with_reducible exact Fr.refl _ _
    | with_reducible refine FrO.next ?_
    | with_reducible refine doStop_fr (by decide) ?_

theorem doShortCmd_fr {M : Mask} {z s : State} {sp : Fin 4} (hm : Mask.le { spT := true, spWait := true } M = true) (h0 : Fr M z s) :
    Fr M z (doShortCmd sp s) := by
  refine Fr.via ?_ hm h0
  unfold doShortCmd
  repeat' first
    | with_reducible exact Fr.refl _ _
    | with_reducible refine Fr.ite ?_ ?_
    | with_reducible refine State.goShort_fr (by decide) ?_
    | with_reducible refine State.off_fr (by decide) ?_ ?_
    | with_reducible refine Fr.pB ?_ ?_
    | exact Mask.okHigh (le_add1 (by decide))
    | (apply Fr.leafB <;> first | rfl | exact .inl rfl | exact .inr rfl | guard_target =~ Fr _ _ _)

theorem execShortCmd_fr {s : State} {sp : Fin 4} : FrO { spT := true, spWait := true } s (execShortCmd sp s) := by
  unfold execShortCmd
  repeat' first
    | with_reducible exact Fr.refl _ _
    | with_reducible refine FrO.next ?_
    | with_reducible refine doShortCmd_fr (by decide) ?_

theorem State.overspeed_fr {M : Mask} {z s : State} {i : Nat} (hm : Mask.le { sent := true, ev := true, unitT := true, ft := true, pw := true, md := true, chT := true, actT := true, spT := true, spWait := true, ar := true, jn := true, rb := true, lk := true, cm := true, hc := true, r4 := true, rmd := true, rpw := true } M = true) (h0 : Fr M z s) :
    Fr M z (State.overspeed s i) := by
  refine Fr.via ?_ hm h0
  unfold State.overspeed
  repeat' first
    | with_reducible exact Fr.refl _ _
    | with_reducible refine Fr.ite ?_ ?_
    | with_reducible refine State.fault_fr (by decide) ?_ ?_
    | with_reducible refine State.goPhase_fr (by decide) ?_
    | with_reducible refine State.spUp_fr (by decide) ?_
    | with_reducible refine State.spindleFree_fr (by decide) ?_
    | with_reducible refine State.unloadAct_fr (by decide) ?_
    | exact Mask.okHigh (le_add1 (by decide))
    | (apply Fr.leafB <;> first | rfl | exact .inl rfl | exact .inr rfl | guard_target =~ Fr _ _ _)

theorem State.speedPhase_fr {M : Mask} {z s : State} {i : Nat} {new : Nat} (hm : Mask.le { sent := true, ev := true, unitT := true, ft := true, pw := true, md := true, chT := true, actT := true, spT := true, spWait := true, ar := true, jn := true, rb := true, lk := true, cm := true, hc := true, r4 := true, rmd := true, rpw := true } M = true) (h0 : Fr M z s) :
    Fr M z (State.speedPhase s i new) := by
  refine Fr.via ?_ hm h0
  unfold State.speedPhase
  repeat' first
    | with_reducible exact Fr.refl _ _
    | with_reducible refine Fr.ite ?_ ?_
    | with_reducible refine State.goPhase_fr (by decide) ?_
    | with_reducible refine State.goShort_fr (by decide) ?_
    | with_reducible refine State.note_fr (by decide) ?_ ?_
    | with_reducible refine State.off_fr (by decide) ?_ ?_
    | with_reducible refine State.reacqFail_fr (by decide) ?_
    | with_reducible refine State.spUp_fr (by decide) ?_
    | with_reducible refine State.unloadAct_fr (by decide) ?_
    | exact Mask.okHigh (le_add1 (by decide))

theorem execSpindleSpeedSample_fr {s : State} {sp : Fin 4} {meas : BitVec 16} : FrO { sent := true, ev := true, unitT := true, ft := true, pw := true, md := true, chT := true, ldT := true, actT := true, spT := true, spWait := true, ar := true, jn := true, rb := true, lk := true, qm := true, cm := true, hc := true, dm := true, bm := true, mem := true, mc := true, r4 := true, rmd := true, rpw := true } s (execSpindleSpeedSample sp meas s) := by
  unfold execSpindleSpeedSample
  repeat' first
    | with_reducible exact Fr.refl _ _
    | with_reducible refine FrO.next ?_
    | with_reducible refine Fr.ite ?_ ?_
    | with_reducible refine State.careFrom_fr (by decide) ?_
    | with_reducible refine State.overspeed_fr (by decide) ?_
    | with_reducible refine State.spUp_fr (by decide) ?_
    | with_reducible refine State.speedPhase_fr (by decide) ?_
    | with_reducible refine Fr.pB ?_ ?_
    | exact Mask.okHigh (le_add1 (by decide))

theorem State.reload_fr {M : Mask} {z s : State} {i : Nat} (hm : Mask.le { actT := true } M = true) (h0 : Fr M z s) :
    Fr M z (State.reload s i) := by
  refine Fr.via ?_ hm h0
  unfold State.reload
  repeat' first
    | with_reducible exact Fr.refl _ _
    | with_reducible refine Fr.ite ?_ ?_
    | with_reducible refine State.loadStart_fr (by decide) ?_
    | with_reducible refine Fr.each (fun _ _ => ?_) ?_

theorem execSpindleRegulated_fr {s : State} {sp : Fin 4} : FrO { sent := true, ev := true, actT := true, spT := true, lk := true } s (execSpindleRegulated sp s) := by
  unfold execSpindleRegulated
  repeat' first
    | with_reducible exact Fr.refl _ _
    | with_reducible refine FrO.next ?_
    | with_reducible refine Fr.ite ?_ ?_
    | with_reducible refine State.note_fr (by decide) ?_ ?_
    | with_reducible refine State.on_fr (by decide) ?_ ?_
    | with_reducible refine State.reload_fr (by decide) ?_
    | with_reducible refine State.sat_fr (by decide) ?_ ?_
    | with_reducible refine State.spUp_fr (by decide) ?_
    | exact Mask.okHigh (le_add1 (by decide))

theorem execSpinupStart_fr {s : State} {sp : Fin 4} : FrO { spT := true, spWait := true } s (execSpinupStart sp s) := by
  unfold execSpinupStart
  repeat' first
    | with_reducible exact Fr.refl _ _
    | with_reducible refine FrO.next ?_
    | with_reducible refine Fr.ite ?_ ?_
    | with_reducible refine State.goPhase_fr (by decide) ?_
    | with_reducible refine State.spUp_fr (by decide) ?_
    | with_reducible refine Fr.pB ?_ ?_
    | exact Mask.okHigh (le_add1 (by decide))
    | (apply Fr.leafB <;> first | rfl | exact .inl rfl | exact .inr rfl | guard_target =~ Fr _ _ _)

theorem execRotorAngleFound_fr {s : State} {sp : Fin 4} : FrO { spT := true } s (execRotorAngleFound sp s) := by
  unfold execRotorAngleFound
  repeat' first
    | with_reducible exact Fr.refl _ _
    | with_reducible refine FrO.next ?_
    | with_reducible refine Fr.ite ?_ ?_
    | with_reducible refine State.spUp_fr (by decide) ?_

theorem execObserverLock_fr {s : State} {sp : Fin 4} : FrO { spT := true } s (execObserverLock sp s) := by
  unfold execObserverLock
  repeat' first
    | with_reducible exact Fr.refl _ _
    | with_reducible refine FrO.next ?_
    | with_reducible refine Fr.ite ?_ ?_
    | with_reducible refine State.goPhase_fr (by decide) ?_
    | with_reducible refine State.spUp_fr (by decide) ?_

theorem State.spinupFail_fr {M : Mask} {z s : State} {i : Nat} {race : Race} (hm : Mask.le { sent := true, ev := true, unitT := true, ft := true, pw := true, md := true, chT := true, actT := true, spT := true, spWait := true, ar := true, jn := true, rb := true, lk := true, cm := true, hc := true, r4 := true, rmd := true, rpw := true } M = true) (h0 : Fr M z s) :
    Fr M z (State.spinupFail s i race) := by
  refine Fr.via ?_ hm h0
  unfold State.spinupFail
  repeat' first
    | with_reducible exact Fr.refl _ _
    | with_reducible refine State.fault_fr (by decide) ?_ ?_
    | with_reducible refine State.goShort_fr (by decide) ?_
    | with_reducible refine State.spUp_fr (by decide) ?_
    | exact Mask.okHigh (le_add1 (by decide))

theorem execStartAttemptFail_fr {s : State} {sp : Fin 4} : FrO { sent := true, ev := true, unitT := true, ft := true, pw := true, md := true, chT := true, actT := true, spT := true, spWait := true, ar := true, jn := true, rb := true, lk := true, cm := true, hc := true, r4 := true, rmd := true, rpw := true } s (execStartAttemptFail sp s) := by
  unfold execStartAttemptFail
  repeat' first
    | with_reducible exact Fr.refl _ _
    | with_reducible refine FrO.next ?_
    | with_reducible refine Fr.ite ?_ ?_
    | with_reducible refine State.spUp_fr (by decide) ?_
    | with_reducible refine State.spinupFail_fr (by decide) ?_

theorem execStartRetry_fr {s : State} {sp : Fin 4} : FrO { spT := true } s (execStartRetry sp s) := by
  unfold execStartRetry
  repeat' first
    | with_reducible exact Fr.refl _ _
    | with_reducible refine FrO.next ?_
    | with_reducible refine Fr.ite ?_ ?_
    | with_reducible refine State.inc_fr (by decide) ?_ ?_
    | with_reducible refine State.spUp_fr (by decide) ?_
    | exact Mask.okHigh (le_add1 (by decide))

theorem execSpinupTimeout_fr {s : State} {sp : Fin 4} : FrO { sent := true, ev := true, unitT := true, ft := true, pw := true, md := true, chT := true, actT := true, spT := true, spWait := true, ar := true, jn := true, rb := true, lk := true, cm := true, hc := true, r4 := true, rmd := true, rpw := true } s (execSpinupTimeout sp s) := by
  unfold execSpinupTimeout
  repeat' first
    | with_reducible exact Fr.refl _ _
    | with_reducible refine FrO.next ?_
    | with_reducible refine Fr.ite ?_ ?_
    | with_reducible refine State.spinupFail_fr (by decide) ?_

theorem execShortStandstill_fr {s : State} {sp : Fin 4} : FrO { spT := true } s (execShortStandstill sp s) := by
  unfold execShortStandstill
  repeat' first
    | with_reducible exact Fr.refl _ _
    | with_reducible refine FrO.next ?_
    | with_reducible refine Fr.ite ?_ ?_
    | with_reducible refine State.goPhase_fr (by decide) ?_
    | with_reducible refine State.off_fr (by decide) ?_ ?_
    | with_reducible refine State.spUp_fr (by decide) ?_
    | exact Mask.okHigh (le_add1 (by decide))

theorem State.busShown_fr {M : Mask} {z s : State} {v : Nat} (hm : Mask.le {} M = true) (h0 : Fr M z s) :
    Fr M z (State.busShown s v) := by
  refine Fr.via ?_ hm h0
  unfold State.busShown
  repeat' first
    | with_reducible exact Fr.refl _ _
    | with_reducible refine Fr.pB ?_ ?_
    | with_reducible refine Fr.each (fun _ _ => ?_) ?_
    | exact Mask.okHigh (le_add1 (by decide))

theorem execChopperSwitch_fr {s : State} {bus : BitVec 11} : FrO { sent := true, ev := true, spT := true, lk := true } s (execChopperSwitch bus s) := by
  unfold execChopperSwitch
  repeat' first
    | with_reducible exact Fr.refl _ _
    | with_reducible refine FrO.next ?_
    | with_reducible refine Fr.ite ?_ ?_
    | with_reducible refine State.busShown_fr (by decide) ?_
    | with_reducible refine State.note_fr (by decide) ?_ ?_
    | with_reducible refine State.off_fr (by decide) ?_ ?_
    | with_reducible refine State.on_fr (by decide) ?_ ?_
    | with_reducible refine State.sat_fr (by decide) ?_ ?_
    | with_reducible refine State.spUp_fr (by decide) ?_
    | with_reducible refine Fr.each (fun _ _ => ?_) ?_
    | exact Mask.okHigh (le_add1 (by decide))

theorem State.chopFault_fr {M : Mask} {z s : State} {i : Nat} (hm : Mask.le { sent := true, ev := true, unitT := true, ft := true, pw := true, md := true, chT := true, actT := true, spT := true, spWait := true, ar := true, jn := true, rb := true, lk := true, cm := true, hc := true, r4 := true, rmd := true, rpw := true } M = true) (h0 : Fr M z s) :
    Fr M z (State.chopFault s i) := by
  refine Fr.via ?_ hm h0
  unfold State.chopFault
  repeat' first
    | with_reducible exact Fr.refl _ _
    | with_reducible refine Fr.ite ?_ ?_
    | with_reducible refine State.fault_fr (by decide) ?_ ?_
    | with_reducible refine State.goShort_fr (by decide) ?_
    | with_reducible refine Fr.each (fun _ _ => ?_) ?_
    | exact Mask.okHigh (le_add1 (by decide))

theorem execChopperCurrentTimeout_fr {s : State} {sp : Fin 4} {amps : Nat} : FrO { sent := true, ev := true, unitT := true, ft := true, pw := true, md := true, chT := true, actT := true, spT := true, spWait := true, ar := true, jn := true, rb := true, lk := true, cm := true, hc := true, r4 := true, rmd := true, rpw := true } s (execChopperCurrentTimeout sp amps s) := by
  unfold execChopperCurrentTimeout
  repeat' first
    | with_reducible exact Fr.refl _ _
    | with_reducible refine FrO.next ?_
    | with_reducible refine Fr.ite ?_ ?_
    | with_reducible refine State.chopFault_fr (by decide) ?_
    | with_reducible refine State.spUp_fr (by decide) ?_

theorem execChopperBusTimeout_fr {s : State} {sp : Fin 4} : FrO { sent := true, ev := true, unitT := true, ft := true, pw := true, md := true, chT := true, actT := true, spT := true, spWait := true, ar := true, jn := true, rb := true, lk := true, cm := true, hc := true, r4 := true, rmd := true, rpw := true } s (execChopperBusTimeout sp s) := by
  unfold execChopperBusTimeout
  repeat' first
    | with_reducible exact Fr.refl _ _
    | with_reducible refine FrO.next ?_
    | with_reducible refine Fr.ite ?_ ?_
    | with_reducible refine State.chopFault_fr (by decide) ?_
    | with_reducible refine State.spUp_fr (by decide) ?_

theorem State.xingSpeed_fr {M : Mask} {z s : State} {i : Nat} {ns : Nat} (hm : Mask.le {} M = true) (h0 : Fr M z s) :
    Fr M z (State.xingSpeed s i ns) := by
  refine Fr.via ?_ hm h0
  unfold State.xingSpeed
  repeat' first
    | with_reducible exact Fr.refl _ _
    | with_reducible refine Fr.ite ?_ ?_
    | with_reducible refine State.off_fr (by decide) ?_ ?_
    | with_reducible refine Fr.pB ?_ ?_
    | exact Mask.okHigh (le_add1 (by decide))

theorem execBemfZeroCrossing_fr {s : State} {sp : Fin 4} {ns : Nat} {sector : Fin 6} : FrO { sent := true, ev := true, spT := true, spWait := true, lk := true } s (execBemfZeroCrossing sp ns sector s) := by
  unfold execBemfZeroCrossing
  repeat' first
    | with_reducible exact Fr.refl _ _
    | with_reducible refine FrO.next ?_
    | with_reducible refine Fr.ite ?_ ?_
    | with_reducible refine State.goPhase_fr (by decide) ?_
    | with_reducible refine State.note_fr (by decide) ?_ ?_
    | with_reducible refine State.sat_fr (by decide) ?_ ?_
    | with_reducible refine State.spUp_fr (by decide) ?_
    | with_reducible refine State.spindleFree_fr (by decide) ?_
    | with_reducible refine State.xingSpeed_fr (by decide) ?_
    | exact Mask.okHigh (le_add1 (by decide))

theorem execReacqTimeout_fr {s : State} {sp : Fin 4} : FrO { sent := true, ev := true, unitT := true, ft := true, pw := true, md := true, chT := true, ldT := true, actT := true, spT := true, spWait := true, ar := true, jn := true, rb := true, lk := true, qm := true, cm := true, hc := true, dm := true, bm := true, mem := true, mc := true, r4 := true, rmd := true, rpw := true } s (execReacqTimeout sp s) := by
  unfold execReacqTimeout
  repeat' first
    | with_reducible exact Fr.refl _ _
    | with_reducible refine FrO.next ?_
    | with_reducible refine Fr.ite ?_ ?_
    | with_reducible refine State.careFrom_fr (by decide) ?_
    | with_reducible refine State.reacqFail_fr (by decide) ?_

theorem State.rectify_fr {M : Mask} {z s : State} (hm : Mask.le { sent := true, ev := true, chT := true, actT := true, spT := true, spWait := true, ar := true, jn := true, rb := true, lk := true, cm := true } M = true) (h0 : Fr M z s) :
    Fr M z (State.rectify s) := by
  refine Fr.via ?_ hm h0
  unfold State.rectify
  repeat' first
    | with_reducible exact Fr.refl _ _
    | with_reducible refine Fr.ite ?_ ?_
    | with_reducible refine State.goPhase_fr (by decide) ?_
    | with_reducible refine State.spUp_fr (by decide) ?_
    | with_reducible refine State.unloadAct_fr (by decide) ?_
    | with_reducible refine Fr.each (fun _ _ => ?_) ?_
    | (apply Fr.leafB <;> first | rfl | exact .inl rfl | exact .inr rfl | guard_target =~ Fr _ _ _)

theorem execMotorBusCollapse_fr {s : State} {sp : Fin 4} : FrO { spT := true } s (execMotorBusCollapse sp s) := by
  unfold execMotorBusCollapse
  repeat' first
    | with_reducible exact Fr.refl _ _
    | with_reducible refine FrO.next ?_
    | with_reducible refine Fr.ite ?_ ?_
    | with_reducible refine State.goPhase_fr (by decide) ?_
    | with_reducible refine State.spUp_fr (by decide) ?_

theorem execSafeSpindleHoldEnd_fr {s : State} {sp : Fin 4} : FrO { spT := true } s (execSafeSpindleHoldEnd sp s) := by
  unfold execSafeSpindleHoldEnd
  repeat' first
    | with_reducible exact Fr.refl _ _
    | with_reducible refine FrO.next ?_
    | with_reducible refine Fr.ite ?_ ?_
    | with_reducible refine State.goShort_fr (by decide) ?_

end Sys2Proof.Machine
end

