-- ==== Sys2Proof/Laws/FrPower.lean ====
section
/-! SUPPORT. Laws/FrPower.lean: what each operation of Machine/Power.lean may touch: the lemma that later proofs cite in
place of unfolding it. -/

namespace Sys2Proof.Machine

open Reg

theorem execHourglassExpiry_fr {s : State} {u : Fin 60} : FrO { sent := true, ev := true, unitT := true, ft := true, pw := true, md := true, chT := true, ldT := true, actT := true, spT := true, spWait := true, ar := true, jn := true, rb := true, lk := true, qm := true, cm := true, hc := true, dm := true, bm := true, mem := true, mc := true, r4 := true, rmd := true, rpw := true } s (execHourglassExpiry u s) := by
  unfold execHourglassExpiry
  repeat' first
    | with_reducible exact Fr.refl _ _
    | with_reducible refine FrO.next ?_
    | with_reducible refine Fr.ite ?_ ?_
    | with_reducible refine State.careFrom_fr (by decide) ?_
    | with_reducible refine State.escalate_fr (by decide) ?_

theorem paceBlocks_high : ∀ x ∈ paceBlocks, 0x30000 ≤ x.1 := by
  intro x h
  simp only [paceBlocks, List.mem_append, List.mem_map, List.mem_cons, List.not_mem_nil, or_false] at h
  rcases h with (((rfl | rfl | rfl | rfl | rfl | rfl | rfl | rfl) | ⟨c, -, rfl⟩) | ⟨a, -, rfl⟩) | rfl <;>
    first | decide | exact le_add1 (by decide)

theorem State.paceLatch_fr {M : Mask} {z s : State} {reg count floor : Nat} (hr : 0x30000 ≤ reg) (h0 : Fr M z s) :
    Fr M z (s.paceLatch reg count floor) := by
  have h := Fr.pB (f := ⟨reg, 31, 1⟩) (x := 1) (Mask.okHigh hr) (Fr.pB (f := ⟨reg, 0, 16⟩) (x := min 65535 count) (Mask.okHigh hr) h0)
  exact Fr.ite (State.sat_fr (Mask.le_trans (b := {}) (by decide) (by simp [Mask.le])) (Mask.okHigh hr) h) h

theorem State.govern_fr {M : Mask} {z s : State} {l : List (Nat × Nat × Nat)} (hm : Mask.le { sent := true, ev := true, unitT := true, ft := true, pw := true, md := true, chT := true, actT := true, spT := true, spWait := true, ar := true, jn := true, rb := true, lk := true, cm := true, hc := true, r4 := true, rmd := true, rpw := true } M = true) (h0 : Fr M z s) :
    Fr M z (State.govern s l) := by
  refine Fr.via ?_ hm h0
  unfold State.govern
  repeat' first
    | with_reducible exact Fr.refl _ _
    | with_reducible refine Fr.ite ?_ ?_
    | with_reducible refine State.coreSet_fr (by decide) ?_
    | with_reducible refine State.fault_fr (by decide) ?_ ?_
    | with_reducible refine State.pwU_fr (by decide) ?_
    | (unfold Mask.ok; decide)

theorem execPaceWindowEnd_fr {s : State} {counts : List Nat} {vmeas : BitVec 10} : FrO { sent := true, ev := true, unitT := true, ft := true, pw := true, md := true, chT := true, actT := true, spT := true, spWait := true, ar := true, jn := true, rb := true, lk := true, cm := true, hc := true, r4 := true, rmd := true, rpw := true } s (execPaceWindowEnd counts vmeas s) := by
  unfold execPaceWindowEnd
  repeat' first
    | with_reducible exact Fr.refl _ _
    | with_reducible refine FrO.next ?_
    | with_reducible refine Fr.ite ?_ ?_
    | with_reducible refine Fr.eachMem (fun x hx _ => ?_) ?_
    | with_reducible refine State.govern_fr (by decide) ?_
    | with_reducible refine Fr.pB ?_ ?_
    | refine State.paceLatch_fr (paceBlocks_high _ (List.of_mem_zip (List.mem_of_mem_filter (by assumption))).1) ?_
    | (unfold Mask.ok; decide)

theorem State.feedShow_fr {M : Mask} {z s : State} {b : Bool} (hm : Mask.le { rpw := true } M = true) (h0 : Fr M z s) :
    Fr M z (s.feedShow b) := by
  refine Fr.pB (Mask.okIn hm ?_) h0
  cases b <;> (unfold Mask.ok feedOk; decide)

theorem State.feedVolt_fr {M : Mask} {z s : State} {b : Bool} {v : Nat} (hm : Mask.le { rpw := true } M = true) (h0 : Fr M z s) :
    Fr M z (State.feedVolt s b v) := by
  refine Fr.via ?_ hm h0
  unfold State.feedVolt
  repeat' first
    | with_reducible exact Fr.refl _ _
    | with_reducible refine Fr.pB ?_ ?_
    | split
    | (unfold Mask.ok; decide)

theorem execFeedLoss_fr {s : State} {feed : Bool} {v : BitVec 11} : FrO { sent := true, ev := true, pw := true, lk := true, rpw := true } s (execFeedLoss feed v s) := by
  unfold execFeedLoss
  repeat' first
    | with_reducible exact Fr.refl _ _
    | with_reducible refine FrO.next ?_
    | with_reducible refine Fr.ite ?_ ?_
    | with_reducible refine State.feedShow_fr (by decide) ?_
    | with_reducible refine State.feedVolt_fr (by decide) ?_
    | with_reducible refine State.note_fr (by decide) ?_ ?_
    | with_reducible refine State.pwU_fr (by decide) ?_
    | split
    | (unfold Mask.ok; decide)

theorem execFeedReturn_fr {s : State} {feed : Bool} {held : Bool} {v : BitVec 11} : FrO { sent := true, ev := true, pw := true, lk := true, rpw := true } s (execFeedReturn feed held v s) := by
  unfold execFeedReturn
  repeat' first
    | with_reducible exact Fr.refl _ _
    | with_reducible refine FrO.next ?_
    | with_reducible refine Fr.ite ?_ ?_
    | with_reducible refine State.feedShow_fr (by decide) ?_
    | with_reducible refine State.feedVolt_fr (by decide) ?_
    | with_reducible refine State.note_fr (by decide) ?_ ?_
    | with_reducible refine State.pwU_fr (by decide) ?_
    | with_reducible refine State.sat_fr (by decide) ?_ ?_
    | (unfold Mask.ok; decide)

theorem execFeedOvervoltage_fr {s : State} {feed : Bool} {v : BitVec 11} : FrO { sent := true, ev := true, unitT := true, ft := true, pw := true, md := true, chT := true, actT := true, spT := true, spWait := true, ar := true, jn := true, rb := true, lk := true, cm := true, hc := true, r4 := true, rmd := true, rpw := true } s (execFeedOvervoltage feed v s) := by
  unfold execFeedOvervoltage
  repeat' first
    | with_reducible exact Fr.refl _ _
    | with_reducible refine FrO.next ?_
    | with_reducible refine Fr.ite ?_ ?_
    | with_reducible refine State.fault_fr (by decide) ?_ ?_
    | with_reducible refine State.feedShow_fr (by decide) ?_
    | with_reducible refine State.feedVolt_fr (by decide) ?_
    | with_reducible refine State.pwU_fr (by decide) ?_
    | split
    | (unfold Mask.ok; decide)

theorem execFeedOvRecover_fr {s : State} {feed : Bool} {v : BitVec 11} : FrO { pw := true, rpw := true } s (execFeedOvRecover feed v s) := by
  unfold execFeedOvRecover
  repeat' first
    | with_reducible exact Fr.refl _ _
    | with_reducible refine FrO.next ?_
    | with_reducible refine Fr.ite ?_ ?_
    | with_reducible refine State.feedShow_fr (by decide) ?_
    | with_reducible refine State.feedVolt_fr (by decide) ?_
    | with_reducible refine State.pwU_fr (by decide) ?_

theorem execPowerFailSignal_fr {s : State} : FrO { sent := true, ev := true, pw := true, chT := true, actT := true, spT := true, spWait := true, ar := true, jn := true, rb := true, lk := true, cm := true } s (execPowerFailSignal s) := by
  unfold execPowerFailSignal
  repeat' first
    | with_reducible exact Fr.refl _ _
    | with_reducible refine FrO.next ?_
    | with_reducible refine Fr.ite ?_ ?_
    | with_reducible refine State.pwU_fr (by decide) ?_
    | with_reducible refine State.raise_fr (by decide) ?_
    | with_reducible refine State.rectify_fr (by decide) ?_

theorem State.holdupCheck_fr {M : Mask} {z s : State} (hm : Mask.le { sent := true, ev := true, unitT := true, ft := true, pw := true, md := true, chT := true, actT := true, spT := true, spWait := true, ar := true, jn := true, rb := true, lk := true, cm := true, hc := true, r4 := true, rmd := true, rpw := true } M = true) (h0 : Fr M z s) :
    Fr M z (State.holdupCheck s) := by
  refine Fr.via ?_ hm h0
  unfold State.holdupCheck
  repeat' first
    | with_reducible exact Fr.refl _ _
    | with_reducible refine Fr.ite ?_ ?_
    | with_reducible refine State.fault_fr (by decide) ?_ ?_
    | with_reducible refine State.pwU_fr (by decide) ?_
    | with_reducible refine Fr.pB ?_ ?_
    | (unfold Mask.ok; decide)

theorem State.holdupVolt_fr {M : Mask} {z s : State} {v : Nat} (hm : Mask.le { rpw := true } M = true) (h0 : Fr M z s) :
    Fr M z (State.holdupVolt s v) := by
  refine Fr.via ?_ hm h0
  unfold State.holdupVolt
  repeat' first
    | with_reducible exact Fr.refl _ _
    | with_reducible refine Fr.pB ?_ ?_
    | (unfold Mask.ok; decide)

theorem execHoldupMeasure_fr {s : State} {t : BitVec 32} : FrO { sent := true, ev := true, unitT := true, ft := true, pw := true, md := true, chT := true, actT := true, spT := true, spWait := true, ar := true, jn := true, rb := true, lk := true, cm := true, hc := true, r4 := true, rmd := true, rpw := true } s (execHoldupMeasure t s) := by
  unfold execHoldupMeasure
  repeat' first
    | with_reducible exact Fr.refl _ _
    | with_reducible refine FrO.next ?_
    | with_reducible refine State.holdupCheck_fr (by decide) ?_
    | with_reducible refine State.holdupVolt_fr (by decide) ?_
    | with_reducible refine Fr.pB ?_ ?_
    | (unfold Mask.ok; decide)

theorem execHoldupVoltageChange_fr {s : State} {v : BitVec 9} : FrO { sent := true, ev := true, unitT := true, ft := true, pw := true, md := true, chT := true, actT := true, spT := true, spWait := true, ar := true, jn := true, rb := true, lk := true, cm := true, hc := true, r4 := true, rmd := true, rpw := true } s (execHoldupVoltageChange v s) := by
  unfold execHoldupVoltageChange
  repeat' first
    | with_reducible exact Fr.refl _ _
    | with_reducible refine FrO.next ?_
    | with_reducible refine State.holdupCheck_fr (by decide) ?_
    | with_reducible refine State.holdupVolt_fr (by decide) ?_

theorem State.gapStart_fr {M : Mask} {z s : State} {forced : Bool} (hm : Mask.le { pw := true, chT := true, actT := true, rpw := true } M = true) (h0 : Fr M z s) :
    Fr M z (State.gapStart s forced) := by
  refine Fr.via ?_ hm h0
  unfold State.gapStart
  repeat' first
    | with_reducible exact Fr.refl _ _
    | with_reducible refine State.actUp_fr (by decide) ?_
    | with_reducible refine State.dropPerms_fr (by decide) ?_
    | with_reducible refine State.on_fr (by decide) ?_ ?_
    | with_reducible refine State.pwU_fr (by decide) ?_
    | with_reducible refine Fr.pB ?_ ?_
    | with_reducible refine Fr.each (fun _ _ => ?_) ?_
    | with_reducible refine Fr.when (fun _ => ?_) ?_
    | (unfold Mask.ok; decide)
    | (unfold chainState; split <;> (unfold Mask.ok; decide))

theorem execChainFail_fr {s : State} {late : Bool} : FrO { sent := true, ev := true, unitT := true, ft := true, pw := true, md := true, chT := true, actT := true, spT := true, spWait := true, ar := true, jn := true, rb := true, lk := true, cm := true, hc := true, r4 := true, rmd := true, rpw := true } s (execChainFail late s) := by
  unfold execChainFail
  repeat' first
    | with_reducible exact Fr.refl _ _
    | with_reducible refine FrO.next ?_
    | with_reducible refine Fr.ite ?_ ?_
    | with_reducible refine State.fault_fr (by decide) ?_ ?_
    | with_reducible refine State.gapStart_fr (by decide) ?_
    | with_reducible refine State.note_fr (by decide) ?_ ?_
    | with_reducible refine State.pwU_fr (by decide) ?_
    | with_reducible refine State.sat_fr (by decide) ?_ ?_
    | (unfold Mask.ok; decide)

theorem State.gapEnd_fr {M : Mask} {z s : State} (hm : Mask.le { actT := true, spT := true, rpw := true } M = true) (h0 : Fr M z s) :
    Fr M z (State.gapEnd s) := by
  refine Fr.via ?_ hm h0
  unfold State.gapEnd
  repeat' first
    | with_reducible exact Fr.refl _ _
    | with_reducible refine Fr.ite ?_ ?_
    | with_reducible refine State.actUp_fr (by decide) ?_
    | with_reducible refine State.coast_fr (by decide) ?_
    | with_reducible refine State.off_fr (by decide) ?_ ?_
    | with_reducible refine State.setAstate_fr (by decide) ?_
    | with_reducible refine Fr.each (fun _ _ => ?_) ?_
    | exact Mask.okHigh (le_add1 (by decide))
    | (unfold Mask.ok; decide)

theorem State.chainFlip_fr {M : Mask} {z s : State} (hm : Mask.le { rpw := true } M = true) (h0 : Fr M z s) :
    Fr M z (State.chainFlip s) := by
  refine Fr.via ?_ hm h0
  unfold State.chainFlip
  repeat' first
    | with_reducible exact Fr.refl _ _
    | with_reducible refine State.sat_fr (by decide) ?_ ?_
    | with_reducible refine Fr.pB ?_ ?_
    | (unfold Mask.ok; decide)
    | (unfold chainState; split <;> (unfold Mask.ok; decide))

theorem execStandbyRegulated_fr {s : State} {us : BitVec 10} : FrO { sent := true, ev := true, pw := true, actT := true, spT := true, lk := true, rpw := true } s (execStandbyRegulated us s) := by
  unfold execStandbyRegulated
  repeat' first
    | with_reducible exact Fr.refl _ _
    | with_reducible refine FrO.next ?_
    | with_reducible refine Fr.ite ?_ ?_
    | with_reducible refine State.chainFlip_fr (by decide) ?_
    | with_reducible refine State.gapEnd_fr (by decide) ?_
    | with_reducible refine State.note_fr (by decide) ?_ ?_
    | with_reducible refine State.off_fr (by decide) ?_ ?_
    | with_reducible refine State.pwU_fr (by decide) ?_
    | with_reducible refine State.sat_fr (by decide) ?_ ?_
    | with_reducible refine Fr.pB ?_ ?_
    | split
    | (unfold Mask.ok; decide)
    | (unfold chainState; split <;> (unfold Mask.ok; decide))

theorem State.testFail_fr {M : Mask} {z s : State} {result : Nat} (hm : Mask.le { sent := true, ev := true, unitT := true, ft := true, pw := true, md := true, chT := true, actT := true, spT := true, spWait := true, ar := true, jn := true, rb := true, lk := true, cm := true, hc := true, r4 := true, rmd := true, rpw := true } M = true) (h0 : Fr M z s) :
    Fr M z (State.testFail s result) := by
  refine Fr.via ?_ hm h0
  unfold State.testFail
  repeat' first
    | with_reducible exact Fr.refl _ _
    | with_reducible refine State.fault_fr (by decide) ?_ ?_
    | with_reducible refine State.off_fr (by decide) ?_ ?_
    | with_reducible refine State.pwU_fr (by decide) ?_
    | with_reducible refine Fr.pB ?_ ?_
    | (unfold Mask.ok; decide)
    | (unfold chainState; split <;> (unfold Mask.ok; decide))

theorem State.resyncEnd_fr {M : Mask} {z s : State} {result : Nat} (hm : Mask.le { sent := true, ev := true, pw := true, lk := true, rpw := true } M = true) (h0 : Fr M z s) :
    Fr M z (State.resyncEnd s result) := by
  refine Fr.via ?_ hm h0
  unfold State.resyncEnd
  repeat' first
    | with_reducible exact Fr.refl _ _
    | with_reducible refine Fr.ite ?_ ?_
    | with_reducible refine State.note_fr (by decide) ?_ ?_
    | with_reducible refine State.off_fr (by decide) ?_ ?_
    | with_reducible refine State.pwU_fr (by decide) ?_
    | with_reducible refine Fr.pB ?_ ?_
    | (unfold Mask.ok; decide)
    | (unfold chainState; split <;> (unfold Mask.ok; decide))

theorem execStandbyTimeout_fr {s : State} : FrO { sent := true, ev := true, unitT := true, ft := true, pw := true, md := true, chT := true, actT := true, spT := true, spWait := true, ar := true, jn := true, rb := true, lk := true, cm := true, hc := true, r4 := true, rmd := true, rpw := true } s (execStandbyTimeout s) := by
  unfold execStandbyTimeout
  repeat' first
    | with_reducible exact Fr.refl _ _
    | with_reducible refine FrO.next ?_
    | with_reducible refine Fr.ite ?_ ?_
    | with_reducible refine State.fault_fr (by decide) ?_ ?_
    | with_reducible refine State.off_fr (by decide) ?_ ?_
    | with_reducible refine State.pwU_fr (by decide) ?_
    | with_reducible refine State.resyncEnd_fr (by decide) ?_
    | with_reducible refine State.testFail_fr (by decide) ?_
    | with_reducible refine Fr.pB ?_ ?_
    | split
    | (unfold Mask.ok; decide)
    | (unfold chainState; split <;> (unfold Mask.ok; decide))

theorem State.resyncStart_fr {M : Mask} {z s : State} (hm : Mask.le { pw := true, rpw := true } M = true) (h0 : Fr M z s) :
    Fr M z (State.resyncStart s) := by
  refine Fr.via ?_ hm h0
  unfold State.resyncStart
  repeat' first
    | with_reducible exact Fr.refl _ _
    | with_reducible refine State.on_fr (by decide) ?_ ?_
    | with_reducible refine State.pwU_fr (by decide) ?_
    | with_reducible refine Fr.pB ?_ ?_
    | (unfold Mask.ok; decide)
    | (unfold chainState; split <;> (unfold Mask.ok; decide))

theorem execResyncTimer_fr {s : State} : FrO { pw := true, rpw := true } s (execResyncTimer s) := by
  unfold execResyncTimer
  repeat' first
    | with_reducible exact Fr.refl _ _
    | with_reducible refine FrO.next ?_
    | with_reducible refine Fr.ite ?_ ?_
    | with_reducible refine State.pwU_fr (by decide) ?_
    | with_reducible refine State.resyncStart_fr (by decide) ?_

theorem execResyncHoldDone_fr {s : State} {ok : Bool} : FrO { sent := true, ev := true, pw := true, lk := true, rpw := true } s (execResyncHoldDone ok s) := by
  unfold execResyncHoldDone
  repeat' first
    | with_reducible exact Fr.refl _ _
    | with_reducible refine FrO.next ?_
    | with_reducible refine Fr.ite ?_ ?_
    | with_reducible refine State.resyncEnd_fr (by decide) ?_

theorem State.testStandby_fr {M : Mask} {z s : State} (hm : Mask.le { pw := true, rpw := true } M = true) (h0 : Fr M z s) :
    Fr M z (State.testStandby s) := by
  refine Fr.via ?_ hm h0
  unfold State.testStandby
  repeat' first
    | with_reducible exact Fr.refl _ _
    | with_reducible refine Fr.ite ?_ ?_
    | with_reducible refine State.testStart_fr (by decide) ?_
    | with_reducible refine Fr.pB ?_ ?_
    | (unfold Mask.ok; decide)

theorem execTestStandby_fr {s : State} : FrO { pw := true, rpw := true } s (execTestStandby s) := by
  unfold execTestStandby
  repeat' first
    | with_reducible exact Fr.refl _ _
    | with_reducible refine FrO.next ?_
    | with_reducible refine State.testStandby_fr (by decide) ?_

theorem execTestStandbyLoadDone_fr {s : State} {ok : Bool} : FrO { sent := true, ev := true, unitT := true, ft := true, pw := true, md := true, chT := true, actT := true, spT := true, spWait := true, ar := true, jn := true, rb := true, lk := true, cm := true, hc := true, r4 := true, rmd := true, rpw := true } s (execTestStandbyLoadDone ok s) := by
  unfold execTestStandbyLoadDone
  repeat' first
    | with_reducible exact Fr.refl _ _
    | with_reducible refine FrO.next ?_
    | with_reducible refine Fr.ite ?_ ?_
    | with_reducible refine State.chainFlip_fr (by decide) ?_
    | with_reducible refine State.off_fr (by decide) ?_ ?_
    | with_reducible refine State.pwU_fr (by decide) ?_
    | with_reducible refine State.testFail_fr (by decide) ?_
    | with_reducible refine Fr.pB ?_ ?_
    | (unfold Mask.ok; decide)
    | (unfold chainState; split <;> (unfold Mask.ok; decide))

theorem State.forceSwitch_fr {M : Mask} {z s : State} (hm : Mask.le { sent := true, ev := true, unitT := true, ft := true, pw := true, md := true, chT := true, actT := true, spT := true, spWait := true, ar := true, jn := true, rb := true, lk := true, cm := true, hc := true, r4 := true, rmd := true, rpw := true } M = true) (h0 : Fr M z s) :
    Fr M z (State.forceSwitch s) := by
  refine Fr.via ?_ hm h0
  unfold State.forceSwitch
  repeat' first
    | with_reducible exact Fr.refl _ _
    | with_reducible refine Fr.ite ?_ ?_
    | with_reducible refine State.fault_fr (by decide) ?_ ?_
    | with_reducible refine State.gapStart_fr (by decide) ?_
    | with_reducible refine Fr.pB ?_ ?_
    | (unfold Mask.ok; decide)

theorem execForceSwitch_fr {s : State} : FrO { sent := true, ev := true, unitT := true, ft := true, pw := true, md := true, chT := true, actT := true, spT := true, spWait := true, ar := true, jn := true, rb := true, lk := true, cm := true, hc := true, r4 := true, rmd := true, rpw := true } s (execForceSwitch s) := by
  unfold execForceSwitch
  repeat' first
    | with_reducible exact Fr.refl _ _
    | with_reducible refine FrO.next ?_
    | with_reducible refine State.forceSwitch_fr (by decide) ?_

theorem State.pwResync_fr {M : Mask} {z s : State} (hm : Mask.le { pw := true, rpw := true } M = true) (h0 : Fr M z s) :
    Fr M z (State.pwResync s) := by
  refine Fr.via ?_ hm h0
  unfold State.pwResync
  repeat' first
    | with_reducible exact Fr.refl _ _
    | with_reducible refine Fr.ite ?_ ?_
    | with_reducible refine State.resyncStart_fr (by decide) ?_
    | with_reducible refine Fr.pB ?_ ?_
    | (unfold Mask.ok; decide)

theorem execPwResync_fr {s : State} : FrO { pw := true, rpw := true } s (execPwResync s) := by
  unfold execPwResync
  repeat' first
    | with_reducible exact Fr.refl _ _
    | with_reducible refine FrO.next ?_
    | with_reducible refine State.pwResync_fr (by decide) ?_

theorem State.sfTrip_fr {M : Mask} {z s : State} {cause : Nat} {unit : Nat} {f : RF} {bit : Nat} {code : Nat} (hm : Mask.le { sent := true, ev := true, unitT := true, ft := true, pw := true, md := true, chT := true, actT := true, spT := true, spWait := true, ar := true, jn := true, rb := true, lk := true, cm := true, hc := true, r4 := true, rmd := true, rpw := true, rsf := true } M = true) (hf : M.ok f.addr) (h0 : Fr M z s) :
    Fr M z (State.sfTrip s cause unit f bit code) := by
  refine Fr.tr ?_ h0
  unfold State.sfTrip
  repeat' first
    | with_reducible exact Fr.refl _ _
    | with_reducible assumption
    | with_reducible refine Fr.ite ?_ ?_
    | with_reducible refine State.enterSafe_fr (by first | decide | exact Mask.le_trans (by decide) hm) ?_
    | with_reducible refine State.fault_fr (by first | decide | exact Mask.le_trans (by decide) hm) ?_ ?_
    | with_reducible refine State.ftU_fr (by first | decide | exact Mask.le_trans (by decide) hm) ?_
    | with_reducible refine Fr.pB ?_ ?_
    | exact Mask.okIn (by assumption) (by unfold Mask.ok; decide)

theorem State.sfRetract_fr {M : Mask} {z s : State} {a : Nat} (hm : Mask.le { sent := true, ev := true, chT := true, actT := true, ar := true, jn := true, rb := true, lk := true, cm := true } M = true) (h0 : Fr M z s) :
    Fr M z (State.sfRetract s a) := by
  refine Fr.via ?_ hm h0
  unfold State.sfRetract
  repeat' first
    | with_reducible exact Fr.refl _ _
    | with_reducible refine State.actUp_fr (by decide) ?_
    | with_reducible refine State.unloadAct_fr (by decide) ?_

theorem State.sfBridge_fr {M : Mask} {z s : State} {i : Nat} (hm : Mask.le { spT := true } M = true) (h0 : Fr M z s) :
    Fr M z (State.sfBridge s i) := by
  refine Fr.via ?_ hm h0
  unfold State.sfBridge
  repeat' first
    | with_reducible exact Fr.refl _ _
    | with_reducible refine Fr.ite ?_ ?_
    | with_reducible refine State.goPhase_fr (by decide) ?_
    | with_reducible refine State.spUp_fr (by decide) ?_

theorem State.sfHold_fr {M : Mask} {z s : State} {l : List Nat} (hm : Mask.le { sf := true } M = true) (h0 : Fr M z s) :
    Fr M z (State.sfHold s l) := by
  refine Fr.via ?_ hm h0
  unfold State.sfHold
  repeat' first
    | with_reducible exact Fr.refl _ _
    | with_reducible refine State.sfU_fr (by decide) ?_

theorem execBusOvervoltage_fr {s : State} {bus : BitVec 11} : FrO { sent := true, ev := true, unitT := true, ft := true, pw := true, md := true, chT := true, actT := true, spT := true, spWait := true, ar := true, jn := true, rb := true, lk := true, cm := true, hc := true, r4 := true, rmd := true, rpw := true, rsf := true } s (execBusOvervoltage bus s) := by
  unfold execBusOvervoltage
  repeat' first
    | with_reducible exact Fr.refl _ _
    | with_reducible refine FrO.next ?_
    | with_reducible refine Fr.ite ?_ ?_
    | with_reducible refine State.busShown_fr (by decide) ?_
    | with_reducible refine State.faultSeq_fr (by decide) ?_ ?_
    | with_reducible refine State.goShort_fr (by decide) ?_
    | with_reducible refine State.on_fr (by decide) ?_ ?_
    | with_reducible refine State.raiseSeq_fr (by decide) ?_
    | with_reducible refine State.sfTrip_fr (by decide) ?_ ?_
    | with_reducible refine State.spUp_fr (by decide) ?_
    | with_reducible refine Fr.each (fun _ _ => ?_) ?_
    | exact Mask.okHigh (le_add1 (by decide))
    | (unfold Mask.ok; decide)
    | (apply Fr.leafB <;> first | rfl | exact .inl rfl | exact .inr rfl | guard_target =~ Fr _ _ _)

theorem execPmShortRelease_fr {s : State} {bus : BitVec 11} : FrO { spT := true } s (execPmShortRelease bus s) := by
  unfold execPmShortRelease
  repeat' first
    | with_reducible exact Fr.refl _ _
    | with_reducible refine FrO.next ?_
    | with_reducible refine State.busShown_fr (by decide) ?_
    | with_reducible refine State.off_fr (by decide) ?_ ?_
    | with_reducible refine State.spUp_fr (by decide) ?_
    | with_reducible refine Fr.each (fun _ _ => ?_) ?_
    | exact Mask.okHigh (le_add1 (by decide))

theorem execSfOverspeed_fr {s : State} {sp : Fin 4} : FrO { sent := true, ev := true, unitT := true, ft := true, pw := true, sf := true, md := true, chT := true, actT := true, spT := true, spWait := true, ar := true, jn := true, rb := true, lk := true, cm := true, hc := true, r4 := true, rmd := true, rpw := true, rsf := true } s (execSfOverspeed sp s) := by
  unfold execSfOverspeed
  repeat' first
    | with_reducible exact Fr.refl _ _
    | with_reducible refine FrO.next ?_
    | with_reducible refine State.sfBridge_fr (by decide) ?_
    | with_reducible refine State.sfHold_fr (by decide) ?_
    | with_reducible refine State.sfRetract_fr (by decide) ?_
    | with_reducible refine State.sfTrip_fr (by decide) ?_ ?_
    | (unfold Mask.ok; decide)

theorem execVcmOvercurrent_fr {s : State} {a : Fin 8} {ma : Int} : FrO { sent := true, ev := true, unitT := true, ft := true, pw := true, md := true, chT := true, actT := true, spT := true, spWait := true, ar := true, jn := true, rb := true, lk := true, cm := true, hc := true, r4 := true, rmd := true, rpw := true, rsf := true } s (execVcmOvercurrent a ma s) := by
  unfold execVcmOvercurrent
  repeat' first
    | with_reducible exact Fr.refl _ _
    | with_reducible refine FrO.next ?_
    | with_reducible refine State.actUp_fr (by decide) ?_
    | with_reducible refine State.sfRetract_fr (by decide) ?_
    | with_reducible refine State.sfTrip_fr (by decide) ?_ ?_
    | (unfold Mask.ok; decide)

theorem State.tempTrip_fr {M : Mask} {z s : State} {d : Nat} (hm : Mask.le { sent := true, ev := true, unitT := true, ft := true, pw := true, sf := true, md := true, chT := true, actT := true, spT := true, spWait := true, ar := true, jn := true, rb := true, lk := true, cm := true, hc := true, r4 := true, rmd := true, rpw := true, rsf := true } M = true) (h0 : Fr M z s) :
    Fr M z (State.tempTrip s d) := by
  refine Fr.via ?_ hm h0
  unfold State.tempTrip
  repeat' first
    | with_reducible exact Fr.refl _ _
    | with_reducible refine Fr.ite ?_ ?_
    | with_reducible refine State.sfBridge_fr (by decide) ?_
    | with_reducible refine State.sfHold_fr (by decide) ?_
    | with_reducible refine State.sfRetract_fr (by decide) ?_
    | with_reducible refine State.sfTrip_fr (by decide) ?_ ?_
    | with_reducible refine State.sfU_fr (by decide) ?_
    | with_reducible refine State.spUp_fr (by decide) ?_
    | with_reducible refine Fr.each (fun _ _ => ?_) ?_
    | (unfold Mask.ok; decide)

theorem execTempSample_fr {s : State} {temps : BitVec 64} : FrO { sent := true, ev := true, unitT := true, ft := true, pw := true, sf := true, md := true, chT := true, actT := true, spT := true, spWait := true, ar := true, jn := true, rb := true, lk := true, cm := true, hc := true, r4 := true, rmd := true, rpw := true, rsf := true } s (execTempSample temps s) := by
  unfold execTempSample
  repeat' first
    | with_reducible exact Fr.refl _ _
    | with_reducible refine FrO.next ?_
    | with_reducible refine Fr.ite ?_ ?_
    | with_reducible refine State.note_fr (by decide) ?_ ?_
    | with_reducible refine State.sfU_fr (by decide) ?_
    | with_reducible refine State.tempTrip_fr (by decide) ?_
    | with_reducible refine Fr.wrB ?_ ?_
    | with_reducible refine Fr.each (fun _ _ => ?_) ?_
    | (unfold Mask.ok; decide)

theorem execHeartbeat_fr {s : State} : FrO { sent := true, ev := true, sf := true, lk := true, rsf := true } s (execHeartbeat s) := by
  unfold execHeartbeat
  repeat' first
    | with_reducible exact Fr.refl _ _
    | with_reducible refine FrO.next ?_
    | with_reducible refine Fr.ite ?_ ?_
    | with_reducible refine State.note_fr (by decide) ?_ ?_
    | with_reducible refine State.sat_fr (by decide) ?_ ?_
    | with_reducible refine State.sfU_fr (by decide) ?_
    | (unfold Mask.ok; decide)

theorem execHeartbeatTimeout_fr {s : State} : FrO { sent := true, ev := true, unitT := true, ft := true, pw := true, sf := true, md := true, chT := true, actT := true, spT := true, spWait := true, ar := true, jn := true, rb := true, lk := true, cm := true, hc := true, r4 := true, rmd := true, rpw := true, rsf := true } s (execHeartbeatTimeout s) := by
  unfold execHeartbeatTimeout
  repeat' first
    | with_reducible exact Fr.refl _ _
    | with_reducible refine FrO.next ?_
    | with_reducible refine Fr.ite ?_ ?_
    | with_reducible refine State.sfBridge_fr (by decide) ?_
    | with_reducible refine State.sfHold_fr (by decide) ?_
    | with_reducible refine State.sfRetract_fr (by decide) ?_
    | with_reducible refine State.sfTrip_fr (by decide) ?_ ?_
    | with_reducible refine State.sfU_fr (by decide) ?_
    | with_reducible refine Fr.each (fun _ _ => ?_) ?_
    | (unfold Mask.ok; decide)

theorem execRetractHoldEnd_fr {s : State} : FrO { sf := true, spT := true } s (execRetractHoldEnd s) := by
  unfold execRetractHoldEnd
  repeat' first
    | with_reducible exact Fr.refl _ _
    | with_reducible refine FrO.next ?_
    | with_reducible refine Fr.ite ?_ ?_
    | with_reducible refine State.goShort_fr (by decide) ?_
    | with_reducible refine State.sfU_fr (by decide) ?_
    | with_reducible refine Fr.each (fun _ _ => ?_) ?_

theorem State.selftest_fr {M : Mask} {z s : State} (hm : Mask.le { sf := true, rsf := true } M = true) (h0 : Fr M z s) :
    Fr M z (State.selftest s) := by
  refine Fr.via ?_ hm h0
  unfold State.selftest
  repeat' first
    | with_reducible exact Fr.refl _ _
    | with_reducible refine Fr.ite ?_ ?_
    | with_reducible refine State.off_fr (by decide) ?_ ?_
    | with_reducible refine State.sfU_fr (by decide) ?_
    | with_reducible refine Fr.pB ?_ ?_
    | (unfold Mask.ok; decide)

theorem execSelftest_fr {s : State} : FrO { sf := true, rsf := true } s (execSelftest s) := by
  unfold execSelftest
  repeat' first
    | with_reducible exact Fr.refl _ _
    | with_reducible refine FrO.next ?_
    | with_reducible refine State.selftest_fr (by decide) ?_

theorem execSelftestDone_fr {s : State} {res : BitVec 22} : FrO { sent := true, ev := true, unitT := true, ft := true, pw := true, sf := true, md := true, chT := true, actT := true, spT := true, spWait := true, ar := true, jn := true, rb := true, lk := true, cm := true, hc := true, r4 := true, rmd := true, rpw := true, rsf := true } s (execSelftestDone res s) := by
  unfold execSelftestDone
  repeat' first
    | with_reducible exact Fr.refl _ _
    | with_reducible refine FrO.next ?_
    | with_reducible refine Fr.ite ?_ ?_
    | with_reducible refine State.fault_fr (by decide) ?_ ?_
    | with_reducible refine State.on_fr (by decide) ?_ ?_
    | with_reducible refine State.sfU_fr (by decide) ?_
    | with_reducible refine Fr.wrB ?_ ?_
    | (unfold Mask.ok; decide)

theorem State.clearCause_fr {M : Mask} {z s : State} (hm : Mask.le { rsf := true } M = true) (h0 : Fr M z s) :
    Fr M z (State.clearCause s) := by
  refine Fr.via ?_ hm h0
  unfold State.clearCause
  repeat' first
    | with_reducible exact Fr.refl _ _
    | with_reducible refine Fr.ite ?_ ?_
    | with_reducible refine State.off_fr (by decide) ?_ ?_
    | with_reducible refine Fr.pB ?_ ?_
    | (unfold Mask.ok; decide)

theorem execClearCause_fr {s : State} : FrO { rsf := true } s (execClearCause s) := by
  unfold execClearCause
  repeat' first
    | with_reducible exact Fr.refl _ _
    | with_reducible refine FrO.next ?_
    | with_reducible refine State.clearCause_fr (by decide) ?_

end Sys2Proof.Machine
end

