-- ==== Sys2Proof/Laws/FrFunctions.lean ====
section
/-! SUPPORT. Laws/FrFunctions.lean: what each operation of Machine/Functions.lean may touch: the lemma that later proofs cite in
place of unfolding it. -/

namespace Sys2Proof.Machine

open Reg

theorem State.spDown_fr {M : Mask} {z s : State} {i : Nat} (hm : Mask.le { sent := true, ev := true, chT := true, actT := true, spT := true, spWait := true, ar := true, jn := true, rb := true, lk := true, cm := true } M = true) (h0 : Fr M z s) :
    Fr M z (State.spDown s i) := by
  refine Fr.via ?_ hm h0
  unfold State.spDown
  repeat' first
    | with_reducible exact Fr.refl _ _
    | with_reducible refine State.spUp_fr (by decide) ?_
    | with_reducible refine State.spindleFree_fr (by decide) ?_
    | with_reducible refine State.unloadAct_fr (by decide) ?_

theorem State.stopBegin_fr {M : Mask} {z s : State} {f : Func} (hm : Mask.le { sent := true, ev := true, unitT := true, ft := true, pw := true, md := true, chT := true, actT := true, spT := true, spWait := true, ar := true, jn := true, rb := true, lk := true, cm := true, hc := true, dm := true, bm := true, mem := true, mc := true, r4 := true, rmd := true, rpw := true } M = true) (h0 : Fr M z s) :
    Fr M z (State.stopBegin s f) := by
  refine Fr.via ?_ hm h0
  unfold State.stopBegin
  repeat' first
    | with_reducible exact Fr.refl _ _
    | with_reducible refine Fr.ite ?_ ?_
    | with_reducible refine State.dPause_fr (by decide) ?_
    | with_reducible refine State.spDown_fr (by decide) ?_
    | with_reducible refine State.unloadAct_fr (by decide) ?_
    | with_reducible refine Fr.each (fun _ _ => ?_) ?_
    | split

theorem State.ctxFlush_fr {M : Mask} {z s : State} (hm : Mask.le { qm := true, bm := true, mem := true } M = true) (h0 : Fr M z s) :
    Fr M z (State.ctxFlush s) := by
  refine Fr.via ?_ hm h0
  unfold State.ctxFlush
  repeat' first
    | with_reducible exact Fr.refl _ _
    | with_reducible refine State.ctxWriteBack_fr (by decide) ?_
    | with_reducible refine State.qmU_fr (by decide) ?_
    | with_reducible refine Fr.each (fun _ _ => ?_) ?_

theorem State.stopEnd_fr {M : Mask} {z s : State} {f : Func} (hm : Mask.le { sent := true, ev := true, unitT := true, ft := true, pw := true, md := true, chT := true, ldT := true, actT := true, spT := true, spWait := true, ar := true, jn := true, rb := true, lk := true, qm := true, cm := true, hc := true, dm := true, bm := true, mem := true, mc := true, r4 := true, rmd := true, rpw := true } M = true) (h0 : Fr M z s) :
    Fr M z (State.stopEnd s f) := by
  refine Fr.via ?_ hm h0
  unfold State.stopEnd
  repeat' first
    | with_reducible exact Fr.refl _ _
    | with_reducible refine Fr.ite ?_ ?_
    | with_reducible refine State.arU_fr (by decide) ?_
    | with_reducible refine State.chUp_fr (by decide) ?_
    | with_reducible refine State.cmU_fr (by decide) ?_
    | with_reducible refine State.ctxFlush_fr (by decide) ?_
    | with_reducible refine State.dRelease_fr (by decide) ?_
    | with_reducible refine State.faultEnd_fr (by decide) ?_
    | with_reducible refine State.hcOcc_fr (by decide) ?_
    | with_reducible refine State.hcU_fr (by decide) ?_
    | with_reducible refine State.mcOcc_fr (by decide) ?_
    | with_reducible refine State.mcU_fr (by decide) ?_
    | with_reducible refine State.rbStop_fr (by decide) ?_
    | with_reducible refine State.rbU_fr (by decide) ?_
    | with_reducible refine State.setActive_fr (by decide) ?_
    | with_reducible refine State.volStop_fr (by decide) ?_
    | with_reducible refine Fr.each (fun _ _ => ?_) ?_
    | split

theorem State.qmStart_fr {M : Mask} {z s : State} (hm : Mask.le { qm := true, bm := true, mem := true } M = true) (h0 : Fr M z s) :
    Fr M z (State.qmStart s) := by
  refine Fr.via ?_ hm h0
  unfold State.qmStart
  repeat' first
    | with_reducible exact Fr.refl _ _
    | with_reducible refine Fr.ite ?_ ?_
    | with_reducible refine State.ctxWriteBack_fr (by decide) ?_
    | with_reducible refine State.ovfFree_fr (by decide) ?_
    | with_reducible refine State.qmKeep_fr (by decide) ?_
    | with_reducible refine State.qmU_fr (by decide) ?_
    | with_reducible refine Fr.each (fun _ _ => ?_) ?_

theorem State.bmStart_fr {M : Mask} {z s : State} (hm : Mask.le { bm := true, mem := true } M = true) (h0 : Fr M z s) : Fr M z s.bmStart := by
  refine Fr.via ?_ hm h0
  unfold State.bmStart
  exact Fr.pB (Mask.okHigh (by decide)) (State.edSet_fr (by decide) (Fr.memB rfl rfl (fun _ => rfl) (Fr.refl _ _)))

theorem State.startEnd_fr {M : Mask} {z s : State} {f : Func} {bad : Nat} (hm : Mask.le { sent := true, ev := true, unitT := true, ft := true, pw := true, md := true, chT := true, actT := true, spT := true, spWait := true, ar := true, jn := true, rb := true, lk := true, qm := true, cm := true, hc := true, dm := true, bm := true, mem := true, mc := true, r4 := true, rmd := true, rbt := true, rpw := true, rsf := true } M = true) (h0 : Fr M z s) :
    Fr M z (State.startEnd s f bad).2 := by
  refine Fr.via ?_ hm h0
  unfold State.startEnd
  repeat' first
    | with_reducible exact Fr.refl _ _
    | with_reducible refine Fr.ite2 ?_ ?_
    | with_reducible refine State.bmStart_fr (by decide) ?_
    | with_reducible refine State.cmOcc_fr (by decide) ?_
    | with_reducible refine State.cmU_fr (by decide) ?_
    | with_reducible refine State.custStart_fr (by decide) ?_
    | with_reducible refine State.dRelease_fr (by decide) ?_
    | with_reducible refine State.fault_fr (by decide) ?_ ?_
    | with_reducible refine State.goPhase_fr (by decide) ?_
    | with_reducible refine State.hcOcc_fr (by decide) ?_
    | with_reducible refine State.hcU_fr (by decide) ?_
    | with_reducible refine State.mcOcc_fr (by decide) ?_
    | with_reducible refine State.mcU_fr (by decide) ?_
    | with_reducible refine State.note_fr (by decide) ?_ ?_
    | with_reducible refine State.on_fr (by decide) ?_ ?_
    | with_reducible refine State.qmStart_fr (by decide) ?_
    | with_reducible refine Fr.pB ?_ ?_
    | with_reducible refine Fr.each (fun _ _ => ?_) ?_
    | split
    | exact Mask.okHigh (Nat.le_of_ble_eq_true rfl)
    | exact Mask.okHigh (le_add1 (by decide))

theorem State.paceFresh_fr {M : Mask} {z s : State} {f : Func} (_hm : Mask.le {} M = true) (h0 : Fr M z s) : Fr M z (s.paceFresh f) := by
  unfold State.paceFresh
  split
  · rename_i r e
    refine Fr.pB (Mask.okHigh ?_) h0
    unfold paceOf at e
    simp only [Option.map_eq_some_iff] at e
    obtain ⟨x, hx, rfl⟩ := e
    exact paceBlocks_high x (List.mem_of_find?_eq_some hx)
  · exact h0

theorem State.loopLatch_fr {M : Mask} {z s : State} {f : Func} (hm : Mask.le { chT := true } M = true) (h0 : Fr M z s) :
    Fr M z (State.loopLatch s f) := by
  refine Fr.via ?_ hm h0
  unfold State.loopLatch
  repeat' first
    | with_reducible exact Fr.refl _ _
    | with_reducible refine State.chUp_fr (by decide) ?_
    | split

theorem State.startBegin_fr {M : Mask} {z s : State} {f : Func} (hm : Mask.le { chT := true } M = true) (h0 : Fr M z s) :
    Fr M z (State.startBegin s f) := by
  refine Fr.via ?_ hm h0
  unfold State.startBegin
  repeat' first
    | with_reducible exact Fr.refl _ _
    | with_reducible refine Fr.ite ?_ ?_
    | with_reducible refine State.lkTap_fr (by decide) ?_
    | with_reducible refine State.loopLatch_fr (by decide) ?_
    | with_reducible refine State.off_fr (by decide) ?_ ?_
    | with_reducible refine State.paceFresh_fr (by decide) ?_
    | with_reducible refine Fr.pB ?_ ?_
    | split
    | exact Mask.okHigh (Nat.le_of_ble_eq_true rfl)
    | exact Mask.okHigh (ctl_high _)

theorem State.fnEnable_fr {M : Mask} {z s : State} {f : Func} (hm : Mask.le { chT := true } M = true) (h0 : Fr M z s) :
    Fr M z (State.fnEnable s f) := by
  refine Fr.via ?_ hm h0
  unfold State.fnEnable
  repeat' first
    | with_reducible exact Fr.refl _ _
    | with_reducible refine Fr.ite ?_ ?_
    | with_reducible refine State.enableFn_fr (by decide) ?_
    | with_reducible refine State.startBegin_fr (by decide) ?_

theorem State.fnDisable_fr {M : Mask} {z s : State} {f : Func} (hm : Mask.le { sent := true, ev := true, unitT := true, ft := true, pw := true, md := true, chT := true, ldT := true, actT := true, spT := true, spWait := true, ar := true, jn := true, rb := true, lk := true, qm := true, cm := true, hc := true, dm := true, bm := true, mem := true, mc := true, r4 := true, rmd := true, rpw := true } M = true) (h0 : Fr M z s) :
    Fr M z (State.fnDisable s f) := by
  refine Fr.via ?_ hm h0
  unfold State.fnDisable
  repeat' first
    | with_reducible exact Fr.refl _ _
    | with_reducible refine Fr.ite ?_ ?_
    | with_reducible refine State.careFrom_fr (by decide) ?_
    | with_reducible refine State.disableFn_fr (by decide) ?_
    | with_reducible refine State.stopBegin_fr (by decide) ?_

theorem execFunctionEnable_fr {s : State} {f : Func} : FrO { chT := true } s (execFunctionEnable f s) := by
  unfold execFunctionEnable
  repeat' first
    | with_reducible exact Fr.refl _ _
    | with_reducible refine FrO.next ?_
    | with_reducible refine Fr.ite ?_ ?_
    | with_reducible refine State.fnEnable_fr (by decide) ?_

theorem execFunctionDisable_fr {s : State} {f : Func} : FrO { sent := true, ev := true, unitT := true, ft := true, pw := true, md := true, chT := true, ldT := true, actT := true, spT := true, spWait := true, ar := true, jn := true, rb := true, lk := true, qm := true, cm := true, hc := true, dm := true, bm := true, mem := true, mc := true, r4 := true, rmd := true, rpw := true } s (execFunctionDisable f s) := by
  unfold execFunctionDisable
  repeat' first
    | with_reducible exact Fr.refl _ _
    | with_reducible refine FrO.next ?_
    | with_reducible refine Fr.ite ?_ ?_
    | with_reducible refine State.fnDisable_fr (by decide) ?_

theorem State.inService_fr {M : Mask} {z s : State} {c : Nat} (hm : Mask.le { sent := true, ev := true, chT := true, ar := true, rb := true, lk := true } M = true) (h0 : Fr M z s) :
    Fr M z (State.inService s c) := by
  refine Fr.via ?_ hm h0
  unfold State.inService
  repeat' first
    | with_reducible exact Fr.refl _ _
    | with_reducible refine Fr.ite ?_ ?_
    | with_reducible refine State.chUp_fr (by decide) ?_
    | with_reducible refine State.memberClear_fr (by decide) ?_
    | with_reducible refine Fr.each (fun _ _ => ?_) ?_

theorem State.nowOn_fr {M : Mask} {z s : State} {f : Func} (hm : Mask.le { sent := true, ev := true, unitT := true, ft := true, pw := true, md := true, chT := true, actT := true, spT := true, spWait := true, ar := true, jn := true, rb := true, lk := true, cm := true, hc := true, dm := true, bm := true, mem := true, mc := true, r4 := true, rmd := true, rpw := true } M = true) (h0 : Fr M z s) :
    Fr M z (State.nowOn s f) := by
  refine Fr.via ?_ hm h0
  unfold State.nowOn
  repeat' first
    | with_reducible exact Fr.refl _ _
    | with_reducible refine Fr.ite ?_ ?_
    | with_reducible refine State.inService_fr (by decide) ?_
    | with_reducible refine State.stopBegin_fr (by decide) ?_
    | with_reducible refine Fr.pB ?_ ?_
    | split
    | exact Mask.okHigh (le_add1 (by decide))
    | exact Mask.okHigh (ctl_high _)

theorem execFunctionStartupDone_fr {s : State} {f : Func} {bad : BitVec 4} : FrO { sent := true, ev := true, unitT := true, ft := true, pw := true, md := true, chT := true, ldT := true, actT := true, spT := true, spWait := true, ar := true, jn := true, rb := true, lk := true, qm := true, cm := true, hc := true, dm := true, bm := true, mem := true, mc := true, bt := true, r4 := true, rmd := true, rbt := true, rpw := true, rsf := true } s (execFunctionStartupDone f bad s) := by
  unfold execFunctionStartupDone
  repeat' first
    | with_reducible exact Fr.refl _ _
    | with_reducible refine FrO.next ?_
    | with_reducible refine Fr.ite ?_ ?_
    | with_reducible refine State.hcRetry_fr (by decide) ?_
    | with_reducible refine State.nowOn_fr (by decide) ?_
    | with_reducible refine State.rbStart_fr (by decide) ?_
    | with_reducible refine State.startEnd_fr (by decide) ?_
    | with_reducible refine State.stripesAgain_fr (by decide) ?_
    | with_reducible refine State.volStart_fr (by decide) ?_
    | with_reducible refine State.volWaits_fr (by decide) ?_
    | with_reducible refine State.wbRetry_fr (by decide) ?_
    | with_reducible refine Fr.pB ?_ ?_
    | split
    | exact Mask.okHigh (ctl_high _)

theorem State.nowOff_fr {M : Mask} {z s : State} {f : Func} (hm : Mask.le { chT := true } M = true) (h0 : Fr M z s) :
    Fr M z (State.nowOff s f) := by
  refine Fr.via ?_ hm h0
  unfold State.nowOff
  repeat' first
    | with_reducible exact Fr.refl _ _
    | with_reducible refine Fr.ite ?_ ?_
    | with_reducible refine State.startBegin_fr (by decide) ?_
    | with_reducible refine Fr.pB ?_ ?_
    | exact Mask.okHigh (ctl_high _)

theorem execFunctionShutdownDone_fr {s : State} {f : Func} : FrO { sent := true, ev := true, unitT := true, ft := true, pw := true, md := true, chT := true, ldT := true, actT := true, spT := true, spWait := true, ar := true, jn := true, rb := true, lk := true, qm := true, cm := true, hc := true, dm := true, bm := true, mem := true, mc := true, r4 := true, rmd := true, rpw := true } s (execFunctionShutdownDone f s) := by
  unfold execFunctionShutdownDone
  repeat' first
    | with_reducible exact Fr.refl _ _
    | with_reducible refine FrO.next ?_
    | with_reducible refine Fr.ite ?_ ?_
    | with_reducible refine State.nowOff_fr (by decide) ?_
    | with_reducible refine State.stopEnd_fr (by decide) ?_
    | with_reducible refine State.volWaits_fr (by decide) ?_
    | split

end Sys2Proof.Machine
end

