-- ==== Sys2Proof/Laws/FrModes.lean ====
section
/-! SUPPORT. Laws/FrModes.lean: what each operation of Machine/Modes.lean may touch: the lemma that later proofs cite in
place of unfolding it. -/

namespace Sys2Proof.Machine

open Reg

theorem State.exitStart_fr {M : Mask} {z s : State} (hm : Mask.le { md := true, chT := true, actT := true, spT := true, spWait := true, rmd := true } M = true) (h0 : Fr M z s) :
    Fr M z (State.exitStart s) := by
  refine Fr.via ?_ hm h0
  unfold State.exitStart
  repeat' first
    | with_reducible exact Fr.refl _ _
    | with_reducible refine Fr.ite ?_ ?_
    | with_reducible refine State.loadStart_fr (by decide) ?_
    | with_reducible refine State.mdU_fr (by decide) (by first | rfl | (split <;> rfl)) ?_
    | with_reducible refine State.off_fr (by decide) ?_ ?_
    | with_reducible refine State.retarget_fr (by decide) ?_
    | with_reducible refine State.spinUp_fr (by decide) ?_
    | with_reducible refine State.startBegin_fr (by decide) ?_
    | with_reducible refine Fr.each (fun _ _ => ?_) ?_
    | (unfold Mask.ok; decide)

theorem State.restStop_fr {M : Mask} {z s : State} (hm : Mask.le { md := true, spT := true, spWait := true } M = true) (h0 : Fr M z s) :
    Fr M z (State.restStop s) := by
  refine Fr.via ?_ hm h0
  unfold State.restStop
  repeat' first
    | with_reducible exact Fr.refl _ _
    | with_reducible refine Fr.ite ?_ ?_
    | with_reducible refine State.goShort_fr (by decide) ?_
    | with_reducible refine State.mdU_fr (by decide) (by first | rfl | (split <;> rfl)) ?_
    | with_reducible refine State.stopSpindle_fr (by decide) ?_
    | with_reducible refine Fr.each (fun _ _ => ?_) ?_

theorem State.restDrain_fr {M : Mask} {z s : State} (hm : Mask.le { md := true, spT := true, spWait := true } M = true) (h0 : Fr M z s) :
    Fr M z (State.restDrain s) := by
  refine Fr.via ?_ hm h0
  unfold State.restDrain
  repeat' first
    | with_reducible exact Fr.refl _ _
    | with_reducible refine Fr.ite ?_ ?_
    | with_reducible refine State.mdU_fr (by decide) (by first | rfl | (split <;> rfl)) ?_
    | with_reducible refine State.restStop_fr (by decide) ?_

theorem State.idleStep_fr {M : Mask} {z s : State} (hm : Mask.le { sent := true, ev := true, md := true, chT := true, actT := true, spT := true, spWait := true, ar := true, jn := true, rb := true, lk := true, cm := true, rmd := true } M = true) (h0 : Fr M z s) :
    Fr M z (State.idleStep s) := by
  refine Fr.via ?_ hm h0
  unfold State.idleStep
  repeat' first
    | with_reducible exact Fr.refl _ _
    | with_reducible refine Fr.ite ?_ ?_
    | with_reducible refine State.chansDown_fr (by decide) ?_
    | with_reducible refine State.on_fr (by decide) ?_ ?_
    | with_reducible refine State.restDrain_fr (by decide) ?_
    | with_reducible refine State.retarget_fr (by decide) ?_
    | with_reducible refine State.unloadAct_fr (by decide) ?_
    | with_reducible refine Fr.each (fun _ _ => ?_) ?_
    | (unfold Mask.ok; decide)

theorem execIdleTimerExpiry_fr {s : State} {group : Fin 16} {level : Fin 4} : FrO { sent := true, ev := true, md := true, chT := true, actT := true, spT := true, spWait := true, ar := true, jn := true, rb := true, lk := true, cm := true, rmd := true } s (execIdleTimerExpiry group level s) := by
  unfold execIdleTimerExpiry
  repeat' first
    | with_reducible exact Fr.refl _ _
    | with_reducible refine FrO.next ?_
    | with_reducible refine Fr.ite ?_ ?_
    | with_reducible refine State.idleStep_fr (by decide) ?_
    | with_reducible refine State.mdU_fr (by decide) (by first | rfl | (split <;> rfl)) ?_

theorem execIdleStepDone_fr {s : State} : FrO { sent := true, ev := true, md := true, chT := true, actT := true, spT := true, spWait := true, ar := true, jn := true, rb := true, lk := true, cm := true, rmd := true } s (execIdleStepDone s) := by
  unfold execIdleStepDone
  repeat' first
    | with_reducible exact Fr.refl _ _
    | with_reducible refine FrO.next ?_
    | with_reducible refine Fr.ite ?_ ?_
    | with_reducible refine State.exitStart_fr (by decide) ?_
    | with_reducible refine State.idleStep_fr (by decide) ?_
    | with_reducible refine State.inc_fr (by decide) ?_ ?_
    | with_reducible refine State.mdU_fr (by decide) (by first | rfl | (split <;> rfl)) ?_
    | with_reducible refine State.off_fr (by decide) ?_ ?_
    | with_reducible refine State.restStop_fr (by decide) ?_
    | split
    | (unfold Mask.ok; decide)

theorem execDemand_fr {s : State} : FrO { md := true, chT := true, actT := true, spT := true, spWait := true, rmd := true } s (execDemand s) := by
  unfold execDemand
  repeat' first
    | with_reducible exact Fr.refl _ _
    | with_reducible refine FrO.next ?_
    | with_reducible refine Fr.ite ?_ ?_
    | with_reducible refine State.exitStart_fr (by decide) ?_
    | with_reducible refine State.on_fr (by decide) ?_ ?_
    | with_reducible refine State.sat_fr (by decide) ?_ ?_
    | (unfold Mask.ok; decide)

theorem State.idleZero_fr {M : Mask} {z s : State} (hm : Mask.le { md := true } M = true) (h0 : Fr M z s) :
    Fr M z (State.idleZero s) := by
  refine Fr.via ?_ hm h0
  unfold State.idleZero
  repeat' first
    | with_reducible exact Fr.refl _ _
    | with_reducible refine State.mdU_fr (by decide) (by first | rfl | (split <;> rfl)) ?_

theorem State.bootEnd_fr {M : Mask} {z s : State} {target : Nat} (ht : target ≤ 5) (hm : Mask.le { sent := true, ev := true, md := true, chT := true, actT := true, spT := true, spWait := true, ar := true, jn := true, rb := true, lk := true, cm := true, r4 := true, rmd := true } M = true) (h0 : Fr M z s) :
    Fr M z (s.bootEnd target) := by
  refine Fr.via ?_ hm h0
  unfold State.bootEnd
  refine Fr.ite (State.mdU_fr (by decide) rfl (State.safeNow_fr (by decide) (Fr.refl _ _))) (State.goMode_fr rfl ?_ (Fr.refl _ _))
  split
  · decide
  · exact ht

theorem State.safeExit_fr {M : Mask} {z s : State} (hm : Mask.le { sent := true, ev := true, md := true, actT := true, lk := true, r4 := true, rmd := true } M = true) (h0 : Fr M z s) :
    Fr M z (State.safeExit s) := by
  refine Fr.via ?_ hm h0
  unfold State.safeExit
  repeat' first
    | with_reducible exact Fr.refl _ _
    | with_reducible refine Fr.ite ?_ ?_
    | with_reducible refine State.actUp_fr (by decide) ?_
    | with_reducible refine State.goMode_fr (by decide) (by decide) ?_
    | with_reducible refine State.idleZero_fr (by decide) ?_
    | with_reducible refine State.note_fr (by decide) ?_ ?_
    | with_reducible refine Fr.pB ?_ ?_
    | with_reducible refine Fr.each (fun _ _ => ?_) ?_
    | exact Mask.okHigh (le_add1 (by decide))
    | (unfold Mask.ok; decide)

theorem State.gotoService_fr {M : Mask} {z s : State} (hm : Mask.le { sent := true, ev := true, md := true, chT := true, actT := true, spT := true, spWait := true, ar := true, jn := true, rb := true, lk := true, cm := true, r4 := true, rmd := true } M = true) (h0 : Fr M z s) :
    Fr M z (State.gotoService s) := by
  refine Fr.via ?_ hm h0
  unfold State.gotoService
  repeat' first
    | with_reducible exact Fr.refl _ _
    | with_reducible refine Fr.ite ?_ ?_
    | with_reducible refine State.bootEnd_fr (by decide) (by decide) ?_
    | with_reducible refine State.goMode_fr (by decide) (by decide) ?_
    | with_reducible refine State.idleZero_fr (by decide) ?_
    | with_reducible refine State.off_fr (by decide) ?_ ?_
    | with_reducible refine Fr.pB ?_ ?_
    | with_reducible refine Fr.each (fun _ _ => ?_) ?_
    | exact Mask.okHigh (le_add1 (by decide))
    | (unfold Mask.ok; decide)

theorem State.gotoMaint_fr {M : Mask} {z s : State} (hm : Mask.le { sent := true, ev := true, md := true, chT := true, actT := true, spT := true, spWait := true, ar := true, jn := true, rb := true, lk := true, cm := true, r4 := true, rmd := true } M = true) (h0 : Fr M z s) :
    Fr M z (State.gotoMaint s) := by
  refine Fr.via ?_ hm h0
  unfold State.gotoMaint
  repeat' first
    | with_reducible exact Fr.refl _ _
    | with_reducible refine Fr.ite ?_ ?_
    | with_reducible refine State.bootEnd_fr (by decide) (by decide) ?_
    | with_reducible refine State.goMode_fr (by decide) (by decide) ?_
    | with_reducible refine State.idleZero_fr (by decide) ?_
    | with_reducible refine State.safeExit_fr (by decide) ?_
    | with_reducible refine Fr.pB ?_ ?_
    | (unfold Mask.ok; decide)

theorem State.gotoRest_fr {M : Mask} {z s : State} (hm : Mask.le { sent := true, ev := true, md := true, chT := true, actT := true, spT := true, spWait := true, ar := true, jn := true, rb := true, lk := true, cm := true, rmd := true } M = true) (h0 : Fr M z s) :
    Fr M z (State.gotoRest s) := by
  refine Fr.via ?_ hm h0
  unfold State.gotoRest
  repeat' first
    | with_reducible exact Fr.refl _ _
    | with_reducible refine Fr.ite ?_ ?_
    | with_reducible refine State.idleStep_fr (by decide) ?_
    | with_reducible refine State.mdU_fr (by decide) (by first | rfl | (split <;> rfl)) ?_
    | with_reducible refine Fr.pB ?_ ?_
    | (unfold Mask.ok; decide)

theorem execGotoService_fr {s : State} : FrO { sent := true, ev := true, md := true, chT := true, actT := true, spT := true, spWait := true, ar := true, jn := true, rb := true, lk := true, cm := true, r4 := true, rmd := true } s (execGotoService s) := by
  unfold execGotoService
  repeat' first
    | with_reducible exact Fr.refl _ _
    | with_reducible refine FrO.next ?_
    | with_reducible refine State.gotoService_fr (by decide) ?_

theorem execGotoMaint_fr {s : State} : FrO { sent := true, ev := true, md := true, chT := true, actT := true, spT := true, spWait := true, ar := true, jn := true, rb := true, lk := true, cm := true, r4 := true, rmd := true } s (execGotoMaint s) := by
  unfold execGotoMaint
  repeat' first
    | with_reducible exact Fr.refl _ _
    | with_reducible refine FrO.next ?_
    | with_reducible refine State.gotoMaint_fr (by decide) ?_

theorem execGotoRest_fr {s : State} : FrO { sent := true, ev := true, md := true, chT := true, actT := true, spT := true, spWait := true, ar := true, jn := true, rb := true, lk := true, cm := true, rmd := true } s (execGotoRest s) := by
  unfold execGotoRest
  repeat' first
    | with_reducible exact Fr.refl _ _
    | with_reducible refine FrO.next ?_
    | with_reducible refine State.gotoRest_fr (by decide) ?_

theorem execSafeRequest_fr {s : State} {l3 : Bool} : FrO { sent := true, ev := true, md := true, chT := true, actT := true, spT := true, spWait := true, ar := true, jn := true, rb := true, lk := true, cm := true, r4 := true, rmd := true } s (execSafeRequest l3 s) := by
  unfold execSafeRequest
  repeat' first
    | with_reducible exact Fr.refl _ _
    | with_reducible refine FrO.next ?_
    | with_reducible refine State.enterSafe_fr (by decide) ?_

theorem execTimebaseSwitch_fr {s : State} : FrO { sent := true, ev := true, lk := true, rmd := true } s (execTimebaseSwitch s) := by
  unfold execTimebaseSwitch
  repeat' first
    | with_reducible exact Fr.refl _ _
    | with_reducible refine FrO.next ?_
    | with_reducible refine State.tbAsk_fr (by decide) ?_

theorem execCrystalLock_fr {s : State} : FrO { sent := true, ev := true, lk := true, bt := true, rmd := true } s (execCrystalLock s) := by
  unfold execCrystalLock
  repeat' first
    | with_reducible exact Fr.refl _ _
    | with_reducible refine FrO.next ?_
    | with_reducible refine Fr.ite ?_ ?_
    | with_reducible refine State.on_fr (by decide) ?_ ?_
    | with_reducible refine State.romLink_fr (by decide) ?_
    | (unfold Mask.ok; decide)

theorem execIdleCfgWrite_fr {s : State} {group : Fin 16} {level : Fin 4} {time : BitVec 24} : FrO { md := true, rmd := true, rbt := true, rpw := true, rsf := true } s (execIdleCfgWrite group level time s) := by
  unfold execIdleCfgWrite
  repeat' first
    | with_reducible exact Fr.refl _ _
    | with_reducible refine FrO.next ?_
    | with_reducible refine State.plainWrite_fr (by decide) ?_

theorem State.tick_fr {M : Mask} {z s : State} (hm : Mask.le { now := true, paT := true } M = true) (h0 : Fr M z s) :
    Fr M z (State.tick s) := by
  refine Fr.via ?_ hm h0
  unfold State.tick
  repeat' first
    | with_reducible exact Fr.refl _ _
    | with_reducible refine State.paIdle_fr (by decide) ?_
    | with_reducible refine Fr.each (fun _ _ => ?_) ?_
    | split
    | (apply Fr.leafB <;> first | rfl | exact .inl rfl | exact .inr rfl | guard_target =~ Fr _ _ _)

theorem State.timeRead_fr {M : Mask} {z s : State} (hm : Mask.le { rdata := true, rmd := true } M = true) (h0 : Fr M z s) :
    Fr M z (State.timeRead s) := by
  refine Fr.via ?_ hm h0
  unfold State.timeRead
  repeat' first
    | with_reducible exact Fr.refl _ _
    | with_reducible refine Fr.wrB ?_ ?_
    | (unfold Mask.ok; decide)
    | (apply Fr.leafB <;> first | rfl | exact .inl rfl | exact .inr rfl | guard_target =~ Fr _ _ _)

theorem execTimeLoRead_fr {s : State} : FrO { rdata := true, rmd := true } s (execTimeLoRead s) := by
  unfold execTimeLoRead
  repeat' first
    | with_reducible exact Fr.refl _ _
    | with_reducible refine FrO.next ?_
    | with_reducible refine State.timeRead_fr (by decide) ?_

theorem State.saveArrays_fr {M : Mask} {z s : State} (hm : Mask.le { free := true, bm := true, mem := true, rmd := true } M = true) (h0 : Fr M z s) : Fr M z s.saveArrays := by
  refine Fr.via ?_ hm h0
  unfold State.saveArrays
  extract_lets b
  split
  rename_i e
  have h1 := Fr.snd e (State.free_fr (M := { free := true, bm := true, mem := true, rmd := true }) (by decide) (Fr.refl _ _))
  clear e
  extract_lets m1 m2 m3 m4 m5
  refine Fr.memB rfl rfl (fun h => ?_) h1
  have w1 : Memory.wf m1 = true := Memory.wf_filter _ h
  have w2 : Memory.wf m2 = true := by
    have key : ∀ (l : Tbl EdEnt) (m : List Host.Cell), Memory.wf m = true →
        Memory.wf (l.foldl (fun m x => Memory.wrN m (b + 32 * x.1) 32 x.2.bits) m) = true := by
      intro l
      induction l with
      | nil => exact fun m h => h
      | cons x l ih => exact fun m h => ih _ (Memory.wf_wrN _ _ _ h)
    exact key _ _ w1
  exact Memory.wf_wrN _ _ _ (Memory.wf_wrN _ _ _ (Memory.wf_wrN _ _ _ w2))

theorem State.restRegs_wf {s : State} (h : regsWf s.regs = true) : regsWf s.restRegs = true := by
  have key : ∀ x y : Nat × Word, x.2 ≠ resetVal x.1 → (if wholeKept x.1 || pmReg x.1 then some x
      else if fieldsKept x.1 then
        let w := keepFields x.1 x.2
        if w = resetVal x.1 then none else some (x.1, w)
      else none) = some y → y.1 = x.1 ∧ y.2 ≠ resetVal y.1 := by
    intro x y hx e
    split at e
    · cases e; exact ⟨rfl, hx⟩
    · split at e
      · simp only at e
        split at e
        · cases e
        · cases e; exact ⟨rfl, by assumption⟩
      · cases e
  unfold State.restRegs
  simp only [regsWf, Bool.and_eq_true, List.all_eq_true, decide_eq_true_eq, Tbl.rising_iff] at *
  obtain ⟨h1, h2⟩ := h
  generalize s.regs = r at *
  refine ⟨?_, fun c hc => ?_⟩
  · induction r with
    | nil => exact List.Pairwise.nil
    | cons x l ih =>
      have ih := ih h1.of_cons (fun c hc => h2 c (List.mem_cons_of_mem _ hc))
      rw [List.filterMap_cons]
      split
      · exact ih
      · rename_i y e
        have k := key x y (h2 x List.mem_cons_self) e
        refine List.Pairwise.cons (fun n hn => ?_) ih
        obtain ⟨u, hu, rfl⟩ := List.mem_map.mp hn
        obtain ⟨v, hv, e'⟩ := List.mem_filterMap.mp hu
        rw [k.1, (key v u (h2 v (List.mem_cons_of_mem _ hv)) e').1]
        exact List.rel_of_pairwise_cons h1 (List.mem_map_of_mem hv)
  · obtain ⟨v, hv, e⟩ := List.mem_filterMap.mp hc
    exact (key v c (h2 v hv) e).2

theorem execRestSpindlesStopped_fr {s : State} : FrO { free := true, sent := true, ev := true, unitT := true, ft := true, pw := true, md := true, chT := true, ldT := true, actT := true, spT := true, spWait := true, ar := true, jn := true, rb := true, lk := true, qm := true, cm := true, hc := true, dm := true, bm := true, mem := true, mc := true, r4 := true, rmd := true, rpw := true } s (execRestSpindlesStopped s) := by
  unfold execRestSpindlesStopped
  refine FrO.next (Fr.ite (Fr.refl _ _) ?_)
  extract_lets t1 t2 t3
  refine Fr.ite (Fr.refl _ _) ?_
  have h1 : Fr { free := true, sent := true, ev := true, unitT := true, ft := true, pw := true, md := true, chT := true, ldT := true, actT := true, spT := true, spWait := true, ar := true, jn := true, rb := true, lk := true, qm := true, cm := true, hc := true, dm := true, bm := true, mem := true, mc := true, r4 := true, rmd := true, rpw := true } s t1 := Fr.each (fun _ _ => State.peDone_fr (by decide) (Fr.refl _ _)) (Fr.refl _ _)
  have h2 : Fr { free := true, sent := true, ev := true, unitT := true, ft := true, pw := true, md := true, chT := true, ldT := true, actT := true, spT := true, spWait := true, ar := true, jn := true, rb := true, lk := true, qm := true, cm := true, hc := true, dm := true, bm := true, mem := true, mc := true, r4 := true, rmd := true, rpw := true } s t2 :=
    Fr.each (fun f t => Fr.ite (Fr.refl _ _) (State.off_fr (by decide) (Mask.okHigh (ctl_high f)) (Fr.pB (Mask.okHigh (ctl_high f))
      (State.stopEnd_fr (by decide) (Fr.refl _ _))))) h1
  exact State.off_fr (by decide) (Mask.okHigh (by decide)) (Fr.mdB rfl (fun i => State.restRegs_wf i.1.1) (State.saveArrays_fr (by decide) h2))

theorem State.coreOff_fr {M : Mask} {z s : State} (hm : Mask.le { md := true, chT := true, paT := true, ldT := true, actT := true, acc0 := true, acc1 := true, spT := true, spWait := true, ar := true, lk := true, cm := true, hc := true, dm := true, mc := true, r4 := true, rmd := true, rbt := true, rpw := true, rsf := true } M = true) (h0 : Fr M z s) : Fr M z s.coreOff := by
  refine Fr.via ?_ hm h0
  unfold State.coreOff
  extract_lets mode cause _ _ t1 t2
  have h1 : Fr { md := true, chT := true, paT := true, ldT := true, actT := true, acc0 := true, acc1 := true, spT := true, spWait := true, ar := true, lk := true, cm := true, hc := true, dm := true, mc := true, r4 := true, rmd := true, rbt := true, rpw := true, rsf := true } s { s with regs := Tbl.putD s.md.saved 4 (resetVal 4) mode } := by
    refine Fr.regsB rfl rfl rfl rfl rfl (fun i => ⟨regsWf_putD _ _ i.1.2.1, ?_⟩) (Fr.refl _ _)
    have e : State.rd { s with regs := Tbl.putD s.md.saved 4 (resetVal 4) mode } 4 = s.rd 4 := Tbl.getD_putD_same ..
    have l := i.2
    have a1 : MD_MODE_MODE.addr = 4 := rfl
    have a2 : MD_MODE_PREV.addr = 4 := rfl
    unfold State.LegalMode State.mode State.g at *
    rw [a1, a2] at *
    rw [e]; exact l
  have h2 : Fr { md := true, chT := true, paT := true, ldT := true, actT := true, acc0 := true, acc1 := true, spT := true, spWait := true, ar := true, lk := true, cm := true, hc := true, dm := true, mc := true, r4 := true, rmd := true, rbt := true, rpw := true, rsf := true } s (t1.wr MD_MODE mode) := by
    unfold t1 State.wr
    apply Fr.leafB (h := h1) <;> first | rfl | exact .inl rfl | exact .inr rfl
  have h3 : Fr { md := true, chT := true, paT := true, ldT := true, actT := true, acc0 := true, acc1 := true, spT := true, spWait := true, ar := true, lk := true, cm := true, hc := true, dm := true, mc := true, r4 := true, rmd := true, rbt := true, rpw := true, rsf := true } s t2 := Fr.each (fun _ _ => Fr.p (Mask.okHigh (le_add1 (by decide)))) h2
  exact Fr.mdB rfl (fun _ => rfl) h3

theorem State.linkWake_fr {M : Mask} {z s : State} (hm : Mask.le { chT := true } M = true) (h0 : Fr M z s) :
    Fr M z (State.linkWake s) := by
  refine Fr.via ?_ hm h0
  unfold State.linkWake
  repeat' first
    | with_reducible exact Fr.refl _ _
    | with_reducible refine Fr.ite ?_ ?_
    | with_reducible refine State.startBegin_fr (by decide) ?_

theorem execRestPowerOff_fr {s : State} : FrO { sent := true, ev := true, md := true, chT := true, paT := true, ldT := true, actT := true, acc0 := true, acc1 := true, spT := true, spWait := true, ar := true, lk := true, cm := true, hc := true, dm := true, mc := true, r4 := true, rmd := true, rbt := true, rpw := true, rsf := true } s (execRestPowerOff s) := by
  unfold execRestPowerOff
  repeat' first
    | with_reducible exact Fr.refl _ _
    | with_reducible refine FrO.next ?_
    | with_reducible refine Fr.ite ?_ ?_
    | with_reducible refine State.coreOff_fr (by decide) ?_
    | with_reducible refine State.goMode_fr (by decide) (by decide) ?_
    | with_reducible refine State.inc_fr (by decide) ?_ ?_
    | with_reducible refine State.linkWake_fr (by decide) ?_
    | with_reducible refine State.mdU_fr (by decide) (by first | rfl | (split <;> rfl)) ?_
    | with_reducible refine State.off_fr (by decide) ?_ ?_
    | with_reducible refine State.passClose_fr (by decide) ?_
    | with_reducible refine State.raise_fr (by decide) ?_
    | exact Mask.okHigh (Nat.le_of_ble_eq_true rfl)
    | (unfold Mask.ok; decide)

theorem execWake_fr {s : State} {trip : Bool} : FrO { md := true, chT := true } s (execWake trip s) := by
  unfold execWake
  repeat' first
    | with_reducible exact Fr.refl _ _
    | with_reducible refine FrO.next ?_
    | with_reducible refine Fr.ite ?_ ?_
    | with_reducible refine State.linkWake_fr (by decide) ?_
    | with_reducible refine State.mdU_fr (by decide) (by first | rfl | (split <;> rfl)) ?_
    | split

theorem State.blocksOn_fr {M : Mask} {z s : State} (hm : Mask.le { sent := true, ev := true, unitT := true, ft := true, pw := true, md := true, chT := true, ldT := true, actT := true, spT := true, spWait := true, ar := true, jn := true, rb := true, lk := true, qm := true, cm := true, hc := true, dm := true, bm := true, mem := true, mc := true, r4 := true, rmd := true, rbt := true, rpw := true, rsf := true } M = true) (h0 : Fr M z s) :
    Fr M z (State.blocksOn s) := by
  refine Fr.via ?_ hm h0
  unfold State.blocksOn
  repeat' first
    | with_reducible exact Fr.refl _ _
    | with_reducible refine Fr.ite ?_ ?_
    | with_reducible refine State.bmU_fr (by decide) (by first | rfl | (split <;> rfl)) ?_
    | with_reducible refine State.edSet_fr (by decide) ?_
    | with_reducible refine State.loopLatch_fr (by decide) ?_
    | with_reducible refine State.paceFresh_fr (by decide) ?_
    | with_reducible refine State.qmKeep_fr (by decide) ?_
    | with_reducible refine State.rbStart_fr (by decide) ?_
    | with_reducible refine State.replay_fr (by decide) ?_
    | with_reducible refine State.spillCheck_fr (by decide) ?_
    | with_reducible refine State.startEnd_fr (by decide) ?_
    | with_reducible refine State.stripesAgain_fr (by decide) ?_
    | with_reducible refine State.volStart_fr (by decide) ?_
    | with_reducible refine Fr.pB ?_ ?_
    | with_reducible refine Fr.each (fun _ _ => ?_) ?_
    | exact Mask.okHigh (Nat.le_of_ble_eq_true rfl)
    | exact Mask.okHigh (ctl_high _)

theorem State.doorbellsAll_fr {M : Mask} {z s : State} (hm : Mask.le { qm := true } M = true) (h0 : Fr M z s) :
    Fr M z (State.doorbellsAll s) := by
  refine Fr.via ?_ hm h0
  unfold State.doorbellsAll
  repeat' first
    | with_reducible exact Fr.refl _ _
    | with_reducible refine State.qmU_fr (by decide) ?_

theorem State.causesFresh_fr {M : Mask} {z s : State} (hm : Mask.le { sent := true, ev := true, ar := true, rb := true, lk := true } M = true) (h0 : Fr M z s) :
    Fr M z (State.causesFresh s) := by
  refine Fr.via ?_ hm h0
  unfold State.causesFresh
  repeat' first
    | with_reducible exact Fr.refl _ _
    | with_reducible refine State.memberClear_fr (by decide) ?_
    | with_reducible refine Fr.each (fun _ _ => ?_) ?_

theorem execRestExitComplete_fr {s : State} : FrO { sent := true, ev := true, unitT := true, ft := true, pw := true, md := true, chT := true, ldT := true, actT := true, spT := true, spWait := true, ar := true, jn := true, rb := true, lk := true, qm := true, cm := true, hc := true, dm := true, bm := true, mem := true, mc := true, r4 := true, rmd := true, rbt := true, rpw := true, rsf := true } s (execRestExitComplete s) := by
  unfold execRestExitComplete
  refine FrO.next ?_
  split
  · have h1 : Fr { sent := true, ev := true, unitT := true, ft := true, pw := true, md := true, chT := true, ldT := true, actT := true, spT := true, spWait := true, ar := true, jn := true, rb := true, lk := true, qm := true, cm := true, hc := true, dm := true, bm := true, mem := true, mc := true, r4 := true, rmd := true, rbt := true, rpw := true, rsf := true } s s.blocksOn := State.blocksOn_fr (by decide) (Fr.refl _ _)
    refine Fr.ite (Fr.mdB rfl (fun _ => rfl) h1) (Fr.ite (Fr.refl _ _) ?_)
    have h2 := State.mdU_fr (f := fun m => { m with rest := .awake }) rfl rfl
      (State.doorbellsAll_fr (by decide) (State.causesFresh_fr (by decide) h1))
    refine Fr.ite ?_ ?_
    · exact State.mdU_fr rfl rfl (State.safeNow_fr (by decide) (State.note_fr (by decide) (by unfold Mask.ok; decide) h2))
    · exact State.exitStart_fr (by decide) (State.note_fr (by decide) (by unfold Mask.ok; decide) (State.goMode_fr rfl (by decide) h2))
  · exact Fr.refl _ _

end Sys2Proof.Machine
end

