-- ==== Sys2Proof/Laws/FrPackage.lean ====
section
/-! SUPPORT. Laws/FrPackage.lean: what each operation of Machine/Package.lean may touch: the lemma that later proofs cite in
place of unfolding it. -/

namespace Sys2Proof.Machine

open Reg

theorem State.dark_fr {M : Mask} {z s : State} {motion : Bool} (hm : Mask.le { now := true, rdata := true, ev := true, unitT := true, ft := true, pw := true, sf := true, md := true, chT := true, paT := true, ldT := true, actT := true, acc0 := true, acc1 := true, spT := true, spWait := true, ar := true, jn := true, rb := true, lk := true, qm := true, cm := true, hc := true, dm := true, bm := true, mem := true, mc := true, bt := true, r4 := true, rmd := true, rbt := true, rpw := true, rsf := true } M = true) (h0 : Fr M z s) : Fr M z (s.dark motion) := by
  refine Fr.via ?_ hm h0
  unfold State.dark
  extract_lets hours kept _ t t1
  have h1 : Fr { now := true, rdata := true, ev := true, unitT := true, ft := true, pw := true, sf := true, md := true, chT := true, paT := true, ldT := true, actT := true, acc0 := true, acc1 := true, spT := true, spWait := true, ar := true, jn := true, rb := true, lk := true, qm := true, cm := true, hc := true, dm := true, bm := true, mem := true, mc := true, bt := true, r4 := true, rmd := true, rbt := true, rpw := true, rsf := true } s (t.off MD_MODE_MODE) := by
    have e : (t.rd 4) = resetVal 4 := by
      have : ∀ l : Tbl Word, Tbl.getD (l.filter kept) 4 (resetVal 4) = resetVal 4 := by
        intro l
        unfold Tbl.getD
        induction l with
        | nil => rfl
        | cons x l ih =>
          rw [List.filter_cons]
          split
          · rename_i hk
            rw [Tbl.find]
            split
            · rename_i e4
              exfalso
              have : kept x = false := by
                unfold kept
                have a : mramReg x.1 = false := by rw [e4]; decide
                have b : decide (SV_CTL 0 ≤ x.1) = false := by rw [e4]; decide
                simp [a, b]
              simp [this] at hk
            · exact ih
          · exact ih
      exact this s.regs
    refine Fr.tr (t := t) (Fr.pMode rfl rfl (.inl ⟨.inl rfl, fun _ => by decide⟩)) ?_
    constructor <;> first | rfl | exact .inl rfl | exact .inr rfl | skip
    intro i
    refine ⟨⟨regsWf_filter _ i.1.1, rfl, rfl⟩, ?_⟩
    have a1 : MD_MODE_MODE.addr = 4 := rfl
    have a2 : MD_MODE_PREV.addr = 4 := rfl
    unfold State.LegalMode State.mode State.g
    rw [a1, a2, e]
    decide
  have h2 : Fr { now := true, rdata := true, ev := true, unitT := true, ft := true, pw := true, sf := true, md := true, chT := true, paT := true, ldT := true, actT := true, acc0 := true, acc1 := true, spT := true, spWait := true, ar := true, jn := true, rb := true, lk := true, qm := true, cm := true, hc := true, dm := true, bm := true, mem := true, mc := true, bt := true, r4 := true, rmd := true, rbt := true, rpw := true, rsf := true } s t1 :=
    Fr.when (fun _ => Fr.wr (by unfold Mask.ok; decide)) (Fr.pB (by unfold Mask.ok; decide) h1)
  exact State.feedShow_fr (by decide) (State.feedShow_fr (by decide) h2)

theorem State.boot_fr {M : Mask} {z s : State} (hm : Mask.le { now := true, sent := true, ev := true, lk := true, r4 := true } M = true) (h0 : Fr M z s) : Fr M z s.boot := by
  refine Fr.via ?_ hm h0
  unfold State.boot
  refine State.raise_fr (by decide) ?_
  refine Fr.tr (Fr.pMode rfl rfl (.inl ⟨.inl rfl, fun _ => by decide⟩)) ?_
  apply Fr.leaf <;> first | rfl | exact .inl rfl | exact .inr rfl

theorem State.deviceReset_fr {M : Mask} {z s : State} (hm : Mask.le { now := true, rdata := true, sent := true, ev := true, unitT := true, ft := true, pw := true, sf := true, md := true, chT := true, paT := true, ldT := true, actT := true, acc0 := true, acc1 := true, spT := true, spWait := true, ar := true, jn := true, rb := true, lk := true, qm := true, cm := true, hc := true, dm := true, bm := true, mem := true, mc := true, bt := true, r4 := true, rmd := true, rbt := true, rpw := true, rsf := true } M = true) (h0 : Fr M z s) :
    Fr M z (State.deviceReset s) := by
  refine Fr.via ?_ hm h0
  unfold State.deviceReset
  repeat' first
    | with_reducible exact Fr.refl _ _
    | with_reducible refine Fr.ite ?_ ?_
    | with_reducible refine State.boot_fr (by decide) ?_
    | with_reducible refine State.dark_fr (by decide) ?_
    | with_reducible refine State.pwU_fr (by decide) ?_

theorem execDeviceReset_fr {s : State} : FrO { now := true, rdata := true, sent := true, ev := true, unitT := true, ft := true, pw := true, sf := true, md := true, chT := true, paT := true, ldT := true, actT := true, acc0 := true, acc1 := true, spT := true, spWait := true, ar := true, jn := true, rb := true, lk := true, qm := true, cm := true, hc := true, dm := true, bm := true, mem := true, mc := true, bt := true, r4 := true, rmd := true, rbt := true, rpw := true, rsf := true } s (execDeviceReset s) := by
  unfold execDeviceReset
  repeat' first
    | with_reducible exact Fr.refl _ _
    | with_reducible refine FrO.next ?_
    | with_reducible refine Fr.ite ?_ ?_
    | with_reducible refine State.deviceReset_fr (by decide) ?_

theorem execResetPin_fr {s : State} {low : Bool} : FrO { now := true, rdata := true, sent := true, ev := true, unitT := true, ft := true, pw := true, sf := true, md := true, chT := true, paT := true, ldT := true, actT := true, acc0 := true, acc1 := true, spT := true, spWait := true, ar := true, jn := true, rb := true, lk := true, qm := true, cm := true, hc := true, dm := true, bm := true, mem := true, mc := true, bt := true, r4 := true, rmd := true, rbt := true, rpw := true, rsf := true } s (execResetPin low s) := by
  unfold execResetPin
  repeat' first
    | with_reducible exact Fr.refl _ _
    | with_reducible refine FrO.next ?_
    | with_reducible refine Fr.ite ?_ ?_
    | with_reducible refine State.boot_fr (by decide) ?_
    | with_reducible refine State.deviceReset_fr (by decide) ?_
    | with_reducible refine State.ftU_fr (by decide) ?_

theorem execPowerOn_fr {s : State} {feedA : Bool} {feedB : Bool} {chainA : Bool} {chainB : Bool} : FrO { now := true, free := true, rdata := true, sent := true, ev := true, unitT := true, ft := true, pw := true, sf := true, md := true, chT := true, paT := true, ldT := true, actT := true, acc0 := true, acc1 := true, spT := true, spWait := true, ar := true, jn := true, rb := true, lk := true, qm := true, cm := true, hc := true, dm := true, hwt := true, bm := true, mem := true, mc := true, bt := true, r4 := true, rmd := true, rbt := true, rpw := true, rsf := true } s (execPowerOn feedA feedB chainA chainB s) := by
  unfold execPowerOn
  repeat' first
    | with_reducible exact Fr.refl _ _
    | with_reducible refine FrO.next ?_
    | with_reducible refine Fr.ite ?_ ?_
    | with_reducible refine State.boot_fr (by decide) ?_
    | with_reducible refine State.btU_fr (by decide) (by first | exact .inl rfl | exact .inr rfl | (split <;> exact .inr rfl)) (by first | exact .inl rfl | exact .inr rfl | (split <;> exact .inr rfl)) (by first | exact .inl rfl | exact .inr rfl | (split <;> exact .inr rfl)) ?_
    | with_reducible refine State.dark_fr (by decide) ?_
    | with_reducible refine State.dmU_fr (by decide) (by first | exact .inl rfl | exact .inr rfl | (split <;> exact .inr rfl)) ?_
    | with_reducible refine State.free_fr (by decide) ?_
    | with_reducible refine State.ftU_fr (by decide) ?_
    | with_reducible refine State.lkU_fr (by decide) ?_
    | with_reducible refine State.pwU_fr (by decide) ?_
    | with_reducible refine State.sat_fr (by decide) ?_ ?_
    | exact Mask.okHigh (Nat.le_of_ble_eq_true rfl)

theorem execPowerDownComplete_fr {s : State} : FrO { now := true, rdata := true, sent := true, ev := true, unitT := true, ft := true, pw := true, sf := true, md := true, chT := true, paT := true, ldT := true, actT := true, acc0 := true, acc1 := true, spT := true, spWait := true, ar := true, jn := true, rb := true, lk := true, qm := true, cm := true, hc := true, dm := true, bm := true, mem := true, mc := true, bt := true, r4 := true, rmd := true, rbt := true, rpw := true, rsf := true } s (execPowerDownComplete s) := by
  unfold execPowerDownComplete
  repeat' first
    | with_reducible exact Fr.refl _ _
    | with_reducible refine FrO.next ?_
    | with_reducible refine Fr.ite ?_ ?_
    | with_reducible refine State.dark_fr (by decide) ?_
    | with_reducible refine State.durable_fr (by decide) ?_
    | with_reducible refine State.flushEvents_fr (by decide) ?_
    | with_reducible refine State.pwU_fr (by decide) ?_
    | with_reducible refine State.sbWrite_fr (by decide) ?_
    | with_reducible refine Fr.when (fun _ => ?_) ?_
    | split

end Sys2Proof.Machine
end

