-- ==== Sys2Proof/Laws/FrWindow.lean ====
section
/-! SUPPORT. Laws/FrWindow.lean: what each operation of Machine/Window.lean may touch: the lemma that later proofs cite in
place of unfolding it. -/

namespace Sys2Proof.Machine

open Reg

theorem State.opRun_fr {M : Mask} {z s : State} {o : OpReg} {n : Nat} {t : State} (h : (State.opRun s o n) = some t) (hm : Mask.le { sent := true, ev := true, unitT := true, ft := true, pw := true, sf := true, md := true, chT := true, ldT := true, actT := true, spT := true, spWait := true, ar := true, jn := true, rb := true, lk := true, qm := true, cm := true, hc := true, dm := true, bm := true, mem := true, mc := true, bt := true, revoked := true, r4 := true, rmd := true, rbt := true, rpw := true, rsf := true } M = true) (h0 : Fr M z s) :
    Fr M z t := by
  refine Fr.via ?_ hm h0
  unfold State.opRun at h
  split at h <;> cases h
  all_goals
    repeat' first
      | extract_lets
      | with_reducible exact Fr.refl _ _
      | with_reducible refine State.clearCause_fr (by decide) ?_
      | with_reducible refine State.cmReset_fr (by decide) ?_
      | with_reducible refine State.evClear_fr (by decide) ?_
      | with_reducible refine State.forceSwitch_fr (by decide) ?_
      | with_reducible refine State.gateStart_fr (by decide) ?_
      | with_reducible refine State.gotoMaint_fr (by decide) ?_
      | with_reducible refine State.gotoRest_fr (by decide) ?_
      | with_reducible refine State.gotoService_fr (by decide) ?_
      | with_reducible refine State.pwResync_fr (by decide) ?_
      | with_reducible refine State.rbClear_fr (by decide) ?_
      | with_reducible refine State.rbFail_fr (by decide) ?_
      | with_reducible refine State.rbForget_fr (by decide) ?_
      | with_reducible refine State.rbFtClear_fr (by decide) ?_
      | with_reducible refine State.rbPause_fr (by decide) ?_
      | with_reducible refine State.rbReshape_fr (by decide) ?_
      | with_reducible refine State.rbResume_fr (by decide) ?_
      | with_reducible refine State.rbShow_fr (by decide) ?_
      | with_reducible refine State.revokeVk0_fr (by decide) ?_
      | with_reducible refine State.selftest_fr (by decide) ?_
      | with_reducible refine State.svnStart_fr (by decide) ?_
      | with_reducible refine State.testStandby_fr (by decide) ?_
      | with_reducible refine doJnFormat_fr (by decide) ?_
      | with_reducible refine doJnResync_fr (by decide) ?_
      | with_reducible refine doLoad_fr (by decide) ?_
      | with_reducible refine doQmCreate_fr (by decide) ?_
      | with_reducible refine doQmDelete_fr (by decide) ?_
      | with_reducible refine doQmRead_fr (by decide) ?_
      | with_reducible refine doQmRecover_fr (by decide) ?_
      | with_reducible refine doSeek_fr (by decide) ?_
      | with_reducible refine doShortCmd_fr (by decide) ?_
      | with_reducible refine doSpin_fr (by decide) ?_
      | with_reducible refine doStop_fr (by decide) ?_
      | with_reducible refine doUnload_fr (by decide) ?_

theorem OpReg.err_ok {M : Mask} (o : OpReg) (hm : Mask.le { rmd := true, rbt := true, rpw := true, rsf := true } M = true) :
    M.ok o.err.addr := by
  cases o <;> first
    | exact Mask.okHigh (by decide)
    | exact Mask.okHigh (le_add1 (by decide))
    | exact Mask.okIn hm (by unfold Mask.ok; decide)

theorem State.opWrite_fr {M : Mask} {z s : State} {o : OpReg} {n : Nat} (hm : Mask.le { sent := true, ev := true, unitT := true, ft := true, pw := true, sf := true, md := true, chT := true, ldT := true, actT := true, spT := true, spWait := true, ar := true, jn := true, rb := true, lk := true, qm := true, cm := true, hc := true, dm := true, bm := true, mem := true, mc := true, bt := true, revoked := true, r4 := true, rmd := true, rbt := true, rpw := true, rsf := true } M = true) (h0 : Fr M z s) :
    Fr M z (State.opWrite s o n) := by
  refine Fr.via ?_ hm h0
  unfold State.opWrite
  repeat' first
    | with_reducible exact Fr.refl _ _
    | with_reducible refine Fr.ite ?_ ?_
    | exact OpReg.err_ok _ (by decide)
    | with_reducible refine Fr.pB ?_ ?_
    | split
    | with_reducible refine State.opRun_fr (by assumption) (by decide) ?_

theorem State.restWrite_fr {M : Mask} {z s : State} {addr v sets : Nat} (hm : Mask.le { rmd := true, rbt := true, rpw := true, rsf := true } M = true) (h0 : Fr M z s) :
    Fr M z (s.restWrite addr v sets) := by
  unfold State.restWrite
  split
  · exact h0
  · rename_i fs e
    exact Fr.eachMem (fun f hf t => State.fieldWrite_fr hm
      (fun h4 => regFields_mode fs (h4 ▸ e) f (List.mem_filter.mp hf).1) (Fr.refl M t)) h0

theorem State.fnWrite_fr {M : Mask} {z s : State} {f : Func} {v : Nat} {sets : Nat} (hm : Mask.le { sent := true, ev := true, unitT := true, ft := true, pw := true, md := true, chT := true, ldT := true, actT := true, spT := true, spWait := true, ar := true, jn := true, rb := true, lk := true, qm := true, cm := true, hc := true, dm := true, bm := true, mem := true, mc := true, r4 := true, rmd := true, rbt := true, rpw := true, rsf := true } M = true) (h0 : Fr M z s) :
    Fr M z (State.fnWrite s f v sets) := by
  refine Fr.via ?_ hm h0
  unfold State.fnWrite
  repeat' first
    | with_reducible exact Fr.refl _ _
    | with_reducible refine Fr.ite ?_ ?_
    | with_reducible refine State.actUp_fr (by decide) ?_
    | with_reducible refine State.dPause_fr (by decide) ?_
    | with_reducible refine State.fnDisable_fr (by decide) ?_
    | with_reducible refine State.fnEnable_fr (by decide) ?_
    | with_reducible refine State.restWrite_fr (by decide) ?_
    | with_reducible refine State.retrain_fr (by decide) ?_
    | with_reducible refine doDmChGo_fr (by decide) ?_
    | with_reducible refine doDmaUnpause_fr (by decide) ?_
    | with_reducible refine Fr.when (fun _ => ?_) ?_
    | split

theorem State.ctlWrite_fr {M : Mask} {z s : State} {addr : Nat} {v : Nat} {sets : Nat} (hm : Mask.le { free := true, rdata := true, sent := true, ev := true, unitT := true, ft := true, pw := true, sf := true, md := true, chT := true, paT := true, ldT := true, actT := true, spT := true, spWait := true, ar := true, jn := true, rb := true, lk := true, qm := true, cm := true, hc := true, dm := true, hwt := true, bm := true, mem := true, mc := true, bt := true, revoked := true, r4 := true, rmd := true, rbt := true, rpw := true, rsf := true } M = true) (h0 : Fr M z s) :
    Fr M z (State.ctlWrite s addr v sets) := by
  refine Fr.via ?_ hm h0
  unfold State.ctlWrite
  repeat' first
    | with_reducible exact Fr.refl _ _
    | with_reducible refine Fr.ite ?_ ?_
    | with_reducible refine State.ack_fr (by decide) ?_
    | with_reducible refine State.coefWrite_fr (by decide) ?_
    | with_reducible refine State.ctxSnap_fr (by decide) ?_
    | with_reducible refine State.dArm_fr (by decide) ?_
    | with_reducible refine State.dResume_fr (by decide) ?_
    | with_reducible refine State.fnWrite_fr (by decide) ?_
    | with_reducible refine State.histClear_fr (by decide) ?_
    | with_reducible refine State.histSnap_fr (by decide) ?_
    | with_reducible refine State.hwtAccess_fr (by decide) ?_
    | with_reducible refine State.maint_fr (by decide) ?_
    | with_reducible refine State.off_fr (by decide) ?_ ?_
    | with_reducible refine State.opWrite_fr (by decide) ?_
    | with_reducible refine State.patAccess_fr (by decide) ?_
    | with_reducible refine State.peSubmit_fr (by decide) ?_
    | with_reducible refine State.plainWrite_fr (by decide) ?_
    | with_reducible refine State.runoutAccess_fr (by decide) ?_
    | with_reducible refine State.settle_fr (by decide) ?_
    | with_reducible refine State.smemFresh_fr (by decide) ?_
    | with_reducible refine State.spUp_fr (by decide) ?_
    | with_reducible refine State.tbAsk_fr (by decide) ?_
    | with_reducible refine State.tsiWrite_fr (by decide) ?_
    | with_reducible refine doCaptureArm_fr (by decide) ?_
    | with_reducible refine doDrain_fr (by decide) ?_
    | with_reducible refine doHeadselWrite_fr (by decide) ?_
    | with_reducible refine doInvalLine_fr (by decide) ?_
    | with_reducible refine doInvalRange_fr (by decide) ?_
    | with_reducible refine doPreampAccess_fr (by decide) ?_
    | with_reducible refine doRunoutClear_fr (by decide) ?_
    | with_reducible refine Fr.when (fun _ => ?_) ?_
    | split
    | exact Mask.okHigh (le_add1 (by decide))

theorem State.ctlRead_fr {M : Mask} {z s : State} {addr : Nat} {adds : Nat} (hm : Mask.le { rdata := true, sent := true, ev := true, actT := true, ar := true, lk := true, dm := true, hwt := true, rmd := true, rbt := true, rpw := true, rsf := true } M = true) (h0 : Fr M z s) :
    Fr M z (State.ctlRead s addr adds) := by
  refine Fr.via ?_ hm h0
  unfold State.ctlRead
  repeat' first
    | with_reducible exact Fr.refl _ _
    | with_reducible refine State.capRead_fr (by decide) ?_
    | with_reducible refine State.dispRead_fr (by decide) ?_
    | with_reducible refine State.evRead_fr (by decide) ?_
    | with_reducible refine State.ftRead_fr (by decide) ?_
    | with_reducible refine State.hwtAccess_fr (by decide) ?_
    | with_reducible refine State.patAccess_fr (by decide) ?_
    | with_reducible refine State.plainRead_fr (by decide) ?_
    | with_reducible refine State.runoutAccess_fr (by decide) ?_
    | with_reducible refine State.sigRead_fr (by decide) ?_
    | with_reducible refine State.smemRead_fr (by decide) ?_
    | with_reducible refine State.storeRead_fr (by decide) ?_
    | with_reducible refine State.timeRead_fr (by decide) ?_
    | split

theorem execRegisterWrite_fr {s : State} {addr : BitVec 24} {value : Word} {core : Bool} {sets : Word} : FrO { free := true, rdata := true, sent := true, ev := true, unitT := true, ft := true, pw := true, sf := true, md := true, chT := true, paT := true, ldT := true, actT := true, spT := true, spWait := true, ar := true, jn := true, rb := true, lk := true, qm := true, cm := true, hc := true, dm := true, hwt := true, bm := true, mem := true, mc := true, bt := true, revoked := true, r4 := true, rmd := true, rbt := true, rpw := true, rsf := true } s (execRegisterWrite addr value core sets s) := by
  unfold execRegisterWrite
  repeat' first
    | with_reducible exact Fr.refl _ _
    | with_reducible refine FrO.next ?_
    | with_reducible refine Fr.ite ?_ ?_
    | with_reducible refine State.ctlWrite_fr (by decide) ?_

theorem execRcRegisterRead_fr {s : State} {addr : BitVec 24} {core : Bool} {adds : Word} : FrO { rdata := true, sent := true, ev := true, actT := true, ar := true, lk := true, dm := true, hwt := true, rmd := true, rbt := true, rpw := true, rsf := true } s (execRcRegisterRead addr core adds s) := by
  unfold execRcRegisterRead
  repeat' first
    | with_reducible exact Fr.refl _ _
    | with_reducible refine FrO.next ?_
    | with_reducible refine Fr.ite ?_ ?_
    | with_reducible refine State.ctlRead_fr (by decide) ?_

theorem State.answer_fr {M : Mask} {z s : State} {src : Nat} {tag : Nat} {rsp : Option OutFrame} (hm : Mask.le { sent := true, lk := true } M = true) (h0 : Fr M z s) :
    Fr M z (State.answer s src tag rsp) := by
  refine Fr.via ?_ hm h0
  unfold State.answer
  repeat' first
    | with_reducible exact Fr.refl _ _
    | with_reducible refine State.lkU_fr (by decide) ?_
    | with_reducible refine State.respond_fr (by decide) ?_
    | split

theorem execControlWriteFrame_fr {s : State} {src : BitVec 12} {tag : BitVec 16} {addr : BitVec 64} {len : Fin 4097} {data : Word} {rspReq : Bool} {fcrc : Bool} {sets : Word} : FrO { free := true, rdata := true, sent := true, ev := true, unitT := true, ft := true, pw := true, sf := true, md := true, chT := true, paT := true, ldT := true, actT := true, spT := true, spWait := true, ar := true, jn := true, rb := true, lk := true, qm := true, cm := true, hc := true, dm := true, hwt := true, bm := true, mem := true, mc := true, bt := true, revoked := true, r4 := true, rmd := true, rbt := true, rpw := true, rsf := true } s (execControlWriteFrame src tag addr len data rspReq fcrc sets s) := by
  unfold execControlWriteFrame
  repeat' first
    | with_reducible exact Fr.refl _ _
    | with_reducible refine FrO.next ?_
    | with_reducible refine Fr.ite ?_ ?_
    | with_reducible refine State.answer_fr (by decide) ?_
    | with_reducible refine State.ctlWrite_fr (by decide) ?_
    | with_reducible refine State.fcrcBad_fr (by decide) ?_
    | with_reducible refine State.respond_fr (by decide) ?_
    | split

theorem execControlReadFrame_fr {s : State} {src : BitVec 12} {tag : BitVec 16} {addr : BitVec 64} {len : Fin 4097} {door : Bool} {fcrc : Bool} {adds : Word} : FrO { rdata := true, sent := true, ev := true, actT := true, ar := true, lk := true, dm := true, hwt := true, rmd := true, rbt := true, rpw := true, rsf := true } s (execControlReadFrame src tag addr len door fcrc adds s) := by
  unfold execControlReadFrame
  repeat' first
    | with_reducible exact Fr.refl _ _
    | with_reducible refine FrO.next ?_
    | with_reducible refine Fr.ite ?_ ?_
    | with_reducible refine State.answer_fr (by decide) ?_
    | with_reducible refine State.ctlRead_fr (by decide) ?_
    | with_reducible refine State.fcrcBad_fr (by decide) ?_
    | with_reducible refine State.respond_fr (by decide) ?_
    | split

end Sys2Proof.Machine
end

