-- ==== Sys2Proof/Laws/Map.lean ====
section
/-! SUPPORT. Laws/Map.lean: the register map. Every address of a register lies on its row, fields of a row do not overlap,
and the registers with RWL fields have no action of their own but the coefficients. -/

namespace Sys2Proof

open Machine.Reg

/-- The addresses of a row. -/
def RegDesc.addrs (r : RegDesc) : List Nat :=
  (List.range r.n1).flatMap (fun i => (List.range r.n2).map (fun j => r.base + i * r.s1 + j * r.s2))

theorem RegDesc.covers_mem {r : RegDesc} {a : Nat} (h : r.covers a = true) : a ∈ r.addrs := by
  unfold RegDesc.covers at h
  simp only [Bool.and_eq_true, decide_eq_true_eq] at h
  obtain ⟨⟨⟨hb, hi⟩, hz⟩, hj⟩ := h
  unfold RegDesc.addrs
  rw [List.mem_flatMap]
  refine ⟨(a - r.base) / r.s1, List.mem_range.2 hi, ?_⟩
  rw [List.mem_map]
  refine ⟨(a - r.base) % r.s1 / r.s2, List.mem_range.2 hj, ?_⟩
  have e1 := Nat.div_add_mod (a - r.base) r.s1
  have e2 := Nat.div_add_mod ((a - r.base) % r.s1) r.s2
  rw [hz] at e2
  rw [Nat.mul_comm] at e1 e2
  omega

/-- A register's fields are those of a row that covers its address. -/
theorem regFields_row {a : Nat} {fs : List FieldDesc} (h : regFields a = some fs) :
    ∃ r ∈ rows, r.covers a = true ∧ r.fields = fs := by
  unfold regFields at h
  cases e : rows.find? (fun r => r.covers a) with
  | none => rw [e] at h; cases h
  | some r =>
    rw [e] at h
    injection h with h
    exact ⟨r, List.mem_of_find?_eq_some e, by simpa using List.find?_some e, h⟩

set_option maxRecDepth 100000 in
theorem rows_disjoint : rows.all (fun r => decide (r.fields.Pairwise (fun f g => f.lo + f.w ≤ g.lo ∨ g.lo + g.w ≤ f.lo)) &&
    r.fields.all (fun f => decide (f.lo + f.w ≤ 32))) = true := by
  decide +kernel

/-- Fields of a register do not overlap and end below bit 32. -/
theorem regFields_disjoint {a : Nat} {fs : List FieldDesc} (h : regFields a = some fs) :
    fs.Pairwise (fun f g => f.lo + f.w ≤ g.lo ∨ g.lo + g.w ≤ f.lo) ∧ ∀ f ∈ fs, f.lo + f.w ≤ 32 := by
  obtain ⟨r, hr, -, rfl⟩ := regFields_row h
  have := List.all_eq_true.1 rows_disjoint r hr
  simp only [Bool.and_eq_true, decide_eq_true_eq, List.all_eq_true] at this
  exact this

namespace Machine

/-- A plain register or a coefficient. -/
def plainOrCoef (a : Nat) : Bool := match actAt a with
  | .plain => true
  | .coef _ _ => true
  | _ => false

set_option maxRecDepth 100000 in
theorem rows_rwl : rows.all (fun r => r.fields.all (fun f => decide (f.acc ≠ .rwl)) || r.addrs.all plainOrCoef) = true := by
  decide +kernel

/-- A register with an RWL field is a plain register or a coefficient. -/
theorem rwl_plainOrCoef {a : Nat} {fs : List FieldDesc} {f : FieldDesc} (h : regFields a = some fs) (hf : f ∈ fs)
    (hl : f.acc = .rwl) : plainOrCoef a = true := by
  obtain ⟨r, hr, hc, rfl⟩ := regFields_row h
  have := List.all_eq_true.1 rows_rwl r hr
  rw [Bool.or_eq_true] at this
  rcases this with t | t
  · have := List.all_eq_true.1 t f hf; simp [hl] at this
  · exact List.all_eq_true.1 t a (RegDesc.covers_mem hc)

end Machine

end Sys2Proof
end

