-- ==== Sys2Proof/Laws/Mc.lean ====
section
/-! SUPPORT. Laws/Mc.lean: what a row of one ALU code does to the context that runs it. -/

namespace Sys2Proof.Machine

theorem State.mctx_mctxUp (s : State) (n : Nat) (f : CtxState → CtxState) : (s.mctxUp n f).mctx n = f (s.mctx n) := by
  unfold State.mctxUp State.mctx; exact Tbl.getD_putD_same ..

theorem CtxState.setReg_reg (c : CtxState) (k v j : Nat) : (c.setReg k v).reg j = if j = k then v % 2 ^ 64 else c.reg j := by
  unfold CtxState.setReg CtxState.reg
  cases hl : c.level <;> simp <;> split <;> simp_all [Tbl.getD_putD_same, Tbl.getD_putD_other]

@[simp] theorem CtxState.setReg_z (c : CtxState) (k v : Nat) : (c.setReg k v).z = c.z := by
  unfold CtxState.setReg; split <;> rfl
@[simp] theorem CtxState.setReg_n (c : CtxState) (k v : Nat) : (c.setReg k v).n = c.n := by
  unfold CtxState.setReg; split <;> rfl
@[simp] theorem CtxState.setReg_c (c : CtxState) (k v : Nat) : (c.setReg k v).c = c.c := by
  unfold CtxState.setReg; split <;> rfl

/-- A microword with no memory and no unit operation that goes on to the next one: registers and flags by its nanoword. -/
theorem State.mwRun_next (s : State) (n mw w : Nat) (h1 : Image.mwSeq mw = 0) (h2 : Image.nwMem w = 0) (h3 : Image.nwUnit w = 0) :
    ((s.turnOn n).mwRun n mw w false).mctx n =
      { ((s.mctx n).after w (s.cmd (s.mctx n).cmd).sqe (s.mctx n).memVal).stepOn w with upc := ((s.mctx n).upc + 1) % 2 ^ 14 } := by
  unfold State.mwRun
  simp only [h1, h2, h3]
  simp
  unfold State.mwApply
  simp only [h1, h2, h3]
  simp
  unfold State.mwNext State.unitOp
  simp only [h1, h3]
  simp
  rw [State.mctx_mctxUp, State.mctx_mctxUp]
  rfl

/-- Where a context runs a microword of the row's ALU code, the row's command is that run. -/
theorem State.mwOf_alu {s : State} {n op mw w a b : Nat} (h : s.AluRuns n op mw w a b) :
    s.mwOf n (fun _ _ w => nwAlu w == op) = (s.turnOn n).mwRun n mw w false := by
  obtain ⟨⟨m1, m2, m3, m4, m5, m6⟩, -, -, -, al, -⟩ := h
  unfold State.mwOf
  simp only [m1, m2, m3, m4, m5, al]
  simp
  intro h
  have : (s.turnOn n).mwIllegal (s.mctx n) mw w = s.mwIllegal (s.mctx n) mw w := rfl
  rw [this, m6] at h; cases h

end Sys2Proof.Machine
end

