-- ==== Sys2Proof/Laws/Pack.lean ====
section
/-! SUPPORT. Laws/Pack.lean: packed fields and CRCs stay in their widths, and a packed field reads back. -/

namespace Sys2Proof.Machine

theorem crc32Step_lt (c b : Nat) (h : c < 2 ^ 32) : Code.crc32Step c b < 2 ^ 32 := by
  unfold Code.crc32Step
  have : c / 2 < 2 ^ 32 := by omega
  split
  · exact Nat.xor_lt_two_pow this (by decide)
  · exact this

theorem crc32From_lt (n d c : Nat) (h : c < 2 ^ 32) : Code.crc32From n d c < 2 ^ 32 := by
  induction n generalizing d c with
  | zero => exact h
  | succ n ih => exact ih _ _ (crc32Step_lt _ _ h)

theorem crc32c_lt (n d : Nat) : Code.crc32c n d < 2 ^ 32 :=
  Nat.xor_lt_two_pow (crc32From_lt _ _ _ (by decide)) (by decide)

theorem pk_lt (l : List (Nat × Nat)) : pk l < 2 ^ (l.map (·.2)).sum := by
  induction l with
  | nil => simp [pk]
  | cons x t ih =>
    obtain ⟨v, w⟩ := x
    simp only [pk, List.map_cons, List.sum_cons, pow_add]
    have h1 : v % 2 ^ w < 2 ^ w := Nat.mod_lt _ (Nat.two_pow_pos w)
    nlinarith [Nat.two_pow_pos w, Nat.mul_le_mul_left (2 ^ w) (Nat.succ_le_of_lt ih)]

/-- The first field of a packed word. -/
theorem bitsOf_pack_first (v w x : Nat) : bitsOf (v % 2 ^ w + 2 ^ w * x) 0 w = v % 2 ^ w := by
  unfold bitsOf; simp

/-- A later field of a packed word. -/
theorem bitsOf_pack_rest (v w x lo w' : Nat) (h : w ≤ lo) : bitsOf (v % 2 ^ w + 2 ^ w * x) lo w' = bitsOf x (lo - w) w' := by
  obtain ⟨k, rfl⟩ := Nat.exists_eq_add_of_le h
  unfold bitsOf
  rw [Nat.add_sub_cancel_left, pow_add, ← Nat.div_div_eq_div_mul, Nat.add_mul_div_left _ _ (Nat.two_pow_pos w),
    Nat.div_eq_of_lt (Nat.mod_lt _ (Nat.two_pow_pos w)), Nat.zero_add]

end Sys2Proof.Machine
end

