-- ==== Sys2Proof/Laws/Step.lean ====
section
/-! SUPPORT. Laws/Step.lean: what a command and a step may touch, and what every step keeps. -/

namespace Sys2Proof.Machine

/-- Every command keeps to its parts. -/
theorem exec_fr (c : Instr) (s : State) : FrO (partsOf c) s (exec c s) := by
  match c with
  | .registerWrite .. => exact execRegisterWrite_fr
  | .rcRegisterRead .. => exact execRcRegisterRead_fr
  | .paceWindowEnd .. => exact execPaceWindowEnd_fr
  | .functionEnable .. => exact execFunctionEnable_fr
  | .functionDisable .. => exact execFunctionDisable_fr
  | .functionStartupDone .. => exact execFunctionStartupDone_fr
  | .functionShutdownDone .. => exact execFunctionShutdownDone_fr
  | .controlWriteFrame .. => exact execControlWriteFrame_fr
  | .controlReadFrame .. => exact execControlReadFrame_fr
  | .doorbellWrite .. => exact execDoorbellWrite_fr
  | .headselWrite .. => exact execHeadselWrite_fr
  | .headSelectApply .. => exact execHeadSelectApply_fr
  | .headSettleDone .. => exact execHeadSettleDone_fr
  | .preampAccess .. => exact execPreampAccess_fr
  | .preampReadResponse .. => exact execPreampReadResponse_fr
  | .preampTimeout .. => exact execPreampTimeout_fr
  | .preampFault .. => exact execPreampFault_fr
  | .sectorRead .. => exact execSectorRead_fr
  | .decodeDone .. => exact execDecodeDone_fr
  | .sectorWrite .. => exact execSectorWrite_fr
  | .smemDataRead .. => exact execSmemDataRead_fr
  | .ladderSectorStart .. => exact execLadderSectorStart_fr
  | .ladderDecodeDone .. => exact execLadderDecodeDone_fr
  | .ladderTimeLimit .. => exact execLadderTimeLimit_fr
  | .verifyDone .. => exact execVerifyDone_fr
  | .wedgeFastCheck .. => exact execWedgeFastCheck_fr
  | .wedgeOutputArrival .. => exact execWedgeOutputArrival_fr
  | .wedgeDeadline .. => exact execWedgeDeadline_fr
  | .seekStart .. => exact execSeekStart_fr
  | .settleTimeout .. => exact execSettleTimeout_fr
  | .accelSample .. => exact execAccelSample_fr
  | .accelSilent .. => exact execAccelSilent_fr
  | .load .. => exact execLoad_fr
  | .unload .. => exact execUnload_fr
  | .seek .. => exact execSeek_fr
  | .loadTimeout .. => exact execLoadTimeout_fr
  | .unloadTick .. => exact execUnloadTick_fr
  | .headsParked .. => exact execHeadsParked_fr
  | .unloadTimeout .. => exact execUnloadTimeout_fr
  | .unloadPushEnd .. => exact execUnloadPushEnd_fr
  | .svDrvFault .. => exact execSvDrvFault_fr
  | .testInjection .. => exact execTestInjection_fr
  | .captureArm .. => exact execCaptureArm_fr
  | .captureDataRead .. => exact execCaptureDataRead_fr
  | .runoutClear .. => exact execRunoutClear_fr
  | .runoutDataAccess .. => exact execRunoutDataAccess_fr
  | .coefWrite .. => exact execCoefWrite_fr
  | .pwmPeriod .. => exact execPwmPeriod_fr
  | .dutySetArrival .. => exact execDutySetArrival_fr
  | .pwmDeadline .. => exact execPwmDeadline_fr
  | .mpOvercurrent .. => exact execMpOvercurrent_fr
  | .spin .. => exact execSpin_fr
  | .stop .. => exact execStop_fr
  | .shortCmd .. => exact execShortCmd_fr
  | .spindleSpeedSample .. => exact execSpindleSpeedSample_fr
  | .spindleRegulated .. => exact execSpindleRegulated_fr
  | .spinupStart .. => exact execSpinupStart_fr
  | .rotorAngleFound .. => exact execRotorAngleFound_fr
  | .observerLock .. => exact execObserverLock_fr
  | .startAttemptFail .. => exact execStartAttemptFail_fr
  | .startRetry .. => exact execStartRetry_fr
  | .spinupTimeout .. => exact execSpinupTimeout_fr
  | .shortStandstill .. => exact execShortStandstill_fr
  | .chopperSwitch .. => exact execChopperSwitch_fr
  | .chopperCurrentTimeout .. => exact execChopperCurrentTimeout_fr
  | .chopperBusTimeout .. => exact execChopperBusTimeout_fr
  | .busOvervoltage .. => exact execBusOvervoltage_fr
  | .bemfZeroCrossing .. => exact execBemfZeroCrossing_fr
  | .reacqTimeout .. => exact execReacqTimeout_fr
  | .motorBusCollapse .. => exact execMotorBusCollapse_fr
  | .safeSpindleHoldEnd .. => exact execSafeSpindleHoldEnd_fr
  | .stripeWriteStart .. => exact execStripeWriteStart_fr
  | .stripWriteDone .. => exact execStripWriteDone_fr
  | .unavailTimeout .. => exact execUnavailTimeout_fr
  | .parityJobSubmit .. => exact execParityJobSubmit_fr
  | .parityJobDone .. => exact execParityJobDone_fr
  | .patternDataAccess .. => exact execPatternDataAccess_fr
  | .commitStart => exact execCommitStart_fr
  | .commitDurable .. => exact execCommitDurable_fr
  | .jdAccessTimeout .. => exact execJdAccessTimeout_fr
  | .jdDieFault .. => exact execJdDieFault_fr
  | .superblockWrite => exact execSuperblockWrite_fr
  | .jnResync => exact execJnResync_fr
  | .jnResyncDone => exact execJnResyncDone_fr
  | .jnFormat => exact execJnFormat_fr
  | .spillIndexWrite => exact execSpillIndexWrite_fr
  | .jnReplay .. => exact execJnReplay_fr
  | .slowTimeout .. => exact execSlowTimeout_fr
  | .rbFail .. => exact execRbFail_fr
  | .rbClear .. => exact execRbClear_fr
  | .rbReshape .. => exact execRbReshape_fr
  | .rbPause => exact execRbPause_fr
  | .rbResume => exact execRbResume_fr
  | .rbFtClear .. => exact execRbFtClear_fr
  | .rbForget .. => exact execRbForget_fr
  | .rebuildRowDone .. => exact execRebuildRowDone_fr
  | .reshapeStripeMoved .. => exact execReshapeStripeMoved_fr
  | .reshapeCheckpoint => exact execReshapeCheckpoint_fr
  | .ftDataRead => exact execFtDataRead_fr
  | .blockReceive .. => exact execBlockReceive_fr
  | .lcfReceive .. => exact execLcfReceive_fr
  | .replayTimeout .. => exact execReplayTimeout_fr
  | .portSignalDetect .. => exact execPortSignalDetect_fr
  | .rateTrialDone .. => exact execRateTrialDone_fr
  | .portTrained .. => exact execPortTrained_fr
  | .retrainW => exact execRetrainW_fr
  | .retrainE => exact execRetrainE_fr
  | .tapTrainingDone => exact execTapTrainingDone_fr
  | .lkShutdownDrain .. => exact execLkShutdownDrain_fr
  | .frameForward .. => exact execFrameForward_fr
  | .enumReceive .. => exact execEnumReceive_fr
  | .readCplReceive .. => exact execReadCplReceive_fr
  | .writeRspReceive .. => exact execWriteRspReceive_fr
  | .errorRspReceive .. => exact execErrorRspReceive_fr
  | .linkTransactionTimeout .. => exact execLinkTransactionTimeout_fr
  | .laneFail .. => exact execLaneFail_fr
  | .portDown .. => exact execPortDown_fr
  | .portRetry .. => exact execPortRetry_fr
  | .doorbellServe .. => exact execDoorbellServe_fr
  | .sqPiReadReturn .. => exact execSqPiReadReturn_fr
  | .cqCiReadReturn .. => exact execCqCiReadReturn_fr
  | .entryTaken .. => exact execEntryTaken_fr
  | .haltPark => exact execHaltPark_fr
  | .completionWrite .. => exact execCompletionWrite_fr
  | .interruptTimer .. => exact execInterruptTimer_fr
  | .qmRead => exact execQmRead_fr
  | .qmCreate => exact execQmCreate_fr
  | .qmRecover => exact execQmRecover_fr
  | .qmRecoverDone => exact execQmRecoverDone_fr
  | .qmDelete => exact execQmDelete_fr
  | .read .. => exact execRead_fr
  | .write .. => exact execWrite_fr
  | .readStream .. => exact execReadStream_fr
  | .flush .. => exact execFlush_fr
  | .flushDone .. => exact execFlushDone_fr
  | .verify .. => exact execVerify_fr
  | .deallocate .. => exact execDeallocate_fr
  | .writeZeroes .. => exact execWriteZeroes_fr
  | .volDefine .. => exact execVolDefine_fr
  | .volEnable .. => exact execVolEnable_fr
  | .volDisable .. => exact execVolDisable_fr
  | .patternLoad .. => exact execPatternLoad_fr
  | .memberFail .. => exact execMemberFail_fr
  | .memberClear .. => exact execMemberClear_fr
  | .reshape .. => exact execReshape_fr
  | .reshapePause .. => exact execReshapePause_fr
  | .reshapeResume .. => exact execReshapeResume_fr
  | .forfeitClear .. => exact execForfeitClear_fr
  | .volForget .. => exact execVolForget_fr
  | .identify .. => exact execIdentify_fr
  | .queueCreate .. => exact execQueueCreate_fr
  | .queueDelete .. => exact execQueueDelete_fr
  | .queueDeleteDone .. => exact execQueueDeleteDone_fr
  | .getLog .. => exact execGetLog_fr
  | .setFeature .. => exact execSetFeature_fr
  | .getFeature .. => exact execGetFeature_fr
  | .fwStage .. => exact execFwStage_fr
  | .fwActivate .. => exact execFwActivate_fr
  | .attest .. => exact execAttest_fr
  | .attestDone => exact execAttestDone_fr
  | .keyEnroll .. => exact execKeyEnroll_fr
  | .microLoad .. => exact execMicroLoad_fr
  | .abort .. => exact execAbort_fr
  | .actuatorSchedule .. => exact execActuatorSchedule_fr
  | .deadlineExpiry .. => exact execDeadlineExpiry_fr
  | .cmReset => exact execCmReset_fr
  | .cmResetComplete => exact execCmResetComplete_fr
  | .cmShutdownLimit => exact execCmShutdownLimit_fr
  | .activationDrainLimit => exact execActivationDrainLimit_fr
  | .activationSwitch => exact execActivationSwitch_fr
  | .activationDone => exact execActivationDone_fr
  | .cacheRead .. => exact execCacheRead_fr
  | .cacheWrite .. => exact execCacheWrite_fr
  | .mergeHoldExpiry .. => exact execMergeHoldExpiry_fr
  | .invalLine => exact execInvalLine_fr
  | .invalRange => exact execInvalRange_fr
  | .invalAll => exact execInvalAll_fr
  | .drain => exact execDrain_fr
  | .dmChGo .. => exact execDmChGo_fr
  | .dmaPause .. => exact execDmaPause_fr
  | .dmaUnpause .. => exact execDmaUnpause_fr
  | .shadowArm .. => exact execShadowArm_fr
  | .peripheralRequest .. => exact execPeripheralRequest_fr
  | .peripheralWithdraw .. => exact execPeripheralWithdraw_fr
  | .dmResume .. => exact execDmResume_fr
  | .faultTimerExpiry .. => exact execFaultTimerExpiry_fr
  | .hwtDataAccess .. => exact execHwtDataAccess_fr
  | .bufferRead .. => exact execBufferRead_fr
  | .scrubBurst .. => exact execScrubBurst_fr
  | .sramScrub .. => exact execSramScrub_fr
  | .edRebuildDone .. => exact execEdRebuildDone_fr
  | .mr4Poll .. => exact execMr4Poll_fr
  | .contextDispatch .. => exact execContextDispatch_fr
  | .microwordExecute .. => exact execMicrowordExecute_fr
  | .seqNext .. => exact execSeqNext_fr
  | .seqJump .. => exact execSeqJump_fr
  | .seqBranch .. => exact execSeqBranch_fr
  | .seqCall .. => exact execSeqCall_fr
  | .seqReturn .. => exact execSeqReturn_fr
  | .seqWait .. => exact execSeqWait_fr
  | .waitEventDone .. => exact execWaitEventDone_fr
  | .seqDispatch .. => exact execSeqDispatch_fr
  | .seqEnd .. => exact execSeqEnd_fr
  | .aluPass .. => exact execAluPass_fr
  | .aluAdd .. => exact execAluAdd_fr
  | .aluSub .. => exact execAluSub_fr
  | .aluAnd .. => exact execAluAnd_fr
  | .aluOr .. => exact execAluOr_fr
  | .aluXor .. => exact execAluXor_fr
  | .aluShl .. => exact execAluShl_fr
  | .aluShr .. => exact execAluShr_fr
  | .aluCmp .. => exact execAluCmp_fr
  | .aluCrc32c .. => exact execAluCrc32c_fr
  | .aluMin .. => exact execAluMin_fr
  | .aluMax .. => exact execAluMax_fr
  | .aluExtract .. => exact execAluExtract_fr
  | .aluMul .. => exact execAluMul_fr
  | .bufLoad .. => exact execBufLoad_fr
  | .bufStore .. => exact execBufStore_fr
  | .hostLoad .. => exact execHostLoad_fr
  | .hostStore .. => exact execHostStore_fr
  | .dmaClaim .. => exact execDmaClaim_fr
  | .unitDmaGo .. => exact execUnitDmaGo_fr
  | .unitDmaArm .. => exact execUnitDmaArm_fr
  | .dmaRelease .. => exact execDmaRelease_fr
  | .peSub .. => exact execPeSub_fr
  | .sreq .. => exact execSreq_fr
  | .setStatus .. => exact execSetStatus_fr
  | .park .. => exact execPark_fr
  | .frame .. => exact execFrame_fr
  | .tret .. => exact execTret_fr
  | .dmaAny .. => exact execDmaAny_fr
  | .jcommit .. => exact execJcommit_fr
  | .sched .. => exact execSched_fr
  | .volRead .. => exact execVolRead_fr
  | .volWrite .. => exact execVolWrite_fr
  | .volFlush .. => exact execVolFlush_fr
  | .vcrc .. => exact execVcrc_fr
  | .libraryUndefined .. => exact execLibraryUndefined_fr
  | .microImageInstall => exact execMicroImageInstall_fr
  | .ctxSnap => exact execCtxSnap_fr
  | .dispDataRead => exact execDispDataRead_fr
  | .storeDataRead => exact execStoreDataRead_fr
  | .powerOn .. => exact execPowerOn_fr
  | .feedLoss .. => exact execFeedLoss_fr
  | .feedReturn .. => exact execFeedReturn_fr
  | .feedOvervoltage .. => exact execFeedOvervoltage_fr
  | .feedOvRecover .. => exact execFeedOvRecover_fr
  | .powerFailSignal => exact execPowerFailSignal_fr
  | .powerDownComplete => exact execPowerDownComplete_fr
  | .holdupMeasure .. => exact execHoldupMeasure_fr
  | .chainFail .. => exact execChainFail_fr
  | .standbyRegulated .. => exact execStandbyRegulated_fr
  | .standbyTimeout => exact execStandbyTimeout_fr
  | .resyncTimer => exact execResyncTimer_fr
  | .resyncHoldDone .. => exact execResyncHoldDone_fr
  | .testStandby => exact execTestStandby_fr
  | .testStandbyLoadDone .. => exact execTestStandbyLoadDone_fr
  | .forceSwitch => exact execForceSwitch_fr
  | .pwResync => exact execPwResync_fr
  | .sfOverspeed .. => exact execSfOverspeed_fr
  | .vcmOvercurrent .. => exact execVcmOvercurrent_fr
  | .tempSample .. => exact execTempSample_fr
  | .heartbeat => exact execHeartbeat_fr
  | .heartbeatTimeout => exact execHeartbeatTimeout_fr
  | .retractHoldEnd => exact execRetractHoldEnd_fr
  | .selftest => exact execSelftest_fr
  | .selftestDone .. => exact execSelftestDone_fr
  | .clearCause => exact execClearCause_fr
  | .gotoService => exact execGotoService_fr
  | .gotoMaint => exact execGotoMaint_fr
  | .gotoRest => exact execGotoRest_fr
  | .safeRequest .. => exact execSafeRequest_fr
  | .timebaseSwitch => exact execTimebaseSwitch_fr
  | .idleTimerExpiry .. => exact execIdleTimerExpiry_fr
  | .idleStepDone => exact execIdleStepDone_fr
  | .demand => exact execDemand_fr
  | .restSpindlesStopped => exact execRestSpindlesStopped_fr
  | .restPowerOff => exact execRestPowerOff_fr
  | .wake .. => exact execWake_fr
  | .restExitComplete => exact execRestExitComplete_fr
  | .idleCfgWrite .. => exact execIdleCfgWrite_fr
  | .timeLoRead => exact execTimeLoRead_fr
  | .hourglassExpiry .. => exact execHourglassExpiry_fr
  | .faultAck .. => exact execFaultAck_fr
  | .faultPulseEnd .. => exact execFaultPulseEnd_fr
  | .deviceReset => exact execDeviceReset_fr
  | .resetPin .. => exact execResetPin_fr
  | .historySnap .. => exact execHistorySnap_fr
  | .historyClear .. => exact execHistoryClear_fr
  | .eventRecordWritten => exact execEventRecordWritten_fr
  | .rateTokenReturn .. => exact execRateTokenReturn_fr
  | .hoursUpdate => exact execHoursUpdate_fr
  | .clearFirst => exact execClearFirst_fr
  | .clearLast => exact execClearLast_fr
  | .eventReadData => exact execEventReadData_fr
  | .romBoot => exact execRomBoot_fr
  | .gate => exact execGate_fr
  | .gateComplete => exact execGateComplete_fr
  | .commitSvn => exact execCommitSvn_fr
  | .revokeVk0 => exact execRevokeVk0_fr
  | .storeOpDone => exact execStoreOpDone_fr
  | .storeTimeout => exact execStoreTimeout_fr
  | .bootRecordWrite => exact execBootRecordWrite_fr
  | .sigDataRead => exact execSigDataRead_fr
  | .preampFaultRelease .. => exact execPreampFaultRelease_fr
  | .pmShortRelease .. => exact execPmShortRelease_fr
  | .dmaBurstDone .. => exact execDmaBurstDone_fr
  | .backgroundWindowEnd => exact execBackgroundWindowEnd_fr
  | .laneLockLoss .. => exact execLaneLockLoss_fr
  | .holdupVoltageChange .. => exact execHoldupVoltageChange_fr
  | .commitSvnDone => exact execCommitSvnDone_fr
  | .evClearDone => exact execEvClearDone_fr
  | .crystalLock => exact execCrystalLock_fr

theorem exec_pending {c : Instr} {s t : State} (h : exec c s = .next t) : t.pending = s.pending := (exec_fr c s t h).pending

theorem exec_inv {c : Instr} {s t : State} (h : exec c s = .next t) (i : s.Inv) : t.Inv := (exec_fr c s t h).inv i

theorem step_empty {s : State} (h : s.pending = []) : step s = .next s.tick := by unfold step; rw [h]

theorem step_front (c : Instr) (rest : List Instr) (s : State) :
    step { s with pending := c :: rest } = exec c { s with pending := rest } := rfl

end Sys2Proof.Machine
end

