-- ==== Sys2Proof/Laws/Updates.lean ====
section
/-! SUPPORT. Laws/Updates.lean: one lemma per field per update: what an update of one part leaves in the others. -/

namespace Sys2Proof.Machine

@[simp] theorem State.wr_pending (s : State) (a : Nat) (v : Word) : (s.wr a v).pending = s.pending := rfl
@[simp] theorem State.wr_now (s : State) (a : Nat) (v : Word) : (s.wr a v).now = s.now := rfl
@[simp] theorem State.wr_freeCtr (s : State) (a : Nat) (v : Word) : (s.wr a v).freeCtr = s.freeCtr := rfl
@[simp] theorem State.wr_rdata (s : State) (a : Nat) (v : Word) : (s.wr a v).rdata = s.rdata := rfl
@[simp] theorem State.wr_sent (s : State) (a : Nat) (v : Word) : (s.wr a v).sent = s.sent := rfl
@[simp] theorem State.wr_ev (s : State) (a : Nat) (v : Word) : (s.wr a v).ev = s.ev := rfl
@[simp] theorem State.wr_unitT (s : State) (a : Nat) (v : Word) : (s.wr a v).unitT = s.unitT := rfl
@[simp] theorem State.wr_ft (s : State) (a : Nat) (v : Word) : (s.wr a v).ft = s.ft := rfl
@[simp] theorem State.wr_pw (s : State) (a : Nat) (v : Word) : (s.wr a v).pw = s.pw := rfl
@[simp] theorem State.wr_sf (s : State) (a : Nat) (v : Word) : (s.wr a v).sf = s.sf := rfl
@[simp] theorem State.wr_md (s : State) (a : Nat) (v : Word) : (s.wr a v).md = s.md := rfl
@[simp] theorem State.wr_chT (s : State) (a : Nat) (v : Word) : (s.wr a v).chT = s.chT := rfl
@[simp] theorem State.wr_paT (s : State) (a : Nat) (v : Word) : (s.wr a v).paT = s.paT := rfl
@[simp] theorem State.wr_ldT (s : State) (a : Nat) (v : Word) : (s.wr a v).ldT = s.ldT := rfl
@[simp] theorem State.wr_actT (s : State) (a : Nat) (v : Word) : (s.wr a v).actT = s.actT := rfl
@[simp] theorem State.wr_acc0 (s : State) (a : Nat) (v : Word) : (s.wr a v).acc0 = s.acc0 := rfl
@[simp] theorem State.wr_acc1 (s : State) (a : Nat) (v : Word) : (s.wr a v).acc1 = s.acc1 := rfl
@[simp] theorem State.wr_spT (s : State) (a : Nat) (v : Word) : (s.wr a v).spT = s.spT := rfl
@[simp] theorem State.wr_spWait (s : State) (a : Nat) (v : Word) : (s.wr a v).spWait = s.spWait := rfl
@[simp] theorem State.wr_ar (s : State) (a : Nat) (v : Word) : (s.wr a v).ar = s.ar := rfl
@[simp] theorem State.wr_jn (s : State) (a : Nat) (v : Word) : (s.wr a v).jn = s.jn := rfl
@[simp] theorem State.wr_rb (s : State) (a : Nat) (v : Word) : (s.wr a v).rb = s.rb := rfl
@[simp] theorem State.wr_lk (s : State) (a : Nat) (v : Word) : (s.wr a v).lk = s.lk := rfl
@[simp] theorem State.wr_qm (s : State) (a : Nat) (v : Word) : (s.wr a v).qm = s.qm := rfl
@[simp] theorem State.wr_cm (s : State) (a : Nat) (v : Word) : (s.wr a v).cm = s.cm := rfl
@[simp] theorem State.wr_hc (s : State) (a : Nat) (v : Word) : (s.wr a v).hc = s.hc := rfl
@[simp] theorem State.wr_dm (s : State) (a : Nat) (v : Word) : (s.wr a v).dm = s.dm := rfl
@[simp] theorem State.wr_bm (s : State) (a : Nat) (v : Word) : (s.wr a v).bm = s.bm := rfl
@[simp] theorem State.wr_mc (s : State) (a : Nat) (v : Word) : (s.wr a v).mc = s.mc := rfl
@[simp] theorem State.wr_bt (s : State) (a : Nat) (v : Word) : (s.wr a v).bt = s.bt := rfl

@[simp] theorem State.p_pending (s : State) (f : RF) (x : Nat) : (s.p f x).pending = s.pending := rfl
@[simp] theorem State.p_now (s : State) (f : RF) (x : Nat) : (s.p f x).now = s.now := rfl
@[simp] theorem State.p_freeCtr (s : State) (f : RF) (x : Nat) : (s.p f x).freeCtr = s.freeCtr := rfl
@[simp] theorem State.p_rdata (s : State) (f : RF) (x : Nat) : (s.p f x).rdata = s.rdata := rfl
@[simp] theorem State.p_sent (s : State) (f : RF) (x : Nat) : (s.p f x).sent = s.sent := rfl
@[simp] theorem State.p_ev (s : State) (f : RF) (x : Nat) : (s.p f x).ev = s.ev := rfl
@[simp] theorem State.p_unitT (s : State) (f : RF) (x : Nat) : (s.p f x).unitT = s.unitT := rfl
@[simp] theorem State.p_ft (s : State) (f : RF) (x : Nat) : (s.p f x).ft = s.ft := rfl
@[simp] theorem State.p_pw (s : State) (f : RF) (x : Nat) : (s.p f x).pw = s.pw := rfl
@[simp] theorem State.p_sf (s : State) (f : RF) (x : Nat) : (s.p f x).sf = s.sf := rfl
@[simp] theorem State.p_md (s : State) (f : RF) (x : Nat) : (s.p f x).md = s.md := rfl
@[simp] theorem State.p_chT (s : State) (f : RF) (x : Nat) : (s.p f x).chT = s.chT := rfl
@[simp] theorem State.p_paT (s : State) (f : RF) (x : Nat) : (s.p f x).paT = s.paT := rfl
@[simp] theorem State.p_ldT (s : State) (f : RF) (x : Nat) : (s.p f x).ldT = s.ldT := rfl
@[simp] theorem State.p_actT (s : State) (f : RF) (x : Nat) : (s.p f x).actT = s.actT := rfl
@[simp] theorem State.p_acc0 (s : State) (f : RF) (x : Nat) : (s.p f x).acc0 = s.acc0 := rfl
@[simp] theorem State.p_acc1 (s : State) (f : RF) (x : Nat) : (s.p f x).acc1 = s.acc1 := rfl
@[simp] theorem State.p_spT (s : State) (f : RF) (x : Nat) : (s.p f x).spT = s.spT := rfl
@[simp] theorem State.p_spWait (s : State) (f : RF) (x : Nat) : (s.p f x).spWait = s.spWait := rfl
@[simp] theorem State.p_ar (s : State) (f : RF) (x : Nat) : (s.p f x).ar = s.ar := rfl
@[simp] theorem State.p_jn (s : State) (f : RF) (x : Nat) : (s.p f x).jn = s.jn := rfl
@[simp] theorem State.p_rb (s : State) (f : RF) (x : Nat) : (s.p f x).rb = s.rb := rfl
@[simp] theorem State.p_lk (s : State) (f : RF) (x : Nat) : (s.p f x).lk = s.lk := rfl
@[simp] theorem State.p_qm (s : State) (f : RF) (x : Nat) : (s.p f x).qm = s.qm := rfl
@[simp] theorem State.p_cm (s : State) (f : RF) (x : Nat) : (s.p f x).cm = s.cm := rfl
@[simp] theorem State.p_hc (s : State) (f : RF) (x : Nat) : (s.p f x).hc = s.hc := rfl
@[simp] theorem State.p_dm (s : State) (f : RF) (x : Nat) : (s.p f x).dm = s.dm := rfl
@[simp] theorem State.p_bm (s : State) (f : RF) (x : Nat) : (s.p f x).bm = s.bm := rfl
@[simp] theorem State.p_mc (s : State) (f : RF) (x : Nat) : (s.p f x).mc = s.mc := rfl
@[simp] theorem State.p_bt (s : State) (f : RF) (x : Nat) : (s.p f x).bt = s.bt := rfl

@[simp] theorem State.chUp_pending (s : State) (i : Nat) (f : ChState → ChState) : (s.chUp i f).pending = s.pending := rfl
@[simp] theorem State.chUp_now (s : State) (i : Nat) (f : ChState → ChState) : (s.chUp i f).now = s.now := rfl
@[simp] theorem State.chUp_regs (s : State) (i : Nat) (f : ChState → ChState) : (s.chUp i f).regs = s.regs := rfl
@[simp] theorem State.chUp_freeCtr (s : State) (i : Nat) (f : ChState → ChState) : (s.chUp i f).freeCtr = s.freeCtr := rfl
@[simp] theorem State.chUp_rdata (s : State) (i : Nat) (f : ChState → ChState) : (s.chUp i f).rdata = s.rdata := rfl
@[simp] theorem State.chUp_sent (s : State) (i : Nat) (f : ChState → ChState) : (s.chUp i f).sent = s.sent := rfl
@[simp] theorem State.chUp_ev (s : State) (i : Nat) (f : ChState → ChState) : (s.chUp i f).ev = s.ev := rfl
@[simp] theorem State.chUp_unitT (s : State) (i : Nat) (f : ChState → ChState) : (s.chUp i f).unitT = s.unitT := rfl
@[simp] theorem State.chUp_ft (s : State) (i : Nat) (f : ChState → ChState) : (s.chUp i f).ft = s.ft := rfl
@[simp] theorem State.chUp_pw (s : State) (i : Nat) (f : ChState → ChState) : (s.chUp i f).pw = s.pw := rfl
@[simp] theorem State.chUp_sf (s : State) (i : Nat) (f : ChState → ChState) : (s.chUp i f).sf = s.sf := rfl
@[simp] theorem State.chUp_md (s : State) (i : Nat) (f : ChState → ChState) : (s.chUp i f).md = s.md := rfl
@[simp] theorem State.chUp_paT (s : State) (i : Nat) (f : ChState → ChState) : (s.chUp i f).paT = s.paT := rfl
@[simp] theorem State.chUp_ldT (s : State) (i : Nat) (f : ChState → ChState) : (s.chUp i f).ldT = s.ldT := rfl
@[simp] theorem State.chUp_actT (s : State) (i : Nat) (f : ChState → ChState) : (s.chUp i f).actT = s.actT := rfl
@[simp] theorem State.chUp_acc0 (s : State) (i : Nat) (f : ChState → ChState) : (s.chUp i f).acc0 = s.acc0 := rfl
@[simp] theorem State.chUp_acc1 (s : State) (i : Nat) (f : ChState → ChState) : (s.chUp i f).acc1 = s.acc1 := rfl
@[simp] theorem State.chUp_spT (s : State) (i : Nat) (f : ChState → ChState) : (s.chUp i f).spT = s.spT := rfl
@[simp] theorem State.chUp_spWait (s : State) (i : Nat) (f : ChState → ChState) : (s.chUp i f).spWait = s.spWait := rfl
@[simp] theorem State.chUp_ar (s : State) (i : Nat) (f : ChState → ChState) : (s.chUp i f).ar = s.ar := rfl
@[simp] theorem State.chUp_jn (s : State) (i : Nat) (f : ChState → ChState) : (s.chUp i f).jn = s.jn := rfl
@[simp] theorem State.chUp_rb (s : State) (i : Nat) (f : ChState → ChState) : (s.chUp i f).rb = s.rb := rfl
@[simp] theorem State.chUp_lk (s : State) (i : Nat) (f : ChState → ChState) : (s.chUp i f).lk = s.lk := rfl
@[simp] theorem State.chUp_qm (s : State) (i : Nat) (f : ChState → ChState) : (s.chUp i f).qm = s.qm := rfl
@[simp] theorem State.chUp_cm (s : State) (i : Nat) (f : ChState → ChState) : (s.chUp i f).cm = s.cm := rfl
@[simp] theorem State.chUp_hc (s : State) (i : Nat) (f : ChState → ChState) : (s.chUp i f).hc = s.hc := rfl
@[simp] theorem State.chUp_dm (s : State) (i : Nat) (f : ChState → ChState) : (s.chUp i f).dm = s.dm := rfl
@[simp] theorem State.chUp_bm (s : State) (i : Nat) (f : ChState → ChState) : (s.chUp i f).bm = s.bm := rfl
@[simp] theorem State.chUp_mc (s : State) (i : Nat) (f : ChState → ChState) : (s.chUp i f).mc = s.mc := rfl
@[simp] theorem State.chUp_bt (s : State) (i : Nat) (f : ChState → ChState) : (s.chUp i f).bt = s.bt := rfl
@[simp] theorem State.chUp_rd (s : State) (i : Nat) (f : ChState → ChState) (a : Nat) : (s.chUp i f).rd a = s.rd a := rfl
@[simp] theorem State.chUp_g (s : State) (i : Nat) (f : ChState → ChState) (r : RF) : (s.chUp i f).g r = s.g r := rfl
@[simp] theorem State.chUp_is (s : State) (i : Nat) (f : ChState → ChState) (r : RF) : (s.chUp i f).is r = s.is r := rfl
@[simp] theorem State.chUp_same (s : State) (i : Nat) (f : ChState → ChState) : (s.chUp i f).ch i = f (s.ch i) := Tbl.getD_putD_same ..
theorem State.chUp_other (s : State) (i : Nat) (f : ChState → ChState) {j : Nat} (h : j ≠ i) : (s.chUp i f).ch j = s.ch j := Tbl.getD_putD_other _ _ _ _ h

@[simp] theorem State.paUp_pending (s : State) (i : Nat) (f : PaState → PaState) : (s.paUp i f).pending = s.pending := rfl
@[simp] theorem State.paUp_now (s : State) (i : Nat) (f : PaState → PaState) : (s.paUp i f).now = s.now := rfl
@[simp] theorem State.paUp_regs (s : State) (i : Nat) (f : PaState → PaState) : (s.paUp i f).regs = s.regs := rfl
@[simp] theorem State.paUp_freeCtr (s : State) (i : Nat) (f : PaState → PaState) : (s.paUp i f).freeCtr = s.freeCtr := rfl
@[simp] theorem State.paUp_rdata (s : State) (i : Nat) (f : PaState → PaState) : (s.paUp i f).rdata = s.rdata := rfl
@[simp] theorem State.paUp_sent (s : State) (i : Nat) (f : PaState → PaState) : (s.paUp i f).sent = s.sent := rfl
@[simp] theorem State.paUp_ev (s : State) (i : Nat) (f : PaState → PaState) : (s.paUp i f).ev = s.ev := rfl
@[simp] theorem State.paUp_unitT (s : State) (i : Nat) (f : PaState → PaState) : (s.paUp i f).unitT = s.unitT := rfl
@[simp] theorem State.paUp_ft (s : State) (i : Nat) (f : PaState → PaState) : (s.paUp i f).ft = s.ft := rfl
@[simp] theorem State.paUp_pw (s : State) (i : Nat) (f : PaState → PaState) : (s.paUp i f).pw = s.pw := rfl
@[simp] theorem State.paUp_sf (s : State) (i : Nat) (f : PaState → PaState) : (s.paUp i f).sf = s.sf := rfl
@[simp] theorem State.paUp_md (s : State) (i : Nat) (f : PaState → PaState) : (s.paUp i f).md = s.md := rfl
@[simp] theorem State.paUp_chT (s : State) (i : Nat) (f : PaState → PaState) : (s.paUp i f).chT = s.chT := rfl
@[simp] theorem State.paUp_ldT (s : State) (i : Nat) (f : PaState → PaState) : (s.paUp i f).ldT = s.ldT := rfl
@[simp] theorem State.paUp_actT (s : State) (i : Nat) (f : PaState → PaState) : (s.paUp i f).actT = s.actT := rfl
@[simp] theorem State.paUp_acc0 (s : State) (i : Nat) (f : PaState → PaState) : (s.paUp i f).acc0 = s.acc0 := rfl
@[simp] theorem State.paUp_acc1 (s : State) (i : Nat) (f : PaState → PaState) : (s.paUp i f).acc1 = s.acc1 := rfl
@[simp] theorem State.paUp_spT (s : State) (i : Nat) (f : PaState → PaState) : (s.paUp i f).spT = s.spT := rfl
@[simp] theorem State.paUp_spWait (s : State) (i : Nat) (f : PaState → PaState) : (s.paUp i f).spWait = s.spWait := rfl
@[simp] theorem State.paUp_ar (s : State) (i : Nat) (f : PaState → PaState) : (s.paUp i f).ar = s.ar := rfl
@[simp] theorem State.paUp_jn (s : State) (i : Nat) (f : PaState → PaState) : (s.paUp i f).jn = s.jn := rfl
@[simp] theorem State.paUp_rb (s : State) (i : Nat) (f : PaState → PaState) : (s.paUp i f).rb = s.rb := rfl
@[simp] theorem State.paUp_lk (s : State) (i : Nat) (f : PaState → PaState) : (s.paUp i f).lk = s.lk := rfl
@[simp] theorem State.paUp_qm (s : State) (i : Nat) (f : PaState → PaState) : (s.paUp i f).qm = s.qm := rfl
@[simp] theorem State.paUp_cm (s : State) (i : Nat) (f : PaState → PaState) : (s.paUp i f).cm = s.cm := rfl
@[simp] theorem State.paUp_hc (s : State) (i : Nat) (f : PaState → PaState) : (s.paUp i f).hc = s.hc := rfl
@[simp] theorem State.paUp_dm (s : State) (i : Nat) (f : PaState → PaState) : (s.paUp i f).dm = s.dm := rfl
@[simp] theorem State.paUp_bm (s : State) (i : Nat) (f : PaState → PaState) : (s.paUp i f).bm = s.bm := rfl
@[simp] theorem State.paUp_mc (s : State) (i : Nat) (f : PaState → PaState) : (s.paUp i f).mc = s.mc := rfl
@[simp] theorem State.paUp_bt (s : State) (i : Nat) (f : PaState → PaState) : (s.paUp i f).bt = s.bt := rfl
@[simp] theorem State.paUp_rd (s : State) (i : Nat) (f : PaState → PaState) (a : Nat) : (s.paUp i f).rd a = s.rd a := rfl
@[simp] theorem State.paUp_g (s : State) (i : Nat) (f : PaState → PaState) (r : RF) : (s.paUp i f).g r = s.g r := rfl
@[simp] theorem State.paUp_is (s : State) (i : Nat) (f : PaState → PaState) (r : RF) : (s.paUp i f).is r = s.is r := rfl
@[simp] theorem State.paUp_same (s : State) (i : Nat) (f : PaState → PaState) : (s.paUp i f).pa i = f (s.pa i) := Tbl.getD_putD_same ..
theorem State.paUp_other (s : State) (i : Nat) (f : PaState → PaState) {j : Nat} (h : j ≠ i) : (s.paUp i f).pa j = s.pa j := Tbl.getD_putD_other _ _ _ _ h

@[simp] theorem State.ldUp_pending (s : State) (i : Nat) (f : LdState → LdState) : (s.ldUp i f).pending = s.pending := rfl
@[simp] theorem State.ldUp_now (s : State) (i : Nat) (f : LdState → LdState) : (s.ldUp i f).now = s.now := rfl
@[simp] theorem State.ldUp_regs (s : State) (i : Nat) (f : LdState → LdState) : (s.ldUp i f).regs = s.regs := rfl
@[simp] theorem State.ldUp_freeCtr (s : State) (i : Nat) (f : LdState → LdState) : (s.ldUp i f).freeCtr = s.freeCtr := rfl
@[simp] theorem State.ldUp_rdata (s : State) (i : Nat) (f : LdState → LdState) : (s.ldUp i f).rdata = s.rdata := rfl
@[simp] theorem State.ldUp_sent (s : State) (i : Nat) (f : LdState → LdState) : (s.ldUp i f).sent = s.sent := rfl
@[simp] theorem State.ldUp_ev (s : State) (i : Nat) (f : LdState → LdState) : (s.ldUp i f).ev = s.ev := rfl
@[simp] theorem State.ldUp_unitT (s : State) (i : Nat) (f : LdState → LdState) : (s.ldUp i f).unitT = s.unitT := rfl
@[simp] theorem State.ldUp_ft (s : State) (i : Nat) (f : LdState → LdState) : (s.ldUp i f).ft = s.ft := rfl
@[simp] theorem State.ldUp_pw (s : State) (i : Nat) (f : LdState → LdState) : (s.ldUp i f).pw = s.pw := rfl
@[simp] theorem State.ldUp_sf (s : State) (i : Nat) (f : LdState → LdState) : (s.ldUp i f).sf = s.sf := rfl
@[simp] theorem State.ldUp_md (s : State) (i : Nat) (f : LdState → LdState) : (s.ldUp i f).md = s.md := rfl
@[simp] theorem State.ldUp_chT (s : State) (i : Nat) (f : LdState → LdState) : (s.ldUp i f).chT = s.chT := rfl
@[simp] theorem State.ldUp_paT (s : State) (i : Nat) (f : LdState → LdState) : (s.ldUp i f).paT = s.paT := rfl
@[simp] theorem State.ldUp_actT (s : State) (i : Nat) (f : LdState → LdState) : (s.ldUp i f).actT = s.actT := rfl
@[simp] theorem State.ldUp_acc0 (s : State) (i : Nat) (f : LdState → LdState) : (s.ldUp i f).acc0 = s.acc0 := rfl
@[simp] theorem State.ldUp_acc1 (s : State) (i : Nat) (f : LdState → LdState) : (s.ldUp i f).acc1 = s.acc1 := rfl
@[simp] theorem State.ldUp_spT (s : State) (i : Nat) (f : LdState → LdState) : (s.ldUp i f).spT = s.spT := rfl
@[simp] theorem State.ldUp_spWait (s : State) (i : Nat) (f : LdState → LdState) : (s.ldUp i f).spWait = s.spWait := rfl
@[simp] theorem State.ldUp_ar (s : State) (i : Nat) (f : LdState → LdState) : (s.ldUp i f).ar = s.ar := rfl
@[simp] theorem State.ldUp_jn (s : State) (i : Nat) (f : LdState → LdState) : (s.ldUp i f).jn = s.jn := rfl
@[simp] theorem State.ldUp_rb (s : State) (i : Nat) (f : LdState → LdState) : (s.ldUp i f).rb = s.rb := rfl
@[simp] theorem State.ldUp_lk (s : State) (i : Nat) (f : LdState → LdState) : (s.ldUp i f).lk = s.lk := rfl
@[simp] theorem State.ldUp_qm (s : State) (i : Nat) (f : LdState → LdState) : (s.ldUp i f).qm = s.qm := rfl
@[simp] theorem State.ldUp_cm (s : State) (i : Nat) (f : LdState → LdState) : (s.ldUp i f).cm = s.cm := rfl
@[simp] theorem State.ldUp_hc (s : State) (i : Nat) (f : LdState → LdState) : (s.ldUp i f).hc = s.hc := rfl
@[simp] theorem State.ldUp_dm (s : State) (i : Nat) (f : LdState → LdState) : (s.ldUp i f).dm = s.dm := rfl
@[simp] theorem State.ldUp_bm (s : State) (i : Nat) (f : LdState → LdState) : (s.ldUp i f).bm = s.bm := rfl
@[simp] theorem State.ldUp_mc (s : State) (i : Nat) (f : LdState → LdState) : (s.ldUp i f).mc = s.mc := rfl
@[simp] theorem State.ldUp_bt (s : State) (i : Nat) (f : LdState → LdState) : (s.ldUp i f).bt = s.bt := rfl
@[simp] theorem State.ldUp_rd (s : State) (i : Nat) (f : LdState → LdState) (a : Nat) : (s.ldUp i f).rd a = s.rd a := rfl
@[simp] theorem State.ldUp_g (s : State) (i : Nat) (f : LdState → LdState) (r : RF) : (s.ldUp i f).g r = s.g r := rfl
@[simp] theorem State.ldUp_is (s : State) (i : Nat) (f : LdState → LdState) (r : RF) : (s.ldUp i f).is r = s.is r := rfl
@[simp] theorem State.ldUp_same (s : State) (i : Nat) (f : LdState → LdState) : (s.ldUp i f).ld i = f (s.ld i) := Tbl.getD_putD_same ..
theorem State.ldUp_other (s : State) (i : Nat) (f : LdState → LdState) {j : Nat} (h : j ≠ i) : (s.ldUp i f).ld j = s.ld j := Tbl.getD_putD_other _ _ _ _ h

@[simp] theorem State.actUp_pending (s : State) (i : Nat) (f : ActState → ActState) : (s.actUp i f).pending = s.pending := rfl
@[simp] theorem State.actUp_now (s : State) (i : Nat) (f : ActState → ActState) : (s.actUp i f).now = s.now := rfl
@[simp] theorem State.actUp_regs (s : State) (i : Nat) (f : ActState → ActState) : (s.actUp i f).regs = s.regs := rfl
@[simp] theorem State.actUp_freeCtr (s : State) (i : Nat) (f : ActState → ActState) : (s.actUp i f).freeCtr = s.freeCtr := rfl
@[simp] theorem State.actUp_rdata (s : State) (i : Nat) (f : ActState → ActState) : (s.actUp i f).rdata = s.rdata := rfl
@[simp] theorem State.actUp_sent (s : State) (i : Nat) (f : ActState → ActState) : (s.actUp i f).sent = s.sent := rfl
@[simp] theorem State.actUp_ev (s : State) (i : Nat) (f : ActState → ActState) : (s.actUp i f).ev = s.ev := rfl
@[simp] theorem State.actUp_unitT (s : State) (i : Nat) (f : ActState → ActState) : (s.actUp i f).unitT = s.unitT := rfl
@[simp] theorem State.actUp_ft (s : State) (i : Nat) (f : ActState → ActState) : (s.actUp i f).ft = s.ft := rfl
@[simp] theorem State.actUp_pw (s : State) (i : Nat) (f : ActState → ActState) : (s.actUp i f).pw = s.pw := rfl
@[simp] theorem State.actUp_sf (s : State) (i : Nat) (f : ActState → ActState) : (s.actUp i f).sf = s.sf := rfl
@[simp] theorem State.actUp_md (s : State) (i : Nat) (f : ActState → ActState) : (s.actUp i f).md = s.md := rfl
@[simp] theorem State.actUp_chT (s : State) (i : Nat) (f : ActState → ActState) : (s.actUp i f).chT = s.chT := rfl
@[simp] theorem State.actUp_paT (s : State) (i : Nat) (f : ActState → ActState) : (s.actUp i f).paT = s.paT := rfl
@[simp] theorem State.actUp_ldT (s : State) (i : Nat) (f : ActState → ActState) : (s.actUp i f).ldT = s.ldT := rfl
@[simp] theorem State.actUp_acc0 (s : State) (i : Nat) (f : ActState → ActState) : (s.actUp i f).acc0 = s.acc0 := rfl
@[simp] theorem State.actUp_acc1 (s : State) (i : Nat) (f : ActState → ActState) : (s.actUp i f).acc1 = s.acc1 := rfl
@[simp] theorem State.actUp_spT (s : State) (i : Nat) (f : ActState → ActState) : (s.actUp i f).spT = s.spT := rfl
@[simp] theorem State.actUp_spWait (s : State) (i : Nat) (f : ActState → ActState) : (s.actUp i f).spWait = s.spWait := rfl
@[simp] theorem State.actUp_ar (s : State) (i : Nat) (f : ActState → ActState) : (s.actUp i f).ar = s.ar := rfl
@[simp] theorem State.actUp_jn (s : State) (i : Nat) (f : ActState → ActState) : (s.actUp i f).jn = s.jn := rfl
@[simp] theorem State.actUp_rb (s : State) (i : Nat) (f : ActState → ActState) : (s.actUp i f).rb = s.rb := rfl
@[simp] theorem State.actUp_lk (s : State) (i : Nat) (f : ActState → ActState) : (s.actUp i f).lk = s.lk := rfl
@[simp] theorem State.actUp_qm (s : State) (i : Nat) (f : ActState → ActState) : (s.actUp i f).qm = s.qm := rfl
@[simp] theorem State.actUp_cm (s : State) (i : Nat) (f : ActState → ActState) : (s.actUp i f).cm = s.cm := rfl
@[simp] theorem State.actUp_hc (s : State) (i : Nat) (f : ActState → ActState) : (s.actUp i f).hc = s.hc := rfl
@[simp] theorem State.actUp_dm (s : State) (i : Nat) (f : ActState → ActState) : (s.actUp i f).dm = s.dm := rfl
@[simp] theorem State.actUp_bm (s : State) (i : Nat) (f : ActState → ActState) : (s.actUp i f).bm = s.bm := rfl
@[simp] theorem State.actUp_mc (s : State) (i : Nat) (f : ActState → ActState) : (s.actUp i f).mc = s.mc := rfl
@[simp] theorem State.actUp_bt (s : State) (i : Nat) (f : ActState → ActState) : (s.actUp i f).bt = s.bt := rfl
@[simp] theorem State.actUp_rd (s : State) (i : Nat) (f : ActState → ActState) (a : Nat) : (s.actUp i f).rd a = s.rd a := rfl
@[simp] theorem State.actUp_g (s : State) (i : Nat) (f : ActState → ActState) (r : RF) : (s.actUp i f).g r = s.g r := rfl
@[simp] theorem State.actUp_is (s : State) (i : Nat) (f : ActState → ActState) (r : RF) : (s.actUp i f).is r = s.is r := rfl
@[simp] theorem State.actUp_same (s : State) (i : Nat) (f : ActState → ActState) : (s.actUp i f).act i = f (s.act i) := Tbl.getD_putD_same ..
theorem State.actUp_other (s : State) (i : Nat) (f : ActState → ActState) {j : Nat} (h : j ≠ i) : (s.actUp i f).act j = s.act j := Tbl.getD_putD_other _ _ _ _ h

@[simp] theorem State.spUp_pending (s : State) (i : Nat) (f : SpState → SpState) : (s.spUp i f).pending = s.pending := rfl
@[simp] theorem State.spUp_now (s : State) (i : Nat) (f : SpState → SpState) : (s.spUp i f).now = s.now := rfl
@[simp] theorem State.spUp_regs (s : State) (i : Nat) (f : SpState → SpState) : (s.spUp i f).regs = s.regs := rfl
@[simp] theorem State.spUp_freeCtr (s : State) (i : Nat) (f : SpState → SpState) : (s.spUp i f).freeCtr = s.freeCtr := rfl
@[simp] theorem State.spUp_rdata (s : State) (i : Nat) (f : SpState → SpState) : (s.spUp i f).rdata = s.rdata := rfl
@[simp] theorem State.spUp_sent (s : State) (i : Nat) (f : SpState → SpState) : (s.spUp i f).sent = s.sent := rfl
@[simp] theorem State.spUp_ev (s : State) (i : Nat) (f : SpState → SpState) : (s.spUp i f).ev = s.ev := rfl
@[simp] theorem State.spUp_unitT (s : State) (i : Nat) (f : SpState → SpState) : (s.spUp i f).unitT = s.unitT := rfl
@[simp] theorem State.spUp_ft (s : State) (i : Nat) (f : SpState → SpState) : (s.spUp i f).ft = s.ft := rfl
@[simp] theorem State.spUp_pw (s : State) (i : Nat) (f : SpState → SpState) : (s.spUp i f).pw = s.pw := rfl
@[simp] theorem State.spUp_sf (s : State) (i : Nat) (f : SpState → SpState) : (s.spUp i f).sf = s.sf := rfl
@[simp] theorem State.spUp_md (s : State) (i : Nat) (f : SpState → SpState) : (s.spUp i f).md = s.md := rfl
@[simp] theorem State.spUp_chT (s : State) (i : Nat) (f : SpState → SpState) : (s.spUp i f).chT = s.chT := rfl
@[simp] theorem State.spUp_paT (s : State) (i : Nat) (f : SpState → SpState) : (s.spUp i f).paT = s.paT := rfl
@[simp] theorem State.spUp_ldT (s : State) (i : Nat) (f : SpState → SpState) : (s.spUp i f).ldT = s.ldT := rfl
@[simp] theorem State.spUp_actT (s : State) (i : Nat) (f : SpState → SpState) : (s.spUp i f).actT = s.actT := rfl
@[simp] theorem State.spUp_acc0 (s : State) (i : Nat) (f : SpState → SpState) : (s.spUp i f).acc0 = s.acc0 := rfl
@[simp] theorem State.spUp_acc1 (s : State) (i : Nat) (f : SpState → SpState) : (s.spUp i f).acc1 = s.acc1 := rfl
@[simp] theorem State.spUp_spWait (s : State) (i : Nat) (f : SpState → SpState) : (s.spUp i f).spWait = s.spWait := rfl
@[simp] theorem State.spUp_ar (s : State) (i : Nat) (f : SpState → SpState) : (s.spUp i f).ar = s.ar := rfl
@[simp] theorem State.spUp_jn (s : State) (i : Nat) (f : SpState → SpState) : (s.spUp i f).jn = s.jn := rfl
@[simp] theorem State.spUp_rb (s : State) (i : Nat) (f : SpState → SpState) : (s.spUp i f).rb = s.rb := rfl
@[simp] theorem State.spUp_lk (s : State) (i : Nat) (f : SpState → SpState) : (s.spUp i f).lk = s.lk := rfl
@[simp] theorem State.spUp_qm (s : State) (i : Nat) (f : SpState → SpState) : (s.spUp i f).qm = s.qm := rfl
@[simp] theorem State.spUp_cm (s : State) (i : Nat) (f : SpState → SpState) : (s.spUp i f).cm = s.cm := rfl
@[simp] theorem State.spUp_hc (s : State) (i : Nat) (f : SpState → SpState) : (s.spUp i f).hc = s.hc := rfl
@[simp] theorem State.spUp_dm (s : State) (i : Nat) (f : SpState → SpState) : (s.spUp i f).dm = s.dm := rfl
@[simp] theorem State.spUp_bm (s : State) (i : Nat) (f : SpState → SpState) : (s.spUp i f).bm = s.bm := rfl
@[simp] theorem State.spUp_mc (s : State) (i : Nat) (f : SpState → SpState) : (s.spUp i f).mc = s.mc := rfl
@[simp] theorem State.spUp_bt (s : State) (i : Nat) (f : SpState → SpState) : (s.spUp i f).bt = s.bt := rfl
@[simp] theorem State.spUp_rd (s : State) (i : Nat) (f : SpState → SpState) (a : Nat) : (s.spUp i f).rd a = s.rd a := rfl
@[simp] theorem State.spUp_g (s : State) (i : Nat) (f : SpState → SpState) (r : RF) : (s.spUp i f).g r = s.g r := rfl
@[simp] theorem State.spUp_is (s : State) (i : Nat) (f : SpState → SpState) (r : RF) : (s.spUp i f).is r = s.is r := rfl
@[simp] theorem State.spUp_same (s : State) (i : Nat) (f : SpState → SpState) : (s.spUp i f).sp i = f (s.sp i) := Tbl.getD_putD_same ..
theorem State.spUp_other (s : State) (i : Nat) (f : SpState → SpState) {j : Nat} (h : j ≠ i) : (s.spUp i f).sp j = s.sp j := Tbl.getD_putD_other _ _ _ _ h

@[simp] theorem State.unitUp_pending (s : State) (i : Nat) (f : UnitState → UnitState) : (s.unitUp i f).pending = s.pending := rfl
@[simp] theorem State.unitUp_now (s : State) (i : Nat) (f : UnitState → UnitState) : (s.unitUp i f).now = s.now := rfl
@[simp] theorem State.unitUp_regs (s : State) (i : Nat) (f : UnitState → UnitState) : (s.unitUp i f).regs = s.regs := rfl
@[simp] theorem State.unitUp_freeCtr (s : State) (i : Nat) (f : UnitState → UnitState) : (s.unitUp i f).freeCtr = s.freeCtr := rfl
@[simp] theorem State.unitUp_rdata (s : State) (i : Nat) (f : UnitState → UnitState) : (s.unitUp i f).rdata = s.rdata := rfl
@[simp] theorem State.unitUp_sent (s : State) (i : Nat) (f : UnitState → UnitState) : (s.unitUp i f).sent = s.sent := rfl
@[simp] theorem State.unitUp_ev (s : State) (i : Nat) (f : UnitState → UnitState) : (s.unitUp i f).ev = s.ev := rfl
@[simp] theorem State.unitUp_ft (s : State) (i : Nat) (f : UnitState → UnitState) : (s.unitUp i f).ft = s.ft := rfl
@[simp] theorem State.unitUp_pw (s : State) (i : Nat) (f : UnitState → UnitState) : (s.unitUp i f).pw = s.pw := rfl
@[simp] theorem State.unitUp_sf (s : State) (i : Nat) (f : UnitState → UnitState) : (s.unitUp i f).sf = s.sf := rfl
@[simp] theorem State.unitUp_md (s : State) (i : Nat) (f : UnitState → UnitState) : (s.unitUp i f).md = s.md := rfl
@[simp] theorem State.unitUp_chT (s : State) (i : Nat) (f : UnitState → UnitState) : (s.unitUp i f).chT = s.chT := rfl
@[simp] theorem State.unitUp_paT (s : State) (i : Nat) (f : UnitState → UnitState) : (s.unitUp i f).paT = s.paT := rfl
@[simp] theorem State.unitUp_ldT (s : State) (i : Nat) (f : UnitState → UnitState) : (s.unitUp i f).ldT = s.ldT := rfl
@[simp] theorem State.unitUp_actT (s : State) (i : Nat) (f : UnitState → UnitState) : (s.unitUp i f).actT = s.actT := rfl
@[simp] theorem State.unitUp_acc0 (s : State) (i : Nat) (f : UnitState → UnitState) : (s.unitUp i f).acc0 = s.acc0 := rfl
@[simp] theorem State.unitUp_acc1 (s : State) (i : Nat) (f : UnitState → UnitState) : (s.unitUp i f).acc1 = s.acc1 := rfl
@[simp] theorem State.unitUp_spT (s : State) (i : Nat) (f : UnitState → UnitState) : (s.unitUp i f).spT = s.spT := rfl
@[simp] theorem State.unitUp_spWait (s : State) (i : Nat) (f : UnitState → UnitState) : (s.unitUp i f).spWait = s.spWait := rfl
@[simp] theorem State.unitUp_ar (s : State) (i : Nat) (f : UnitState → UnitState) : (s.unitUp i f).ar = s.ar := rfl
@[simp] theorem State.unitUp_jn (s : State) (i : Nat) (f : UnitState → UnitState) : (s.unitUp i f).jn = s.jn := rfl
@[simp] theorem State.unitUp_rb (s : State) (i : Nat) (f : UnitState → UnitState) : (s.unitUp i f).rb = s.rb := rfl
@[simp] theorem State.unitUp_lk (s : State) (i : Nat) (f : UnitState → UnitState) : (s.unitUp i f).lk = s.lk := rfl
@[simp] theorem State.unitUp_qm (s : State) (i : Nat) (f : UnitState → UnitState) : (s.unitUp i f).qm = s.qm := rfl
@[simp] theorem State.unitUp_cm (s : State) (i : Nat) (f : UnitState → UnitState) : (s.unitUp i f).cm = s.cm := rfl
@[simp] theorem State.unitUp_hc (s : State) (i : Nat) (f : UnitState → UnitState) : (s.unitUp i f).hc = s.hc := rfl
@[simp] theorem State.unitUp_dm (s : State) (i : Nat) (f : UnitState → UnitState) : (s.unitUp i f).dm = s.dm := rfl
@[simp] theorem State.unitUp_bm (s : State) (i : Nat) (f : UnitState → UnitState) : (s.unitUp i f).bm = s.bm := rfl
@[simp] theorem State.unitUp_mc (s : State) (i : Nat) (f : UnitState → UnitState) : (s.unitUp i f).mc = s.mc := rfl
@[simp] theorem State.unitUp_bt (s : State) (i : Nat) (f : UnitState → UnitState) : (s.unitUp i f).bt = s.bt := rfl
@[simp] theorem State.unitUp_rd (s : State) (i : Nat) (f : UnitState → UnitState) (a : Nat) : (s.unitUp i f).rd a = s.rd a := rfl
@[simp] theorem State.unitUp_g (s : State) (i : Nat) (f : UnitState → UnitState) (r : RF) : (s.unitUp i f).g r = s.g r := rfl
@[simp] theorem State.unitUp_is (s : State) (i : Nat) (f : UnitState → UnitState) (r : RF) : (s.unitUp i f).is r = s.is r := rfl
@[simp] theorem State.unitUp_same (s : State) (i : Nat) (f : UnitState → UnitState) : (s.unitUp i f).unit i = f (s.unit i) := Tbl.getD_putD_same ..
theorem State.unitUp_other (s : State) (i : Nat) (f : UnitState → UnitState) {j : Nat} (h : j ≠ i) : (s.unitUp i f).unit j = s.unit j := Tbl.getD_putD_other _ _ _ _ h

@[simp] theorem State.portUp_pending (s : State) (i : Nat) (f : PortState → PortState) : (s.portUp i f).pending = s.pending := rfl
@[simp] theorem State.portUp_now (s : State) (i : Nat) (f : PortState → PortState) : (s.portUp i f).now = s.now := rfl
@[simp] theorem State.portUp_regs (s : State) (i : Nat) (f : PortState → PortState) : (s.portUp i f).regs = s.regs := rfl
@[simp] theorem State.portUp_freeCtr (s : State) (i : Nat) (f : PortState → PortState) : (s.portUp i f).freeCtr = s.freeCtr := rfl
@[simp] theorem State.portUp_rdata (s : State) (i : Nat) (f : PortState → PortState) : (s.portUp i f).rdata = s.rdata := rfl
@[simp] theorem State.portUp_sent (s : State) (i : Nat) (f : PortState → PortState) : (s.portUp i f).sent = s.sent := rfl
@[simp] theorem State.portUp_ev (s : State) (i : Nat) (f : PortState → PortState) : (s.portUp i f).ev = s.ev := rfl
@[simp] theorem State.portUp_unitT (s : State) (i : Nat) (f : PortState → PortState) : (s.portUp i f).unitT = s.unitT := rfl
@[simp] theorem State.portUp_ft (s : State) (i : Nat) (f : PortState → PortState) : (s.portUp i f).ft = s.ft := rfl
@[simp] theorem State.portUp_pw (s : State) (i : Nat) (f : PortState → PortState) : (s.portUp i f).pw = s.pw := rfl
@[simp] theorem State.portUp_sf (s : State) (i : Nat) (f : PortState → PortState) : (s.portUp i f).sf = s.sf := rfl
@[simp] theorem State.portUp_md (s : State) (i : Nat) (f : PortState → PortState) : (s.portUp i f).md = s.md := rfl
@[simp] theorem State.portUp_chT (s : State) (i : Nat) (f : PortState → PortState) : (s.portUp i f).chT = s.chT := rfl
@[simp] theorem State.portUp_paT (s : State) (i : Nat) (f : PortState → PortState) : (s.portUp i f).paT = s.paT := rfl
@[simp] theorem State.portUp_ldT (s : State) (i : Nat) (f : PortState → PortState) : (s.portUp i f).ldT = s.ldT := rfl
@[simp] theorem State.portUp_actT (s : State) (i : Nat) (f : PortState → PortState) : (s.portUp i f).actT = s.actT := rfl
@[simp] theorem State.portUp_acc0 (s : State) (i : Nat) (f : PortState → PortState) : (s.portUp i f).acc0 = s.acc0 := rfl
@[simp] theorem State.portUp_acc1 (s : State) (i : Nat) (f : PortState → PortState) : (s.portUp i f).acc1 = s.acc1 := rfl
@[simp] theorem State.portUp_spT (s : State) (i : Nat) (f : PortState → PortState) : (s.portUp i f).spT = s.spT := rfl
@[simp] theorem State.portUp_spWait (s : State) (i : Nat) (f : PortState → PortState) : (s.portUp i f).spWait = s.spWait := rfl
@[simp] theorem State.portUp_ar (s : State) (i : Nat) (f : PortState → PortState) : (s.portUp i f).ar = s.ar := rfl
@[simp] theorem State.portUp_jn (s : State) (i : Nat) (f : PortState → PortState) : (s.portUp i f).jn = s.jn := rfl
@[simp] theorem State.portUp_rb (s : State) (i : Nat) (f : PortState → PortState) : (s.portUp i f).rb = s.rb := rfl
@[simp] theorem State.portUp_qm (s : State) (i : Nat) (f : PortState → PortState) : (s.portUp i f).qm = s.qm := rfl
@[simp] theorem State.portUp_cm (s : State) (i : Nat) (f : PortState → PortState) : (s.portUp i f).cm = s.cm := rfl
@[simp] theorem State.portUp_hc (s : State) (i : Nat) (f : PortState → PortState) : (s.portUp i f).hc = s.hc := rfl
@[simp] theorem State.portUp_dm (s : State) (i : Nat) (f : PortState → PortState) : (s.portUp i f).dm = s.dm := rfl
@[simp] theorem State.portUp_bm (s : State) (i : Nat) (f : PortState → PortState) : (s.portUp i f).bm = s.bm := rfl
@[simp] theorem State.portUp_mc (s : State) (i : Nat) (f : PortState → PortState) : (s.portUp i f).mc = s.mc := rfl
@[simp] theorem State.portUp_bt (s : State) (i : Nat) (f : PortState → PortState) : (s.portUp i f).bt = s.bt := rfl
@[simp] theorem State.portUp_rd (s : State) (i : Nat) (f : PortState → PortState) (a : Nat) : (s.portUp i f).rd a = s.rd a := rfl
@[simp] theorem State.portUp_g (s : State) (i : Nat) (f : PortState → PortState) (r : RF) : (s.portUp i f).g r = s.g r := rfl
@[simp] theorem State.portUp_is (s : State) (i : Nat) (f : PortState → PortState) (r : RF) : (s.portUp i f).is r = s.is r := rfl

@[simp] theorem State.hcU_pending (s : State) (f : HcState → HcState) : (s.hcU f).pending = s.pending := rfl
@[simp] theorem State.hcU_now (s : State) (f : HcState → HcState) : (s.hcU f).now = s.now := rfl
@[simp] theorem State.hcU_regs (s : State) (f : HcState → HcState) : (s.hcU f).regs = s.regs := rfl
@[simp] theorem State.hcU_freeCtr (s : State) (f : HcState → HcState) : (s.hcU f).freeCtr = s.freeCtr := rfl
@[simp] theorem State.hcU_rdata (s : State) (f : HcState → HcState) : (s.hcU f).rdata = s.rdata := rfl
@[simp] theorem State.hcU_sent (s : State) (f : HcState → HcState) : (s.hcU f).sent = s.sent := rfl
@[simp] theorem State.hcU_ev (s : State) (f : HcState → HcState) : (s.hcU f).ev = s.ev := rfl
@[simp] theorem State.hcU_unitT (s : State) (f : HcState → HcState) : (s.hcU f).unitT = s.unitT := rfl
@[simp] theorem State.hcU_ft (s : State) (f : HcState → HcState) : (s.hcU f).ft = s.ft := rfl
@[simp] theorem State.hcU_pw (s : State) (f : HcState → HcState) : (s.hcU f).pw = s.pw := rfl
@[simp] theorem State.hcU_sf (s : State) (f : HcState → HcState) : (s.hcU f).sf = s.sf := rfl
@[simp] theorem State.hcU_md (s : State) (f : HcState → HcState) : (s.hcU f).md = s.md := rfl
@[simp] theorem State.hcU_chT (s : State) (f : HcState → HcState) : (s.hcU f).chT = s.chT := rfl
@[simp] theorem State.hcU_paT (s : State) (f : HcState → HcState) : (s.hcU f).paT = s.paT := rfl
@[simp] theorem State.hcU_ldT (s : State) (f : HcState → HcState) : (s.hcU f).ldT = s.ldT := rfl
@[simp] theorem State.hcU_actT (s : State) (f : HcState → HcState) : (s.hcU f).actT = s.actT := rfl
@[simp] theorem State.hcU_acc0 (s : State) (f : HcState → HcState) : (s.hcU f).acc0 = s.acc0 := rfl
@[simp] theorem State.hcU_acc1 (s : State) (f : HcState → HcState) : (s.hcU f).acc1 = s.acc1 := rfl
@[simp] theorem State.hcU_spT (s : State) (f : HcState → HcState) : (s.hcU f).spT = s.spT := rfl
@[simp] theorem State.hcU_spWait (s : State) (f : HcState → HcState) : (s.hcU f).spWait = s.spWait := rfl
@[simp] theorem State.hcU_ar (s : State) (f : HcState → HcState) : (s.hcU f).ar = s.ar := rfl
@[simp] theorem State.hcU_jn (s : State) (f : HcState → HcState) : (s.hcU f).jn = s.jn := rfl
@[simp] theorem State.hcU_rb (s : State) (f : HcState → HcState) : (s.hcU f).rb = s.rb := rfl
@[simp] theorem State.hcU_lk (s : State) (f : HcState → HcState) : (s.hcU f).lk = s.lk := rfl
@[simp] theorem State.hcU_qm (s : State) (f : HcState → HcState) : (s.hcU f).qm = s.qm := rfl
@[simp] theorem State.hcU_cm (s : State) (f : HcState → HcState) : (s.hcU f).cm = s.cm := rfl
@[simp] theorem State.hcU_dm (s : State) (f : HcState → HcState) : (s.hcU f).dm = s.dm := rfl
@[simp] theorem State.hcU_bm (s : State) (f : HcState → HcState) : (s.hcU f).bm = s.bm := rfl
@[simp] theorem State.hcU_mc (s : State) (f : HcState → HcState) : (s.hcU f).mc = s.mc := rfl
@[simp] theorem State.hcU_bt (s : State) (f : HcState → HcState) : (s.hcU f).bt = s.bt := rfl
@[simp] theorem State.hcU_rd (s : State) (f : HcState → HcState) (a : Nat) : (s.hcU f).rd a = s.rd a := rfl
@[simp] theorem State.hcU_g (s : State) (f : HcState → HcState) (r : RF) : (s.hcU f).g r = s.g r := rfl
@[simp] theorem State.hcU_is (s : State) (f : HcState → HcState) (r : RF) : (s.hcU f).is r = s.is r := rfl
@[simp] theorem State.hcU_self (s : State) (f : HcState → HcState) : (s.hcU f).hc = f s.hc := rfl

@[simp] theorem State.cmU_pending (s : State) (f : CmState → CmState) : (s.cmU f).pending = s.pending := rfl
@[simp] theorem State.cmU_now (s : State) (f : CmState → CmState) : (s.cmU f).now = s.now := rfl
@[simp] theorem State.cmU_regs (s : State) (f : CmState → CmState) : (s.cmU f).regs = s.regs := rfl
@[simp] theorem State.cmU_freeCtr (s : State) (f : CmState → CmState) : (s.cmU f).freeCtr = s.freeCtr := rfl
@[simp] theorem State.cmU_rdata (s : State) (f : CmState → CmState) : (s.cmU f).rdata = s.rdata := rfl
@[simp] theorem State.cmU_sent (s : State) (f : CmState → CmState) : (s.cmU f).sent = s.sent := rfl
@[simp] theorem State.cmU_ev (s : State) (f : CmState → CmState) : (s.cmU f).ev = s.ev := rfl
@[simp] theorem State.cmU_unitT (s : State) (f : CmState → CmState) : (s.cmU f).unitT = s.unitT := rfl
@[simp] theorem State.cmU_ft (s : State) (f : CmState → CmState) : (s.cmU f).ft = s.ft := rfl
@[simp] theorem State.cmU_pw (s : State) (f : CmState → CmState) : (s.cmU f).pw = s.pw := rfl
@[simp] theorem State.cmU_sf (s : State) (f : CmState → CmState) : (s.cmU f).sf = s.sf := rfl
@[simp] theorem State.cmU_md (s : State) (f : CmState → CmState) : (s.cmU f).md = s.md := rfl
@[simp] theorem State.cmU_chT (s : State) (f : CmState → CmState) : (s.cmU f).chT = s.chT := rfl
@[simp] theorem State.cmU_paT (s : State) (f : CmState → CmState) : (s.cmU f).paT = s.paT := rfl
@[simp] theorem State.cmU_ldT (s : State) (f : CmState → CmState) : (s.cmU f).ldT = s.ldT := rfl
@[simp] theorem State.cmU_actT (s : State) (f : CmState → CmState) : (s.cmU f).actT = s.actT := rfl
@[simp] theorem State.cmU_acc0 (s : State) (f : CmState → CmState) : (s.cmU f).acc0 = s.acc0 := rfl
@[simp] theorem State.cmU_acc1 (s : State) (f : CmState → CmState) : (s.cmU f).acc1 = s.acc1 := rfl
@[simp] theorem State.cmU_spT (s : State) (f : CmState → CmState) : (s.cmU f).spT = s.spT := rfl
@[simp] theorem State.cmU_spWait (s : State) (f : CmState → CmState) : (s.cmU f).spWait = s.spWait := rfl
@[simp] theorem State.cmU_ar (s : State) (f : CmState → CmState) : (s.cmU f).ar = s.ar := rfl
@[simp] theorem State.cmU_jn (s : State) (f : CmState → CmState) : (s.cmU f).jn = s.jn := rfl
@[simp] theorem State.cmU_rb (s : State) (f : CmState → CmState) : (s.cmU f).rb = s.rb := rfl
@[simp] theorem State.cmU_lk (s : State) (f : CmState → CmState) : (s.cmU f).lk = s.lk := rfl
@[simp] theorem State.cmU_qm (s : State) (f : CmState → CmState) : (s.cmU f).qm = s.qm := rfl
@[simp] theorem State.cmU_hc (s : State) (f : CmState → CmState) : (s.cmU f).hc = s.hc := rfl
@[simp] theorem State.cmU_dm (s : State) (f : CmState → CmState) : (s.cmU f).dm = s.dm := rfl
@[simp] theorem State.cmU_bm (s : State) (f : CmState → CmState) : (s.cmU f).bm = s.bm := rfl
@[simp] theorem State.cmU_mc (s : State) (f : CmState → CmState) : (s.cmU f).mc = s.mc := rfl
@[simp] theorem State.cmU_bt (s : State) (f : CmState → CmState) : (s.cmU f).bt = s.bt := rfl
@[simp] theorem State.cmU_rd (s : State) (f : CmState → CmState) (a : Nat) : (s.cmU f).rd a = s.rd a := rfl
@[simp] theorem State.cmU_g (s : State) (f : CmState → CmState) (r : RF) : (s.cmU f).g r = s.g r := rfl
@[simp] theorem State.cmU_is (s : State) (f : CmState → CmState) (r : RF) : (s.cmU f).is r = s.is r := rfl
@[simp] theorem State.cmU_self (s : State) (f : CmState → CmState) : (s.cmU f).cm = f s.cm := rfl

@[simp] theorem State.qmU_pending (s : State) (f : QmState → QmState) : (s.qmU f).pending = s.pending := rfl
@[simp] theorem State.qmU_now (s : State) (f : QmState → QmState) : (s.qmU f).now = s.now := rfl
@[simp] theorem State.qmU_regs (s : State) (f : QmState → QmState) : (s.qmU f).regs = s.regs := rfl
@[simp] theorem State.qmU_freeCtr (s : State) (f : QmState → QmState) : (s.qmU f).freeCtr = s.freeCtr := rfl
@[simp] theorem State.qmU_rdata (s : State) (f : QmState → QmState) : (s.qmU f).rdata = s.rdata := rfl
@[simp] theorem State.qmU_sent (s : State) (f : QmState → QmState) : (s.qmU f).sent = s.sent := rfl
@[simp] theorem State.qmU_ev (s : State) (f : QmState → QmState) : (s.qmU f).ev = s.ev := rfl
@[simp] theorem State.qmU_unitT (s : State) (f : QmState → QmState) : (s.qmU f).unitT = s.unitT := rfl
@[simp] theorem State.qmU_ft (s : State) (f : QmState → QmState) : (s.qmU f).ft = s.ft := rfl
@[simp] theorem State.qmU_pw (s : State) (f : QmState → QmState) : (s.qmU f).pw = s.pw := rfl
@[simp] theorem State.qmU_sf (s : State) (f : QmState → QmState) : (s.qmU f).sf = s.sf := rfl
@[simp] theorem State.qmU_md (s : State) (f : QmState → QmState) : (s.qmU f).md = s.md := rfl
@[simp] theorem State.qmU_chT (s : State) (f : QmState → QmState) : (s.qmU f).chT = s.chT := rfl
@[simp] theorem State.qmU_paT (s : State) (f : QmState → QmState) : (s.qmU f).paT = s.paT := rfl
@[simp] theorem State.qmU_ldT (s : State) (f : QmState → QmState) : (s.qmU f).ldT = s.ldT := rfl
@[simp] theorem State.qmU_actT (s : State) (f : QmState → QmState) : (s.qmU f).actT = s.actT := rfl
@[simp] theorem State.qmU_acc0 (s : State) (f : QmState → QmState) : (s.qmU f).acc0 = s.acc0 := rfl
@[simp] theorem State.qmU_acc1 (s : State) (f : QmState → QmState) : (s.qmU f).acc1 = s.acc1 := rfl
@[simp] theorem State.qmU_spT (s : State) (f : QmState → QmState) : (s.qmU f).spT = s.spT := rfl
@[simp] theorem State.qmU_spWait (s : State) (f : QmState → QmState) : (s.qmU f).spWait = s.spWait := rfl
@[simp] theorem State.qmU_ar (s : State) (f : QmState → QmState) : (s.qmU f).ar = s.ar := rfl
@[simp] theorem State.qmU_jn (s : State) (f : QmState → QmState) : (s.qmU f).jn = s.jn := rfl
@[simp] theorem State.qmU_rb (s : State) (f : QmState → QmState) : (s.qmU f).rb = s.rb := rfl
@[simp] theorem State.qmU_lk (s : State) (f : QmState → QmState) : (s.qmU f).lk = s.lk := rfl
@[simp] theorem State.qmU_cm (s : State) (f : QmState → QmState) : (s.qmU f).cm = s.cm := rfl
@[simp] theorem State.qmU_hc (s : State) (f : QmState → QmState) : (s.qmU f).hc = s.hc := rfl
@[simp] theorem State.qmU_dm (s : State) (f : QmState → QmState) : (s.qmU f).dm = s.dm := rfl
@[simp] theorem State.qmU_bm (s : State) (f : QmState → QmState) : (s.qmU f).bm = s.bm := rfl
@[simp] theorem State.qmU_mc (s : State) (f : QmState → QmState) : (s.qmU f).mc = s.mc := rfl
@[simp] theorem State.qmU_bt (s : State) (f : QmState → QmState) : (s.qmU f).bt = s.bt := rfl
@[simp] theorem State.qmU_rd (s : State) (f : QmState → QmState) (a : Nat) : (s.qmU f).rd a = s.rd a := rfl
@[simp] theorem State.qmU_g (s : State) (f : QmState → QmState) (r : RF) : (s.qmU f).g r = s.g r := rfl
@[simp] theorem State.qmU_is (s : State) (f : QmState → QmState) (r : RF) : (s.qmU f).is r = s.is r := rfl
@[simp] theorem State.qmU_self (s : State) (f : QmState → QmState) : (s.qmU f).qm = f s.qm := rfl

@[simp] theorem State.dmU_pending (s : State) (f : DmState → DmState) : (s.dmU f).pending = s.pending := rfl
@[simp] theorem State.dmU_now (s : State) (f : DmState → DmState) : (s.dmU f).now = s.now := rfl
@[simp] theorem State.dmU_regs (s : State) (f : DmState → DmState) : (s.dmU f).regs = s.regs := rfl
@[simp] theorem State.dmU_freeCtr (s : State) (f : DmState → DmState) : (s.dmU f).freeCtr = s.freeCtr := rfl
@[simp] theorem State.dmU_rdata (s : State) (f : DmState → DmState) : (s.dmU f).rdata = s.rdata := rfl
@[simp] theorem State.dmU_sent (s : State) (f : DmState → DmState) : (s.dmU f).sent = s.sent := rfl
@[simp] theorem State.dmU_ev (s : State) (f : DmState → DmState) : (s.dmU f).ev = s.ev := rfl
@[simp] theorem State.dmU_unitT (s : State) (f : DmState → DmState) : (s.dmU f).unitT = s.unitT := rfl
@[simp] theorem State.dmU_ft (s : State) (f : DmState → DmState) : (s.dmU f).ft = s.ft := rfl
@[simp] theorem State.dmU_pw (s : State) (f : DmState → DmState) : (s.dmU f).pw = s.pw := rfl
@[simp] theorem State.dmU_sf (s : State) (f : DmState → DmState) : (s.dmU f).sf = s.sf := rfl
@[simp] theorem State.dmU_md (s : State) (f : DmState → DmState) : (s.dmU f).md = s.md := rfl
@[simp] theorem State.dmU_chT (s : State) (f : DmState → DmState) : (s.dmU f).chT = s.chT := rfl
@[simp] theorem State.dmU_paT (s : State) (f : DmState → DmState) : (s.dmU f).paT = s.paT := rfl
@[simp] theorem State.dmU_ldT (s : State) (f : DmState → DmState) : (s.dmU f).ldT = s.ldT := rfl
@[simp] theorem State.dmU_actT (s : State) (f : DmState → DmState) : (s.dmU f).actT = s.actT := rfl
@[simp] theorem State.dmU_acc0 (s : State) (f : DmState → DmState) : (s.dmU f).acc0 = s.acc0 := rfl
@[simp] theorem State.dmU_acc1 (s : State) (f : DmState → DmState) : (s.dmU f).acc1 = s.acc1 := rfl
@[simp] theorem State.dmU_spT (s : State) (f : DmState → DmState) : (s.dmU f).spT = s.spT := rfl
@[simp] theorem State.dmU_spWait (s : State) (f : DmState → DmState) : (s.dmU f).spWait = s.spWait := rfl
@[simp] theorem State.dmU_ar (s : State) (f : DmState → DmState) : (s.dmU f).ar = s.ar := rfl
@[simp] theorem State.dmU_jn (s : State) (f : DmState → DmState) : (s.dmU f).jn = s.jn := rfl
@[simp] theorem State.dmU_rb (s : State) (f : DmState → DmState) : (s.dmU f).rb = s.rb := rfl
@[simp] theorem State.dmU_lk (s : State) (f : DmState → DmState) : (s.dmU f).lk = s.lk := rfl
@[simp] theorem State.dmU_qm (s : State) (f : DmState → DmState) : (s.dmU f).qm = s.qm := rfl
@[simp] theorem State.dmU_cm (s : State) (f : DmState → DmState) : (s.dmU f).cm = s.cm := rfl
@[simp] theorem State.dmU_hc (s : State) (f : DmState → DmState) : (s.dmU f).hc = s.hc := rfl
@[simp] theorem State.dmU_bm (s : State) (f : DmState → DmState) : (s.dmU f).bm = s.bm := rfl
@[simp] theorem State.dmU_mc (s : State) (f : DmState → DmState) : (s.dmU f).mc = s.mc := rfl
@[simp] theorem State.dmU_bt (s : State) (f : DmState → DmState) : (s.dmU f).bt = s.bt := rfl
@[simp] theorem State.dmU_rd (s : State) (f : DmState → DmState) (a : Nat) : (s.dmU f).rd a = s.rd a := rfl
@[simp] theorem State.dmU_g (s : State) (f : DmState → DmState) (r : RF) : (s.dmU f).g r = s.g r := rfl
@[simp] theorem State.dmU_is (s : State) (f : DmState → DmState) (r : RF) : (s.dmU f).is r = s.is r := rfl
@[simp] theorem State.dmU_self (s : State) (f : DmState → DmState) : (s.dmU f).dm = f s.dm := rfl

@[simp] theorem State.bmU_pending (s : State) (f : BmState → BmState) : (s.bmU f).pending = s.pending := rfl
@[simp] theorem State.bmU_now (s : State) (f : BmState → BmState) : (s.bmU f).now = s.now := rfl
@[simp] theorem State.bmU_regs (s : State) (f : BmState → BmState) : (s.bmU f).regs = s.regs := rfl
@[simp] theorem State.bmU_freeCtr (s : State) (f : BmState → BmState) : (s.bmU f).freeCtr = s.freeCtr := rfl
@[simp] theorem State.bmU_rdata (s : State) (f : BmState → BmState) : (s.bmU f).rdata = s.rdata := rfl
@[simp] theorem State.bmU_sent (s : State) (f : BmState → BmState) : (s.bmU f).sent = s.sent := rfl
@[simp] theorem State.bmU_ev (s : State) (f : BmState → BmState) : (s.bmU f).ev = s.ev := rfl
@[simp] theorem State.bmU_unitT (s : State) (f : BmState → BmState) : (s.bmU f).unitT = s.unitT := rfl
@[simp] theorem State.bmU_ft (s : State) (f : BmState → BmState) : (s.bmU f).ft = s.ft := rfl
@[simp] theorem State.bmU_pw (s : State) (f : BmState → BmState) : (s.bmU f).pw = s.pw := rfl
@[simp] theorem State.bmU_sf (s : State) (f : BmState → BmState) : (s.bmU f).sf = s.sf := rfl
@[simp] theorem State.bmU_md (s : State) (f : BmState → BmState) : (s.bmU f).md = s.md := rfl
@[simp] theorem State.bmU_chT (s : State) (f : BmState → BmState) : (s.bmU f).chT = s.chT := rfl
@[simp] theorem State.bmU_paT (s : State) (f : BmState → BmState) : (s.bmU f).paT = s.paT := rfl
@[simp] theorem State.bmU_ldT (s : State) (f : BmState → BmState) : (s.bmU f).ldT = s.ldT := rfl
@[simp] theorem State.bmU_actT (s : State) (f : BmState → BmState) : (s.bmU f).actT = s.actT := rfl
@[simp] theorem State.bmU_acc0 (s : State) (f : BmState → BmState) : (s.bmU f).acc0 = s.acc0 := rfl
@[simp] theorem State.bmU_acc1 (s : State) (f : BmState → BmState) : (s.bmU f).acc1 = s.acc1 := rfl
@[simp] theorem State.bmU_spT (s : State) (f : BmState → BmState) : (s.bmU f).spT = s.spT := rfl
@[simp] theorem State.bmU_spWait (s : State) (f : BmState → BmState) : (s.bmU f).spWait = s.spWait := rfl
@[simp] theorem State.bmU_ar (s : State) (f : BmState → BmState) : (s.bmU f).ar = s.ar := rfl
@[simp] theorem State.bmU_jn (s : State) (f : BmState → BmState) : (s.bmU f).jn = s.jn := rfl
@[simp] theorem State.bmU_rb (s : State) (f : BmState → BmState) : (s.bmU f).rb = s.rb := rfl
@[simp] theorem State.bmU_lk (s : State) (f : BmState → BmState) : (s.bmU f).lk = s.lk := rfl
@[simp] theorem State.bmU_qm (s : State) (f : BmState → BmState) : (s.bmU f).qm = s.qm := rfl
@[simp] theorem State.bmU_cm (s : State) (f : BmState → BmState) : (s.bmU f).cm = s.cm := rfl
@[simp] theorem State.bmU_hc (s : State) (f : BmState → BmState) : (s.bmU f).hc = s.hc := rfl
@[simp] theorem State.bmU_dm (s : State) (f : BmState → BmState) : (s.bmU f).dm = s.dm := rfl
@[simp] theorem State.bmU_mc (s : State) (f : BmState → BmState) : (s.bmU f).mc = s.mc := rfl
@[simp] theorem State.bmU_bt (s : State) (f : BmState → BmState) : (s.bmU f).bt = s.bt := rfl
@[simp] theorem State.bmU_rd (s : State) (f : BmState → BmState) (a : Nat) : (s.bmU f).rd a = s.rd a := rfl
@[simp] theorem State.bmU_g (s : State) (f : BmState → BmState) (r : RF) : (s.bmU f).g r = s.g r := rfl
@[simp] theorem State.bmU_is (s : State) (f : BmState → BmState) (r : RF) : (s.bmU f).is r = s.is r := rfl
@[simp] theorem State.bmU_self (s : State) (f : BmState → BmState) : (s.bmU f).bm = f s.bm := rfl

@[simp] theorem State.jnU_pending (s : State) (f : JnState → JnState) : (s.jnU f).pending = s.pending := rfl
@[simp] theorem State.jnU_now (s : State) (f : JnState → JnState) : (s.jnU f).now = s.now := rfl
@[simp] theorem State.jnU_regs (s : State) (f : JnState → JnState) : (s.jnU f).regs = s.regs := rfl
@[simp] theorem State.jnU_freeCtr (s : State) (f : JnState → JnState) : (s.jnU f).freeCtr = s.freeCtr := rfl
@[simp] theorem State.jnU_rdata (s : State) (f : JnState → JnState) : (s.jnU f).rdata = s.rdata := rfl
@[simp] theorem State.jnU_sent (s : State) (f : JnState → JnState) : (s.jnU f).sent = s.sent := rfl
@[simp] theorem State.jnU_ev (s : State) (f : JnState → JnState) : (s.jnU f).ev = s.ev := rfl
@[simp] theorem State.jnU_unitT (s : State) (f : JnState → JnState) : (s.jnU f).unitT = s.unitT := rfl
@[simp] theorem State.jnU_ft (s : State) (f : JnState → JnState) : (s.jnU f).ft = s.ft := rfl
@[simp] theorem State.jnU_pw (s : State) (f : JnState → JnState) : (s.jnU f).pw = s.pw := rfl
@[simp] theorem State.jnU_sf (s : State) (f : JnState → JnState) : (s.jnU f).sf = s.sf := rfl
@[simp] theorem State.jnU_md (s : State) (f : JnState → JnState) : (s.jnU f).md = s.md := rfl
@[simp] theorem State.jnU_chT (s : State) (f : JnState → JnState) : (s.jnU f).chT = s.chT := rfl
@[simp] theorem State.jnU_paT (s : State) (f : JnState → JnState) : (s.jnU f).paT = s.paT := rfl
@[simp] theorem State.jnU_ldT (s : State) (f : JnState → JnState) : (s.jnU f).ldT = s.ldT := rfl
@[simp] theorem State.jnU_actT (s : State) (f : JnState → JnState) : (s.jnU f).actT = s.actT := rfl
@[simp] theorem State.jnU_acc0 (s : State) (f : JnState → JnState) : (s.jnU f).acc0 = s.acc0 := rfl
@[simp] theorem State.jnU_acc1 (s : State) (f : JnState → JnState) : (s.jnU f).acc1 = s.acc1 := rfl
@[simp] theorem State.jnU_spT (s : State) (f : JnState → JnState) : (s.jnU f).spT = s.spT := rfl
@[simp] theorem State.jnU_spWait (s : State) (f : JnState → JnState) : (s.jnU f).spWait = s.spWait := rfl
@[simp] theorem State.jnU_ar (s : State) (f : JnState → JnState) : (s.jnU f).ar = s.ar := rfl
@[simp] theorem State.jnU_rb (s : State) (f : JnState → JnState) : (s.jnU f).rb = s.rb := rfl
@[simp] theorem State.jnU_lk (s : State) (f : JnState → JnState) : (s.jnU f).lk = s.lk := rfl
@[simp] theorem State.jnU_qm (s : State) (f : JnState → JnState) : (s.jnU f).qm = s.qm := rfl
@[simp] theorem State.jnU_cm (s : State) (f : JnState → JnState) : (s.jnU f).cm = s.cm := rfl
@[simp] theorem State.jnU_hc (s : State) (f : JnState → JnState) : (s.jnU f).hc = s.hc := rfl
@[simp] theorem State.jnU_dm (s : State) (f : JnState → JnState) : (s.jnU f).dm = s.dm := rfl
@[simp] theorem State.jnU_bm (s : State) (f : JnState → JnState) : (s.jnU f).bm = s.bm := rfl
@[simp] theorem State.jnU_mc (s : State) (f : JnState → JnState) : (s.jnU f).mc = s.mc := rfl
@[simp] theorem State.jnU_bt (s : State) (f : JnState → JnState) : (s.jnU f).bt = s.bt := rfl
@[simp] theorem State.jnU_rd (s : State) (f : JnState → JnState) (a : Nat) : (s.jnU f).rd a = s.rd a := rfl
@[simp] theorem State.jnU_g (s : State) (f : JnState → JnState) (r : RF) : (s.jnU f).g r = s.g r := rfl
@[simp] theorem State.jnU_is (s : State) (f : JnState → JnState) (r : RF) : (s.jnU f).is r = s.is r := rfl
@[simp] theorem State.jnU_self (s : State) (f : JnState → JnState) : (s.jnU f).jn = f s.jn := rfl

@[simp] theorem State.rbU_pending (s : State) (f : RbState → RbState) : (s.rbU f).pending = s.pending := rfl
@[simp] theorem State.rbU_now (s : State) (f : RbState → RbState) : (s.rbU f).now = s.now := rfl
@[simp] theorem State.rbU_regs (s : State) (f : RbState → RbState) : (s.rbU f).regs = s.regs := rfl
@[simp] theorem State.rbU_freeCtr (s : State) (f : RbState → RbState) : (s.rbU f).freeCtr = s.freeCtr := rfl
@[simp] theorem State.rbU_rdata (s : State) (f : RbState → RbState) : (s.rbU f).rdata = s.rdata := rfl
@[simp] theorem State.rbU_sent (s : State) (f : RbState → RbState) : (s.rbU f).sent = s.sent := rfl
@[simp] theorem State.rbU_ev (s : State) (f : RbState → RbState) : (s.rbU f).ev = s.ev := rfl
@[simp] theorem State.rbU_unitT (s : State) (f : RbState → RbState) : (s.rbU f).unitT = s.unitT := rfl
@[simp] theorem State.rbU_ft (s : State) (f : RbState → RbState) : (s.rbU f).ft = s.ft := rfl
@[simp] theorem State.rbU_pw (s : State) (f : RbState → RbState) : (s.rbU f).pw = s.pw := rfl
@[simp] theorem State.rbU_sf (s : State) (f : RbState → RbState) : (s.rbU f).sf = s.sf := rfl
@[simp] theorem State.rbU_md (s : State) (f : RbState → RbState) : (s.rbU f).md = s.md := rfl
@[simp] theorem State.rbU_chT (s : State) (f : RbState → RbState) : (s.rbU f).chT = s.chT := rfl
@[simp] theorem State.rbU_paT (s : State) (f : RbState → RbState) : (s.rbU f).paT = s.paT := rfl
@[simp] theorem State.rbU_ldT (s : State) (f : RbState → RbState) : (s.rbU f).ldT = s.ldT := rfl
@[simp] theorem State.rbU_actT (s : State) (f : RbState → RbState) : (s.rbU f).actT = s.actT := rfl
@[simp] theorem State.rbU_acc0 (s : State) (f : RbState → RbState) : (s.rbU f).acc0 = s.acc0 := rfl
@[simp] theorem State.rbU_acc1 (s : State) (f : RbState → RbState) : (s.rbU f).acc1 = s.acc1 := rfl
@[simp] theorem State.rbU_spT (s : State) (f : RbState → RbState) : (s.rbU f).spT = s.spT := rfl
@[simp] theorem State.rbU_spWait (s : State) (f : RbState → RbState) : (s.rbU f).spWait = s.spWait := rfl
@[simp] theorem State.rbU_ar (s : State) (f : RbState → RbState) : (s.rbU f).ar = s.ar := rfl
@[simp] theorem State.rbU_jn (s : State) (f : RbState → RbState) : (s.rbU f).jn = s.jn := rfl
@[simp] theorem State.rbU_lk (s : State) (f : RbState → RbState) : (s.rbU f).lk = s.lk := rfl
@[simp] theorem State.rbU_qm (s : State) (f : RbState → RbState) : (s.rbU f).qm = s.qm := rfl
@[simp] theorem State.rbU_cm (s : State) (f : RbState → RbState) : (s.rbU f).cm = s.cm := rfl
@[simp] theorem State.rbU_hc (s : State) (f : RbState → RbState) : (s.rbU f).hc = s.hc := rfl
@[simp] theorem State.rbU_dm (s : State) (f : RbState → RbState) : (s.rbU f).dm = s.dm := rfl
@[simp] theorem State.rbU_bm (s : State) (f : RbState → RbState) : (s.rbU f).bm = s.bm := rfl
@[simp] theorem State.rbU_mc (s : State) (f : RbState → RbState) : (s.rbU f).mc = s.mc := rfl
@[simp] theorem State.rbU_bt (s : State) (f : RbState → RbState) : (s.rbU f).bt = s.bt := rfl
@[simp] theorem State.rbU_rd (s : State) (f : RbState → RbState) (a : Nat) : (s.rbU f).rd a = s.rd a := rfl
@[simp] theorem State.rbU_g (s : State) (f : RbState → RbState) (r : RF) : (s.rbU f).g r = s.g r := rfl
@[simp] theorem State.rbU_is (s : State) (f : RbState → RbState) (r : RF) : (s.rbU f).is r = s.is r := rfl
@[simp] theorem State.rbU_self (s : State) (f : RbState → RbState) : (s.rbU f).rb = f s.rb := rfl

@[simp] theorem State.arU_pending (s : State) (f : ArState → ArState) : (s.arU f).pending = s.pending := rfl
@[simp] theorem State.arU_now (s : State) (f : ArState → ArState) : (s.arU f).now = s.now := rfl
@[simp] theorem State.arU_regs (s : State) (f : ArState → ArState) : (s.arU f).regs = s.regs := rfl
@[simp] theorem State.arU_freeCtr (s : State) (f : ArState → ArState) : (s.arU f).freeCtr = s.freeCtr := rfl
@[simp] theorem State.arU_rdata (s : State) (f : ArState → ArState) : (s.arU f).rdata = s.rdata := rfl
@[simp] theorem State.arU_sent (s : State) (f : ArState → ArState) : (s.arU f).sent = s.sent := rfl
@[simp] theorem State.arU_ev (s : State) (f : ArState → ArState) : (s.arU f).ev = s.ev := rfl
@[simp] theorem State.arU_unitT (s : State) (f : ArState → ArState) : (s.arU f).unitT = s.unitT := rfl
@[simp] theorem State.arU_ft (s : State) (f : ArState → ArState) : (s.arU f).ft = s.ft := rfl
@[simp] theorem State.arU_pw (s : State) (f : ArState → ArState) : (s.arU f).pw = s.pw := rfl
@[simp] theorem State.arU_sf (s : State) (f : ArState → ArState) : (s.arU f).sf = s.sf := rfl
@[simp] theorem State.arU_md (s : State) (f : ArState → ArState) : (s.arU f).md = s.md := rfl
@[simp] theorem State.arU_chT (s : State) (f : ArState → ArState) : (s.arU f).chT = s.chT := rfl
@[simp] theorem State.arU_paT (s : State) (f : ArState → ArState) : (s.arU f).paT = s.paT := rfl
@[simp] theorem State.arU_ldT (s : State) (f : ArState → ArState) : (s.arU f).ldT = s.ldT := rfl
@[simp] theorem State.arU_actT (s : State) (f : ArState → ArState) : (s.arU f).actT = s.actT := rfl
@[simp] theorem State.arU_acc0 (s : State) (f : ArState → ArState) : (s.arU f).acc0 = s.acc0 := rfl
@[simp] theorem State.arU_acc1 (s : State) (f : ArState → ArState) : (s.arU f).acc1 = s.acc1 := rfl
@[simp] theorem State.arU_spT (s : State) (f : ArState → ArState) : (s.arU f).spT = s.spT := rfl
@[simp] theorem State.arU_spWait (s : State) (f : ArState → ArState) : (s.arU f).spWait = s.spWait := rfl
@[simp] theorem State.arU_jn (s : State) (f : ArState → ArState) : (s.arU f).jn = s.jn := rfl
@[simp] theorem State.arU_rb (s : State) (f : ArState → ArState) : (s.arU f).rb = s.rb := rfl
@[simp] theorem State.arU_lk (s : State) (f : ArState → ArState) : (s.arU f).lk = s.lk := rfl
@[simp] theorem State.arU_qm (s : State) (f : ArState → ArState) : (s.arU f).qm = s.qm := rfl
@[simp] theorem State.arU_cm (s : State) (f : ArState → ArState) : (s.arU f).cm = s.cm := rfl
@[simp] theorem State.arU_hc (s : State) (f : ArState → ArState) : (s.arU f).hc = s.hc := rfl
@[simp] theorem State.arU_dm (s : State) (f : ArState → ArState) : (s.arU f).dm = s.dm := rfl
@[simp] theorem State.arU_bm (s : State) (f : ArState → ArState) : (s.arU f).bm = s.bm := rfl
@[simp] theorem State.arU_mc (s : State) (f : ArState → ArState) : (s.arU f).mc = s.mc := rfl
@[simp] theorem State.arU_bt (s : State) (f : ArState → ArState) : (s.arU f).bt = s.bt := rfl
@[simp] theorem State.arU_rd (s : State) (f : ArState → ArState) (a : Nat) : (s.arU f).rd a = s.rd a := rfl
@[simp] theorem State.arU_g (s : State) (f : ArState → ArState) (r : RF) : (s.arU f).g r = s.g r := rfl
@[simp] theorem State.arU_is (s : State) (f : ArState → ArState) (r : RF) : (s.arU f).is r = s.is r := rfl
@[simp] theorem State.arU_self (s : State) (f : ArState → ArState) : (s.arU f).ar = f s.ar := rfl

@[simp] theorem State.lkU_pending (s : State) (f : LkState → LkState) : (s.lkU f).pending = s.pending := rfl
@[simp] theorem State.lkU_now (s : State) (f : LkState → LkState) : (s.lkU f).now = s.now := rfl
@[simp] theorem State.lkU_regs (s : State) (f : LkState → LkState) : (s.lkU f).regs = s.regs := rfl
@[simp] theorem State.lkU_freeCtr (s : State) (f : LkState → LkState) : (s.lkU f).freeCtr = s.freeCtr := rfl
@[simp] theorem State.lkU_rdata (s : State) (f : LkState → LkState) : (s.lkU f).rdata = s.rdata := rfl
@[simp] theorem State.lkU_sent (s : State) (f : LkState → LkState) : (s.lkU f).sent = s.sent := rfl
@[simp] theorem State.lkU_ev (s : State) (f : LkState → LkState) : (s.lkU f).ev = s.ev := rfl
@[simp] theorem State.lkU_unitT (s : State) (f : LkState → LkState) : (s.lkU f).unitT = s.unitT := rfl
@[simp] theorem State.lkU_ft (s : State) (f : LkState → LkState) : (s.lkU f).ft = s.ft := rfl
@[simp] theorem State.lkU_pw (s : State) (f : LkState → LkState) : (s.lkU f).pw = s.pw := rfl
@[simp] theorem State.lkU_sf (s : State) (f : LkState → LkState) : (s.lkU f).sf = s.sf := rfl
@[simp] theorem State.lkU_md (s : State) (f : LkState → LkState) : (s.lkU f).md = s.md := rfl
@[simp] theorem State.lkU_chT (s : State) (f : LkState → LkState) : (s.lkU f).chT = s.chT := rfl
@[simp] theorem State.lkU_paT (s : State) (f : LkState → LkState) : (s.lkU f).paT = s.paT := rfl
@[simp] theorem State.lkU_ldT (s : State) (f : LkState → LkState) : (s.lkU f).ldT = s.ldT := rfl
@[simp] theorem State.lkU_actT (s : State) (f : LkState → LkState) : (s.lkU f).actT = s.actT := rfl
@[simp] theorem State.lkU_acc0 (s : State) (f : LkState → LkState) : (s.lkU f).acc0 = s.acc0 := rfl
@[simp] theorem State.lkU_acc1 (s : State) (f : LkState → LkState) : (s.lkU f).acc1 = s.acc1 := rfl
@[simp] theorem State.lkU_spT (s : State) (f : LkState → LkState) : (s.lkU f).spT = s.spT := rfl
@[simp] theorem State.lkU_spWait (s : State) (f : LkState → LkState) : (s.lkU f).spWait = s.spWait := rfl
@[simp] theorem State.lkU_ar (s : State) (f : LkState → LkState) : (s.lkU f).ar = s.ar := rfl
@[simp] theorem State.lkU_jn (s : State) (f : LkState → LkState) : (s.lkU f).jn = s.jn := rfl
@[simp] theorem State.lkU_rb (s : State) (f : LkState → LkState) : (s.lkU f).rb = s.rb := rfl
@[simp] theorem State.lkU_qm (s : State) (f : LkState → LkState) : (s.lkU f).qm = s.qm := rfl
@[simp] theorem State.lkU_cm (s : State) (f : LkState → LkState) : (s.lkU f).cm = s.cm := rfl
@[simp] theorem State.lkU_hc (s : State) (f : LkState → LkState) : (s.lkU f).hc = s.hc := rfl
@[simp] theorem State.lkU_dm (s : State) (f : LkState → LkState) : (s.lkU f).dm = s.dm := rfl
@[simp] theorem State.lkU_bm (s : State) (f : LkState → LkState) : (s.lkU f).bm = s.bm := rfl
@[simp] theorem State.lkU_mc (s : State) (f : LkState → LkState) : (s.lkU f).mc = s.mc := rfl
@[simp] theorem State.lkU_bt (s : State) (f : LkState → LkState) : (s.lkU f).bt = s.bt := rfl
@[simp] theorem State.lkU_rd (s : State) (f : LkState → LkState) (a : Nat) : (s.lkU f).rd a = s.rd a := rfl
@[simp] theorem State.lkU_g (s : State) (f : LkState → LkState) (r : RF) : (s.lkU f).g r = s.g r := rfl
@[simp] theorem State.lkU_is (s : State) (f : LkState → LkState) (r : RF) : (s.lkU f).is r = s.is r := rfl
@[simp] theorem State.lkU_self (s : State) (f : LkState → LkState) : (s.lkU f).lk = f s.lk := rfl

@[simp] theorem State.mcU_pending (s : State) (f : McState → McState) : (s.mcU f).pending = s.pending := rfl
@[simp] theorem State.mcU_now (s : State) (f : McState → McState) : (s.mcU f).now = s.now := rfl
@[simp] theorem State.mcU_regs (s : State) (f : McState → McState) : (s.mcU f).regs = s.regs := rfl
@[simp] theorem State.mcU_freeCtr (s : State) (f : McState → McState) : (s.mcU f).freeCtr = s.freeCtr := rfl
@[simp] theorem State.mcU_rdata (s : State) (f : McState → McState) : (s.mcU f).rdata = s.rdata := rfl
@[simp] theorem State.mcU_sent (s : State) (f : McState → McState) : (s.mcU f).sent = s.sent := rfl
@[simp] theorem State.mcU_ev (s : State) (f : McState → McState) : (s.mcU f).ev = s.ev := rfl
@[simp] theorem State.mcU_unitT (s : State) (f : McState → McState) : (s.mcU f).unitT = s.unitT := rfl
@[simp] theorem State.mcU_ft (s : State) (f : McState → McState) : (s.mcU f).ft = s.ft := rfl
@[simp] theorem State.mcU_pw (s : State) (f : McState → McState) : (s.mcU f).pw = s.pw := rfl
@[simp] theorem State.mcU_sf (s : State) (f : McState → McState) : (s.mcU f).sf = s.sf := rfl
@[simp] theorem State.mcU_md (s : State) (f : McState → McState) : (s.mcU f).md = s.md := rfl
@[simp] theorem State.mcU_chT (s : State) (f : McState → McState) : (s.mcU f).chT = s.chT := rfl
@[simp] theorem State.mcU_paT (s : State) (f : McState → McState) : (s.mcU f).paT = s.paT := rfl
@[simp] theorem State.mcU_ldT (s : State) (f : McState → McState) : (s.mcU f).ldT = s.ldT := rfl
@[simp] theorem State.mcU_actT (s : State) (f : McState → McState) : (s.mcU f).actT = s.actT := rfl
@[simp] theorem State.mcU_acc0 (s : State) (f : McState → McState) : (s.mcU f).acc0 = s.acc0 := rfl
@[simp] theorem State.mcU_acc1 (s : State) (f : McState → McState) : (s.mcU f).acc1 = s.acc1 := rfl
@[simp] theorem State.mcU_spT (s : State) (f : McState → McState) : (s.mcU f).spT = s.spT := rfl
@[simp] theorem State.mcU_spWait (s : State) (f : McState → McState) : (s.mcU f).spWait = s.spWait := rfl
@[simp] theorem State.mcU_ar (s : State) (f : McState → McState) : (s.mcU f).ar = s.ar := rfl
@[simp] theorem State.mcU_jn (s : State) (f : McState → McState) : (s.mcU f).jn = s.jn := rfl
@[simp] theorem State.mcU_rb (s : State) (f : McState → McState) : (s.mcU f).rb = s.rb := rfl
@[simp] theorem State.mcU_lk (s : State) (f : McState → McState) : (s.mcU f).lk = s.lk := rfl
@[simp] theorem State.mcU_qm (s : State) (f : McState → McState) : (s.mcU f).qm = s.qm := rfl
@[simp] theorem State.mcU_cm (s : State) (f : McState → McState) : (s.mcU f).cm = s.cm := rfl
@[simp] theorem State.mcU_hc (s : State) (f : McState → McState) : (s.mcU f).hc = s.hc := rfl
@[simp] theorem State.mcU_dm (s : State) (f : McState → McState) : (s.mcU f).dm = s.dm := rfl
@[simp] theorem State.mcU_bm (s : State) (f : McState → McState) : (s.mcU f).bm = s.bm := rfl
@[simp] theorem State.mcU_bt (s : State) (f : McState → McState) : (s.mcU f).bt = s.bt := rfl
@[simp] theorem State.mcU_rd (s : State) (f : McState → McState) (a : Nat) : (s.mcU f).rd a = s.rd a := rfl
@[simp] theorem State.mcU_g (s : State) (f : McState → McState) (r : RF) : (s.mcU f).g r = s.g r := rfl
@[simp] theorem State.mcU_is (s : State) (f : McState → McState) (r : RF) : (s.mcU f).is r = s.is r := rfl
@[simp] theorem State.mcU_self (s : State) (f : McState → McState) : (s.mcU f).mc = f s.mc := rfl

@[simp] theorem State.pwU_pending (s : State) (f : PwState → PwState) : (s.pwU f).pending = s.pending := rfl
@[simp] theorem State.pwU_now (s : State) (f : PwState → PwState) : (s.pwU f).now = s.now := rfl
@[simp] theorem State.pwU_regs (s : State) (f : PwState → PwState) : (s.pwU f).regs = s.regs := rfl
@[simp] theorem State.pwU_freeCtr (s : State) (f : PwState → PwState) : (s.pwU f).freeCtr = s.freeCtr := rfl
@[simp] theorem State.pwU_rdata (s : State) (f : PwState → PwState) : (s.pwU f).rdata = s.rdata := rfl
@[simp] theorem State.pwU_sent (s : State) (f : PwState → PwState) : (s.pwU f).sent = s.sent := rfl
@[simp] theorem State.pwU_ev (s : State) (f : PwState → PwState) : (s.pwU f).ev = s.ev := rfl
@[simp] theorem State.pwU_unitT (s : State) (f : PwState → PwState) : (s.pwU f).unitT = s.unitT := rfl
@[simp] theorem State.pwU_ft (s : State) (f : PwState → PwState) : (s.pwU f).ft = s.ft := rfl
@[simp] theorem State.pwU_sf (s : State) (f : PwState → PwState) : (s.pwU f).sf = s.sf := rfl
@[simp] theorem State.pwU_md (s : State) (f : PwState → PwState) : (s.pwU f).md = s.md := rfl
@[simp] theorem State.pwU_chT (s : State) (f : PwState → PwState) : (s.pwU f).chT = s.chT := rfl
@[simp] theorem State.pwU_paT (s : State) (f : PwState → PwState) : (s.pwU f).paT = s.paT := rfl
@[simp] theorem State.pwU_ldT (s : State) (f : PwState → PwState) : (s.pwU f).ldT = s.ldT := rfl
@[simp] theorem State.pwU_actT (s : State) (f : PwState → PwState) : (s.pwU f).actT = s.actT := rfl
@[simp] theorem State.pwU_acc0 (s : State) (f : PwState → PwState) : (s.pwU f).acc0 = s.acc0 := rfl
@[simp] theorem State.pwU_acc1 (s : State) (f : PwState → PwState) : (s.pwU f).acc1 = s.acc1 := rfl
@[simp] theorem State.pwU_spT (s : State) (f : PwState → PwState) : (s.pwU f).spT = s.spT := rfl
@[simp] theorem State.pwU_spWait (s : State) (f : PwState → PwState) : (s.pwU f).spWait = s.spWait := rfl
@[simp] theorem State.pwU_ar (s : State) (f : PwState → PwState) : (s.pwU f).ar = s.ar := rfl
@[simp] theorem State.pwU_jn (s : State) (f : PwState → PwState) : (s.pwU f).jn = s.jn := rfl
@[simp] theorem State.pwU_rb (s : State) (f : PwState → PwState) : (s.pwU f).rb = s.rb := rfl
@[simp] theorem State.pwU_lk (s : State) (f : PwState → PwState) : (s.pwU f).lk = s.lk := rfl
@[simp] theorem State.pwU_qm (s : State) (f : PwState → PwState) : (s.pwU f).qm = s.qm := rfl
@[simp] theorem State.pwU_cm (s : State) (f : PwState → PwState) : (s.pwU f).cm = s.cm := rfl
@[simp] theorem State.pwU_hc (s : State) (f : PwState → PwState) : (s.pwU f).hc = s.hc := rfl
@[simp] theorem State.pwU_dm (s : State) (f : PwState → PwState) : (s.pwU f).dm = s.dm := rfl
@[simp] theorem State.pwU_bm (s : State) (f : PwState → PwState) : (s.pwU f).bm = s.bm := rfl
@[simp] theorem State.pwU_mc (s : State) (f : PwState → PwState) : (s.pwU f).mc = s.mc := rfl
@[simp] theorem State.pwU_bt (s : State) (f : PwState → PwState) : (s.pwU f).bt = s.bt := rfl
@[simp] theorem State.pwU_rd (s : State) (f : PwState → PwState) (a : Nat) : (s.pwU f).rd a = s.rd a := rfl
@[simp] theorem State.pwU_g (s : State) (f : PwState → PwState) (r : RF) : (s.pwU f).g r = s.g r := rfl
@[simp] theorem State.pwU_is (s : State) (f : PwState → PwState) (r : RF) : (s.pwU f).is r = s.is r := rfl
@[simp] theorem State.pwU_self (s : State) (f : PwState → PwState) : (s.pwU f).pw = f s.pw := rfl

@[simp] theorem State.sfU_pending (s : State) (f : SfState → SfState) : (s.sfU f).pending = s.pending := rfl
@[simp] theorem State.sfU_now (s : State) (f : SfState → SfState) : (s.sfU f).now = s.now := rfl
@[simp] theorem State.sfU_regs (s : State) (f : SfState → SfState) : (s.sfU f).regs = s.regs := rfl
@[simp] theorem State.sfU_freeCtr (s : State) (f : SfState → SfState) : (s.sfU f).freeCtr = s.freeCtr := rfl
@[simp] theorem State.sfU_rdata (s : State) (f : SfState → SfState) : (s.sfU f).rdata = s.rdata := rfl
@[simp] theorem State.sfU_sent (s : State) (f : SfState → SfState) : (s.sfU f).sent = s.sent := rfl
@[simp] theorem State.sfU_ev (s : State) (f : SfState → SfState) : (s.sfU f).ev = s.ev := rfl
@[simp] theorem State.sfU_unitT (s : State) (f : SfState → SfState) : (s.sfU f).unitT = s.unitT := rfl
@[simp] theorem State.sfU_ft (s : State) (f : SfState → SfState) : (s.sfU f).ft = s.ft := rfl
@[simp] theorem State.sfU_pw (s : State) (f : SfState → SfState) : (s.sfU f).pw = s.pw := rfl
@[simp] theorem State.sfU_md (s : State) (f : SfState → SfState) : (s.sfU f).md = s.md := rfl
@[simp] theorem State.sfU_chT (s : State) (f : SfState → SfState) : (s.sfU f).chT = s.chT := rfl
@[simp] theorem State.sfU_paT (s : State) (f : SfState → SfState) : (s.sfU f).paT = s.paT := rfl
@[simp] theorem State.sfU_ldT (s : State) (f : SfState → SfState) : (s.sfU f).ldT = s.ldT := rfl
@[simp] theorem State.sfU_actT (s : State) (f : SfState → SfState) : (s.sfU f).actT = s.actT := rfl
@[simp] theorem State.sfU_acc0 (s : State) (f : SfState → SfState) : (s.sfU f).acc0 = s.acc0 := rfl
@[simp] theorem State.sfU_acc1 (s : State) (f : SfState → SfState) : (s.sfU f).acc1 = s.acc1 := rfl
@[simp] theorem State.sfU_spT (s : State) (f : SfState → SfState) : (s.sfU f).spT = s.spT := rfl
@[simp] theorem State.sfU_spWait (s : State) (f : SfState → SfState) : (s.sfU f).spWait = s.spWait := rfl
@[simp] theorem State.sfU_ar (s : State) (f : SfState → SfState) : (s.sfU f).ar = s.ar := rfl
@[simp] theorem State.sfU_jn (s : State) (f : SfState → SfState) : (s.sfU f).jn = s.jn := rfl
@[simp] theorem State.sfU_rb (s : State) (f : SfState → SfState) : (s.sfU f).rb = s.rb := rfl
@[simp] theorem State.sfU_lk (s : State) (f : SfState → SfState) : (s.sfU f).lk = s.lk := rfl
@[simp] theorem State.sfU_qm (s : State) (f : SfState → SfState) : (s.sfU f).qm = s.qm := rfl
@[simp] theorem State.sfU_cm (s : State) (f : SfState → SfState) : (s.sfU f).cm = s.cm := rfl
@[simp] theorem State.sfU_hc (s : State) (f : SfState → SfState) : (s.sfU f).hc = s.hc := rfl
@[simp] theorem State.sfU_dm (s : State) (f : SfState → SfState) : (s.sfU f).dm = s.dm := rfl
@[simp] theorem State.sfU_bm (s : State) (f : SfState → SfState) : (s.sfU f).bm = s.bm := rfl
@[simp] theorem State.sfU_mc (s : State) (f : SfState → SfState) : (s.sfU f).mc = s.mc := rfl
@[simp] theorem State.sfU_bt (s : State) (f : SfState → SfState) : (s.sfU f).bt = s.bt := rfl
@[simp] theorem State.sfU_rd (s : State) (f : SfState → SfState) (a : Nat) : (s.sfU f).rd a = s.rd a := rfl
@[simp] theorem State.sfU_g (s : State) (f : SfState → SfState) (r : RF) : (s.sfU f).g r = s.g r := rfl
@[simp] theorem State.sfU_is (s : State) (f : SfState → SfState) (r : RF) : (s.sfU f).is r = s.is r := rfl
@[simp] theorem State.sfU_self (s : State) (f : SfState → SfState) : (s.sfU f).sf = f s.sf := rfl

@[simp] theorem State.mdU_pending (s : State) (f : MdState → MdState) : (s.mdU f).pending = s.pending := rfl
@[simp] theorem State.mdU_now (s : State) (f : MdState → MdState) : (s.mdU f).now = s.now := rfl
@[simp] theorem State.mdU_regs (s : State) (f : MdState → MdState) : (s.mdU f).regs = s.regs := rfl
@[simp] theorem State.mdU_freeCtr (s : State) (f : MdState → MdState) : (s.mdU f).freeCtr = s.freeCtr := rfl
@[simp] theorem State.mdU_rdata (s : State) (f : MdState → MdState) : (s.mdU f).rdata = s.rdata := rfl
@[simp] theorem State.mdU_sent (s : State) (f : MdState → MdState) : (s.mdU f).sent = s.sent := rfl
@[simp] theorem State.mdU_ev (s : State) (f : MdState → MdState) : (s.mdU f).ev = s.ev := rfl
@[simp] theorem State.mdU_unitT (s : State) (f : MdState → MdState) : (s.mdU f).unitT = s.unitT := rfl
@[simp] theorem State.mdU_ft (s : State) (f : MdState → MdState) : (s.mdU f).ft = s.ft := rfl
@[simp] theorem State.mdU_pw (s : State) (f : MdState → MdState) : (s.mdU f).pw = s.pw := rfl
@[simp] theorem State.mdU_sf (s : State) (f : MdState → MdState) : (s.mdU f).sf = s.sf := rfl
@[simp] theorem State.mdU_chT (s : State) (f : MdState → MdState) : (s.mdU f).chT = s.chT := rfl
@[simp] theorem State.mdU_paT (s : State) (f : MdState → MdState) : (s.mdU f).paT = s.paT := rfl
@[simp] theorem State.mdU_ldT (s : State) (f : MdState → MdState) : (s.mdU f).ldT = s.ldT := rfl
@[simp] theorem State.mdU_actT (s : State) (f : MdState → MdState) : (s.mdU f).actT = s.actT := rfl
@[simp] theorem State.mdU_acc0 (s : State) (f : MdState → MdState) : (s.mdU f).acc0 = s.acc0 := rfl
@[simp] theorem State.mdU_acc1 (s : State) (f : MdState → MdState) : (s.mdU f).acc1 = s.acc1 := rfl
@[simp] theorem State.mdU_spT (s : State) (f : MdState → MdState) : (s.mdU f).spT = s.spT := rfl
@[simp] theorem State.mdU_spWait (s : State) (f : MdState → MdState) : (s.mdU f).spWait = s.spWait := rfl
@[simp] theorem State.mdU_ar (s : State) (f : MdState → MdState) : (s.mdU f).ar = s.ar := rfl
@[simp] theorem State.mdU_jn (s : State) (f : MdState → MdState) : (s.mdU f).jn = s.jn := rfl
@[simp] theorem State.mdU_rb (s : State) (f : MdState → MdState) : (s.mdU f).rb = s.rb := rfl
@[simp] theorem State.mdU_lk (s : State) (f : MdState → MdState) : (s.mdU f).lk = s.lk := rfl
@[simp] theorem State.mdU_qm (s : State) (f : MdState → MdState) : (s.mdU f).qm = s.qm := rfl
@[simp] theorem State.mdU_cm (s : State) (f : MdState → MdState) : (s.mdU f).cm = s.cm := rfl
@[simp] theorem State.mdU_hc (s : State) (f : MdState → MdState) : (s.mdU f).hc = s.hc := rfl
@[simp] theorem State.mdU_dm (s : State) (f : MdState → MdState) : (s.mdU f).dm = s.dm := rfl
@[simp] theorem State.mdU_bm (s : State) (f : MdState → MdState) : (s.mdU f).bm = s.bm := rfl
@[simp] theorem State.mdU_mc (s : State) (f : MdState → MdState) : (s.mdU f).mc = s.mc := rfl
@[simp] theorem State.mdU_bt (s : State) (f : MdState → MdState) : (s.mdU f).bt = s.bt := rfl
@[simp] theorem State.mdU_rd (s : State) (f : MdState → MdState) (a : Nat) : (s.mdU f).rd a = s.rd a := rfl
@[simp] theorem State.mdU_g (s : State) (f : MdState → MdState) (r : RF) : (s.mdU f).g r = s.g r := rfl
@[simp] theorem State.mdU_is (s : State) (f : MdState → MdState) (r : RF) : (s.mdU f).is r = s.is r := rfl
@[simp] theorem State.mdU_self (s : State) (f : MdState → MdState) : (s.mdU f).md = f s.md := rfl

@[simp] theorem State.ftU_pending (s : State) (f : FtState → FtState) : (s.ftU f).pending = s.pending := rfl
@[simp] theorem State.ftU_now (s : State) (f : FtState → FtState) : (s.ftU f).now = s.now := rfl
@[simp] theorem State.ftU_regs (s : State) (f : FtState → FtState) : (s.ftU f).regs = s.regs := rfl
@[simp] theorem State.ftU_freeCtr (s : State) (f : FtState → FtState) : (s.ftU f).freeCtr = s.freeCtr := rfl
@[simp] theorem State.ftU_rdata (s : State) (f : FtState → FtState) : (s.ftU f).rdata = s.rdata := rfl
@[simp] theorem State.ftU_sent (s : State) (f : FtState → FtState) : (s.ftU f).sent = s.sent := rfl
@[simp] theorem State.ftU_ev (s : State) (f : FtState → FtState) : (s.ftU f).ev = s.ev := rfl
@[simp] theorem State.ftU_unitT (s : State) (f : FtState → FtState) : (s.ftU f).unitT = s.unitT := rfl
@[simp] theorem State.ftU_pw (s : State) (f : FtState → FtState) : (s.ftU f).pw = s.pw := rfl
@[simp] theorem State.ftU_sf (s : State) (f : FtState → FtState) : (s.ftU f).sf = s.sf := rfl
@[simp] theorem State.ftU_md (s : State) (f : FtState → FtState) : (s.ftU f).md = s.md := rfl
@[simp] theorem State.ftU_chT (s : State) (f : FtState → FtState) : (s.ftU f).chT = s.chT := rfl
@[simp] theorem State.ftU_paT (s : State) (f : FtState → FtState) : (s.ftU f).paT = s.paT := rfl
@[simp] theorem State.ftU_ldT (s : State) (f : FtState → FtState) : (s.ftU f).ldT = s.ldT := rfl
@[simp] theorem State.ftU_actT (s : State) (f : FtState → FtState) : (s.ftU f).actT = s.actT := rfl
@[simp] theorem State.ftU_acc0 (s : State) (f : FtState → FtState) : (s.ftU f).acc0 = s.acc0 := rfl
@[simp] theorem State.ftU_acc1 (s : State) (f : FtState → FtState) : (s.ftU f).acc1 = s.acc1 := rfl
@[simp] theorem State.ftU_spT (s : State) (f : FtState → FtState) : (s.ftU f).spT = s.spT := rfl
@[simp] theorem State.ftU_spWait (s : State) (f : FtState → FtState) : (s.ftU f).spWait = s.spWait := rfl
@[simp] theorem State.ftU_ar (s : State) (f : FtState → FtState) : (s.ftU f).ar = s.ar := rfl
@[simp] theorem State.ftU_jn (s : State) (f : FtState → FtState) : (s.ftU f).jn = s.jn := rfl
@[simp] theorem State.ftU_rb (s : State) (f : FtState → FtState) : (s.ftU f).rb = s.rb := rfl
@[simp] theorem State.ftU_lk (s : State) (f : FtState → FtState) : (s.ftU f).lk = s.lk := rfl
@[simp] theorem State.ftU_qm (s : State) (f : FtState → FtState) : (s.ftU f).qm = s.qm := rfl
@[simp] theorem State.ftU_cm (s : State) (f : FtState → FtState) : (s.ftU f).cm = s.cm := rfl
@[simp] theorem State.ftU_hc (s : State) (f : FtState → FtState) : (s.ftU f).hc = s.hc := rfl
@[simp] theorem State.ftU_dm (s : State) (f : FtState → FtState) : (s.ftU f).dm = s.dm := rfl
@[simp] theorem State.ftU_bm (s : State) (f : FtState → FtState) : (s.ftU f).bm = s.bm := rfl
@[simp] theorem State.ftU_mc (s : State) (f : FtState → FtState) : (s.ftU f).mc = s.mc := rfl
@[simp] theorem State.ftU_bt (s : State) (f : FtState → FtState) : (s.ftU f).bt = s.bt := rfl
@[simp] theorem State.ftU_rd (s : State) (f : FtState → FtState) (a : Nat) : (s.ftU f).rd a = s.rd a := rfl
@[simp] theorem State.ftU_g (s : State) (f : FtState → FtState) (r : RF) : (s.ftU f).g r = s.g r := rfl
@[simp] theorem State.ftU_is (s : State) (f : FtState → FtState) (r : RF) : (s.ftU f).is r = s.is r := rfl
@[simp] theorem State.ftU_self (s : State) (f : FtState → FtState) : (s.ftU f).ft = f s.ft := rfl

@[simp] theorem State.evU_pending (s : State) (f : EvState → EvState) : (s.evU f).pending = s.pending := rfl
@[simp] theorem State.evU_now (s : State) (f : EvState → EvState) : (s.evU f).now = s.now := rfl
@[simp] theorem State.evU_regs (s : State) (f : EvState → EvState) : (s.evU f).regs = s.regs := rfl
@[simp] theorem State.evU_freeCtr (s : State) (f : EvState → EvState) : (s.evU f).freeCtr = s.freeCtr := rfl
@[simp] theorem State.evU_rdata (s : State) (f : EvState → EvState) : (s.evU f).rdata = s.rdata := rfl
@[simp] theorem State.evU_sent (s : State) (f : EvState → EvState) : (s.evU f).sent = s.sent := rfl
@[simp] theorem State.evU_unitT (s : State) (f : EvState → EvState) : (s.evU f).unitT = s.unitT := rfl
@[simp] theorem State.evU_ft (s : State) (f : EvState → EvState) : (s.evU f).ft = s.ft := rfl
@[simp] theorem State.evU_pw (s : State) (f : EvState → EvState) : (s.evU f).pw = s.pw := rfl
@[simp] theorem State.evU_sf (s : State) (f : EvState → EvState) : (s.evU f).sf = s.sf := rfl
@[simp] theorem State.evU_md (s : State) (f : EvState → EvState) : (s.evU f).md = s.md := rfl
@[simp] theorem State.evU_chT (s : State) (f : EvState → EvState) : (s.evU f).chT = s.chT := rfl
@[simp] theorem State.evU_paT (s : State) (f : EvState → EvState) : (s.evU f).paT = s.paT := rfl
@[simp] theorem State.evU_ldT (s : State) (f : EvState → EvState) : (s.evU f).ldT = s.ldT := rfl
@[simp] theorem State.evU_actT (s : State) (f : EvState → EvState) : (s.evU f).actT = s.actT := rfl
@[simp] theorem State.evU_acc0 (s : State) (f : EvState → EvState) : (s.evU f).acc0 = s.acc0 := rfl
@[simp] theorem State.evU_acc1 (s : State) (f : EvState → EvState) : (s.evU f).acc1 = s.acc1 := rfl
@[simp] theorem State.evU_spT (s : State) (f : EvState → EvState) : (s.evU f).spT = s.spT := rfl
@[simp] theorem State.evU_spWait (s : State) (f : EvState → EvState) : (s.evU f).spWait = s.spWait := rfl
@[simp] theorem State.evU_ar (s : State) (f : EvState → EvState) : (s.evU f).ar = s.ar := rfl
@[simp] theorem State.evU_jn (s : State) (f : EvState → EvState) : (s.evU f).jn = s.jn := rfl
@[simp] theorem State.evU_rb (s : State) (f : EvState → EvState) : (s.evU f).rb = s.rb := rfl
@[simp] theorem State.evU_lk (s : State) (f : EvState → EvState) : (s.evU f).lk = s.lk := rfl
@[simp] theorem State.evU_qm (s : State) (f : EvState → EvState) : (s.evU f).qm = s.qm := rfl
@[simp] theorem State.evU_cm (s : State) (f : EvState → EvState) : (s.evU f).cm = s.cm := rfl
@[simp] theorem State.evU_hc (s : State) (f : EvState → EvState) : (s.evU f).hc = s.hc := rfl
@[simp] theorem State.evU_dm (s : State) (f : EvState → EvState) : (s.evU f).dm = s.dm := rfl
@[simp] theorem State.evU_bm (s : State) (f : EvState → EvState) : (s.evU f).bm = s.bm := rfl
@[simp] theorem State.evU_mc (s : State) (f : EvState → EvState) : (s.evU f).mc = s.mc := rfl
@[simp] theorem State.evU_bt (s : State) (f : EvState → EvState) : (s.evU f).bt = s.bt := rfl
@[simp] theorem State.evU_rd (s : State) (f : EvState → EvState) (a : Nat) : (s.evU f).rd a = s.rd a := rfl
@[simp] theorem State.evU_g (s : State) (f : EvState → EvState) (r : RF) : (s.evU f).g r = s.g r := rfl
@[simp] theorem State.evU_is (s : State) (f : EvState → EvState) (r : RF) : (s.evU f).is r = s.is r := rfl
@[simp] theorem State.evU_self (s : State) (f : EvState → EvState) : (s.evU f).ev = f s.ev := rfl

@[simp] theorem State.btU_pending (s : State) (f : BtState → BtState) : (s.btU f).pending = s.pending := rfl
@[simp] theorem State.btU_now (s : State) (f : BtState → BtState) : (s.btU f).now = s.now := rfl
@[simp] theorem State.btU_regs (s : State) (f : BtState → BtState) : (s.btU f).regs = s.regs := rfl
@[simp] theorem State.btU_freeCtr (s : State) (f : BtState → BtState) : (s.btU f).freeCtr = s.freeCtr := rfl
@[simp] theorem State.btU_rdata (s : State) (f : BtState → BtState) : (s.btU f).rdata = s.rdata := rfl
@[simp] theorem State.btU_sent (s : State) (f : BtState → BtState) : (s.btU f).sent = s.sent := rfl
@[simp] theorem State.btU_ev (s : State) (f : BtState → BtState) : (s.btU f).ev = s.ev := rfl
@[simp] theorem State.btU_unitT (s : State) (f : BtState → BtState) : (s.btU f).unitT = s.unitT := rfl
@[simp] theorem State.btU_ft (s : State) (f : BtState → BtState) : (s.btU f).ft = s.ft := rfl
@[simp] theorem State.btU_pw (s : State) (f : BtState → BtState) : (s.btU f).pw = s.pw := rfl
@[simp] theorem State.btU_sf (s : State) (f : BtState → BtState) : (s.btU f).sf = s.sf := rfl
@[simp] theorem State.btU_md (s : State) (f : BtState → BtState) : (s.btU f).md = s.md := rfl
@[simp] theorem State.btU_chT (s : State) (f : BtState → BtState) : (s.btU f).chT = s.chT := rfl
@[simp] theorem State.btU_paT (s : State) (f : BtState → BtState) : (s.btU f).paT = s.paT := rfl
@[simp] theorem State.btU_ldT (s : State) (f : BtState → BtState) : (s.btU f).ldT = s.ldT := rfl
@[simp] theorem State.btU_actT (s : State) (f : BtState → BtState) : (s.btU f).actT = s.actT := rfl
@[simp] theorem State.btU_acc0 (s : State) (f : BtState → BtState) : (s.btU f).acc0 = s.acc0 := rfl
@[simp] theorem State.btU_acc1 (s : State) (f : BtState → BtState) : (s.btU f).acc1 = s.acc1 := rfl
@[simp] theorem State.btU_spT (s : State) (f : BtState → BtState) : (s.btU f).spT = s.spT := rfl
@[simp] theorem State.btU_spWait (s : State) (f : BtState → BtState) : (s.btU f).spWait = s.spWait := rfl
@[simp] theorem State.btU_ar (s : State) (f : BtState → BtState) : (s.btU f).ar = s.ar := rfl
@[simp] theorem State.btU_jn (s : State) (f : BtState → BtState) : (s.btU f).jn = s.jn := rfl
@[simp] theorem State.btU_rb (s : State) (f : BtState → BtState) : (s.btU f).rb = s.rb := rfl
@[simp] theorem State.btU_lk (s : State) (f : BtState → BtState) : (s.btU f).lk = s.lk := rfl
@[simp] theorem State.btU_qm (s : State) (f : BtState → BtState) : (s.btU f).qm = s.qm := rfl
@[simp] theorem State.btU_cm (s : State) (f : BtState → BtState) : (s.btU f).cm = s.cm := rfl
@[simp] theorem State.btU_hc (s : State) (f : BtState → BtState) : (s.btU f).hc = s.hc := rfl
@[simp] theorem State.btU_dm (s : State) (f : BtState → BtState) : (s.btU f).dm = s.dm := rfl
@[simp] theorem State.btU_bm (s : State) (f : BtState → BtState) : (s.btU f).bm = s.bm := rfl
@[simp] theorem State.btU_mc (s : State) (f : BtState → BtState) : (s.btU f).mc = s.mc := rfl
@[simp] theorem State.btU_rd (s : State) (f : BtState → BtState) (a : Nat) : (s.btU f).rd a = s.rd a := rfl
@[simp] theorem State.btU_g (s : State) (f : BtState → BtState) (r : RF) : (s.btU f).g r = s.g r := rfl
@[simp] theorem State.btU_is (s : State) (f : BtState → BtState) (r : RF) : (s.btU f).is r = s.is r := rfl
@[simp] theorem State.btU_self (s : State) (f : BtState → BtState) : (s.btU f).bt = f s.bt := rfl

end Sys2Proof.Machine
end

