-- ==== Sys2Proof/Tests/Slice0.lean ====
section
/-! SUPPORT. Tests/Slice0.lean: an ill-formed term for each check of WellFormed, small tests of single steps against values
worked out from the spec by hand, and for each statement with hypotheses states and operands that meet them. -/

open Sys2Proof Sys2Proof.Machine Sys2Proof.Machine.Reg

section

set_option Elab.async false

/-- A state with some register fields set, the rest of those registers 0, and everything else as `s`. -/
def withFields (s : State) (l : List (RF × Nat)) : State :=
  { s with regs := l.foldl (fun t x => t.ins x.1.addr ((t.find x.1.addr).getD 0 + BitVec.ofNat 32 (x.2 * 2 ^ x.1.lo))) s.regs }

/-- The state after reset with some register fields set. -/
def fl (l : List (RF × Nat)) : State := withFields {} l

/-- Context 5 is READY at micro-address 0 with a microword and its nanoword. -/
def mcs (cust : Bool) (mw w : Nat) : State :=
  { fl [(MC_CTL_STATE, 2), (MC_CUST_SIZE_MIB, 1), (MC_CFG_CUST_CTX, 1)] with
    mc := { ctx := [(5, { st := 1, cust := cust, rs := [7] })], micro := [(0, mw)], nano := [(Image.mwNano mw, w)] } }

/-- A slot that is complete, with nothing wrong and the digest of its header, passes the checks of an activation. -/
theorem slot_check (s : State) (x : BtSlot) (h : s.btSlot 0 = x) (h1 : x.complete = true) (h2 : x.why = 0)
    (h3 : Image.hdrDigest (s.slotHdr 0) = x.digest) (h4 : s.fuseCnt = 0) : s.actCheck 0 = none := by
  unfold State.actCheck
  simp only [h, h1, h2, h3, h4]
  simp

/-- Such a slot over an erased store. -/
theorem slot_passes (s : State) (hb : s.bt = { slots := [(0, {
    complete := true, digest := Image.hdrDigest (State.slotHdr {} 0) })] }) : s.actCheck 0 = none := by
  have e : s.slotHdr 0 = State.slotHdr {} 0 := by
    unfold State.slotHdr State.fsRd State.fsPage
    rw [hb]
  have e2 : s.fuseCnt = State.fuseCnt {} := by
    unfold State.fuseCnt State.stepBlown
    rw [hb]
  refine slot_check s { complete := true, digest := Image.hdrDigest (State.slotHdr {} 0) } ?_ rfl rfl ?_
    (e2.trans (by decide +kernel))
  · unfold State.btSlot; rw [hb]; rfl
  · rw [e]

/-! WellFormed: an ill-formed term for each check (R6, R47 and the operands' own bounds). -/

theorem test_wf_write_aligned : Instr.wf (.registerWrite 0x0D 1 true 0) = false := by decide
theorem test_wf_read_aligned : Instr.wf (.rcRegisterRead 0x3E true 0) = false := by decide
theorem test_wf_pace_blocks : Instr.wf (.paceWindowEnd [1, 2] 750) = false := by decide
theorem test_wf_sector_read_member : Instr.wf (.sectorRead 0 ⟨96, 0, 0, 0, .demand, 0⟩ 0 [] 0 0 0 false true) = false := by decide
theorem test_wf_sector_read_mba : Instr.wf (.sectorRead 0 ⟨0, 2 ^ 40, 0, 0, .demand, 0⟩ 0 [] 0 0 0 false true) = false := by decide
theorem test_wf_sector_read_zone : Instr.wf (.sectorRead 0 ⟨0, 0, 32, 0, .demand, 0⟩ 0 [] 0 0 0 false true) = false := by decide
theorem test_wf_sector_read_sector : Instr.wf (.sectorRead 0 ⟨0, 0, 0, 2048, .demand, 0⟩ 0 [] 0 0 0 false true) = false := by decide
theorem test_wf_sector_read_wedge : Instr.wf (.sectorRead 0 ⟨0, 0, 0, 0, .demand, 440⟩ 0 [] 0 0 0 false true) = false := by decide
theorem test_wf_wedge_slots : Instr.wf (.wedgeFastCheck 0 ⟨[], 0⟩) = false := by decide
theorem test_wf_seek_slots : Instr.wf (.seekStart 0 [(4, 0)]) = false := by decide
theorem test_wf_pwm_quiet : Instr.wf (.pwmPeriod 0 0 0 6251 0) = false := by decide
theorem test_wf_stripe_range : Instr.wf (.stripeWriteStart 0 0 5 4 0 []) = false := by decide
theorem test_wf_frame_kind : Instr.wf (.frameForward 0 6 0 0 0 0 0 0 0 0 0 0 true) = false := by decide
theorem test_wf_schedule_member : Instr.wf (.actuatorSchedule 0 [(96, 0, 0)] none) = false := by decide
theorem test_wf_cache_write_line : Instr.wf (.cacheWrite 0 120 16 0) = false := by decide
theorem test_wf_buffer_word : Instr.wf (.bufferRead 4 0 0 0 0 (.load 0)) = false := by decide
theorem test_wf_scrub_word : Instr.wf (.scrubBurst [(4, 1)] 0 0) = false := by decide
theorem test_wf_write_good : Instr.wf (.registerWrite 0x0C 1 true 0) = true := by decide

/-! One step of a command, or one operation; what is expected is worked out by hand from the rule named. -/

/-- The state after a command. -/
def after (c : Instr) (s : State) : State := match exec c s with
  | .next t => t
  | _ => s

/-- R631: GOTO_MAINT in SERVICE; PREV holds the mode left. -/
theorem test_goto_maint : ((after .gotoMaint (fl [(MD_MODE_MODE, 2)])).g MD_MODE_MODE,
    (after .gotoMaint (fl [(MD_MODE_MODE, 2)])).g MD_MODE_PREV) = (5, 2) := by decide +kernel
/-- R631: GOTO_REST only in SERVICE; ERR = 1. -/
theorem test_goto_rest_in_maint : (after .gotoRest (fl [(MD_MODE_MODE, 5)])).g MD_CMD_ERR = 1 := by decide +kernel
/-- R32: the switch is refused while the crystal-locked source does not report lock. -/
theorem test_switch_without_lock : (after .timebaseSwitch (fl [])).g MD_TB_SRC = 0 := by decide +kernel
/-- R15: MD_SAVE_BASE_LO is RWL. -/
theorem test_locked_write : (after (.registerWrite 0x30 0x00100000 true 0) (fl [(MD_MODE_MODE, 2), (MD_LOCK_LOCK, 1)])).rd 0x30 = 0 := by
  decide +kernel
theorem test_unlocked_write : (after (.registerWrite 0x30 0x00100000 true 0) (fl [(MD_MODE_MODE, 2)])).rd 0x30 = 0x00100000 := by
  decide +kernel
/-- R14: the read returns 3 and leaves the one increment of its handshake. -/
theorem test_rc_read : ((after (.rcRegisterRead 0x3C true 1) (fl [(MD_MODE_MODE, 2), (MD_PEND_CNT_COUNT, 3)])).rdata,
    (after (.rcRegisterRead 0x3C true 1) (fl [(MD_MODE_MODE, 2), (MD_PEND_CNT_COUNT, 3)])).g MD_PEND_CNT_COUNT) = (3, 1) := by
  decide +kernel
/-- R47: a reserved address reads 0 (R16). -/
theorem test_reserved_read : (after (.rcRegisterRead 0x9FFFC true 0) (fl [(MD_MODE_MODE, 2)])).rdata = 0 := by decide +kernel
/-- R54: EN = 1 in STOPPING sets ENABLE_PENDING. -/
theorem test_enable_in_stopping : (after (.functionEnable .dm) (fl [(⟨DM_CTL, 2, 2⟩, 3)])).g (Func.pend .dm) = 1 := by decide +kernel
/-- R30: one cycle of the internal oscillator. -/
theorem test_tick_internal : (match step {} with
  | .next t => t.now
  | _ => 0) = 5 := by decide +kernel
/-- R30: one cycle of the crystal-locked source. -/
theorem test_tick_crystal : (match step (fl [(MD_TB_SRC, 1)]) with
  | .next t => t.now
  | _ => 0) = 1 := by decide +kernel
/-- R67: a firmware write to preamp address 0x01 is refused with ERR = 3. -/
theorem test_preamp_refused : (after (.preampAccess 0 1 true 0) (fl [(MD_MODE_MODE, 2)])).g (CH_PA_CMD_ERR 0) = 3 := by decide +kernel
/-- R410: a doorbell to a DISABLED queue is counted. -/
theorem test_doorbell_disabled : (after (.doorbellWrite 7 false 0 0 false) (fl [(MD_MODE_MODE, 2), (⟨QM_CTL, 2, 2⟩, 2), (LK_CTL_STATE, 2),
    (LK_ID_VALID, 1)])).g QM_DB_DROP_CNT_COUNT = 1 := by decide +kernel
/-- R530: an access beyond BM_SIZE sets BM_STAT.UE. -/
theorem test_read_beyond_size : (after (.bufferRead 0xFFFFFFFFFFFFFFF8 0 0 0 0 (.load 0)) (fl [(MD_MODE_MODE, 2)])).g BM_STAT_UE = 1 := by
  decide +kernel
/-- R602: the loss of feed A shows its voltage, 4.00 V. -/
theorem test_feed_loss : (after (.feedLoss false 400) (fl [(MD_MODE_MODE, 2)])).g PW_FEED_VA = 400 := by decide +kernel
/-- R622: a heartbeat after the grant is counted late. -/
theorem test_heartbeat_late : (after .heartbeat { fl [(MD_MODE_MODE, 2)] with sf := { hbLost := true } }).g SF_LATE_CNT_HB = 1 := by
  decide +kernel
/-- R688: CLEAR_FIRST is accepted only in MAINT. -/
theorem test_clear_first_in_service : (after .clearFirst (fl [(MD_MODE_MODE, 2)])).g EV_CMD_ERR = 1 := by decide +kernel
/-- R706: with VK = 0 the revocation is refused. -/
theorem test_revoke_refused : (after .revokeVk0 (fl [(MD_MODE_MODE, 2), (BT_SVN_VK, 0)])).bt.revoked = false := by decide +kernel
/-- R519: word 0 is staged, not in force. -/
theorem test_hwt_staged : (after (.hwtDataAccess (some 5)) (fl [])).dm.hwt = [] := by decide +kernel
/-- R503, R527: HOST to HOST cannot start; HCAUSE is CFG, 5. -/
theorem test_dma_host_to_host : (after (.dmChGo 40) (fl [(MD_MODE_MODE, 2), (⟨DM_CTL, 2, 2⟩, 2), (DM_CH_CTL_EN 40, 1), (DM_CH_CTL_STATE 40, 2),
    (DM_CH_CFG_SRC_SP 40, 1), (DM_CH_CFG_DST_SP 40, 1)])).g (DM_CH_STAT_HCAUSE 40) = 5 := by decide +kernel

/-- R406: slot N − 1 is followed by slot 0 with the turn bit flipped. -/
theorem test_index_wraps : (idxNext 2 3, idxNext 65538 3, idxNext 1 3) = (65536, 0, 2) := by decide
/-- R406: position 3 after position 1 in a ring of 3. -/
theorem test_index_count : (idxCount 65536 1 3, idxCount 1 65537 3) = (2, 3) := by decide
/-- R238: 0x80 × 2 = 0x100 = 0x1D modulo 0x11D. -/
theorem test_gf_reduces : (gfMul 0x80 2, gfMul 2 0x80, gfMul 0x53 1) = (0x1D, 0x1D, 0x53) := by decide
/-- R249: a(1, 0) = 0x80 × inverse(0x81), so a(1, 0) × 0x81 = 0x80. -/
theorem test_parity_coefficient : (coef 0 7, gfMul (coef 1 0) 0x81) = (1, 0x80) := by decide +kernel
/-- R532: d(x) = 1 has the remainder of x^15, g(x) without its first term; d_32 alone also sets c15. -/
theorem test_check_bits : (eccCheck 1, eccCheck (2 ^ 32) / 2 ^ 15) = (0x4599, 1) := by decide +kernel
/-- R576: carries, borrow and the last bit shifted out. -/
theorem test_alu_carries : (aluAdd (2 ^ 64 - 1) 1, aluSub 3 5, aluShl (2 ^ 63) 1, aluShr 3 1, aluMul (2 ^ 32) (2 ^ 32)) =
    ((0, true), (2 ^ 64 - 2, true), (0, true), (1, true), (0, true)) := by decide

/-- R359: a lone 1 comes again 39 and 58 bits later. -/
theorem test_scrambler_taps : (scramLine 2 1 0).1 = 1 + 2 ^ 39 + 2 ^ 58 := by decide +kernel
/-- R360: the pairs 00, 01, 11, 10 and 00. -/
theorem test_pam4_levels : symbols 3 0x78 = [-3, -1, 1, 3, -3] := by decide +kernel
/-- R278: TYPE, VER and JSEQ of a PAD record at bytes 0, 1 and 8. -/
theorem test_pad_header : (JRec.head60 { typ := tPad, jseq := 5 } % 2 ^ 16, JRec.head60 { typ := tPad, jseq := 5 } / 2 ^ 64 % 2 ^ 64) =
    (0x0104, 5) := by decide +kernel

/-! States at which the hypotheses of a statement hold: one for each clause that has any, in the clauses' order. -/

theorem wit_EmptyQueueAdvancesTimebase :
    (∃ (s : State), (s.pending = []) ∧ (s.mode ≠ mOff) ∧ (s.mode ≠ mRest) ∧ (s.switched = false)) ∧
    (∃ (s : State), (s.pending = []) ∧ (s.mode ≠ mOff) ∧ (s.mode ≠ mRest) ∧ (s.switched = true)) ∧
    (∃ (s : State), (s.pending = []) ∧ (s.mode = mRest)) ∧
    (∃ (s : State), (s.pending = []) ∧ (s.mode = mOff)) ∧
    (∃ (s : State), (s.pending = [])) :=
  ⟨⟨{}, by decide +kernel⟩,
   ⟨fl [(MD_MODE_MODE, 1), (MD_TB_SRC, 1)], by decide +kernel⟩,
   ⟨fl [(MD_MODE_MODE, 3)], by decide +kernel⟩,
   ⟨withFields { regs := [(4, 0)] } [], by decide +kernel⟩,
   ⟨{}, by decide +kernel⟩⟩

theorem wit_EveryStepKeepsInvariant : ∃ (s t : State), (s.Inv) ∧ (step s = .next t) :=
  ⟨State.reset, State.tick State.reset, ⟨⟨⟨rfl, rfl, rfl⟩, by unfold State.LegalMode; decide +kernel⟩, rfl⟩⟩

theorem wit_CommandsKeepToTheirParts : ∃ (c : Instr) (s t : State), (exec c s = .next t) :=
  ⟨.heartbeat, {}, {}, rfl⟩

theorem wit_SecurityStateHasFewWriters : ∃ (c : Instr) (s t : State), (exec c s = .next t) :=
  ⟨.heartbeat, {}, {}, rfl⟩

theorem wit_TimebaseOnlyRestarts : ∃ (c : Instr) (s t : State), (exec c s = .next t) :=
  ⟨.heartbeat, {}, {}, rfl⟩

theorem wit_LockedFieldsKeepTheirValue : ∃ (s : State) (addr : BitVec 24) (value : Word) (core : Bool) (sets : Word) (fs : List FieldDesc) (f : FieldDesc), (s.is MD_LOCK_LOCK = true) ∧ (regFields addr.toNat = some fs) ∧ (f ∈ fs) ∧ (f.acc = .rwl) :=
  ⟨fl [(MD_LOCK_LOCK, 1)], 0x28008, 0, true, 0, [⟨0, 8, .rwl, 0xA⟩, ⟨8, 8, .rwl, 0x14⟩], ⟨8, 8, .rwl, 0x14⟩, by decide +kernel⟩

theorem wit_PlainWriteFollowsAccessCodes : ∃ (s : State) (addr : BitVec 24) (value : Word) (core : Bool) (sets : Word) (fs : List FieldDesc), (addr.toNat % 4 = 0) ∧ (s.reaches core true addr.toNat = true) ∧ (actAt addr.toNat = .plain) ∧ (regFields addr.toNat = some fs) :=
  ⟨fl [(MD_MODE_MODE, 2)], 0x28008, 0, true, 0, [⟨0, 8, .rwl, 0xA⟩, ⟨8, 8, .rwl, 0x14⟩], by decide +kernel⟩

theorem wit_ReadClearsCountOnce : ∃ (s : State) (addr : BitVec 24) (core : Bool) (adds : Word) (fs : List FieldDesc) (f : FieldDesc), (addr.toNat % 4 = 0) ∧ (s.reaches core false addr.toNat = true) ∧ (regFields addr.toNat = some fs) ∧ (f ∈ fs) ∧ (f.acc = .rc) :=
  ⟨fl [(MD_MODE_MODE, 2), (MD_PEND_CNT_COUNT, 3)], 0x3C, true, 1, [⟨0, 32, .rc, 0x0⟩], ⟨0, 32, .rc, 0x0⟩, by decide +kernel⟩

theorem wit_GeometryRegistersAreGuarded :
    (∃ (s : State) (v : Fin 64) (addr : BitVec 24) (value : Word) (core : Bool) (sets : Word), (actAt addr.toNat = .geom v.val) ∧ ((s.g (AR_VOL_CTL_STATE v.val) ≠ stOff ∨ s.volRecs v.val = true))) ∧
    (∃ (s : State) (v : Fin 64) (addr : BitVec 24) (value : Word) (core : Bool) (sets : Word), (actAt addr.toNat = .geom v.val) ∧ (addr.toNat % 4 = 0) ∧ (s.reaches core true addr.toNat = true) ∧ (s.g (AR_VOL_CTL_STATE v.val) = stOff) ∧ (s.volRecs v.val = false) ∧ (s.g RB_RS_STAT_STATE = rsNone)) :=
  ⟨⟨fl [(AR_VOL_CTL_STATE 3, 2)], 3, BitVec.ofNat 24 (AR_VOL_GEOM 3), 0, true, 0, by decide +kernel⟩,
   ⟨fl [(MD_MODE_MODE, 2)], 3, BitVec.ofNat 24 (AR_VOL_GEOM 3), 0, true, 0, by decide +kernel⟩⟩

theorem wit_IdleConfigurationTimers : ∃ (s : State) (core : Bool) (adds : Word), (s.reaches core false MD_IDLE_CFG = true) :=
  ⟨fl [(MD_MODE_MODE, 2)], true, 0, by decide +kernel⟩

theorem wit_DeviceResetRestoresFunctions :
    (∃ (s : State), (s.ft.resetOf.isSome = true) ∧ (s.ft.pulse = false) ∧ ((∀ r ∈ s.ev.queue, r.code ≠ 0x0104))) ∧
    (∃ (s : State), (s.pw.powered = true)) :=
  ⟨⟨{ ft := { resetOf := some 3 } }, by decide +kernel⟩,
   ⟨{ pw := { powered := true } }, by decide +kernel⟩⟩

theorem wit_QueueIndexArithmetic : ∃ (n p c : Nat), (1 ≤ n) ∧ (n ≤ 65536) ∧ (p < 2 ^ 17) ∧ (p % 65536 < n) ∧ (c < 2 ^ 17) ∧ (c % 65536 < n) :=
  ⟨3, 65537, 2, by decide +kernel⟩

theorem wit_RevokeVendorKeyZero :
    (∃ (s : State), (s.is BT_CMD_BUSY = false) ∧ (s.g BT_SVN_VK = 1)) ∧
    (∃ (s : State), (s.is BT_CMD_BUSY = false) ∧ (s.g BT_SVN_VK ≠ 1)) ∧
    (∃ (s : State), (s.is BT_CMD_BUSY = true)) :=
  ⟨⟨fl [(BT_SVN_VK, 1)], by decide +kernel⟩,
   ⟨fl [], by decide +kernel⟩,
   ⟨fl [(BT_CMD_BUSY, 1)], by decide +kernel⟩⟩

theorem wit_AluResultsAndFlags :
    (∃ (s : State) (n : Fin 256) (mw w a b : Nat), (s.AluRuns n.val 0 mw w a b)) ∧
    (∃ (s : State) (n : Fin 256) (mw w a b : Nat), (s.AluRuns n.val 1 mw w a b)) ∧
    (∃ (s : State) (n : Fin 256) (mw w a b : Nat), (s.AluRuns n.val 2 mw w a b)) ∧
    (∃ (s : State) (n : Fin 256) (mw w a b : Nat), (s.AluRuns n.val 8 mw w a b)) ∧
    (∃ (s : State) (n : Fin 256) (mw w a b : Nat), (s.AluRuns n.val 3 mw w a b)) ∧
    (∃ (s : State) (n : Fin 256) (mw w a b : Nat), (s.AluRuns n.val 4 mw w a b)) ∧
    (∃ (s : State) (n : Fin 256) (mw w a b : Nat), (s.AluRuns n.val 5 mw w a b)) ∧
    (∃ (s : State) (n : Fin 256) (mw w a b : Nat), (s.AluRuns n.val 13 mw w a b)) ∧
    (∃ (s : State) (n : Fin 256) (mw w a b k : Nat), (s.AluRuns n.val 6 mw w a b) ∧ (nwImm2 w = k) ∧ (k ≤ 64)) ∧
    (∃ (s : State) (n : Fin 256) (mw w a b k : Nat), (s.AluRuns n.val 7 mw w a b) ∧ (nwImm2 w = k) ∧ (k ≤ 64)) :=
  ⟨⟨mcs false (2 ^ 14) (0 * 2 ^ 188), 5, (2 ^ 14), (0 * 2 ^ 188), 0, 0, by decide +kernel⟩,
   ⟨mcs false (2 ^ 14) (1 * 2 ^ 188), 5, (2 ^ 14), (1 * 2 ^ 188), 0, 0, by decide +kernel⟩,
   ⟨mcs false (2 ^ 14) (2 * 2 ^ 188), 5, (2 ^ 14), (2 * 2 ^ 188), 0, 0, by decide +kernel⟩,
   ⟨mcs false (2 ^ 14) (8 * 2 ^ 188), 5, (2 ^ 14), (8 * 2 ^ 188), 0, 0, by decide +kernel⟩,
   ⟨mcs false (2 ^ 14) (3 * 2 ^ 188), 5, (2 ^ 14), (3 * 2 ^ 188), 0, 0, by decide +kernel⟩,
   ⟨mcs false (2 ^ 14) (4 * 2 ^ 188), 5, (2 ^ 14), (4 * 2 ^ 188), 0, 0, by decide +kernel⟩,
   ⟨mcs false (2 ^ 14) (5 * 2 ^ 188), 5, (2 ^ 14), (5 * 2 ^ 188), 0, 0, by decide +kernel⟩,
   ⟨mcs false (2 ^ 14) (13 * 2 ^ 188), 5, (2 ^ 14), (13 * 2 ^ 188), 0, 0, by decide +kernel⟩,
   ⟨mcs false (2 ^ 14) (6 * 2 ^ 188), 5, (2 ^ 14), (6 * 2 ^ 188), 0, 0, 0, by decide +kernel⟩,
   ⟨mcs false (2 ^ 14) (7 * 2 ^ 188), 5, (2 ^ 14), (7 * 2 ^ 188), 0, 0, 0, by decide +kernel⟩⟩

theorem wit_CheckCodeCorrectsTwoDetectsThree :
    (∃ i : Nat, (i < 80)) ∧
    (∃ i j : Nat, (i < j) ∧ (j < 80)) ∧
    (∃ i j k : Nat, (i < j) ∧ (j < k) ∧ (k < 80)) :=
  ⟨⟨79, by decide +kernel⟩,
   ⟨78, 79, by decide +kernel⟩,
   ⟨77, 78, 79, by decide +kernel⟩⟩

theorem wit_BufferWritesReadBack :
    (∃ (s : State) (a n v : Nat), ((a + n ≤ s.pair BM_CODE_BASE_LO BM_CODE_BASE_HI ∨ s.pair BM_CODE_BASE_LO BM_CODE_BASE_HI + s.g BM_CODE_SIZE_MIB * 2 ^ 20 ≤ a))) ∧
    (∃ (s : State) (a n v b : Nat), (s.pair BM_CODE_BASE_LO BM_CODE_BASE_HI ≤ a) ∧ (a + n ≤ s.pair BM_CODE_BASE_LO BM_CODE_BASE_HI + s.g BM_CODE_SIZE_MIB * 2 ^ 20)) :=
  ⟨⟨fl [], 100, 4, 0x01020304, by decide +kernel⟩,
   ⟨fl [(⟨BM_CODE_BASE_LO, 0, 32⟩, 4096), (BM_CODE_SIZE_MIB, 1)], 4100, 8, 5, 4101, by decide +kernel⟩⟩

theorem wit_HostWindowEntries :
    (∃ (s : State) (v : Word), (s.g DM_HWT_ADDR_WORD < 3)) ∧
    (∃ (s : State) (v : Word) (x0 x1 x2 : Nat), (s.g DM_HWT_ADDR_WORD = 3) ∧ (s.dm.staged = [(0, x0), (1, x1), (2, x2)])) ∧
    (∃ (s : State) (w o n : Nat) (wr : Bool), (s.is DM_HWT_CTL_EN = true) ∧ (w < 16384) ∧ (o < 2 ^ 50)) :=
  ⟨⟨fl [], 7, by decide +kernel⟩,
   ⟨{ fl [(DM_HWT_ADDR_WORD, 3)] with dm := { staged := [(0, 5), (1, 6), (2, 7)] } }, 9, 5, 6, 7, by decide +kernel⟩,
   ⟨fl [(DM_HWT_CTL_EN, 1)], 3, 100, 16, true, by decide +kernel⟩⟩

theorem wit_ArrayCommandsComplete :
    (∃ (s : State) (slot : Fin 64) (stripe : BitVec 40) (u0 u1 : Fin 256) (ce : Nat) (lost : List (Nat × Bool)),
    let x := s.jdRead ce lost
    let g := x.geo slot.val
    (x.g AR_CTL_STATE = stOn) ∧ (u0.val ≤ u1.val) ∧ (u1.val < g.sz) ∧ (0 < g.k) ∧ (stripe.toNat < g.rows * g.q) ∧ (x.rb.claims.contains (slot.val, stripe.toNat) = false) ∧ (x.stripeComing slot.val stripe.toNat = false) ∧ ((g.range stripe.toNat u0.val u1.val).any (fun b => (x.jNewest (x.ownerOf slot.val) b (fun r => r.ready)).isSome) = true)) ∧
    (∃ (s : State) (slot : Fin 64) (stripe : BitVec 40) (u0 u1 : Fin 256) (ce : Nat) (lost : List (Nat × Bool)),
    let x := s.jdRead ce lost
    let g := x.geo slot.val
    (x.g AR_CTL_STATE = stOn) ∧ (u0.val ≤ u1.val) ∧ (u1.val < g.sz) ∧ (0 < g.k) ∧ (stripe.toNat < g.rows * g.q) ∧ (x.rb.claims.contains (slot.val, stripe.toNat) = false) ∧ (x.stripeComing slot.val stripe.toNat = false) ∧ ((g.range stripe.toNat u0.val u1.val).any (fun b => (x.jNewest (x.ownerOf slot.val) b (fun r => r.ready)).isSome) = true) ∧ (x.ar.gather = []) ∧ (x.gatherNeed { vol := slot.val, stripe := stripe.toNat, u0 := u0.val, u1 := u1.val } = [])) ∧
    (∃ (s : State) (jseq : BitVec 64) (member : Fin 96) (w : StripeWrite), (s.ar.stripes.find? (fun w => w.jseq == jseq.toNat && w.strips.any (fun x => x.member == member.val)) = some w) ∧ (s.stripTurn w member.val = true) ∧ ((w.strips.filter (fun x => x.member == member.val)).any (fun x => x.bad) = false) ∧ ((w.strips.filter (fun x => x.member == member.val)).all (fun x => x.blocks.all (fun b => x.done.contains b.1)) = true)) ∧
    (∃ (s : State) (jseq : BitVec 64) (member : Fin 96) (w : StripeWrite), (s.ar.stripes.find? (fun w => w.jseq == jseq.toNat && w.strips.any (fun x => x.member == member.val)) = some w) ∧ (s.stripTurn w member.val = true) ∧ ((w.strips.filter (fun x => x.member == member.val)).any (fun x => x.bad) = true)) ∧
    (∃ (s : State) (member : Fin 96), (s.ar.armed.contains member.val = true) ∧ (s.mem member.val = memUnavailable ∨ s.mem member.val = memCatchup) ∧ (s.timersHeld = false)) ∧
    (∃ (s : State) (hi : Word), (s.g AR_CTL_STATE = stOn) ∧ (s.ar.pe.length < 65)) ∧
    (∃ (s : State) (hi : Word), (s.g AR_CTL_STATE ≠ stOn ∨ 65 ≤ s.ar.pe.length)) ∧
    (∃ (s : State), (s.g AR_PAT_ADDR_WORD < 23)) ∧
    (∃ (s : State) (v : Word), (s.g AR_PAT_ADDR_WORD < 23) ∧ (s.patBusy (s.g AR_PAT_ADDR_PATTERN) = false)) ∧
    (∃ (s : State), (s.g AR_PAT_ADDR_WORD = 23)) ∧
    (∃ (s : State) (v : Word), (24 ≤ s.g AR_PAT_ADDR_WORD)) :=
  ⟨⟨{ fl [(AR_CTL_STATE, stOn), (AR_VOL_GEOM_K 0, 1), (AR_VOL_GEOM_SLOG2 0, 4), (AR_VOL_ROWS_ROWS 0, 1), (AR_VOL_SET_MEMBERS 0 0, 1), (RB_RS_STAT_STATE, rsNone)] with jn := { recs := [{ typ := tData, vol := 0, block := 0, nblk := 1, ready := true, durable := true, data := [(0, 0)] }] } }, 0, 0, 0, 0, 0, [], by decide +kernel⟩,
   ⟨{ fl [(AR_CTL_STATE, stOn), (AR_VOL_GEOM_K 0, 1), (AR_VOL_GEOM_SLOG2 0, 4), (AR_VOL_ROWS_ROWS 0, 1), (AR_VOL_SET_MEMBERS 0 0, 1), (RB_RS_STAT_STATE, rsNone)] with jn := { recs := [{ typ := tData, vol := 0, block := 0, nblk := 1, ready := true, durable := true, data := [(0, 0)] }] } }, 0, 0, 0, 0, 0, [], by decide +kernel⟩,
   ⟨{ ar := { stripes := [{ vol := 0, stripe := 0, u0 := 0, u1 := 0, wseq := 1, jseq := 5, verify := false, going := true, deadline := 0, strips := [{ pos := 0, member := 3, mba := 0, blocks := [], held := false }] }] }, regs := (fl [(memField 3, memAvailable)]).regs }, 5, 3, { vol := 0, stripe := 0, u0 := 0, u1 := 0, wseq := 1, jseq := 5, verify := false, going := true, deadline := 0, strips := [{ pos := 0, member := 3, mba := 0, blocks := [], held := false }] }, by decide +kernel⟩,
   ⟨{ ar := { stripes := [{ vol := 0, stripe := 0, u0 := 0, u1 := 0, wseq := 1, jseq := 5, verify := false, going := true, deadline := 0, strips := [{ pos := 0, member := 3, mba := 0, blocks := [], held := false, bad := true }] }] }, regs := (fl [(memField 3, memAvailable)]).regs }, 5, 3, { vol := 0, stripe := 0, u0 := 0, u1 := 0, wseq := 1, jseq := 5, verify := false, going := true, deadline := 0, strips := [{ pos := 0, member := 3, mba := 0, blocks := [], held := false, bad := true }] }, by decide +kernel⟩,
   ⟨{ fl [(memField 3, memCatchup), (PW_CHAIN_GAP, 0)] with ar := { armed := [3] } }, 3, by decide +kernel⟩,
   ⟨fl [(AR_CTL_STATE, stOn)], 0, by decide +kernel⟩,
   ⟨fl [(AR_CTL_STATE, stOff)], 0, by decide +kernel⟩,
   ⟨fl [(AR_PAT_ADDR_WORD, 22)], by decide +kernel⟩,
   ⟨fl [(AR_PAT_ADDR_WORD, 0), (AR_PAT_ADDR_PATTERN, 0)], 7, by decide +kernel⟩,
   ⟨fl [(AR_PAT_ADDR_WORD, 23)], by decide +kernel⟩,
   ⟨fl [(AR_PAT_ADDR_WORD, 24)], 7, by decide +kernel⟩⟩

theorem wit_JournalCommandsComplete :
    (∃ (s : State) (r : JRec) (rest : List JRec), (s.mayCommit = true) ∧ (s.jn.waiting = r :: rest) ∧ (s.jn.head % ringLen + r.len ≤ ringLen) ∧ (r.len ≤ ringLen - s.ringHeldBack) ∧ (s.edRoom r.parts = true)) ∧
    (∃ (s : State) (c : JRec), (s.jn.commit = some c) ∧ (s.anyDie = true)) ∧
    (∃ (s : State), (s.die 0 = true)) ∧
    (∃ (s : State), (s.die 1 = true)) ∧
    (∃ (s : State) (d : Fin 2), (s.die d.val = true)) ∧
    (∃ (s : State), (s.g JN_CTL_STATE = stOn ∨ s.g JN_CTL_STATE = stStopping)) ∧
    (∃ (s : State), (s.is JN_MIRROR_RESYNC = true)) ∧
    (∃ (s : State), (s.mode = mMaint) ∧ (s.g JN_CTL_STATE = stOff)) ∧
    (∃ (s : State), (s.mode ≠ mMaint)) ∧
    (∃ (s : State), (s.mode = mMaint) ∧ (s.g JN_CTL_STATE ≠ stOff)) ∧
    (∃ (s : State) (j pair : Nat) (r : JRec), (s.jn.spillJob = some (j, pair)) ∧ (pair ≠ 8) ∧ (s.jRec j = some r) ∧ (r.retired = false) ∧ (s.copiesDone r = true)) ∧
    (∃ (s : State) (dies : BitVec 2) (ce : Nat) (lost : List (Nat × Bool)), (s.g JN_CTL_STATE = stStarting) ∧ (dies ≠ 0) ∧
    let u := ((s.p JN_REPLAY_PHASE 1).p JN_MIRROR_D0_OK (b2n (dies.getLsbD 0))).p JN_MIRROR_D1_OK (b2n (dies.getLsbD 1))
    let v := if dies.getLsbD 0 then u else u.dieFail 0
    let w := if dies.getLsbD 1 then v else v.dieFail 1
    (w.superblock.isSome = true)) ∧
    (∃ (s : State) (sb : Bool) (ce : Nat) (lost : List (Nat × Bool)), (s.g JN_CTL_STATE = stStarting)) :=
  ⟨⟨{ fl [(JN_CTL_STATE, stOn), (JN_MIRROR_D0_OK, 1)] with jn := { waiting := [{ typ := tRetire }] } }, { typ := tRetire }, [], by decide +kernel⟩,
   ⟨{ fl [(JN_MIRROR_D1_OK, 1)] with jn := { commit := some { typ := tRetire } } }, { typ := tRetire }, by decide +kernel⟩,
   ⟨fl [(JN_MIRROR_D0_OK, 1)], by decide +kernel⟩,
   ⟨fl [(JN_MIRROR_D1_OK, 1)], by decide +kernel⟩,
   ⟨fl [(JN_MIRROR_D1_OK, 1)], 1, by decide +kernel⟩,
   ⟨fl [(JN_CTL_STATE, stStopping)], by decide +kernel⟩,
   ⟨fl [(JN_MIRROR_RESYNC, 1)], by decide +kernel⟩,
   ⟨fl [(MD_MODE_MODE, mMaint), (JN_CTL_STATE, stOff)], by decide +kernel⟩,
   ⟨fl [(MD_MODE_MODE, mService)], by decide +kernel⟩,
   ⟨fl [(MD_MODE_MODE, mMaint), (JN_CTL_STATE, stOn)], by decide +kernel⟩,
   ⟨{ jn := { spillJob := some (5, 3), spillDone := [(0, 0), (1, 0)], recs := [{ typ := tData, jseq := 5 }] } }, 5, 3, { typ := tData, jseq := 5 }, by decide +kernel⟩,
   ⟨{ fl [(JN_CTL_STATE, stStarting), (JN_REPLAY_PHASE, 0), (JN_MIRROR_D0_OK, 0)] with jn := {} }, 3, 0, [], by decide +kernel⟩,
   ⟨fl [(JN_CTL_STATE, stStarting)], true, 0, [], by decide +kernel⟩⟩

theorem wit_JournalImagesAreValid :
    (∃ r : JRec, ((r.typ = tData ∨ r.typ = tStripe ∨ r.typ = tRetire ∨ r.typ = tPad)) ∧ (r.jseq < 2 ^ 64) ∧ (1 ≤ r.len) ∧ (r.len < 2 ^ 32) ∧ (r.payload < 2 ^ (512 * (r.len - 1)))) ∧
    (∃ b : Superblock, (b.gen < 2 ^ 32) ∧ (b.tailJ < 2 ^ 64)) ∧
    (∃ (s : State) (d a : Nat), (a < 4096)) ∧
    (∃ (s : State) (d k : Nat) (r : JRec), ((s.jd d).ring.getLast? = some r) ∧ (k < r.len) ∧ (r.gran % ringLen + k < ringLen)) ∧
    (∃ (s : State) (d a v : Nat), (s.mram d a = some v)) :=
  ⟨⟨{ typ := tStripe, jseq := 9, len := 1 }, by decide +kernel⟩,
   ⟨{ gen := 2 ^ 32 - 1, tailJ := 7, tailGran := 33030144, valid := false }, by decide +kernel⟩,
   ⟨fl [], 1, 4095, by decide +kernel⟩,
   ⟨{ jn := { jd1 := { ring := [{ typ := tPad, len := 2, gran := 33030142 }] } } }, 1, 1, { typ := tPad, len := 2, gran := 33030142 }, by decide +kernel⟩,
   ⟨fl [], 1, 0x7E000001, 0, by decide +kernel⟩⟩

theorem wit_SectorCommandsComplete :
    (∃ (s : State) (c : Fin 32) (op : SecOp) (around : BitVec 56) (resync : List (BitVec 46)) (fofs : BitVec 16)
      (s0 s1 : BitVec 221184) (ue last : Bool), (op.purpose = .demand) ∧ (s.hasSector c.val op = true) ∧ ((s.ch c.val).cut ≠ 2) ∧ (s.routed c.val op.member = true) ∧ (s.mayRead c.val = true) ∧ ((s.pa (c.val / 4)).fltLow = false)) ∧
    (∃ (s : State) (c : Fin 32) (cw : BitVec 36480) (iter : Nat) (j : DecJob) (rest : List DecJob), ((s.ch c.val).dec = j :: rest) ∧ (j.op.purpose = .demand)) ∧
    (∃ (s : State) (c : Fin 32) (op : SecOp) (completed last : Bool) (x : Nat × Nat), (s.writeSource op = some x) ∧ (s.hasSector c.val op = true) ∧ (s.routed c.val op.member = true) ∧ (s.mayWrite c.val = true)) ∧
    (∃ (s : State) (c : Fin 32) (op : SecOp) (last : Bool) (data w : Nat), (op.purpose = .strip) ∧ (s.writeSource op = some (data, w)) ∧ (s.hasSector c.val op = true) ∧ (s.routed c.val op.member = true) ∧ (s.mayWrite c.val = true) ∧ ((s.ch c.val).cut ≠ 1) ∧ (s.rewriteOf op.member op.mba = none)) ∧
    (∃ (s : State) (c : Fin 32) (cw : BitVec 36480) (iter k : Nat) (j : DecJob) (rest : List DecJob), ((s.ld (c.val / 4)).solo.find? (fun x => x.ch == c.val) = none) ∧ ((s.ch c.val).dec = j :: rest) ∧ (j.op.purpose = .verify k)) ∧
    (∃ (s : State) (a : Fin 8) (l : Ladder), ((s.ld a.val).lateRun = none) ∧ ((s.ld a.val).queue = [l]) ∧ (l.phase = 0) ∧ (s.abandoned l = false) ∧ (s.slotGood l.slot = true)) ∧
    (∃ (s : State) (a : Fin 8) (cw : BitVec 36480) (iter unsat c : Nat), ((s.ld a.val).lateRun = some c)) ∧
    (∃ (s : State) (a : Fin 8) (cw : BitVec 36480) (iter unsat : Nat) (l : Ladder) (t : Int) (rest : List Int), ((s.ld a.val).lateRun = none) ∧ ((s.ld a.val).queue.find? (fun l => l.phase == 1) = some l) ∧ (l.won = true) ∧ (l.rung = 1) ∧ (l.left = t :: rest)) ∧
    (∃ (s : State) (a : Fin 8) (cw : BitVec 36480) (iter unsat : Nat) (l : Ladder) (t : Int) (rest : List Int), ((s.ld a.val).lateRun = none) ∧ ((s.ld a.val).queue.find? (fun l => l.phase == 1) = some l) ∧ (l.won = false) ∧ (s.abandoned l = false) ∧ (l.rung = 1) ∧ (l.rereads = 0) ∧ (l.left = t :: rest)) ∧
    (∃ (s : State) (c : Fin 32) (mba : BitVec 40) (l : Ladder), ((s.ld (c.val / 4)).queue.find? (fun l => l.ch == c.val && l.op.mba == mba.toNat && !l.won) = some l) ∧ (s.timersHeld = false) ∧ (l.phase = 1)) ∧
    (∃ (s : State) (c : Fin 32) (mba : BitVec 40) (l : Ladder), ((s.ld (c.val / 4)).queue.find? (fun l => l.ch == c.val && l.op.mba == mba.toNat && !l.won) = some l) ∧ (s.timersHeld = false) ∧ (l.phase = 0 ∨ l.phase = 2)) :=
  ⟨⟨fl [(CH_CTL_STATE 5, stOn), (CH_HEADSEL_ACTIVE 5, 3), (SV_HEADS_RD_OK 1, 15), (CH_ZTA_SPT 5 0, 400), (CH_HEADSEL_PENDING 5, 0)], 5, { member := 15, mba := 0, zone := 0, wedge := 0, sector := 0, purpose := .demand }, 0, [], 0, 0, 0, false, false, by decide +kernel⟩,
   ⟨{ chT := [(5, { dec := [{ op := { member := 15, mba := 0, zone := 0, wedge := 0, sector := 0, purpose := .demand }, slot := none, sync := none, syncErr := 0, maxIter := 24, early := true, off := 0 }] })] }, 5, 0, 0, { op := { member := 15, mba := 0, zone := 0, wedge := 0, sector := 0, purpose := .demand }, slot := none, sync := none, syncErr := 0, maxIter := 24, early := true, off := 0 }, [], by decide +kernel⟩,
   ⟨{ fl [(CH_CTL_STATE 5, stOn), (CH_HEADSEL_ACTIVE 5, 3), (SV_HEADS_WR_OK 1, 15), (CH_ZTA_SPT 5 0, 400), (CH_STAT_PA_FAULT 4, 0), (CH_STAT_PA_FAULT 5, 0), (CH_STAT_PA_FAULT 6, 0), (CH_STAT_PA_FAULT 7, 0), (memField 15, memAvailable), (CH_HEADSEL_PENDING 5, 0)] with ar := { stripes := [{ vol := 0, stripe := 0, u0 := 0, u1 := 0, wseq := 1, jseq := 5, verify := false, going := true, deadline := 0, strips := [{ pos := 0, member := 15, mba := 0, blocks := [(0, 9)] }] }] } }, 5, { member := 15, mba := 0, zone := 0, wedge := 0, sector := 0, purpose := .strip }, false, false, (9, 65792), by decide +kernel⟩,
   ⟨{ fl [(CH_CTL_STATE 5, stOn), (CH_HEADSEL_ACTIVE 5, 3), (SV_HEADS_WR_OK 1, 15), (CH_ZTA_SPT 5 0, 400), (CH_STAT_PA_FAULT 4, 0), (CH_STAT_PA_FAULT 5, 0), (CH_STAT_PA_FAULT 6, 0), (CH_STAT_PA_FAULT 7, 0), (memField 15, memAvailable), (CH_HEADSEL_PENDING 5, 0)] with ar := { stripes := [{ vol := 0, stripe := 0, u0 := 0, u1 := 0, wseq := 1, jseq := 5, verify := false, going := true, deadline := 0, strips := [{ pos := 0, member := 15, mba := 0, blocks := [(0, 9)] }] }] } }, 5, { member := 15, mba := 0, zone := 0, wedge := 0, sector := 0, purpose := .strip }, false, 9, 65792, by decide +kernel⟩,
   ⟨{ chT := [(5, { dec := [{ op := { member := 15, mba := 0, zone := 0, wedge := 0, sector := 0, purpose := .verify 1 }, slot := none, sync := none, syncErr := 0, maxIter := 24, early := true, off := 0 }] })] }, 5, 0, 0, 1, { op := { member := 15, mba := 0, zone := 0, wedge := 0, sector := 0, purpose := .verify 1 }, slot := none, sync := none, syncErr := 0, maxIter := 24, early := true, off := 0 }, [], by decide +kernel⟩,
   ⟨{ ldT := [(7, { queue := [{ ch := 28, op := { member := 84, mba := 0, zone := 0, wedge := 0, sector := 0, purpose := .demand }, slot := some (28, 0), sync := none, undec := false }] })] }, 7, { ch := 28, op := { member := 84, mba := 0, zone := 0, wedge := 0, sector := 0, purpose := .demand }, slot := some (28, 0), sync := none, undec := false }, by decide +kernel⟩,
   ⟨{ ldT := [(7, { lateRun := some 28 })] }, 7, 0, 0, 0, 28, by decide +kernel⟩,
   ⟨{ ldT := [(7, { queue := [{ ch := 28, op := { member := 84, mba := 0, zone := 0, wedge := 0, sector := 0, purpose := .demand }, slot := some (28, 0), sync := none, undec := false, phase := 1, rung := 1, won := true, left := [3] }] })] }, 7, 0, 0, 0, { ch := 28, op := { member := 84, mba := 0, zone := 0, wedge := 0, sector := 0, purpose := .demand }, slot := some (28, 0), sync := none, undec := false, phase := 1, rung := 1, won := true, left := [3] }, 3, [], by decide +kernel⟩,
   ⟨{ ldT := [(7, { queue := [{ ch := 28, op := { member := 84, mba := 0, zone := 0, wedge := 0, sector := 0, purpose := .demand }, slot := some (28, 0), sync := none, undec := false, phase := 1, rung := 1, left := [3, 4] }] })] }, 7, 0, 0, 0, { ch := 28, op := { member := 84, mba := 0, zone := 0, wedge := 0, sector := 0, purpose := .demand }, slot := some (28, 0), sync := none, undec := false, phase := 1, rung := 1, left := [3, 4] }, 3, [4], by decide +kernel⟩,
   ⟨{ fl [(PW_CHAIN_GAP, 0)] with ldT := [(7, { queue := [{ ch := 28, op := { member := 84, mba := 0, zone := 0, wedge := 0, sector := 0, purpose := .demand }, slot := some (28, 0), sync := none, undec := false, phase := 1 }] })] }, 28, 0, { ch := 28, op := { member := 84, mba := 0, zone := 0, wedge := 0, sector := 0, purpose := .demand }, slot := some (28, 0), sync := none, undec := false, phase := 1 }, by decide +kernel⟩,
   ⟨{ fl [(PW_CHAIN_GAP, 0)] with ldT := [(7, { queue := [{ ch := 28, op := { member := 84, mba := 0, zone := 0, wedge := 0, sector := 0, purpose := .demand }, slot := some (28, 0), sync := none, undec := false, phase := 2 }] })] }, 28, 0, { ch := 28, op := { member := 84, mba := 0, zone := 0, wedge := 0, sector := 0, purpose := .demand }, slot := some (28, 0), sync := none, undec := false, phase := 2 }, by decide +kernel⟩⟩

theorem wit_BootAndSecurityCommandsComplete :
    (∃ (s : State), (s.mode = mBoot) ∧ (s.g BT_BOOT_STAGE = 0) ∧ (s.is BT_STAT_NO_IMAGE = false)) ∧
    (∃ (s : State), (s.is BT_CMD_BUSY = false) ∧ (s.g BT_BOOT_STAGE ≠ 0) ∧ (s.bit BT_GATE_DONE (s.g BT_GATE_STAGE) = false) ∧ (2 ≤ Image.stTyp s.bt.hdr (s.g BT_GATE_STAGE)) ∧ (Image.stTyp s.bt.hdr (s.g BT_GATE_STAGE) ≤ 4)) ∧
    (∃ (s : State) (i : Nat), (s.bt.gating = some i)) ∧
    (∃ (s : State), (s.is BT_CMD_BUSY = false) ∧ (s.serving = true) ∧ (s.g CM_ACT_PHASE = 0)) ∧
    (∃ (s : State), (s.is BT_CMD_BUSY = true) ∧ (s.bt.gating = none)) ∧
    (∃ (s : State), (s.is BT_CMD_BUSY = false) ∧ (s.g BT_SVN_VK = 1)) ∧
    (∃ (s : State) (o : FsOp), (s.bt.fsLate = false) ∧ (s.bt.fsOp = some o)) ∧
    (∃ (s : State), (s.bt.fsLate = true)) ∧
    (∃ (s : State) (o : FsOp), (s.bt.fsOp = some o)) ∧
    (∃ (s : State), (s.bt.recDue = true)) :=
  ⟨⟨fl [(MD_MODE_MODE, mBoot), (BT_BOOT_STAGE, 0), (BT_STAT_NO_IMAGE, 0)], by decide +kernel⟩,
   ⟨{ fl [(BT_CMD_BUSY, 0), (BT_BOOT_STAGE, 1), (BT_GATE_STAGE, 1)] with bt := { hdr := 2 * 2 ^ (8 * 0x70) } }, by decide +kernel⟩,
   ⟨{ bt := { gating := some 1 } }, 1, by decide +kernel⟩,
   ⟨fl [(BT_CMD_BUSY, 0), (MD_MODE_MODE, mMaint), (CM_ACT_PHASE, 0)], by decide +kernel⟩,
   ⟨{ fl [(BT_CMD_BUSY, 1)] with bt := { gating := none } }, by decide +kernel⟩,
   ⟨fl [(BT_CMD_BUSY, 0), (BT_SVN_VK, 1)], by decide +kernel⟩,
   ⟨{ bt := { fsOp := some { id := 1, slot := 0, page := 0, n := 1 } } }, { id := 1, slot := 0, page := 0, n := 1 }, by decide +kernel⟩,
   ⟨{ bt := { fsLate := true } }, by decide +kernel⟩,
   ⟨{ bt := { fsOp := some { id := 1, slot := 0, page := 0, n := 1 } } }, { id := 1, slot := 0, page := 0, n := 1 }, by decide +kernel⟩,
   ⟨{ bt := { recDue := true } }, by decide +kernel⟩⟩

theorem wit_BufferMemoryCommandsComplete :
    (∃ (s : State) (addr : BitVec 64) (flips : BitVec 80) (row : Nat) (first : BitVec 64) (rank : Fin 2) (who : BufUser), (s.g BM_CTL_STATE = stStopping)) ∧
    (∃ (s : State) (addr : BitVec 64) (flips : BitVec 80) (row : Nat) (first : BitVec 64) (rank : Fin 2) (who : BufUser), (s.g BM_CTL_STATE ≠ stStopping) ∧ (s.bmBytes ≤ addr.toNat)) ∧
    (∃ (s : State) (addr : BitVec 64) (flips : BitVec 80) (row : Nat) (first : BitVec 64) (rank : Fin 2) (who : BufUser) (core : Nat), (s.g BM_CTL_STATE ≠ stStopping) ∧ (addr.toNat < s.bmBytes) ∧ (s.fetchEarly addr.toNat who = some core)) ∧
    (∃ (s : State) (addr : BitVec 64) (flips : BitVec 80) (row : Nat) (first : BitVec 64) (rank : Fin 2) (who : BufUser), (s.g BM_CTL_STATE ≠ stStopping) ∧ (addr.toNat < s.bmBytes) ∧ (s.fetchEarly addr.toNat who = none)) ∧
    (∃ (s : State) (flips : List (Nat × BitVec 80)) (row : Nat) (first : BitVec 64), (s.g BM_CTL_STATE = stOn) ∧ (0 < s.g BM_SCRUB_CFG_PERIOD) ∧ (0 < s.bmBytes)) ∧
    (∃ (s : State) (c : Fin 32) (slot : Fin 4), (s.is BM_SCRUB_CFG_SRAM_EN = true)) ∧
    (∃ (s : State) (w : SramWord), (s.is BM_SCRUB_CFG_SRAM_EN = true)) ∧
    (∃ (s : State) (v : Fin 64), (bitOf s.bm.hold v.val = 1)) ∧
    (∃ (s : State) (chan : Fin 4) (fine : Bool) (temp : BitVec 8), (s.g BM_CTL_STATE = stOn)) :=
  ⟨⟨fl [(BM_CTL_STATE, stStopping)], 5, 0, 0, 0, 0, .other, by decide +kernel⟩,
   ⟨fl [(BM_SIZE_MIB, 0)], 5, 0, 0, 0, 0, .other, by decide +kernel⟩,
   ⟨fl [(BM_SIZE_MIB, 4), (BM_CODE_SIZE_MIB, 1)], 5, 0, 0, 0, 0, .fetch 2 0, 2, by decide +kernel⟩,
   ⟨fl [(BM_SIZE_MIB, 4), (BM_CODE_SIZE_MIB, 1)], 5, 0, 0, 0, 0, .other, by decide +kernel⟩,
   ⟨fl [(BM_CTL_STATE, stOn), (BM_SCRUB_CFG_PERIOD, 1), (BM_SIZE_MIB, 4)], [], 0, 0, by decide +kernel⟩,
   ⟨fl [(BM_SCRUB_CFG_SRAM_EN, 1)], 31, 3, by decide +kernel⟩,
   ⟨fl [(BM_SCRUB_CFG_SRAM_EN, 1)], .sample 0 0, by decide +kernel⟩,
   ⟨{ bm := { hold := 2 ^ 63 } }, 63, by decide +kernel⟩,
   ⟨fl [(BM_CTL_STATE, stOn)], 3, true, 90, by decide +kernel⟩⟩

theorem wit_ChannelCommandsComplete :
    (∃ (s : State) (c : Fin 32) (head : Fin 16) (fw : Bool), (s.mode = (if fw then mMaint else mService)) ∧ ((s.ch c.val).rdGate = true ∨ (s.ch c.val).wrGate = true)) ∧
    (∃ (s : State) (c : Fin 32) (head : Fin 16) (fw : Bool), (s.mode = (if fw then mMaint else mService)) ∧ ((s.ch c.val).rdGate = false) ∧ ((s.ch c.val).wrGate = false)) ∧
    (∃ (s : State) (c : Fin 32), (s.is (CH_HEADSEL_PENDING c.val) = true) ∧ ((s.ch c.val).rdGate = false) ∧ ((s.ch c.val).wrGate = false)) ∧
    (∃ (s : State) (c : Fin 32) (h : Nat), ((s.ch c.val).settling = some h) ∧ (((s.paFlush (c.val / 4)).pa (c.val / 4)).hw.any (fun f => f.addr == 1 + c.val % 4) = false)) :=
  ⟨⟨{ fl [(MD_MODE_MODE, mMaint)] with chT := [(31, { rdGate := true })] }, 31, 11, true, by decide +kernel⟩,
   ⟨fl [(MD_MODE_MODE, mService)], 31, 11, false, by decide +kernel⟩,
   ⟨fl [(CH_HEADSEL_PENDING 31, 1)], 31, by decide +kernel⟩,
   ⟨{ chT := [(31, { settling := some 3 })] }, 31, 3, by decide +kernel⟩⟩

theorem wit_PreampBusCommandsComplete :
    (∃ (s : State) (a : Fin 8) (addr : Fin 128) (data : BitVec 16), (s.is (CH_PA_CMD_BUSY (4 * a.val)) = false) ∧ (1 ≤ addr.val) ∧ (addr.val ≤ 7)) ∧
    (∃ (s : State) (a : Fin 8) (addr : Fin 128) (data : BitVec 16), (s.is (CH_PA_CMD_BUSY (4 * a.val)) = false) ∧ (addr.val = 0 ∨ 7 < addr.val)) ∧
    (∃ (s : State) (a : Fin 8) (addr : Fin 128) (data : BitVec 16), (s.is (CH_PA_CMD_BUSY (4 * a.val)) = false) ∧ (addr.val = 0 ∨ 7 < addr.val) ∧ ((s.pa a.val).busy = false) ∧ ((s.pa a.val).hw = [])) ∧
    (∃ (s : State) (a : Fin 8) (addr : Fin 128) (data : BitVec 16), (s.is (CH_PA_CMD_BUSY (4 * a.val)) = false)) ∧
    (∃ (s : State) (a : Fin 8) (data : BitVec 16) (crc : BitVec 8), ((s.pa a.val).reading = true)) ∧
    (∃ (s : State) (a : Fin 8) (data : BitVec 16) (crc : BitVec 8), ((s.pa a.val).lateDue ≠ 0)) ∧
    (∃ (s : State) (a : Fin 8), ((s.pa a.val).reading = true)) ∧
    (∃ (s : State) (a : Fin 8), ((s.pa a.val).fltLow = false)) :=
  ⟨⟨fl [(CH_PA_CMD_BUSY 28, 0)], 7, 7, 1, by decide +kernel⟩,
   ⟨fl [(CH_PA_CMD_BUSY 28, 0)], 7, 8, 1, by decide +kernel⟩,
   ⟨fl [(CH_PA_CMD_BUSY 28, 0)], 7, 0, 65535, by decide +kernel⟩,
   ⟨fl [(CH_PA_CMD_BUSY 28, 0)], 7, 127, 0, by decide +kernel⟩,
   ⟨{ paT := [(7, { reading := true })] }, 7, 1, 0, by decide +kernel⟩,
   ⟨{ paT := [(7, { lateDue := 1 })] }, 7, 1, 0, by decide +kernel⟩,
   ⟨{ paT := [(7, { reading := true })] }, 7, by decide +kernel⟩,
   ⟨fl [], 7, by decide +kernel⟩⟩

theorem wit_DmaCommandsComplete :
    (∃ (s : State) (n : Fin 64), (s.dmaLocked n.val = false) ∧ (s.dchOn n.val = true) ∧ (s.dBusy n.val = false) ∧ (s.is (DM_CH_STAT_HALTED n.val) = false)) ∧
    (∃ (s : State) (n : Fin 64), (s.dmaLocked n.val = false)) ∧
    (∃ (s : State) (n : Fin 64), (s.dmaLocked n.val = false)) ∧
    (∃ (s : State) (n : Fin 64), (s.dmaLocked n.val = false) ∧ (s.dchOn n.val = true) ∧ (s.dBusy n.val = false) ∧ (s.is (DM_CH_STAT_HALTED n.val) = false)) ∧
    (∃ (s : State) (n : Fin 64), (s.dmaLocked n.val = false) ∧ (s.dchOn n.val = true) ∧ (s.is (DM_CH_CFG_CHAIN n.val) = false) ∧ (s.dBusy n.val = true ∨ s.is (DM_CH_STAT_HALTED n.val) = true)) ∧
    (∃ (s : State) (line : Fin 128), (line.val < 96)) ∧
    (∃ (s : State) (line : Fin 128), (96 ≤ line.val)) ∧
    (∃ (s : State) (line : Fin 128), (line.val ∈ s.dm.lines)) ∧
    (∃ (s : State) (line : Fin 128), (line.val ∈ s.dm.lines)) ∧
    (∃ (s : State) (v : Word), (s.g DM_HWT_ADDR_WORD < 3)) ∧
    (∃ (s : State) (v : Word), (s.g DM_HWT_ADDR_WORD = 3)) :=
  ⟨⟨fl [(MD_MODE_MODE, mMaint), (DM_CTL_STATE, stOn), (DM_CH_CTL_STATE 63, stOn), (DM_CH_STAT_BUSY 63, 0)], 63, by decide +kernel⟩,
   ⟨fl [(MD_MODE_MODE, mService)], 40, by decide +kernel⟩,
   ⟨fl [(MD_MODE_MODE, mService)], 47, by decide +kernel⟩,
   ⟨fl [(MD_MODE_MODE, mMaint), (DM_CTL_STATE, stOn), (DM_CH_CTL_STATE 39, stOn), (DM_CH_STAT_BUSY 39, 0)], 39, by decide +kernel⟩,
   ⟨fl [(MD_MODE_MODE, mMaint), (DM_CTL_STATE, stOn), (DM_CH_CTL_STATE 39, stOn), (DM_CH_STAT_BUSY 39, 1), (DM_CH_CFG_CHAIN 39, 0)], 39, by decide +kernel⟩,
   ⟨fl [], 95, by decide +kernel⟩,
   ⟨fl [], 96, by decide +kernel⟩,
   ⟨{ dm := { lines := [5] } }, 5, by decide +kernel⟩,
   ⟨{ dm := { lines := [5] } }, 5, by decide +kernel⟩,
   ⟨fl [(DM_HWT_ADDR_WORD, 2)], 1, by decide +kernel⟩,
   ⟨fl [(DM_HWT_ADDR_WORD, 3)], 1, by decide +kernel⟩⟩

theorem wit_FaultAndEventCommandsComplete :
    (∃ (s : State) (u : Fin 60), (s.is (FT_U_STAT_HG u.val) = true) ∧ (s.timersHeld = false)) ∧
    (∃ (s : State) (u : Fin 60) (mask : Word), (s.g (FT_U_PEND_MASK u.val) ≠ 0) ∧ (BitVec.ofNat 32 (s.g (FT_U_PEND_MASK u.val)) &&& ~~~ mask = 0)) ∧
    (∃ (s : State), (s.timersHeld = false)) ∧
    (∃ (s : State) (r : EvRec) (q : List EvRec), (s.ev.clearing = none) ∧ (s.ev.queue = r :: q)) ∧
    (∃ (s : State), (s.mode ≠ mOff)) ∧
    (∃ (s : State), (s.is EV_CMD_BUSY = false) ∧ (s.mode = mMaint)) ∧
    (∃ (s : State), (s.is EV_CMD_BUSY = false) ∧ (s.mode ≠ mMaint)) ∧
    (∃ (s : State) (r : EvRec), (s.ev.clearing = some (0, r))) ∧
    (∃ (s : State) (r : EvRec), (s.ev.clearing = some (1, r))) :=
  ⟨⟨fl [(FT_U_STAT_HG 59, 1), (PW_CHAIN_GAP, 0)], 59, by decide +kernel⟩,
   ⟨fl [(FT_U_PEND_MASK 59, 2147483648)], 59, 0x80000000, by decide +kernel⟩,
   ⟨fl [(PW_CHAIN_GAP, 0)], by decide +kernel⟩,
   ⟨{ ev := { queue := [startRec], clearing := none } }, startRec, [], by decide +kernel⟩,
   ⟨fl [(MD_MODE_MODE, mSafe)], by decide +kernel⟩,
   ⟨fl [(EV_CMD_BUSY, 0), (MD_MODE_MODE, mMaint)], by decide +kernel⟩,
   ⟨fl [(EV_CMD_BUSY, 0), (MD_MODE_MODE, mService)], by decide +kernel⟩,
   ⟨{ ev := { clearing := some (0, startRec) } }, startRec, by decide +kernel⟩,
   ⟨{ ev := { clearing := some (1, startRec) } }, startRec, by decide +kernel⟩⟩

theorem wit_FunctionCommandsComplete :
    (∃ (s : State) (f : Func), (s.fnLocked f = false) ∧ (s.g (Func.st f) = stOff)) ∧
    (∃ (s : State) (f : Func), (s.fnLocked f = false) ∧ (s.g (Func.st f) ≠ stOff)) ∧
    (∃ (s : State) (f : Func), (s.fnLocked f = false) ∧ (s.g (Func.st f) = stOn)) ∧
    (∃ (s : State) (f : Func), (s.fnLocked f = false) ∧ (s.g (Func.st f) ≠ stOn)) ∧
    (∃ (s : State) (v : Fin 64) (bad : BitVec 4), (s.g (Func.st (.vol v)) = stStarting)) ∧
    (∃ (s : State) (bad : BitVec 4), (s.g (Func.st .rb) = stStarting) ∧ (s.g JN_CTL_STATE = stOn)) ∧
    (∃ (s : State) (bad : BitVec 4), (s.g (Func.st .ar) = stStarting)) ∧
    (∃ (s : State) (bad : BitVec 4), (s.g (Func.st .hc) = stStarting)) ∧
    (∃ (s : State) (f : Func) (bad : BitVec 4), ((∀ v, f ≠ .vol v)) ∧ (f ≠ .rb) ∧ (f ≠ .ar) ∧ (f ≠ .hc) ∧ (s.g (Func.st f) = stStarting) ∧ (s.startReady f = true)) ∧
    (∃ (s : State) (f : Func), (s.g (Func.st f) = stStopping) ∧ (s.stopReady f = true)) :=
  ⟨⟨fl [(Func.st (.ch 31), stOff)], .ch 31, by decide +kernel⟩,
   ⟨fl [(Func.st (.ch 31), stStopping)], .ch 31, by decide +kernel⟩,
   ⟨fl [(Func.st (.sp 3), stOn)], .sp 3, by decide +kernel⟩,
   ⟨fl [(Func.st .lk, stStarting)], .lk, by decide +kernel⟩,
   ⟨fl [(Func.st (.vol 63), stStarting)], 63, 0, by decide +kernel⟩,
   ⟨fl [(Func.st .rb, stStarting), (JN_CTL_STATE, stOn)], 0, by decide +kernel⟩,
   ⟨fl [(Func.st .ar, stStarting)], 0, by decide +kernel⟩,
   ⟨fl [(Func.st .hc, stStarting)], 0, by decide +kernel⟩,
   ⟨fl [(Func.st .qm, stStarting), (BM_CTL_STATE, stOn)], .qm, 0, by simp, by decide +kernel⟩,
   ⟨fl [(Func.st .bm, stStopping)], .bm, by decide +kernel⟩⟩

theorem wit_HostCacheCommandsComplete :
    (∃ (s : State) (req : Fin 16) (addr : BitVec 64) (host : Nat), (req.val ≠ 1) ∧ (s.reqAddr req.val (addr.toNat / 16 * 16) 16 false = some host)) ∧
    (∃ (s : State) (req : Fin 16) (addr : BitVec 64) (host i : Nat) (l : HcLine), (req.val ≠ 1) ∧ (s.reqAddr req.val (addr.toNat / 16 * 16) 16 false = some host) ∧ (s.hcFind (host / 128) = some (i, l)) ∧ (l.state = 2)) ∧
    (∃ (s : State) (req : Fin 16) (addr : BitVec 64) (len : Fin 129) (data : BitVec 1024) (host : Nat), (req.val ≠ 0) ∧ (req.val ≠ 2) ∧ (0 < len.val) ∧ (addr.toNat % 128 + len.val ≤ 128) ∧ (s.reqAddr req.val addr.toNat len.val true = some host)) ∧
    (∃ (s : State), (s.is HC_MAINT_BUSY = false)) ∧
    (∃ (s : State), (s.is HC_MAINT_BUSY = false)) ∧
    (∃ (s : State), (s.is HC_MAINT_BUSY = true)) :=
  ⟨⟨fl [], 4, 0x1234, 0x1230, by decide +kernel⟩,
   ⟨{ hc := { lines := [(0, { addr := 0, state := 2 })] } }, 4, 5, 0, 0, { addr := 0, state := 2 }, by decide +kernel⟩,
   ⟨fl [], 1, 120, 8, 7, 120, by decide +kernel⟩,
   ⟨fl [(HC_MAINT_BUSY, 0)], by decide +kernel⟩,
   ⟨fl [(HC_MAINT_BUSY, 0)], by decide +kernel⟩,
   ⟨fl [(HC_MAINT_BUSY, 1)], by decide +kernel⟩⟩

theorem wit_QueueCommandsComplete :
    (∃ (s : State) (q : BitVec 20) (cq : Bool) (src : BitVec 12) (tag : BitVec 16) (rspReq : Bool), (s.g LK_CTL_STATE = stOn) ∧ (s.is LK_ID_VALID = true) ∧ (s.mode ≠ mBoot) ∧ ((s.g QM_CTL_STATE = stOn ∨ s.g QM_CTL_STATE = stStopping))) ∧
    (∃ (s : State) (q : Nat), (s.g QM_CTL_STATE = stOn) ∧ (s.dbNext = some (2 * q)) ∧ ((s.ctxLoad q).1 = true) ∧
    let u := (s.ctxLoad q).2
    ((u.ctx q).sqState = qActive)) ∧
    (∃ (s : State) (q : Nat), (s.g QM_CTL_STATE = stOn) ∧ (s.dbNext = some (2 * q + 1)) ∧ ((s.ctxLoad q).1 = true) ∧
    let u := (s.ctxLoad q).2
    (((u.ctx q).cqState = qActive ∨ (u.ctx q).cqState = qDeleting))) ∧
    (∃ (s : State) (q : BitVec 20) (v : Nat), (s.qm.returned.find (2 * q.toNat) = some v) ∧
    let p := v % 2 ^ 17
    let u := s.qmU (fun m => { m with returned := m.returned.drop (2 * q.toNat), reading := m.reading.filter (· ≠ 2 * q.toNat) })
    let c := u.ctx q.toNat
    (c.sqState = qActive) ∧ (p % 65536 < c.sqN) ∧ (idxCount p c.sqCi c.sqN ≤ c.sqN) ∧ (idxCount c.sqPiSeen c.sqCi c.sqN ≤ idxCount p c.sqCi c.sqN) ∧ (p ≠ c.sqCi)) ∧
    (∃ (s : State) (q : BitVec 20) (v : Nat), (s.qm.returned.find (2 * q.toNat + 1) = some v) ∧
    let ci := v % 2 ^ 17
    let u := s.qmU (fun m => { m with returned := m.returned.drop (2 * q.toNat + 1), reading := m.reading.filter (· ≠ 2 * q.toNat + 1) })
    let c := u.ctx q.toNat
    (c.cqState = qActive) ∧ (ci % 65536 < c.cqN) ∧ (idxCount c.cqPi ci c.cqN ≤ idxCount c.cqPi c.cqCiSeen c.cqN)) ∧
    (∃ (s : State) (q : BitVec 20) (i : Nat) (l : HcLine), (s.mayTake = true) ∧
    let c := s.ctx q.toNat
    (c.sqState = qActive) ∧ (c.sqCi ≠ c.sqPiSeen) ∧ (s.qm.scan.any (fun x => x.1 == q.toNat) = true) ∧ (s.cm.table.length < 32768) ∧ ((s.ctx c.cqid).rsv < (s.ctx c.cqid).free) ∧ (s.hcFind (c.lineOf (c.sqCi % 65536)) = some (i, l)) ∧ (l.state = 2) ∧ (bitOf l.owned ((c.sqBase + 64 * (c.sqCi % 65536)) / 64 % 2) = 1)) ∧
    (∃ (s : State) (id : Nat) (shadow : Bool), (s.cm.actEnded.contains id = false) ∧ (s.is QM_HALT_HALTED = false) ∧ ((s.cmd id).status.isSome = true) ∧ ((s.cmd id).placed = false) ∧ (s.owed id = false)) ∧
    (∃ (s : State) (q : BitVec 20), ((s.cqr q.toNat).timer = true) ∧ (s.is QM_HALT_HALTED = false)) :=
  ⟨⟨fl [(LK_CTL_STATE, 2), (LK_ID_VALID, 1), (MD_MODE_MODE, 3), (QM_CTL_STATE, 2)], 5, false, 3, 9, true, by decide +kernel⟩,
   ⟨{ withFields {} [(QM_CTL_STATE, 2)] with qm := { db := [(10, true)], cache := [(5, { sqState := 1 })] } }, 5, by decide +kernel⟩,
   ⟨{ withFields {} [(QM_CTL_STATE, 2)] with qm := { db := [(11, true)], cache := [(5, { cqState := 1 })] } }, 5, by decide +kernel⟩,
   ⟨{ qm := { returned := [(10, 3)], cache := [(5, { sqState := 1, sqSizeM1 := 7 })] } }, 5, 3, by decide +kernel⟩,
   ⟨{ qm := { returned := [(11, 2)], cache := [(5, { cqState := 1, cqSizeM1 := 7, cqPi := 3 })] } }, 5, 2, by decide +kernel⟩,
   ⟨{ withFields {} [(QM_CTL_STATE, 2), (CM_CTL_STATE, 2), (MD_MODE_MODE, 2)] with qm := { scan := [(5, 0)], cache := [(5, { sqState := 1, sqSizeM1 := 7, sqPiSeen := 1, cqid := 5, cqSizeM1 := 7 })] }, hc := { lines := [(0, { addr := 0, state := 2, owned := 1 })] } }, 5, 0, { addr := 0, state := 2, owned := 1 }, by decide +kernel⟩,
   ⟨{ cm := { table := [(4, { id := 4, status := some 0 })] } }, 4, true, by decide +kernel⟩,
   ⟨{ qm := { cq := [(5, { timer := true })] } }, 5, by decide +kernel⟩⟩

theorem wit_QueueRegisterCommandsComplete :
    (∃ (s : State), (s.is QM_Q_CMD_BUSY = false)) ∧
    (∃ (s : State), (s.is QM_Q_CMD_BUSY = false) ∧ (s.is QM_HALT_HALTED = false) ∧ (s.g QM_Q_SEL_QID = 0) ∧ ((s.ctx 0).sqState = qDisabled) ∧ ((s.ctx 0).cqState = qDisabled) ∧
    let c := { QmCtx.ofBits s.ctxStaged with cqid := 0 }
    (s.ctxCheck 0 c = 0)) ∧
    (∃ (s : State), (s.is QM_Q_CMD_BUSY = false) ∧ (s.is QM_HALT_HALTED = false) ∧
    let q := s.g QM_Q_SEL_QID
    let c := s.ctx q
    (c.cqState = qError) ∧ (c.sqErr ≠ 5) ∧ (c.cqErr ≠ 3)) ∧
    (∃ (s : State), (s.is QM_Q_CMD_BUSY = false) ∧ (s.is QM_HALT_HALTED = false) ∧
    let q := s.g QM_Q_SEL_QID
    let c := s.ctx q
    (c.cqState ≠ qError) ∧ (c.sqState = qError) ∧ (c.sqErr ≠ 5) ∧ (c.cqErr ≠ 3)) ∧
    (∃ (s : State) (v : Nat), (s.is QM_Q_CMD_BUSY = true) ∧
    let cq := decide (bitOf s.qm.recover 0 = 1)
    (s.qm.returned.find (2 ^ 22 + b2n cq) = some v)) ∧
    (∃ (s : State), (s.is QM_Q_CMD_BUSY = false) ∧ (s.is QM_HALT_HALTED = false) ∧ (s.mode = mMaint) ∧ (s.g QM_Q_SEL_QID = 0)) ∧
    (∃ (s : State), (s.is QM_HALT_HALTED = true) ∧ (s.qm.parkArmed = true) ∧ (s.mode = mService)) :=
  ⟨⟨fl [(QM_Q_CMD_BUSY, 0)], by decide +kernel⟩,
   ⟨{ withFields {} [(QM_SQ_CTX_DATA 6, 0x110007), (QM_CQ_CTX_DATA 6, 7)] with qm := { cache := [(0, {})] } }, by decide +kernel⟩,
   ⟨{ qm := { cache := [(0, { cqState := 2 })] } }, by decide +kernel⟩,
   ⟨{ qm := { cache := [(0, { sqState := 2 })] } }, by decide +kernel⟩,
   ⟨{ withFields {} [(QM_Q_CMD_BUSY, 1)] with qm := { recover := 1, returned := [(4194305, 7)] } }, 7, by decide +kernel⟩,
   ⟨fl [(MD_MODE_MODE, 5)], by decide +kernel⟩,
   ⟨{ withFields {} [(QM_HALT_HALTED, 1), (MD_MODE_MODE, 2)] with qm := { parkArmed := true } }, by decide +kernel⟩⟩

theorem wit_LinkTransactionCommandsComplete :
    (∃ (s : State) (tag : BitVec 16) (data : BitVec 32768) (t : Txn), (s.lkOn = true) ∧ (s.txnOf tag.toNat (some false) = some t) ∧ (t.granted = false)) ∧
    (∃ (s : State) (tag : BitVec 16) (t : Txn) (id : Nat), (s.lkOn = true) ∧ (s.txnOf tag.toNat (some true) = some t) ∧ (t.granted = false) ∧ (t.req = .wb id)) ∧
    (∃ (s : State) (tag : BitVec 16) (t : Txn) (n off len : Nat), (s.lkOn = true) ∧ (s.txnOf tag.toNat (some true) = some t) ∧ (t.granted = false) ∧ (t.req = .dma n off len)) ∧
    (∃ (s : State) (tag : BitVec 16) (status : BitVec 8) (t : Txn), (s.lkOn = true) ∧ (s.txnOf tag.toNat none = some t) ∧ (t.granted = false)) ∧
    (∃ (s : State) (tag : BitVec 16) (data : BitVec 32768) (t : Txn), (s.lkOn = true) ∧ (s.txnOf tag.toNat (some false) = some t) ∧ (t.granted = true)) ∧
    (∃ (s : State) (tag : BitVec 16) (data : BitVec 32768), (s.lkOn = true) ∧ (s.txnOf tag.toNat (some false) = none)) ∧
    (∃ (s : State) (tag : BitVec 16) (t : Txn), (s.txnOf tag.toNat none = some t) ∧ (t.granted = false) ∧ (s.unsent t = false) ∧ (s.timersHeld = false)) ∧
    (∃ (s : State) (ue : Bool) (e : WbEntry), (s.hc.wb.find? (fun e => !e.issued && !s.wbHeld e) = some e)) :=
  ⟨⟨{ withFields {} [(LK_CTL_STATE, 2)] with lk := { txns := [{ tag := 3, write := false, addr := 64, len := 4, data := 0, req := .sqPi 5 }] } }, 3, 9, { tag := 3, write := false, addr := 64, len := 4, data := 0, req := .sqPi 5 }, by decide +kernel⟩,
   ⟨{ withFields {} [(LK_CTL_STATE, 2)] with lk := { txns := [{ tag := 3, write := true, addr := 64, len := 4, data := 0, req := .wb 5 }] } }, 3, { tag := 3, write := true, addr := 64, len := 4, data := 0, req := .wb 5 }, 5, by decide +kernel⟩,
   ⟨{ withFields {} [(LK_CTL_STATE, 2)] with lk := { txns := [{ tag := 3, write := true, addr := 64, len := 4, data := 0, req := .dma 5 0 4 }] } }, 3, { tag := 3, write := true, addr := 64, len := 4, data := 0, req := .dma 5 0 4 }, 5, 0, 4, by decide +kernel⟩,
   ⟨{ withFields {} [(LK_CTL_STATE, 2)] with lk := { txns := [{ tag := 3, write := true, addr := 64, len := 4, data := 0, req := .wb 5 }] } }, 3, 4, { tag := 3, write := true, addr := 64, len := 4, data := 0, req := .wb 5 }, by decide +kernel⟩,
   ⟨{ withFields {} [(LK_CTL_STATE, 2)] with lk := { txns := [{ tag := 3, write := false, addr := 64, len := 4, data := 0, req := .sqPi 5, granted := true }] } }, 3, 9, { tag := 3, write := false, addr := 64, len := 4, data := 0, req := .sqPi 5, granted := true }, by decide +kernel⟩,
   ⟨fl [(LK_CTL_STATE, 2)], 3, 9, by decide +kernel⟩,
   ⟨{ lk := { txns := [{ tag := 3, write := true, addr := 64, len := 4, data := 0, req := .wb 5 }] } }, 3, { tag := 3, write := true, addr := 64, len := 4, data := 0, req := .wb 5 }, by decide +kernel⟩,
   ⟨{ hc := { wb := [{ id := 1, line := 0, req := 1, mask := 0, data := 0 }] } }, false, { id := 1, line := 0, req := 1, mask := 0, data := 0 }, by decide +kernel⟩⟩

theorem wit_LinkPortCommandsComplete :
    (∃ (s : State) (p : Fin 2) (bits : BitVec 5140) (errs : Fin 545) (drained : Nat),
    let x := s.port p.val
    let rate := s.g (LK_PORT_STAT_RATE p.val)
    let d := descramBlock bits.toNat x.dsc
    let fill := x.fifo + laneBytes rate (s.g (LK_PORT_STAT_LANEMASK p.val)) - drained
    let r := x.flitsIn (s.hopV1 p.val) (d.1 / 2 ^ 20)
    (s.g (LK_PORT_STAT_PSTATE p.val) = psUp) ∧ (errs.val ≤ (if rate = 3 then 15 else 0)) ∧ (d.1 % 1024 = x.rxNext) ∧ (fill ≤ 512) ∧ (r.bare = false)) ∧
    (∃ (s : State) (p : Fin 2) (cr0 cr1 cr2 cr3 : BitVec 16) (nak : Option (BitVec 10)), (s.g (LK_PORT_STAT_PSTATE p.val) = psUp)) ∧
    (∃ (s : State) (p : Fin 2), (s.g (LK_PORT_STAT_PSTATE p.val) = psUp)) ∧
    (∃ (s : State) (p : Fin 2) (partnerMax : Fin 4), (s.is LK_CTL_PASS = false) ∧ (s.switched = true) ∧ (s.g (LK_PORT_STAT_PSTATE p.val) = psTraining) ∧ ((s.port p.val).trial = 0)) ∧
    (∃ (s : State) (p : Fin 2) (lanes : BitVec 8), ((s.port p.val).trial ≠ 0) ∧ (s.g (LK_PORT_STAT_PSTATE p.val) = psTraining)) ∧
    (∃ (s : State) (p : Fin 2) (tag : Word) (v1 v2 : Option (Fin 16)) (lanes : BitVec 8) (next : BitVec 10)
    (cr0 cr1 cr2 cr3 : BitVec 16) (skew : Nat) (line : BitVec 58) (v : Nat), (s.g (LK_PORT_STAT_PSTATE p.val) = psTraining) ∧ ((s.port p.val).trial ≠ 0) ∧ ((s.port p.val).locked ≠ 0) ∧ (skew ≤ 64) ∧ (hopVersion v1 v2 (s.is (LK_PORT_CFG_ALLOW_V1 p.val)) = some v) ∧ ((0x20 ≤ v ∨ (s.port p.val).trial ≠ 3)) ∧ (narrow v (BitVec.ofNat 8 (s.port p.val).locked &&& lanes).toNat ≠ 0)) ∧
    (∃ (s : State), (s.g LK_CTL_STATE = stStarting) ∧ (s.is LK_CTL_PASS = true) ∧ (s.switched = true)) ∧
    (∃ (s : State), (s.g LK_CTL_STATE = stStopping) ∧ ((upTo 2).all (fun p => (s.port p).unacked.isEmpty && (s.port p).out.all (·.originated)) = true)) ∧
    (∃ (s : State), (s.g LK_CTL_STATE = stStopping)) ∧
    (∃ (s : State) (p : Fin 2) (lane : Fin 8) (loss : Bool), (bitOf (s.g (LK_PORT_STAT_LANEMASK p.val)) lane.val = 1)) ∧
    (∃ (s : State) (p : Fin 2) (lane : Fin 8) (errors : Bool), (bitOf (s.g (LK_PORT_STAT_LANEMASK p.val)) lane.val = 1) ∧ ((errors = true ∨ bitOf (s.port p.val).lost lane.val = 1))) ∧
    (∃ (s : State) (p : Fin 2), (s.is LK_CTL_PASS = false) ∧ ((s.port p.val).down = false) ∧ (s.portDead p.val = true)) ∧
    (∃ (s : State) (p : Fin 2), ((s.port p.val).down = true) ∧ (s.g (LK_PORT_STAT_PSTATE p.val) = psDown)) :=
  ⟨⟨fl [(LK_PORT_STAT_PSTATE 1, 3), (LK_PORT_STAT_RATE 1, 1), (LK_PORT_STAT_LANEMASK 1, 255)], 1, 0, 0, 82, by decide +kernel⟩,
   ⟨fl [(LK_PORT_STAT_PSTATE 1, 3)], 1, 1, 2, 3, 4, none, by decide +kernel⟩,
   ⟨fl [(LK_PORT_STAT_PSTATE 1, 3)], 1, by decide +kernel⟩,
   ⟨fl [(LK_CTL_PASS, 0), (MD_TB_SRC, 1), (LK_PORT_STAT_PSTATE 1, 2)], 1, 3, by decide +kernel⟩,
   ⟨{ withFields {} [(LK_PORT_STAT_PSTATE 1, 2)] with lk := { ports := [(1, { trial := 2 })] } }, 1, 255, by decide +kernel⟩,
   ⟨{ withFields {} [(LK_PORT_STAT_PSTATE 1, 2)] with lk := { ports := [(1, { trial := 3, locked := 255 })] } }, 1, 7, none, some 1, 240, 5, 1, 1, 1, 1, 64, 0, 33, by decide +kernel⟩,
   ⟨fl [(LK_CTL_STATE, 1), (LK_CTL_PASS, 1), (MD_TB_SRC, 1)], by decide +kernel⟩,
   ⟨fl [(LK_CTL_STATE, 3)], by decide +kernel⟩,
   ⟨fl [(LK_CTL_STATE, 3)], by decide +kernel⟩,
   ⟨fl [(LK_PORT_STAT_LANEMASK 1, 128)], 1, 7, true, by decide +kernel⟩,
   ⟨fl [(LK_PORT_STAT_LANEMASK 1, 128)], 1, 7, true, by decide +kernel⟩,
   ⟨{ withFields {} [(LK_CTL_PASS, 0)] with lk := { ports := [(1, { resends := 8 })] } }, 1, by decide +kernel⟩,
   ⟨{ withFields {} [(LK_PORT_STAT_PSTATE 1, 0)] with lk := { ports := [(1, { down := true })] } }, 1, by decide +kernel⟩⟩

theorem wit_LinkRingCommandsComplete :
    (∃ (s : State) (p : Fin 2) (kind : Fin 8) (dst src : BitVec 12) (vc : Fin 4) (hops : BitVec 8) (tag : BitVec 16)
    (len : Fin 4097) (addr : BitVec 64) (space : BitVec 8) (data : BitVec 32768) (code : BitVec 8),
    let f : OutFrame := { kind := kind.val, dst := dst.toNat, tag := tag.toNat, addr := addr.toNat, len := len.val, data := data.toNat, code := code.toNat, vc := vc.val, src := src.toNat, hops := hops.toNat - 1, space := space.toNat, transit := true }
    (s.lkOn = true) ∧ ((s.is LK_ID_VALID = false ∨ dst.toNat ≠ s.ownId)) ∧ (1 < hops.toNat) ∧ ((s.port (1 - p.val)).down = false) ∧ ((s.hopV1 (1 - p.val) = false ∨ untranslatable len.val addr.toNat (dst.toNat / 64 % 32) space.toNat (kind.val == 6) = false))) ∧
    (∃ (s : State) (p : Fin 2) (loop : Fin 32) (next : Fin 64) (floor : BitVec 8), (s.lkOn = true) ∧ (s.is LK_ID_VALID = false)) ∧
    (∃ (s : State) (p : Fin 2) (loop : Fin 32) (next : Fin 64) (floor : BitVec 8), (s.lkOn = true) ∧ (s.is LK_ID_VALID = true)) :=
  ⟨⟨fl [(LK_CTL_STATE, 2)], 1, 0, 5, 6, 0, 9, 3, 4, 64, 0, 1, 0, by decide +kernel⟩,
   ⟨fl [(LK_CTL_STATE, 2)], 1, 3, 5, 0x20, by decide +kernel⟩,
   ⟨fl [(LK_CTL_STATE, 2), (LK_ID_VALID, 1)], 1, 3, 5, 0x20, by decide +kernel⟩⟩

theorem wit_RebuildOperationsComplete :
    (∃ (s : State) (arg : Fin 128),
    let u := s.p RB_CMD_ARG arg.val
    (arg.val < 96) ∧ (u.mem arg.val ≠ memAbsent) ∧ (u.mem arg.val ≠ memFailed) ∧ (u.wouldBreak arg.val = false)) ∧
    (∃ (s : State) (arg : Fin 128),
    let u := s.p RB_CMD_ARG arg.val
    (u.mode = mMaint) ∧ (arg.val < 96) ∧ (u.mem arg.val = memFailed) ∧ (u.rb.ck.any (fun x => (upTo 4).any (fun i => bitsOf x.2.fail (8 * i) 7 == arg.val)) = false) ∧ ((upTo 64).any (fun v => u.g (AR_VOL_CTL_STATE v) ≠ stOff && (u.geo v).set.contains arg.val) = false)) ∧
    (∃ (s : State) (arg : Fin 128) (shadow : Fin 64),
    let u := (s.p RB_CMD_ARG arg.val).p RB_CMD_SHADOW shadow.val
    let g := u.geo arg.val
    let h := u.geo shadow.val
    let meets := fun (x : Geo) => x.set.any (fun m => h.set.contains m) && decide (h.base < x.base + x.rows * x.sz) && decide (x.base < h.base + h.rows * h.sz)
    (u.rbOn = true) ∧ (arg.val < 64) ∧ (u.volOn arg.val = true) ∧ (u.g (AR_VOL_CTL_STATE shadow.val) = stOff) ∧ (u.anyPass = false) ∧ (u.g RB_RS_STAT_STATE = rsNone) ∧ (u.volCheck shadow.val true = 0) ∧ ((upTo 64).any (fun x => x ≠ shadow.val && u.g (AR_VOL_CTL_STATE x) ≠ stOff && meets (u.geo x)) = false) ∧ (meets g = false) ∧ (g.cap ≤ h.cap) ∧ (h.set.any (fun m => u.mem m == memFailed) = false)) ∧
    (∃ (s : State), (s.rbOn = true) ∧ (s.g RB_RS_STAT_STATE = rsRun)) ∧
    (∃ (s : State), (s.rbOn = true) ∧ (s.g RB_RS_STAT_STATE = rsPaused)) ∧
    (∃ (s : State) (arg : Fin 128),
    let u := s.p RB_CMD_ARG arg.val
    (u.mode = mMaint) ∧ (arg.val < 64)) ∧
    (∃ (s : State) (arg : Fin 128),
    let u := s.p RB_CMD_ARG arg.val
    (arg.val < 64) ∧ (u.g (AR_VOL_CTL_STATE arg.val) = stOff)) :=
  ⟨⟨fl [(memField 5, 1)], 5, by decide +kernel⟩,
   ⟨fl [(memField 95, 4), (MD_MODE_MODE, 5)], 95, by decide +kernel⟩,
   ⟨{ fl [(RB_CTL_STATE, 2), (AR_VOL_CTL_STATE 0, 2), (AR_VOL_GEOM_K 1, 1), (AR_VOL_GEOM_SLOG2 1, 4), (AR_VOL_ROWS_ROWS 1, 1), (AR_VOL_PAT_CNT 1, 1), (AR_VOL_SET_MEMBERS 1 0, 1), (memField 0, 1)] with ar := { pat := [(0, 0)] }, md := { pfr := 2 ^ 1040 } }, 0, 1, by decide +kernel⟩,
   ⟨fl [(RB_CTL_STATE, 2), (RB_RS_STAT_STATE, 1)], by decide +kernel⟩,
   ⟨fl [(RB_CTL_STATE, 2), (RB_RS_STAT_STATE, 2)], by decide +kernel⟩,
   ⟨fl [(MD_MODE_MODE, 5)], 63, by decide +kernel⟩,
   ⟨fl [], 63, by decide +kernel⟩⟩

theorem wit_RebuildWorkCommandsComplete :
    (∃ (s : State) (member : Fin 96) (mba : BitVec 40),
    let mine := fun (t : SlowTimer) => t.member == member.val && t.mba == mba.toNat && !t.granted
    (s.mem member.val = memAvailable) ∧ (s.rb.slow.any mine = true) ∧ (s.timersHeld = false)) ∧
    (∃ (s : State) (v : Fin 64) (lost : List (Nat × Nat × Nat)) (cur : List (Nat × Block)),
    let n := v.val
    let g := s.geo n
    let row := s.g (RB_CURSOR_ROW n)
    (s.g RB_CTL_STATE = stOn) ∧ (s.rbActive n = true) ∧ (s.volOn n = true) ∧ ((upTo g.q).any (fun i => s.rb.claims.contains (n, row * g.q + i)) = false) ∧ (row < g.rows)) ∧
    (∃ (s : State) (v : Fin 64) (m : Fin 96),
    let g := s.geo v.val
    let row := s.g (RB_CURSOR_ROW v.val)
    (s.g RB_CTL_STATE = stOn) ∧ (s.rbActive v.val = true) ∧ (s.volOn v.val = true) ∧ ((upTo g.q).any (fun i => s.rb.claims.contains (v.val, row * g.q + i)) = false) ∧ ((s.spares v.val g row).any (fun x => x.2.1 == m.val) = true)) ∧
    (∃ (s : State) (stripe : BitVec 40) (cur : List (Nat × Block)),
    let v := s.g RB_RS_STAT_VOL
    let w := s.g RB_RS_STAT_SHADOW
    let g := s.geo w
    let n := stripe.toNat
    let bs := (upTo (g.k * g.sz)).map (fun i => n * (g.k * g.sz) + i)
    (s.g RB_CTL_STATE = stOn) ∧ (s.g RB_RS_STAT_STATE = rsRun) ∧ (n = s.rsNext) ∧ (n < s.rsCount) ∧ (s.rb.moved.length < 64) ∧ (s.jn.recs.any (fun r => r.typ == tData && !r.retired && bs.any (fun b => r.holds v b)) = false) ∧ (s.rb.claims.contains (w, n) = false)) ∧
    (∃ (s : State),
    let w := s.g RB_RS_STAT_SHADOW
    (s.g RB_RS_STAT_STATE = rsRun) ∧ (s.g RB_CTL_STATE = stOn) ∧ ((s.rb.moved.length = 64 ∨ s.rsCount ≤ s.rsNext)) ∧ ((s.ar.stripes.any (fun x => x.vol == w && !s.stripeHeld x) || s.jn.waiting.any (fun r => r.typ == tStripe && r.vol == w)) = false)) ∧
    (∃ (s : State) (i : Fin 65536) (r : Recon), (s.cm.recons[i.val]? = some r)) :=
  ⟨⟨{ fl [(memField 95, 1), (PW_CHAIN_GAP, 0)] with rb := { slow := [{ member := 95, mba := 7 }] } }, 95, 7, by decide +kernel⟩,
   ⟨fl [(RB_CTL_STATE, 2), (RB_ACTIVE_HI_VOLS, 2 ^ 31), (AR_VOL_CTL_STATE 63, 2), (AR_VOL_ROWS_ROWS 63, 1)], 63, [], [], by decide +kernel⟩,
   ⟨{ fl [(RB_CTL_STATE, 2), (RB_ACTIVE_HI_VOLS, 2 ^ 31), (AR_VOL_CTL_STATE 63, 2), (AR_VOL_GEOM_K 63, 1), (AR_VOL_GEOM_P 63, 1), (AR_VOL_GEOM_SLOG2 63, 4), (AR_VOL_ROWS_ROWS 63, 1), (AR_VOL_PAT_CNT 63, 1), (AR_VOL_SET_MEMBERS 63 0, 7), (memField 2, 1), (⟨AR_VOL_FAIL 63, 0, 32⟩, 0x7F7F7F00)] with ar := { pat := [(0, 0), (1, 1), (2, 2)] } }, 63, 2, by decide +kernel⟩,
   ⟨fl [(RB_CTL_STATE, 2), (RB_RS_STAT_STATE, 1), (RB_RS_STAT_SHADOW, 1), (AR_VOL_GEOM_K 1, 1), (AR_VOL_GEOM_SLOG2 1, 4), (AR_VOL_ROWS_ROWS 1, 1), (AR_VOL_SET_MEMBERS 1 0, 1)], 0, [], by decide +kernel⟩,
   ⟨fl [(RB_CTL_STATE, 2), (RB_RS_STAT_STATE, 1)], by decide +kernel⟩,
   ⟨{ cm := { recons := [{ vol := 0, stripe := 0, u := 0, pos := 0 }] } }, 0, { vol := 0, stripe := 0, u := 0, pos := 0 }, by decide +kernel⟩⟩

theorem wit_WindowCommandsComplete :
    (∃ (s : State) (addr : BitVec 24) (value : Word) (core : Bool) (sets : Word), (addr.toNat % 4 = 0) ∧ (s.mode ≠ mOff) ∧ (s.mode ≠ mRest) ∧ ((core = true ∨ (s.g LK_CTL_STATE = stOn ∧ s.mode ≠ mBoot)))) ∧
    (∃ (s : State) (addr : BitVec 24) (core : Bool) (adds : Word), (addr.toNat % 4 = 0) ∧ (s.mode ≠ mOff) ∧ (s.mode ≠ mRest) ∧ ((core = true ∨ (s.g LK_CTL_STATE = stOn ∧ (s.mode ≠ mBoot ∨ addr.toNat < PW_STAT))))) ∧
    (∃ (s : State) (src : BitVec 12) (tag : BitVec 16) (addr : BitVec 64) (data : Word) (rspReq : Bool) (sets : Word), (s.g LK_CTL_STATE = stOn) ∧ (s.is LK_ID_VALID = true) ∧ (s.saved src.toNat tag.toNat = none) ∧ (s.mode ≠ mBoot) ∧ (addr.toNat % 4 = 0) ∧ (addr.toNat < 2 ^ 24)) ∧
    (∃ (s : State) (src : BitVec 12) (tag : BitVec 16) (addr : BitVec 64) (adds : Word), (s.g LK_CTL_STATE = stOn) ∧ (s.is LK_ID_VALID = true) ∧ (s.saved src.toNat tag.toNat = none) ∧ ((s.mode ≠ mBoot ∨ addr.toNat < PW_STAT)) ∧ (addr.toNat % 4 = 0) ∧ (addr.toNat < 2 ^ 24)) ∧
    (∃ (s : State) (src : BitVec 12) (tag : BitVec 16) (addr : BitVec 64) (len : Fin 4097) (adds : Word), (s.g LK_CTL_STATE = stOn) ∧ (s.is LK_ID_VALID = true) ∧ (s.mode ≠ mBoot)) ∧
    (∃ (s : State) (src : BitVec 12) (tag : BitVec 16) (addr : BitVec 64) (len : Fin 4097) (data : Word) (rspReq : Bool)
    (sets : Word), (s.g LK_CTL_STATE = stOn) ∧ (s.is LK_ID_VALID = true) ∧ (s.saved src.toNat tag.toNat = none) ∧ (s.mode ≠ mBoot) ∧ ((len.val ≠ 4 ∨ addr.toNat % 4 ≠ 0))) ∧
    (∃ (s : State) (src : BitVec 12) (tag : BitVec 16) (addr : BitVec 64) (len : Fin 4097) (data : Word) (rspReq : Bool)
    (sets : Word), (s.g LK_CTL_STATE = stOn) ∧ (s.is LK_ID_VALID = true) ∧ (s.saved src.toNat tag.toNat = none) ∧ (s.mode = mBoot)) ∧
    (∃ (s : State) (src : BitVec 12) (tag : BitVec 16) (addr : BitVec 64) (len : Fin 4097) (data : Word) (rspReq : Bool)
    (sets : Word) (f : OutFrame), (s.g LK_CTL_STATE = stOn) ∧ (s.is LK_ID_VALID = true) ∧ (s.saved src.toNat tag.toNat = some (some f))) ∧
    (∃ (s : State) (src : BitVec 12) (tag : BitVec 16) (addr : BitVec 64) (len : Fin 4097) (data : Word) (rspReq : Bool)
    (sets : Word), (s.g LK_CTL_STATE = stOn) ∧ (s.is LK_ID_VALID = true)) :=
  ⟨⟨fl [(LK_CTL_STATE, 2), (MD_MODE_MODE, 2)], 0xFFFFFC, 0, false, 0, by decide +kernel⟩,
   ⟨fl [(LK_CTL_STATE, 2), (MD_MODE_MODE, 1)], 0, false, 0, by decide +kernel⟩,
   ⟨fl [(LK_CTL_STATE, 2), (LK_ID_VALID, 1), (MD_MODE_MODE, 2)], 3, 9, 0xFFFFFC, 1, true, 0, by decide +kernel⟩,
   ⟨fl [(LK_CTL_STATE, 2), (LK_ID_VALID, 1), (MD_MODE_MODE, 2)], 3, 9, 0xFFFFFC, 0, by decide +kernel⟩,
   ⟨fl [(LK_CTL_STATE, 2), (LK_ID_VALID, 1), (MD_MODE_MODE, 2)], 3, 9, 0, 64, 0, by decide +kernel⟩,
   ⟨fl [(LK_CTL_STATE, 2), (LK_ID_VALID, 1), (MD_MODE_MODE, 2)], 3, 9, 2, 4, 1, false, 0, by decide +kernel⟩,
   ⟨fl [(LK_CTL_STATE, 2), (LK_ID_VALID, 1), (MD_MODE_MODE, 1)], 3, 9, 0, 4, 1, false, 0, by decide +kernel⟩,
   ⟨{ fl [(LK_CTL_STATE, 2), (LK_ID_VALID, 1), (MD_MODE_MODE, 2)] with lk := { done := [{ src := 3, tag := 9, rsp := some { kind := 3, dst := 3, tag := 9, addr := 0, len := 0, data := 0, code := 0 } }] } }, 3, 9, 0, 4, 1, true, 0, { kind := 3, dst := 3, tag := 9, addr := 0, len := 0, data := 0, code := 0 }, by decide +kernel⟩,
   ⟨fl [(LK_CTL_STATE, 2), (LK_ID_VALID, 1)], 3, 9, 0, 4, 1, true, 0, by decide +kernel⟩⟩

theorem wit_PackageCommandsComplete :
    (∃ (s : State) (feedA feedB chainA chainB : Bool), (s.mode = mOff) ∧ (s.pw.powered = false) ∧ ((feedA || feedB) = true) ∧ ((chainA || chainB) = true)) ∧
    (∃ (s : State) (feedA feedB : Bool), (s.mode = mOff) ∧ (s.pw.powered = false) ∧ ((feedA || feedB) = true)) ∧
    (∃ (s : State), (s.pw.powered = true)) ∧
    (∃ (s : State), (s.pw.powered = false)) ∧
    (∃ (s : State), (s.pw.powered = true) ∧ (s.ft.resetLow = true)) ∧
    (∃ (s : State), (s.ft.resetOf.isSome = true) ∧ (s.ft.pulse = false) ∧ (s.ev.queue.all (fun r => decide (r.code ≠ 0x0104)) = true)) ∧
    (∃ (s : State) (c : JRec), (s.pw.powerFail = true) ∧ (s.g JN_CTL_STATE = stOn) ∧ (s.anyDie = true) ∧ (s.jn.commit = some c)) ∧
    (∃ (s : State), (s.pw.powerFail = true) ∧ (s.g JN_CTL_STATE = stOn) ∧ (s.jn.commit = none)) :=
  ⟨⟨{ fl [(MD_MODE_MODE, 0)] with pw := { powered := false } }, true, false, false, true, by decide +kernel⟩,
   ⟨{ fl [(MD_MODE_MODE, 0)] with pw := { powered := false } }, true, false, by decide +kernel⟩,
   ⟨{ pw := { powered := true } }, by decide +kernel⟩,
   ⟨{ pw := { powered := false } }, by decide +kernel⟩,
   ⟨{ pw := { powered := true }, ft := { resetLow := true } }, by decide +kernel⟩,
   ⟨{ ft := { resetOf := some 3 } }, by decide +kernel⟩,
   ⟨{ fl [(JN_CTL_STATE, 2), (JN_MIRROR_D0_OK, 1)] with pw := { powerFail := true }, jn := { commit := some { typ := 1 } } }, { typ := 1 }, by decide +kernel⟩,
   ⟨{ fl [(JN_CTL_STATE, 2)] with pw := { powerFail := true } }, by decide +kernel⟩⟩

theorem wit_IoOpcodesComplete :
    (∃ (s : State) (id ce : Nat) (lost : List (Nat × Bool)) (c : Cmd),
    let u := s.jdRead ce lost
    (u.ready id 1 = some c) ∧ (c.opc = 1) ∧ (u.blocked c = false) ∧ (u.refFull c.vol c.block c.nblk = false) ∧ (u.frozen c.vol = false)) ∧
    (∃ (s : State) (id : Nat) (c : Cmd), (s.ready id 3 = some c) ∧ (c.opc = 3) ∧ (s.blocked c = false) ∧ (s.refFull c.vol c.block c.nblk = false) ∧ (s.frozen c.vol = false)) ∧
    (∃ (s : State) (id : Nat) (c : Cmd), (s.ready id 5 = some c) ∧ (c.opc = 5) ∧ (s.blocked c = false) ∧ (s.refFull c.vol c.block c.nblk = false) ∧ (s.frozen c.vol = false)) ∧
    (∃ (s : State) (id : Nat) (c : Cmd), (s.ready id 2 = some c) ∧ (c.want false ≠ 0)) ∧
    (∃ (s : State) (id : Nat) (c : Cmd), (s.ready id 6 = some c) ∧ (c.want false ≠ 0)) ∧
    (∃ (s : State) (id : Nat) (c : Cmd), (s.ready id 7 = some c)) ∧
    (∃ (s : State) (id : Nat) (c : Cmd), (s.ready id 4 = some c)) ∧
    (∃ (s : State) (id : Nat), ((s.cmd id).opc = 4) ∧ ((s.cmd id).started = true) ∧ ((s.cmd id).status = none)) :=
  ⟨⟨{ fl [(CM_CTL_STATE, 2), (AR_CTL_STATE, 2), (MD_MODE_MODE, 2)] with cm := { table := [(4, { id := 4, sqe := 1 })] } }, 4, 0, [], { id := 4, sqe := 1 }, by decide +kernel⟩,
   ⟨{ fl [(CM_CTL_STATE, 2), (AR_CTL_STATE, 2), (MD_MODE_MODE, 2)] with cm := { table := [(4, { id := 4, sqe := 3 })] } }, 4, { id := 4, sqe := 3 }, by decide +kernel⟩,
   ⟨{ fl [(CM_CTL_STATE, 2), (AR_CTL_STATE, 2), (MD_MODE_MODE, 2)] with cm := { table := [(4, { id := 4, sqe := 5 })] } }, 4, { id := 4, sqe := 5 }, by decide +kernel⟩,
   ⟨{ fl [(CM_CTL_STATE, 2), (AR_CTL_STATE, 2), (MD_MODE_MODE, 2)] with cm := { table := [(4, { id := 4, sqe := 2 + 4096 * 2 ^ 128 })] } }, 4, { id := 4, sqe := 2 + 4096 * 2 ^ 128 }, by decide +kernel⟩,
   ⟨{ fl [(CM_CTL_STATE, 2), (AR_CTL_STATE, 2), (MD_MODE_MODE, 2)] with cm := { table := [(4, { id := 4, sqe := 6 + 16 * 2 ^ 128 })] } }, 4, { id := 4, sqe := 6 + 16 * 2 ^ 128 }, by decide +kernel⟩,
   ⟨{ fl [(CM_CTL_STATE, 2), (AR_CTL_STATE, 2), (MD_MODE_MODE, 2)] with cm := { table := [(4, { id := 4, sqe := 7 })] } }, 4, { id := 4, sqe := 7 }, by decide +kernel⟩,
   ⟨{ fl [(CM_CTL_STATE, 2), (AR_CTL_STATE, 2), (MD_MODE_MODE, 2)] with cm := { table := [(4, { id := 4, sqe := 4 })] } }, 4, { id := 4, sqe := 4 }, by decide +kernel⟩,
   ⟨{ cm := { table := [(4, { id := 4, sqe := 4, started := true })] } }, 4, by decide +kernel⟩⟩

theorem wit_VolumeOpcodesComplete :
    (∃ (s : State) (id : Nat) (c : Cmd), (s.ready id 0x40 = some c)) ∧
    (∃ (s : State) (id : Nat) (c : Cmd), (s.ready id 0x43 = some c)) ∧
    (∃ (s : State) (id : Nat) (c : Cmd) (v : Fin 64), (s.ready id 0x41 = some c) ∧ (c.p0 % 64 = v.val)) ∧
    (∃ (s : State) (id : Nat) (c : Cmd) (v : Fin 64), (s.ready id 0x42 = some c) ∧ (c.p0 % 64 = v.val)) ∧
    (∃ (s : State) (id : Nat) (c : Cmd), (s.ready id 0x44 = some c)) ∧
    (∃ (s : State) (id : Nat) (c : Cmd), (s.ready id 0x45 = some c)) ∧
    (∃ (s : State) (id : Nat) (c : Cmd), (s.ready id 0x46 = some c)) ∧
    (∃ (s : State) (id : Nat) (c : Cmd), (s.ready id 0x47 = some c) ∧ ((s.start id).rbOn = true) ∧ ((s.start id).g RB_RS_STAT_STATE = rsRun)) ∧
    (∃ (s : State) (id : Nat) (c : Cmd), (s.ready id 0x48 = some c)) ∧
    (∃ (s : State) (id : Nat) (c : Cmd), (s.ready id 0x49 = some c)) ∧
    (∃ (s : State) (id : Nat) (c : Cmd), (s.ready id 0x4A = some c)) :=
  ⟨⟨{ fl [(CM_CTL_STATE, 2)] with cm := { table := [(4, { id := 4, sqe := 0x40 })] } }, 4, { id := 4, sqe := 0x40 }, by decide +kernel⟩,
   ⟨{ fl [(CM_CTL_STATE, 2)] with cm := { table := [(4, { id := 4, sqe := 0x43 })] } }, 4, { id := 4, sqe := 0x43 }, by decide +kernel⟩,
   ⟨{ fl [(CM_CTL_STATE, 2)] with cm := { table := [(4, { id := 4, sqe := 0x41 })] } }, 4, { id := 4, sqe := 0x41 }, 0, by decide +kernel⟩,
   ⟨{ fl [(CM_CTL_STATE, 2)] with cm := { table := [(4, { id := 4, sqe := 0x42 })] } }, 4, { id := 4, sqe := 0x42 }, 0, by decide +kernel⟩,
   ⟨{ fl [(CM_CTL_STATE, 2)] with cm := { table := [(4, { id := 4, sqe := 0x44 })] } }, 4, { id := 4, sqe := 0x44 }, by decide +kernel⟩,
   ⟨{ fl [(CM_CTL_STATE, 2)] with cm := { table := [(4, { id := 4, sqe := 0x45 })] } }, 4, { id := 4, sqe := 0x45 }, by decide +kernel⟩,
   ⟨{ fl [(CM_CTL_STATE, 2)] with cm := { table := [(4, { id := 4, sqe := 0x46 })] } }, 4, { id := 4, sqe := 0x46 }, by decide +kernel⟩,
   ⟨{ fl [(CM_CTL_STATE, 2), (RB_CTL_STATE, 2), (RB_RS_STAT_STATE, 1)] with cm := { table := [(4, { id := 4, sqe := 0x47 })] } }, 4, { id := 4, sqe := 0x47 }, by decide +kernel⟩,
   ⟨{ fl [(CM_CTL_STATE, 2)] with cm := { table := [(4, { id := 4, sqe := 0x48 })] } }, 4, { id := 4, sqe := 0x48 }, by decide +kernel⟩,
   ⟨{ fl [(CM_CTL_STATE, 2)] with cm := { table := [(4, { id := 4, sqe := 0x49 })] } }, 4, { id := 4, sqe := 0x49 }, by decide +kernel⟩,
   ⟨{ fl [(CM_CTL_STATE, 2)] with cm := { table := [(4, { id := 4, sqe := 0x4A })] } }, 4, { id := 4, sqe := 0x4A }, by decide +kernel⟩⟩

theorem wit_DeviceOpcodesComplete :
    (∃ (s : State) (id : Nat) (c : Cmd), (s.ready id 0x80 = some c)) ∧
    (∃ (s : State) (id : Nat) (c : Cmd), (s.ready id 0x81 = some c) ∧ (c.p0 ≠ 0)) ∧
    (∃ (s : State) (id : Nat) (c : Cmd), (s.ready id 0x82 = some c) ∧
    let q := c.p0 % 2 ^ 20
    (q ≠ 0) ∧ (s.qm.live.any (fun x => x ≠ q && (s.ctx x).cqid = q && (s.ctx x).sqState ≠ qDisabled) = false)) ∧
    (∃ (s : State) (id : Nat), (s.cm.admin.contains (id, 0x82) = true)) ∧
    (∃ (s : State) (id n d : Nat) (c : Cmd), (s.ready id 0x83 = some c) ∧ (s.log (c.p0 % 256) = some (n, d))) ∧
    (∃ (s : State) (id a : Nat) (c : Cmd), (s.ready id 0x84 = some c) ∧ (featureReg (c.p0 % 256) = some a)) ∧
    (∃ (s : State) (id a : Nat) (c : Cmd), (s.ready id 0x85 = some c) ∧ (featureReg (c.p0 % 256) = some a)) ∧
    (∃ (s : State) (id : Nat) (c : Cmd), (s.ready id 0x86 = some c)) ∧
    (∃ (s : State) (id : Nat) (c : Cmd), (s.ready id 0x87 = some c) ∧ (s.cm.actCmd = none) ∧ (s.actCheck (c.p0 % 2) = none)) ∧
    (∃ (s : State) (id : Nat) (c : Cmd), (s.ready id 0x88 = some c)) ∧
    (∃ (s : State) (id : Nat) (t : List Nat), (s.bt.signing = id :: t)) ∧
    (∃ (s : State) (id : Nat) (c : Cmd), (s.ready id 0x89 = some c) ∧ (s.mode = mMaint)) ∧
    (∃ (s : State) (id : Nat) (c : Cmd), (s.ready id 0x8A = some c) ∧ (s.mode = mMaint) ∧ (c.p0 * 4096 + c.dlen ≤ 40960)) ∧
    (∃ (s : State) (id : Nat) (c : Cmd), (s.ready id 0x8B = some c) ∧ (s.cm.table.find? (fun x => x.2.qid == c.p0 % 2 ^ 20 && x.2.cid == c.p1 % 2 ^ 16 && x.1 ≠ id && x.2.lib.isNone && !x.2.placed) = none)) ∧
    (∃ (s : State) (id t : Nat) (c x : Cmd), (s.ready id 0x8B = some c) ∧ (s.cm.table.find? (fun x => x.2.qid == c.p0 % 2 ^ 20 && x.2.cid == c.p1 % 2 ^ 16 && x.1 ≠ id && x.2.lib.isNone && !x.2.placed) = some (t, x)) ∧ (s.pastReturn x = true)) ∧
    (∃ (s : State) (id t : Nat) (c x : Cmd), (s.ready id 0x8B = some c) ∧ (s.cm.table.find? (fun x => x.2.qid == c.p0 % 2 ^ 20 && x.2.cid == c.p1 % 2 ^ 16 && x.1 ≠ id && x.2.lib.isNone && !x.2.placed) = some (t, x)) ∧ (s.pastReturn x = false) ∧ ((s.cmd t).ctx = none)) :=
  ⟨⟨{ fl [(CM_CTL_STATE, 2)] with cm := { table := [(4, { id := 4, sqe := 0x80 })] } }, 4, { id := 4, sqe := 0x80 }, by decide +kernel⟩,
   ⟨{ fl [(CM_CTL_STATE, 2)] with cm := { table := [(4, { id := 4, sqe := 0x81 + 2 ^ 384 })] } }, 4, { id := 4, sqe := 0x81 + 2 ^ 384 }, by decide +kernel⟩,
   ⟨{ fl [(CM_CTL_STATE, 2)] with cm := { table := [(4, { id := 4, sqe := 0x82 + 2 ^ 384 })] } }, 4, { id := 4, sqe := 0x82 + 2 ^ 384 }, by decide +kernel⟩,
   ⟨{ cm := { admin := [(4, 0x82)] } }, 4, by decide +kernel⟩,
   ⟨{ fl [(CM_CTL_STATE, 2)] with cm := { table := [(4, { id := 4, sqe := 0x83 + 4 * 2 ^ 384 })] } }, 4, 96, 0, { id := 4, sqe := 0x83 + 4 * 2 ^ 384 }, by decide +kernel⟩,
   ⟨{ fl [(CM_CTL_STATE, 2)] with cm := { table := [(4, { id := 4, sqe := 0x84 + 6 * 2 ^ 384 })] } }, 4, MD_IDLE_CFG, { id := 4, sqe := 0x84 + 6 * 2 ^ 384 }, by decide +kernel⟩,
   ⟨{ fl [(CM_CTL_STATE, 2)] with cm := { table := [(4, { id := 4, sqe := 0x85 + 1 * 2 ^ 384 })] } }, 4, CM_CFG, { id := 4, sqe := 0x85 + 1 * 2 ^ 384 }, by decide +kernel⟩,
   ⟨{ fl [(CM_CTL_STATE, 2)] with cm := { table := [(4, { id := 4, sqe := 0x86 })] } }, 4, { id := 4, sqe := 0x86 }, by decide +kernel⟩,
   ⟨{ fl [(CM_CTL_STATE, 2)] with cm := { table := [(4, { id := 4, sqe := 0x87 })] }, bt := { slots := [(0, { complete := true, digest := Image.hdrDigest (State.slotHdr {} 0) })] } }, 4, { id := 4, sqe := 0x87 }, ⟨by decide +kernel, by decide +kernel, slot_passes _ rfl⟩⟩,
   ⟨{ fl [(CM_CTL_STATE, 2)] with cm := { table := [(4, { id := 4, sqe := 0x88 })] } }, 4, { id := 4, sqe := 0x88 }, by decide +kernel⟩,
   ⟨{ bt := { signing := [4] } }, 4, [], by decide +kernel⟩,
   ⟨{ fl [(CM_CTL_STATE, 2), (MD_MODE_MODE, 5)] with cm := { table := [(4, { id := 4, sqe := 0x89 })] } }, 4, { id := 4, sqe := 0x89 }, by decide +kernel⟩,
   ⟨{ fl [(CM_CTL_STATE, 2), (MD_MODE_MODE, 5)] with cm := { table := [(4, { id := 4, sqe := 0x8A + 9 * 2 ^ 384 + 4096 * 2 ^ 128 })] } }, 4, { id := 4, sqe := 0x8A + 9 * 2 ^ 384 + 4096 * 2 ^ 128 }, by decide +kernel⟩,
   ⟨{ fl [(CM_CTL_STATE, 2)] with cm := { table := [(4, { id := 4, sqe := 0x8B })] } }, 4, { id := 4, sqe := 0x8B }, by decide +kernel⟩,
   ⟨{ fl [(CM_CTL_STATE, 2)] with cm := { table := [(3, { id := 3, sqe := 0x80 }), (4, { id := 4, sqe := 0x8B })] } }, 4, 3, { id := 4, sqe := 0x8B }, { id := 3, sqe := 0x80 }, by decide +kernel⟩,
   ⟨{ fl [(CM_CTL_STATE, 2)] with cm := { table := [(3, { id := 3, sqe := 1 }), (4, { id := 4, sqe := 0x8B })] } }, 4, 3, { id := 4, sqe := 0x8B }, { id := 3, sqe := 1 }, by decide +kernel⟩⟩

theorem wit_CommandSideCommandsComplete :
    (∃ (s : State) (a : Fin 8) (est : List (Nat × Nat × Nat)) (o : ActOp), ((s.bgWork a.val false = false ∨ 1000 * s.bgShare ≤ s.rb.usedN.getD a.val 0)) ∧ (s.mode ≠ mSafe) ∧ (s.actReady a.val = true) ∧
    let e := fun (o : ActOp) => ((est.find? (fun x => x.1 == o.member && x.2.1 == o.mba)).map (fun x => x.2.2)).getD 0
    (pickOp (1000000 * s.g CM_CFG_SLACK) e (s.actOps a.val) = some o)) ∧
    (∃ (s : State) (a : Fin 8) (est : List (Nat × Nat × Nat)) (t : Nat), (s.bgWork a.val false = true) ∧ (s.rb.usedN.getD a.val 0 < 1000 * s.bgShare)) ∧
    (∃ (s : State) (a : Fin 8) (est : List (Nat × Nat × Nat)) (t : Nat), (s.bgWork a.val true = true) ∧ ((s.rb.usedP.getD a.val 0 < 1000 * s.bgFloor ∨ s.actOps a.val = []))) ∧
    (∃ (s : State) (id : Nat), ((s.cm.table.find id).isSome = true) ∧ ((s.cmd id).opc = 3) ∧ ((s.cmd id).drop = true) ∧ ((s.cmd id).status = none) ∧ ((s.cmd id).pnr = false)) ∧
    (∃ (s : State), (s.is CM_CMD_BUSY = false) ∧ (s.g QM_CTL_STATE = stOn) ∧ (s.g CM_ACT_PHASE = 0) ∧ (s.cm.resetting = none)) ∧
    (∃ (s : State) (halted : Bool), (s.cm.resetting = some halted) ∧ (s.cm.table.any (fun x => s.committing x.1) = false)) ∧
    (∃ (s : State), (s.g CM_CTL_STATE = stStopping) ∧
    let u := s.endAll 0x0007 (fun _ => 0) none
    (u.cm.table.any (fun x => x.2.status.isNone) = false)) ∧
    (∃ (s : State), (s.g CM_ACT_PHASE = 2)) ∧
    (∃ (s : State) (slot : Nat), (s.bt.actSlot = some slot) ∧ (s.g CM_ACT_PHASE = 2) ∧ (s.cm.table.all (fun x => x.2.status.isSome || some x.1 = s.cm.actCmd) = true)) ∧
    (∃ (s : State) (id : Nat), (s.cm.actCmd = some id) ∧ (s.g CM_ACT_PHASE = 3) ∧ (s.ft.resetOf = none)) ∧
    (∃ (s : State) (n : Fin 64) (data : BitVec 32768) (poison : Bool), (s.dBusy n.val = true) ∧ (s.is (DM_CH_STAT_PAUSED n.val) = false) ∧ (s.dstSp n.val ≠ spHost)) ∧
    (∃ (s : State) (n : Fin 64) (fail : Bool), (s.dFaulted n.val = true)) ∧
    (∃ (s : State) (n : Fin 64) (fail : Bool), (s.dFaulted n.val = false)) ∧
    (∃ (s : State) (n : Fin 64), (s.dFaulted n.val = true) ∧ ((s.dch n.val).timer = true)) :=
  ⟨⟨{ fl [(PW_CHAIN_GAP, 0), (SV_MODE_ASTATE 1, aFollowing)] with cm := { waits := [{ cmd := some 4, vol := 0, block := 0, member := 13, mba := 7, deadline := 9, take := 1 }] } }, 1, [], { member := 13, mba := 7, deadline := 9, take := 1, read := true }, by decide +kernel⟩,
   ⟨fl [(RB_ACTIVE_HI_VOLS, 2 ^ 31), (AR_VOL_SET_MEMBERS 63 2, 2 ^ 31), (RB_CFG_SHARE, 20), (RB_CFG_FLOOR, 10)], 7, [], 5, by decide +kernel⟩,
   ⟨fl [(RB_ACTIVE_HI_VOLS, 2 ^ 31), (AR_VOL_SET_MEMBERS 63 2, 2 ^ 31), (RB_CFG_SHARE, 20), (RB_CFG_FLOOR, 10), (⟨RB_PRIV, 0, 8⟩, 0xBF)], 7, [], 5, by decide +kernel⟩,
   ⟨{ cm := { table := [(4, { id := 4, sqe := 0x203 })] } }, 4, by decide +kernel⟩,
   ⟨fl [(QM_CTL_STATE, 2)], by decide +kernel⟩,
   ⟨{ cm := { resetting := some true } }, true, by decide +kernel⟩,
   ⟨fl [(CM_CTL_STATE, 3)], by decide +kernel⟩,
   ⟨fl [(CM_ACT_PHASE, 2)], by decide +kernel⟩,
   ⟨{ fl [(CM_ACT_PHASE, 2)] with bt := { actSlot := some 1 } }, 1, by decide +kernel⟩,
   ⟨{ fl [(CM_ACT_PHASE, 3)] with cm := { actCmd := some 4 } }, 4, by decide +kernel⟩,
   ⟨fl [(DM_CH_STAT_BUSY 63, 1)], 63, 0, false, by decide +kernel⟩,
   ⟨fl [(DM_FAULT_HI_CHANS, 2 ^ 31)], 63, true, by decide +kernel⟩,
   ⟨fl [], 63, true, by decide +kernel⟩,
   ⟨{ fl [(DM_FAULT_HI_CHANS, 2 ^ 31)] with dm := { ch := [(63, { timer := true })] } }, 63, by decide +kernel⟩⟩

theorem wit_SequencingRowsComplete :
    (∃ (s : State) (n : Fin 256) (mw w : Nat), (s.MayRun n.val mw w) ∧ (Image.mwSeq mw = 0)) ∧
    (∃ (s : State) (n : Fin 256) (mw w : Nat), (s.MayRun n.val mw w) ∧ (Image.mwSeq mw = 1)) ∧
    (∃ (s : State) (n : Fin 256) (mw w : Nat), (s.MayRun n.val mw w) ∧ (Image.mwSeq mw = 2)) ∧
    (∃ (s : State) (n : Fin 256) (mw w : Nat), (s.MayRun n.val mw w) ∧ (Image.mwSeq mw = 3)) ∧
    (∃ (s : State) (n : Fin 256) (mw w : Nat), (s.MayRun n.val mw w) ∧ (Image.mwSeq mw = 4)) ∧
    (∃ (s : State) (n : Fin 256) (mw w : Nat), (s.MayRun n.val mw w) ∧ (Image.mwSeq mw = 5)) ∧
    (∃ (s : State) (n : Fin 256) (mw w : Nat), (s.MayRun n.val mw w) ∧ (Image.mwSeq mw = 6)) ∧
    (∃ (s : State) (n : Fin 256) (mw w : Nat), (s.MayRun n.val mw w) ∧ (Image.mwSeq mw = 7)) ∧
    (∃ (s : State) (n : Fin 256) (mw w : Nat), (s.MayRun n.val mw w) ∧ (isLib (s.mctx n.val) mw = true) ∧ (Image.mwTarget mw = 0x0F00)) ∧
    (∃ (s : State) (n : Fin 256) (mw w : Nat), (s.MayRun n.val mw w) ∧ (isLib (s.mctx n.val) mw = true) ∧ (Image.mwTarget mw = 0x0F01)) ∧
    (∃ (s : State) (n : Fin 256) (mw w : Nat), (s.MayRun n.val mw w) ∧ (isLib (s.mctx n.val) mw = true) ∧ (Image.mwTarget mw = 0x0F02)) ∧
    (∃ (s : State) (n : Fin 256) (mw w : Nat), (s.MayRun n.val mw w) ∧ (isLib (s.mctx n.val) mw = true) ∧ (Image.mwTarget mw = 0x0F03)) ∧
    (∃ (s : State) (n : Fin 256) (mw w : Nat), (s.MayRun n.val mw w) ∧ (isLib (s.mctx n.val) mw = true) ∧ (0x0F04 ≤ Image.mwTarget mw)) :=
  ⟨⟨mcs false (0 * 2 ^ 25 + 2 ^ 14) 0, 5, (0 * 2 ^ 25 + 2 ^ 14), 0, by decide +kernel⟩,
   ⟨mcs false (1 * 2 ^ 25 + 2 ^ 14) 0, 5, (1 * 2 ^ 25 + 2 ^ 14), 0, by decide +kernel⟩,
   ⟨mcs false (2 * 2 ^ 25 + 2 ^ 14) 0, 5, (2 * 2 ^ 25 + 2 ^ 14), 0, by decide +kernel⟩,
   ⟨mcs false (3 * 2 ^ 25 + 2 ^ 14) 0, 5, (3 * 2 ^ 25 + 2 ^ 14), 0, by decide +kernel⟩,
   ⟨mcs false (4 * 2 ^ 25 + 2 ^ 14) 0, 5, (4 * 2 ^ 25 + 2 ^ 14), 0, by decide +kernel⟩,
   ⟨mcs false (5 * 2 ^ 25 + 2 ^ 14) 0, 5, (5 * 2 ^ 25 + 2 ^ 14), 0, by decide +kernel⟩,
   ⟨mcs false (6 * 2 ^ 25 + 2 ^ 14) 0, 5, (6 * 2 ^ 25 + 2 ^ 14), 0, by decide +kernel⟩,
   ⟨mcs false (7 * 2 ^ 25 + 2 ^ 14) 0, 5, (7 * 2 ^ 25 + 2 ^ 14), 0, by decide +kernel⟩,
   ⟨mcs true (3 * 2 ^ 25 + 0x700 * 2 ^ 14 + 0x0F00) 0, 5, (3 * 2 ^ 25 + 0x700 * 2 ^ 14 + 0x0F00), 0, by decide +kernel⟩,
   ⟨mcs true (3 * 2 ^ 25 + 0x700 * 2 ^ 14 + 0x0F01) 0, 5, (3 * 2 ^ 25 + 0x700 * 2 ^ 14 + 0x0F01), 0, by decide +kernel⟩,
   ⟨mcs true (3 * 2 ^ 25 + 0x700 * 2 ^ 14 + 0x0F02) 0, 5, (3 * 2 ^ 25 + 0x700 * 2 ^ 14 + 0x0F02), 0, by decide +kernel⟩,
   ⟨mcs true (3 * 2 ^ 25 + 0x700 * 2 ^ 14 + 0x0F03) 0, 5, (3 * 2 ^ 25 + 0x700 * 2 ^ 14 + 0x0F03), 0, by decide +kernel⟩,
   ⟨mcs true (3 * 2 ^ 25 + 0x700 * 2 ^ 14 + 0x0F3F) 0, 5, (3 * 2 ^ 25 + 0x700 * 2 ^ 14 + 0x0F3F), 0, by decide +kernel⟩⟩

theorem wit_NanowordRowsComplete :
    (∃ (s : State) (n : Fin 256) (mw w : Nat), (s.MayRun n.val mw w) ∧ (nwAlu w = 0)) ∧
    (∃ (s : State) (n : Fin 256) (mw w : Nat), (s.MayRun n.val mw w) ∧ (nwAlu w = 1)) ∧
    (∃ (s : State) (n : Fin 256) (mw w : Nat), (s.MayRun n.val mw w) ∧ (nwAlu w = 2)) ∧
    (∃ (s : State) (n : Fin 256) (mw w : Nat), (s.MayRun n.val mw w) ∧ (nwAlu w = 3)) ∧
    (∃ (s : State) (n : Fin 256) (mw w : Nat), (s.MayRun n.val mw w) ∧ (nwAlu w = 4)) ∧
    (∃ (s : State) (n : Fin 256) (mw w : Nat), (s.MayRun n.val mw w) ∧ (nwAlu w = 5)) ∧
    (∃ (s : State) (n : Fin 256) (mw w : Nat), (s.MayRun n.val mw w) ∧ (nwAlu w = 6)) ∧
    (∃ (s : State) (n : Fin 256) (mw w : Nat), (s.MayRun n.val mw w) ∧ (nwAlu w = 7)) ∧
    (∃ (s : State) (n : Fin 256) (mw w : Nat), (s.MayRun n.val mw w) ∧ (nwAlu w = 8)) ∧
    (∃ (s : State) (n : Fin 256) (mw w : Nat), (s.MayRun n.val mw w) ∧ (nwAlu w = 9)) ∧
    (∃ (s : State) (n : Fin 256) (mw w : Nat), (s.MayRun n.val mw w) ∧ (nwAlu w = 10)) ∧
    (∃ (s : State) (n : Fin 256) (mw w : Nat), (s.MayRun n.val mw w) ∧ (nwAlu w = 11)) ∧
    (∃ (s : State) (n : Fin 256) (mw w : Nat), (s.MayRun n.val mw w) ∧ (nwAlu w = 12)) ∧
    (∃ (s : State) (n : Fin 256) (mw w : Nat), (s.MayRun n.val mw w) ∧ (nwAlu w = 13)) ∧
    (∃ (s : State) (n : Fin 256) (mw w : Nat), (s.MayRun n.val mw w) ∧ (Image.nwMem w = 1)) ∧
    (∃ (s : State) (n : Fin 256) (mw w : Nat), (s.MayRun n.val mw w) ∧ (Image.nwMem w = 2)) ∧
    (∃ (s : State) (n : Fin 256) (mw w : Nat), (s.MayRun n.val mw w) ∧ (Image.nwMem w = 3)) ∧
    (∃ (s : State) (n : Fin 256) (mw w : Nat), (s.MayRun n.val mw w) ∧ (Image.nwMem w = 4)) ∧
    (∃ (s : State) (n : Fin 256) (mw w : Nat), (s.MayRun n.val mw w) ∧ (Image.nwUnit w = 1)) ∧
    (∃ (s : State) (n : Fin 256) (mw w : Nat), (s.MayRun n.val mw w) ∧ (Image.nwUnit w = 2)) ∧
    (∃ (s : State) (n : Fin 256) (mw w : Nat), (s.MayRun n.val mw w) ∧ (Image.nwUnit w = 3)) ∧
    (∃ (s : State) (n : Fin 256) (mw w : Nat), (s.MayRun n.val mw w) ∧ (Image.nwUnit w = 4)) ∧
    (∃ (s : State) (n : Fin 256) (mw w : Nat), (s.MayRun n.val mw w) ∧ (Image.nwUnit w = 5)) ∧
    (∃ (s : State) (n : Fin 256) (mw w : Nat), (s.MayRun n.val mw w) ∧ (Image.nwUnit w = 6)) ∧
    (∃ (s : State) (n : Fin 256) (mw w : Nat), (s.MayRun n.val mw w) ∧ (Image.nwUnit w = 7)) ∧
    (∃ (s : State) (n : Fin 256) (mw w : Nat), (s.MayRun n.val mw w) ∧ (Image.nwUnit w = 8)) ∧
    (∃ (s : State) (n : Fin 256) (mw w : Nat), (s.MayRun n.val mw w) ∧ (Image.nwUnit w = 9)) ∧
    (∃ (s : State) (n : Fin 256) (mw w : Nat), (s.MayRun n.val mw w) ∧ ((s.mctx n.val).wait ≠ .xlat) ∧ (Image.nwUnit w = 10)) ∧
    (∃ (s : State) (n : Fin 256) (mw w : Nat), (s.MayRun n.val mw w) ∧ (Image.nwUnit w = 11)) ∧
    (∃ (s : State) (n : Fin 256) (mw w : Nat), (s.MayRun n.val mw w) ∧ (Image.nwUnit w = 12)) ∧
    (∃ (s : State) (n : Fin 256) (mw w : Nat), (s.MayRun n.val mw w) ∧ (Image.nwUnit w = 13)) :=
  ⟨⟨mcs false (2 ^ 14) (0 * 2 ^ 188), 5, (2 ^ 14), (0 * 2 ^ 188), by decide +kernel⟩,
   ⟨mcs false (2 ^ 14) (1 * 2 ^ 188), 5, (2 ^ 14), (1 * 2 ^ 188), by decide +kernel⟩,
   ⟨mcs false (2 ^ 14) (2 * 2 ^ 188), 5, (2 ^ 14), (2 * 2 ^ 188), by decide +kernel⟩,
   ⟨mcs false (2 ^ 14) (3 * 2 ^ 188), 5, (2 ^ 14), (3 * 2 ^ 188), by decide +kernel⟩,
   ⟨mcs false (2 ^ 14) (4 * 2 ^ 188), 5, (2 ^ 14), (4 * 2 ^ 188), by decide +kernel⟩,
   ⟨mcs false (2 ^ 14) (5 * 2 ^ 188), 5, (2 ^ 14), (5 * 2 ^ 188), by decide +kernel⟩,
   ⟨mcs false (2 ^ 14) (6 * 2 ^ 188), 5, (2 ^ 14), (6 * 2 ^ 188), by decide +kernel⟩,
   ⟨mcs false (2 ^ 14) (7 * 2 ^ 188), 5, (2 ^ 14), (7 * 2 ^ 188), by decide +kernel⟩,
   ⟨mcs false (2 ^ 14) (8 * 2 ^ 188), 5, (2 ^ 14), (8 * 2 ^ 188), by decide +kernel⟩,
   ⟨mcs false (2 ^ 14) (9 * 2 ^ 188), 5, (2 ^ 14), (9 * 2 ^ 188), by decide +kernel⟩,
   ⟨mcs false (2 ^ 14) (10 * 2 ^ 188), 5, (2 ^ 14), (10 * 2 ^ 188), by decide +kernel⟩,
   ⟨mcs false (2 ^ 14) (11 * 2 ^ 188), 5, (2 ^ 14), (11 * 2 ^ 188), by decide +kernel⟩,
   ⟨mcs false (2 ^ 14) (12 * 2 ^ 188), 5, (2 ^ 14), (12 * 2 ^ 188), by decide +kernel⟩,
   ⟨mcs false (2 ^ 14) (13 * 2 ^ 188), 5, (2 ^ 14), (13 * 2 ^ 188), by decide +kernel⟩,
   ⟨mcs false (2 ^ 14) (1 * 2 ^ 161), 5, (2 ^ 14), (1 * 2 ^ 161), by decide +kernel⟩,
   ⟨mcs false (2 ^ 14) (2 * 2 ^ 161), 5, (2 ^ 14), (2 * 2 ^ 161), by decide +kernel⟩,
   ⟨mcs false (2 ^ 14) (3 * 2 ^ 161), 5, (2 ^ 14), (3 * 2 ^ 161), by decide +kernel⟩,
   ⟨mcs false (2 ^ 14) (4 * 2 ^ 161), 5, (2 ^ 14), (4 * 2 ^ 161), by decide +kernel⟩,
   ⟨mcs false (2 ^ 14) (1 * 2 ^ 154), 5, (2 ^ 14), (1 * 2 ^ 154), by decide +kernel⟩,
   ⟨mcs false (2 ^ 14) (2 * 2 ^ 154), 5, (2 ^ 14), (2 * 2 ^ 154), by decide +kernel⟩,
   ⟨mcs false (2 ^ 14) (3 * 2 ^ 154), 5, (2 ^ 14), (3 * 2 ^ 154), by decide +kernel⟩,
   ⟨mcs false (2 ^ 14) (4 * 2 ^ 154), 5, (2 ^ 14), (4 * 2 ^ 154), by decide +kernel⟩,
   ⟨mcs false (2 ^ 14) (5 * 2 ^ 154), 5, (2 ^ 14), (5 * 2 ^ 154), by decide +kernel⟩,
   ⟨mcs false (2 ^ 14) (6 * 2 ^ 154), 5, (2 ^ 14), (6 * 2 ^ 154), by decide +kernel⟩,
   ⟨mcs false (2 ^ 14) (7 * 2 ^ 154), 5, (2 ^ 14), (7 * 2 ^ 154), by decide +kernel⟩,
   ⟨mcs false (2 ^ 14) (8 * 2 ^ 154), 5, (2 ^ 14), (8 * 2 ^ 154), by decide +kernel⟩,
   ⟨mcs false (2 ^ 14) (9 * 2 ^ 154), 5, (2 ^ 14), (9 * 2 ^ 154), by decide +kernel⟩,
   ⟨mcs false (2 ^ 14) (10 * 2 ^ 154), 5, (2 ^ 14), (10 * 2 ^ 154), by decide +kernel⟩,
   ⟨mcs false (2 ^ 14) (11 * 2 ^ 154), 5, (2 ^ 14), (11 * 2 ^ 154), by decide +kernel⟩,
   ⟨mcs false (2 ^ 14) (12 * 2 ^ 154), 5, (2 ^ 14), (12 * 2 ^ 154), by decide +kernel⟩,
   ⟨mcs false (2 ^ 14) (13 * 2 ^ 154), 5, (2 ^ 14), (13 * 2 ^ 154), by decide +kernel⟩⟩

theorem wit_EngineCommandsComplete :
    (∃ (s : State) (id n : Nat) (c : Cmd), (s.cm.table.find id = some c) ∧ (s.mcRuns = true) ∧ (c.status = none) ∧ (c.ctx = none) ∧ (c.lib = none) ∧ (c.opc < 0xC0) ∧ (bitOf (s.mc.disp.getD c.opc 0) 14 = 1) ∧ (s.ctxPick = some n)) ∧
    (∃ (s : State) (id n : Nat) (c : Cmd), (s.cm.table.find id = some c) ∧ (s.mcRuns = true) ∧ (c.status = none) ∧ (c.ctx = none) ∧ (c.lib = none) ∧ (0xC0 ≤ c.opc) ∧ (s.mc.install = none) ∧ (bitOf (s.mc.disp.getD c.opc 0) 14 = 1) ∧ (s.g MC_OCC_CUST < s.custMax) ∧ (s.ctxPick = some n)) ∧
    (∃ (s : State) (n : Fin 256) (imgUe : Bool) (mw w : Nat),
    let u := s.trapSift n.val
    let c := u.mctx n.val
    (s.mcOn = true) ∧ ((s.mctx n.val).busy = true) ∧ (s.ctxHeld (s.mctx n.val) = false) ∧ (c.trapDue = none) ∧ (c.level = false) ∧ (u.seqTurn (n.val % 8) = some n.val) ∧ (u.mwUe c = none) ∧ (u.mwAt c = (mw, w)) ∧ ((u.turnOn n.val).mwIllegal c mw w = false)) ∧
    (∃ (s : State) (n : Fin 256) (imgUe : Bool) (tr : Trap), (s.mcOn = true) ∧ ((s.mctx n.val).busy = true) ∧ (s.ctxHeld (s.mctx n.val) = false) ∧ (((s.trapSift n.val).mctx n.val).trapDue = some tr)) ∧
    (∃ (s : State) (n : Fin 256) (mw w : Nat),
    let c := s.mctx n.val
    (s.mcOn = true) ∧ (c.st = 2) ∧ (s.ctxHeld c = false) ∧ (c.trapDue = none) ∧ (c.wait = .event) ∧ (s.mwAt c = (mw, w)) ∧ ((s.waitMet c w = true ∨ nwWaitEv w = 3))) ∧
    (∃ (s : State) (n : Fin 256),
    let c := s.mctx n.val
    (s.mcOn = true) ∧ (c.st = 2) ∧ (s.ctxHeld c = false) ∧ (c.trapDue = none) ∧ (c.wait = .xlat) ∧ (s.dFaulted (bitsOf c.frame 256 6) = false)) ∧
    (∃ (s : State) (n : Fin 256),
    let c := s.mctx n.val
    (s.mcOn = true) ∧ (c.level = true) ∧ (c.wait = .xlat) ∧ (c.trapDue = none) ∧ (s.dFaulted (bitsOf c.frame 256 6) = false)) ∧
    (∃ (s : State) (b : Nat), (s.mc.install = some b) ∧ (s.mc.ctx.any (fun x => x.2.busy && x.2.cust) = false)) ∧
    (∃ (s : State),
    let a := s.g MC_STORE_ADDR_ADDR
    (s.is MC_STORE_ADDR_STORE = false) ∧ (s.mc.ue.contains a = false)) :=
  ⟨⟨{ fl [(MC_CTL_STATE, 2)] with mc := { disp := [(1, 2 ^ 14)] }, cm := { table := [(4, { id := 4, sqe := 1 })] } }, 4, 0, { id := 4, sqe := 1 }, by decide +kernel⟩,
   ⟨{ fl [(MC_CTL_STATE, 2), (MC_CFG_CUST_CTX, 1)] with mc := { disp := [(0xC0, 2 ^ 14)] }, cm := { table := [(4, { id := 4, sqe := 0xC0 })] } }, 4, 0, { id := 4, sqe := 0xC0 }, by decide +kernel⟩,
   ⟨mcs false (2 ^ 14) 0, 5, false, 2 ^ 14, 0, by decide +kernel⟩,
   ⟨{ fl [(MC_CTL_STATE, 2)] with mc := { ctx := [(5, { st := 1, pend := [{ cause := 2 }] })] } }, 5, false, { cause := 2 }, by decide +kernel⟩,
   ⟨{ fl [(MC_CTL_STATE, 2)] with mc := { ctx := [(5, { st := 2, wait := .event })], micro := [(0, 5 * 2 ^ 25)] } }, 5, 5 * 2 ^ 25, 0, by decide +kernel⟩,
   ⟨{ fl [(MC_CTL_STATE, 2)] with mc := { ctx := [(5, { st := 2, wait := .xlat })] } }, 5, by decide +kernel⟩,
   ⟨{ fl [(MC_CTL_STATE, 2)] with mc := { ctx := [(5, { st := 2, wait := .xlat, level := true })] } }, 5, by decide +kernel⟩,
   ⟨{ mc := { install := some 7 } }, 7, by decide +kernel⟩,
   ⟨fl [(MC_STORE_ADDR_ADDR, 0x3FFF), (MC_STORE_ADDR_STORE, 0)], by decide +kernel⟩⟩

theorem wit_ServoSequenceCommandsComplete :
    (∃ (s : State) (a : Fin 8) (targets : List (Nat × BitVec 20)), (s.mode = mService)) ∧
    (∃ (s : State) (a : Fin 8), (s.mode = mMaint) ∧ (s.g (SV_CTL_STATE a.val) = stOn) ∧ ((s.astate a.val = aSeeking ∨ s.astate a.val = aSettling ∨ s.astate a.val = aFollowing))) ∧
    (∃ (s : State) (a : Fin 8), (s.astate a.val = aSettling) ∧ (511 ≤ (s.act a.val).settling) ∧ ((s.act a.val).settleGranted = false)) ∧
    (∃ (s : State) (a : Fin 8), ((s.mode = mService ∨ s.mode = mMaint)) ∧ (s.g (SV_CTL_STATE a.val) = stOn) ∧ (s.astate a.val = aUnloaded) ∧ (s.is (SP_MODE_REG (a.val / 2)) = true) ∧ (5400 ≤ s.spTarget (a.val / 2)) ∧ (s.spTarget (a.val / 2) ≤ 7200)) ∧
    (∃ (s : State) (a : Fin 8), (s.astate a.val = aUnloading)) ∧
    (∃ (s : State) (a : Fin 8), (s.astate a.val ≠ aUnloaded)) ∧
    (∃ (s : State) (a : Fin 8), (s.astate a.val = aLoading) ∧ ((s.act a.val).samRun < 8)) ∧
    (∃ (s : State) (a : Fin 8) (uv : Int), (s.astate a.val = aUnloading) ∧ ((s.act a.val).pushing = false)) ∧
    (∃ (s : State) (a : Fin 8) (uv : Int), (s.astate a.val = aLoading) ∧ ((s.act a.val).pushing = false)) ∧
    (∃ (s : State) (a : Fin 8) (uv : Int), (s.astate a.val = aUnloading) ∧ ((s.act a.val).pushing = true)) ∧
    (∃ (s : State) (a : Fin 8), (s.astate a.val = aUnloading) ∧ ((s.act a.val).pushing = false) ∧ (400 ≤ (s.act a.val).slow)) ∧
    (∃ (s : State) (a : Fin 8), (s.astate a.val = aUnloading) ∧ ((s.act a.val).pushing = false)) ∧
    (∃ (s : State) (a : Fin 8), (s.astate a.val = aUnloading) ∧ ((s.act a.val).pushing = true)) ∧
    (∃ (s : State) (a : Fin 8) (h : Fin 12) (i : Nat),
    let u := (s.fault (SV_STAT_DRV_FAULT a.val) (48 + a.val) 13 0x040A 0).actUp a.val (fun x => { x with micro := x.micro.drop h.val })
    ((upTo 4).find? (fun i => u.headAt a.val i == h.val) = some i) ∧ (u.isLost a.val i = false)) :=
  ⟨⟨fl [(MD_MODE_MODE, 2)], 7, [(0, 5)], by decide +kernel⟩,
   ⟨fl [(MD_MODE_MODE, 5), (SV_CTL_STATE 7, 2), (SV_MODE_ASTATE 7, 4)], 7, by decide +kernel⟩,
   ⟨{ fl [(SV_MODE_ASTATE 7, 3)] with actT := [(7, { settling := 511 })] }, 7, by decide +kernel⟩,
   ⟨fl [(MD_MODE_MODE, 2), (SV_CTL_STATE 7, 2), (SV_MODE_ASTATE 7, 0), (SP_MODE_REG 3, 1), (SP_SET_RPM 3, 7200), (MD_IDLE_STAT_LEVEL, 0)], 7, by decide +kernel⟩,
   ⟨fl [(SV_MODE_ASTATE 7, 6)], 7, by decide +kernel⟩,
   ⟨fl [(SV_MODE_ASTATE 7, 6)], 7, by decide +kernel⟩,
   ⟨{ fl [(SV_MODE_ASTATE 7, 1)] with actT := [(7, { samRun := 7 })] }, 7, by decide +kernel⟩,
   ⟨fl [(SV_MODE_ASTATE 7, 6)], 7, 5, by decide +kernel⟩,
   ⟨fl [(SV_MODE_ASTATE 7, 1)], 7, 5, by decide +kernel⟩,
   ⟨{ fl [(SV_MODE_ASTATE 7, 6)] with actT := [(7, { pushing := true })] }, 7, 5, by decide +kernel⟩,
   ⟨{ fl [(SV_MODE_ASTATE 7, 6)] with actT := [(7, { slow := 400 })] }, 7, by decide +kernel⟩,
   ⟨fl [(SV_MODE_ASTATE 7, 6)], 7, by decide +kernel⟩,
   ⟨{ fl [(SV_MODE_ASTATE 7, 6)] with actT := [(7, { pushing := true })] }, 7, by decide +kernel⟩,
   ⟨fl [(⟨SV_HEADS 7, 0, 4⟩, 11)], 7, 11, 0, by decide +kernel⟩⟩

theorem wit_ServoLoopCommandsComplete :
    (∃ (s : State) (a : Fin 8) (r : WedgeResults), (s.is PW_CHAIN_GAP = false) ∧ ((s.astate a.val = aSeeking ∨ s.astate a.val = aSettling ∨ s.astate a.val = aFollowing ∨ s.astate a.val = aPredicting))) ∧
    (∃ (s : State) (a : Fin 8) (r : WedgeResults), (s.is PW_CHAIN_GAP = false) ∧ (s.astate a.val = aLoading) ∧ (8 ≤ (s.act a.val).samRun)) ∧
    (∃ (s : State) (a : Fin 8) (r : WedgeResults), (s.is PW_CHAIN_GAP = false) ∧ (s.astate a.val = aLoading) ∧ ((s.act a.val).samRun < 8)) ∧
    (∃ (s : State) (a : Fin 8), ((s.act a.val).job.isSome = true) ∧ ((s.act a.val).overdue = false)) ∧
    (∃ (s : State) (a : Fin 8) (t5 : BitVec 14) (j : WedgeJob), ((s.act a.val).job = some j) ∧ (j.dropped = false) ∧ ((s.act a.val).overdue = false)) ∧
    (∃ (s : State) (a : Fin 8) (t5 : BitVec 14) (j : WedgeJob), ((s.act a.val).job = some j) ∧ (j.dropped = false) ∧ ((s.act a.val).overdue = true)) ∧
    (∃ (s : State) (x y z : BitVec 16), (s.acc0.failed = false)) ∧
    (∃ (s : State) (sensor : Fin 2), ((s.accOf sensor.val).failed = false)) ∧
    (∃ (s : State) (a : Fin 8) (k : Fin 64) (v : BitVec 30), (s.is MD_LOCK_LOCK = false) ∧ (s.is (SV_CTL_COEF_HOLD a.val) = false)) ∧
    (∃ (s : State) (a : Fin 8) (v : BitVec 16), (s.g (SV_RC_ADDR_WEDGE a.val) < 440) ∧ (s.g (SV_RC_ADDR_TABLE a.val) ≤ 12) ∧ (s.is (SV_RC_CTL_LEARN a.val) = false)) ∧
    (∃ (s : State) (a : Fin 8), (s.g (SV_RC_ADDR_WEDGE a.val) < 440) ∧ (s.g (SV_RC_ADDR_TABLE a.val) ≤ 12)) ∧
    (∃ (s : State) (a : Fin 8) (point slot : Fin 4) (amp : BitVec 16), (s.mode = mMaint) ∧ (s.astate a.val = aFollowing) ∧ (s.is (SV_TSI_CTL_EN a.val) = false)) :=
  ⟨⟨fl [(SV_MODE_ASTATE 7, 5)], 7, { slots := [], taken := 0 }, by decide +kernel⟩,
   ⟨{ fl [(SV_MODE_ASTATE 7, 1)] with actT := [(7, { samRun := 8 })] }, 7, { slots := [], taken := 0 }, by decide +kernel⟩,
   ⟨fl [(SV_MODE_ASTATE 7, 1), (⟨SV_HEADS 7, 0, 32⟩, 0xFFF0)], 7, { slots := [{ sam := some 0, parity := true, wedge := 439, track := 0, frac0 := 0, frac1 := 0, amp0 := 0, amp1 := 0 }], taken := 0 }, by decide +kernel⟩,
   ⟨{ actT := [(7, { job := some { wedge := 0, valid := 0, coef := [], ff := 0, peak := 0, dropped := false } })] }, 7, by decide +kernel⟩,
   ⟨{ actT := [(7, { job := some { wedge := 0, valid := 0, coef := [], ff := 0, peak := 0, dropped := false } })] }, 7, 0, { wedge := 0, valid := 0, coef := [], ff := 0, peak := 0, dropped := false }, by decide +kernel⟩,
   ⟨{ actT := [(7, { job := some { wedge := 0, valid := 0, coef := [], ff := 0, peak := 0, dropped := false }, overdue := true })] }, 7, 0, { wedge := 0, valid := 0, coef := [], ff := 0, peak := 0, dropped := false }, by decide +kernel⟩,
   ⟨fl [], 1, 2, 3, by decide +kernel⟩,
   ⟨fl [], 1, by decide +kernel⟩,
   ⟨fl [(MD_LOCK_LOCK, 0)], 7, 63, 5, by decide +kernel⟩,
   ⟨fl [(SV_RC_ADDR_WEDGE 7, 439), (SV_RC_ADDR_TABLE 7, 12)], 7, 65535, by decide +kernel⟩,
   ⟨fl [(SV_RC_ADDR_WEDGE 7, 439), (SV_RC_ADDR_TABLE 7, 12)], 7, by decide +kernel⟩,
   ⟨fl [(MD_MODE_MODE, 5), (SV_MODE_ASTATE 7, 4)], 7, 1, 2, 77, by decide +kernel⟩⟩

theorem wit_SpindleSequenceCommandsComplete :
    (∃ (s : State) (sp : Fin 4), (s.g (SP_CTL_STATE sp.val) = stOn) ∧ ((s.mode = mService ∨ s.mode = mMaint)) ∧ ((s.g (SP_SET_RPM sp.val) = 4800 ∨ (5400 ≤ s.g (SP_SET_RPM sp.val) ∧ s.g (SP_SET_RPM sp.val) ≤ 7200))) ∧ (s.phase sp.val = phStopped)) ∧
    (∃ (s : State) (sp : Fin 4), (s.g (SP_CTL_STATE sp.val) = stOn) ∧ ((s.mode = mService ∨ s.mode = mMaint)) ∧ ((s.g (SP_SET_RPM sp.val) = 4800 ∨ (5400 ≤ s.g (SP_SET_RPM sp.val) ∧ s.g (SP_SET_RPM sp.val) ≤ 7200))) ∧ (s.phase sp.val = phRun) ∧ (s.bothUnloaded sp.val = true)) ∧
    (∃ (s : State) (sp : Fin 4), (s.g (SP_CTL_STATE sp.val) = stOn) ∧ (s.bothUnloaded sp.val = true) ∧ ((s.phase sp.val = phWait ∨ s.phase sp.val = phAccel ∨ s.phase sp.val = phRun))) ∧
    (∃ (s : State) (sp : Fin 4), (s.g (SP_CTL_STATE sp.val) = stOn) ∧ (s.bothUnloaded sp.val = true)) ∧
    (∃ (s : State) (sp : Fin 4), (s.phase sp.val = phWait) ∧ (s.spWait.head? = some sp.val) ∧ (((upTo 4).filter (fun k => s.phase k = phStart)).length < 2) ∧ (s.switched = true)) ∧
    (∃ (s : State) (sp : Fin 4), (s.phase sp.val = phStart) ∧ ((s.sp sp.val).step = .angle)) ∧
    (∃ (s : State) (sp : Fin 4), (s.phase sp.val = phStart) ∧ ((s.sp sp.val).step = .ramp)) ∧
    (∃ (s : State) (sp : Fin 4), (s.phase sp.val = phStart) ∧ ((s.sp sp.val).step = .pause)) ∧
    (∃ (s : State) (sp : Fin 4), ((s.sp sp.val).spinup = .armed) ∧ (s.timersHeld = false)) ∧
    (∃ (s : State) (sp : Fin 4), ((s.sp sp.val).spinup ≠ .granted) ∧ (s.phase sp.val = phRun) ∧ (s.is (SP_MODE_REG sp.val) = false) ∧ (32 ≤ (s.sp sp.val).revs)) ∧
    (∃ (s : State) (sp : Fin 4), (s.phase sp.val = phShort) ∧ ((s.sp sp.val).forced = false)) ∧
    (∃ (s : State) (sp : Fin 4), ((s.sp sp.val).safeHold = true)) :=
  ⟨⟨fl [(SP_CTL_STATE 3, 2), (MD_MODE_MODE, 2), (SP_SET_RPM 3, 5400)], 3, by decide +kernel⟩,
   ⟨fl [(SP_CTL_STATE 3, 2), (MD_MODE_MODE, 2), (SP_SET_RPM 3, 4800), (SP_MODE_PHASE 3, 4)], 3, by decide +kernel⟩,
   ⟨fl [(SP_CTL_STATE 3, 2), (SP_MODE_PHASE 3, 1)], 3, by decide +kernel⟩,
   ⟨fl [(SP_CTL_STATE 3, 2)], 3, by decide +kernel⟩,
   ⟨{ fl [(SP_MODE_PHASE 3, 1), (SP_MODE_PHASE 0, 2), (MD_TB_SRC, 1)] with spWait := [3, 1] }, 3, by decide +kernel⟩,
   ⟨{ fl [(SP_MODE_PHASE 3, 2)] with spT := [(3, { step := .angle })] }, 3, by decide +kernel⟩,
   ⟨{ fl [(SP_MODE_PHASE 3, 2), (SP_MODE_START_TRY 3, 3)] with spT := [(3, { step := .ramp })] }, 3, by decide +kernel⟩,
   ⟨{ fl [(SP_MODE_PHASE 3, 2)] with spT := [(3, { step := .pause })] }, 3, by decide +kernel⟩,
   ⟨{ spT := [(3, { spinup := .armed })] }, 3, by decide +kernel⟩,
   ⟨{ fl [(SP_MODE_PHASE 3, 4)] with spT := [(3, { revs := 32 })] }, 3, by decide +kernel⟩,
   ⟨fl [(SP_MODE_PHASE 3, 7)], 3, by decide +kernel⟩,
   ⟨{ spT := [(3, { safeHold := true })] }, 3, by decide +kernel⟩⟩

theorem wit_SpindleDriveCommandsComplete :
    (∃ (s : State) (sp : Fin 4) (ia ib : BitVec 16) (quiet innov : Nat), (phStart ≤ s.phase sp.val) ∧ (s.phase sp.val ≤ phDecel) ∧ (s.timersHeld = false) ∧ ((s.sp sp.val).step ≠ .pause)) ∧
    (∃ (s : State) (sp : Fin 4), ((s.sp sp.val).pwm = .armed)) ∧
    (∃ (s : State) (sp : Fin 4), ((s.sp sp.val).pwm = .granted)) ∧
    (∃ (s : State) (sp : Fin 4), ((s.sp sp.val).pwm = .armed) ∧ (s.timersHeld = false)) ∧
    (∃ (s : State) (sp : Fin 4), (phStart ≤ s.phase sp.val) ∧ ((s.sp sp.val).ocAt = none)) ∧
    (∃ (s : State) (bus : BitVec 11), (1380 ≤ bus.toNat)) ∧
    (∃ (s : State) (sp : Fin 4) (amps : Nat), (s.is (SP_BUS_CHOP_ON sp.val) = true) ∧ ((s.sp sp.val).chopCur = .armed)) ∧
    (∃ (s : State) (sp : Fin 4), (s.is (SP_BUS_CHOP_ON sp.val) = true) ∧ ((s.sp sp.val).chopBus = .armed)) ∧
    (∃ (s : State) (sp : Fin 4) (ns : Nat) (sector : Fin 6), (s.phase sp.val = phCoast) ∧ ((s.sp sp.val).acq = .armed) ∧ (s.acqXings sp.val ≤ ((ns :: (s.sp sp.val).xings).take (s.acqXings sp.val)).length) ∧ (agree (((ns :: (s.sp sp.val).xings).take (s.acqXings sp.val)).take (s.acqXings sp.val - 1)) = true)) ∧
    (∃ (s : State) (sp : Fin 4), (s.phase sp.val = phCoast) ∧ ((s.sp sp.val).acq = .armed) ∧ (s.timersHeld = false)) ∧
    (∃ (s : State) (sp : Fin 4), (s.phase sp.val = phRectify)) :=
  ⟨⟨fl [(SP_MODE_PHASE 3, 5)], 3, 1, 2, 3, 4, by decide +kernel⟩,
   ⟨{ spT := [(3, { pwm := .armed })] }, 3, by decide +kernel⟩,
   ⟨{ spT := [(3, { pwm := .granted })] }, 3, by decide +kernel⟩,
   ⟨{ spT := [(3, { pwm := .armed, lateRun := 7 })] }, 3, by decide +kernel⟩,
   ⟨fl [(SP_MODE_PHASE 3, 8)], 3, by decide +kernel⟩,
   ⟨fl [], 1380, by decide +kernel⟩,
   ⟨{ fl [(SP_BUS_CHOP_ON 3, 1)] with spT := [(3, { chopCur := .armed })] }, 3, 0, by decide +kernel⟩,
   ⟨{ fl [(SP_BUS_CHOP_ON 3, 1)] with spT := [(3, { chopBus := .armed })] }, 3, by decide +kernel⟩,
   ⟨{ fl [(SP_MODE_PHASE 3, 6), (SP_OBS_CFG_ACQ_XINGS 3, 3)] with spT := [(3, { acq := .armed, xings := [1000, 1010] })] }, 3, 1005, 5, by decide +kernel⟩,
   ⟨{ fl [(SP_MODE_PHASE 3, 6)] with spT := [(3, { acq := .armed })] }, 3, by decide +kernel⟩,
   ⟨fl [(SP_MODE_PHASE 3, 8)], 3, by decide +kernel⟩⟩

theorem wit_FeedAndChainCommandsComplete :
    (∃ (s : State) (v : BitVec 11), (s.pw.lostB = false)) ∧
    (∃ (s : State) (v : BitVec 11), (bitOf s.pw.feedDue 0 = 0) ∧ (s.pw.lostA = true)) ∧
    (∃ (s : State) (v : BitVec 11), (bitOf s.pw.feedDue 0 = 1)) ∧
    (∃ (s : State) (v : BitVec 11), (s.pw.isoA = false)) ∧
    (∃ (s : State) (v : BitVec 11), (s.pw.isoB = true)) ∧
    (∃ (s : State), (s.pw.powerFail = false) ∧ (s.mode ≠ mOff) ∧ (((s.pw.lostA = true ∧ s.pw.lostB = true) ∨ s.pw.stbyDead = true))) ∧
    (∃ (s : State), (s.mode ≠ mOff) ∧ (s.is PW_CHAIN_GAP = false) ∧ (s.pw.powerFail = false)) ∧
    (∃ (s : State) (us : BitVec 10) (f : Bool), (s.pw.job = .gap f) ∧ (s.g (chainState s.pw.jobChain) = 2) ∧ (s.pw.stbyDead = false)) ∧
    (∃ (s : State) (us : BitVec 10), (s.pw.job = .testStart)) ∧
    (∃ (s : State) (us : BitVec 10), (s.pw.job = .resyncStart)) ∧
    (∃ (s : State) (f : Bool), (s.pw.job = .gap f) ∧ (s.pw.stbyDead = false)) ∧
    (∃ (s : State), (s.is PW_CFG_AUTO_RESYNC = true) ∧ (s.pw.autoDone = false) ∧ (s.g (chainState s.standby) = 5) ∧ (s.pw.job = .none) ∧ (s.timersHeld = false) ∧ (s.mode ≠ mOff)) ∧
    (∃ (s : State) (ok : Bool), (s.pw.job = .resyncHold)) ∧
    (∃ (s : State), (s.is PW_CMD_BUSY = false) ∧ (s.pw.job = .none) ∧ ((s.mode = mService ∨ s.mode = mMaint)) ∧ (s.g (chainState s.standby) = 0)) ∧
    (∃ (s : State), (s.pw.job = .testLoad)) ∧
    (∃ (s : State), (s.is PW_CMD_BUSY = false) ∧ (s.pw.job = .none) ∧ (s.mode = mMaint) ∧ (s.g (chainState s.standby) = 0) ∧ (s.is PW_HOLDUP_OK = true)) ∧
    (∃ (s : State), (s.is PW_CMD_BUSY = false) ∧ (s.pw.job = .none) ∧ (s.g (chainState s.standby) = 5)) :=
  ⟨⟨fl [], 100, by decide +kernel⟩,
   ⟨{ pw := { lostA := true } }, 1200, by decide +kernel⟩,
   ⟨{ pw := { feedDue := 1 } }, 1200, by decide +kernel⟩,
   ⟨fl [], 1500, by decide +kernel⟩,
   ⟨{ pw := { isoB := true } }, 1200, by decide +kernel⟩,
   ⟨{ fl [(MD_MODE_MODE, 2)] with pw := { stbyDead := true } }, by decide +kernel⟩,
   ⟨fl [(MD_MODE_MODE, 2), (PW_CHAIN_GAP, 0)], by decide +kernel⟩,
   ⟨{ fl [(PW_CHAIN_B_STATE, 2)] with pw := { job := .gap true, jobChain := 1 } }, 300, true, by decide +kernel⟩,
   ⟨{ pw := { job := .testStart } }, 300, by decide +kernel⟩,
   ⟨{ pw := { job := .resyncStart } }, 300, by decide +kernel⟩,
   ⟨{ pw := { job := .gap true } }, true, by decide +kernel⟩,
   ⟨fl [(PW_CFG_AUTO_RESYNC, 1), (PW_CHAIN_ACTIVE, 0), (PW_CHAIN_B_STATE, 5), (PW_CHAIN_GAP, 0), (MD_MODE_MODE, 2)], by decide +kernel⟩,
   ⟨{ pw := { job := .resyncHold } }, true, by decide +kernel⟩,
   ⟨fl [(PW_CMD_BUSY, 0), (MD_MODE_MODE, 2), (PW_CHAIN_ACTIVE, 0), (PW_CHAIN_B_STATE, 0)], by decide +kernel⟩,
   ⟨{ pw := { job := .testLoad } }, by decide +kernel⟩,
   ⟨fl [(PW_CMD_BUSY, 0), (MD_MODE_MODE, 5), (PW_CHAIN_ACTIVE, 0), (PW_CHAIN_B_STATE, 0), (PW_HOLDUP_OK, 1)], by decide +kernel⟩,
   ⟨fl [(PW_CMD_BUSY, 0), (MD_MODE_MODE, 2), (PW_CHAIN_ACTIVE, 0), (PW_CHAIN_B_STATE, 5)], by decide +kernel⟩⟩

theorem wit_SafetyMonitorCommandsComplete :
    (∃ (s : State) (counts : List Nat) (vmeas : BitVec 10), (s.mode ≠ mOff) ∧ (s.md.rest = .awake)) ∧
    (∃ (s : State) (bus : BitVec 11), (1460 ≤ bus.toNat)) ∧
    (∃ (s : State), (s.sf.hbLost = true)) ∧
    (∃ (s : State), (s.sf.hbLost = false)) ∧
    (∃ (s : State), (s.sf.hbLost = false) ∧ (s.is PW_CHAIN_GAP = false) ∧ (s.mode ≠ mOff) ∧ (s.md.rest = .awake)) ∧
    (∃ (s : State), (s.sf.testing = false) ∧ (s.mode = mMaint) ∧ ((upTo 4).any (fun i => decide (s.phase i ≠ phStopped)) = false) ∧ ((upTo 8).any (fun a => s.loaded a) = false)) ∧
    (∃ (s : State) (res : BitVec 22), (s.sf.testing = true)) ∧
    (∃ (s : State), (s.sf.testing = false) ∧ (s.sfHolds = false)) :=
  ⟨⟨fl [(MD_MODE_MODE, 2)], [1, 2], 3, by decide +kernel⟩,
   ⟨fl [], 1460, by decide +kernel⟩,
   ⟨{ sf := { hbLost := true } }, by decide +kernel⟩,
   ⟨{ sf := {} }, by decide +kernel⟩,
   ⟨fl [(MD_MODE_MODE, 2)], by decide +kernel⟩,
   ⟨fl [(MD_MODE_MODE, 5)], by decide +kernel⟩,
   ⟨{ sf := { testing := true } }, 0x3FFFFF, by decide +kernel⟩,
   ⟨fl [(SF_LIM_VCM_VCM_ABS, 4095), (SF_LIM_SPD_OVS, 0x1EF0)], by decide +kernel⟩⟩

theorem wit_ModeTransitionCommandsComplete :
    (∃ (s : State), (s.is MD_MODE_HELD = false) ∧ (s.md.rest = .awake) ∧ (s.mode = mMaint)) ∧
    (∃ (s : State), (s.is MD_MODE_HELD = false) ∧ (s.md.rest = .awake) ∧ (s.mode = mBoot) ∧ (s.md.safeReq = 0)) ∧
    (∃ (s : State), (s.is MD_MODE_HELD = false) ∧ (s.md.rest = .awake) ∧ (s.mode = mService)) ∧
    (∃ (s : State), (s.is MD_MODE_HELD = false) ∧ (s.md.rest = .awake) ∧ (s.mode = mSafe) ∧ (s.g SF_CAUSE_CAUSE = 0) ∧ (s.unackedL3 = false)) ∧
    (∃ (s : State), (s.is MD_MODE_HELD = false) ∧ (s.md.rest = .awake) ∧ (s.mode = mSafe)) ∧
    (∃ (s : State), (s.is MD_MODE_HELD = true)) ∧
    (∃ (s : State) (l3 : Bool), ((s.mode = mService ∨ s.mode = mMaint)) ∧ (s.md.rest = .awake)) ∧
    (∃ (s : State) (l3 : Bool), (s.mode = mBoot) ∧ (s.md.safeReq = 0)) ∧
    (∃ (s : State) (l3 : Bool), ((s.mode = mSafe ∨ s.mode = mOff))) ∧
    (∃ (s : State), (s.switched = false) ∧ (s.is MD_TB_LOCK = true)) ∧
    (∃ (s : State), (s.switched = false) ∧ (s.is MD_TB_LOCK = false)) ∧
    (∃ (s : State), (s.mode ≠ mOff) ∧ (s.bt.wantSwitch = false)) ∧
    (∃ (s : State), (s.mode ≠ mOff) ∧ (s.bt.wantSwitch = true)) :=
  ⟨⟨fl [(MD_MODE_MODE, 5)], by decide +kernel⟩,
   ⟨fl [(MD_MODE_MODE, 1)], by decide +kernel⟩,
   ⟨fl [(MD_MODE_MODE, 2)], by decide +kernel⟩,
   ⟨fl [(MD_MODE_MODE, 4)], by decide +kernel⟩,
   ⟨fl [(MD_MODE_MODE, 4)], by decide +kernel⟩,
   ⟨fl [(MD_MODE_HELD, 1)], by decide +kernel⟩,
   ⟨fl [(MD_MODE_MODE, 2)], true, by decide +kernel⟩,
   ⟨fl [(MD_MODE_MODE, 1)], true, by decide +kernel⟩,
   ⟨fl [(MD_MODE_MODE, 4)], true, by decide +kernel⟩,
   ⟨fl [(MD_TB_LOCK, 1)], by decide +kernel⟩,
   ⟨fl [], by decide +kernel⟩,
   ⟨fl [(MD_MODE_MODE, 1)], by decide +kernel⟩,
   ⟨{ fl [(MD_MODE_MODE, 1)] with bt := { wantSwitch := true } }, by decide +kernel⟩⟩

theorem wit_IdleAndRestCommandsComplete :
    (∃ (s : State) (group : Fin 16) (level : Fin 4), (s.mode = mService) ∧ (s.g CM_ACT_PHASE = 0) ∧ (s.timersHeld = false)) ∧
    (∃ (s : State), (s.md.rest = .awake) ∧ (s.md.exiting = false) ∧ (s.is MD_IDLE_STAT_STEPPING = true) ∧ (s.stepMet = true) ∧
    let u := (s.inc MD_IDLE_STAT_LEVEL).off MD_IDLE_STAT_STEPPING
    (u.is MD_IDLE_STAT_EXIT_PEND = false)) ∧
    (∃ (s : State), (s.md.rest = .awake) ∧ (s.md.exiting = false) ∧ (s.is MD_IDLE_STAT_STEPPING = true) ∧ (s.stepMet = true) ∧
    let u := (s.inc MD_IDLE_STAT_LEVEL).off MD_IDLE_STAT_STEPPING
    (u.is MD_IDLE_STAT_EXIT_PEND = true)) ∧
    (∃ (s : State), (s.md.rest = .awake) ∧ (s.md.exiting = true) ∧ (s.exitDone = true)) ∧
    (∃ (s : State), (s.md.rest = .draining) ∧ (s.cm.table = [])) ∧
    (∃ (s : State), (s.is QM_HALT_HALTED = false) ∧ ((s.mode = mService ∨ s.mode = mMaint)) ∧ ((s.is MD_IDLE_STAT_STEPPING = true ∨ s.md.rest ≠ .awake))) ∧
    (∃ (s : State), (s.is QM_HALT_HALTED = false) ∧ ((s.mode = mService ∨ s.mode = mMaint)) ∧ (s.is MD_IDLE_STAT_STEPPING = false) ∧ (s.md.rest = .awake) ∧ (s.md.exiting = false) ∧ (s.is MD_IDLE_STAT_LEVEL = true)) ∧
    (∃ (s : State), (s.md.rest = .stopping) ∧ ((upTo 4).all (fun i => decide (s.phase i = phStopped)) = true)) ∧
    (∃ (s : State), (s.md.rest = .saved)) ∧
    (∃ (s : State) (trip : Bool), (s.md.rest = .asleep)) ∧
    (∃ (s : State), (s.md.rest = .waking false) ∧ (s.mode = mRest) ∧ ((s.is LK_CTL_EN = true → s.g LK_CTL_STATE = stOn))) ∧
    (∃ (s : State), (s.md.rest = .waking true) ∧ (s.mode = mRest) ∧ ((s.is LK_CTL_EN = true → s.g LK_CTL_STATE = stOn))) :=
  ⟨⟨fl [(MD_MODE_MODE, 2)], 3, 1, by decide +kernel⟩,
   ⟨fl [(MD_IDLE_STAT_STEPPING, 1)], by decide +kernel⟩,
   ⟨fl [(MD_IDLE_STAT_STEPPING, 1), (MD_IDLE_STAT_EXIT_PEND, 1)], by decide +kernel⟩,
   ⟨{ fl [(MD_IDLE_STAT_LEVEL, 2)] with md := { exiting := true } }, by decide +kernel⟩,
   ⟨{ md := { rest := .draining } }, by decide +kernel⟩,
   ⟨fl [(MD_MODE_MODE, 2), (MD_IDLE_STAT_STEPPING, 1)], by decide +kernel⟩,
   ⟨fl [(MD_MODE_MODE, 2), (MD_IDLE_STAT_LEVEL, 2)], by decide +kernel⟩,
   ⟨{ md := { rest := .stopping } }, by decide +kernel⟩,
   ⟨{ md := { rest := .saved } }, by decide +kernel⟩,
   ⟨{ md := { rest := .asleep } }, true, by decide +kernel⟩,
   ⟨{ fl [(MD_MODE_MODE, 3)] with md := { rest := .waking false } }, by decide +kernel⟩,
   ⟨{ fl [(MD_MODE_MODE, 3)] with md := { rest := .waking true, safeReq := 2 } }, by decide +kernel⟩⟩

end
end

/-! PROOFS. The scope of the machine: every step answers, the reset state, the invariant, the parts a command may touch, packed
fields and the sample memory (O3, O4, O5, O6, O30). -/

namespace Sys2Proof.Machine

open Reg

/-! The whole machine. -/

/-- Every arm of `exec` is a meaning that ends in `.next`. -/
theorem exec_next (c : Instr) (s : State) : ∃ t, exec c s = .next t := by
  cases c <;> exact ⟨_, rfl⟩

theorem step_next (s : State) : ∃ t, step s = .next t := by
  unfold step
  split
  · exact ⟨_, rfl⟩
  · exact exec_next _ _

/-- Settles O3: the front command answers a next state, and on an empty queue the tick does. -/
theorem everyStepAnswersNextState : Obligations.EveryStepAnswersNextState := ⟨step_next, exec_next⟩

theorem reset_rd (a : Nat) : State.reset.rd a = resetVal a := rfl

theorem reset_inv : State.reset.Inv := ⟨⟨rfl, rfl, rfl⟩, by unfold State.LegalMode; decide⟩

/-- Settles O4. -/
theorem resetState : Obligations.ResetState :=
  ⟨reset_inv, reset_rd, rfl, by decide, rfl, rfl, rfl, rfl⟩

/-- The invariant does not speak of the queue. -/
theorem inv_pending {s : State} {l : List Instr} (h : s.Inv) : State.Inv { s with pending := l } := h

/-- Settles O5: the front command keeps the invariant by `exec_inv`, the tick of an empty queue by `State.tick_fr`. -/
theorem everyStepKeepsInvariant : Obligations.EveryStepKeepsInvariant := by
  intro s t hi h
  unfold step at h
  split at h
  · injection h with h
    subst h
    exact (State.tick_fr (M := { now := true, paT := true }) (by decide) (Fr.refl _ s)).inv hi
  · exact exec_inv h (inv_pending hi)

/-- Settles O6. -/
theorem commandsKeepToTheirParts : Obligations.CommandsKeepToTheirParts := fun c s t h => (exec_fr c s t h).within

/-! Packed fields. -/

theorem bitsOf_lt (n lo w : Nat) : bitsOf n lo w < 2 ^ w := Nat.mod_lt _ (Nat.two_pow_pos w)

/-- A field of a packed word reads back, modulo its width: the one at place `i`, above the widths of those before it. -/
theorem bitsOf_pk : ∀ {l : List (Nat × Nat)} (i : Nat) {v w lo : Nat}, l[i]? = some (v, w) →
    ((l.take i).map (·.2)).sum = lo → bitsOf (pk l) lo w = v % 2 ^ w
  | (v, w) :: t, 0, _, _, _, h, rfl => by
    cases h
    simpa [pk] using bitsOf_pack_first v w (pk t)
  | (v, w) :: t, i + 1, _, _, _, h, rfl => by
    simp only [pk, List.take_succ_cons, List.map_cons, List.sum_cons]
    rw [bitsOf_pack_rest _ _ _ _ _ (Nat.le_add_right _ _), Nat.add_sub_cancel_left]
    exact bitsOf_pk i (by simpa using h) rfl

/-- A run of equal widths. -/
theorem bitsOf_pk_upTo (f : Nat → Nat) {n w k : Nat} (h : k < n) :
    bitsOf (pk ((upTo n).map fun i => (f i, w))) (w * k) w = f k % 2 ^ w := by
  refine bitsOf_pk k ?_ ?_
  · simp [upTo, h]
  · simp [upTo, ← List.map_take, List.take_range, Nat.min_eq_left (Nat.le_of_lt h), Nat.mul_comm, Function.comp_def]

theorem pk_lt_of_sum {l : List (Nat × Nat)} {n : Nat} (h : (l.map (·.2)).sum = n) : pk l < 2 ^ n := h ▸ pk_lt l

theorem pk_upTo_lt (f : Nat → Nat) (n w : Nat) : pk ((upTo n).map fun i => (f i, w)) < 2 ^ (n * w) :=
  pk_lt_of_sum (by simp [upTo, Function.comp_def])

/-- A field below bit `n` does not see what stands from bit `n` on. -/
theorem bitsOf_add_high (v x : Nat) {n lo w : Nat} (h : lo + w ≤ n) : bitsOf (v + 2 ^ n * x) lo w = bitsOf v lo w := by
  obtain ⟨k, rfl⟩ := Nat.exists_eq_add_of_le h
  have e : v + 2 ^ (lo + w + k) * x = v + 2 ^ lo * (2 ^ w * (2 ^ k * x)) := by rw [pow_add, pow_add]; ring
  unfold bitsOf
  rw [e, Nat.add_mul_div_left _ _ (Nat.two_pow_pos lo), Nat.add_mul_mod_self_left]

/-! Sample memory. -/

/-- Settles O30: the five samples are fields of 6 bits of a packed word, and STALE stands above them. -/
theorem sampleMemoryReadCompletes : Obligations.SampleMemoryReadCompletes := by
  intro s c
  refine ⟨_, rfl, ?_⟩
  beta_reduce
  intro pos x v
  set f : Nat → Nat := fun k => if pos + k > 36863 then 0 else bitsOf v (6 * (pos + k)) 6 with hf
  set m := pk ((upTo 5).map fun k => (f k, 6)) with hm
  have hlt : m < 2 ^ 30 := pk_upTo_lt f 5 6
  have hb : b2n x.stale < 2 := by cases x.stale <;> decide
  have hr : (s.smemRead c.val).rdata.toNat = m + 2 ^ 31 * b2n x.stale := by
    show (BitVec.ofNat 32 (m + 2 ^ 31 * b2n x.stale)).toNat = _
    rw [BitVec.toNat_ofNat, Nat.mod_eq_of_lt (by omega)]
  refine ⟨fun k hk => ?_, ?_, ?_, ?_, rfl⟩
  · rw [hr]
    have h1 := bitsOf_add_high m (b2n x.stale) (n := 31) (lo := 6 * k) (w := 6) (by omega)
    have h2 : bitsOf m (6 * k) 6 = f k % 2 ^ 6 := bitsOf_pk_upTo f hk
    have h3 : f k % 2 ^ 6 = f k := Nat.mod_eq_of_lt (by
      simp only [hf]; split
      · decide
      · exact bitsOf_lt ..)
    exact (h1.trans h2).trans h3
  · rw [hr]; omega
  · rw [hr]
    cases x.stale <;> simp [b2n] <;> omega
  · exact State.g_p_same _ _ _ (by simp [CH_SMEM_ADDR_POS])

end Sys2Proof.Machine

/-! PROOFS. Bytes of buffer memory (O20). -/

namespace Sys2Proof

open Machine

/-! Sparse tables: what a lookup finds in a part of a table and in two tables side by side. -/

variable {α : Type}

theorem Tbl.find_eq_none {t : Tbl α} {k : Nat} (h : ∀ c ∈ t, c.1 ≠ k) : t.find k = none := by
  induction t with
  | nil => rfl
  | cons x t ih =>
    rw [Tbl.find, if_neg (h x List.mem_cons_self)]
    exact ih fun c hc => h c (List.mem_cons_of_mem _ hc)

theorem Tbl.find_append (t u : Tbl α) (k : Nat) : Tbl.find (t ++ u) k = (t.find k).or (u.find k) := by
  induction t with
  | nil => rfl
  | cons x t ih =>
    by_cases h : x.1 = k
    · simp [Tbl.find, h]
    · simpa [Tbl.find, h] using ih

theorem Tbl.find_filter (t : Tbl α) (p : Nat → Bool) (k : Nat) :
    Tbl.find (t.filter fun c => p c.1) k = if p k then t.find k else none := by
  induction t with
  | nil => simp [Tbl.find]
  | cons x t ih =>
    by_cases h : x.1 = k
    · subst h
      cases hp : p x.1
      · simpa [hp] using ih
      · simp [hp, Tbl.find]
    · cases hp : p x.1
      · simpa [hp, Tbl.find, h] using ih
      · simpa [hp, Tbl.find, h] using ih

namespace Machine

open Reg

/-! Bytes of buffer memory: what a write of `n` bytes leaves at each address. -/

theorem Memory.find_cells_outside {a n v k : Nat} (h : k < a ∨ a + n ≤ k) : Tbl.find (Memory.cells a n v) k = none :=
  Tbl.find_eq_none fun c hc => by
    obtain ⟨h1, h2, -⟩ := (Memory.cells_spec n a v).2 c hc
    omega

/-- Byte `i` of the value stands at its address, listed unless it is 0. -/
theorem Memory.getD_cells (n : Nat) : ∀ (a v i : Nat), i < n →
    Tbl.getD (Memory.cells a n v) (a + i) 0 = BitVec.ofNat 8 (v / 256 ^ i) := by
  induction n with
  | zero => intro a v i h; omega
  | succ n ih =>
    intro a v i h
    cases i with
    | zero =>
      by_cases hv : v % 256 = 0
      · have z : BitVec.ofNat 8 v = 0 := BitVec.eq_of_toNat_eq (by simpa using hv)
        rw [Memory.cells, if_pos hv, Tbl.getD, Memory.find_cells_outside (.inl (by omega))]
        simp [z]
      · simp [Memory.cells, hv, Tbl.getD, Tbl.find]
    | succ i =>
      have e : Tbl.getD (Memory.cells a (n + 1) v) (a + (i + 1)) 0 = Tbl.getD (Memory.cells (a + 1) n (v / 256)) (a + 1 + i) 0 := by
        rw [show a + (i + 1) = a + 1 + i by omega, Memory.cells]
        split
        · rfl
        · rw [Tbl.getD, Tbl.find, if_neg (by omega)]; rfl
      rw [e, ih _ _ _ (Nat.lt_of_succ_lt_succ h), Nat.div_div_eq_div_mul, pow_succ']

theorem Memory.rd_wrN_inside (m : List Host.Cell) {a n v i : Nat} (h : i < n) :
    Memory.rd (Memory.wrN m a n v) (a + i) = BitVec.ofNat 8 (v / 256 ^ i) := by
  rw [← Memory.getD_cells n a v i h]
  unfold Memory.rd Memory.wrN Tbl.getD
  rw [Tbl.find_append, Tbl.find_append, Tbl.find_filter _ (fun j => decide (j < a)), Tbl.find_filter _ (fun j => decide (a + n ≤ j))]
  simp [Nat.not_le.mpr h]

theorem Memory.rd_wrN_outside (m : List Host.Cell) {a n v b : Nat} (h : b < a ∨ a + n ≤ b) :
    Memory.rd (Memory.wrN m a n v) b = Memory.rd m b := by
  unfold Memory.rd Memory.wrN Tbl.getD
  rw [Tbl.find_append, Tbl.find_append, Tbl.find_filter _ (fun j => decide (j < a)), Tbl.find_filter _ (fun j => decide (a + n ≤ j)),
    Memory.find_cells_outside h]
  rcases h with h | h
  · have h2 : ¬ a + n ≤ b := by omega
    simp [h, h2]
  · have h2 : ¬ b < a := by omega
    simp [h, h2]

/-- Bytes that spell a value read as that value. -/
theorem Memory.rdN_eq (m : List Host.Cell) (n : Nat) : ∀ (a v : Nat),
    (∀ i < n, Memory.rd m (a + i) = BitVec.ofNat 8 (v / 256 ^ i)) → Memory.rdN m a n = v % 256 ^ n := by
  induction n with
  | zero => intro a v _; simp [Memory.rdN, Nat.mod_one]
  | succ n ih =>
    intro a v h
    have h0 : Memory.rd m a = BitVec.ofNat 8 v := by simpa using h 0 (Nat.succ_pos n)
    have h1 : Memory.rdN m (a + 1) n = v / 256 % 256 ^ n := ih _ _ fun i hi => by
      rw [Nat.div_div_eq_div_mul, ← pow_succ', Nat.add_assoc, Nat.add_comm 1]
      exact h (i + 1) (Nat.succ_lt_succ hi)
    rw [Memory.rdN, h0, h1, BitVec.toNat_ofNat, pow_succ' 256, Nat.mod_mul]

theorem Memory.rdN_wrN (m : List Host.Cell) (a n v : Nat) : Memory.rdN (Memory.wrN m a n v) a n = v % 2 ^ (8 * n) := by
  rw [Memory.rdN_eq _ n a v fun i hi => Memory.rd_wrN_inside m hi, pow_mul]
  rfl

/-- Check bits after good data is written. -/
theorem State.bErr_bPut (s : State) (a n v b : Nat) :
    (s.bPut a n v).bErr b = if a < b / 8 * 8 + 8 ∧ b / 8 * 8 < a + n then 0 else s.bErr b := by
  unfold State.bErr State.bPut Tbl.getD
  rw [Tbl.find_filter _ (fun j => decide (a + n ≤ j) || decide (j + 8 ≤ a))]
  by_cases h : a < b / 8 * 8 + 8 ∧ b / 8 * 8 < a + n
  · have h1 : ¬ a + n ≤ b / 8 * 8 := by omega
    have h2 : ¬ b / 8 * 8 + 8 ≤ a := by omega
    simp [h, h1, h2]
  · have h1 : a + n ≤ b / 8 * 8 ∨ b / 8 * 8 + 8 ≤ a := by omega
    simp [h, h1]

/-- A write that misses the code region is carried out whole. -/
theorem State.bWr_miss {s : State} {a n v : Nat} (h : a + n ≤ s.pair BM_CODE_BASE_LO BM_CODE_BASE_HI ∨
    s.pair BM_CODE_BASE_LO BM_CODE_BASE_HI + s.g BM_CODE_SIZE_MIB * 2 ^ 20 ≤ a) : s.bWr a n v = s.bPut a n v := by
  unfold State.bWr
  exact if_neg (by omega)

/-- A write that lies in the code region writes no byte. -/
theorem State.rd_bWr_code {s : State} {a n v : Nat} (b : Nat) (h1 : s.pair BM_CODE_BASE_LO BM_CODE_BASE_HI ≤ a)
    (h2 : a + n ≤ s.pair BM_CODE_BASE_LO BM_CODE_BASE_HI + s.g BM_CODE_SIZE_MIB * 2 ^ 20) :
    Memory.rd (s.bWr a n v).bm.mem b = Memory.rd s.bm.mem b := by
  have none (m : List Host.Cell) (c w : Nat) : Memory.rd (Memory.wrN m c 0 w) b = Memory.rd m b :=
    Memory.rd_wrN_outside m (by omega)
  unfold State.bWr
  extract_lets base lo hi
  have elo : lo - a = 0 := by omega
  have ehi : a + n - hi = 0 := by omega
  have en : ¬ lo < hi → n = 0 := by omega
  rw [elo, ehi]
  split
  · exact (none _ _ _).trans (none _ _ _)
  · rename_i h
    rw [en h]
    exact none _ _ _

/-- Settles O20: a write that misses the code region is `bPut`, whose bytes and check bits the lemmas above give. -/
theorem bufferWritesReadBack : Obligations.BufferWritesReadBack := by
  refine ⟨fun s a n v h => ?_, fun s a n v b h1 h2 => State.rd_bWr_code b h1 h2⟩
  rw [State.bWr_miss h]
  refine ⟨Memory.rdN_wrN _ a n v, fun b hb => Memory.rd_wrN_outside _ hb, fun b h1 h2 => ?_, fun b hb => ?_,
    Memory.wf_wrN a n v⟩
  · rw [State.bErr_bPut, if_pos ⟨h1, h2⟩]
  · rw [State.bErr_bPut, if_neg (by omega)]

end Machine

end Sys2Proof

/-! PROOFS. What stands in the journal dies (O24). -/

namespace Sys2Proof.Machine

open Reg

/-! Images of records (R278–R280). -/

/-- A field below bit `n` of a packed word whose first value stands in bits `n - 1 : 0`. -/
theorem bitsOf_pk_first {v n lo w : Nat} (t : List (Nat × Nat)) (hv : v < 2 ^ n) (h : lo + w ≤ n) :
    bitsOf (pk ((v, n) :: t)) lo w = bitsOf v lo w := by
  rw [pk, bitsOf_add_high _ _ h, Nat.mod_eq_of_lt hv]

theorem bitsOf_whole {v n : Nat} (h : v < 2 ^ n) : bitsOf v 0 n = v := by
  simpa [bitsOf] using Nat.mod_eq_of_lt h

theorem JRec.head60_lt (r : JRec) : r.head60 < 2 ^ 480 := pk_lt_of_sum (by simp)

theorem JRec.header_lt (r : JRec) : r.header < 2 ^ 512 := pk_lt_of_sum (by simp)

theorem JRec.bitsOf_image_header (r : JRec) {lo w : Nat} (h : lo + w ≤ 512) : bitsOf r.image lo w = bitsOf r.header lo w := by
  rw [JRec.image, Nat.mul_comm, bitsOf_add_high _ _ h]

theorem JRec.bitsOf_image_head60 (r : JRec) {lo w : Nat} (h : lo + w ≤ 480) : bitsOf r.image lo w = bitsOf r.head60 lo w := by
  rw [r.bitsOf_image_header (Nat.le_trans h (by decide)), JRec.header, bitsOf_pk_first _ r.head60_lt h]

theorem JRec.bitsOf_image_payload (r : JRec) {n : Nat} (h : r.payload < 2 ^ n) : bitsOf r.image 512 n = r.payload := by
  rw [bitsOf, JRec.image, Nat.add_mul_div_right _ _ (Nat.two_pow_pos _), Nat.div_eq_of_lt r.header_lt, Nat.zero_add,
    Nat.mod_eq_of_lt h]

/-- The fields of the header that R280 tests. -/
theorem JRec.image_typ (r : JRec) : bitsOf r.image 0 8 = r.typ % 2 ^ 8 :=
  (r.bitsOf_image_head60 (by decide)).trans (bitsOf_pk 0 (by simp) (by simp))

theorem JRec.image_ver (r : JRec) : bitsOf r.image 8 8 = 1 :=
  (r.bitsOf_image_head60 (by decide)).trans (bitsOf_pk (v := 1) 1 (by simp) (by simp))

theorem JRec.image_zero (r : JRec) : bitOf r.image 18 = b2n r.zero % 2 ^ 1 :=
  (r.bitsOf_image_head60 (lo := 18) (w := 1) (by decide)).trans (bitsOf_pk 4 (by simp) (by simp))

theorem JRec.image_len (r : JRec) : bitsOf r.image 32 32 = r.len % 2 ^ 32 :=
  (r.bitsOf_image_head60 (by decide)).trans (bitsOf_pk 6 (by simp) (by simp))

theorem JRec.image_jseq (r : JRec) : bitsOf r.image 64 64 = r.jseq % 2 ^ 64 :=
  (r.bitsOf_image_head60 (by decide)).trans (bitsOf_pk 7 (by simp) (by simp))

theorem JRec.image_pcrc (r : JRec) :
    bitsOf r.image 448 32 = (if r.loaded then Code.crc32c (512 * (r.len - 1)) r.payload else 0) % 2 ^ 32 :=
  (r.bitsOf_image_head60 (by decide)).trans (bitsOf_pk 9 (by simp) (by simp))

theorem JRec.image_hcrc (r : JRec) : bitsOf r.image 480 32 = Code.crc32c 480 (bitsOf r.image 0 480) := by
  rw [r.bitsOf_image_head60 (lo := 0) (by decide), bitsOf_whole r.head60_lt, r.bitsOf_image_header (by decide)]
  exact (bitsOf_pk 1 (by simp) (by simp)).trans (Nat.mod_eq_of_lt (crc32c_lt _ _))

/-- Of a defined TYPE, the records without a payload are those whose bytes say so. -/
theorem JRec.loaded_iff {r : JRec} (h : r.typ = tData ∨ r.typ = tStripe ∨ r.typ = tRetire ∨ r.typ = tPad) :
    (r.typ == tRetire || r.typ == tPad || (r.typ == tData && decide (b2n r.zero % 2 ^ 1 = 1))) = !r.loaded := by
  unfold JRec.loaded
  rcases h with h | h | h | h <;> rw [h] <;> cases r.zero <;> rfl

theorem JRec.imageOk_image {r : JRec} (ht : r.typ = tData ∨ r.typ = tStripe ∨ r.typ = tRetire ∨ r.typ = tPad)
    (hj : r.jseq < 2 ^ 64) (hl : r.len < 2 ^ 32) (hp : r.payload < 2 ^ (512 * (r.len - 1))) :
    imageOk r.image r.jseq = true := by
  have ht4 : 1 ≤ r.typ ∧ r.typ ≤ 4 := by rcases ht with h | h | h | h <;> rw [h] <;> decide
  simp only [imageOk, r.image_typ, r.image_ver, r.image_zero, r.image_len, r.image_jseq, r.image_pcrc, ← r.image_hcrc,
    Nat.mod_eq_of_lt (show r.typ < 2 ^ 8 by omega), Nat.mod_eq_of_lt hl, Nat.mod_eq_of_lt hj, r.bitsOf_image_payload hp,
    JRec.loaded_iff ht]
  cases r.loaded
  · simp [ht4]
  · simpa [ht4] using crc32c_lt (512 * (r.len - 1)) r.payload

/-! Superblocks (R293). -/

/-- Bytes 0 to 59 of a superblock. -/
def Superblock.head (b : Superblock) : Nat :=
  pk [(0x5A484A31, 32), (b.gen, 32), (b.tailJ, 64), (b.tailGran % ringLen, 32), (ringLen, 32), (0, 288)]

theorem Superblock.image_eq (b : Superblock) : b.image =
    pk [(b.head, 480), (if b.valid then Code.crc32c 480 b.head else Code.crc32c 480 b.head + 1, 32)] := rfl

theorem Superblock.head_lt (b : Superblock) : b.head < 2 ^ 480 := pk_lt_of_sum (by simp)

theorem Superblock.bitsOf_image_head (b : Superblock) {lo w : Nat} (h : lo + w ≤ 480) : bitsOf b.image lo w = bitsOf b.head lo w :=
  bitsOf_pk_first _ b.head_lt h

theorem Superblock.image_crc (b : Superblock) :
    b.valid = true ↔ bitsOf b.image 480 32 = Code.crc32c 480 (bitsOf b.image 0 480) := by
  have hc := crc32c_lt 480 b.head
  have h : bitsOf b.image 480 32 = (if b.valid then Code.crc32c 480 b.head else Code.crc32c 480 b.head + 1) % 2 ^ 32 := by
    rw [b.image_eq]
    exact bitsOf_pk 1 (by simp) (by simp)
  rw [h, b.bitsOf_image_head (by decide), bitsOf_whole b.head_lt]
  cases b.valid
  · simp; omega
  · simp; omega

theorem Superblock.image_fields {b : Superblock} (hg : b.gen < 2 ^ 32) (ht : b.tailJ < 2 ^ 64) :
    bitsOf b.image 0 32 = 0x5A484A31 ∧ bitsOf b.image 32 32 = b.gen ∧ bitsOf b.image 64 64 = b.tailJ ∧
    bitsOf b.image 128 32 = b.tailGran % ringLen ∧ bitsOf b.image 160 32 = ringLen ∧ bitsOf b.image 192 288 = 0 := by
  have hr : b.tailGran % ringLen < 2 ^ 32 := Nat.lt_trans (Nat.mod_lt _ (by decide)) (by decide : ringLen < 2 ^ 32)
  refine ⟨?_, ?_, ?_, ?_, ?_, ?_⟩ <;> rw [b.bitsOf_image_head (by decide)]
  · exact bitsOf_pk (v := 0x5A484A31) 0 (by simp) (by simp)
  · exact (bitsOf_pk 1 (by simp) (by simp)).trans (Nat.mod_eq_of_lt hg)
  · exact (bitsOf_pk 2 (by simp) (by simp)).trans (Nat.mod_eq_of_lt ht)
  · exact (bitsOf_pk 3 (by simp) (by simp)).trans (Nat.mod_eq_of_lt hr)
  · exact bitsOf_pk (v := ringLen) 4 (by simp) (by simp)
  · exact bitsOf_pk (v := 0) 5 (by simp) (by simp)

/-! The map of a die (R275). -/

theorem Superblock.image_lt (b : Superblock) : b.image < 2 ^ 512 := pk_lt_of_sum (by simp)

/-- Sixty bytes and their CRC are 64 bytes. -/
theorem crc_appended_lt {b : Nat} (h : b < 2 ^ 480) : b + Code.crc32c 480 b * 2 ^ 480 < 2 ^ 512 := by
  have hc := crc32c_lt 480 b
  have h1 : (Code.crc32c 480 b + 1) * 2 ^ 480 ≤ 2 ^ 32 * 2 ^ 480 := Nat.mul_le_mul_right _ hc
  rw [← pow_add, Nat.add_mul] at h1
  omega

theorem CkRec.image_lt (c : CkRec) (v : Nat) : c.image v < 2 ^ 512 := crc_appended_lt (pk_lt_of_sum (by simp))

theorem devImage_lt (gen mask : Nat) : devImage gen mask < 2 ^ 512 := crc_appended_lt (pk_lt_of_sum (by simp))

theorem imagesAt_lt {n w : Nat} (f : Nat → Option Nat) (k : Nat) (h : n * w = 512) : imagesAt n w f k < 2 ^ 512 :=
  h ▸ pk_upTo_lt _ n w

theorem DieLog.granule_lt {l : DieLog} {g v : Nat} (h : l.granule g = some v) : v < 2 ^ 512 := by
  obtain ⟨r, -, rfl⟩ := Option.map_eq_some_iff.mp h
  exact Nat.mod_lt _ (Nat.two_pow_pos _)

theorem lt_of_ite_some {n x v : Nat} {p : Prop} [Decidable p] (hx : x < n) (h : (if p then some x else none) = some v) : v < n := by
  split at h
  · cases h; exact hx
  · cases h

theorem Superblock.place_lt {b : Superblock} {p : Prop} [Decidable p] {v : Nat} (h : some (if p then b.image else 0) = some v) :
    v < 2 ^ 512 := by
  cases h
  split
  · exact b.image_lt
  · exact Nat.two_pow_pos _

/-- Nothing that stands at a place of the map exceeds its 64 bytes. -/
theorem State.mram_lt {s : State} {d a v : Nat} (h : s.mram d a = some v) : v < 2 ^ 512 := by
  unfold State.mram at h
  dsimp only at h
  split at h
  · exact DieLog.granule_lt h
  split at h
  · exact Superblock.place_lt h
  split at h
  · exact Superblock.place_lt h
  split at h
  · cases h; exact imagesAt_lt _ _ rfl
  split at h
  · split at h
    · exact lt_of_ite_some (CkRec.image_lt _ _) h
    · cases h
  split at h
  · split at h
    · exact lt_of_ite_some (devImage_lt _ _) h
    · cases h
  split at h
  · cases h; exact imagesAt_lt _ _ rfl
  split at h
  · cases h; exact imagesAt_lt _ _ rfl
  split at h
  · cases h; exact imagesAt_lt _ _ rfl
  · cases h

/-- The two superblocks, each at the first 64 bytes of its 4 KiB. -/
theorem State.mram_superblocks (s : State) (d : Nat) {a : Nat} (h : a < 4096) :
    s.mram d (0x7E000000 + a) = some (if a = 0 then (s.jd d).sbA.image else 0) ∧
    s.mram d (0x7E001000 + a) = some (if a = 0 then (s.jd d).sbB.image else 0) := by
  unfold State.mram
  constructor
  · rw [if_neg (by omega), if_pos (by omega)]; simp
  · rw [if_neg (by omega), if_neg (by omega), if_pos (by omega)]; simp

/-- The newest record covers each of its granules. -/
theorem DieLog.granule_newest {l : DieLog} {r : JRec} {k : Nat} (h : l.ring.getLast? = some r) (hk : k < r.len)
    (hr : r.gran % ringLen + k < ringLen) : l.granule (r.gran % ringLen + k) = some (r.image / 2 ^ (512 * k) % 2 ^ 512) := by
  have e : (r.gran % ringLen + k + ringLen - r.gran % ringLen) % ringLen = k := by
    rw [show r.gran % ringLen + k + ringLen - r.gran % ringLen = k + ringLen by omega, Nat.add_mod_right,
      Nat.mod_eq_of_lt (by omega)]
  obtain ⟨t, ht⟩ := List.getLast?_eq_some_iff.mp h
  unfold DieLog.granule
  rw [ht, List.reverse_append]
  simp [e, hk]

theorem State.mram_newest {s : State} {d k : Nat} {r : JRec} (h : (s.jd d).ring.getLast? = some r) (hk : k < r.len)
    (hr : r.gran % ringLen + k < ringLen) :
    s.mram d (64 * (r.gran % ringLen + k)) = some (r.image / 2 ^ (512 * k) % 2 ^ 512) := by
  have hlt : 64 * (r.gran % ringLen + k) < 0x7E000000 := by
    have : ringLen * 64 = 0x7E000000 := by decide
    omega
  unfold State.mram
  rw [if_pos hlt, Nat.mul_div_cancel_left _ (by decide), DieLog.granule_newest h hk hr]

/-- Settles O24. -/
theorem journalImagesAreValid : Obligations.JournalImagesAreValid := by
  refine ⟨fun r ht hj _ hl hp => JRec.imageOk_image ht hj hl hp, fun b hg ht => ?_,
    fun s d a h => s.mram_superblocks d h, fun s d k r h hk hr => State.mram_newest h hk hr, fun s d a v h => State.mram_lt h⟩
  obtain ⟨h1, h2, h3, h4, h5, h6⟩ := Superblock.image_fields hg ht
  exact ⟨h1, h2, h3, h4, h5, h6, b.image_crc⟩

end Sys2Proof.Machine

/-! PROOFS. Plain writes of the control window and MD_LOCK (O9). -/

namespace Sys2Proof.Machine

open Reg

/-! Steps over a list of instances. -/

theorem State.each_append {α : Type} (l m : List α) (f : α → State → State) (s : State) :
    State.each (l ++ m) f s = State.each m f (State.each l f s) := List.foldl_append

theorem State.each_cons {α : Type} (x : α) (l : List α) (f : α → State → State) (s : State) :
    State.each (x :: l) f s = State.each l f (f x s) := rfl

/-- What every step of the list leaves as it is. -/
theorem State.each_keeps {α β : Type} (P : State → β) {l : List α} {f : α → State → State}
    (h : ∀ x ∈ l, ∀ t, P (f x t) = P t) (s : State) : P (State.each l f s) = P s := by
  induction l generalizing s with
  | nil => rfl
  | cons x l ih =>
    rw [State.each_cons, ih (fun y hy => h y (List.mem_cons_of_mem _ hy)), h x List.mem_cons_self]

/-! Fields of a register. -/

/-- Two fields of a register share no bit. -/
def FieldsApart (f g : FieldDesc) : Prop := f.lo + f.w ≤ g.lo ∨ g.lo + g.w ≤ f.lo

theorem FieldsApart.symm {f g : FieldDesc} (h : FieldsApart f g) : FieldsApart g f := Or.symm h

theorem regFields_width {a : Nat} {fs : List FieldDesc} (h : regFields a = some fs) : ∀ f ∈ fs, f.lo + f.w ≤ 32 :=
  (regFields_disjoint h).2

theorem regFields_pairwise {a : Nat} {fs : List FieldDesc} (h : regFields a = some fs) : fs.Pairwise FieldsApart :=
  (regFields_disjoint h).1

theorem regFields_apart {a : Nat} {fs : List FieldDesc} (h : regFields a = some fs) {f g : FieldDesc} (hf : f ∈ fs) (hg : g ∈ fs)
    (hne : f ≠ g) : FieldsApart f g :=
  have : Std.Symm FieldsApart := ⟨fun _ _ => FieldsApart.symm⟩
  (regFields_pairwise h).forall hf hg hne

/-- A field of a register apart from the one written reads as before. -/
theorem State.g_p_apart (s : State) (addr x : Nat) {f g : FieldDesc} (hw : f.lo + f.w ≤ 32) (h : FieldsApart f g) :
    (s.p ⟨addr, f.lo, f.w⟩ x).g ⟨addr, g.lo, g.w⟩ = s.g ⟨addr, g.lo, g.w⟩ :=
  State.g_p_field (f := ⟨addr, f.lo, f.w⟩) (r := ⟨addr, g.lo, g.w⟩) s x rfl hw h.symm

/-! The write of one field (R12, R13, R15). -/

theorem State.fieldWrite_cases (s : State) (addr v sets : Nat) (f : FieldDesc) :
    s.fieldWrite addr v sets false f = s ∨ ∃ x, s.fieldWrite addr v sets false f = s.p ⟨addr, f.lo, f.w⟩ x := by
  unfold State.fieldWrite
  cases f.acc
  case rw => exact .inr ⟨_, rfl⟩
  case w1c => exact .inr ⟨_, rfl⟩
  case rwl => dsimp only; split; exacts [.inl rfl, .inr ⟨_, rfl⟩]
  all_goals exact .inl rfl

theorem State.fieldWrite_rd_other (s : State) {addr v sets a : Nat} (f : FieldDesc) (h : a ≠ addr) :
    (s.fieldWrite addr v sets false f).rd a = s.rd a := by
  rcases s.fieldWrite_cases addr v sets f with e | ⟨x, e⟩ <;> rw [e]
  exact State.rd_p_other s x h

theorem State.fieldWrite_g_apart (s : State) {addr v sets : Nat} {f g : FieldDesc} (hw : f.lo + f.w ≤ 32) (h : FieldsApart f g) :
    (s.fieldWrite addr v sets false f).g ⟨addr, g.lo, g.w⟩ = s.g ⟨addr, g.lo, g.w⟩ := by
  rcases s.fieldWrite_cases addr v sets f with e | ⟨x, e⟩ <;> rw [e]
  exact State.g_p_apart s addr x hw h

/-- MD_LOCK set, an RWL field takes no write (R15). -/
theorem State.fieldWrite_locked {s : State} {addr v sets : Nat} {f : FieldDesc} (hs : s.is MD_LOCK_LOCK = true) (hf : f.acc = .rwl) :
    s.fieldWrite addr v sets false f = s := by
  unfold State.fieldWrite
  simp [hf, hs]

/-! The write of a register. -/

theorem State.plainWrite_frame (s : State) (addr v sets : Nat) :
    Fr { md := true, rmd := true, rbt := true, rpw := true, rsf := true } s (s.plainWrite addr v sets) :=
  State.plainWrite_fr (by decide) (Fr.refl _ s)

/-- The registers after a plain write are those after the writes of its fields. -/
theorem State.plainWrite_rd (s : State) {addr v sets : Nat} {fs : List FieldDesc} (h : regFields addr = some fs) (a : Nat) :
    (s.plainWrite addr v sets).rd a = (State.each fs (fun f t => t.fieldWrite addr v sets false f) s).rd a := by
  unfold State.plainWrite
  rw [h]
  dsimp only
  split <;> rfl

theorem regFields_MD_LOCK : regFields MD_LOCK = some [⟨0, 1, .rwl, 0⟩] := by decide +kernel

theorem regFields_AR_CFG : regFields AR_CFG = some [⟨0, 8, .rw, 0x64⟩, ⟨8, 8, .rw, 0x19⟩] := by decide +kernel

/-- MD_LOCK set, no write of a register's fields clears it: LOCK is the RWL field of a register of its own. -/
theorem State.fieldWrite_keeps_lock {s : State} {addr v sets : Nat} {fs : List FieldDesc} {f : FieldDesc}
    (h : regFields addr = some fs) (hf : f ∈ fs) (hs : s.is MD_LOCK_LOCK = true) :
    (s.fieldWrite addr v sets false f).is MD_LOCK_LOCK = true := by
  by_cases ha : addr = MD_LOCK
  · subst ha
    rw [regFields_MD_LOCK] at h
    cases h
    rw [State.fieldWrite_locked hs (by rw [List.mem_singleton.mp hf])]
    exact hs
  · have e := s.fieldWrite_rd_other (v := v) (sets := sets) f (Ne.symm ha)
    unfold State.is State.g at *
    rw [show MD_LOCK_LOCK.addr = MD_LOCK from rfl, e]
    exact hs

/-- MD_LOCK set, the writes of a register's fields leave each RWL field of it as it is. -/
theorem State.each_fieldWrite_locked {addr v sets : Nat} {fs : List FieldDesc} {f : FieldDesc} (h : regFields addr = some fs)
    (hf : f ∈ fs) (hl : f.acc = .rwl) : ∀ (l : List FieldDesc), (∀ g ∈ l, g ∈ fs) → ∀ {s : State}, s.is MD_LOCK_LOCK = true →
    (State.each l (fun g t => t.fieldWrite addr v sets false g) s).g ⟨addr, f.lo, f.w⟩ = s.g ⟨addr, f.lo, f.w⟩
  | [], _, _, _ => rfl
  | g :: l, hg, s, hs => by
    have hgf := hg g List.mem_cons_self
    rw [State.each_cons, State.each_fieldWrite_locked h hf hl l (fun x hx => hg x (List.mem_cons_of_mem _ hx))
      (State.fieldWrite_keeps_lock h hgf hs)]
    by_cases e : g = f
    · rw [State.fieldWrite_locked hs (e ▸ hl)]
    · exact s.fieldWrite_g_apart (regFields_width h g hgf) (regFields_apart h hgf hf e)

theorem State.plainWrite_locked {s : State} {addr v sets : Nat} {fs : List FieldDesc} {f : FieldDesc} (h : regFields addr = some fs)
    (hf : f ∈ fs) (hl : f.acc = .rwl) (hs : s.is MD_LOCK_LOCK = true) :
    (s.plainWrite addr v sets).g ⟨addr, f.lo, f.w⟩ = s.g ⟨addr, f.lo, f.w⟩ := by
  have e := State.each_fieldWrite_locked (v := v) (sets := sets) h hf hl fs (fun _ hg => hg) hs
  unfold State.g at *
  rw [State.plainWrite_rd s h]
  exact e

/-- A write of a register with an RWL field while MD_LOCK is set: the plain write of a register, or nothing. -/
theorem State.ctlWrite_locked {s : State} {addr v sets : Nat} {fs : List FieldDesc} {f : FieldDesc} (h : regFields addr = some fs)
    (hf : f ∈ fs) (hl : f.acc = .rwl) (hs : s.is MD_LOCK_LOCK = true) :
    s.ctlWrite addr v sets = s.plainWrite addr v sets ∨ s.ctlWrite addr v sets = s := by
  have hr := rwl_plainOrCoef h hf hl
  have hne : addr ≠ AR_CFG := by
    rintro rfl
    rw [regFields_AR_CFG] at h
    cases h
    simp at hf
    rcases hf with rfl | rfl <;> cases hl
  unfold plainOrCoef at hr
  unfold State.ctlWrite
  cases hact : actAt addr <;> simp only [hact, Bool.false_eq_true] at hr
  case plain => exact .inl (by simp [State.when, hne])
  case coef => exact .inr (by simp [State.coefWrite, hs])

/-- Settles O9: the write is the plain write of the register or none at all, and a plain write leaves RWL fields, fault
units, pins and the recorder. -/
theorem lockedFieldsKeepTheirValue : Obligations.LockedFieldsKeepTheirValue := by
  intro s addr value core sets fs f hs h hf hl
  refine ⟨_, rfl, ?_⟩
  split
  · rcases State.ctlWrite_locked (v := value.toNat) (sets := sets.toNat) h hf hl hs with e | e <;> rw [e]
    · have fr := s.plainWrite_frame addr.toNat value.toNat sets.toNat
      exact ⟨State.plainWrite_locked h hf hl hs, by simpa using fr.unitT, by simpa using fr.ft, by simpa using fr.ev⟩
    · exact ⟨rfl, rfl, rfl, rfl⟩
  · exact ⟨rfl, rfl, rfl, rfl⟩

end Sys2Proof.Machine

/-! PROOFS. Reads of RC fields (O11), and the write of AR_CFG (O10). -/

namespace Sys2Proof.Machine

open Reg

/-! Reads of a register with an RC field (R14). -/

/-- The registers whose value is computed where it is read (`State.peek`). -/
def computedAt (a : Nat) : Bool :=
  let u := (a - FT_U_STAT 0) / 0x100
  let v := (a - AR_VOL_CTL 0) / 0x40
  decide (a ∈ [MD_TIME_LO, MD_IDLE_STAT, MD_IDLE_CFG, FT_PIN, FT_PEND_LO, FT_PEND_HI, EV_STAT, AR_PE_STAT, RB_FT_STAT, JN_HELD,
    JN_FILL, JN_HEAD_LO, JN_HEAD_HI, JN_TAIL_LO, JN_TAIL_HI]) ||
  (decide (u < 60) && decide (a = FT_U_STAT u)) || (decide (v < 64) && decide (a = AR_VOL_STAT v))

/-- Every other register reads as it stands. -/
theorem State.peek_stored (s : State) {a : Nat} (h : computedAt a = false) : s.peek a = s.rd a := by
  simp only [computedAt, Bool.or_eq_false_iff, decide_eq_false_iff_not, List.mem_cons, List.not_mem_nil, or_false, not_or] at h
  obtain ⟨⟨⟨h1, h2, h3, h4, h5, h6, h7, h8, h9, h10, h11, h12, h13, h14, h15⟩, hu⟩, hv⟩ := h
  unfold State.peek
  simp only [h1, h2, h3, h4, h5, h6, h7, h8, h9, h10, h11, h12, h13, h14, h15, hu, hv, if_false, decide_false, Bool.false_and,
    Bool.false_eq_true]

/-- A read of the register is a plain read. -/
def readsPlain (a : Nat) : Bool := match actAt a with
  | .smemData _ | .rcData _ | .capData _ | .patData | .ftData | .hwtData | .dispData | .storeData | .timeLo | .evData | .sigData => false
  | _ => true

theorem State.ctlRead_plain {s : State} {a adds : Nat} (h : readsPlain a = true) : s.ctlRead a adds = s.plainRead a adds := by
  unfold readsPlain at h
  unfold State.ctlRead
  cases hact : actAt a <;> simp only [hact, Bool.false_eq_true] at h <;> rfl

theorem rows_rc : rows.all (fun r => r.fields.all (fun f => decide (f.acc ≠ .rc)) ||
    r.addrs.all (fun a => readsPlain a && !computedAt a)) = true := by
  decide +kernel

/-- A register with an RC field is read as it stands. -/
theorem rc_readsPlain {a : Nat} {fs : List FieldDesc} {f : FieldDesc} (h : regFields a = some fs) (hf : f ∈ fs) (hc : f.acc = .rc) :
    readsPlain a = true ∧ computedAt a = false := by
  obtain ⟨r, hr, hcov, rfl⟩ := regFields_row h
  have := List.all_eq_true.1 rows_rc r hr
  rw [Bool.or_eq_true] at this
  rcases this with t | t
  · have := List.all_eq_true.1 t f hf
    simp [hc] at this
  · simpa using List.all_eq_true.1 t a (RegDesc.covers_mem hcov)

/-- The word a read returns: a WO field reads 0. -/
def hideWo (fs : List FieldDesc) (v : Word) : Word := fs.foldl (fun x f => if f.acc = .wo then setField x f.lo f.w 0 else x) v

/-- The RC fields of a register keep what the handshake adds. -/
def State.keepAdded (s : State) (addr adds : Nat) (fs : List FieldDesc) : State :=
  State.each (fs.filter (fun f => f.acc = .rc)) (fun f t => t.p ⟨addr, f.lo, f.w⟩ (bitsOf adds f.lo f.w)) s

theorem State.plainRead_eq {s : State} {addr adds : Nat} {fs : List FieldDesc} (h : regFields addr = some fs) :
    s.plainRead addr adds = State.keepAdded { s with rdata := hideWo fs (s.peek addr) } addr adds fs := by
  unfold State.plainRead
  rw [h]
  rfl

theorem fieldOf_setField_apart (v : Word) (x : Nat) {f g : FieldDesc} (hw : f.lo + f.w ≤ 32) (h : FieldsApart f g) :
    fieldOf (setField v f.lo f.w x) g.lo g.w = fieldOf v g.lo g.w :=
  h.elim (fieldOf_setField_above v x hw) (fieldOf_setField_below v x hw)

/-- Fields that are not WO show in the word a read returns. -/
theorem fieldOf_hideWo {a : Nat} {fs : List FieldDesc} {f : FieldDesc} (h : regFields a = some fs) (hf : f ∈ fs) (hne : f.acc ≠ .wo) :
    ∀ (l : List FieldDesc), (∀ g ∈ l, g ∈ fs) → ∀ v : Word, fieldOf (hideWo l v) f.lo f.w = fieldOf v f.lo f.w
  | [], _, _ => rfl
  | g :: l, hg, v => by
    have hgf := hg g List.mem_cons_self
    have ih := fieldOf_hideWo h hf hne l (fun x hx => hg x (List.mem_cons_of_mem _ hx))
    rw [show hideWo (g :: l) v = hideWo l (if g.acc = .wo then setField v g.lo g.w 0 else v) from rfl, ih]
    split
    · rename_i hwo
      exact fieldOf_setField_apart v 0 (regFields_width h g hgf) (regFields_apart h hgf hf (fun e => hne (e ▸ hwo)))
    · rfl

theorem State.keepAdded_rdata (s : State) (addr adds : Nat) (fs : List FieldDesc) : (s.keepAdded addr adds fs).rdata = s.rdata := by
  refine State.each_keeps State.rdata (fun g _ t => ?_) s
  rfl

theorem State.keepAdded_rd_other (s : State) {addr adds a : Nat} (fs : List FieldDesc) (h : a ≠ addr) :
    (s.keepAdded addr adds fs).rd a = s.rd a :=
  State.each_keeps (fun t => t.rd a) (fun _ _ t => State.rd_p_other t _ h) _

/-- The last write of a field stands: no later one of the list touches it. -/
theorem State.keepAdded_g {s : State} {addr adds : Nat} {fs : List FieldDesc} {f : FieldDesc} (h : regFields addr = some fs)
    (hf : f ∈ fs) (hc : f.acc = .rc) : (s.keepAdded addr adds fs).g ⟨addr, f.lo, f.w⟩ = bitsOf adds f.lo f.w := by
  have hmem : f ∈ fs.filter (fun f => f.acc = .rc) := List.mem_filter.mpr ⟨hf, decide_eq_true hc⟩
  obtain ⟨l, m, e⟩ := List.append_of_mem hmem
  have hp := (regFields_pairwise h).filter (fun f => decide (f.acc = .rc))
  have hw : ∀ g ∈ fs.filter (fun f => f.acc = .rc), g.lo + g.w ≤ 32 := fun g hg => regFields_width h g (List.mem_filter.mp hg).1
  unfold State.keepAdded
  rw [e] at hp hw ⊢
  have hm := (List.pairwise_cons.mp (List.pairwise_append.mp hp).2.1).1
  rw [State.each_append, State.each_cons, State.each_keeps (fun t => t.g ⟨addr, f.lo, f.w⟩) (l := m)
    (fun g hg t => State.g_p_apart t addr _ (hw g (by simp [hg])) (hm g hg).symm),
    State.g_p_same _ _ _ (hw f (by simp))]
  exact Nat.mod_eq_of_lt (bitsOf_lt ..)

/-- Settles O11: the read is a plain read of the register as it stands. -/
theorem readClearsCountOnce : Obligations.ReadClearsCountOnce := by
  intro s addr core adds fs f h4 hr h hf hc
  obtain ⟨hplain, hstored⟩ := rc_readsPlain h hf hc
  refine ⟨_, rfl, ?_⟩
  rw [if_pos (by simp [h4, hr]), State.ctlRead_plain hplain, State.plainRead_eq h]
  refine ⟨?_, State.keepAdded_g h hf hc, fun a ha => State.keepAdded_rd_other _ fs ha⟩
  rw [State.keepAdded_rdata]
  show fieldOf (hideWo fs (s.peek addr.toNat)) f.lo f.w = _
  rw [fieldOf_hideWo h hf (by simp [hc]) fs (fun _ hg => hg), s.peek_stored hstored]
  rfl

/-! AR_CFG: its write follows its fields' codes and then settles the journal. -/

theorem exec_registerWrite {addr : BitVec 24} {value : Word} {core : Bool} {sets : Word} {s : State} (h4 : addr.toNat % 4 = 0)
    (hr : s.reaches core true addr.toNat = true) :
    exec (.registerWrite addr value core sets) s = .next (s.ctlWrite addr.toNat value.toNat sets.toNat) := by
  show Host.Outcome.next _ = _
  rw [if_pos (by simp [h4, hr])]

/-- In SERVICE, spilling runs with one durable record in the ring and no usable pair, and JN_STAT.SPILL_NOPAIR is clear. -/
def noPairState : State := { regs := [(4, 2)], jn := { spilling := true, recs := [{ typ := tData, jseq := 1, durable := true }] } }

theorem noPairState_notes : (noPairState.ctlWrite AR_CFG 0x1964 0).rd JN_STAT ≠ noPairState.rd JN_STAT := by decide +kernel

/-- Refutes O10: `actAt` gives AR_CFG no action, yet its write runs `State.settle`, which looks for the next spill; of
`noPairState` it sets JN_STAT.SPILL_NOPAIR, a bit of another register. -/
theorem not_plainWriteFollowsAccessCodes : ¬ Obligations.PlainWriteFollowsAccessCodes := by
  intro h
  have h4 : (0x12000C : BitVec 24).toNat % 4 = 0 := by decide
  have hr : noPairState.reaches true true (0x12000C : BitVec 24).toNat = true := by decide +kernel
  have hact : actAt (0x12000C : BitVec 24).toNat = .plain := by decide +kernel
  obtain ⟨t, ht, -, hrd⟩ := h noPairState 0x12000C 0x1964 true 0 _ h4 hr hact regFields_AR_CFG
  rw [exec_registerWrite h4 hr] at ht
  injection ht with ht
  exact noPairState_notes (ht ▸ hrd JN_STAT (by decide))

end Sys2Proof.Machine

/-! PROOFS. The queue and the timebase (O1, O2, O8), and the device reset (O15). -/

namespace Sys2Proof.Machine

open Reg

/-! The queue. -/

/-- Settles O1. -/
theorem stepRunsFrontCommand : Obligations.StepRunsFrontCommand := step_front

/-! The tick of an empty queue, by what drives the timebase (R29, R30, R653). -/

/-- `d` ns pass and each preamp bus ends its frame. -/
def State.passed (s : State) (d : Nat) : State :=
  State.each (upTo 8) (fun a t => t.paIdle a) { s with now := (s.now + d) % 2 ^ 64 }

theorem State.tick_off {s : State} (h : s.mode = mOff) : s.tick = s.passed 0 := by
  simp only [State.tick, State.passed, if_pos h]

theorem State.tick_rest {s : State} (h : s.mode = mRest) : s.tick = s.passed 40 := by
  have h0 : s.mode ≠ mOff := h ▸ by decide
  simp only [State.tick, State.passed, if_neg h0, if_pos h]

theorem State.tick_running {s : State} (h0 : s.mode ≠ mOff) (h1 : s.mode ≠ mRest) :
    s.tick = s.passed (if s.switched then 1 else 5) := by
  simp only [State.tick, State.passed, if_neg h0, if_neg h1]

/-- Settles O2: on an empty queue a step is the tick. -/
theorem emptyQueueAdvancesTimebase : Obligations.EmptyQueueAdvancesTimebase := by
  refine ⟨fun s h h0 h1 hs => ?_, fun s h h0 h1 hs => ?_, fun s h hm => ?_, fun s h hm => ?_, fun s h => ?_⟩
  · rw [step_empty h, State.tick_running h0 h1, hs]; rfl
  · rw [step_empty h, State.tick_running h0 h1, hs]; rfl
  · rw [step_empty h, State.tick_rest hm]; rfl
  · rw [step_empty h, State.tick_off hm]; rfl
  · exact ⟨s.tick, step_empty h, (State.tick_fr (by decide) (Fr.refl _ s)).within⟩

/-! The timebase after a power-on, a power-down and a reset. -/

/-- What a step that may be left out leaves as it is. -/
theorem State.when_keeps {β : Type} (P : State → β) {f : State → State} (h : ∀ t, P (f t) = P t) {b : Bool} {s : State} :
    P (s.when b f) = P s := by
  cases b
  · rfl
  · exact h s

theorem State.feedShow_now (s : State) (b : Bool) : (s.feedShow b).now = s.now := rfl

theorem State.dark_now (s : State) (motion : Bool) : (s.dark motion).now = 0 := by
  unfold State.dark
  dsimp only
  rw [State.feedShow_now, State.feedShow_now, State.when_keeps (fun t => t.now) fun u => State.wr_now u _ _]
  rfl

theorem State.free_now (s : State) : s.free.2.now = s.now := rfl

theorem State.sat_now (s : State) (f : RF) (n : Nat) : (s.sat f n).now = s.now := rfl

theorem State.raise_now (s : State) (code unit arg : Nat) : (s.raise code unit arg).now = s.now :=
  (State.raise_fr (M := { sent := true, ev := true, lk := true }) (by decide) (Fr.refl _ s)).now.resolve_left Bool.false_ne_true

theorem State.boot_now (s : State) : s.boot.now = 0 := (State.raise_now ..).trans rfl

/-- The device is in OFF after `State.dark`, or enters BOOT from there. -/
theorem State.now_boot_unless {b : Bool} {s : State} (h : s.now = 0) : (if b then s else s.boot).now = 0 := by
  split
  · exact h
  · exact s.boot_now

theorem State.deviceReset_now (s : State) : s.deviceReset.now = 0 :=
  State.now_boot_unless ((State.pwU_now ..).trans (s.dark_now false))

/-- A row that restarts the timebase, or has no effect. -/
theorem now_of_ite {p : Prop} [Decidable p] {s t u : State} (ht : t.now = s.now ∨ t.now = 0) (hu : u.now = s.now ∨ u.now = 0) :
    (if p then t else u).now = s.now ∨ (if p then t else u).now = 0 := by
  split
  · exact ht
  · exact hu

theorem execDeviceReset_now {s t : State} (h : exec .deviceReset s = .next t) : t.now = s.now ∨ t.now = 0 := by
  cases h
  exact now_of_ite (.inr s.deviceReset_now) (.inl rfl)

theorem execResetPin_now {low : Bool} {s t : State} (h : exec (.resetPin low) s = .next t) : t.now = s.now ∨ t.now = 0 := by
  cases h
  exact now_of_ite (now_of_ite (.inr (State.deviceReset_now _)) (.inl rfl))
    (now_of_ite (now_of_ite (.inr (State.boot_now _)) (.inl rfl)) (.inl rfl))

/-- The module powered by a chain, with what its dies hold after reset (R604, R609). -/
def State.poweredUp (s : State) (feedA feedB chainA : Bool) : State :=
  let fed := s.pwU fun p =>
    { lostA := !feedA, lostB := !feedB, passAt := p.passAt, orderly := p.orderly, powered := true, startedB := !chainA,
      fromReset := false }
  let u := (fed.dark false).sat EV_PCYC_COUNT 1
  let tagged := u.free.2.lkU fun l => { l with ownTag := u.free.1 % 2 ^ 32 }
  (tagged.btU fun b => { b with reports := 0 }).dmU fun d => { d with hwt := [] }

theorem State.poweredUp_now (s : State) (feedA feedB chainA : Bool) : (s.poweredUp feedA feedB chainA).now = 0 :=
  (State.dmU_now ..).trans <| (State.btU_now ..).trans <| (State.lkU_now ..).trans <| (State.free_now _).trans <|
    (State.sat_now ..).trans (State.dark_now _ false)

theorem exec_powerOn (s : State) (a b x y : Bool) : exec (.powerOn a b x y) s = .next (
    if s.mode ≠ mOff || s.pw.powered || !(a || b) then s
    else if !(x || y) then s.ftU fun f => { f with pmHold := true }
    else if (s.poweredUp a b x).ft.resetLow then s.poweredUp a b x else (s.poweredUp a b x).boot) := rfl

theorem execPowerOn_now {a b x y : Bool} {s t : State} (h : exec (.powerOn a b x y) s = .next t) : t.now = s.now ∨ t.now = 0 := by
  rw [exec_powerOn] at h
  cases h
  exact now_of_ite (.inl rfl) (now_of_ite (.inl (State.ftU_now ..)) (.inr (State.now_boot_unless (s.poweredUp_now a b x))))

theorem execPowerDownComplete_now {s t : State} (h : exec .powerDownComplete s = .next t) : t.now = s.now ∨ t.now = 0 := by
  cases h
  exact now_of_ite (.inl rfl) (.inr (State.dark_now _ true))

/-- The commands whose parts hold the timebase. -/
theorem timebase_in_parts {c : Instr} (h : (partsOf c).now = true) :
    (∃ a b x y, c = .powerOn a b x y) ∨ c = .powerDownComplete ∨ c = .deviceReset ∨ ∃ low, c = .resetPin low := by
  cases c
  case powerOn a b x y => exact .inl ⟨a, b, x, y, rfl⟩
  case powerDownComplete => exact .inr (.inl rfl)
  case deviceReset => exact .inr (.inr (.inl rfl))
  case resetPin low => exact .inr (.inr (.inr ⟨low, rfl⟩))
  all_goals exact absurd h Bool.false_ne_true

/-- Settles O8: a command keeps to its parts, and the four whose parts hold the timebase leave it as it is or at 0. -/
theorem timebaseOnlyRestarts : Obligations.TimebaseOnlyRestarts := by
  intro c s t h
  refine (exec_fr c s t h).now.elim (fun hp => ?_) .inl
  have hc := timebase_in_parts hp
  have hn : t.now = s.now ∨ t.now = 0 := by
    rcases hc with ⟨a, b, x, y, rfl⟩ | rfl | rfl | ⟨low, rfl⟩
    · exact execPowerOn_now h
    · exact execPowerDownComplete_now h
    · exact execDeviceReset_now h
    · exact execResetPin_now h
  exact hn.imp_right fun h0 => ⟨h0, hc⟩

/-! Registers after a device reset (R57). -/

/-- Of a register table cut by address, a register reads its value or its reset value. -/
theorem State.rd_filter_regs {s t : State} (k : Nat → Bool) (h : t.regs = s.regs.filter fun x => k x.1) (a : Nat) :
    t.rd a = if k a then s.rd a else resetVal a := by
  unfold State.rd Tbl.getD
  rw [h, Tbl.find_filter]
  split <;> rfl

/-- A register that is not in MRAM, not MD_MODE and not one that PM shows takes its reset value. -/
theorem State.dark_rd (s : State) {a : Nat} (hk : mramReg a = false) (hm : a ≠ MD_MODE) (ht : a ≠ PW_TEST) (hc : a ≠ PW_CHAIN)
    (hf : a ≠ PW_FEED) : (s.dark false).rd a = resetVal a := by
  unfold State.dark State.feedShow State.off
  dsimp only
  rw [State.rd_p_other _ _ hf, State.rd_p_other _ _ hf, State.when_keeps (·.rd a) fun u => State.rd_wr_other u _ hc,
    State.rd_p_other _ _ ht, State.rd_p_other _ _ hm, State.rd_filter_regs (s := s) mramReg (by simp), hk]
  rfl

@[simp] theorem State.sendEvent_rd (s : State) (r : EvRec) (a : Nat) : (s.sendEvent r).rd a = s.rd a := by
  unfold State.sendEvent State.send State.sendOn State.portPump
  dsimp only
  split
  · split <;> rfl
  · rfl

/-- Raising an event writes no register but its two counters. -/
theorem State.raise_rd (s : State) {code unit arg a : Nat} (h1 : a ≠ EV_SUPP_CNT) (h2 : a ≠ EV_DROP_CNT) :
    (s.raise code unit arg).rd a = s.rd a := by
  have counted (t : State) (f : RF) (r : EvRec) (h : a ≠ f.addr) :
      (if evAlways code then (t.sat f 1).sendEvent r else t.sat f 1).rd a = t.rd a := by
    split
    · rw [State.sendEvent_rd]; exact State.rd_p_other t _ h
    · exact State.rd_p_other t _ h
  unfold State.raise State.raiseSeq
  extract_lets r limited
  split
  · exact counted _ EV_SUPP_CNT_COUNT _ h1
  · split
    · exact counted _ EV_DROP_CNT_COUNT _ h2
    · rfl

/-- The registers of functions are none of those that a reset keeps or writes. -/
theorem Func.ctl_apart (f : Func) : Func.ctl f ∉ [EV_POS, EV_SEQ, EV_PCYC, EV_HOURS, AR_WSEQ, EV_SUPP_CNT, EV_DROP_CNT] := by
  cases f
  case vol v => revert v; decide
  case ch c => revert c; decide
  case ld c => revert c; decide
  case sv a => revert a; decide
  case sp i => revert i; decide
  case dmch n => revert n; decide
  all_goals decide

theorem State.boot_rd (s : State) {a : Nat} (hm : a ≠ MD_MODE) (h1 : a ≠ EV_SUPP_CNT) (h2 : a ≠ EV_DROP_CNT) :
    s.boot.rd a = s.rd a :=
  (State.raise_rd _ h1 h2).trans (State.rd_p_other _ _ hm)

theorem State.deviceReset_ctl (s : State) (f : Func) : s.deviceReset.rd (Func.ctl f) = resetVal (Func.ctl f) := by
  have hi := ctl_high f
  have ha := Func.ctl_apart f
  simp only [List.mem_cons, List.not_mem_nil, or_false, not_or] at ha
  obtain ⟨hpos, hseq, hpcyc, hhours, hwseq, hsupp, hdrop⟩ := ha
  have low {b : Nat} (h : b < 0x30000) : Func.ctl f ≠ b := by omega
  have hm : mramReg (Func.ctl f) = false := by simp [mramReg, hpos, hseq, hpcyc, hhours, hwseq]
  have hd : ((s.dark false).pwU fun p => { p with fromReset := true }).rd (Func.ctl f) = resetVal (Func.ctl f) :=
    (State.pwU_rd ..).trans (s.dark_rd hm (low (by decide)) (low (by decide)) (low (by decide)) (low (by decide)))
  unfold State.deviceReset
  extract_lets u
  split
  · exact hd
  · exact (State.boot_rd _ (low (by decide)) hsupp hdrop).trans hd

/-- EN, ENABLE_PENDING and STATE of every function as after reset. -/
theorem State.deviceReset_functions (s : State) (f : Func) :
    s.deviceReset.g (Func.en f) = fieldOf (resetVal (Func.ctl f)) 0 1 ∧
    s.deviceReset.g (Func.pend f) = fieldOf (resetVal (Func.ctl f)) 1 1 ∧
    s.deviceReset.g (Func.st f) = fieldOf (resetVal (Func.ctl f)) 2 2 := by
  have h := s.deviceReset_ctl f
  exact ⟨congrArg (fieldOf · 0 1) h, congrArg (fieldOf · 1 1) h, congrArg (fieldOf · 2 2) h⟩

theorem exec_deviceReset {s : State} (h1 : s.ft.resetOf.isSome = true) (h2 : s.ft.pulse = false)
    (h3 : ∀ r ∈ s.ev.queue, r.code ≠ 0x0104) : exec .deviceReset s = .next s.deviceReset :=
  congrArg Host.Outcome.next (if_pos (by simpa [h1, h2] using h3))

theorem exec_resetPin_low {s : State} (h : s.pw.powered = true) :
    exec (.resetPin true) s = .next (s.ftU fun f => { f with resetLow := true }).deviceReset :=
  congrArg Host.Outcome.next (if_pos h)

/-- Settles O15: both commands are the device reset. -/
theorem deviceResetRestoresFunctions : Obligations.DeviceResetRestoresFunctions :=
  ⟨fun s h1 h2 h3 => ⟨_, exec_deviceReset h1 h2 h3, s.deviceReset_functions⟩,
    fun _ h => ⟨_, exec_resetPin_low h, State.deviceReset_functions _⟩⟩

end Sys2Proof.Machine

/-! PROOFS. Enabling, disabling and the ends of start-ups and shut-downs (O33). -/

namespace Sys2Proof.Machine

open Reg

/-! FUNCTION_ENABLE and FUNCTION_DISABLE (R53–R56). -/

theorem exec_functionEnable {s : State} {f : Func} (h : s.fnLocked f = false) :
    exec (.functionEnable f) s = .next (s.fnEnable f) := by
  show Host.Outcome.next _ = _
  rw [h]
  rfl

theorem exec_functionDisable {s : State} {f : Func} (h : s.fnLocked f = false) :
    exec (.functionDisable f) s = .next (s.fnDisable f) := by
  show Host.Outcome.next _ = _
  rw [h]
  rfl

theorem State.fnEnable_off {s : State} {f : Func} (h : s.g (Func.st f) = stOff) : s.fnEnable f = (s.enableFn f).startBegin f :=
  if_pos h

theorem State.fnEnable_other {s : State} {f : Func} (h : s.g (Func.st f) ≠ stOff) : s.fnEnable f = s.enableFn f := if_neg h

theorem State.fnDisable_on {s : State} {f : Func} (h : s.g (Func.st f) = stOn) :
    s.fnDisable f = ((s.disableFn f).stopBegin f).careFrom (s.disableFn f) := if_pos h

theorem State.fnDisable_other {s : State} {f : Func} (h : s.g (Func.st f) ≠ stOn) : s.fnDisable f = s.disableFn f := if_neg h

/-! FUNCTION_STARTUP_DONE (R53, R56). -/

/-- The end of a start-up: by its own sequence for volumes, RB, AR and HC, else by `State.startEnd`. -/
def State.startDone (s : State) (f : Func) (bad : Nat) : State := match f with
  | .vol v =>
    let u := s.volStart v.val
    (if u.g (AR_VOL_CTL_STATE v.val) = stOn then u.nowOn (.vol v) else u).volWaits v.val
  | .rb => s.rbStart.nowOn .rb
  | .ar => (s.nowOn .ar).stripesAgain
  | .hc => (((s.startEnd .hc bad).2.nowOn .hc).wbRetry).hcRetry
  | f => if (s.startEnd f bad).1 then (s.startEnd f bad).2.nowOn f else (s.startEnd f bad).2.p (Func.st f) stOff

theorem exec_functionStartupDone {s : State} {f : Func} (bad : BitVec 4) (h : s.g (Func.st f) = stStarting)
    (hr : s.startReady f = true) : exec (.functionStartupDone f bad) s = .next (s.startDone f bad.toNat) := by
  show Host.Outcome.next _ = _
  rw [if_neg (by simp [h, hr])]
  cases f <;> rfl

theorem State.startDone_plain (s : State) {f : Func} (bad : Nat) (hv : ∀ v, f ≠ .vol v) (hrb : f ≠ .rb) (har : f ≠ .ar)
    (hhc : f ≠ .hc) : s.startDone f bad =
    if (s.startEnd f bad).1 then (s.startEnd f bad).2.nowOn f else (s.startEnd f bad).2.p (Func.st f) stOff := by
  cases f
  case vol v => exact absurd rfl (hv v)
  case rb => exact absurd rfl hrb
  case ar => exact absurd rfl har
  case hc => exact absurd rfl hhc
  all_goals rfl

/-! FUNCTION_SHUTDOWN_DONE (R54, R55). -/

theorem exec_functionShutdownDone {s : State} {f : Func} (h : s.g (Func.st f) = stStopping) (hr : s.stopReady f = true) :
    exec (.functionShutdownDone f) s = .next (match f with
      | .vol v => ((s.stopEnd f).nowOff f).volWaits v.val
      | _ => (s.stopEnd f).nowOff f) := by
  show Host.Outcome.next _ = _
  rw [if_neg (by simp [h, hr])]
  cases f <;> rfl

/-- Settles O33. -/
theorem functionCommandsComplete : Obligations.FunctionCommandsComplete := by
  refine ⟨fun s f hl h => ?_, fun s f hl h => ?_, fun s f hl h => ?_, fun s f hl h => ?_,
    fun s v bad h => exec_functionStartupDone bad h rfl, fun s bad h hj => exec_functionStartupDone bad h (decide_eq_true hj),
    fun s bad h => exec_functionStartupDone bad h rfl, fun s bad h => exec_functionStartupDone bad h rfl,
    fun s f bad hv hrb har hhc h hr => ?_, fun s f h hr => ?_⟩
  · rw [exec_functionEnable hl, State.fnEnable_off h]
  · rw [exec_functionEnable hl, State.fnEnable_other h]
  · rw [exec_functionDisable hl, State.fnDisable_on h]
  · rw [exec_functionDisable hl, State.fnDisable_other h]
  · rw [exec_functionStartupDone bad h hr, s.startDone_plain _ hv hrb har hhc]
  · rw [exec_functionShutdownDone h hr]
    cases f <;> rfl

end Sys2Proof.Machine

/-! PROOFS. Accesses of the control window, from a control core and over the link (O42). -/

namespace Sys2Proof.Machine

open Reg

/-! Who reaches the window (R633, R739, R740). -/

theorem State.awake_of {s : State} (h0 : s.mode ≠ mOff) (h1 : s.mode ≠ mRest) : s.awake = true := by
  simp [State.awake, h0, h1]

theorem State.hears_of {s : State} (hl : s.g LK_CTL_STATE = stOn) (hv : s.is LK_ID_VALID = true) : s.hears = true := by
  simp [State.hears, State.lkOn, hl, hv]

theorem State.reaches_write {s : State} {core : Bool} {a : Nat} (h0 : s.mode ≠ mOff) (h1 : s.mode ≠ mRest)
    (h : core = true ∨ (s.g LK_CTL_STATE = stOn ∧ s.mode ≠ mBoot)) : s.reaches core true a = true := by
  rcases h with rfl | ⟨hl, hb⟩
  · simp [State.reaches, s.awake_of h0 h1]
  · simp [State.reaches, s.awake_of h0 h1, State.lkOn, State.linkMay, hl, hb]

theorem State.reaches_read {s : State} {core : Bool} {a : Nat} (h0 : s.mode ≠ mOff) (h1 : s.mode ≠ mRest)
    (h : core = true ∨ (s.g LK_CTL_STATE = stOn ∧ (s.mode ≠ mBoot ∨ a < PW_STAT))) : s.reaches core false a = true := by
  rcases h with rfl | ⟨hl, hb⟩
  · simp [State.reaches, s.awake_of h0 h1]
  · simpa [State.reaches, s.awake_of h0 h1, State.lkOn, State.linkMay, hl] using Or.inr hb

theorem exec_rcRegisterRead {addr : BitVec 24} {core : Bool} {adds : Word} {s : State} (h4 : addr.toNat % 4 = 0)
    (hr : s.reaches core false addr.toNat = true) :
    exec (.rcRegisterRead addr core adds) s = .next (s.ctlRead addr.toNat adds.toNat) := by
  show Host.Outcome.next _ = _
  rw [if_pos (by simp [h4, hr])]

/-! Frames (R48, R51, R390). -/

theorem aligned32_iff {a n : Nat} : aligned32 a n = true ↔ n = 4 ∧ a % 4 = 0 ∧ a < 2 ^ 24 := by
  simp [aligned32, and_assoc]

section
variable {src : BitVec 12} {tag : BitVec 16} {addr : BitVec 64} {len : Fin 4097} {s : State}

/-- A write frame that is heard, with a good check, of a request not saved. -/
theorem exec_controlWriteFrame {data : Word} {rspReq : Bool} {sets : Word} (hh : s.hears = true)
    (hs : s.saved src.toNat tag.toNat = none) :
    exec (.controlWriteFrame src tag addr len data rspReq true sets) s = .next (
      if s.mode = mBoot then s.answer src.toNat tag.toNat (some {
        kind := 4, dst := src.toNat, tag := tag.toNat, addr := 0, len := 0, data := 0, code := 1 })
      else if !aligned32 addr.toNat len.val then s.answer src.toNat tag.toNat (some {
        kind := 4, dst := src.toNat, tag := tag.toNat, addr := 0, len := 0, data := 0, code := 3 })
      else (s.ctlWrite addr.toNat data.toNat sets.toNat).answer src.toNat tag.toNat (if rspReq then some {
        kind := 3, dst := src.toNat, tag := tag.toNat, addr := 0, len := 0, data := 0, code := 0 } else none)) := by
  show Host.Outcome.next _ = _
  simp only [hh, hs, Bool.not_true, Bool.false_eq_true, if_false]

/-- A repeat of a saved request that has a response. -/
theorem exec_controlWriteFrame_repeat {data : Word} {rspReq : Bool} {sets : Word} {f : OutFrame} (hh : s.hears = true)
    (hs : s.saved src.toNat tag.toNat = some (some f)) :
    exec (.controlWriteFrame src tag addr len data rspReq true sets) s = .next (s.respond f) := by
  show Host.Outcome.next _ = _
  simp only [hh, hs, Bool.not_true, Bool.false_eq_true, if_false]

theorem exec_controlWriteFrame_badCheck {data : Word} {rspReq : Bool} {sets : Word} (hh : s.hears = true) :
    exec (.controlWriteFrame src tag addr len data rspReq false sets) s = .next s.fcrcBad := by
  show Host.Outcome.next _ = _
  simp only [hh, Bool.not_true, Bool.not_false, Bool.false_eq_true, if_false, if_true]

theorem exec_controlReadFrame {adds : Word} (hh : s.hears = true) (hs : s.saved src.toNat tag.toNat = none)
    (hm : s.linkMay false addr.toNat = true) (ha : aligned32 addr.toNat len.val = true) :
    exec (.controlReadFrame src tag addr len false true adds) s = .next
      ((s.ctlRead addr.toNat adds.toNat).answer src.toNat tag.toNat (some {
        kind := 2, dst := src.toNat, tag := tag.toNat, addr := 0, len := 4,
        data := (s.ctlRead addr.toNat adds.toNat).rdata.toNat, code := 0, vc := 0 })) := by
  show Host.Outcome.next _ = _
  simp only [hh, hs, hm, ha, Bool.not_true, Bool.false_eq_true, if_false]

theorem exec_controlReadFrame_door {adds : Word} (hh : s.hears = true) (hb : s.mode ≠ mBoot) :
    exec (.controlReadFrame src tag addr len true true adds) s = .next (s.respond {
      kind := 2, dst := src.toNat, tag := tag.toNat, addr := 0, len := len.val, data := 0, code := 0, vc := 2 }) := by
  show Host.Outcome.next _ = _
  simp only [hh, hb, Bool.not_true, Bool.false_eq_true, if_false, if_true]
  rfl

end

/-- Settles O42. -/
theorem windowCommandsComplete : Obligations.WindowCommandsComplete := by
  refine ⟨fun s addr value core sets h4 h0 h1 hc => exec_registerWrite h4 (State.reaches_write h0 h1 hc),
    fun s addr core adds h4 h0 h1 hc => exec_rcRegisterRead h4 (State.reaches_read h0 h1 hc),
    fun s src tag addr data rspReq sets hl hv hs hb h4 hw => ?_,
    fun s src tag addr adds hl hv hs hb h4 hw => ?_,
    fun s src tag addr len adds hl hv hb => exec_controlReadFrame_door (State.hears_of hl hv) hb,
    fun s src tag addr len data rspReq sets hl hv hs hb ha => ?_,
    fun s src tag addr len data rspReq sets hl hv hs hb => ?_,
    fun s src tag addr len data rspReq sets f hl hv hs => exec_controlWriteFrame_repeat (State.hears_of hl hv) hs,
    fun s src tag addr len data rspReq sets hl hv => exec_controlWriteFrame_badCheck (State.hears_of hl hv)⟩
  · have ha : aligned32 addr.toNat (4 : Fin 4097).val = true := aligned32_iff.mpr ⟨rfl, h4, hw⟩
    rw [exec_controlWriteFrame (State.hears_of hl hv) hs, if_neg hb, if_neg (by rw [ha]; decide)]
  · exact exec_controlReadFrame (State.hears_of hl hv) hs (by simpa [State.linkMay] using hb) (aligned32_iff.mpr ⟨rfl, h4, hw⟩)
  · have hna : aligned32 addr.toNat len.val = false := by
      rw [Bool.eq_false_iff, ne_eq, aligned32_iff]
      tauto
    rw [exec_controlWriteFrame (State.hears_of hl hv) hs, if_neg hb, if_pos (by simp [hna])]
  · rw [exec_controlWriteFrame (State.hears_of hl hv) hs, if_pos hb]

end Sys2Proof.Machine

/-! PROOFS. The pace window and the safety monitor (O56). -/

namespace Sys2Proof.Machine

open Reg

/-! The pace window (R19–R28). -/

theorem exec_paceWindowEnd {s : State} (counts : List Nat) (vmeas : BitVec 10) (h0 : s.mode ≠ mOff) (hr : s.md.rest = .awake) :
    let on_ := (paceBlocks.zip counts).filter (fun x => decide (s.g (Func.st x.1.2.1) ≠ stOff))
    let u := (State.each on_ (fun x t => t.paceLatch x.1.1 x.2 (t.g (PW_FLOOR_FLOOR x.1.2.2))) s).p PW_CORE_VMEAS vmeas.toNat
    exec (.paceWindowEnd counts vmeas) s = .next (if u.is PW_CHAIN_GAP then u
      else u.govern (on_.map (fun x => (x.1.1, x.2, s.g (PW_FLOOR_FLOOR x.1.2.2))))) := by
  show Host.Outcome.next _ = _
  rw [hr]
  exact congrArg Host.Outcome.next (if_neg (by simp [h0]))

/-! Overvoltage and the heartbeat (R226, R621, R622). -/

theorem exec_busOvervoltage {s : State} {bus : BitVec 11} (h : 1460 ≤ bus.toNat) :
    let u : State := { s.busShown bus.toNat with spWait := [] }
    let v := State.each (upTo 4) (fun i t =>
      ((t.goShort i).spUp i (fun x => { x with forced := true, stuck := true })).on (SP_BUS_SHORT_FORCED i)) u
    let r := v.raiseSeq 0x0504 56 0 true
    exec (.busOvervoltage bus) s = .next
      ((State.each (upTo 4) (fun i t => t.faultSeq (SP_STAT_SHORT_FORCED i) (56 + i) 3 r.1) r.2).sfTrip 1 0 SF_STAT_BUS_OV 0 0x1101) :=
  congrArg Host.Outcome.next (if_neg (Nat.not_lt.mpr h))

theorem exec_heartbeat_late {s : State} (h : s.sf.hbLost = true) : exec .heartbeat s = .next
    (((s.sfU (fun m => { m with hbLost := false })).sat SF_LATE_CNT_HB 1).note SF_STAT_HB_LATE 0x1107 3 0) :=
  congrArg Host.Outcome.next (if_pos h)

theorem exec_heartbeat_inTime {s : State} (h : s.sf.hbLost = false) : exec .heartbeat s = .next s :=
  congrArg Host.Outcome.next (if_neg (by simp [h]))

theorem State.hbMasked_awake {s : State} (hg : s.is PW_CHAIN_GAP = false) (h0 : s.mode ≠ mOff) (hr : s.md.rest = .awake) :
    s.hbMasked = false := by
  simp [State.hbMasked, hg, h0, hr]

theorem exec_heartbeatTimeout {s : State} (h : s.sf.hbLost = false) (hm : s.hbMasked = false) :
    let u := State.each (upTo 8) (fun a t => t.sfRetract a) (s.sfU (fun m => { m with hbLost := true }))
    exec .heartbeatTimeout s = .next
      (((State.each (upTo 4) (fun i t => t.sfBridge i) u).sfHold (upTo 4)).sfTrip 5 0 SF_STAT_HB_LOST 5 0x1106) :=
  congrArg Host.Outcome.next (if_neg (by simp [h, hm]))

/-! The self-test and SF_CAUSE (R623, R625). -/

theorem State.selftest_starts {s : State} (h : s.sf.testing = false) (hm : s.mode = mMaint)
    (hs : (upTo 4).any (fun i => decide (s.phase i ≠ phStopped)) = false) (ha : (upTo 8).any (fun a => s.loaded a) = false) :
    s.selftest = (s.off SF_CMD_ERR).sfU (fun m => { m with testing := true }) := by
  unfold State.selftest
  rw [if_neg (by simp [h]), if_neg (by rw [hs, ha, hm]; decide)]

theorem exec_selftestDone {s : State} {res : BitVec 22} (h : s.sf.testing = true) :
    let u := ((s.sfU (fun m => { m with testing := false })).wr SF_TEST (BitVec.ofNat 32 res.toNat)).on SF_STAT_TEST_DONE
    exec (.selftestDone res) s = .next (if res.toNat = 2 ^ 22 - 1 then u else u.fault SF_STAT_TEST_FAIL 3 7 0x1108 0) :=
  congrArg Host.Outcome.next (if_neg (by simp [h]))

theorem State.clearCause_clears {s : State} (h : s.sf.testing = false) (hh : s.sfHolds = false) :
    s.clearCause = ((s.off SF_CMD_ERR).off SF_CAUSE_CAUSE).off SF_CAUSE_UNIT := by
  unfold State.clearCause
  rw [if_neg (by simp [h]), if_neg (by simp [hh])]

/-- Settles O56: the rows without a condition are their definitions. -/
theorem safetyMonitorCommandsComplete : Obligations.SafetyMonitorCommandsComplete :=
  ⟨fun _ counts vmeas h0 hr => exec_paceWindowEnd counts vmeas h0 hr, fun _ _ h => exec_busOvervoltage h, fun _ _ => rfl,
    fun _ _ => rfl, fun _ _ _ => rfl, fun _ _ => rfl, fun _ h => exec_heartbeat_late h, fun _ h => exec_heartbeat_inTime h,
    fun _ h hg h0 hr => exec_heartbeatTimeout h (State.hbMasked_awake hg h0 hr), fun _ => rfl,
    fun _ h hm hs ha => congrArg Host.Outcome.next (State.selftest_starts h hm hs ha), fun _ _ h => exec_selftestDone h,
    fun _ h hh => congrArg Host.Outcome.next (State.clearCause_clears h hh)⟩

end Sys2Proof.Machine

/-! PROOFS. Sector reads and writes, verifies and the ladder (O25). -/

namespace Sys2Proof.Machine

open Reg

/-! Reading (R79–R92). -/

/-- The rest of a sector read that gets its samples (R80–R84, R104): gains, frequency and lock, timing recovery and the search
for the sync mark. -/
def State.readSearch (s : State) (n : Nat) (op : SecOp) (bits : BitVec 56) (fofs : BitVec 16) (slot : Option Nat)
    (off : Nat) : State :=
  let g := if s.is (CH_AGC_HOLD n) then s else (s.freeField (CH_AGC_GAIN0 n)).freeField (CH_AGC_GAIN1 n)
  let f := sgn 16 fofs.toNat
  let range := decide (f > 3000) || decide (f < -3000)
  let v := (g.p (CH_TR_STAT_FOFS n) fofs.toNat).p (CH_TR_STAT_LOCK n) (b2n (!range))
  let u := v.chUp n fun x => { x with tr := v.trUse n op f }
  if range then (u.note (CH_STAT_TR_RANGE n) 0x0205 (16 + n) 0).readEnd n op none ocNoConverge 0 none false off
  else match Code.searchMark (u.rd (CH_SYNC_PAT n)).toNat bits.toNat 12
      (min 12 (u.g (CH_SYNC_CFG_WINDOW n))) (u.g (CH_SYNC_CFG_THRESH n)) with
    | none => u.readEnd n op slot ocSyncMiss 0 none false off
    | some (o, e) => u.toDecoder n op slot o e off

section
variable {s : State} {c : Fin 32}

/-- The preamp is good, so the read is not cut, and no ladder is marked for an ordinary read: what stands before the fill is
`State.opStart`. -/
theorem exec_sectorRead_demand {op : SecOp} (around : BitVec 56) (resync : List (BitVec 46)) (fofs : BitVec 16) (s0 s1 : BitVec 221184)
    (ue last : Bool) (hp : op.purpose = .demand) (hsec : s.hasSector c.val op = true) (hcut : (s.ch c.val).cut ≠ 2)
    (hrt : s.routed c.val op.member = true) (hmr : s.mayRead c.val = true) (hflt : (s.pa (c.val / 4)).fltLow = false) :
    let a := s.opStart c.val op 1 (last || !(s.ch c.val).loop && !s.bit (SV_HEADS_RD_OK (c.val / 4)) (c.val % 4))
    let bits := if (a.ch c.val).loop then BitVec.ofNat 56 ((a.ch c.val).lastSlot.toNat / 2 ^ 84) else around
    let b := a.smemFill c.val op bits resync s0 s1 ue
    exec (.sectorRead c op around resync fofs s0 s1 ue last) s =
      .next (b.2.readSearch c.val op bits fofs b.1 (a.rdrOff op.member)) := by
  obtain ⟨m, mba, zone, sec, pur, wedge⟩ := op
  obtain rfl : pur = .demand := hp
  intro a bits b
  refine congrArg Host.Outcome.next ((if_neg Bool.false_ne_true).trans
    ((if_neg (by simp [State.rereadDue, hsec, hcut, hrt, hmr])).trans ?_))
  extract_lets hit started off t bits'
  have hhit : hit = false := by simp [hit, hcut, hflt]
  have hstarted : started = a := by simp only [started, hhit, Bool.or_false]; rfl
  clear_value started
  subst hstarted
  have ht : t = a := by simp only [t]; split <;> rfl
  clear_value t
  subst ht
  rw [show a.smemFill c.val ⟨m, mba, zone, sec, .demand, wedge⟩ bits' resync s0 s1 ue = b from rfl]
  clear_value b
  obtain ⟨slot, u⟩ := b
  exact if_neg (Bool.eq_false_iff.mp hhit)

theorem exec_decodeDone_demand {j : DecJob} {rest : List DecJob} (cw : BitVec 36480) (iter : Nat) (hd : (s.ch c.val).dec = j :: rest)
    (hp : j.op.purpose = .demand) :
    let r := decoded j.op (j.looped.getD cw).toNat iter j.maxIter j.off
    let u := s.decEnd c.val j r.1 r.2.1 iter
    exec (.decodeDone c cw iter) s = .next (
      if r.2.1 then u.readOk j.op.member j.op.mba r.2.2 false
      else u.readBad c.val j.op j.slot j.sync j.frozen j.off (some (j.sync.getD 0,
        if j.early then min iter j.maxIter else j.maxIter))) := by
  refine congrArg Host.Outcome.next ?_
  simp only [hd, hp, isVerify, Bool.false_eq_true, if_false]

/-! Writing (R70–R77, R139–R147). -/

section
variable {op : SecOp} (hsec : s.hasSector c.val op = true) (hrt : s.routed c.val op.member = true) (hmw : s.mayWrite c.val = true)
include hsec hrt hmw

/-- A write that has its sector, its head and its gate is made unless its data is bad. -/
theorem sectorWrite_taken :
    ¬ (!s.hasSector c.val op || ((s.ch c.val).cut ≠ 1 && (!s.routed c.val op.member || !s.mayWrite c.val))) = true := by
  simp [hsec, hrt, hmw]

theorem exec_sectorWrite_badData {x : Nat × Nat} (completed last : Bool) (hw : s.writeSource op = some x) :
    exec (.sectorWrite c op false completed last) s = .next (s.vcrcBad op) := by
  refine congrArg Host.Outcome.next ?_
  rw [hw]
  exact (if_neg (sectorWrite_taken hsec hrt hmw)).trans (if_pos rfl)

theorem exec_sectorWrite_strip {data w : Nat} (last : Bool) (hp : op.purpose = .strip) (hw : s.writeSource op = some (data, w))
    (hcut : (s.ch c.val).cut ≠ 1) (hrw : s.rewriteOf op.member op.mba = none) :
    let n := c.val
    let a := n / 4
    let t := s.opStart n op 2 last
    let adj := t.adjacentTo a (n % 4) op.member ((t.act a).slots.getD (n % 4) {}).enc
    let u := (t.actUp a fun x => { x with slots := x.slots.putD (n % 4) {} { (x.slots.getD (n % 4) {}) with enc := [] } }).ldUp a
      fun x => { x with adjacent := addAdjacent adj t.now x.adjacent }
    let v := u.driveSlot n op (Code.encode (Code.seed op.member op.mba) data (u.metaFor op.member w))
    let y := (v.outcome n ocWritten 0 0 0).schedDone op.member op.mba
    exec (.sectorWrite c op true true last) s = .next (
      if y.verifyDue n op then y.rewriteSet op.member op.mba (some
        { op := { op with purpose := .verify 0 }, attempts := 0, stripe := true, data := data, metaWord := w, time := y.now })
      else (y.rewriteSet op.member op.mba none).sectorDone op true) := by
  obtain ⟨m, mba, zone, sec, pur, wedge⟩ := op
  obtain rfl : pur = .strip := hp
  intro n a t adj u v y
  refine congrArg Host.Outcome.next ?_
  rw [hw, hrw]
  refine (if_neg (sectorWrite_taken hsec hrt hmw)).trans ((if_neg (by simp)).trans ?_)
  extract_lets done started
  have hdone : done = true := by simp [done, hcut]
  have hstarted : started = t := by simp only [started, hdone, Bool.not_true, Bool.or_false]; rfl
  clear_value started
  subst hstarted
  exact if_pos hdone

end

theorem exec_verifyDone_verify {j : DecJob} {rest : List DecJob} {k : Nat} (cw : BitVec 36480) (iter : Nat)
    (hsolo : (s.ld (c.val / 4)).solo.find? (fun x => x.ch == c.val) = none) (hd : (s.ch c.val).dec = j :: rest)
    (hp : j.op.purpose = .verify k) :
    let r := decoded j.op (j.looped.getD cw).toNat iter j.maxIter j.off
    let u := s.decEnd c.val j r.1 r.2.1 iter
    exec (.verifyDone c cw iter) s = .next (if r.2.1 then u.verified j.op else u.verifySolo c.val j.op j.slot j.off) := by
  refine congrArg Host.Outcome.next ?_
  simp only [hsolo, hd, hp, isVerify, Bool.not_true, Bool.false_eq_true, if_false]

end

/-! The ladder (R105–R136). -/

section
variable {s : State} {a : Fin 8} {l : Ladder}

theorem exec_ladderSectorStart_first (hlate : (s.ld a.val).lateRun = none) (hq : (s.ld a.val).queue = [l]) (hph : l.phase = 0)
    (hab : s.abandoned l = false) (hsl : s.slotGood l.slot = true) :
    exec (.ladderSectorStart a) s = .next (s.ladUp l { l with phase := 1 }) := by
  refine congrArg Host.Outcome.next ?_
  simp [hlate, hq, hph, hab, hsl]

theorem exec_ladderDecodeDone_late {c : Nat} (cw : BitVec 36480) (iter unsat : Nat) (hlate : (s.ld a.val).lateRun = some c) :
    exec (.ladderDecodeDone a cw iter unsat) s = .next
      (((s.ldUp a.val fun y => { y with lateRun := none }).sat (LD_LATE_CNT_COUNT c) 1).note (LD_STAT_LATE c) 0x0303 (16 + c) 0) := by
  refine congrArg Host.Outcome.next ?_
  simp only [hlate]

/-- A decode of rung 1 ends while offsets are left (R115, R116, R129). -/
theorem exec_ladderDecodeDone_rung1 {t : Int} {rest : List Int} (cw : BitVec 36480) (iter unsat : Nat)
    (hlate : (s.ld a.val).lateRun = none) (hq : (s.ld a.val).queue.find? (fun l => l.phase == 1) = some l)
    (hrung : l.rung = 1) (hleft : l.left = t :: rest) :
    let r := decoded l.op cw.toNat iter 16 l.off
    let d := s.ladDecoded l t rest (r.1 && !r.2.1) (min iter 16) unsat
    exec (.ladderDecodeDone a cw iter unsat) s = .next (
      if r.2.1 && !l.won && !s.abandoned l then s.ladOk l (if l.rereads > 0 then 5 else 1) 0 t (min iter 16) r.2.2
      else if l.won then
        (((d.2.ladUp l d.1).slowEnd d.1.op.member d.1.op.mba).2.ladDrop d.1).ldLast d.1.ch 2 0 0 d.1.lastOfs d.1.lastIter
      else if d.2.abandoned l then (d.2.ladUp l d.1).abandon d.1
      else if rest.isEmpty || !d.2.slotGood l.slot then d.2.ladGo l d.1 2 true
      else d.2.ladUp l d.1) := by
  refine congrArg Host.Outcome.next ?_
  simp only [hlate, hq, hrung, hleft, List.isEmpty_cons, Bool.and_false, Bool.false_eq_true, if_false]
  simp only [Nat.reduceEqDiff, decide_false, Bool.or_false, Bool.false_eq_true, if_false, ite_self]
  rfl

/-- A time limit that is not held fails a ladder of which no re-read runs (R130). -/
theorem exec_ladderTimeLimit {c : Fin 32} {mba : BitVec 40}
    (hq : (s.ld (c.val / 4)).queue.find? (fun l => l.ch == c.val && l.op.mba == mba.toNat && !l.won) = some l)
    (hheld : s.timersHeld = false) (hph : l.phase ≠ 3) :
    let u := if l.phase = 1 then s.ldUp (c.val / 4) (fun x => { x with lateRun := some c.val }) else s
    exec (.ladderTimeLimit c mba) s = .next (if u.abandoned l then u.abandon l else u.ladFail l true) := by
  refine congrArg Host.Outcome.next ?_
  simp only [hq, hheld, hph, Bool.false_eq_true, if_false]

end

/-- Settles O25. -/
theorem sectorCommandsComplete : Obligations.SectorCommandsComplete := by
  refine ⟨fun s c op around resync fofs s0 s1 ue last hp hsec hcut hrt hmr hflt =>
      exec_sectorRead_demand around resync fofs s0 s1 ue last hp hsec hcut hrt hmr hflt,
    fun s c cw iter j rest hd hp => exec_decodeDone_demand cw iter hd hp,
    fun s c op completed last x hw hsec hrt hmw => exec_sectorWrite_badData hsec hrt hmw completed last hw,
    fun s c op last data w hp hw hsec hrt hmw hcut hrw => exec_sectorWrite_strip hsec hrt hmw last hp hw hcut hrw,
    fun s c cw iter k j rest hsolo hd hp => exec_verifyDone_verify cw iter hsolo hd hp,
    fun s a l hlate hq hph hab hsl => exec_ladderSectorStart_first hlate hq hph hab hsl,
    fun s a cw iter unsat c hlate => exec_ladderDecodeDone_late cw iter unsat hlate,
    fun s a cw iter unsat l t rest hlate hq hwon hrung hleft => ?_,
    fun s a cw iter unsat l t rest hlate hq hwon hab hrung hre hleft => ?_,
    fun s c mba l hq hheld hph => ?_,
    fun s c mba l hq hheld hph => ?_⟩
  · refine (exec_ladderDecodeDone_rung1 cw iter unsat hlate hq hrung hleft).trans (congrArg Host.Outcome.next ?_)
    rw [if_neg (by simp [hwon]), if_pos hwon]
  · refine (exec_ladderDecodeDone_rung1 cw iter unsat hlate hq hrung hleft).trans (congrArg Host.Outcome.next ?_)
    simp only [hwon, hab, hre, Bool.not_false, Bool.and_true, Bool.false_eq_true, gt_iff_lt, Nat.lt_irrefl, if_false]
  · have h := exec_ladderTimeLimit hq hheld (by omega)
    rwa [if_pos hph] at h
  · have h := exec_ladderTimeLimit hq hheld (by omega)
    rwa [if_neg (by omega)] at h

end Sys2Proof.Machine

/-! PROOFS. Head selection (O28). -/

namespace Sys2Proof.Machine

open Reg

section
variable {s : State} {c : Fin 32}

/-- HEADSEL_WRITE while a gate of the channel is asserted waits (R60). -/
theorem exec_headselWrite_waits {head : Fin 16} {fw : Bool} (hm : s.mode = if fw then mMaint else mService)
    (hg : (s.ch c.val).rdGate = true ∨ (s.ch c.val).wrGate = true) :
    exec (.headselWrite c head fw) s = .next
      ((s.p (CH_HEADSEL_HEAD c.val) (if head.val ≥ 12 then 0xF else head.val)).on (CH_HEADSEL_PENDING c.val)) :=
  congrArg Host.Outcome.next ((if_neg (not_not_intro hm)).trans (if_pos (by simpa using hg)))

theorem exec_headselWrite_applies {head : Fin 16} {fw : Bool} (hm : s.mode = if fw then mMaint else mService)
    (hr : (s.ch c.val).rdGate = false) (hw : (s.ch c.val).wrGate = false) :
    exec (.headselWrite c head fw) s = .next (s.select c.val (if head.val ≥ 12 then 0xF else head.val)) :=
  congrArg Host.Outcome.next ((if_neg (not_not_intro hm)).trans (if_neg (by simp [hr, hw])))

theorem exec_headSelectApply_pending (hp : s.is (CH_HEADSEL_PENDING c.val) = true) (hr : (s.ch c.val).rdGate = false)
    (hw : (s.ch c.val).wrGate = false) :
    exec (.headSelectApply c) s = .next (s.select c.val (s.g (CH_HEADSEL_HEAD c.val))) :=
  congrArg Host.Outcome.next (if_pos (by simp [hp, hr, hw]))

/-- The settle time ends once the slot's head-select frame has left the bus. -/
theorem exec_headSettleDone_settling {h : Nat} (hs : (s.ch c.val).settling = some h)
    (hf : ((s.paFlush (c.val / 4)).pa (c.val / 4)).hw.any (fun f => f.addr == 1 + c.val % 4) = false) :
    exec (.headSettleDone c) s = .next
      (((s.paFlush (c.val / 4)).chUp c.val fun x => { x with settling := none }).setActive c.val h) := by
  refine congrArg Host.Outcome.next ?_
  rw [hs]
  exact if_neg (by simp [hf])

end

/-- Settles O28: an immediate write and the pending one both end in `State.select`, whose test for an invalid head is the
statement's. -/
theorem channelCommandsComplete : Obligations.ChannelCommandsComplete := by
  refine ⟨fun s c head fw hm hg => exec_headselWrite_waits hm hg, fun s c head fw hm hr hw => ?_,
    fun s c hp hr hw => exec_headSelectApply_pending hp hr hw, fun s c h hs hf => exec_headSettleDone_settling hs hf⟩
  intro h u
  exact (exec_headselWrite_applies hm hr hw).trans (congrArg Host.Outcome.next
    (if_congr Iff.rfl rfl (if_congr (by rw [Bool.or_eq_true, Bool.not_eq_true']) rfl rfl)))

end Sys2Proof.Machine

/-! PROOFS. The preamp control bus (O29). -/

namespace Sys2Proof.Machine

open Reg

/-! The bus (R63, R68). -/

@[simp] theorem State.pa_paUp_same (s : State) (a : Nat) (f : PaState → PaState) : (s.paUp a f).pa a = f (s.pa a) :=
  Tbl.getD_putD_same ..

theorem State.pa_paUp_other (s : State) {a b : Nat} (f : PaState → PaState) (h : b ≠ a) : (s.paUp a f).pa b = s.pa b :=
  Tbl.getD_putD_other _ _ _ _ h

@[simp] theorem State.pa_p (s : State) (f : RF) (x a : Nat) : (s.p f x).pa a = s.pa a := rfl

@[simp] theorem State.pa_on (s : State) (f : RF) (a : Nat) : (s.on f).pa a = s.pa a := rfl

@[simp] theorem State.pa_off (s : State) (f : RF) (a : Nat) : (s.off f).pa a = s.pa a := rfl

@[simp] theorem State.pa_paStep_same (s : State) (a : Nat) (f : PaState → PaState) : (s.paStep a f).pa a = f (s.pa a) := by
  unfold State.paStep
  extract_lets t
  split
  · rw [State.pa_off, State.pa_paUp_same]
  · exact s.pa_paUp_same a f

theorem State.g_off_same (s : State) {f : RF} (h : f.lo + f.w ≤ 32) : (s.off f).g f = 0 := by
  rw [State.off, State.g_p_same _ _ _ h, Nat.zero_mod]

/-- BUSY and ERR stand beside each other in CH_PA_CMD. -/
theorem State.err_p_busy (s : State) (c x : Nat) : (s.p (CH_PA_CMD_BUSY c) x).g (CH_PA_CMD_ERR c) = s.g (CH_PA_CMD_ERR c) :=
  State.g_p_field _ _ rfl (by simp [CH_PA_CMD_BUSY]) (.inr (by simp [CH_PA_CMD_BUSY, CH_PA_CMD_ERR]))

/-- Of CH_PA_CMD a step of the bus writes BUSY alone. -/
theorem State.paStep_err (s : State) (a : Nat) (f : PaState → PaState) :
    (s.paStep a f).g (CH_PA_CMD_ERR (4 * a)) = s.g (CH_PA_CMD_ERR (4 * a)) := by
  unfold State.paStep
  extract_lets t
  split
  · exact t.err_p_busy ..
  · rfl

/-- A firmware write that goes out ends its access. -/
theorem State.paStep_busy {s : State} {a : Nat} {f : PaState → PaState} {w : PaFrame} (hw : (s.pa a).fw = some w)
    (hwr : w.write = true) (hf : (f (s.pa a)).fw = none) : (s.paStep a f).g (CH_PA_CMD_BUSY (4 * a)) = 0 := by
  unfold State.paStep
  rw [if_pos (by simp [hw, hwr, hf])]
  exact State.g_off_same _ (by simp [CH_PA_CMD_BUSY])

/-- On a free bus with no head-select or mode frame the firmware frame goes out. -/
theorem PaState.next_fw {x : PaState} {w : PaFrame} (hb : x.busy = false) (hw : x.fw = some w) (hh : x.hw = []) :
    x.next = PaState.go { x with fw := none, passed := 0 } w := by
  simp [PaState.next, hb, hw, hh]

/-- A firmware write handed to a free bus with nothing waiting stands on PA_DAT at once, and its access has ended. -/
theorem State.fwFrame_write_free {s : State} {a : Nat} {w : PaFrame} (hw : w.write = true) (hb : (s.pa a).busy = false)
    (hh : (s.pa a).hw = []) :
    ((s.fwFrame a w).pa a).frame = BitVec.ofNat 32 (paFrame true w.addr w.data) ∧
    (s.fwFrame a w).g (CH_PA_CMD_BUSY (4 * a)) = 0 := by
  have hn : PaState.next { s.pa a with fw := some w, passed := 0 } = PaState.go { s.pa a with fw := none, passed := 0 } w :=
    PaState.next_fw hb rfl hh
  unfold State.fwFrame
  refine ⟨?_, State.paStep_busy (w := w) (by rw [State.pa_paUp_same]) hw ?_⟩
  · rw [State.pa_paStep_same, State.pa_paUp_same, hn, ← hw]
    rfl
  · rw [State.pa_paUp_same, hn]
    rfl

theorem State.fwFrame_err (s : State) (a : Nat) (w : PaFrame) :
    (s.fwFrame a w).g (CH_PA_CMD_ERR (4 * a)) = s.g (CH_PA_CMD_ERR (4 * a)) :=
  (State.paStep_err ..).trans (State.paUp_g ..)

/-- The access of a firmware write that goes out at once is over, with ERR 0. -/
theorem State.fwFrame_write_started {s : State} {a : Nat} {w : PaFrame} (hw : w.write = true) (hb : (s.pa a).busy = false)
    (hh : (s.pa a).hw = []) :
    let t := ((s.off (CH_PA_CMD_ERR (4 * a))).on (CH_PA_CMD_BUSY (4 * a))).fwFrame a w
    (t.pa a).frame = BitVec.ofNat 32 (paFrame true w.addr w.data) ∧
    t.g (CH_PA_CMD_BUSY (4 * a)) = 0 ∧ t.g (CH_PA_CMD_ERR (4 * a)) = 0 := by
  obtain ⟨hframe, hbusy⟩ := State.fwFrame_write_free hw (s := (s.off (CH_PA_CMD_ERR (4 * a))).on (CH_PA_CMD_BUSY (4 * a)))
    (a := a) (by simpa using hb) (by simpa using hh)
  refine ⟨hframe, hbusy, ?_⟩
  rw [State.fwFrame_err, State.on, State.err_p_busy, State.g_off_same _ (by simp [CH_PA_CMD_ERR])]

/-- The frame of R63 for a write. -/
theorem paFrame_write {addr data : Nat} (ha : addr < 128) (hd : data < 2 ^ 16) :
    paFrame true addr data = (2 ^ 23 + addr * 2 ^ 16 + data) * 256 + Code.crc8 24 (2 ^ 23 + addr * 2 ^ 16 + data) := by
  simp only [paFrame, b2n, if_true, Nat.one_mul, Nat.mod_eq_of_lt ha, Nat.mod_eq_of_lt hd]

/-! PREAMP_ACCESS (R67). -/

section
variable {s : State} {a : Fin 8} {addr : Fin 128} {data : BitVec 16} (hb : s.is (CH_PA_CMD_BUSY (4 * a.val)) = false)
include hb

theorem doPreampAccess_refused (h1 : 1 ≤ addr.val) (h7 : addr.val ≤ 7) :
    let c := 4 * a.val
    doPreampAccess a addr true data s =
      (((s.p (CH_PA_CMD_ADDR c) addr.val).p (CH_PA_CMD_WRITE c) 1).p (CH_PA_DATA_DATA c) data.toNat).p (CH_PA_CMD_ERR c) 3 := by
  simp [doPreampAccess, hb, h1, h7, b2n]

theorem doPreampAccess_write (h : addr.val = 0 ∨ 7 < addr.val) :
    let c := 4 * a.val
    let u := ((s.p (CH_PA_CMD_ADDR c) addr.val).p (CH_PA_CMD_WRITE c) 1).p (CH_PA_DATA_DATA c) data.toNat
    doPreampAccess a addr true data s = ((u.off (CH_PA_CMD_ERR c)).on (CH_PA_CMD_BUSY c)).fwFrame a.val
      { write := true, addr := addr.val, data := data.toNat } := by
  have h17 : ¬ (1 ≤ addr.val ∧ addr.val ≤ 7) := by omega
  simp [doPreampAccess, hb, h17, b2n]

theorem doPreampAccess_read :
    let c := 4 * a.val
    let u := (s.p (CH_PA_CMD_ADDR c) addr.val).p (CH_PA_CMD_WRITE c) 0
    doPreampAccess a addr false data s =
      ((u.on (CH_PA_CMD_BUSY c)).paUp a.val fun x => { x with reading := true }).fwFrame a.val
        { write := false, addr := addr.val, data := 0 } := by
  simp [doPreampAccess, hb, b2n]

/-- A write on a free bus with nothing waiting ends in the step that takes it. -/
theorem doPreampAccess_write_free (h : addr.val = 0 ∨ 7 < addr.val) (hbus : (s.pa a.val).busy = false)
    (hhw : (s.pa a.val).hw = []) :
    let t := doPreampAccess a addr true data s
    (t.pa a.val).frame = BitVec.ofNat 32 (paFrame true addr.val data.toNat) ∧
    t.g (CH_PA_CMD_BUSY (4 * a.val)) = 0 ∧ t.g (CH_PA_CMD_ERR (4 * a.val)) = 0 := by
  rw [doPreampAccess_write hb h]
  exact State.fwFrame_write_started rfl (by simpa using hbus) (by simpa using hhw)

end

/-! PREAMP_READ_RESPONSE and PREAMP_TIMEOUT (R64, R65). -/

section
variable {s : State} {a : Fin 8}

theorem exec_preampReadResponse_pending (data : BitVec 16) (crc : BitVec 8) (hr : (s.pa a.val).reading = true) :
    let c := 4 * a.val
    let u := ((s.paFlush a.val).paFree a.val).off (CH_PA_CMD_BUSY c)
    exec (.preampReadResponse a data crc false) s = .next (
      if crc.toNat = Code.crc8 16 data.toNat then
        ((u.p (CH_PA_DATA_DATA c) data.toNat).off (CH_PA_CMD_ERR c)).packMask a.val data.toNat
      else u.p (CH_PA_CMD_ERR c) 1) :=
  congrArg Host.Outcome.next ((if_neg Bool.false_ne_true).trans (if_neg (by simp [hr])))

theorem exec_preampReadResponse_late (data : BitVec 16) (crc : BitVec 8) (hd : (s.pa a.val).lateDue ≠ 0) :
    exec (.preampReadResponse a data crc true) s = .next
      (((s.paUp a.val fun x => { x with lateDue := x.lateDue - 1 }).sat (CH_LATE_CNT_PA_LATE (4 * a.val)) 1).raise 0x0201
        (16 + 4 * a.val) 0) :=
  congrArg Host.Outcome.next ((if_pos rfl).trans (if_neg hd))

theorem exec_preampTimeout_pending (hr : (s.pa a.val).reading = true) :
    let c := 4 * a.val
    exec (.preampTimeout a) s = .next
      ((((((s.paFlush a.val).paFree a.val).off (CH_PA_CMD_BUSY c)).p (CH_PA_CMD_ERR c) 2).paUp a.val fun x =>
        { x with lateDue := x.lateDue + 1 }).fault (CH_STAT_PA_TIMEOUT c) (16 + c) 9 0x0105 9) :=
  congrArg Host.Outcome.next (if_neg (by simp [hr]))

/-! PREAMP_FAULT and PREAMP_FAULT_RELEASE (R69). -/

theorem exec_preampFault_high (hf : (s.pa a.val).fltLow = false) :
    exec (.preampFault a) s = .next (State.each (upTo 4) (fun n t =>
      (t.chUp (4 * a.val + n) fun x =>
        { x with wrGate := false, cut := if x.wrGate then 1 else if x.rdGate then 2 else x.cut }).fault
        (CH_STAT_PA_FAULT (4 * a.val + n)) (16 + (4 * a.val + n)) 0 0x0202 0)
      (s.paUp a.val fun x => { x with fltLow := true })) :=
  congrArg Host.Outcome.next (if_neg (by simp [hf]))

theorem exec_preampFaultRelease :
    Answers (.preampFaultRelease a) s fun t =>
      (t.pa a.val).fltLow = false ∧ (∀ b, b ≠ a.val → t.pa b = s.pa b) ∧ t = { s with paT := t.paT } := by
  refine ⟨s.paUp a.val fun x => { x with fltLow := false }, rfl, ?_, fun b hb => s.pa_paUp_other _ hb, rfl⟩
  rw [State.pa_paUp_same]

end

/-- Settles O29: each row is an equation above, and the frame of a write that goes out at once is that of R63. -/
theorem preampBusCommandsComplete : Obligations.PreampBusCommandsComplete := by
  refine ⟨fun s a addr data hb h1 h7 => congrArg Host.Outcome.next (doPreampAccess_refused hb h1 h7),
    fun s a addr data hb h => congrArg Host.Outcome.next (doPreampAccess_write hb h),
    fun s a addr data hb h hbus hhw => ?_,
    fun s a addr data hb => congrArg Host.Outcome.next (doPreampAccess_read hb),
    fun s a data crc hr => exec_preampReadResponse_pending data crc hr,
    fun s a data crc hd => exec_preampReadResponse_late data crc hd,
    fun s a hr => exec_preampTimeout_pending hr, fun s a hf => exec_preampFault_high hf,
    fun s a => exec_preampFaultRelease⟩
  obtain ⟨hframe, hbusy, herr⟩ := doPreampAccess_write_free hb h hbus hhw
  refine ⟨_, rfl, ?_, hbusy, herr⟩
  rw [hframe, paFrame_write addr.isLt data.isLt, BitVec.toNat_ofNat]

end Sys2Proof.Machine

/-! PROOFS. Seeks, loads and unloads of an actuator (O51). -/

namespace Sys2Proof.Machine

open Reg

section
variable {s : State} {a : Fin 8}

/-! Seeks (R156, R186–R189). -/

theorem exec_seekStart_service (targets : List (Nat × BitVec 20)) (hm : s.mode = mService) :
    exec (.seekStart a targets) s = .next
      (s.seekAsk a.val ((targets.filter (fun x => decide (x.1 < 4))).map (fun x => (x.1, x.2.toNat))) true).2 :=
  congrArg Host.Outcome.next (if_neg (not_not_intro hm))

/-- SEEK asks for the same target in every slot, and its ERR says whether the span allows it. -/
theorem exec_seek_closed (hm : s.mode = mMaint) (hon : s.g (SV_CTL_STATE a.val) = stOn)
    (hc : s.astate a.val = aSeeking ∨ s.astate a.val = aSettling ∨ s.astate a.val = aFollowing) :
    let r := s.seekAsk a.val ((upTo 4).map (fun i => (i, s.g (SV_TARGET_TRACK a.val)))) false
    exec (.seek a) s = .next (r.2.p (SV_CMD_ERR a.val) (if r.1 then 0 else 3)) :=
  congrArg Host.Outcome.next ((if_neg (not_not_intro hm)).trans
    (if_neg (by rcases hc with hc | hc | hc <;> simp [hon, hc])))

theorem exec_settleTimeout_due (ha : s.astate a.val = aSettling) (hw : 511 ≤ (s.act a.val).settling)
    (hg : (s.act a.val).settleGranted = false) :
    exec (.settleTimeout a) s = .next (((s.actUp a.val fun x =>
      { x with settleGranted := true, holdAt := x.est.map Config.estPos }).note
      (SV_STAT_SETTLE_TMO a.val) 0x040B (48 + a.val) 0).seekFailed a.val) :=
  congrArg Host.Outcome.next (if_pos (by simp [ha, hw, hg]))

/-! Loads (R190, R191, R195). -/

/-- R190 allows a load of an unloaded actuator that is ON, over a spindle regulated between 5,400 and 7,200 rpm. -/
theorem State.loadWhy_allowed {n : Nat} (hm : s.mode = mService ∨ s.mode = mMaint) (hon : s.g (SV_CTL_STATE n) = stOn)
    (ha : s.astate n = aUnloaded) (hreg : s.is (SP_MODE_REG (n / 2)) = true) (hlo : 5400 ≤ s.spTarget (n / 2))
    (hhi : s.spTarget (n / 2) ≤ 7200) : s.loadWhy n = 0 := by
  have hserve : s.serving = true := by simpa [State.serving] using hm
  simp [State.loadWhy, hserve, hon, ha, hreg, Nat.not_lt.mpr hlo, Nat.not_lt.mpr hhi]

theorem exec_load_allowed (ha : s.astate a.val = aUnloaded) (hwhy : s.loadWhy a.val = 0) :
    exec (.load a) s = .next ((s.off (SV_CMD_ERR a.val)).loadStart a.val) :=
  congrArg Host.Outcome.next ((if_neg (by rw [ha]; decide)).trans (if_pos hwhy))

theorem exec_load_unloading (ha : s.astate a.val = aUnloading) :
    exec (.load a) s = .next ((s.off (SV_CMD_ERR a.val)).on (SV_MODE_LOAD_PENDING a.val)) :=
  congrArg Host.Outcome.next (if_pos ha)

theorem exec_loadTimeout_before_eight (ha : s.astate a.val = aLoading) (hsam : (s.act a.val).samRun < 8) :
    exec (.loadTimeout a) s = .next ((((s.fault (SV_STAT_LOAD_FAIL a.val) (48 + a.val) 11 0x0404 0).unloadAct a.val ucLoadFail).actUp
      a.val fun x => { x with loadGranted := true, samRun := (s.act a.val).samRun }).careFrom s) :=
  congrArg Host.Outcome.next (if_pos (by simp [ha, hsam]))

/-! Unloads (R193, R194). -/

theorem exec_unload_loaded (ha : s.astate a.val ≠ aUnloaded) :
    exec (.unload a) s = .next (((s.off (SV_CMD_ERR a.val)).unloadAct a.val ucCommand).careFrom s) :=
  congrArg Host.Outcome.next (if_neg ha)

/-- An update of an instance depends on what it gives for the instance as it stands. -/
theorem State.actUp_congr {n : Nat} {f g : ActState → ActState} (h : f (s.act n) = g (s.act n)) : s.actUp n f = s.actUp n g := by
  unfold State.actUp
  rw [h]

/-- What UNLOAD_TICK makes of an actuator that loads (`load`) or unloads. -/
def State.tickAct (s : State) (n : Nat) (load : Bool) (uv : Int) (x : ActState) : ActState :=
  let e := uv - (s.act n).coil * (s.g (SV_BEMF_RCOIL n) : Int)
  let kb := s.g (SV_BEMF_KB n)
  let v := quot (1000 * e) kb
  let want : Int := if load then -4 * (s.g (SV_UNLOAD_LVEL n) : Int) else 4 * (s.g (SV_UNLOAD_VEL n) : Int)
  let low := !load && decide (5 * e.natAbs < s.g (SV_UNLOAD_VEL n) * kb)
  let lim : Nat := s.g (SV_LIM_VCM_ILIM n) / (if (s.act n).limited then 4 else 1)
  if x.pushing then { x with vel := v }
  else { x with
    vel := v, coil := clampI (-(lim : Int)) lim (Config.seqCurrent want v x.coil), slow := if low then x.slow + 1 else 0 }

theorem exec_unloadTick_moving (uv : Int) (ha : s.astate a.val = aUnloading ∨ s.astate a.val = aLoading) :
    exec (.unloadTick a uv) s = .next (s.actUp a.val (s.tickAct a.val (decide (s.astate a.val = aLoading)) uv)) :=
  congrArg Host.Outcome.next (if_neg (by rcases ha with ha | ha <;> simp [ha]))

theorem exec_unloadTick_unloading (uv : Int) (ha : s.astate a.val = aUnloading) :
    exec (.unloadTick a uv) s = .next (s.actUp a.val (s.tickAct a.val false uv)) := by
  rw [exec_unloadTick_moving uv (.inl ha), ha]
  rfl

theorem exec_unloadTick_loading (uv : Int) (ha : s.astate a.val = aLoading) :
    exec (.unloadTick a uv) s = .next (s.actUp a.val (s.tickAct a.val true uv)) := by
  rw [exec_unloadTick_moving uv (.inr ha), ha]
  rfl

theorem State.tickAct_driven {n : Nat} {load : Bool} {uv : Int} {x : ActState} (hp : x.pushing = false) :
    let e := uv - (s.act n).coil * (s.g (SV_BEMF_RCOIL n) : Int)
    let kb := s.g (SV_BEMF_KB n)
    let lim := s.g (SV_LIM_VCM_ILIM n) / (if (s.act n).limited then 4 else 1)
    ∃ want : Int, s.tickAct n load uv x = { x with
      vel := quot (1000 * e) kb, coil := clampI (-(lim : Int)) lim want
      slow := if !load && decide (5 * e.natAbs < s.g (SV_UNLOAD_VEL n) * kb) then x.slow + 1 else 0 } :=
  ⟨_, if_neg (by simp [hp])⟩

theorem State.tickAct_pushing {n : Nat} {load : Bool} {uv : Int} {x : ActState} (hp : x.pushing = true) :
    s.tickAct n load uv x =
      { x with vel := quot (1000 * (uv - (s.act n).coil * (s.g (SV_BEMF_RCOIL n) : Int))) (s.g (SV_BEMF_KB n)) } :=
  if_pos hp

theorem exec_headsParked_slow (ha : s.astate a.val = aUnloading) (hp : (s.act a.val).pushing = false)
    (hslow : 400 ≤ (s.act a.val).slow) : exec (.headsParked a) s = .next (s.unloadDone a.val) :=
  congrArg Host.Outcome.next ((if_neg (not_not_intro ha)).trans ((if_neg (by simp [hp])).trans (if_pos hslow)))

theorem exec_unloadTimeout_unloading (ha : s.astate a.val = aUnloading) (hp : (s.act a.val).pushing = false) :
    exec (.unloadTimeout a) s = .next (s.actUp a.val fun x => { x with
      pushing := true, parkLate := true, coil := ((s.g (SV_LIM_VCM_ILIM a.val) / 2 : Nat) : Int) }) :=
  congrArg Host.Outcome.next (if_pos (by simp [ha, hp]))

theorem exec_unloadPushEnd_pushing (ha : s.astate a.val = aUnloading) (hp : (s.act a.val).pushing = true) :
    exec (.unloadPushEnd a) s = .next (((s.actUp a.val fun x => { x with parkLate := false }).unloadDone a.val).fault
      (SV_STAT_UNLOAD_TMO a.val) (48 + a.val) 12 0x0408 0) :=
  congrArg Host.Outcome.next (if_pos (by simp [ha, hp]))

/-! Driver faults (R196). -/

theorem exec_svDrvFault_voiceCoil : exec (.svDrvFault a none) s = .next
    (((s.fault (SV_STAT_DRV_FAULT a.val) (48 + a.val) 13 0x040A 0).unloadAct a.val ucDriver).careFrom s) := rfl

/-- The micro-actuator of a head in a slot, and not lost before. -/
theorem exec_svDrvFault_inUse {h : Fin 12} {i : Nat} :
    let u := (s.fault (SV_STAT_DRV_FAULT a.val) (48 + a.val) 13 0x040A 0).actUp a.val fun x => { x with micro := x.micro.drop h.val }
    (upTo 4).find? (fun i => u.headAt a.val i == h.val) = some i → u.isLost a.val i = false →
    exec (.svDrvFault a (some h)) s = .next ((u.headLost a.val i).careFrom s) := by
  intro u hslot hlost
  refine congrArg Host.Outcome.next (congrArg (State.careFrom · s) ?_)
  simp only [u] at hslot hlost
  dsimp only
  rw [hslot]
  exact if_neg (by simp [hlost])

end

/-- Settles O51: each row is an equation above; of an UNLOAD_TICK the drive current is that of the model's free controller. -/
theorem servoSequenceCommandsComplete : Obligations.ServoSequenceCommandsComplete := by
  refine ⟨fun s a targets hm => exec_seekStart_service targets hm, fun s a hm hon hc => exec_seek_closed hm hon hc,
    fun s a ha hw hg => exec_settleTimeout_due ha hw hg,
    fun s a hm hon ha hreg hlo hhi => exec_load_allowed ha (State.loadWhy_allowed hm hon ha hreg hlo hhi),
    fun s a ha => exec_load_unloading ha, fun s a ha => exec_unload_loaded ha,
    fun s a ha hsam => exec_loadTimeout_before_eight ha hsam, fun s a uv ha hp => ?unloading, fun s a uv ha hp => ?loading,
    fun s a uv ha hp => ?pushing, fun s a ha hp hslow => exec_headsParked_slow ha hp hslow,
    fun s a ha hp => exec_unloadTimeout_unloading ha hp, fun s a ha hp => exec_unloadPushEnd_pushing ha hp,
    fun s a => exec_svDrvFault_voiceCoil, fun s a h i => exec_svDrvFault_inUse⟩
  case unloading =>
    obtain ⟨want, hw⟩ := State.tickAct_driven (s := s) (n := a.val) (load := false) (uv := uv) hp
    exact ⟨_, exec_unloadTick_unloading uv ha, want, State.actUp_congr hw⟩
  case loading =>
    obtain ⟨want, hw⟩ := State.tickAct_driven (s := s) (n := a.val) (load := true) (uv := uv) hp
    exact ⟨_, exec_unloadTick_loading uv ha, want, State.actUp_congr hw⟩
  case pushing =>
    exact (exec_unloadTick_unloading uv ha).trans (congrArg Host.Outcome.next (State.actUp_congr (State.tickAct_pushing hp)))

end Sys2Proof.Machine

/-! PROOFS. The wedges of the servo loops, its sensors, tables, injection and capture (O52). -/

namespace Sys2Proof.Machine

open Reg

section
variable {s : State} {a : Fin 8}

/-! Wedges (R154, R155, R166–R170, R190). -/

theorem exec_wedgeFastCheck_closed (r : WedgeResults) (hgap : s.is PW_CHAIN_GAP = false) (hc : s.astate a.val = aSeeking ∨
    s.astate a.val = aSettling ∨ s.astate a.val = aFollowing ∨ s.astate a.val = aPredicting) :
    exec (.wedgeFastCheck a r) s = .next ((s.wedge a.val r).careFrom s) := by
  have hcode : s.astate a.val = 2 ∨ s.astate a.val = 3 ∨ s.astate a.val = 4 ∨ s.astate a.val = 5 := hc
  have hoff : s.astate a.val ≠ aUnloaded := by unfold aUnloaded; omega
  have hunl : s.astate a.val ≠ aUnloading := by unfold aUnloading; omega
  have hload : s.astate a.val ≠ aLoading := by unfold aLoading; omega
  exact congrArg Host.Outcome.next ((if_neg (by simp [hoff, hgap])).trans ((if_neg hunl).trans (if_neg hload)))

/-- A wedge of a load: after eight SAMs in a row it closes the loops, and before that its SAMs are searched (R190). -/
theorem exec_wedgeFastCheck_loading (r : WedgeResults) (hgap : s.is PW_CHAIN_GAP = false) (ha : s.astate a.val = aLoading) :
    let u := s.samWedge a.val r
    let f := u.samFirst a.val r
    exec (.wedgeFastCheck a r) s = .next (
      if (s.act a.val).samRun ≥ 8 then
        (((s.setAstate a.val aSeeking).actUp a.val fun x => { x with coil := 0 }).wedge a.val r).careFrom s
      else
        ((match f with
          | some d => u.p (SV_POS_WEDGE a.val) d.wedge
          | none => u.p (SV_POS_WEDGE a.val) ((u.g (SV_POS_WEDGE a.val) + 1) % 440)).accShown a.val).actUp a.val fun x =>
            { x with samRun := if f.isNone then 0 else x.samRun + 1, peak0 := 0, peak1 := 0 }) := by
  have hoff : s.astate a.val ≠ aUnloaded := by rw [ha]; decide
  have hunl : s.astate a.val ≠ aUnloading := by rw [ha]; decide
  exact congrArg Host.Outcome.next ((if_neg (by simp [hoff, hgap])).trans ((if_neg hunl).trans (if_pos ha)))

theorem exec_wedgeDeadline_computing (hj : (s.act a.val).job.isSome = true) (hd : (s.act a.val).overdue = false) :
    exec (.wedgeDeadline a) s = .next (((s.actUp a.val fun x => { x with overdue := true }).overrun a.val).careFrom s) :=
  congrArg Host.Outcome.next (if_pos (by simp [hj, hd]))

/-- The outputs of a wedge that reached the engine: applied, or late. -/
theorem exec_wedgeOutputArrival_job (t5 : BitVec 14) {j : WedgeJob} (hj : (s.act a.val).job = some j) (hdrop : j.dropped = false) :
    exec (.wedgeOutputArrival a t5) s = .next (
      if (s.act a.val).overdue then
        ((s.actUp a.val fun x => { x with job := none, overdue := false }).sat (SV_LATE_CNT_COUNT a.val) 1).note
          (SV_STAT_LATE a.val) 0x0402 (48 + a.val) 0
      else s.output a.val j t5.toNat) := by
  refine congrArg Host.Outcome.next ?_
  extract_lets n
  rw [show (s.act n).job = some j from hj]
  exact if_neg (by simp [hdrop])

/-! Accelerometers (R180–R182). -/

theorem exec_accelSample_good (x y z : BitVec 16) (hf : s.acc0.failed = false) :
    let o := s.acc0
    let n : AccState := {
      x := x.toInt, y := y.toInt, z := z.toInt
      same := if o.same > 0 && o.x = x.toInt && o.y = y.toInt && o.z = z.toInt then o.same + 1 else 1 }
    let m := (n.x * n.x + n.y * n.y + n.z * n.z).natAbs
    let u := State.each (upTo 8) (fun a t => t.actUp a (fun v => { v with peak0 := max v.peak0 m })) { s with acc0 := n }
    exec (.accelSample 0 x y z) s = .next (if n.same ≥ 2000 then u.accFail 0 else u) :=
  congrArg Host.Outcome.next (if_neg (by simp [State.accOf, hf]))

theorem State.accFail_good {i : Nat} (hf : (s.accOf i).failed = false) :
    let u := (s.accPut i { s.accOf i with failed := true }).on (if i = 0 then SV_ACC_FAIL0 0 else SV_ACC_FAIL1 0)
    let r := u.raiseSeq 0x0409 48 0 true
    s.accFail i = State.each (upTo 8) (fun a t => t.faultSeq (SV_STAT_ACC_FAIL a) (48 + a) 14 r.1) r.2 :=
  if_neg (by simp [hf])

/-! Coefficients and the runout tables (R163, R185). -/

/-- A write of another register leaves a flag as it is. -/
theorem State.is_wr_reg (s : State) {r : RF} {addr : Nat} (v : Word) (h : r.addr ≠ addr) : (s.wr addr v).is r = s.is r := by
  unfold State.is State.g
  rw [s.rd_wr_other v h]

theorem State.coefWrite_unheld {n k v : Nat} (hlock : s.is MD_LOCK_LOCK = false) (hhold : s.is (SV_CTL_COEF_HOLD n) = false)
    (hv : v < 2 ^ 30) : s.coefWrite n k v = s.wr (SV_COEF n k) (BitVec.ofNat 32 v) := by
  have hctl : SV_CTL n ≠ SV_COEF n k := by simp only [SV_CTL, SV_COEF]; omega
  have hstill : (s.wr (SV_COEF n k) (BitVec.ofNat 32 v)).is (SV_CTL_COEF_HOLD n) = false :=
    (s.is_wr_reg _ hctl).trans hhold
  unfold State.coefWrite
  rw [Nat.mod_eq_of_lt hv, if_neg (by simp [hlock])]
  exact if_neg (by simp [hstill])

/-- A write of an entry within the tables while nothing is learnt. -/
theorem State.runoutAccess_write {n : Nat} (v : Nat) (hw : s.g (SV_RC_ADDR_WEDGE n) < 440) (ht : s.g (SV_RC_ADDR_TABLE n) ≤ 12)
    (hl : s.is (SV_RC_CTL_LEARN n) = false) :
    let w := s.g (SV_RC_ADDR_WEDGE n)
    s.runoutAccess n (some v) = (s.actUp n fun x => { x with
      runout := x.runout.putD (512 * s.g (SV_RC_ADDR_TABLE n) + w) 0 (sgn 16 v) }).p (SV_RC_ADDR_WEDGE n)
        (if w = 439 then 0 else w + 1) := by
  simp [State.runoutAccess, hw, ht, hl]

theorem State.runoutAccess_read {n : Nat} (hw : s.g (SV_RC_ADDR_WEDGE n) < 440) (ht : s.g (SV_RC_ADDR_TABLE n) ≤ 12) :
    let w := s.g (SV_RC_ADDR_WEDGE n)
    s.runoutAccess n none = ({ s with rdata := BitVec.ofNat 32 (unsgn 16 ((s.act n).runout.getD
      (512 * s.g (SV_RC_ADDR_TABLE n) + w) 0)) }).p (SV_RC_ADDR_WEDGE n) (if w = 439 then 0 else w + 1) := by
  simp [State.runoutAccess, hw, ht]

/-! Injection (R199, R200). -/

/-- A flag of one bit that has been set. -/
theorem State.is_on_same (s : State) {f : RF} (hw : f.w = 1) (h : f.lo + f.w ≤ 32) : (s.on f).is f = true := by
  have hg : (s.on f).g f = 1 := (s.g_p_same f 1 h).trans (by rw [hw]; rfl)
  simp [State.is, hg]

/-- A trigger shows in SV_CAP_CTL alone. -/
theorem State.capTrig_is (s : State) {n mode : Nat} {r : RF} (h : r.addr ≠ SV_CAP_CTL n) : (s.capTrig n mode).is r = s.is r := by
  unfold State.capTrig
  extract_lets post
  split
  · split
    · rw [State.actUp_is]
      exact s.is_wr_reg _ h
    · rfl
  · rfl

/-- Writing the point, slot and amplitude of an injection leaves the other registers. -/
theorem State.g_tsiPoint (s : State) {n point slot amp : Nat} {r : RF} (h : r.addr ≠ SV_TSI_CTL n) :
    (((s.p (SV_TSI_CTL_POINT n) point).p (SV_TSI_CTL_SLOT n) slot).p (SV_TSI_CTL_AMP n) amp).g r = s.g r := by
  rw [State.g_p_reg _ _ h, State.g_p_reg _ _ h, State.g_p_reg _ _ h]

/-- In MAINT and FOLLOWING a write of EN 1 leaves EN set, whether it starts the injection or finds it running. -/
theorem State.tsiWrite_injects {n point slot amp : Nat} (hm : s.mode = mMaint) (ha : s.astate n = aFollowing) :
    (s.tsiWrite n true point slot amp).is (SV_TSI_CTL_EN n) = true := by
  unfold State.tsiWrite
  extract_lets t
  have hmode : t.mode = mMaint := (s.g_tsiPoint (by simp only [MD_MODE_MODE, MD_MODE, SV_TSI_CTL]; omega)).trans hm
  have hastate : t.astate n = aFollowing :=
    (s.g_tsiPoint (by simp only [SV_MODE_ASTATE, SV_MODE, SV_TSI_CTL]; omega)).trans ha
  have hcap : SV_TSI_CTL n ≠ SV_CAP_CTL n := by simp only [SV_TSI_CTL, SV_CAP_CTL]; omega
  rw [if_pos (by simp [hmode, hastate])]
  split
  case isTrue hen => exact hen
  case isFalse =>
    rw [State.capTrig_is _ hcap, State.actUp_is]
    exact State.is_on_same _ rfl (by simp [SV_TSI_CTL_EN])

end

/-- Settles O52: each row is an equation above, and the rows without a condition are their definitions. -/
theorem servoLoopCommandsComplete : Obligations.ServoLoopCommandsComplete := by
  refine ⟨fun s a r hgap hc => exec_wedgeFastCheck_closed r hgap hc, fun s a r hgap ha hsam => ?eighth,
    fun s a r hgap ha hsam => ?searched, fun s a hj hd => exec_wedgeDeadline_computing hj hd,
    fun s a t5 j hj hdrop hd => ?applied, fun s a t5 j hj hdrop hd => ?late, fun s x y z hf => exec_accelSample_good x y z hf,
    fun s sensor hf => congrArg Host.Outcome.next (State.accFail_good hf),
    fun s a k v hlock hhold => ⟨_, rfl, State.coefWrite_unheld hlock hhold v.isLt⟩, fun s a => rfl,
    fun s a v hw ht hl => congrArg Host.Outcome.next (State.runoutAccess_write v.toNat hw ht hl),
    fun s a hw ht => congrArg Host.Outcome.next (State.runoutAccess_read hw ht),
    fun s a point slot amp hm ha _ => ⟨_, rfl, State.tsiWrite_injects hm ha⟩, fun s a => rfl, fun s a => rfl⟩
  case eighth => exact (exec_wedgeFastCheck_loading r hgap ha).trans (congrArg Host.Outcome.next (if_pos hsam))
  case searched =>
    intro u f w
    refine (exec_wedgeFastCheck_loading r hgap ha).trans (congrArg Host.Outcome.next ((if_neg (by omega)).trans ?_))
    cases hf : f <;> simp [w, f, u, hf]
  case applied =>
    rw [exec_wedgeOutputArrival_job t5 hj hdrop, if_neg (by simp [hd])]
  case late =>
    rw [exec_wedgeOutputArrival_job t5 hj hdrop, if_pos hd]

end Sys2Proof.Machine

/-! PROOFS. The start, the stop and the speed of a spindle (O53). -/

namespace Sys2Proof.Machine

open Reg

section
variable {s : State} {sp : Fin 4}

/-! Commands (R214). -/

/-- Past the first three conditions of SPIN, its outcome is that of the phase. -/
theorem doSpin_legal (hon : s.g (SP_CTL_STATE sp.val) = stOn) (hm : s.mode = mService ∨ s.mode = mMaint)
    (hrpm : s.g (SP_SET_RPM sp.val) = 4800 ∨ (5400 ≤ s.g (SP_SET_RPM sp.val) ∧ s.g (SP_SET_RPM sp.val) ≤ 7200)) :
    doSpin sp s =
      if s.phase sp.val = phStopped then (s.off (SP_CMD_ERR sp.val)).spinUp sp.val
      else if s.phase sp.val ≠ phRun then s.p (SP_CMD_ERR sp.val) 6
      else if !s.bothUnloaded sp.val then s.p (SP_CMD_ERR sp.val) 2
      else (s.off (SP_CMD_ERR sp.val)).retarget sp.val := by
  have hserve : s.serving = true := by simpa [State.serving] using hm
  exact (if_neg (not_not_intro hon)).trans ((if_neg (by simp [hserve])).trans (if_neg (by simpa [or_iff_not_imp_left] using hrpm)))

theorem exec_spin_stopped (hon : s.g (SP_CTL_STATE sp.val) = stOn) (hm : s.mode = mService ∨ s.mode = mMaint)
    (hrpm : s.g (SP_SET_RPM sp.val) = 4800 ∨ (5400 ≤ s.g (SP_SET_RPM sp.val) ∧ s.g (SP_SET_RPM sp.val) ≤ 7200))
    (hph : s.phase sp.val = phStopped) : exec (.spin sp) s = .next ((s.off (SP_CMD_ERR sp.val)).spinUp sp.val) :=
  congrArg Host.Outcome.next ((doSpin_legal hon hm hrpm).trans (if_pos hph))

theorem exec_spin_running (hon : s.g (SP_CTL_STATE sp.val) = stOn) (hm : s.mode = mService ∨ s.mode = mMaint)
    (hrpm : s.g (SP_SET_RPM sp.val) = 4800 ∨ (5400 ≤ s.g (SP_SET_RPM sp.val) ∧ s.g (SP_SET_RPM sp.val) ≤ 7200))
    (hph : s.phase sp.val = phRun) (hfree : s.bothUnloaded sp.val = true) :
    exec (.spin sp) s = .next ((s.off (SP_CMD_ERR sp.val)).retarget sp.val) := by
  have hturns : s.phase sp.val ≠ phStopped := by rw [hph]; decide
  exact congrArg Host.Outcome.next ((doSpin_legal hon hm hrpm).trans
    ((if_neg hturns).trans ((if_neg (not_not_intro hph)).trans (if_neg (by simp [hfree])))))

theorem exec_stop_accepted (hon : s.g (SP_CTL_STATE sp.val) = stOn) (hfree : s.bothUnloaded sp.val = true)
    (hph : s.phase sp.val = phWait ∨ s.phase sp.val = phAccel ∨ s.phase sp.val = phRun) :
    exec (.stop sp) s = .next
      ((s.p (SP_CMD_ERR sp.val) (if s.phase sp.val ≠ phWait && s.anyChop then 4 else 0)).stopSpindle sp.val) :=
  congrArg Host.Outcome.next ((if_neg (not_not_intro hon)).trans
    ((if_neg (by simp [hfree])).trans (if_pos (by simpa [or_assoc] using hph))))

theorem exec_shortCmd_accepted (hon : s.g (SP_CTL_STATE sp.val) = stOn) (hfree : s.bothUnloaded sp.val = true) :
    exec (.shortCmd sp) s = .next
      (State.goShort { s.off (SP_CMD_ERR sp.val) with spWait := s.spWait.filter (· ≠ sp.val) } sp.val) :=
  congrArg Host.Outcome.next ((if_neg (not_not_intro hon)).trans (if_neg (by simp [hfree])))

/-! Spin-up (R218–R220). -/

theorem exec_spinupStart_first (hph : s.phase sp.val = phWait) (hhead : s.spWait.head? = some sp.val)
    (hbusy : ((upTo 4).filter (fun k => s.phase k = phStart)).length < 2) (hsw : s.switched = true) :
    exec (.spinupStart sp) s = .next (((State.goPhase { s with spWait := s.spWait.drop 1 } sp.val phStart).p
      (SP_MODE_START_TRY sp.val) 1).spUp sp.val fun x =>
        { x with step := .angle, spinup := .armed, lateRun := 0, innRun := 0, foc := {} }) :=
  congrArg Host.Outcome.next (if_pos (by simp [hph, hhead, hbusy, hsw]))

theorem exec_rotorAngleFound_angle (hph : s.phase sp.val = phStart) (hstep : (s.sp sp.val).step = .angle) :
    exec (.rotorAngleFound sp) s = .next (s.spUp sp.val fun x => { x with step := .ramp }) :=
  congrArg Host.Outcome.next (if_pos (by simp [hph, hstep]))

theorem exec_observerLock_ramp (hph : s.phase sp.val = phStart) (hstep : (s.sp sp.val).step = .ramp) :
    exec (.observerLock sp) s = .next ((s.goPhase sp.val phAccel).spUp sp.val fun x => { x with step := .none }) :=
  congrArg Host.Outcome.next (if_pos (by simp [hph, hstep]))

theorem exec_startAttemptFail_ramp (hph : s.phase sp.val = phStart) (hstep : (s.sp sp.val).step = .ramp) :
    exec (.startAttemptFail sp) s = .next (if s.g (SP_MODE_START_TRY sp.val) ≥ 3 then s.spinupFail sp.val .idle
      else s.spUp sp.val fun x => { x with step := .pause }) :=
  congrArg Host.Outcome.next (if_pos (by simp [hph, hstep]))

theorem exec_startRetry_pause (hph : s.phase sp.val = phStart) (hstep : (s.sp sp.val).step = .pause) :
    exec (.startRetry sp) s = .next ((s.inc (SP_MODE_START_TRY sp.val)).spUp sp.val fun x => { x with step := .angle }) :=
  congrArg Host.Outcome.next (if_pos (by simp [hph, hstep]))

theorem exec_spinupTimeout_armed (hrace : (s.sp sp.val).spinup = .armed) (hheld : s.timersHeld = false) :
    exec (.spinupTimeout sp) s = .next (s.spinupFail sp.val .granted) :=
  congrArg Host.Outcome.next (if_pos (by simp [hrace, hheld]))

/-! Regulation (R215) and the ends of a short and of the SAFE hold (R222, R227). -/

theorem exec_spindleRegulated_regulates (hrace : (s.sp sp.val).spinup ≠ .granted) (hph : s.phase sp.val = phRun)
    (hreg : s.is (SP_MODE_REG sp.val) = false) (hrevs : 32 ≤ (s.sp sp.val).revs) :
    exec (.spindleRegulated sp) s = .next
      (((s.on (SP_MODE_REG sp.val)).spUp sp.val fun x => { x with spinup := .idle }).reload sp.val) :=
  congrArg Host.Outcome.next ((if_neg hrace).trans (if_pos (by simp [hph, hreg, hrevs])))

theorem exec_shortStandstill_released (hph : s.phase sp.val = phShort) (hforced : (s.sp sp.val).forced = false) :
    exec (.shortStandstill sp) s = .next (((s.goPhase sp.val phStopped).off (SP_SPEED_MEAS sp.val)).spUp sp.val fun x =>
      { x with bridgeOff := false, stopAfter := false, stuck := false, fast := false, acq := .idle, xings := [] }) :=
  congrArg Host.Outcome.next (if_pos (by simp [hph, hforced]))

theorem exec_safeSpindleHoldEnd_held (hhold : (s.sp sp.val).safeHold = true) :
    exec (.safeSpindleHoldEnd sp) s = .next (s.goShort sp.val) :=
  congrArg Host.Outcome.next (if_pos hhold)

end

/-- Settles O53: each row is an equation above; a speed sample has no condition, and its row is its definition. -/
theorem spindleSequenceCommandsComplete : Obligations.SpindleSequenceCommandsComplete :=
  ⟨fun _ _ hon hm hrpm hph => exec_spin_stopped hon hm hrpm hph,
    fun _ _ hon hm hrpm hph hfree => exec_spin_running hon hm hrpm hph hfree,
    fun _ _ hon hfree hph => exec_stop_accepted hon hfree hph,
    fun _ _ hon hfree => exec_shortCmd_accepted hon hfree,
    fun _ _ hph hhead hbusy hsw => exec_spinupStart_first hph hhead hbusy hsw,
    fun _ _ hph hstep => exec_rotorAngleFound_angle hph hstep,
    fun _ _ hph hstep => ⟨exec_observerLock_ramp hph hstep, exec_startAttemptFail_ramp hph hstep⟩,
    fun _ _ hph hstep => exec_startRetry_pause hph hstep,
    fun _ _ hrace hheld => exec_spinupTimeout_armed hrace hheld,
    fun _ _ _ => rfl,
    fun _ _ hrace hph hreg hrevs => exec_spindleRegulated_regulates hrace hph hreg hrevs,
    fun _ _ hph hforced => exec_shortStandstill_released hph hforced,
    fun _ _ hhold => exec_safeSpindleHoldEnd_held hhold⟩

end Sys2Proof.Machine

/-! PROOFS. PWM periods, overcurrents, choppers and the re-acquisition of a spindle (O54). -/

namespace Sys2Proof.Machine

open Reg

section
variable {s : State} {sp : Fin 4}

/-! PWM periods (R204–R209). -/

theorem exec_pwmPeriod_driven (ia ib : BitVec 16) (quiet innov : Nat) (hlo : phStart ≤ s.phase sp.val)
    (hhi : s.phase sp.val ≤ phDecel) (hheld : s.timersHeld = false) (hstep : (s.sp sp.val).step ≠ .pause) :
    let good := decide (s.g (SP_PWM_CFG_TMIN sp.val) ≤ quiet)
    let u := (s.spUp sp.val fun x => { x with pwm := .armed }).pwmSample sp.val ia.toNat ib.toNat quiet
    let v := u.focStep sp.val (if good then ia.toInt else (s.sp sp.val).foc.predA) (if good then ib.toInt else (s.sp sp.val).foc.predB)
    exec (.pwmPeriod sp ia ib quiet innov) s = .next
      ((if u.driven sp.val = false then u
        else if good && u.overIlim sp.val ia.toInt ib.toInt then u.overcurrent sp.val
        else if v.phase sp.val = phAccel || v.phase sp.val = phRun || v.phase sp.val = phDecel then v.innovation sp.val innov
        else v).careFrom s) := by
  intro good u v
  have hdriven : s.driven sp.val = true := by simp [State.driven, hlo, hhi]
  exact congrArg Host.Outcome.next ((if_neg (by simp [hdriven, hheld, hstep])).trans
    (congrArg (State.careFrom · s) (if_congr (iff_of_eq (Bool.not_eq_true' _)) rfl rfl)))

theorem exec_dutySetArrival_within (hrace : (s.sp sp.val).pwm = .armed) :
    exec (.dutySetArrival sp) s = .next (s.spUp sp.val fun x => { x with
      duty := x.foc.next.map (min (s.g (SP_MODE_DEPTH_LIM sp.val))), pwm := .idle, lateRun := 0 }) := by
  refine congrArg Host.Outcome.next ?_
  extract_lets i
  rw [show (s.sp i).pwm = .armed from hrace]

theorem exec_dutySetArrival_late (hrace : (s.sp sp.val).pwm = .granted) :
    exec (.dutySetArrival sp) s = .next (((s.spUp sp.val fun x => { x with pwm := .idle }).sat
      (SP_LATE_CNT_PWM sp.val) 1).note (SP_STAT_PWM_LATE sp.val) 0x050B (56 + sp.val) 0) := by
  refine congrArg Host.Outcome.next ?_
  extract_lets i
  rw [show (s.sp i).pwm = .granted from hrace]

theorem exec_pwmDeadline_armed (hrace : (s.sp sp.val).pwm = .armed) (hheld : s.timersHeld = false) :
    let n := (s.sp sp.val).lateRun + 1
    let u := s.spUp sp.val fun x => { x with lateRun := n }
    exec (.pwmDeadline sp) s = .next
      ((if n ≥ 8 then u.observerLoss sp.val else u).spUp sp.val fun x => { x with pwm := .granted }) :=
  congrArg Host.Outcome.next (if_neg (by simp [hrace, hheld]))

/-! Overcurrents (R206, R226). -/

/-- The first overcurrent since the spin-up is never taken for a failed re-acquisition. -/
theorem State.overcurrent_first {i : Nat} (hoc : (s.sp i).ocAt = none) :
    let u := (s.fault (SP_STAT_OC i) (56 + i) 7 0x0508 0).spUp i fun x => { x with ocAt := some s.now }
    let short := decide (u.phase i = phShort)
    s.overcurrent i =
      if short && (u.sp i).stuck then u
      else if u.driven i || short || u.phase i = phRectify then
        (((u.coast i).spUp i fun x => { x with shortAfter := short }).sat (SP_LOSS_CNT_LOST i) 1).note
          (SP_STAT_OBS_LOST i) 0x0501 (56 + i) 0
      else u := by
  unfold State.overcurrent
  rw [hoc]
  exact if_congr Iff.rfl rfl (if_neg Bool.false_ne_true)

theorem exec_mpOvercurrent_turning (hlo : phStart ≤ s.phase sp.val) :
    exec (.mpOvercurrent sp) s = .next ((s.overcurrent sp.val).careFrom s) :=
  congrArg Host.Outcome.next (if_neg (Nat.not_lt.mpr hlo))

/-! Choppers (R223–R225). -/

theorem exec_chopperSwitch_on {bus : BitVec 11} (hbus : 1380 ≤ bus.toNat) :
    exec (.chopperSwitch bus) s = .next (State.each (upTo 4) (fun i t => (t.on (SP_BUS_CHOP_ON i)).spUp i fun x => { x with
      chopBus := if x.chopBus = .idle then .armed else x.chopBus,
      chopCur := if !t.is (SP_BUS_CHOP_ON i) then .armed else x.chopCur }) (s.busShown bus.toNat)) :=
  congrArg Host.Outcome.next (congrArg (State.each (upTo 4) · (s.busShown bus.toNat))
    (funext fun _ => funext fun _ => if_pos hbus))

theorem exec_chopperCurrentTimeout_armed (amps : Nat) (hon : s.is (SP_BUS_CHOP_ON sp.val) = true)
    (hrace : (s.sp sp.val).chopCur = .armed) :
    let u := s.spUp sp.val fun x => { x with chopCur := .idle }
    exec (.chopperCurrentTimeout sp amps) s = .next
      (if amps < u.g (SP_BRAKE_CFG_CHOP_IMIN sp.val) then u.chopFault sp.val else u) :=
  congrArg Host.Outcome.next (if_pos (by simp [hon, hrace]))

theorem exec_chopperBusTimeout_armed (hon : s.is (SP_BUS_CHOP_ON sp.val) = true) (hrace : (s.sp sp.val).chopBus = .armed) :
    exec (.chopperBusTimeout sp) s = .next ((s.spUp sp.val fun x => { x with chopBus := .granted }).chopFault sp.val) :=
  congrArg Host.Outcome.next (if_pos (by simp [hon, hrace]))

/-! Re-acquisition and power failure (R229–R233). -/

/-- Enough agreeing intervals before the timeout are a re-acquisition in time. -/
theorem exec_bemfZeroCrossing_reacquired (ns : Nat) (sector : Fin 6) (hph : s.phase sp.val = phCoast)
    (hrace : (s.sp sp.val).acq = .armed) :
    let l := (ns :: (s.sp sp.val).xings).take (s.acqXings sp.val)
    let u := (s.spUp sp.val fun x => { x with xings := l }).spUp sp.val fun x => { x with xings := [], acq := .idle }
    let v := ((u.goPhase sp.val phRun).sat (SP_LOSS_CNT_REACQ sp.val) 1).xingSpeed sp.val ns
    s.acqXings sp.val ≤ l.length → agree (l.take (s.acqXings sp.val - 1)) = true →
    exec (.bemfZeroCrossing sp ns sector) s = .next ((v.spUp sp.val fun x => { x with
      foc := { angle := (sector.val : ℚ) / 6, ramp := some s.now } }).spindleFree sp.val) := by
  intro l u v hlen hagree
  have hintime : ¬ (s.sp sp.val).acq = .granted := by simp [hrace]
  exact congrArg Host.Outcome.next ((if_neg (by simp [hph, hrace])).trans
    ((if_pos (Bool.and_eq_true_iff.mpr ⟨decide_eq_true hlen, hagree⟩)).trans (if_neg hintime)))

theorem exec_reacqTimeout_armed (hph : s.phase sp.val = phCoast) (hrace : (s.sp sp.val).acq = .armed)
    (hheld : s.timersHeld = false) : exec (.reacqTimeout sp) s = .next ((s.reacqFail sp.val .granted).careFrom s) :=
  congrArg Host.Outcome.next (if_pos (by simp [hph, hrace, hheld]))

theorem exec_motorBusCollapse_rectifying (hph : s.phase sp.val = phRectify) :
    exec (.motorBusCollapse sp) s = .next
      ((s.goPhase sp.val phCoast).spUp sp.val fun x => { x with bridgeOff := true, acq := .idle }) :=
  congrArg Host.Outcome.next (if_pos hph)

end

/-- Settles O54: each row is an equation above; an overcurrent without an earlier one is `State.overcurrent_first`. -/
theorem spindleDriveCommandsComplete : Obligations.SpindleDriveCommandsComplete :=
  ⟨fun _ _ ia ib quiet innov hlo hhi hheld hstep => exec_pwmPeriod_driven ia ib quiet innov hlo hhi hheld hstep,
    fun _ _ hrace => exec_dutySetArrival_within hrace,
    fun _ _ hrace => exec_dutySetArrival_late hrace,
    fun _ _ hrace hheld => exec_pwmDeadline_armed hrace hheld,
    fun s _ hlo hoc => (exec_mpOvercurrent_turning hlo).trans
      (congrArg (fun t => Host.Outcome.next (State.careFrom t s)) (State.overcurrent_first hoc)),
    fun _ _ hbus => exec_chopperSwitch_on hbus,
    fun _ _ amps hon hrace => exec_chopperCurrentTimeout_armed amps hon hrace,
    fun _ _ hon hrace => exec_chopperBusTimeout_armed hon hrace,
    fun _ _ ns sector hph hrace hlen hagree => exec_bemfZeroCrossing_reacquired ns sector hph hrace hlen hagree,
    fun _ _ hph hrace hheld => exec_reacqTimeout_armed hph hrace hheld,
    fun _ _ hph => exec_motorBusCollapse_rectifying hph⟩

end Sys2Proof.Machine

/-! PROOFS. The geometry registers of a volume (O12). -/

namespace Sys2Proof.Machine

open Reg

section
variable {s : State} {v addr : Nat}

/-! The write of a geometry register (R240, R346). -/

theorem State.ctlWrite_geom (x sets : Nat) (h : actAt addr = .geom v) :
    s.ctlWrite addr x sets = if s.geomWritable v then s.plainWrite addr x sets else s := by
  unfold State.ctlWrite
  rw [h]

theorem State.geomWritable_guarded (h : s.g (AR_VOL_CTL_STATE v) ≠ stOff ∨ s.volRecs v = true) : s.geomWritable v = false := by
  rcases h with h | h <;> simp [State.geomWritable, h]

theorem State.geomWritable_off (hoff : s.g (AR_VOL_CTL_STATE v) = stOff) (hrecs : s.volRecs v = false)
    (hrs : s.g RB_RS_STAT_STATE = rsNone) : s.geomWritable v = true := by
  simp [State.geomWritable, hoff, hrecs, hrs]

end

/-- A write that the register does not take changes nothing, whether it reaches the window or not. -/
theorem exec_registerWrite_discarded {addr : BitVec 24} {value : Word} {core : Bool} {sets : Word} {s : State}
    (h : s.ctlWrite addr.toNat value.toNat sets.toNat = s) : exec (.registerWrite addr value core sets) s = .next s := by
  show Host.Outcome.next _ = _
  rw [h, ite_self]

/-- Settles O12: the write of a geometry register is the plain write or none at all, as `State.geomWritable` says. -/
theorem geometryRegistersAreGuarded : Obligations.GeometryRegistersAreGuarded := by
  constructor
  · intro s v addr value core sets hact hguard
    refine exec_registerWrite_discarded ?_
    rw [State.ctlWrite_geom _ _ hact, State.geomWritable_guarded hguard, if_neg Bool.false_ne_true]
  · intro s v addr value core sets hact h4 hreach hoff hrecs hrs
    rw [exec_registerWrite h4 hreach, State.ctlWrite_geom _ _ hact, State.geomWritable_off hoff hrecs hrs, if_pos rfl]

end Sys2Proof.Machine

/-! PROOFS. Stripe writes, the timers of members, the parity engine and the patterns (O22). -/

namespace Sys2Proof.Machine

open Reg

section
variable {s : State}

/-! A stripe write that gathers its sources, alone (R251, R745). -/

theorem State.gatherOf_single {y : Gather} (hg : s.ar.gather = [y]) : s.gatherOf y.vol y.stripe = some y := by
  simp [State.gatherOf, hg]

theorem State.gatherAsk_nothing {y : Gather} (hn : s.gatherNeed y = []) : s.gatherAsk y = s := by
  unfold State.gatherAsk
  rw [hn]
  exact ite_self s

theorem State.gatherRun_complete {y : Gather} (hon : s.g AR_CTL_STATE = stOn) (hc : s.stripeComing y.vol y.stripe = false)
    (hn : s.gatherNeed y = [])
    (hd : ((s.geo y.vol).range y.stripe y.u0 y.u1).any (fun b => (s.jNewest (s.ownerOf y.vol) b (fun r => r.ready)).isSome) = true) :
    s.gatherRun y = (s.arU fun a => { a with
      gather := a.gather.filter fun x => !(x.vol == y.vol && x.stripe == y.stripe) }).stripeStart y.vol y.stripe y.u0 y.u1 y.got 5 :=
  (if_neg (by simp [hon, hc, hn])).trans (if_pos hd)

/-- The only gathering write, with nothing left to read, is the one that runs. -/
theorem State.gatherSweep_single {y : Gather} (hg : s.ar.gather = [y]) (hn : s.gatherNeed y = []) : s.gatherSweep = s.gatherRun y := by
  unfold State.gatherSweep
  simp only [hg, List.map_cons, List.map_nil, State.each, List.foldl_cons, List.foldl_nil, State.gatherOf_single hg,
    State.gatherAsk_nothing hn]

theorem State.stripeStart_stripes (slot stripe u0 u1 : Nat) (cur : Tbl Nat) (cause : Nat) :
    ∃ w ∈ (s.stripeStart slot stripe u0 u1 cur cause).ar.stripes, w.vol = slot ∧ w.stripe = stripe ∧ w.u0 = u0 ∧ w.u1 = u1 :=
  ⟨_, List.mem_append_right _ (List.mem_singleton.mpr rfl), rfl, rfl, rfl, rfl⟩

theorem mem_claims_added (l : List (Nat × Nat)) (c : Nat × Nat) : c ∈ if l.contains c then l else l ++ [c] := by
  split
  case isTrue h => exact List.contains_iff_mem.mp h
  case isFalse => exact List.mem_append_right _ (List.mem_singleton.mpr rfl)

theorem State.stripeStart_claims (slot stripe u0 u1 : Nat) (cur : Tbl Nat) (cause : Nat) :
    (slot, stripe) ∈ (s.stripeStart slot stripe u0 u1 cur cause).rb.claims := mem_claims_added _ _

end

/-! STRIPE_WRITE_START (R251, R252, R745). -/

/-- A stripe write begins to gather its sources, and claims its stripe. -/
def State.gatherBegin (x : State) (y : Gather) : State :=
  (x.arU fun a => { a with gather := a.gather ++ [y] }).rbU fun r => { r with claims := r.claims ++ [(y.vol, y.stripe)] }

section
variable {s : State} {slot : Fin 64} {stripe : BitVec 40} {u0 u1 : Fin 256} {ce : Nat} {lost : List (Nat × Bool)}

theorem exec_stripeWriteStart_begins :
    let x := s.jdRead ce lost
    let g := x.geo slot.val
    x.g AR_CTL_STATE = stOn → u0.val ≤ u1.val → u1.val < g.sz → 0 < g.k → stripe.toNat < g.rows * g.q →
    x.rb.claims.contains (slot.val, stripe.toNat) = false → x.stripeComing slot.val stripe.toNat = false →
    (g.range stripe.toNat u0.val u1.val).any (fun b => (x.jNewest (x.ownerOf slot.val) b (fun r => r.ready)).isSome) = true →
    exec (.stripeWriteStart slot stripe u0 u1 ce lost) s = .next
      (x.gatherBegin { vol := slot.val, stripe := stripe.toNat, u0 := u0.val, u1 := u1.val }).gatherSweep := by
  intro x g hon hu hsz hk hrow hfree hcoming hdata
  refine congrArg (fun t => Host.Outcome.next (State.gatherSweep t)) (if_pos ?_)
  simp only [Bool.and_eq_true, decide_eq_true_eq, Bool.not_eq_true']
  exact ⟨⟨⟨⟨⟨⟨⟨hon, hu⟩, hsz⟩, hk⟩, hrow⟩, hfree⟩, hcoming⟩, hdata⟩

/-- With no other write gathering and no block to read, the write it begins is the one that starts. -/
theorem State.gatherSweep_begun {x : State} {y : Gather} (hon : x.g AR_CTL_STATE = stOn)
    (hcoming : x.stripeComing y.vol y.stripe = false)
    (hdata : ((x.geo y.vol).range y.stripe y.u0 y.u1).any
      (fun b => (x.jNewest (x.ownerOf y.vol) b (fun r => r.ready)).isSome) = true)
    (hnone : x.ar.gather = []) (hneed : x.gatherNeed y = []) :
    ∃ t, (x.gatherBegin y).gatherSweep = State.stripeStart t y.vol y.stripe y.u0 y.u1 y.got 5 := by
  have hg : (x.gatherBegin y).ar.gather = [y] := congrArg (· ++ [y]) hnone
  exact ⟨_, (State.gatherSweep_single hg hneed).trans (State.gatherRun_complete hon hcoming hneed hdata)⟩

end

/-! STRIP_WRITE_DONE (R142, R253, R257). -/

section
variable {s : State} {jseq : BitVec 64} {member : Fin 96} {w : StripeWrite}

theorem exec_stripWriteDone_bad
    (hw : s.ar.stripes.find? (fun w => w.jseq == jseq.toNat && w.strips.any (fun x => x.member == member.val)) = some w)
    (hturn : s.stripTurn w member.val = true)
    (hbad : (w.strips.filter (fun x => x.member == member.val)).any (fun x => x.bad) = true) :
    let u := s.arU (fun a => { a with stripes := a.stripes.map (fun (x : StripeWrite) =>
      if x.jseq = w.jseq then { x with strips := x.strips.map (fun y => if y.member = member.val then { y with bad := false, done := [] } else y) }
      else x) })
    exec (.stripWriteDone jseq member) s = .next (State.each
      ((u.cm.table.filter (fun x => !x.2.fuaLeft.isEmpty && x.2.vol == u.ownerOf w.vol &&
        (match u.jRec w.jseq with
          | some r => x.2.fuaLeft.any r.writes
          | none => false))).map (·.1)) (fun id t => t.complete id 0x0103 0) u) := by
  refine congrArg Host.Outcome.next ?_
  extract_lets m
  rw [hw]
  exact (if_neg (by simp [m, hturn])).trans (if_pos hbad)

theorem exec_stripWriteDone_written
    (hw : s.ar.stripes.find? (fun w => w.jseq == jseq.toNat && w.strips.any (fun x => x.member == member.val)) = some w)
    (hturn : s.stripTurn w member.val = true)
    (hgood : (w.strips.filter (fun x => x.member == member.val)).any (fun x => x.bad) = false)
    (hall : (w.strips.filter (fun x => x.member == member.val)).all (fun x => x.blocks.all (fun b => x.done.contains b.1)) = true) :
    let mba := (s.geo w.vol).base + w.stripe / atLeast1 (s.geo w.vol).q * (s.geo w.vol).sz + w.u0
    let u := (s.slowEnd member.val mba).2.arU (fun a => { a with stripes := a.stripes.map (fun (x : StripeWrite) =>
      if x.jseq = w.jseq then { x with strips := x.strips.filter (fun y => y.member ≠ member.val) } else x) })
    exec (.stripWriteDone jseq member) s = .next (((u.stripeCheck.catchupDone member.val).settle).spillStep) := by
  refine congrArg Host.Outcome.next ?_
  extract_lets m
  rw [hw]
  exact (if_neg (by simp [m, hturn])).trans ((if_neg (ne_true_of_eq_false hgood)).trans (if_pos hall))

end

/-! UNAVAIL_TIMEOUT (R258). -/

theorem exec_unavailTimeout_armed {s : State} {member : Fin 96} (harmed : s.ar.armed.contains member.val = true)
    (hmem : s.mem member.val = memUnavailable ∨ s.mem member.val = memCatchup) (hheld : s.timersHeld = false) :
    exec (.unavailTimeout member) s = .next ((s.declareFailed member.val true).stripeCheck.careFrom s) :=
  congrArg Host.Outcome.next (if_pos (by simp only [harmed, hheld]; simpa using hmem))

/-! The parity engine (R272). -/

section
variable {s : State}

theorem State.peSubmit_taken (addr : Nat) (ctx : Option Nat) (cmd : Nat) (slice : Option (Nat × Nat))
    (hon : s.g AR_CTL_STATE = stOn) (hroom : s.ar.pe.length < 65) :
    (s.peSubmit addr ctx cmd slice).2 =
      ((s.arU fun a => { a with pe := a.pe ++ [{ desc := s.bRd addr 32, addr := addr, ctx := ctx, cmd := cmd, slice := slice }] }).p
        AR_PE_STAT_FREE (64 - s.ar.pe.length)).on AR_PE_STAT_BUSY := by
  unfold State.peSubmit
  rw [if_neg (by simp [hon, hroom])]
  simp

theorem State.peSubmit_discarded (addr : Nat) (ctx : Option Nat) (cmd : Nat) (slice : Option (Nat × Nat))
    (h : s.g AR_CTL_STATE ≠ stOn ∨ 65 ≤ s.ar.pe.length) : (s.peSubmit addr ctx cmd slice).2 = s.on AR_STAT_PE_OVF := by
  unfold State.peSubmit
  rw [if_pos (by simpa using h)]

/-- The submitted address is that of the pair with the HI register written. -/
theorem State.pair_subHi (hi : Word) :
    (s.wr AR_PE_SUB_HI hi).pair AR_PE_SUB_LO AR_PE_SUB_HI = (s.rd AR_PE_SUB_LO).toNat + 2 ^ 32 * hi.toNat := by
  unfold State.pair
  rw [State.rd_wr_same, State.rd_wr_other _ _ (by decide)]

theorem State.arOn_subHi (hi : Word) : (s.wr AR_PE_SUB_HI hi).g AR_CTL_STATE = s.g AR_CTL_STATE := by
  unfold State.g
  rw [State.rd_wr_other _ _ (by decide)]

theorem exec_parityJobSubmit_taken (hi : Word) (hon : s.g AR_CTL_STATE = stOn) (hroom : s.ar.pe.length < 65) :
    let a := ((s.rd AR_PE_SUB_LO).toNat + 2 ^ 32 * hi.toNat) / 32 * 32
    exec (.parityJobSubmit hi) s = .next ((((s.wr AR_PE_SUB_HI hi).arU fun x => { x with
      pe := x.pe ++ [{ desc := s.bRd a 32, addr := a, ctx := none, cmd := 0, slice := none }] }).p
        AR_PE_STAT_FREE (64 - s.ar.pe.length)).on AR_PE_STAT_BUSY) := by
  intro a
  refine congrArg Host.Outcome.next ((State.peSubmit_taken _ none 0 none ((State.arOn_subHi hi).trans hon) hroom).trans ?_)
  rw [State.pair_subHi]
  rfl

theorem exec_parityJobSubmit_discarded (hi : Word) (h : s.g AR_CTL_STATE ≠ stOn ∨ 65 ≤ s.ar.pe.length) :
    exec (.parityJobSubmit hi) s = .next ((s.wr AR_PE_SUB_HI hi).on AR_STAT_PE_OVF) :=
  congrArg Host.Outcome.next (State.peSubmit_discarded _ none 0 none (h.imp_left (State.arOn_subHi hi).trans_ne))

/-! Patterns (R273). -/

theorem State.patAccess_read_beyond (h : 24 ≤ s.g AR_PAT_ADDR_WORD) : s.patAccess none = { s with rdata := 0 } := if_pos h

theorem State.patAccess_write_beyond (v : Nat) (h : 24 ≤ s.g AR_PAT_ADDR_WORD) : s.patAccess (some v) = s := if_pos h

/-- What an access of a word does before the address advances. -/
def State.patMove (s : State) : Option Nat → State
  | none => { s with rdata := BitVec.ofNat 32 (s.patWord (s.g AR_PAT_ADDR_PATTERN) (s.g AR_PAT_ADDR_WORD)) }
  | some v => if s.patBusy (s.g AR_PAT_ADDR_PATTERN) then s else s.patPut (s.g AR_PAT_ADDR_PATTERN) (s.g AR_PAT_ADDR_WORD) v

theorem State.patAccess_within (write : Option Nat) (h : s.g AR_PAT_ADDR_WORD < 23) :
    s.patAccess write = (s.patMove write).p AR_PAT_ADDR_WORD (s.g AR_PAT_ADDR_WORD + 1) := by
  unfold State.patAccess
  extract_lets w
  rw [if_neg (by omega)]
  cases write <;> exact if_neg (by omega)

theorem State.patAccess_last (write : Option Nat) (h : s.g AR_PAT_ADDR_WORD = 23) :
    s.patAccess write = ((s.patMove write).off AR_PAT_ADDR_WORD).p AR_PAT_ADDR_PATTERN (s.g AR_PAT_ADDR_PATTERN + 1) := by
  unfold State.patAccess
  extract_lets w
  rw [if_neg (by omega)]
  cases write <;> exact if_pos h

/-- After word 23 the address is word 0 of the next pattern. -/
theorem State.g_nextPattern (n : Nat) :
    let t := (s.off AR_PAT_ADDR_WORD).p AR_PAT_ADDR_PATTERN n
    t.g AR_PAT_ADDR_WORD = 0 ∧ t.g AR_PAT_ADDR_PATTERN = n % 1024 := by
  refine ⟨?_, State.g_p_same _ _ _ (by decide)⟩
  rw [State.g_p_field (f := AR_PAT_ADDR_PATTERN) (r := AR_PAT_ADDR_WORD) _ _ rfl (by decide) (by decide), State.g_off_same _ (by decide)]

end

/-- Settles O22: each row is an equation above; a stripe write that begins alone with nothing to read is
`State.gatherSweep_begun`. -/
theorem arrayCommandsComplete : Obligations.ArrayCommandsComplete := by
  refine ⟨?begins, ?starts, fun _ _ _ _ hw hturn hgood hall => exec_stripWriteDone_written hw hturn hgood hall,
    fun _ _ _ _ hw hturn hbad => exec_stripWriteDone_bad hw hturn hbad,
    fun _ _ harmed hmem hheld => exec_unavailTimeout_armed harmed hmem hheld, ?submitted,
    fun _ hi h => exec_parityJobSubmit_discarded hi h, ?read, ?written, ?last, ?beyond⟩
  case begins =>
    intro s slot stripe u0 u1 ce lost x g hon hu hsz hk hrow hfree hcoming hdata
    exact exec_stripeWriteStart_begins hon hu hsz hk hrow hfree hcoming hdata
  case starts =>
    intro s slot stripe u0 u1 ce lost x g hon hu hsz hk hrow hfree hcoming hdata hnone hneed
    obtain ⟨t, ht⟩ := State.gatherSweep_begun (y := { vol := slot.val, stripe := stripe.toNat, u0 := u0.val, u1 := u1.val })
      hon hcoming hdata hnone hneed
    refine ⟨_, exec_stripeWriteStart_begins hon hu hsz hk hrow hfree hcoming hdata, ?_⟩
    rw [ht]
    exact ⟨State.stripeStart_stripes .., State.stripeStart_claims ..⟩
  case submitted =>
    intro s hi hon hroom a
    refine ⟨_, exec_parityJobSubmit_taken hi hon hroom, ?_, rfl, ?_, State.g_p_same _ _ _ (by decide)⟩
    · rw [State.on, State.rd_p_other _ _ (by decide), State.rd_p_other _ _ (by decide)]
      exact State.rd_wr_same ..
    · rw [State.on, State.g_p_field (f := AR_PE_STAT_BUSY) (r := AR_PE_STAT_FREE) _ _ rfl (by decide) (by decide),
        State.g_p_same _ _ _ (by decide)]
      exact Nat.mod_eq_of_lt (Nat.lt_of_le_of_lt (Nat.sub_le ..) (by decide))
  case read =>
    intro s h
    exact congrArg Host.Outcome.next (State.patAccess_within none h)
  case written =>
    intro s v h hfree
    refine congrArg Host.Outcome.next ((State.patAccess_within (some v.toNat) h).trans ?_)
    rw [State.patMove, if_neg (ne_true_of_eq_false hfree)]
  case last =>
    intro s h
    exact ⟨_, congrArg Host.Outcome.next (State.patAccess_last none h), State.g_nextPattern _⟩
  case beyond =>
    intro s v h
    exact ⟨congrArg Host.Outcome.next (State.patAccess_read_beyond h),
      congrArg Host.Outcome.next (State.patAccess_write_beyond v.toNat h)⟩

end Sys2Proof.Machine

/-! PROOFS. Slow members, rebuild passes, the reshape, and the ends of parity jobs (O41). -/

namespace Sys2Proof.Machine

open Reg

/-! Slow members (R319). -/

theorem exec_slowTimeout_running {s : State} {member : Fin 96} {mba : BitVec 40} :
    let mine := fun (t : SlowTimer) => t.member == member.val && t.mba == mba.toNat && !t.granted
    s.mem member.val = memAvailable → s.rb.slow.any mine = true → s.timersHeld = false →
    let u := s.rbU (fun r => { r with slow := r.slow.map (fun (t : SlowTimer) => if mine t then { t with granted := true } else t) })
    exec (.slowTimeout member mba) s = .next
      ((((u.declareFailed member.val false).sat RB_SLOW_CNT_COUNT 1).fault RB_STAT_SLOW_FAIL 12 0 0x0801 0).stripeCheck.careFrom s) := by
  intro mine hmem hany hheld
  refine congrArg Host.Outcome.next (if_pos ?_)
  simp only [Bool.and_eq_true, decide_eq_true_eq, Bool.not_eq_true']
  exact ⟨⟨hmem, hany⟩, hheld⟩

/-! Rebuild passes (R329–R336). -/

section
variable {s : State} {v : Fin 64}

/-- The guard of REBUILD_ROW_DONE passes where RB is ON, the volume's pass runs, and nothing claims a stripe of the row. -/
theorem rebuild_runs :
    let g := s.geo v.val
    let row := s.g (RB_CURSOR_ROW v.val)
    let free := !(upTo g.q).any (fun i => s.rb.claims.contains (v.val, row * g.q + i))
    let run := (s.g RB_CTL_STATE = stOn || s.g RB_CTL_STATE = stStopping) && s.rbActive v.val && s.volOn v.val
    s.g RB_CTL_STATE = stOn → s.rbActive v.val = true → s.volOn v.val = true →
    (upTo g.q).any (fun i => s.rb.claims.contains (v.val, row * g.q + i)) = false → ¬ (!run || !free) = true := by
  intro g row free run hrb hact hvol hfree
  have hrun : run = true := by simp [run, hrb, hact, hvol]
  have hfree : free = true := congrArg (!·) hfree
  rw [hrun, hfree]
  exact Bool.false_ne_true

theorem exec_rebuildRowDone_row (lost : List (Nat × Nat × Nat)) (cur : List (Nat × Block)) :
    let n := v.val
    let g := s.geo n
    let row := s.g (RB_CURSOR_ROW n)
    s.g RB_CTL_STATE = stOn → s.rbActive n = true → s.volOn n = true →
    (upTo g.q).any (fun i => s.rb.claims.contains (n, row * g.q + i)) = false → row < g.rows →
    let a := State.each (upTo g.q) (fun i t => t.rowStripe n (row * g.q + i)
      ((lost.filter (fun x => x.1 == row * g.q + i)).map (·.2)) (cur.map (fun x => (x.1, x.2.toNat)))) s
    let b := (a.p RB_STRIP_CNT_COUNT (a.g RB_STRIP_CNT_COUNT + a.rowStrips n row)).p (RB_CURSOR_ROW n) (row + 1)
    let k := b.rb.since.getD n 0 + 1
    let c := if k ≥ 64 then (b.rbU (fun r => { r with since := r.since.putD n 0 0 })).ckPut n (fun c => { c with cursor := row + 1 })
      else b.rbU (fun r => { r with since := r.since.putD n 0 k })
    exec (.rebuildRowDone v lost cur none) s = .next (if row + 1 ≥ g.rows then c.passEnd n else c) := by
  intro n g row hrb hact hvol hfree hrow
  exact congrArg Host.Outcome.next ((if_neg (rebuild_runs hrb hact hvol hfree)).trans (if_neg (Nat.not_le.mpr hrow)))

theorem exec_rebuildRowDone_badSpare (m : Fin 96) :
    let g := s.geo v.val
    let row := s.g (RB_CURSOR_ROW v.val)
    s.g RB_CTL_STATE = stOn → s.rbActive v.val = true → s.volOn v.val = true →
    (upTo g.q).any (fun i => s.rb.claims.contains (v.val, row * g.q + i)) = false →
    (s.spares v.val g row).any (fun x => x.2.1 == m.val) = true →
    exec (.rebuildRowDone v [] [] (some m)) s = .next (s.rbDeclare m.val) := by
  intro g row hrb hact hvol hfree hspare
  exact congrArg Host.Outcome.next ((if_neg (rebuild_runs hrb hact hvol hfree)).trans (if_pos hspare))

end

/-! The reshape (R348–R352). -/

theorem exec_reshapeStripeMoved_next {s : State} {stripe : BitVec 40} {cur : List (Nat × Block)} :
    let v := s.g RB_RS_STAT_VOL
    let w := s.g RB_RS_STAT_SHADOW
    let g := s.geo w
    let n := stripe.toNat
    let bs := (upTo (g.k * g.sz)).map (fun i => n * (g.k * g.sz) + i)
    s.g RB_CTL_STATE = stOn → s.g RB_RS_STAT_STATE = rsRun → n = s.rsNext → n < s.rsCount → s.rb.moved.length < 64 →
    s.jn.recs.any (fun r => r.typ == tData && !r.retired && bs.any (fun b => r.holds v b)) = false →
    s.rb.claims.contains (w, n) = false →
    let given := bs.filterMap (fun b => if b ≥ s.volCap v || s.ftHas v b then some (b, 0)
      else (cur.find? (fun x => x.1 == b)).map (fun x => (b, x.2.toNat)))
    let u := (s.stripeStart w n 0 (g.sz - 1) given 4).rbU (fun r => { r with
      moved := if r.moved.contains n then r.moved else r.moved ++ [n], dirty := r.dirty.filter (· ≠ n) })
    exec (.reshapeStripeMoved stripe cur) s = .next (u.p RB_RS_STAT_WINDOW u.rb.moved.length) := by
  intro v w g n bs hrb hrun hnext hcount hroom huntouched hfree
  refine congrArg Host.Outcome.next (if_pos ?_)
  simp only [Bool.and_eq_true, Bool.or_eq_true, decide_eq_true_eq, Bool.not_eq_true']
  exact ⟨⟨⟨⟨.inl hrb, hrun⟩, .inl ⟨⟨hnext, hcount⟩, hroom⟩⟩, huntouched⟩, hfree⟩

theorem exec_reshapeCheckpoint_full {s : State} :
    let w := s.g RB_RS_STAT_SHADOW
    s.g RB_RS_STAT_STATE = rsRun → s.g RB_CTL_STATE = stOn → (s.rb.moved.length = 64 ∨ s.rsCount ≤ s.rsNext) →
    (s.ar.stripes.any (fun x => x.vol == w && !s.stripeHeld x) || s.jn.waiting.any (fun r => r.typ == tStripe && r.vol == w)) = false →
    exec .reshapeCheckpoint s = .next (if s.rb.dirty.isEmpty then s.rsCheckpoint
      else if s.g RB_RS_STAT_ROUND ≥ 4 then (s.p RB_RS_STAT_ROUND (min 4 (s.g RB_RS_STAT_ROUND + 1))).rbU (fun x => { x with winHold := true })
      else s.p RB_RS_STAT_ROUND (min 4 (s.g RB_RS_STAT_ROUND + 1))) := by
  intro w hrun hrb hfull hwritten
  refine congrArg Host.Outcome.next (if_pos ?_)
  simp only [Bool.and_eq_true, Bool.or_eq_true, decide_eq_true_eq, Bool.not_eq_true']
  exact ⟨⟨⟨hrun, .inl hrb⟩, hfull⟩, hwritten⟩

/-! PARITY_JOB_DONE (R264). -/

theorem exec_parityJobDone_recon {s : State} {i : Fin 65536} {r : Recon} (h : s.cm.recons[i.val]? = some r) :
    exec (.parityJobDone (some i)) s = .next ((s.reconDone r).chanSweep) := by
  refine congrArg Host.Outcome.next ?_
  dsimp only
  rw [h]

/-- Settles O41: the rows without a condition are their definitions. -/
theorem rebuildWorkCommandsComplete : Obligations.RebuildWorkCommandsComplete :=
  ⟨fun _ _ _ hmem hany hheld => exec_slowTimeout_running hmem hany hheld,
    fun _ _ lost cur hrb hact hvol hfree hrow => exec_rebuildRowDone_row lost cur hrb hact hvol hfree hrow,
    fun _ _ m hrb hact hvol hfree hspare => exec_rebuildRowDone_badSpare m hrb hact hvol hfree hspare,
    fun _ _ _ hrb hrun hnext hcount hroom huntouched hfree =>
      exec_reshapeStripeMoved_next hrb hrun hnext hcount hroom huntouched hfree,
    fun _ hrun hrb hfull hwritten => exec_reshapeCheckpoint_full hrun hrb hfull hwritten,
    fun _ => rfl, fun _ => rfl, fun _ _ _ h => exec_parityJobDone_recon h, fun _ => rfl⟩

end Sys2Proof.Machine

/-! PROOFS. Commits, the JD dies, JN_CMD, spills and replay (O23). -/

namespace Sys2Proof.Machine

open Reg

/-! COMMIT_START (R281, R283, R287). -/

section
variable {s : State}

@[simp] theorem State.cmdUp_jn (id : Nat) (f : Cmd → Cmd) : (s.cmdUp id f).jn = s.jn := by
  unfold State.cmdUp
  split <;> rfl

@[simp] theorem State.cmdUp_regs (id : Nat) (f : Cmd → Cmd) : (s.cmdUp id f).regs = s.regs := by
  unfold State.cmdUp
  split <;> rfl

/-- The command of a committing record is past its point of no return, and so is the one its library service works for. -/
def State.commitPnr (s : State) (c : JRec) : State :=
  match c.cmd with
  | some id =>
    let u := s.cmdUp id fun x => { x with pnr := true }
    match (u.cmd id).lib with
    | some (n, _) => u.cmdUp (u.mc.ctx.getD n {}).cmd fun x => { x with pnr := true }
    | none => u
  | none => s

theorem State.commitPnr_jn (c : JRec) : (s.commitPnr c).jn = s.jn := by
  unfold State.commitPnr
  split
  · dsimp only
    split <;> simp only [State.cmdUp_jn]
  · rfl

theorem State.commitPnr_regs (c : JRec) : (s.commitPnr c).regs = s.regs := by
  unfold State.commitPnr
  split
  · dsimp only
    split <;> simp only [State.cmdUp_regs]
  · rfl

/-- The stripe write of a committing STRIPE record learns its JSEQ. -/
def State.commitStripe (s : State) (c : JRec) : State :=
  if c.typ = tStripe then s.arU fun a => { a with stripes := a.stripes.map fun (w : StripeWrite) =>
    if w.wseq = c.wseq && w.jseq = 0 then { w with jseq := c.jseq } else w } else s

theorem State.commitStripe_jn (c : JRec) : (s.commitStripe c).jn = s.jn := by
  unfold State.commitStripe
  split <;> rfl

theorem State.commitStripe_regs (c : JRec) : (s.commitStripe c).regs = s.regs := by
  unfold State.commitStripe
  split <;> rfl

/-- A record takes the next JSEQ and the granules at the head. -/
def State.commitTake (s : State) (c : JRec) (rest : List JRec) : State :=
  s.jnU fun j => { j with waiting := rest, commit := some c, nextJ := j.nextJ + 1, head := j.head + c.len }

variable {r : JRec} {rest : List JRec} (hmay : s.mayCommit = true) (hwait : s.jn.waiting = r :: rest)
  (hend : s.jn.head % ringLen + r.len ≤ ringLen) (hroom : r.len ≤ ringLen - s.ringHeldBack) (hed : s.edRoom r.parts = true)
include hmay hwait hend hroom hed

theorem State.commitStart_fits :
    let c : JRec := { r with jseq := s.jn.nextJ, gran := s.jn.head }
    s.commitStart = ((s.commitTake c rest).commitPnr c).commitStripe c := by
  intro c
  unfold State.commitStart
  rw [if_neg (by simp [hmay]), hwait]
  dsimp only
  rw [if_neg (Nat.not_lt.mpr hend), if_neg (by omega), if_neg (by simp [hed]), if_neg (Nat.lt_irrefl 0)]
  rfl

/-- Of the journal and the registers, a commit changes what its record takes. -/
theorem State.commitStart_takes :
    let u := s.commitTake { r with jseq := s.jn.nextJ, gran := s.jn.head } rest
    s.commitStart.jn = u.jn ∧ s.commitStart.regs = s.regs := by
  rw [State.commitStart_fits hmay hwait hend hroom hed]
  exact ⟨(State.commitStripe_jn _).trans (State.commitPnr_jn _), (State.commitStripe_regs _).trans (State.commitPnr_regs _)⟩

end

/-! The JD dies (R274, R294–R297). -/

section
variable {s : State}

theorem exec_commitDurable_acked {c : JRec} (hc : s.jn.commit = some c) (hdie : s.anyDie = true) :
    exec (.commitDurable 0) s = .next (((s.durable c).settle).spillStep) := by
  change execCommitDurable 0 s = _
  simp [execCommitDurable, State.when, hc, hdie]

theorem exec_jdAccessTimeout_serving {d : Fin 2} (h : s.die d.val = true) :
    exec (.jdAccessTimeout d) s = .next ((((s.jnU fun j =>
      if d.val = 0 then { j with dieLate0 := true } else { j with dieLate1 := true }).dieFail d.val).resyncStop).replayLost) :=
  congrArg Host.Outcome.next (if_pos h)

theorem exec_jdDieFault_serving {d : Fin 2} (h : s.die d.val = true) :
    exec (.jdDieFault d) s = .next (((s.dieFail d.val).resyncStop).replayLost) :=
  congrArg Host.Outcome.next (if_pos h)

theorem exec_superblockWrite_running (h : s.g JN_CTL_STATE = stOn ∨ s.g JN_CTL_STATE = stStopping) :
    exec .superblockWrite s = .next s.sbWrite :=
  congrArg Host.Outcome.next (if_pos (by simpa using h))

theorem exec_jnResync : exec .jnResync s = .next (
    if s.g JN_CTL_STATE ≠ stOn then s.p JN_CMD_ERR 2
    else if s.die 0 = false ∧ s.die 1 = false then s.p JN_CMD_ERR 3
    else if s.die 0 = true ∧ s.die 1 = true then s.p JN_CMD_ERR 4
    else ((s.p JN_CMD_ERR 0).p JN_MIRROR_RESYNC 1).p JN_MIRROR_PCT 0) := by
  refine congrArg Host.Outcome.next (if_congr Iff.rfl rfl (if_congr ?_ rfl (if_congr ?_ rfl rfl)))
  · simp [State.anyDie]
  · simp [State.bothDies]

/-- JN_MIRROR shows a mirror whose two dies are in service. -/
def State.mirrored (s : State) : State :=
  (((s.on JN_MIRROR_D0_OK).on JN_MIRROR_D1_OK).off JN_MIRROR_RESYNC).p JN_MIRROR_PCT 100

theorem State.mirrored_fields : s.mirrored.g JN_MIRROR_D0_OK = 1 ∧ s.mirrored.g JN_MIRROR_D1_OK = 1 ∧
    s.mirrored.g JN_MIRROR_RESYNC = 0 ∧ s.mirrored.g JN_MIRROR_PCT = 100 := by
  unfold State.mirrored State.on State.off
  refine ⟨?_, ?_, ?_, State.g_p_same _ _ _ (by decide)⟩ <;>
    simp (disch := decide) only [State.g_p_field, State.g_p_same] <;> rfl

theorem State.mirrored_dies : s.mirrored.die 0 = true ∧ s.mirrored.die 1 = true := by
  obtain ⟨h0, h1, -, -⟩ := s.mirrored_fields
  exact ⟨decide_eq_true (h0.trans_ne Nat.one_ne_zero), decide_eq_true (h1.trans_ne Nat.one_ne_zero)⟩

theorem State.die_jnU (f : JnState → JnState) (d : Nat) : (s.jnU f).die d = s.die d := rfl

theorem exec_jnResyncDone_copied (h : s.is JN_MIRROR_RESYNC = true) :
    let good := if s.die 0 then s.jn.jd0 else s.jn.jd1
    exec .jnResyncDone s = .next (s.mirrored.jnU fun j => { j with jd0 := good, jd1 := good }) :=
  congrArg Host.Outcome.next (if_pos h)

end

/-! JN_FORMAT (R313, R316). -/

section
variable {s : State}

theorem exec_jnFormat_notMaint (h : s.mode ≠ mMaint) : exec .jnFormat s = .next (s.p JN_CMD_ERR 1) :=
  congrArg Host.Outcome.next (if_pos h)

theorem exec_jnFormat_notOff (hm : s.mode = mMaint) (h : s.g JN_CTL_STATE ≠ stOff) :
    exec .jnFormat s = .next (s.p JN_CMD_ERR 2) :=
  congrArg Host.Outcome.next ((if_neg (not_not_intro hm)).trans (if_pos h))

/-- The largest GEN of the four superblocks. -/
def State.lastGen (s : State) : Nat := ([s.jn.jd0.sbA, s.jn.jd0.sbB, s.jn.jd1.sbA, s.jn.jd1.sbB].map (·.gen)).foldl max 0

/-- A die of a formatted journal: no record, and two superblocks that name the head. -/
def State.blankDie (s : State) : DieLog :=
  let sb (n : Nat) : Superblock := { gen := n, tailJ := s.jn.nextJ, tailGran := s.jn.head, valid := true }
  { sbA := sb (s.lastGen + 1), sbB := sb (s.lastGen + 2) }

theorem exec_jnFormat_emptied (hm : s.mode = mMaint) (h : s.g JN_CTL_STATE = stOff) :
    let u := ((s.off JN_CMD_ERR).jnU fun j => { j with
      recs := [], waiting := [], commit := none, freeFrom := j.head, jd0 := s.blankDie, jd1 := s.blankDie,
      idx := [], logAt := [], spilling := false, spillJob := none, spillDone := [], redo := [], retiring := [] }).arU
        fun a => { a with stripes := [], gather := [] }
    exec .jnFormat s = .next ((u.edSet (s.bm.ed.filter fun x => decide (x.2.kind = 1))).copyLost) :=
  congrArg Host.Outcome.next ((if_neg (not_not_intro hm)).trans (if_neg (not_not_intro h)))

end

/-! SPILL_INDEX_WRITE (R301, R302). -/

section
variable {s : State}

theorem exec_spillIndexWrite_verified {j pair : Nat} {r : JRec} (hjob : s.jn.spillJob = some (j, pair)) (hpair : pair ≠ 8)
    (hrec : s.jRec j = some r) (hlive : r.retired = false) (hdone : s.copiesDone r = true) :
    let v := (s.spillSet none).jnU (fun x => { x with idx := x.idx.filter (fun e => e.2.jseq ≠ j) })
    let i := idxGap v.jn.idx 0
    let r' := { r with spill := some i }
    let len := atLeast1 (v.extLen (2 * pair))
    let ofs := v.jn.logAt.getD pair 0 % len
    let u := (v.recUp (fun x => x.jseq == j) (fun _ => r')).jnU (fun x => { x with
      idx := x.idx.ins i { jseq := j, ofs := ofs, blks := r.spillBlks, pair := pair },
      logAt := x.logAt.ins pair ((ofs + r.spillBlks) % len) })
    exec .spillIndexWrite s = .next ((u.dirFollow r').copyLost.spillStep) := by
  refine congrArg Host.Outcome.next ?_
  rw [hjob]
  dsimp only
  rw [hrec]
  exact (if_neg (by simp [hlive])).trans ((if_neg hpair).trans (if_neg (by simp [hdone])))

end

/-! JN_REPLAY (R311, R747). -/

/-- JN starts with the dies found in service shown, and the absent ones failed. -/
def State.diesFound (s : State) (dies : BitVec 2) : State :=
  let u := ((s.p JN_REPLAY_PHASE 1).p JN_MIRROR_D0_OK (b2n (dies.getLsbD 0))).p JN_MIRROR_D1_OK (b2n (dies.getLsbD 1))
  let v := if dies.getLsbD 0 then u else u.dieFail 0
  if dies.getLsbD 1 then v else v.dieFail 1

section
variable {s : State}

theorem State.diesFound_none : s.diesFound 0 =
    ((((s.p JN_REPLAY_PHASE 1).p JN_MIRROR_D0_OK 0).p JN_MIRROR_D1_OK 0).dieFail 0).dieFail 1 := by
  simp [State.diesFound, b2n]

theorem State.when_not (b : Bool) (f : State → State) : s.when (!b) f = if b then s else f s := by
  cases b <;> rfl

theorem exec_jnReplay_starting (dies : BitVec 2) (sb : Bool) (ce : Nat) (lost : List (Nat × Bool))
    (h : s.g JN_CTL_STATE = stStarting) : exec (.jnReplay dies sb ce lost) s = .next (
      let w := s.diesFound dies
      if dies = 0 then w.off JN_CTL_STATE
      else if !sb || w.superblock.isNone then (w.off JN_CTL_STATE).fault JN_STAT_SB_BAD 10 9 0x0709 0
      else ((w.replay ce lost).spillCheck).stripesAgain) := by
  refine congrArg Host.Outcome.next ((if_neg (not_not_intro h)).trans ?_)
  simp only [State.when_not]
  rfl

end

/-- Settles O23: each row is an equation above, but for what a commit and the end of a resynchronisation leave. -/
theorem journalCommandsComplete : Obligations.JournalCommandsComplete := by
  refine ⟨?commit, fun _ _ hc hdie => exec_commitDurable_acked hc hdie, fun _ h => exec_jdAccessTimeout_serving (d := 0) h,
    fun _ h => exec_jdAccessTimeout_serving (d := 1) h, fun _ _ h => exec_jdDieFault_serving h,
    fun _ h => exec_superblockWrite_running h, fun _ => exec_jnResync, ?mirrored,
    fun _ hm h => exec_jnFormat_emptied hm h, fun _ h => exec_jnFormat_notMaint h, fun _ hm h => exec_jnFormat_notOff hm h,
    fun _ _ _ _ hjob hpair hrec hlive hdone => exec_spillIndexWrite_verified hjob hpair hrec hlive hdone, ?replayed, ?noDie⟩
  case commit =>
    intro s r rest hmay hwait hend hroom hed
    obtain ⟨hjn, hregs⟩ := State.commitStart_takes hmay hwait hend hroom hed
    refine ⟨s.commitStart, rfl, ?_⟩
    beta_reduce
    rw [hjn, hregs]
    exact ⟨rfl, rfl, rfl, rfl, rfl, rfl⟩
  case mirrored =>
    intro s h
    obtain ⟨-, -, hresync, hpct⟩ := s.mirrored_fields
    obtain ⟨h0, h1⟩ := s.mirrored_dies
    exact ⟨_, exec_jnResyncDone_copied h, (State.die_jnU ..).trans h0, (State.die_jnU ..).trans h1,
      (State.jnU_g ..).trans hresync, (State.jnU_g ..).trans hpct, rfl⟩
  case replayed =>
    intro s dies ce lost h hdies u v w hsb
    have hsb : (s.diesFound dies).superblock.isNone = false := Option.isNone_eq_false_iff.mpr hsb
    exact (exec_jnReplay_starting dies true ce lost h).trans
      (congrArg Host.Outcome.next ((if_neg hdies).trans (if_neg (ne_true_of_eq_false hsb))))
  case noDie =>
    intro s sb ce lost h
    rw [exec_jnReplay_starting 0 sb ce lost h, State.diesFound_none]
    exact congrArg Host.Outcome.next (if_pos rfl)

end Sys2Proof.Machine

/-! PROOFS. Power-on, RESET_N, the device reset and the end of a power-down (O43). -/

namespace Sys2Proof.Machine

open Reg

section
variable {s : State}

/-! POWER_ON (R604, R609). -/

theorem State.dark_resetLow (motion : Bool) : (s.dark motion).ft.resetLow = s.ft.resetLow := by
  unfold State.dark State.feedShow
  dsimp only
  rw [State.p_ft, State.p_ft, State.when_keeps (fun t => t.ft) fun u => State.wr_ft u _ _]
  rfl

theorem State.free_ft : s.free.2.ft = s.ft := rfl

/-- A power-on leaves RESET_N as the board drives it. -/
theorem State.poweredUp_resetLow (feedA feedB chainA : Bool) : (s.poweredUp feedA feedB chainA).ft.resetLow = s.ft.resetLow := by
  unfold State.poweredUp
  dsimp only
  rw [State.dmU_ft, State.btU_ft, State.lkU_ft, State.free_ft, State.sat, State.p_ft, State.dark_resetLow, State.pwU_ft]

theorem exec_powerOn_powers {feedA feedB chainA chainB : Bool} (hm : s.mode = mOff) (hp : s.pw.powered = false)
    (hf : (feedA || feedB) = true) (hc : (chainA || chainB) = true) :
    let u := s.poweredUp feedA feedB chainA
    exec (.powerOn feedA feedB chainA chainB) s = .next (if s.ft.resetLow then u else u.boot) := by
  intro u
  rw [← State.poweredUp_resetLow feedA feedB chainA]
  refine (exec_powerOn ..).trans (congrArg Host.Outcome.next ?_)
  exact (if_neg (by simp [hm, hp, hf])).trans (if_neg (ne_true_of_eq_false (congrArg (!·) hc)))

theorem exec_powerOn_holds {feedA feedB : Bool} (hm : s.mode = mOff) (hp : s.pw.powered = false)
    (hf : (feedA || feedB) = true) :
    exec (.powerOn feedA feedB false false) s = .next (s.ftU fun f => { f with pmHold := true }) := by
  refine (exec_powerOn ..).trans (congrArg Host.Outcome.next ?_)
  exact (if_neg (by simp [hm, hp, hf])).trans (if_pos rfl)

/-! RESET_PIN (R736). -/

theorem exec_resetPin_low_unpowered (h : s.pw.powered = false) :
    exec (.resetPin true) s = .next (s.ftU fun f => { f with resetLow := true }) :=
  congrArg Host.Outcome.next (if_neg (ne_true_of_eq_false h))

theorem exec_resetPin_released (hp : s.pw.powered = true) (hlow : s.ft.resetLow = true) :
    exec (.resetPin false) s = .next (s.ftU fun f => { f with resetLow := false }).boot :=
  congrArg Host.Outcome.next ((if_pos hlow).trans (if_pos hp))

/-! POWER_DOWN_COMPLETE (R307, R607). -/

/-- The superblock and the event records are written, an orderly end is noted, and the core supply is removed. -/
def State.poweredDown (s : State) : State :=
  (s.sbWrite.flushEvents.pwU fun p => { p with orderly := true, powered := false }).dark true

theorem exec_powerDownComplete_committing {c : JRec} (hf : s.pw.powerFail = true) (hon : s.g JN_CTL_STATE = stOn)
    (hdie : s.anyDie = true) (hc : s.jn.commit = some c) : exec .powerDownComplete s = .next (s.durable c).poweredDown := by
  change execPowerDownComplete s = _
  simp [execPowerDownComplete, State.poweredDown, State.when, hf, hon, hdie, hc]

theorem exec_powerDownComplete_idle (hf : s.pw.powerFail = true) (hon : s.g JN_CTL_STATE = stOn) (hc : s.jn.commit = none) :
    exec .powerDownComplete s = .next s.poweredDown := by
  change execPowerDownComplete s = _
  simp [execPowerDownComplete, State.poweredDown, State.when, hf, hon, hc]

end

/-- Settles O43: each row is an equation above, or one of the device reset's (O15). -/
theorem packageCommandsComplete : Obligations.PackageCommandsComplete :=
  ⟨fun _ _ _ _ _ hm hp hf hc => exec_powerOn_powers hm hp hf hc, fun _ _ _ hm hp hf => exec_powerOn_holds hm hp hf,
    fun _ h => exec_resetPin_low h, fun _ h => exec_resetPin_low_unpowered h, fun _ hp hlow => exec_resetPin_released hp hlow,
    fun _ hof hpulse hq => exec_deviceReset hof hpulse (by simpa using hq),
    fun _ _ hf hon hdie hc => exec_powerDownComplete_committing hf hon hdie hc,
    fun _ hf hon hc => exec_powerDownComplete_idle hf hon hc⟩

end Sys2Proof.Machine

/-! PROOFS. The operations of RB_CMD (O40). -/

namespace Sys2Proof.Machine

open Reg

section
variable {s : State} {m v w : Nat}

/-! FAIL and CLEAR (R321, R322). -/

theorem State.rbFail_accepted (hm : m < 96) (hthere : s.mem m ≠ memAbsent) (hgood : s.mem m ≠ memFailed)
    (hsafe : s.wouldBreak m = false) : s.rbFail m = (0, s.rbDeclare m) :=
  (if_neg (by simp [hm, hthere, hgood])).trans (if_neg (ne_true_of_eq_false hsafe))

/-- The member that CLEAR takes is UNAVAILABLE and the last in the order. -/
def State.memberCleared (s : State) (m : Nat) : State :=
  (((s.setMem m memUnavailable).arU fun a => { a with
    order := a.order.filter (· ≠ m) ++ [m], granted := a.granted.filter (· ≠ m) }).note
      AR_STAT_MEMBER_UNAVAIL 0x0601 11 (pk [(m, 7)])).devWrite

theorem State.rbClear_accepted (hmode : s.mode = mMaint) (hm : m < 96) (hfailed : s.mem m = memFailed)
    (hlisted : s.rb.ck.any (fun x => (upTo 4).any fun i => bitsOf x.2.fail (8 * i) 7 == m) = false)
    (hused : (upTo 64).any (fun v => s.g (AR_VOL_CTL_STATE v) ≠ stOff && (s.geo v).set.contains m) = false) :
    let w := s.memberCleared m
    s.rbClear m = (0, if (w.ar.causes.getD m 0 = 0 && !w.heldFor m) = true then w.memberIn m
      else (if w.ar.causes.getD m 0 = 0 then w.setMem m memCatchup else w).spillCheck) := by
  refine (if_neg (not_not_intro hmode)).trans (if_neg ?_)
  rw [hlisted, hused]
  simp [hm, hfailed]

/-! RESHAPE, PAUSE and RESUME (R346, R352). -/

/-- A volume of this geometry has a member with the shadow slot `w`, and strips where the shadow's lie. -/
def State.meetsShadow (s : State) (w : Nat) (x : Geo) : Bool :=
  x.set.any (fun m => (s.geo w).set.contains m) && decide ((s.geo w).base < x.base + x.rows * x.sz) &&
    decide (x.base < (s.geo w).base + (s.geo w).rows * (s.geo w).sz)

/-- RB_RS_STAT shows a running reshape of `v` to `w` at mark 0, its window empty. -/
def State.reshapeShown (s : State) (v w : Nat) : State :=
  (((((s.p RB_RS_STAT_VOL v).p RB_RS_STAT_SHADOW w).p RB_RS_STAT_STATE rsRun).setMark 0).off RB_RS_STAT_WINDOW).off
    RB_RS_STAT_ROUND

/-- The reshape of `v` to `w` runs, and `v` has its record. -/
def State.reshapeBegun (s : State) (v w : Nat) : State :=
  let x := (s.reshapeShown v w).rbU fun r => { r with moved := [], dirty := [], winHold := false, pausing := false }
  x.ckPut v fun c => { c with
    reshape := true, paused := false, shadow := w, geomCrc := x.geomCrc v, newCrc := x.geomCrc w, mark := 0 }

theorem State.rbReshape_accepted (hrb : s.rbOn = true)
    (hslots : v < 64 ∧ w < 64 ∧ s.volOn v = true ∧ s.g (AR_VOL_CTL_STATE w) = stOff)
    (hidle : s.anyPass = false ∧ s.g RB_RS_STAT_STATE = rsNone) (hcheck : s.volCheck w true = 0)
    (hapart : (upTo 64).any (fun x => x ≠ w && s.g (AR_VOL_CTL_STATE x) ≠ stOff && s.meetsShadow w (s.geo x)) = false)
    (hself : s.meetsShadow w (s.geo v) = false) (hcap : (s.geo v).cap ≤ (s.geo w).cap)
    (hgood : (s.geo w).set.any (fun m => s.mem m == memFailed) = false) :
    s.rbReshape v w = (0, s.reshapeBegun v w) := by
  obtain ⟨hv, hw, hvol, hoff⟩ := hslots
  obtain ⟨hpass, hnone⟩ := hidle
  have hfits : ¬ (decide (s.volCheck w true ≠ 0) ||
      (upTo 64).any (fun x => x ≠ w && s.g (AR_VOL_CTL_STATE x) ≠ stOff && s.meetsShadow w (s.geo x)) ||
      s.meetsShadow w (s.geo v) || decide ((s.geo w).cap < (s.geo v).cap) ||
      (s.geo w).set.any (fun m => s.mem m == memFailed)) = true := by
    rw [hapart, hself, hgood]
    simp [hcheck, hcap]
  unfold State.rbReshape
  rw [if_neg (by simp [hrb]), if_neg (by simp [hv, hw, hvol, hoff]), if_neg (by simp [hpass, hnone])]
  exact if_neg hfits

theorem State.rbPause_running (hrb : s.rbOn = true) (h : s.g RB_RS_STAT_STATE = rsRun) :
    s.rbPause = (0, s.rbU fun r => { r with pausing := true }) :=
  (if_neg (by simp [hrb])).trans (if_neg (not_not_intro h))

theorem State.rbResume_paused (hrb : s.rbOn = true) (h : s.g RB_RS_STAT_STATE = rsPaused) :
    s.rbResume = (0, (s.p RB_RS_STAT_STATE rsRun).ckPut (s.g RB_RS_STAT_VOL) fun c => { c with paused := false }) :=
  (if_neg (by simp [hrb])).trans (if_pos h)

/-! FT_CLEAR and FORGET (R345, R355). -/

theorem State.rbFtClear_accepted (hmode : s.mode = mMaint) (hv : v < 64) :
    let w := s.rbU fun r => { r with ft := r.ft.filter fun x => x.2.vol ≠ v }
    let b := volBit RB_FROZEN_LO_VOLS RB_FROZEN_HI_VOLS v
    s.rbFtClear v = (0, if w.frozen v then (w.offBit b.1 b.2).ckPut v fun c => { c with frozen := false } else w) :=
  (if_neg (not_not_intro hmode)).trans (if_neg (Nat.not_le.mpr hv))

theorem State.rbForget_accepted (hv : v < 64) (hoff : s.g (AR_VOL_CTL_STATE v) = stOff) :
    s.rbForget v = (0, s.rbU fun r => { r with ck := r.ck.drop v }) :=
  if_neg (by simp [hv, hoff])

end

/-- An operation of RB_CMD leaves the state its answer shows. -/
theorem next_rbShow {a b : Nat × State} (h : a = b) :
    (Host.Outcome.next (State.rbShow a) : Host.Outcome State Fault Refusal) = .next (b.2.p RB_CMD_ERR b.1) :=
  h ▸ rfl

/-- Settles O40: each row is an equation above, and its answer is shown. -/
theorem rebuildOperationsComplete : Obligations.RebuildOperationsComplete :=
  ⟨fun _ _ hm hthere hgood hsafe => next_rbShow (State.rbFail_accepted hm hthere hgood hsafe),
    fun _ _ hmode hm hfailed hlisted hused => next_rbShow (State.rbClear_accepted hmode hm hfailed hlisted hused),
    fun _ _ shadow hrb hv hvol hoff hpass hnone hcheck hapart hself hcap hgood => next_rbShow
      (State.rbReshape_accepted hrb ⟨hv, shadow.isLt, hvol, hoff⟩ ⟨hpass, hnone⟩ hcheck hapart hself hcap hgood),
    fun _ hrb h => next_rbShow (State.rbPause_running hrb h), fun _ hrb h => next_rbShow (State.rbResume_paused hrb h),
    fun _ _ hmode hv => next_rbShow (State.rbFtClear_accepted hmode hv),
    fun _ _ hv hoff => next_rbShow (State.rbForget_accepted hv hoff)⟩

end Sys2Proof.Machine

/-! PROOFS. The command side's scheduler, deadlines, reset, shut-down and activation, and the DMA rows that end commands
(O47). -/

namespace Sys2Proof.Machine

open Reg

section
variable {s : State}

/-! ACTUATOR_SCHEDULE (R337, R338, R462). -/

section
variable {a : Fin 8} (est : List (Nat × Nat × Nat))

theorem exec_actuatorSchedule_background (t : Nat) (hwork : s.bgWork a.val false = true)
    (hshare : s.rb.usedN.getD a.val 0 < 1000 * s.bgShare) : exec (.actuatorSchedule a est (some (false, t))) s = .next
      (s.rbU fun r => { r with usedN := r.usedN.putD a.val 0 (r.usedN.getD a.val 0 + t) }) :=
  congrArg Host.Outcome.next (if_pos (by simp [hwork, hshare]))

theorem exec_actuatorSchedule_privileged (t : Nat) (hwork : s.bgWork a.val true = true)
    (hfloor : s.rb.usedP.getD a.val 0 < 1000 * s.bgFloor ∨ s.actOps a.val = []) :
    exec (.actuatorSchedule a est (some (true, t))) s = .next
      (s.rbU fun r => { r with usedP := r.usedP.putD a.val 0 (r.usedP.getD a.val 0 + t) }) :=
  congrArg Host.Outcome.next (if_pos (by simpa [hwork] using hfloor))

theorem exec_actuatorSchedule_picked {o : ActOp}
    (hshare : s.bgWork a.val false = false ∨ 1000 * s.bgShare ≤ s.rb.usedN.getD a.val 0) (hmode : s.mode ≠ mSafe)
    (hready : s.actReady a.val = true) :
    let e := fun (o : ActOp) => ((est.find? fun x => x.1 == o.member && x.2.1 == o.mba).map (·.2.2)).getD 0
    pickOp (1000000 * s.g CM_CFG_SLACK) e (s.actOps a.val) = some o →
    let w := (s.cm.waits.find? fun w => w.member == o.member && w.mba == o.mba).getD
      { cmd := none, vol := 0, block := 0, member := o.member, mba := o.mba, deadline := o.deadline, take := o.take }
    exec (.actuatorSchedule a est none) s = .next ((s.cmU fun c => { c with
      sched := c.sched.putD a.val [] (c.sched.getD a.val [] ++ [w]), seekTries := c.seekTries.drop a.val }).slowArm
        o.member o.mba) := by
  intro e hpick w
  have hfree : ¬ ((s.bgWork a.val false && decide (s.rb.usedN.getD a.val 0 < 1000 * s.bgShare)) || decide (s.mode = mSafe) ||
      !s.actReady a.val) = true := by
    rcases hshare with h | h <;> simp [hmode, hready, h]
  refine congrArg Host.Outcome.next ((if_neg hfree).trans ?_)
  dsimp only
  rw [hpick]

end

/-! DEADLINE_EXPIRY (R464). -/

theorem exec_deadlineExpiry_dropped {id : Nat} (htaken : (s.cm.table.find id).isSome = true) (hopc : (s.cmd id).opc = 3)
    (hdrop : (s.cmd id).drop = true) (hopen : (s.cmd id).status = none) (hpnr : (s.cmd id).pnr = false) :
    let running := fun (w : BlkWait) => w.cmd == some id && (s.cm.sched.getD (actuatorOf w.member) []).any fun x =>
      x.member == w.member && x.mba == w.mba
    let n := (s.cm.waits.filter running).length
    let u := s.cmU fun m => { m with
      waits := m.waits.map fun (w : BlkWait) => if running w then { w with gone := true } else w,
      dlGone := if n = 0 then m.dlGone else m.dlGone ++ [(id, n)] }
    exec (.deadlineExpiry id) s = .next (((u.complete id 0x0009 0).sat CM_DROP_CNT_COUNT 1).chanSweep) :=
  congrArg Host.Outcome.next (if_pos (by simp [htaken, hopc, hdrop, hopen, hpnr]))

/-! The command-side reset (R476) and shut-down (R480). -/

theorem State.cmResetStart_idle (h : s.cm.resetting = none) :
    s.cmResetStart = (State.on { s with cm := { s.cm with resetting := some (s.is QM_HALT_HALTED) } } CM_CMD_BUSY).raise 0x0B04 6 0 :=
  if_neg (by simp [h])

theorem exec_cmReset_begins (hbusy : s.is CM_CMD_BUSY = false) (hqm : s.g QM_CTL_STATE = stOn) (hact : s.g CM_ACT_PHASE = 0)
    (hidle : s.cm.resetting = none) :
    let u := s.off CM_CMD_ERR
    let w := { u with cm := { u.cm with resetting := some (u.is QM_HALT_HALTED) } }
    exec .cmReset s = .next ((w.on CM_CMD_BUSY).raise 0x0B04 6 0) := by
  refine congrArg Host.Outcome.next ((if_neg (ne_true_of_eq_false hbusy)).trans ?_)
  rw [if_neg (not_not_intro hqm), if_neg (not_not_intro hact)]
  exact State.cmResetStart_idle hidle

theorem exec_cmResetComplete_ends {halted : Bool} (hreset : s.cm.resetting = some halted)
    (hcommit : s.cm.table.any (fun x => s.committing x.1) = false) :
    let q := s.g QM_HALT_QID
    let idx := s.g QM_HALT_SLOT_INDEX
    let a := if halted then ((s.off QM_HALT_HALTED).qmU fun m => { m with parkArmed := false }).sqError q 6 else s
    let b := (((a.endAll 0x0007 (fun c => if halted && c.qid = q && c.idx = idx then 2 else 0) none).off CM_CMD_BUSY).on
      CM_STAT_RESET_DONE).mdU fun m => { m with haltHold := m.haltHold && !halted }
    let c := b.cmU fun m => { m with resetting := none }
    exec .cmResetComplete s = .next (State.each (c.qm.cq.map (·.1)) (fun q t => t.cqHeld q) c) := by
  refine congrArg Host.Outcome.next ?_
  rw [hreset]
  exact if_neg (ne_true_of_eq_false hcommit)

theorem exec_cmShutdownLimit_ends (hstop : s.g CM_CTL_STATE = stStopping) :
    let u := s.endAll 0x0007 (fun _ => 0) none
    u.cm.table.any (fun x => x.2.status.isNone) = false →
    exec .cmShutdownLimit s = .next (if u.is CM_CTL_ENABLE_PENDING then
      ((u.off CM_CTL_ENABLE_PENDING).p CM_CTL_STATE stStarting).off CM_PACE_VALID else u.p CM_CTL_STATE stOff) := by
  intro u hdone
  exact congrArg Host.Outcome.next ((if_pos hstop).trans (if_neg (ne_true_of_eq_false hdone)))

/-! Activation (R478, R479, R711). -/

theorem exec_activationDrainLimit_draining (h : s.g CM_ACT_PHASE = 2) :
    let ids := (s.cm.table.filter fun x => x.2.status.isNone && x.2.lib.isNone && some x.1 ≠ s.cm.actCmd).map (·.1)
    exec .activationDrainLimit s = .next
      ((s.cmU fun m => { m with actEnded := m.actEnded ++ ids }).endAll 0x0008 (fun _ => 0) s.cm.actCmd) :=
  congrArg Host.Outcome.next (if_pos h)

theorem exec_activationSwitch_drained {slot : Nat} (hslot : s.bt.actSlot = some slot) (hphase : s.g CM_ACT_PHASE = 2)
    (halone : s.cm.table.all (fun x => x.2.status.isSome || some x.1 = s.cm.actCmd) = true) :
    exec .activationSwitch s = .next ((s.p CM_ACT_PHASE 3).actSwitch slot).2.custAfterSwitch := by
  refine congrArg Host.Outcome.next ?_
  rw [hslot]
  exact if_pos (by rw [halone]; simpa using hphase)

theorem exec_activationDone_switched {id : Nat} (hcmd : s.cm.actCmd = some id) (hphase : s.g CM_ACT_PHASE = 3)
    (hreset : s.ft.resetOf = none) :
    let a := (s.qmKeep.complete id 0 (Image.fwVer s.bt.hdr)).off CM_ACT_PHASE
    let b := ((a.p CM_ACT_LAST_MS (min 1023 ((s.now - s.cm.actStart) / 1000000))).off BT_BOOT_REC_DONE).btU
      fun b => { b with actSlot := none, recDue := true }
    exec .activationDone s = .next (((b.mdU fun m => { m with reached := [] }).cmU fun m => { m with
      actCmd := none }).note CM_STAT_ACT_DONE 0x0B05 6 0) := by
  refine congrArg Host.Outcome.next ?_
  rw [hcmd]
  exact if_pos (by simp [hphase, hreset])

/-! DMA rows (R507, R523–R525). -/

section
variable {n : Fin 64}

theorem exec_dmaBurstDone (data : BitVec 32768) (poison : Bool) :
    let r := s.dBurst n.val data.toNat poison
    exec (.dmaBurstDone n data poison) s = .next (if r.1 then r.2.xferDone n.val else r.2) := by
  change execDmaBurstDone n data poison s = _
  unfold execDmaBurstDone
  rcases s.dBurst n.val data.toNat poison with ⟨_ | _, t⟩ <;> rfl

theorem exec_dmResume_faulted (fail : Bool) (h : s.dFaulted n.val = true) :
    exec (.dmResume n fail) s = .next (if fail then s.faultEnd n.val else (s.dRetry n.val).guardAgain n.val) :=
  congrArg Host.Outcome.next (if_neg (by simp [h]))

theorem exec_dmResume_late (fail : Bool) (h : s.dFaulted n.val = false) :
    exec (.dmResume n fail) s = .next ((s.sat DM_LATE_CNT_COUNT 1).note DM_STAT_RESUME_LATE 0x0C14 8 0) :=
  congrArg Host.Outcome.next (if_pos (by simp [h]))

theorem exec_faultTimerExpiry_granted (h : s.dFaulted n.val = true) (htimer : (s.dch n.val).timer = true) :
    exec (.faultTimerExpiry n) s = .next ((s.faultEnd n.val).note DM_STAT_FAULT_TMO 0x0C15 8 0) :=
  congrArg Host.Outcome.next (if_pos (by simp [h, htimer]))

end

end

/-- Settles O47: each row is an equation above; a burst of DMA_BURST_DONE has no condition. -/
theorem commandSideCommandsComplete : Obligations.CommandSideCommandsComplete :=
  ⟨fun _ _ est _ hshare hmode hready hpick => exec_actuatorSchedule_picked est hshare hmode hready hpick,
    fun _ _ est t hwork hshare => exec_actuatorSchedule_background est t hwork hshare,
    fun _ _ est t hwork hfloor => exec_actuatorSchedule_privileged est t hwork hfloor,
    fun _ _ htaken hopc hdrop hopen hpnr => exec_deadlineExpiry_dropped htaken hopc hdrop hopen hpnr,
    fun _ hbusy hqm hact hidle => exec_cmReset_begins hbusy hqm hact hidle,
    fun _ _ hreset hcommit => exec_cmResetComplete_ends hreset hcommit,
    fun _ hstop hdone => exec_cmShutdownLimit_ends hstop hdone, fun _ h => exec_activationDrainLimit_draining h,
    fun _ _ hslot hphase halone => exec_activationSwitch_drained hslot hphase halone,
    fun _ _ hcmd hphase hreset => exec_activationDone_switched hcmd hphase hreset,
    fun _ _ data poison _ _ _ => exec_dmaBurstDone data poison, fun _ _ fail h => exec_dmResume_faulted fail h,
    fun _ _ fail h => exec_dmResume_late fail h, fun _ _ h htimer => exec_faultTimerExpiry_granted h htimer⟩

end Sys2Proof.Machine

/-! PROOFS. Responses, their timeout, and the hold of the merging buffer (O37). -/

namespace Sys2Proof.Machine

open Reg

section
variable {s : State} {tag : BitVec 16} {t : Txn}

/-! Responses (R390, R392). -/

/-- What a response of a kind does: `act` is what it brings a transaction that is still awaited. -/
def State.onRsp (s : State) (tag : Nat) (write : Option Bool) (act : Txn → State) : State :=
  if !s.lkOn then s
  else match s.txnOf tag write with
    | none => s.strayRsp
    | some t => if t.granted then s.lateRsp t else act t

/-- What WRITE_RSP brings a transaction (R418, R493, R507). -/
def State.writeEnded (s : State) (t : Txn) : State := match t.req with
  | .wb id => (if s.wbReq id = 1 then s.wbOk t.addr t.len else s).wbFrame id
  | .dma n off len => s.dmaRsp n off len 0 true
  | _ => s

theorem exec_readCplReceive (data : BitVec 32768) : exec (.readCplReceive tag data) s = .next
    (s.onRsp tag.toNat (some false) fun t => (s.txnDrop t).readData t.req data.toNat) := rfl

theorem exec_writeRspReceive : exec (.writeRspReceive tag) s = .next
    (s.onRsp tag.toNat (some true) fun t => (s.txnDrop t).writeEnded t) := rfl

theorem exec_errorRspReceive (status : BitVec 8) : exec (.errorRspReceive tag status) s = .next
    (s.onRsp tag.toNat none fun t => (s.txnDrop t).txnFail t (decide (status = 4)) false) := rfl

section
variable {n : Nat} {write : Option Bool} (act : Txn → State)

theorem State.onRsp_awaited (hon : s.lkOn = true) (ht : s.txnOf n write = some t) (hg : t.granted = false) :
    s.onRsp n write act = act t := by
  simp [State.onRsp, hon, ht, hg]

theorem State.onRsp_late (hon : s.lkOn = true) (ht : s.txnOf n write = some t) (hg : t.granted = true) :
    s.onRsp n write act = s.lateRsp t := by
  simp [State.onRsp, hon, ht, hg]

theorem State.onRsp_stray (hon : s.lkOn = true) (ht : s.txnOf n write = none) : s.onRsp n write act = s.strayRsp := by
  simp [State.onRsp, hon, ht]

end

theorem State.writeEnded_wb {id : Nat} (h : t.req = .wb id) :
    s.writeEnded t = (if s.wbReq id = 1 then s.wbOk t.addr t.len else s).wbFrame id := by
  simp only [State.writeEnded, h]

theorem State.writeEnded_dma {n off len : Nat} (h : t.req = .dma n off len) : s.writeEnded t = s.dmaRsp n off len 0 true := by
  simp only [State.writeEnded, h]

/-! The granted expiry of a transaction's timer (R392), and the hold of the merging buffer (R492, R498). -/

theorem exec_linkTransactionTimeout_granted (ht : s.txnOf tag.toNat none = some t) (hg : t.granted = false)
    (hsent : s.unsent t = false) (htimers : s.timersHeld = false) :
    exec (.linkTransactionTimeout tag) s = .next ((s.lkU fun l => { l with
      txns := l.txns.map fun (x : Txn) => if x = t then { t with granted := true } else x }).txnFail t false true) := by
  refine congrArg Host.Outcome.next ?_
  rw [ht]
  exact if_neg (by simp [hg, hsent, htimers])

theorem exec_mergeHoldExpiry_issues (ue : Bool) {e : WbEntry}
    (h : s.hc.wb.find? (fun e => !e.issued && !s.wbHeld e) = some e) :
    exec (.mergeHoldExpiry ue) s = .next (if ue then s.wbUe e else s.wbIssueOne e) := by
  refine congrArg Host.Outcome.next ?_
  rw [h]

end

/-- Settles O37: each kind of response is `State.onRsp`, with its own effect on a transaction still awaited. -/
theorem linkTransactionCommandsComplete : Obligations.LinkTransactionCommandsComplete := by
  refine ⟨fun s tag data t hon ht hg => ?_, fun s tag t id hon ht hg hreq => ?_, fun s tag t n off len hon ht hg hreq => ?_,
    fun s tag status t hon ht hg => ?_, fun s tag data t hon ht hg => ?_, fun s tag data hon ht => ?_,
    fun _ _ _ ht hg hsent htimers => exec_linkTransactionTimeout_granted ht hg hsent htimers,
    fun _ ue _ h => exec_mergeHoldExpiry_issues ue h⟩
  · rw [exec_readCplReceive, State.onRsp_awaited _ hon ht hg]
  · rw [exec_writeRspReceive, State.onRsp_awaited _ hon ht hg, State.writeEnded_wb hreq]
  · rw [exec_writeRspReceive, State.onRsp_awaited _ hon ht hg, State.writeEnded_dma hreq]
  · rw [exec_errorRspReceive, State.onRsp_awaited _ hon ht hg]
  · rw [exec_readCplReceive, State.onRsp_late _ hon ht hg]
    rfl
  · rw [exec_readCplReceive, State.onRsp_stray _ hon ht]
    rfl

end Sys2Proof.Machine

/-! PROOFS. Blocks, training, lanes and ports of the link (O38). -/

namespace Sys2Proof.Machine

open Reg

section
variable {s : State} {p : Fin 2}

/-! Blocks and control flits (R357, R362–R365). -/

/-- Errors within what the rate corrects lose no block. -/
theorem block_not_lost {rate errs : Nat} (h : errs ≤ if rate = 3 then 15 else 0) :
    (if rate = 3 then decide (errs > fecMax) else decide (errs ≠ 0)) = false := by
  split at h
  · rw [if_pos ‹_›, fecMax, decide_eq_false_iff_not]
    omega
  · rw [if_neg ‹_›, decide_eq_false_iff_not]
    omega

theorem exec_blockReceive_inOrder {bits : BitVec 5140} {errs : Fin 545} {drained : Nat} :
    let x := s.port p.val
    let rate := s.g (LK_PORT_STAT_RATE p.val)
    let d := descramBlock bits.toNat x.dsc
    let fill := x.fifo + laneBytes rate (s.g (LK_PORT_STAT_LANEMASK p.val)) - drained
    let r := x.flitsIn (s.hopV1 p.val) (d.1 / 2 ^ 20)
    s.g (LK_PORT_STAT_PSTATE p.val) = psUp → errs.val ≤ (if rate = 3 then 15 else 0) → d.1 % 1024 = x.rxNext → fill ≤ 512 →
    r.bare = false →
    exec (.blockReceive p bits errs drained) s = .next
      ((((if rate = 3 then s.sat (LK_FEC_CNT_COUNT p.val) errs.val else s).portUp p.val fun y =>
        { y with dsc := d.2, fifo := min 512 fill }).portUp p.val fun y =>
        ({ y with
          rxNext := (y.rxNext + 1) % 1024, naked := false, rxLeft := r.left, rxVc := r.vc, grant := r.grant,
          owed := (upTo 4).map fun v => y.owed.getD v 0 + r.freed.getD v 0 }).ack (d.1 / 1024 % 1024)).portPump p.val) := by
  intro x rate d fill r hup herrs hseq hfill hbare
  refine congrArg Host.Outcome.next ((if_neg (not_not_intro hup)).trans ?_)
  extract_lets lost good bad faulted corrected counted received
  have hlost : lost = false := block_not_lost herrs
  have hgood : good = true := by simp [good, hlost, hseq]
  have hbad : bad = false := by simp [bad, hfill, hbare]
  have hcounted : counted = if rate = 3 then s.sat (LK_FEC_CNT_COUNT p.val) errs.val else s := by
    simp [counted, corrected, faulted, hlost, hbad]
  refine (if_neg (ne_true_of_eq_false hbad)).trans ((if_neg (by simp [hgood])).trans ?_)
  simp only [received, hcounted]

theorem exec_lcfReceive_up (cr0 cr1 cr2 cr3 : BitVec 16) (nak : Option (BitVec 10))
    (hup : s.g (LK_PORT_STAT_PSTATE p.val) = psUp) :
    let u := s.portUp p.val fun x => { x with
      credits := (upTo 4).map fun v => x.credits.getD v 0 + [cr0.toNat, cr1.toNat, cr2.toNat, cr3.toNat].getD v 0 }
    exec (.lcfReceive p cr0 cr1 cr2 cr3 nak) s = .next ((if nak.isSome then u.blockReplay p.val else u).portPump p.val) :=
  congrArg Host.Outcome.next (if_neg (not_not_intro hup))

theorem exec_replayTimeout_up (hup : s.g (LK_PORT_STAT_PSTATE p.val) = psUp) :
    exec (.replayTimeout p) s = .next (s.blockReplay p.val) :=
  congrArg Host.Outcome.next (if_pos hup)

/-! Training (R367–R373). -/

theorem exec_portSignalDetect_training (partnerMax : Fin 4) (hpass : s.is LK_CTL_PASS = false) (hswitched : s.switched = true)
    (htraining : s.g (LK_PORT_STAT_PSTATE p.val) = psTraining) (htrial : (s.port p.val).trial = 0) :
    exec (.portSignalDetect p partnerMax) s = .next (s.portUp p.val fun x => { x with
      trial := min (s.maxRate p.val) (atLeast1 partnerMax.val), locked := 0, failed := 0 }) :=
  congrArg Host.Outcome.next (if_neg (by simp [hpass, hswitched, htraining, htrial]))

/-- A rate under trial is at least 1: the lowest ends the training, any other gives way to the next lower one. -/
theorem State.trialFailed_tried {n : Nat} (htrial : (s.port n).trial ≠ 0) :
    s.trialFailed n = if (s.port n).trial = 1 then s.portUp n fun y => { y with trial := 0, locked := 0, noRate := true }
      else s.portUp n fun y => { y with trial := y.trial - 1, locked := 0 } := by
  have hlowest : (s.port n).trial ≤ 1 ↔ (s.port n).trial = 1 := by omega
  simp only [State.trialFailed, hlowest]

theorem exec_rateTrialDone_training (lanes : BitVec 8) (htrial : (s.port p.val).trial ≠ 0)
    (htraining : s.g (LK_PORT_STAT_PSTATE p.val) = psTraining) :
    let ok := (lanes &&& ~~~ (BitVec.ofNat 8 (s.port p.val).failed)).toNat
    exec (.rateTrialDone p lanes) s = .next (if ok ≠ 0 then s.portUp p.val fun y => { y with locked := ok }
      else s.trialFailed p.val) :=
  congrArg Host.Outcome.next (if_neg (by simp [htrial, htraining]))

theorem exec_portTrained_up {tag : Word} {v1 v2 : Option (Fin 16)} {lanes : BitVec 8} {next : BitVec 10}
    {cr0 cr1 cr2 cr3 : BitVec 16} {skew : Nat} {line : BitVec 58} {v : Nat}
    (htraining : s.g (LK_PORT_STAT_PSTATE p.val) = psTraining) (htrial : (s.port p.val).trial ≠ 0)
    (hlocked : (s.port p.val).locked ≠ 0) (hskew : skew ≤ 64)
    (hver : hopVersion v1 v2 (s.is (LK_PORT_CFG_ALLOW_V1 p.val)) = some v) (hrate : 0x20 ≤ v ∨ (s.port p.val).trial ≠ 3)
    (hlanes : narrow v (BitVec.ofNat 8 (s.port p.val).locked &&& lanes).toNat ≠ 0) :
    exec (.portTrained p tag v1 v2 lanes next cr0 cr1 cr2 cr3 skew line) s = .next
      (s.portComesUp p.val tag.toNat (narrow v (BitVec.ofNat 8 (s.port p.val).locked &&& lanes).toNat) v next.toNat
        [cr0.toNat, cr1.toNat, cr2.toNat, cr3.toNat] line.toNat) := by
  have hslow : ¬ (decide (v < 0x20) && decide ((s.port p.val).trial = 3)) = true := by
    rcases hrate with h | h <;> simp [h]
  refine congrArg Host.Outcome.next ((if_neg (by simp [htraining, htrial, hlocked])).trans
    ((if_neg (Nat.not_lt.mpr hskew)).trans ?_))
  rw [hver]
  exact (if_neg hslow).trans (if_neg hlanes)

theorem exec_tapTrainingDone_starting (hstart : s.g LK_CTL_STATE = stStarting) (hpass : s.is LK_CTL_PASS = true)
    (hswitched : s.switched = true) :
    exec .tapTrainingDone s = .next (State.each (upTo 2) (fun p t =>
      (t.retrain p).portUp p fun x => { x with seen := false }) (s.off LK_CTL_PASS)) :=
  congrArg Host.Outcome.next (if_pos (by simp [hstart, hpass, hswitched]))

theorem exec_lkShutdownDrain_closes {expired : Bool} (hstop : s.g LK_CTL_STATE = stStopping)
    (h : expired = true ∨ (upTo 2).all (fun p => (s.port p).unacked.isEmpty && (s.port p).out.all (·.originated)) = true) :
    exec (.lkShutdownDrain expired) s = .next s.passClose :=
  congrArg Host.Outcome.next (if_pos (by rcases h with h | h <;> simp [hstop, h]))

/-! Lanes and ports that fail (R393–R395). -/

section
variable {lane : Fin 8}

theorem exec_laneLockLoss_inUse (loss : Bool) (hlane : bitOf (s.g (LK_PORT_STAT_LANEMASK p.val)) lane.val = 1) :
    exec (.laneLockLoss p lane loss) s = .next (s.portUp p.val fun x => { x with
      lost := if loss then setBit x.lost lane.val else clrBit x.lost lane.val }) :=
  congrArg Host.Outcome.next (if_pos hlane)

theorem exec_laneFail_inUse {errors : Bool} (hlane : bitOf (s.g (LK_PORT_STAT_LANEMASK p.val)) lane.val = 1)
    (h : errors = true ∨ bitOf (s.port p.val).lost lane.val = 1) :
    exec (.laneFail p lane errors) s = .next (((s.fault LK_STAT_LANE_FAIL 4 0 0x0901 0).retrain p.val).portUp p.val
      fun x => { x with trial := s.g (LK_PORT_STAT_RATE p.val), failed := setBit x.failed lane.val }) :=
  congrArg Host.Outcome.next (if_pos (by simpa [hlane] using h))

end

theorem exec_portDown_dead (hpass : s.is LK_CTL_PASS = false) (hdown : (s.port p.val).down = false)
    (hdead : s.portDead p.val = true) :
    let x := s.port p.val
    let u := (s.wr (LK_PORT_STAT p.val) 0).on LK_STAT_WRAPPED
    let r := u.resendList ((x.unacked.map (·.2)).filter fun f => !f.transit)
    let w := ((u.portUp p.val fun y => { y with
      out := [], unacked := [], txOld := 0, txNext := 0, down := true, trial := 0, noRate := false, resends := 0,
      lost := 0 }).dropResent r.2).fault LK_STAT_PORT_DOWN 4 1 0x0902 0
    exec (.portDown p) s = .next (State.each ((x.unacked.map (·.2) ++ x.out).filter fun f => f.transit)
      (fun f t => t.stranded f)
      (State.each (r.1 ++ x.out.filter fun f => !f.transit) (fun f t => t.sendOn (1 - p.val)
        { f with dst := if f.request || f.kind = 5 then t.endAddr (1 - p.val) else f.dst }) w)) :=
  congrArg Host.Outcome.next (if_neg (by simp [hpass, hdown, hdead]))

theorem exec_portRetry_down (hdown : (s.port p.val).down = true) (hstate : s.g (LK_PORT_STAT_PSTATE p.val) = psDown) :
    exec (.portRetry p) s = .next (s.retrain p.val) :=
  congrArg Host.Outcome.next (if_pos (by simp [hdown, hstate]))

end

/-- Settles O38: each row is an equation above; RETRAIN_W and RETRAIN_E have no condition. -/
theorem linkPortCommandsComplete : Obligations.LinkPortCommandsComplete :=
  ⟨fun _ _ _ _ _ hup herrs hseq hfill hbare => exec_blockReceive_inOrder hup herrs hseq hfill hbare,
    fun _ _ cr0 cr1 cr2 cr3 nak hup => exec_lcfReceive_up cr0 cr1 cr2 cr3 nak hup, fun _ _ hup => exec_replayTimeout_up hup,
    fun _ _ partnerMax hpass hswitched htraining htrial =>
      exec_portSignalDetect_training partnerMax hpass hswitched htraining htrial,
    fun _ _ lanes htrial htraining => by
      rw [exec_rateTrialDone_training lanes htrial htraining, State.trialFailed_tried htrial],
    fun _ _ _ _ _ _ _ _ _ _ _ _ _ _ htraining htrial hlocked hskew hver hrate hlanes =>
      exec_portTrained_up htraining htrial hlocked hskew hver hrate hlanes,
    fun _ => ⟨rfl, rfl⟩, fun _ hstart hpass hswitched => exec_tapTrainingDone_starting hstart hpass hswitched,
    fun _ hstop h => exec_lkShutdownDrain_closes hstop (.inr h), fun _ hstop => exec_lkShutdownDrain_closes hstop (.inl rfl),
    fun _ _ _ loss hlane => exec_laneLockLoss_inUse loss hlane, fun _ _ _ _ hlane h => exec_laneFail_inUse hlane h,
    fun _ _ hpass hdown hdead => exec_portDown_dead hpass hdown hdead, fun _ _ hdown hstate => exec_portRetry_down hdown hstate⟩

end Sys2Proof.Machine

/-! PROOFS. Frames in transit and the enumeration of the loop (O39). -/

namespace Sys2Proof.Machine

open Reg

section
variable {s : State} {p : Fin 2}

/-! FRAME_FORWARD (R381, R382, R396). -/

theorem exec_frameForward_transit {kind : Fin 8} {dst src : BitVec 12} {vc : Fin 4} {hops : BitVec 8} {tag : BitVec 16}
    {len : Fin 4097} {addr : BitVec 64} {space : BitVec 8} {data : BitVec 32768} {code : BitVec 8} (hon : s.lkOn = true)
    (hother : s.is LK_ID_VALID = false ∨ dst.toNat ≠ s.ownId) (hhops : 1 < hops.toNat)
    (hup : (s.port (1 - p.val)).down = false)
    (hform : s.hopV1 (1 - p.val) = false ∨
      untranslatable len.val addr.toNat (dst.toNat / 64 % 32) space.toNat (kind.val == 6) = false) :
    exec (.frameForward p kind dst src vc hops tag len addr space data code true) s = .next (s.sendOn (1 - p.val) {
      kind := kind.val, dst := dst.toNat, tag := tag.toNat, addr := addr.toNat, len := len.val, data := data.toNat,
      code := code.toNat, vc := vc.val, src := src.toNat, hops := hops.toNat - 1, space := space.toNat, transit := true }) := by
  have hown : ¬ (s.is LK_ID_VALID && decide (dst.toNat = s.ownId)) = true := by
    rcases hother with h | h <;> simp [h]
  have hsends : ¬ (s.hopV1 (1 - p.val) &&
      untranslatable len.val addr.toNat (dst.toNat / 64 % 32) space.toNat (kind.val == 6)) = true := by
    rcases hform with h | h <;> simp [h]
  refine congrArg Host.Outcome.next ((if_neg (by simp [hon])).trans ?_)
  exact (if_neg (by decide)).trans ((if_neg hown).trans ((if_neg (Nat.not_le.mpr hhops)).trans
    ((if_neg (ne_true_of_eq_false hup)).trans (if_neg hsends))))

/-! ENUM_RECEIVE (R380). -/

/-- The floor the ZH8 passes on: its own lowest version, where that is lower. -/
def State.floorOf (s : State) (floor : Nat) : Nat := (s.lowVer.map fun v => min v floor).getD floor

/-- The enumeration as it leaves by a port, with the next number and the floor. -/
def enumFrame (q loop next floor : Nat) : OutFrame :=
  { kind := 6, dst := 2048 + 64 * loop + q, tag := 0, addr := 0, len := 2, data := next + 256 * floor, code := 0, vc := 0,
    space := 3, transit := true }

theorem exec_enumReceive (loop : Fin 32) (next : Fin 64) (floor : BitVec 8) (hon : s.lkOn = true) :
    let u := if !s.is LK_ID_VALID then (s.p LK_ID_ID (64 * loop.val + next.val)).on LK_ID_VALID else s
    exec (.enumReceive p loop next floor) s = .next ((u.p LK_ID_FLOOR (s.floorOf floor.toNat)).sendOn (1 - p.val)
      (enumFrame (1 - p.val) loop.val (next.val + b2n (!s.is LK_ID_VALID)) (s.floorOf floor.toNat))) := by
  refine congrArg Host.Outcome.next ((if_neg (by simp [hon])).trans ?_)
  unfold State.floorOf
  cases s.lowVer <;> rfl

end

/-- Settles O39: an enumeration leaves a number behind where the device has none. -/
theorem linkRingCommandsComplete : Obligations.LinkRingCommandsComplete := by
  refine ⟨fun s p kind dst src vc hops tag len addr space data code => ?_, fun s p loop next floor hon hid => ?_,
    fun s p loop next floor hon hid => ?_⟩
  · exact exec_frameForward_transit
  · rw [exec_enumReceive loop next floor hon, hid]
    rfl
  · rw [exec_enumReceive loop next floor hon, hid]
    rfl

end Sys2Proof.Machine

/-! PROOFS. Ring indices (O16). -/

namespace Sys2Proof.Machine

open Reg

/-! Indices (R405, R406). -/

/-- A valid index of a ring of `n` entries: 17 bits, with its slot in the ring. -/
def IdxValid (n i : Nat) : Prop := i < 2 ^ 17 ∧ i % 65536 < n

section
variable {n p c : Nat}

/-- The two turns of a ring: the position is the slot, or the slot past the ring's length. -/
theorem idxPos_turns (h : IdxValid n p) :
    (p / 65536 = 0 ∧ idxPos p n = p % 65536) ∨ (p / 65536 = 1 ∧ idxPos p n = p % 65536 + n) := by
  have hturn : p / 65536 = 0 ∨ p / 65536 = 1 := by have := h.1; omega
  rcases hturn with ht | ht <;> simp [idxPos, ht]

theorem idxPos_eq (h : IdxValid n p) : idxPos p n = p % 65536 + n * (p / 65536) := by
  obtain ⟨ht, hpos⟩ | ⟨ht, hpos⟩ := idxPos_turns h <;> simp [hpos, ht]

theorem idxPos_lt (h : IdxValid n p) : idxPos p n < 2 * n := by
  have hslot := h.2
  have := idxPos_turns h
  omega

/-- A position names its index. -/
theorem idxPos_inj (hp : IdxValid n p) (hc : IdxValid n c) : idxPos p n = idxPos c n ↔ p = c := by
  refine ⟨fun h => ?_, congrArg (idxPos · n)⟩
  have hslot := hp.2
  have hslot' := hc.2
  have := idxPos_turns hp
  have := idxPos_turns hc
  omega

/-- Positions lie `n` apart where the indices share the slot and differ in the turn. -/
theorem idxPos_opposite (hp : IdxValid n p) (hc : IdxValid n c) :
    (idxPos p n = idxPos c n + n ∨ idxPos c n = idxPos p n + n) ↔ p % 65536 = c % 65536 ∧ p / 65536 ≠ c / 65536 := by
  have hslot := hp.2
  have hslot' := hc.2
  have := idxPos_turns hp
  have := idxPos_turns hc
  omega

theorem idxCount_emod (hc : IdxValid n c) :
    (idxCount p c n : Int) = ((idxPos p n : Int) - (idxPos c n : Int)) % (2 * (n : Int)) := by
  have hle : idxPos c n ≤ idxPos p n + 2 * n := Nat.le_add_left_of_le (idxPos_lt hc).le
  unfold idxCount
  push_cast [hle]
  rw [add_sub_right_comm, Int.add_emod_right]

/-- The count without the modulus: the producer stands at or past the consumer, or its position has wrapped. -/
theorem idxCount_cases (hp : IdxValid n p) (hc : IdxValid n c) :
    (idxCount p c n + idxPos c n = idxPos p n) ∨
      (idxPos p n < idxPos c n ∧ idxCount p c n + idxPos c n = idxPos p n + 2 * n) := by
  have hltp := idxPos_lt hp
  have hltc := idxPos_lt hc
  unfold idxCount
  rcases Nat.lt_or_ge (idxPos p n) (idxPos c n) with h | h
  · rw [Nat.mod_eq_of_lt (by omega)]
    omega
  · rw [Nat.sub_add_comm h, Nat.add_mod_right, Nat.mod_eq_of_lt (by omega)]
    omega

theorem idxCount_lt (hp : IdxValid n p) : idxCount p c n < 2 * n :=
  Nat.mod_lt _ (Nat.zero_lt_of_lt (idxPos_lt hp))

theorem idxCount_eq_zero (hp : IdxValid n p) (hc : IdxValid n c) : idxCount p c n = 0 ↔ p = c := by
  rw [← idxPos_inj hp hc]
  have := idxPos_lt hc
  have := idxCount_cases hp hc
  omega

theorem idxCount_eq_length (hp : IdxValid n p) (hc : IdxValid n c) :
    idxCount p c n = n ↔ p % 65536 = c % 65536 ∧ p / 65536 ≠ c / 65536 := by
  rw [← idxPos_opposite hp hc]
  have := idxPos_lt hp
  have := idxCount_cases hp hc
  omega

/-- The next index stands in the next slot, or in slot 0 of the other turn. -/
theorem idxNext_cases (h : IdxValid n p) :
    (p % 65536 + 1 < n ∧ idxNext p n = p + 1) ∨
      (p % 65536 + 1 = n ∧ idxNext p n = (1 - p / 65536) * 65536) := by
  obtain ⟨hlt, hslot⟩ := h
  have hturn : p / 65536 % 2 = p / 65536 := by omega
  unfold idxNext
  dsimp only
  rw [hturn]
  split <;> omega

theorem idxNext_valid (hn : n ≤ 65536) (h : IdxValid n p) : IdxValid n (idxNext p n) := by
  obtain ⟨hlt, hslot⟩ := h
  have := idxNext_cases ⟨hlt, hslot⟩
  unfold IdxValid
  omega

/-- The position moves on by one, or from the last position to 0. -/
theorem idxPos_idxNext_cases (hn : n ≤ 65536) (h : IdxValid n p) :
    idxPos (idxNext p n) n = idxPos p n + 1 ∨ (idxPos p n + 1 = 2 * n ∧ idxPos (idxNext p n) n = 0) := by
  have := idxNext_cases h
  have := idxPos_turns h
  have := idxPos_turns (idxNext_valid hn h)
  omega

theorem idxPos_idxNext (hn : n ≤ 65536) (h : IdxValid n p) : idxPos (idxNext p n) n = (idxPos p n + 1) % (2 * n) := by
  have hlt := idxPos_lt (idxNext_valid hn h)
  obtain hstep | ⟨hlast, hzero⟩ := idxPos_idxNext_cases hn h
  · rw [← hstep, Nat.mod_eq_of_lt hlt]
  · rw [hlast, Nat.mod_self, hzero]

theorem idxCount_idxNext (hn : n ≤ 65536) (hp : IdxValid n p) (hc : IdxValid n c) (hfull : idxCount p c n ≠ 2 * n - 1) :
    idxCount (idxNext p n) c n = idxCount p c n + 1 := by
  have hnext := idxNext_valid hn hp
  have := idxPos_idxNext_cases hn hp
  have := idxCount_cases hp hc
  have := idxCount_cases hnext hc
  have := idxCount_lt (c := c) hp
  have := idxCount_lt (c := c) hnext
  omega

end

/-- Settles O16: two valid indices have positions below twice the length, which their counts compare. -/
theorem queueIndexArithmetic : Obligations.QueueIndexArithmetic := by
  intro n p c _ hn hplt hpslot hclt hcslot
  have hp : IdxValid n p := ⟨hplt, hpslot⟩
  have hc : IdxValid n c := ⟨hclt, hcslot⟩
  have hnext := idxNext_valid hn hp
  exact ⟨idxPos_eq hp, idxCount_emod hc, idxCount_eq_zero hp hc, idxCount_eq_length hp hc, hnext.1, hnext.2,
    idxPos_idxNext hn hp, idxCount_idxNext hn hp hc⟩

end Sys2Proof.Machine

/-! PROOFS. Doorbells, returned indices, entries taken, completions and the interrupt timer (O35). -/

namespace Sys2Proof.Machine

open Reg

section
variable {s : State}

/-! DOORBELL_WRITE (R407). -/

theorem exec_doorbellWrite (q : BitVec 20) (cq : Bool) (src : BitVec 12) (tag : BitVec 16) (rspReq : Bool)
    (hon : s.g LK_CTL_STATE = stOn) (hid : s.is LK_ID_VALID = true) (hmode : s.mode ≠ mBoot)
    (hqm : s.g QM_CTL_STATE = stOn ∨ s.g QM_CTL_STATE = stStopping) :
    exec (.doorbellWrite q cq src tag rspReq) s = .next (if rspReq then (s.doorbell q.toNat cq).respond {
      kind := 3, dst := src.toNat, tag := tag.toNat, addr := 0, len := 0, data := 0, code := 0, vc := 3 }
      else s.doorbell q.toNat cq) := by
  have htakes : (decide (s.g QM_CTL_STATE = stOn) || decide (s.g QM_CTL_STATE = stStopping)) = true := by simpa using hqm
  refine congrArg Host.Outcome.next ((if_neg (by simp [hon, hid])).trans ((if_neg hmode).trans ?_))
  dsimp only
  rw [if_pos htakes]

/-! DOORBELL_SERVE (R408). -/

/-- A pending bit is served: it is cleared, its queue is the last served, and the queue's shadow word is read. -/
def State.doorbellRead (s : State) (q : Nat) (cq : Bool) : State :=
  let v := (s.dbClear (2 * q + b2n cq)).qmU fun m => { m with lastServed := q }
  (v.qmU fun m => { m with reading := (2 * q + b2n cq) :: m.reading }).sendRead
    (if cq then (s.ctx q).cqCiAddr else (s.ctx q).sqPiAddr) 4 (if cq then .cqCi q else .sqPi q)

/-- A queue in a state in which its doorbells are served. -/
def QmCtx.takesDoorbells (c : QmCtx) (cq : Bool) : Prop :=
  if cq then c.cqState = qActive ∨ c.cqState = qDeleting else c.sqState = qActive

theorem exec_doorbellServe_reads {q : Nat} {cq : Bool} (hqm : s.g QM_CTL_STATE = stOn)
    (hnext : s.dbNext = some (2 * q + b2n cq)) (hload : (s.ctxLoad q).1 = true)
    (hstate : ((s.ctxLoad q).2.ctx q).takesDoorbells cq) :
    exec (.doorbellServe none) s = .next ((s.ctxLoad q).2.doorbellRead q cq) := by
  have hq : (2 * q + b2n cq) / 2 = q := by cases cq <;> simp [b2n]; omega
  have hside : (2 * q + b2n cq) % 2 = b2n cq := by cases cq <;> simp [b2n]
  refine congrArg Host.Outcome.next ((if_neg (not_not_intro hqm)).trans ?_)
  rw [hnext]
  dsimp only
  rw [hq, hside]
  generalize s.ctxLoad q = r at hload hstate
  obtain ⟨_, u⟩ := r
  subst hload
  cases cq with
  | false => exact if_neg (by simpa [b2n, QmCtx.takesDoorbells] using hstate)
  | true => exact if_neg (by simpa [b2n, QmCtx.takesDoorbells, or_iff_not_imp_left] using hstate)

/-! Returned indices (R411, R412, R425, R427). -/

section
variable {q : BitVec 20}

/-- The state in which a returned word of a queue is applied (R408). -/
def State.returnTaken (s : State) (key : Nat) : State :=
  s.qmU fun m => { m with returned := m.returned.drop key, reading := m.reading.filter (· ≠ key) }

theorem State.takeReturn_found {key v : Nat} (h : s.qm.returned.find key = some v) :
    s.takeReturn key = some (v % 2 ^ 17, s.returnTaken key) := by
  unfold State.takeReturn
  rw [h]
  rfl

theorem exec_sqPiReadReturn_found {v : Nat} (h : s.qm.returned.find (2 * q.toNat) = some v) :
    exec (.sqPiReadReturn q) s = .next ((s.returnTaken (2 * q.toNat)).piReturn q.toNat (v % 2 ^ 17)) := by
  refine congrArg Host.Outcome.next ?_
  rw [State.takeReturn_found h]

theorem exec_cqCiReadReturn_found {v : Nat} (h : s.qm.returned.find (2 * q.toNat + 1) = some v) :
    exec (.cqCiReadReturn q) s = .next ((s.returnTaken (2 * q.toNat + 1)).ciReturn q.toNat (v % 2 ^ 17)) := by
  refine congrArg Host.Outcome.next ?_
  rw [State.takeReturn_found h]

end

theorem State.piReturn_advances {q p : Nat} (hstate : (s.ctx q).sqState = qActive) (hslot : p % 65536 < (s.ctx q).sqN)
    (hfits : idxCount p (s.ctx q).sqCi (s.ctx q).sqN ≤ (s.ctx q).sqN)
    (hahead : idxCount (s.ctx q).sqPiSeen (s.ctx q).sqCi (s.ctx q).sqN ≤ idxCount p (s.ctx q).sqCi (s.ctx q).sqN)
    (hentries : p ≠ (s.ctx q).sqCi) :
    s.piReturn q p = ((s.ctxPut q { s.ctx q with sqPiSeen := p }).qmU fun m => { m with
      scan := if m.scan.any (fun x => x.1 == q) then m.scan else m.scan ++ [(q, 0)] }).scanRead q :=
  (if_neg (not_not_intro hstate)).trans
    ((if_neg (by simp; omega)).trans (if_neg hentries))

theorem State.ciReturn_accepted {q ci : Nat} (hstate : (s.ctx q).cqState = qActive) (hslot : ci % 65536 < (s.ctx q).cqN)
    (hback : idxCount (s.ctx q).cqPi ci (s.ctx q).cqN ≤ idxCount (s.ctx q).cqPi (s.ctx q).cqCiSeen (s.ctx q).cqN) :
    let w := (s.ctxPut q { s.ctx q with cqCiSeen := ci }).spillDrain q (s.ctx q).ovfCnt
    s.ciReturn q ci =
      ((if (s.ctx q).ovfCnt ≠ (w.ctx q).ovfCnt then w.cqShadow q else w).cqHeld q).deleteStep q := by
  intro w
  refine (if_neg (by simp [hstate])).trans ((if_neg (by simp; omega)).trans ?_)
  simp only [State.when, decide_eq_true_eq, w]

/-! ENTRY_TAKEN (R413). -/

theorem exec_entryTaken_owned {q : BitVec 20} {i : Nat} {l : HcLine} (hmay : s.mayTake = true)
    (hstate : (s.ctx q.toNat).sqState = qActive) (hentries : (s.ctx q.toNat).sqCi ≠ (s.ctx q.toNat).sqPiSeen)
    (hscan : s.qm.scan.any (fun x => x.1 == q.toNat) = true) (htable : s.cm.table.length < 32768)
    (hroom : (s.ctx (s.ctx q.toNat).cqid).rsv < (s.ctx (s.ctx q.toNat).cqid).free)
    (hline : s.hcFind ((s.ctx q.toNat).lineOf ((s.ctx q.toNat).sqCi % 65536)) = some (i, l)) (hfull : l.state = 2)
    (howned : bitOf l.owned (((s.ctx q.toNat).sqBase + 64 * ((s.ctx q.toNat).sqCi % 65536)) / 64 % 2) = 1) :
    exec (.entryTaken q) s = .next (s.take q.toNat i l) := by
  refine congrArg Host.Outcome.next ((if_neg (by simp [hmay, hstate, hentries, hscan])).trans ?_)
  refine (if_neg (Nat.not_le.mpr htable)).trans ((if_neg (Nat.not_le.mpr hroom)).trans ?_)
  rw [hline]
  exact (if_neg (not_not_intro hfull)).trans (if_pos howned)

/-! COMPLETION_WRITE (R44, R418) and INTERRUPT_TIMER (R420). -/

theorem exec_completionWrite_formed {id : Nat} (shadow : Bool) (hact : s.cm.actEnded.contains id = false)
    (hhalt : s.is QM_HALT_HALTED = false) (hformed : (s.cmd id).status.isSome = true) (hplaced : (s.cmd id).placed = false)
    (howed : s.owed id = false) : exec (.completionWrite id shadow) s = .next (s.cqPut id shadow) :=
  congrArg Host.Outcome.next ((if_neg (by rw [hact]; simp)).trans
    (if_neg (by rw [hhalt, hplaced, howed, ← Option.not_isSome, hformed]; decide)))

theorem exec_interruptTimer_running {q : BitVec 20} (htimer : (s.cqr q.toNat).timer = true)
    (hhalt : s.is QM_HALT_HALTED = false) : exec (.interruptTimer q) s = .next (s.irq q.toNat) :=
  congrArg Host.Outcome.next (if_pos (by simp [htimer, hhalt]))

end

/-- Settles O35: each row is an equation above; a pending bit is the SQ's or the CQ's. -/
theorem queueCommandsComplete : Obligations.QueueCommandsComplete :=
  ⟨fun _ q cq src tag rspReq hon hid hmode hqm => exec_doorbellWrite q cq src tag rspReq hon hid hmode hqm,
    fun _ _ hqm hnext hload hstate => exec_doorbellServe_reads (cq := false) hqm hnext hload hstate,
    fun _ _ hqm hnext hload hstate => exec_doorbellServe_reads (cq := true) hqm hnext hload hstate,
    fun _ _ _ hret hstate hslot hfits hahead hentries => (exec_sqPiReadReturn_found hret).trans
      (congrArg Host.Outcome.next (State.piReturn_advances hstate hslot hfits hahead hentries)),
    fun _ _ _ hret hstate hslot hback => (exec_cqCiReadReturn_found hret).trans
      (congrArg Host.Outcome.next (State.ciReturn_accepted hstate hslot hback)),
    fun _ _ _ _ hmay hstate hentries hscan htable hroom hline hfull howned =>
      exec_entryTaken_owned hmay hstate hentries hscan htable hroom hline hfull howned,
    fun _ _ shadow hact hhalt hformed hplaced howed => exec_completionWrite_formed shadow hact hhalt hformed hplaced howed,
    fun _ _ htimer hhalt => exec_interruptTimer_running htimer hhalt⟩

end Sys2Proof.Machine

/-! PROOFS. The register path of the queue manager, and HALT_PARK (O36). -/

namespace Sys2Proof.Machine

open Reg

section
variable {s : State}

/-! QM_READ, QM_CREATE and QM_DELETE (R404, R436, R437). -/

theorem exec_qmRead_idle (hidle : s.is QM_Q_CMD_BUSY = false) :
    exec .qmRead s = .next ((s.ctxShow (s.ctx (s.g QM_Q_SEL_QID)).bits).qErr 0) :=
  congrArg Host.Outcome.next (if_neg (ne_true_of_eq_false hidle))

section
variable (hidle : s.is QM_Q_CMD_BUSY = false) (hhalt : s.is QM_HALT_HALTED = false)
include hidle hhalt

theorem exec_qmCreate_checked (hqid : s.g QM_Q_SEL_QID = 0) (hsq : (s.ctx 0).sqState = qDisabled)
    (hcq : (s.ctx 0).cqState = qDisabled) (hcheck : s.ctxCheck 0 { QmCtx.ofBits s.ctxStaged with cqid := 0 } = 0) :
    exec .qmCreate s = .next ((s.ctxCreate 0 { QmCtx.ofBits s.ctxStaged with cqid := 0 }).qErr 0) := by
  refine congrArg Host.Outcome.next ((if_neg (ne_true_of_eq_false hidle)).trans ((if_neg (ne_true_of_eq_false hhalt)).trans ?_))
  exact (if_neg (not_not_intro hqid)).trans ((if_neg (by simp [hsq, hcq])).trans (if_neg (not_not_intro hcheck)))

theorem exec_qmDelete_maint (hmode : s.mode = mMaint) (hqid : s.g QM_Q_SEL_QID = 0) :
    exec .qmDelete s = .next (((s.deleteStart 0).deleteStep 0).qErr 0) := by
  refine congrArg Host.Outcome.next ((if_neg (ne_true_of_eq_false hidle)).trans ((if_neg (ne_true_of_eq_false hhalt)).trans ?_))
  exact (if_neg (not_not_intro hmode)).trans (if_neg (not_not_intro hqid))

/-! QM_RECOVER and QM_RECOVER_DONE (R430). -/

/-- QM_RECOVER of a pair with a queue in ERROR, neither for an uncorrectable context: the indices to be read again are
recorded, and the CQ's is read first. -/
theorem exec_qmRecover_accepted (herr : (s.ctx (s.g QM_Q_SEL_QID)).sqState = qError ∨ (s.ctx (s.g QM_Q_SEL_QID)).cqState = qError)
    (hsq : (s.ctx (s.g QM_Q_SEL_QID)).sqErr ≠ 5) (hcq : (s.ctx (s.g QM_Q_SEL_QID)).cqErr ≠ 3) :
    let q := s.g QM_Q_SEL_QID
    let c := s.ctx q
    let u := ((s.qErr 0).on QM_Q_CMD_BUSY).qmU fun m => { m with
      recover := b2n (decide (c.cqState = qError)) + 2 * b2n (decide (c.sqState = qError)) }
    exec .qmRecover s = .next (if c.cqState = qError then u.sendRead c.cqCiAddr 4 (.recCq q) else u.recoverSq q) := by
  refine congrArg Host.Outcome.next ((if_neg (ne_true_of_eq_false hidle)).trans ((if_neg (ne_true_of_eq_false hhalt)).trans ?_))
  refine if_neg ?_
  rcases herr with h | h <;> simp [h, hsq, hcq]

end

/-- Where the SQ's index is to be read, its CQ must be ACTIVE. -/
theorem State.recoverSq_due (q : Nat) (hdue : bitOf s.qm.recover 1 ≠ 0) :
    s.recoverSq q = if (s.ctx (s.ctx q).cqid).cqState = qActive then s.sendRead (s.ctx q).sqPiAddr 4 (.recSq q)
      else ((s.qmU fun m => { m with recover := 0 }).p QM_Q_CMD_ERR 3).off QM_Q_CMD_BUSY :=
  (if_neg hdue).trans (ite_not _ _ _)

theorem exec_qmRecoverDone_returned {v : Nat} (hbusy : s.is QM_Q_CMD_BUSY = true) :
    let cq := decide (bitOf s.qm.recover 0 = 1)
    s.qm.returned.find (2 ^ 22 + b2n cq) = some v →
    exec .qmRecoverDone s = .next ((s.qmU fun m => { m with returned := m.returned.drop (2 ^ 22 + b2n cq) }).recovered
      (s.g QM_Q_SEL_QID) cq (if v ≥ 2 ^ 32 then none else some v)) := by
  intro cq hret
  refine congrArg Host.Outcome.next ((if_neg (by simp [hbusy])).trans ?_)
  dsimp only
  rw [hret]

/-! HALT_PARK (R433). -/

theorem exec_haltPark_armed (hhalt : s.is QM_HALT_HALTED = true) (harmed : s.qm.parkArmed = true)
    (hmode : s.mode = mService) :
    let u := ((s.on QM_HALT_PARKED).qmU fun m => { m with parkArmed := false }).p MD_IDLE_STAT_LEVEL 2
    let w := (u.off MD_IDLE_STAT_STEPPING).mdU fun m => { m with haltHold := true, exiting := false, gotoRest := false }
    exec .haltPark s = .next (State.each (upTo 8) (fun a t => t.unloadAct a ucIdle) w.chansDown) :=
  congrArg Host.Outcome.next (if_pos (by simp [hhalt, harmed, hmode]))

end

/-- Settles O36: each row is an equation above; QM_RECOVER's two clauses are the pair's CQ in ERROR, and its SQ alone. -/
theorem queueRegisterCommandsComplete : Obligations.QueueRegisterCommandsComplete := by
  refine ⟨fun _ hidle => exec_qmRead_idle hidle,
    fun _ hidle hhalt hqid hsq hcq hcheck => exec_qmCreate_checked hidle hhalt hqid hsq hcq hcheck,
    fun s hidle hhalt hcq hsqErr hcqErr => ?_, fun s hidle hhalt hcq hsq hsqErr hcqErr => ?_,
    fun _ _ hbusy hret => exec_qmRecoverDone_returned hbusy hret,
    fun _ hidle hhalt hmode hqid => exec_qmDelete_maint hidle hhalt hmode hqid,
    fun _ hhalt harmed hmode => exec_haltPark_armed hhalt harmed hmode⟩
  · rw [exec_qmRecover_accepted hidle hhalt (.inr hcq) hsqErr hcqErr, if_pos hcq, decide_eq_true hcq]
    rfl
  · rw [exec_qmRecover_accepted hidle hhalt (.inl hsq) hsqErr hcqErr, if_neg hcq, decide_eq_false hcq, decide_eq_true hsq]
    exact congrArg Host.Outcome.next (State.recoverSq_due _ (show bitOf 2 1 ≠ 0 by decide))

end Sys2Proof.Machine

/-! PROOFS. The opcodes of I/O, of volumes and members, and of the device (O44, O45, O46). -/

namespace Sys2Proof.Machine

open Reg

section
variable {s : State} {id : Nat} {c : Cmd}

/-! An opcode acts on the taken command that may run its step (R445, R449, R450). -/

/-- An opcode whose command may run answers what its step makes of that command. -/
theorem next_onReady {opc : Nat} {f : Cmd → State} {t : State} (h : s.ready id opc = some c) (hstep : f c = t) :
    (Host.Outcome.next (s.onReady id opc f) : Host.Outcome State Fault Refusal) = .next t := by
  unfold State.onReady
  rw [h]
  exact congrArg Host.Outcome.next hstep

/-! I/O (R445, R469, R470). -/

section
variable (hblocked : s.blocked c = false) (hfull : s.refFull c.vol c.block c.nblk = false) (hfrozen : s.frozen c.vol = false)
include hblocked hfull hfrozen

/-- A read that nothing keeps back looks every block up, and what is left waits for the medium. -/
theorem State.opRead_clear :
    let a := s.cmdUp c.id fun x => { x with started := true, left := c.nblk }
    let b := (State.each (upTo c.nblk) (fun i t => t.lookBlock c.id i) a).cmdUp c.id
      fun x => { x with medium := decide (x.left > 0) && x.status.isNone }
    s.opRead c = (if c.opc = 5 then b else b.readAhead c).chanSweep :=
  (if_neg (by simp [hblocked, hfull])).trans (if_neg (ne_true_of_eq_false hfrozen))

theorem State.opRead_read (hopc : c.opc ≠ 5) :
    let a := s.cmdUp c.id fun x => { x with started := true, left := c.nblk }
    let b := (State.each (upTo c.nblk) (fun i t => t.lookBlock c.id i) a).cmdUp c.id
      fun x => { x with medium := decide (x.left > 0) && x.status.isNone }
    s.opRead c = (b.readAhead c).chanSweep :=
  (State.opRead_clear hblocked hfull hfrozen).trans (congrArg State.chanSweep (if_neg hopc))

theorem State.opRead_verify (hopc : c.opc = 5) :
    let a := s.cmdUp c.id fun x => { x with started := true, left := c.nblk }
    let b := (State.each (upTo c.nblk) (fun i t => t.lookBlock c.id i) a).cmdUp c.id
      fun x => { x with medium := decide (x.left > 0) && x.status.isNone }
    s.opRead c = b.chanSweep :=
  (State.opRead_clear hblocked hfull hfrozen).trans (congrArg State.chanSweep (if_pos hopc))

end

theorem State.fetch_wanting (hwant : c.want false ≠ 0) :
    s.fetch c = (s.cmdUp c.id fun x => { x with started := true, buf := 0, have_ := 0 }).xferStart c.id false :=
  if_neg hwant

theorem exec_flushDone_running (hopc : (s.cmd id).opc = 4) (hstarted : (s.cmd id).started = true)
    (hopen : (s.cmd id).status = none) : exec (.flushDone id) s = .next (s.flushDone (s.cmd id)) :=
  congrArg Host.Outcome.next (if_pos (by simp [hopc, hstarted, hopen]))

/-! Volumes and members (R449). -/

section
variable {v : Fin 64} (hv : c.p0 % 64 = v.val)
include hv

theorem exec_volEnable_ready (h : s.ready id 0x41 = some c) :
    exec (.volEnable id) s = .next ((((s.start id).cmU fun m => { m with
      admin := m.admin ++ [(id, 0x41)] }).enableFn (.vol v)).volWaits v.val) := by
  obtain rfl : v = ⟨c.p0 % 64, Nat.mod_lt _ (by decide)⟩ := Fin.ext hv.symm
  exact next_onReady h rfl

theorem exec_volDisable_ready (h : s.ready id 0x42 = some c) :
    exec (.volDisable id) s = .next ((((s.start id).cmU fun m => { m with
      admin := m.admin ++ [(id, 0x42)] }).disableFn (.vol v)).volWaits v.val) := by
  obtain rfl : v = ⟨c.p0 % 64, Nat.mod_lt _ (by decide)⟩ := Fin.ext hv.symm
  exact next_onReady h rfl

end

theorem exec_reshapePause_running (h : s.ready id 0x47 = some c) (hon : (s.start id).rbOn = true)
    (hrun : (s.start id).g RB_RS_STAT_STATE = rsRun) :
    exec (.reshapePause id) s = .next (((s.start id).rbU fun r => { r with pausing := true }).cmU fun m => { m with
      admin := m.admin ++ [(id, 0x47)] }) := by
  refine next_onReady h ?_
  simp only [State.rbPause_running hon hrun]

/-! Queues (R452, R453). -/

theorem exec_queueCreate_ready (h : s.ready id 0x81 = some c) (hqid : c.p0 ≠ 0) :
    exec (.queueCreate id) s = .next (s.fetch c) :=
  next_onReady h (if_neg hqid)

theorem exec_queueDelete_unused (h : s.ready id 0x82 = some c) :
    let q := c.p0 % 2 ^ 20
    q ≠ 0 → s.qm.live.any (fun x => x ≠ q && (s.ctx x).cqid = q && (s.ctx x).sqState ≠ qDisabled) = false →
    exec (.queueDelete id) s = .next (((((s.ctxLoad q).2.start id).cmU fun m => { m with
      admin := m.admin ++ [(id, 0x82)] }).deleteStart q).deleteCheck id q) := by
  intro q hqid hunused
  exact next_onReady h ((if_neg hqid).trans (if_neg (ne_true_of_eq_false hunused)))

theorem exec_queueDeleteDone_waiting (h : s.cm.admin.contains (id, 0x82) = true) :
    exec (.queueDeleteDone id) s = .next (s.deleteCheck id ((s.cmd id).p0 % 2 ^ 20)) :=
  congrArg Host.Outcome.next (if_pos h)

/-! Logs and features (R454, R455). -/

theorem exec_getLog_known {n d : Nat} (h : s.ready id 0x83 = some c) (hlog : s.log (c.p0 % 256) = some (n, d)) :
    exec (.getLog id) s = .next (s.give id (d % 2 ^ (8 * n) / 2 ^ (8 * c.p1) % 2 ^ (8 * c.dlen)) n) := by
  refine next_onReady h ?_
  rw [hlog]

section
variable {a : Nat} (hreg : featureReg (c.p0 % 256) = some a)
include hreg

theorem exec_setFeature_known (h : s.ready id 0x84 = some c) :
    let t := s.plainWrite a c.p1 0
    exec (.setFeature id) s = .next (t.complete id 0 (t.peek a).toNat) := by
  refine next_onReady h ?_
  rw [hreg]

theorem exec_getFeature_known (h : s.ready id 0x85 = some c) :
    exec (.getFeature id) s = .next (s.complete id 0 (s.peek a).toNat) := by
  refine next_onReady h ?_
  rw [hreg]

end

/-! Firmware, attestation, keys and microcode (R478, R594, R714, R715). -/

@[simp] theorem State.cmdUp_now (f : Cmd → Cmd) : (s.cmdUp id f).now = s.now := by
  unfold State.cmdUp
  split <;> rfl

@[simp] theorem State.start_now : (s.start id).now = s.now := State.cmdUp_now _

theorem exec_fwActivate_checked (h : s.ready id 0x87 = some c) (hidle : s.cm.actCmd = none)
    (hcheck : s.actCheck (c.p0 % 2) = none) :
    exec (.fwActivate id) s = .next ((((s.start id).p CM_ACT_PHASE 2).cmU fun m => { m with
      actCmd := some id, actStart := s.now, actEnded := [] }).btU fun b => { b with actSlot := some (c.p0 % 2) }) := by
  refine next_onReady h ((if_neg (by simp [hidle])).trans ?_)
  dsimp only
  rw [hcheck]
  simp only [State.p_now, State.start_now]

theorem exec_attestDone_signed {t : List Nat} (h : s.bt.signing = id :: t) :
    let n := s.bt.reports + 1
    let r := s.report (s.cmd id).p1 (s.cmd id).buf n
    let u := s.btU fun b => { b with signing := t, reports := n, sig := (Config.slhSign (r % 2 ^ 2048)).toNat }
    exec .attestDone s = .next ((u.p BT_ATT_SEQ n).give id r n).chanSweep := by
  refine congrArg Host.Outcome.next ?_
  rw [h]

section
variable (hmaint : s.mode = mMaint)
include hmaint

theorem exec_keyEnroll_maint (h : s.ready id 0x89 = some c) : exec (.keyEnroll id) s = .next (s.fetch c) :=
  next_onReady h (if_neg (not_not_intro hmaint))

theorem exec_microLoad_within (h : s.ready id 0x8A = some c) (hfits : c.p0 * 4096 + c.dlen ≤ 40960) :
    exec (.microLoad id) s = .next (s.fetch c) :=
  next_onReady h ((if_neg (not_not_intro hmaint)).trans (if_neg (Nat.not_lt.mpr hfits)))

end

/-! ABORT (R475). -/

theorem State.intTrap_without_context {cause : Nat} (h : (s.cmd id).ctx = none) : s.intTrap id cause = (false, s) := by
  unfold State.intTrap
  rw [h]

section
variable (h : s.ready id 0x8B = some c)
include h

theorem exec_abort_absent (hnone : s.cm.table.find? (fun x =>
      x.2.qid == c.p0 % 2 ^ 20 && x.2.cid == c.p1 % 2 ^ 16 && x.1 ≠ id && x.2.lib.isNone && !x.2.placed) = none) :
    exec (.abort id) s = .next (s.complete id 0 1) := by
  refine next_onReady h ?_
  rw [hnone]

variable {t : Nat} {x : Cmd} (hfound : s.cm.table.find? (fun x =>
  x.2.qid == c.p0 % 2 ^ 20 && x.2.cid == c.p1 % 2 ^ 16 && x.1 ≠ id && x.2.lib.isNone && !x.2.placed) = some (t, x))
include hfound

theorem exec_abort_late (hpast : s.pastReturn x = true) : exec (.abort id) s = .next (s.complete id 0 2) := by
  refine next_onReady h ?_
  rw [hfound]
  exact if_pos hpast

theorem exec_abort_ends (hopen : s.pastReturn x = false) (hctx : (s.cmd t).ctx = none) :
    exec (.abort id) s = .next ((((s.endCmd t 0x0006 0).complete id 0 0).chanSweep).heldRetry) := by
  refine next_onReady h ?_
  rw [hfound]
  refine (if_neg (ne_true_of_eq_false hopen)).trans ?_
  rw [State.intTrap_without_context hctx]

end

end

/-- Settles O44: READ and READ_STREAM are `State.opRead_read`, VERIFY is `State.opRead_verify`; WRITE and DEALLOCATE are
`State.fetch_wanting`. -/
theorem ioOpcodesComplete : Obligations.IoOpcodesComplete :=
  ⟨fun _ _ _ _ _ h hopc hblocked hfull hfrozen => next_onReady h (State.opRead_read hblocked hfull hfrozen (by simp [hopc])),
    fun _ _ _ h hopc hblocked hfull hfrozen => next_onReady h (State.opRead_read hblocked hfull hfrozen (by simp [hopc])),
    fun _ _ _ h hopc hblocked hfull hfrozen => next_onReady h (State.opRead_verify hblocked hfull hfrozen hopc),
    fun _ _ _ h hwant => next_onReady h (State.fetch_wanting hwant),
    fun _ _ _ h hwant => next_onReady h (State.fetch_wanting hwant),
    fun _ _ _ h => next_onReady h rfl, fun _ _ _ h => next_onReady h rfl,
    fun _ _ hopc hstarted hopen => exec_flushDone_running hopc hstarted hopen⟩

/-- Settles O45: but for RESHAPE_PAUSE each row is what its opcode does with a command that may run, and the refusal of the
operation of RB_CMD is `State.opDone`. -/
theorem volumeOpcodesComplete : Obligations.VolumeOpcodesComplete :=
  ⟨fun _ _ _ h => next_onReady h rfl, fun _ _ _ h => next_onReady h rfl,
    fun _ _ _ _ h hv => exec_volEnable_ready hv h, fun _ _ _ _ h hv => exec_volDisable_ready hv h,
    fun _ _ _ h => next_onReady h rfl, fun _ _ _ h => next_onReady h rfl,
    fun _ _ _ h => next_onReady h rfl, fun _ _ _ h hon hrun => exec_reshapePause_running h hon hrun,
    fun _ _ _ h => next_onReady h rfl, fun _ _ _ h => next_onReady h rfl,
    fun _ _ _ h => next_onReady h rfl⟩

/-- Settles O46: each row is an equation above; IDENTIFY, FW_STAGE and ATTEST have no further condition. -/
theorem deviceOpcodesComplete : Obligations.DeviceOpcodesComplete :=
  ⟨fun _ _ _ h => next_onReady h rfl, fun _ _ _ h hqid => exec_queueCreate_ready h hqid,
    fun _ _ _ h hqid hunused => exec_queueDelete_unused h hqid hunused, fun _ _ h => exec_queueDeleteDone_waiting h,
    fun _ _ _ _ _ h hlog => exec_getLog_known h hlog, fun _ _ _ _ h hreg => exec_setFeature_known hreg h,
    fun _ _ _ _ h hreg => exec_getFeature_known hreg h, fun _ _ _ h => next_onReady h rfl,
    fun _ _ _ h hidle hcheck => exec_fwActivate_checked h hidle hcheck, fun _ _ _ h => next_onReady h rfl,
    fun _ _ _ h => exec_attestDone_signed h, fun _ _ _ h hmaint => exec_keyEnroll_maint hmaint h,
    fun _ _ _ h hmaint hfits => exec_microLoad_within hmaint h hfits, fun _ _ _ h hnone => exec_abort_absent h hnone,
    fun _ _ _ _ _ h hfound hpast => exec_abort_late h hfound hpast,
    fun _ _ _ _ _ h hfound hopen hctx => exec_abort_ends h hfound hopen hctx⟩

end Sys2Proof.Machine

/-! PROOFS. DMA channels and the host windows (O21, O31). -/

namespace Sys2Proof.Machine

open Reg

section
variable {s : State}

/-! Channels (R502, R503, R506, R508). -/

section
variable {n : Fin 64} (hlock : s.dmaLocked n.val = false)
include hlock

theorem exec_dmChGo_idle (hon : s.dchOn n.val = true) (hbusy : s.dBusy n.val = false)
    (hhalt : s.is (DM_CH_STAT_HALTED n.val) = false) : exec (.dmChGo n) s = .next (s.dStart n.val) :=
  congrArg Host.Outcome.next ((if_neg (ne_true_of_eq_false hlock)).trans (if_pos (by simp [hon, hbusy, hhalt])))

theorem exec_dmaPause_unlocked : exec (.dmaPause n) s = .next (s.dPause n.val) :=
  congrArg Host.Outcome.next (if_neg (ne_true_of_eq_false hlock))

theorem exec_dmaUnpause_unlocked : exec (.dmaUnpause n) s = .next (doDmaUnpause n s) :=
  congrArg Host.Outcome.next (if_neg (ne_true_of_eq_false hlock))

variable (hon : s.dchOn n.val = true)
include hon

theorem exec_shadowArm_on : exec (.shadowArm n) s = .next (s.dArm n.val) :=
  congrArg Host.Outcome.next (if_pos (by simp [hon, hlock]))

theorem exec_shadowArm_idle (hbusy : s.dBusy n.val = false) (hhalt : s.is (DM_CH_STAT_HALTED n.val) = false) :
    exec (.shadowArm n) s = .next ((s.dShadow n.val).dStart n.val) :=
  (exec_shadowArm_on hlock hon).trans
    (congrArg Host.Outcome.next ((if_neg (by simp [hbusy])).trans (if_neg (by simp [hbusy, hhalt]))))

theorem exec_shadowArm_waits (hchain : s.is (DM_CH_CFG_CHAIN n.val) = false)
    (hwait : s.dBusy n.val = true ∨ s.is (DM_CH_STAT_HALTED n.val) = true) :
    exec (.shadowArm n) s = .next (s.on (DM_CH_STAT_SH_VALID n.val)) :=
  (exec_shadowArm_on hlock hon).trans
    (congrArg Host.Outcome.next ((if_neg (by simp [hchain])).trans (if_pos (by simpa using hwait))))

end

/-! Request lines (R505, R510). -/

section
variable {line : Fin 128}

theorem exec_peripheralRequest_unused (h : 96 ≤ line.val) : exec (.peripheralRequest line) s = .next s :=
  congrArg Host.Outcome.next (if_pos h)

theorem exec_peripheralRequest_used (h : line.val < 96) :
    let u := s.dmU fun d => { d with lines := if d.lines.contains line.val then d.lines else line.val :: d.lines }
    exec (.peripheralRequest line) s = .next (State.each (u.lineChans line.val) (fun n t =>
      let t := t.dchUp n (fun c => { c with due := c.due + 1 })
      if t.srcSp n = spHost || t.dstSp n = spHost then t.dPump n 1 else t) u) :=
  congrArg Host.Outcome.next (if_neg (Nat.not_le.mpr h))

/-- What a withdrawn request does to a channel that answers its line: a burst not started is cancelled, a started one makes
the channel halt when it ends. -/
def State.dWithdraw (t : State) (n : Nat) (started : Bool) : State :=
  if !started then t.dchUp n (fun c => { c with due := c.due - 1 })
  else
    let t := ((t.on (DM_CH_STAT_REQ_LATE n)).sat DM_REQ_LATE_CNT_COUNT 1).note DM_STAT_REQ_LATE 0x0C11 8 0
    t.dchUp n (fun c => { c with haltDue := if t.srcSp n = spPer then hcPoison else hcSink })

theorem exec_peripheralWithdraw_asserted (started : Bool) (h : line.val ∈ s.dm.lines) :
    let u := s.dmU fun d => { d with lines := d.lines.filter (· ≠ line.val) }
    exec (.peripheralWithdraw line started) s =
      .next (State.each (u.lineChans line.val) (fun n t => t.dWithdraw n started) u) :=
  congrArg Host.Outcome.next (if_neg (by simp [h]))

end

/-! The host window table (R518, R519, R527). -/

/-- The table once word 3 of entry `i` is written: the words staged and the word written stand in the entry. -/
def hwtCommit (t staged : Tbl Nat) (i v : Nat) : Tbl Nat :=
  (upTo 3).foldl (fun x k => match staged.find k with
    | some y => x.ins (4 * i + k) y
    | none => x) (t.ins (4 * i + 3) v)

theorem hwtCommit_full (t : Tbl Nat) (x0 x1 x2 i v : Nat) : hwtCommit t [(0, x0), (1, x1), (2, x2)] i v =
    (((t.ins (4 * i + 3) v).ins (4 * i) x0).ins (4 * i + 1) x1).ins (4 * i + 2) x2 := rfl

theorem State.hwtAccess_stages (v : Nat) (h : s.g DM_HWT_ADDR_WORD < 3) : s.hwtAccess (some v) =
    (s.dmU fun d => { d with staged := d.staged.ins (s.g DM_HWT_ADDR_WORD) v }).p DM_HWT_ADDR_WORD (s.g DM_HWT_ADDR_WORD + 1) := by
  unfold State.hwtAccess State.when
  dsimp only
  rw [if_pos h, if_neg (by simp; omega)]

theorem State.hwtAccess_commits (v : Nat) (h : s.g DM_HWT_ADDR_WORD = 3) : s.hwtAccess (some v) =
    ((s.dmU fun d => { d with hwt := hwtCommit d.hwt d.staged (s.g DM_HWT_ADDR_INDEX) v, staged := [] }).p
      DM_HWT_ADDR_WORD 4).p DM_HWT_ADDR_INDEX (s.g DM_HWT_ADDR_INDEX + 1) := by
  unfold State.hwtAccess State.when
  dsimp only
  rw [h, if_neg (Nat.lt_irrefl 3)]
  rfl

theorem State.hwtAccess_reads : s.hwtAccess none =
    (({ s with rdata := BitVec.ofNat 32 (s.hwtWord (4 * s.g DM_HWT_ADDR_INDEX + s.g DM_HWT_ADDR_WORD)) } : State).p
      DM_HWT_ADDR_WORD (s.g DM_HWT_ADDR_WORD + 1)).when (decide (s.g DM_HWT_ADDR_WORD = 3))
        (fun t => t.p DM_HWT_ADDR_INDEX (s.g DM_HWT_ADDR_INDEX + 1)) := rfl

/-- INDEX and WORD share a register and no bit. -/
theorem State.hwtAddrWord_p_index (x : Nat) : (s.p DM_HWT_ADDR_INDEX x).g DM_HWT_ADDR_WORD = s.g DM_HWT_ADDR_WORD :=
  State.g_p_field s x rfl (by decide) (by decide)

theorem State.hwtAddrIndex_p (x : Nat) : (s.p DM_HWT_ADDR_INDEX x).g DM_HWT_ADDR_INDEX = x % 2 ^ 14 :=
  State.g_p_same s DM_HWT_ADDR_INDEX x (by decide)

theorem State.hwtAddrWord_p (x : Nat) : (s.p DM_HWT_ADDR_WORD x).g DM_HWT_ADDR_WORD = x % 2 ^ 2 :=
  State.g_p_same s DM_HWT_ADDR_WORD x (by decide)

/-- An entry read as one that WORD and INDEX name moves WORD on, whether INDEX moves or not. -/
theorem State.hwtAccess_reads_word : (s.hwtAccess none).g DM_HWT_ADDR_WORD = (s.g DM_HWT_ADDR_WORD + 1) % 4 := by
  rw [State.hwtAccess_reads, State.when]
  split
  · rw [State.hwtAddrWord_p_index]; exact State.hwtAddrWord_p _
  · exact State.hwtAddrWord_p _

theorem State.hwtAccess_reads_rest :
    (s.hwtAccess none).rdata = BitVec.ofNat 32 (s.hwtWord (4 * s.g DM_HWT_ADDR_INDEX + s.g DM_HWT_ADDR_WORD)) ∧
    (s.hwtAccess none).dm = s.dm := by
  rw [State.hwtAccess_reads, State.when]
  split <;> exact ⟨rfl, rfl⟩

theorem State.hwtAccess_commits_moves (v : Nat) (h : s.g DM_HWT_ADDR_WORD = 3) :
    (s.hwtAccess (some v)).g DM_HWT_ADDR_WORD = 0 ∧
    (s.hwtAccess (some v)).g DM_HWT_ADDR_INDEX = (s.g DM_HWT_ADDR_INDEX + 1) % 2 ^ 14 := by
  rw [State.hwtAccess_commits v h]
  exact ⟨(State.hwtAddrWord_p_index _).trans (State.hwtAddrWord_p _), State.hwtAddrIndex_p _⟩

theorem State.hwtAccess_commits_dm (v : Nat) (h : s.g DM_HWT_ADDR_WORD = 3) : (s.hwtAccess (some v)).dm =
    { s.dm with hwt := hwtCommit s.dm.hwt s.dm.staged (s.g DM_HWT_ADDR_INDEX) v, staged := [] } := by
  rw [State.hwtAccess_commits v h]
  rfl

/-- Translation depends on the table and on DM_HWT_CTL.EN alone. -/
theorem State.translate_congr {t : State} (hen : t.is DM_HWT_CTL_EN = s.is DM_HWT_CTL_EN) (hhwt : t.dm.hwt = s.dm.hwt)
    (a n : Nat) (w : Bool) : t.translate a n w = s.translate a n w := by
  unfold State.translate State.hwtWord
  rw [hen, hhwt]

/-- The windows by their number and an offset (R517, R518). -/
theorem State.translate_window {w o : Nat} (n : Nat) (wr : Bool) (hen : s.is DM_HWT_CTL_EN = true) (hw : w < 16384) (ho : o < 2 ^ 50) :
    let base := (s.hwtWord (4 * w) + 2 ^ 32 * s.hwtWord (4 * w + 1)) / 4096 * 4096
    s.translate (w * 2 ^ 50 + o) n wr =
      if bitOf (s.hwtWord (4 * w + 3)) 0 = 1 ∧ o + n ≤ s.hwtWord (4 * w + 2) * 4096 ∧
        bitOf (s.hwtWord (4 * w + 3)) (if wr then 2 else 1) = 1 ∧ base + o + n ≤ 2 ^ 64
      then some (base + o) else none := by
  have hwin : (w * 2 ^ 50 + o) / 2 ^ 50 % 16384 = w := by omega
  have hofs : (w * 2 ^ 50 + o) % 2 ^ 50 = o := by omega
  unfold State.translate
  simp only [hen, hwin, hofs, Bool.not_true, Bool.false_eq_true, if_false, Bool.and_eq_true, decide_eq_true_eq, and_assoc]

theorem State.hwtWord_congr {t : State} {k : Nat} (h : t.dm.hwt.find k = s.dm.hwt.find k) : t.hwtWord k = s.hwtWord k := by
  unfold State.hwtWord
  rw [h]

theorem State.hwtWord_found {k v : Nat} (h : s.dm.hwt.find k = some v) : s.hwtWord k = v := by
  unfold State.hwtWord
  rw [h]
  rfl

end

/-- Settles O21: an entry stands in the table by the four insertions of `hwtCommit_full`. -/
theorem hostWindowEntries : Obligations.HostWindowEntries := by
  refine ⟨fun s v hword => ⟨s.hwtAccess (some v.toNat), rfl, ?_⟩,
    fun s v x0 x1 x2 hword hstaged => ⟨s.hwtAccess (some v.toNat), rfl, ?_⟩, fun s w o n wr hen hw ho => ?_⟩
  · rw [State.hwtAccess_stages v.toNat hword]
    refine ⟨State.translate_congr ?_ rfl, Tbl.find_ins_same _ _ _, (State.hwtAddrWord_p _).trans (Nat.mod_eq_of_lt (by omega))⟩
    exact congrArg (fun k : Nat => decide (k ≠ 0)) (State.g_p_reg _ _ (by decide))
  · have hdm := State.hwtAccess_commits_dm v.toNat hword
    rw [hstaged, hwtCommit_full] at hdm
    obtain ⟨hw, hi⟩ := State.hwtAccess_commits_moves v.toNat hword
    have hhwt := congrArg DmState.hwt hdm
    refine ⟨State.hwtWord_found ?_, State.hwtWord_found ?_, State.hwtWord_found ?_, State.hwtWord_found ?_,
      fun k hk => State.hwtWord_congr ?_, congrArg DmState.staged hdm, hw, hi⟩
    all_goals refine (congrArg (Tbl.find · _) hhwt).trans ?_
    · rw [Tbl.find_ins_other _ _ (by omega), Tbl.find_ins_other _ _ (by omega), Tbl.find_ins_same]
    · rw [Tbl.find_ins_other _ _ (by omega), Tbl.find_ins_same]
    · rw [Tbl.find_ins_same]
    · rw [Tbl.find_ins_other _ _ (by omega), Tbl.find_ins_other _ _ (by omega), Tbl.find_ins_other _ _ (by omega), Tbl.find_ins_same]
    · rw [Tbl.find_ins_other _ _ (by omega), Tbl.find_ins_other _ _ (by omega), Tbl.find_ins_other _ _ (by omega),
        Tbl.find_ins_other _ _ (by omega)]
  · intro base ok
    have h := State.translate_window n wr hen hw ho
    exact ⟨fun hok => h.trans (if_pos hok), fun hbad => h.trans (if_neg hbad)⟩

/-- Settles O31: each row is an equation above. -/
theorem dmaCommandsComplete : Obligations.DmaCommandsComplete :=
  ⟨fun _ _ hlock hon hbusy hhalt => exec_dmChGo_idle hlock hon hbusy hhalt, fun _ _ hlock => exec_dmaPause_unlocked hlock,
    fun _ _ hlock => exec_dmaUnpause_unlocked hlock,
    fun _ _ hlock hon hbusy hhalt => exec_shadowArm_idle hlock hon hbusy hhalt,
    fun _ _ hlock hon hchain hwait => exec_shadowArm_waits hlock hon hchain hwait,
    fun _ _ h => exec_peripheralRequest_used h, fun _ _ h => exec_peripheralRequest_unused h,
    fun _ _ h => exec_peripheralWithdraw_asserted false h, fun _ _ h => exec_peripheralWithdraw_asserted true h,
    fun _ v hword => congrArg Host.Outcome.next (State.hwtAccess_stages v.toNat hword),
    fun _ v hword => ⟨_, rfl, congrArg DmState.hwt (State.hwtAccess_commits_dm v.toNat hword),
      congrArg DmState.staged (State.hwtAccess_commits_dm v.toNat hword), State.hwtAccess_commits_moves v.toNat hword⟩,
    fun _ => ⟨_, rfl, State.hwtAccess_reads_rest.1, State.hwtAccess_reads_rest.2, State.hwtAccess_reads_word⟩⟩

end Sys2Proof.Machine

/-! PROOFS. The host memory cache (O34). -/

namespace Sys2Proof.Machine

open Reg

section
variable {s : State}

/-! Reads and writes (R482, R484, R497, R518). -/

section
variable {req : Fin 16} {addr : BitVec 64} {host : Nat}

/-- A read of one beat: the line is looked up, and the requester's stride tracker sees it. -/
def State.beatRead (s : State) (req host : Nat) : State :=
  (s.hcRead (host / 128) (.other req) 3).2.hcTrack req (host / 128) 0 (fun _ => true) (fun _ => 3)

section
variable (hreads : req.val ≠ 1) (haddr : s.reqAddr req.val (addr.toNat / 16 * 16) 16 false = some host)
include hreads haddr

theorem exec_cacheRead_good : exec (.cacheRead req addr false) s = .next (s.beatRead req.val host) := by
  refine congrArg Host.Outcome.next ?_
  rw [if_neg hreads, haddr]
  dsimp only
  cases s.hcFind (host / 128) <;> rfl

theorem exec_cacheRead_uncorrectable {i : Nat} {l : HcLine} (hline : s.hcFind (host / 128) = some (i, l)) (hfull : l.state = 2) :
    let u := (((s.hcDrop i).sat HC_UE_CNT_COUNT 1).note HC_STAT_LINE_UE 0x0C01 7 (pk [(128 * (host / 128), 64)])).hcOcc
    exec (.cacheRead req addr true) s = .next (u.beatRead req.val host) := by
  refine congrArg Host.Outcome.next ?_
  rw [if_neg hreads, haddr]
  dsimp only
  rw [hline]
  dsimp only
  rw [if_pos (by simp [hfull])]
  rfl

end

theorem exec_cacheWrite_within {len : Fin 129} (data : BitVec 1024) (h0 : req.val ≠ 0) (h2 : req.val ≠ 2) (hlen : 0 < len.val)
    (hline : addr.toNat % 128 + len.val ≤ 128) (haddr : s.reqAddr req.val addr.toNat len.val true = some host) :
    exec (.cacheWrite req addr len data) s = .next (s.hcWrite req.val host len.val data.toNat) := by
  refine congrArg Host.Outcome.next ((if_neg ?_).trans ?_)
  · simp only [Bool.or_eq_true, decide_eq_true_eq]
    omega
  · rw [haddr]

end

/-! Maintenance (R494). -/

section
variable (hidle : s.is HC_MAINT_BUSY = false)
include hidle

theorem State.maint_idle (hit : Nat → Bool) : s.maint hit = ((s.on HC_MAINT_BUSY).hcInval hit).maintDone :=
  if_neg (ne_true_of_eq_false hidle)

theorem doDrain_idle :
    let u := (s.on HC_MAINT_BUSY).wbIssue (fun _ => true)
    doDrain s = ({ u with hc := { u.hc with drain := some (u.hc.wb.map (fun (e : WbEntry) => e.id)) } } : State).maintDone :=
  if_neg (ne_true_of_eq_false hidle)

end

theorem State.maint_busy (hbusy : s.is HC_MAINT_BUSY = true) (hit : Nat → Bool) : s.maint hit = s := if_pos hbusy

end

/-- Settles O34: the three invalidations are `State.maint`, each with the lines it names. -/
theorem hostCacheCommandsComplete : Obligations.HostCacheCommandsComplete :=
  ⟨fun _ _ _ _ hreads haddr => exec_cacheRead_good hreads haddr,
    fun _ _ _ _ _ _ hreads haddr hline hfull => exec_cacheRead_uncorrectable hreads haddr hline hfull,
    fun _ _ _ _ data _ h0 h2 hlen hline haddr => exec_cacheWrite_within data h0 h2 hlen hline haddr,
    fun _ hidle => ⟨congrArg Host.Outcome.next (State.maint_idle hidle _), congrArg Host.Outcome.next (State.maint_idle hidle _),
      congrArg Host.Outcome.next (State.maint_idle hidle _)⟩,
    fun _ hidle => congrArg Host.Outcome.next (doDrain_idle hidle),
    fun _ hbusy => ⟨congrArg Host.Outcome.next (State.maint_busy hbusy _), congrArg Host.Outcome.next (State.maint_busy hbusy _),
      congrArg Host.Outcome.next (State.maint_busy hbusy _), congrArg Host.Outcome.next (if_pos hbusy)⟩⟩

end Sys2Proof.Machine

/-! PROOFS. Buffer memory: reads of words in error, the scrubbers, the rebuild of the directory, mode register 4 (O27), and
its check code (O19). -/

namespace Sys2Proof.Machine

open Reg

section
variable {s : State}

/-! BUFFER_READ (R530, R534–R538, R558, R701). -/

section
variable {addr : BitVec 64} {flips : BitVec 80} {row : Nat} {first : BitVec 64} {rank : Fin 2} {who : BufUser}

theorem exec_bufferRead_stopping (h : s.g BM_CTL_STATE = stStopping) :
    exec (.bufferRead addr flips row first rank who) s = .next (s.bufRefused addr.toNat who) :=
  congrArg Host.Outcome.next (if_pos h)

section
variable (hrun : s.g BM_CTL_STATE ≠ stStopping)
include hrun

theorem exec_bufferRead_outside (hout : s.bmBytes ≤ addr.toNat) : exec (.bufferRead addr flips row first rank who) s =
    .next ((s.fault BM_STAT_UE 9 1 0x0D02 addr.toNat).badWord addr.toNat who) := by
  have harg : pk [(addr.toNat, 64)] = addr.toNat := by simp [pk, Nat.mod_eq_of_lt addr.isLt]
  refine congrArg Host.Outcome.next ((if_neg hrun).trans ((if_pos hout).trans ?_))
  rw [harg]

variable (hin : addr.toNat < s.bmBytes)
include hin

theorem exec_bufferRead_early {core : Nat} (h : s.fetchEarly addr.toNat who = some core) :
    exec (.bufferRead addr flips row first rank who) s = .next (s.coreCheck core 2) := by
  refine congrArg Host.Outcome.next ((if_neg hrun).trans ((if_neg (Nat.not_le.mpr hin)).trans ?_))
  rw [h]

/-- The word read takes the error bits that have appeared, and its class decides. -/
theorem exec_bufferRead_word (h : s.fetchEarly addr.toNat who = none) :
    let u := (s.flip addr.toNat flips.toNat).eccNote addr.toNat rank.val
    let cls := (eccClass (u.bErr addr.toNat)).1
    exec (.bufferRead addr flips row first rank who) s =
      .next (if cls = 0 then u else if cls = 1 then u.rowNote row first.toNat else u.badWord addr.toNat who) := by
  intro u cls
  refine congrArg Host.Outcome.next ((if_neg hrun).trans ((if_neg (Nat.not_le.mpr hin)).trans ?_))
  rw [h]
  change (if cls = 1 then _ else if 2 ≤ cls then _ else u) = _
  rcases (by omega : cls = 0 ∨ cls = 1 ∨ 2 ≤ cls) with hc | hc | hc
  · rw [if_neg (by omega), if_neg (by omega), if_pos hc]
  · rw [if_pos hc, if_neg (by omega), if_pos hc]
  · rw [if_neg (by omega), if_pos hc, if_neg (by omega), if_neg (by omega)]

end

end

/-! The scrubbers (R540–R544). -/

/-- An address lies in the burst under the scrubber, on some channel. -/
def State.inBurst (s : State) (a : Nat) : Bool :=
  (upTo 4).any (fun c => decide (burstAddr s.bm.scrubAt c ≤ a) && decide (a < burstAddr s.bm.scrubAt c + 128))

theorem exec_scrubBurst_runs (flips : List (Nat × BitVec 80)) (row : Nat) (first : BitVec 64)
    (hon : s.g BM_CTL_STATE = stOn) (hperiod : 0 < s.g BM_SCRUB_CFG_PERIOD) (hsize : 0 < s.bmBytes) :
    let u := State.each (flips.filter (fun f => s.inBurst f.1)) (fun f t => t.flip f.1 f.2.toNat) s
    let v := State.each ((u.bm.err.filter (fun e => s.inBurst e.1)).map (·.1)) (fun a t => t.scrubWord a row first.toNat) u
    exec (.scrubBurst flips row first) s = .next (
      if s.bm.scrubAt + 1 < v.bmBytes / 512 then
        (v.bmU (fun b => { b with scrubAt := s.bm.scrubAt + 1 })).p BM_SCRUB_STAT_PCT ((s.bm.scrubAt + 1) * 100 / (v.bmBytes / 512))
      else (((v.inc BM_SCRUB_STAT_PASSES).off BM_SCRUB_STAT_PCT).on BM_STAT_SCRUB_DONE).bmU (fun b => { b with scrubAt := 0, rows := [] })) :=
  congrArg Host.Outcome.next (if_neg (by simp; omega))

section
variable (hen : s.is BM_SCRUB_CFG_SRAM_EN = true)
include hen

theorem exec_sramScrub_sample (c : Fin 32) (slot : Fin 4) :
    exec (.sramScrub (.sample c slot) false) s = .next ((s.sat BM_SRAM_CE_CNT_COUNT 1).on (CH_STAT_SMEM_CE c.val)) :=
  congrArg Host.Outcome.next (if_neg (by simp [hen]))

theorem exec_sramScrub_uncorrectable (w : SramWord) :
    let u := s.sat BM_SRAM_UE_CNT_COUNT 1
    exec (.sramScrub w true) s = .next ((u.free.2.fault BM_STAT_SRAM_UE 9 9 0x0D07 u.free.1).sramUe w) :=
  congrArg Host.Outcome.next (if_neg (by simp [hen]))

end

/-! The directory (R554) and mode register 4 (R529, R561). -/

theorem exec_edRebuildDone_held {v : Fin 64} (h : bitOf s.bm.hold v.val = 1) :
    let u := s.edSet (s.bm.ed.filter (fun x => decide (x.2.kind = kClean) || decide (x.2.vol ≠ v.val)))
    exec (.edRebuildDone v) s = .next ((State.each (u.jn.recs.filter (fun r =>
      r.typ == tData && r.durable && !r.retired && r.ready && r.vol == v.val)) (fun r t => t.dirPut r) u).bmU
        (fun b => { b with hold := clrBit b.hold v.val })) :=
  congrArg Host.Outcome.next (if_neg (by simp [h]))

theorem exec_mr4Poll_on {chan : Fin 4} (fine : Bool) (temp : BitVec 8) (hon : s.g BM_CTL_STATE = stOn) :
    let u := s.p ⟨BM_TEMP, 8 * chan.val, 8⟩ temp.toNat
    let above := decide (temp.toNat > u.g BM_CFG_TEMP_LIM)
    let v := u.bmU (fun b => { b with
      fine := if fine then setBit b.fine chan.val else clrBit b.fine chan.val
      hot := if above then setBit b.hot chan.val else clrBit b.hot chan.val })
    exec (.mr4Poll chan fine temp) s = .next (
      if above && decide (bitOf s.bm.hot chan.val ≠ 1) then v.note BM_STAT_TEMP_HIGH 0x0D05 9 0 else v) := by
  intro u above v
  refine congrArg Host.Outcome.next ((if_neg (not_not_intro hon)).trans ?_)
  rw [decide_not]
  rfl

end

/-- Settles O27: each row is an equation above. -/
theorem bufferMemoryCommandsComplete : Obligations.BufferMemoryCommandsComplete :=
  ⟨fun _ _ _ _ _ _ _ h => exec_bufferRead_stopping h, fun _ _ _ _ _ _ _ hrun hout => exec_bufferRead_outside hrun hout,
    fun _ _ _ _ _ _ _ _ hrun hin h => exec_bufferRead_early hrun hin h,
    fun _ _ _ _ _ _ _ hrun hin h => exec_bufferRead_word hrun hin h,
    fun _ flips row first hon hperiod hsize => exec_scrubBurst_runs flips row first hon hperiod hsize,
    fun _ c slot hen => exec_sramScrub_sample hen c slot, fun _ w hen => exec_sramScrub_uncorrectable hen w,
    fun _ _ h => exec_edRebuildDone_held h, fun _ _ fine temp hon => exec_mr4Poll_on fine temp hon⟩

/-! The check code (R532, R534). -/

/-- Data bits 15, 20 and 59 in error together have the syndrome of poison. -/
theorem eccSyn_three_poison : eccSyn (2 ^ 15 + 2 ^ 20 + 2 ^ 59) = 0xFFFF := by decide +kernel

/-- Refutes O19: R534's claim that the syndrome of poison differs from that of every error of up to three bits does not hold
for the code of R532. The word with bits 15, 20 and 59 in error is classified POISON, not UE; so is that with bits 4, 36
and 69 in error. -/
theorem not_checkCodeCorrectsTwoDetectsThree : ¬ Obligations.CheckCodeCorrectsTwoDetectsThree := by
  rintro ⟨-, -, -, hthree, -⟩
  have hpoison : eccClass (2 ^ 15 + 2 ^ 20 + 2 ^ 59) = (3, 0) := by
    unfold eccClass
    rw [eccSyn_three_poison]
    rfl
  have hue := hthree 15 20 59 (by decide) (by decide) (by decide)
  rw [hpoison] at hue
  exact absurd hue (by decide)

end Sys2Proof.Machine

/-! PROOFS. Rows of the command engine by kind of microword (O48, O49). -/

namespace Sys2Proof.Machine

open Reg

section
variable {s : State} {n mw w : Nat}

/-! A row of one kind of microword runs it where the context may run (R566, R575). -/

theorem State.mwOf_runs (h : s.MayRun n mw w) {kind : CtxState → Nat → Nat → Bool} (hkind : kind (s.mctx n) mw w = true) :
    s.mwOf n kind = (s.turnOn n).mwRun n mw w false := by
  obtain ⟨hon, hturn, htrap, hgood, hat, hlegal⟩ := h
  have hlegal' : (s.turnOn n).mwIllegal (s.mctx n) mw w = false := hlegal
  unfold State.mwOf
  simp only [hon, hturn, htrap, hgood, hat, hkind, hlegal', Bool.not_true, ne_eq, not_true_eq_false, decide_false, Option.isSome_none,
    Bool.or_false, Bool.false_eq_true, if_false]

/-- A row whose kind is a code of the microword or of the nanoword. -/
theorem next_mwOf_code {code : Nat → Nat → Nat} {k : Nat} (h : s.MayRun n mw w) (hcode : code mw w = k) :
    (Host.Outcome.next (s.mwOf n fun _ mw w => code mw w == k) : Host.Outcome State Fault Refusal) =
      .next ((s.turnOn n).mwRun n mw w false) :=
  congrArg Host.Outcome.next (State.mwOf_runs h (beq_iff_eq.mpr hcode))

/-- A row of a library service: its kind is a customer CALL into the library range with the service's TARGET. -/
theorem next_mwOf_lib {p : Nat → Bool} (h : s.MayRun n mw w) (hlib : isLib (s.mctx n) mw = true) (htarget : p (Image.mwTarget mw) = true) :
    (Host.Outcome.next (s.mwOf n fun c mw _ => isLib c mw && p (Image.mwTarget mw)) : Host.Outcome State Fault Refusal) =
      .next ((s.turnOn n).mwRun n mw w false) :=
  congrArg Host.Outcome.next (State.mwOf_runs h (Bool.and_eq_true_iff.mpr ⟨hlib, htarget⟩))

theorem next_mwOf_seq (k : Nat) (h : s.MayRun n mw w) (hseq : Image.mwSeq mw = k) :
    (Host.Outcome.next (s.mwOf n fun _ mw _ => Image.mwSeq mw == k) : Host.Outcome State Fault Refusal) =
      .next ((s.turnOn n).mwRun n mw w false) :=
  next_mwOf_code (code := fun mw _ => Image.mwSeq mw) h hseq

theorem next_mwOf_aluCode (k : Nat) (h : s.MayRun n mw w) (hcode : nwAlu w = k) :
    (Host.Outcome.next (s.mwOf n fun _ _ w => nwAlu w == k) : Host.Outcome State Fault Refusal) =
      .next ((s.turnOn n).mwRun n mw w false) :=
  next_mwOf_code (code := fun _ w => nwAlu w) h hcode

theorem next_mwOf_mem (k : Nat) (h : s.MayRun n mw w) (hmem : Image.nwMem w = k) :
    (Host.Outcome.next (s.mwOf n fun _ _ w => Image.nwMem w == k) : Host.Outcome State Fault Refusal) =
      .next ((s.turnOn n).mwRun n mw w false) :=
  next_mwOf_code (code := fun _ w => Image.nwMem w) h hmem

theorem next_mwOf_unit (k : Nat) (h : s.MayRun n mw w) (hunit : Image.nwUnit w = k) :
    (Host.Outcome.next (s.mwOf n fun _ _ w => Image.nwUnit w == k) : Host.Outcome State Fault Refusal) =
      .next ((s.turnOn n).mwRun n mw w false) :=
  next_mwOf_code (code := fun _ w => Image.nwUnit w) h hunit

theorem next_mwOf_target (k : Nat) (h : s.MayRun n mw w) (hlib : isLib (s.mctx n) mw = true) (htarget : Image.mwTarget mw = k) :
    (Host.Outcome.next (s.mwOf n fun c mw _ => isLib c mw && Image.mwTarget mw == k) : Host.Outcome State Fault Refusal) =
      .next ((s.turnOn n).mwRun n mw w false) :=
  next_mwOf_lib (p := (· == k)) h hlib (beq_iff_eq.mpr htarget)

theorem exec_tret_running {n : Fin 256} (h : s.MayRun n.val mw w) (hwait : (s.mctx n.val).wait ≠ .xlat) (hunit : Image.nwUnit w = 10) :
    exec (.tret n) s = .next ((s.turnOn n.val).mwRun n.val mw w false) :=
  congrArg Host.Outcome.next ((if_neg (by simp [hwait])).trans (State.mwOf_runs h (beq_iff_eq.mpr hunit)))

end

/-- Settles O48: the eight SEQ rows and the five library rows differ in their kind alone. -/
theorem sequencingRowsComplete : Obligations.SequencingRowsComplete :=
  ⟨fun _ _ _ _ => next_mwOf_seq 0, fun _ _ _ _ => next_mwOf_seq 1, fun _ _ _ _ => next_mwOf_seq 2,
    fun _ _ _ _ => next_mwOf_seq 3, fun _ _ _ _ => next_mwOf_seq 4,
    fun _ _ _ _ => next_mwOf_seq 5, fun _ _ _ _ => next_mwOf_seq 6, fun _ _ _ _ => next_mwOf_seq 7,
    fun _ _ _ _ => next_mwOf_target 0x0F00, fun _ _ _ _ => next_mwOf_target 0x0F01,
    fun _ _ _ _ => next_mwOf_target 0x0F02, fun _ _ _ _ => next_mwOf_target 0x0F03,
    fun _ _ _ _ h hl ht => next_mwOf_lib (p := fun t => decide (t ≥ 0x0F04)) h hl (decide_eq_true ht)⟩

/-- Settles O49: but for TRET, whose row first asks for a translation trap, the rows differ in their kind alone. -/
theorem nanowordRowsComplete : Obligations.NanowordRowsComplete :=
  ⟨fun _ _ _ _ => next_mwOf_aluCode 0, fun _ _ _ _ => next_mwOf_aluCode 1, fun _ _ _ _ => next_mwOf_aluCode 2,
    fun _ _ _ _ => next_mwOf_aluCode 3, fun _ _ _ _ => next_mwOf_aluCode 4,
    fun _ _ _ _ => next_mwOf_aluCode 5, fun _ _ _ _ => next_mwOf_aluCode 6, fun _ _ _ _ => next_mwOf_aluCode 7,
    fun _ _ _ _ => next_mwOf_aluCode 8, fun _ _ _ _ => next_mwOf_aluCode 9,
    fun _ _ _ _ => next_mwOf_aluCode 10, fun _ _ _ _ => next_mwOf_aluCode 11, fun _ _ _ _ => next_mwOf_aluCode 12,
    fun _ _ _ _ => next_mwOf_aluCode 13,
    fun _ _ _ _ => next_mwOf_mem 1, fun _ _ _ _ => next_mwOf_mem 2, fun _ _ _ _ => next_mwOf_mem 3,
    fun _ _ _ _ => next_mwOf_mem 4,
    fun _ _ _ _ => next_mwOf_unit 1, fun _ _ _ _ => next_mwOf_unit 2, fun _ _ _ _ => next_mwOf_unit 3,
    fun _ _ _ _ => next_mwOf_unit 4, fun _ _ _ _ => next_mwOf_unit 5,
    fun _ _ _ _ => next_mwOf_unit 6, fun _ _ _ _ => next_mwOf_unit 7, fun _ _ _ _ => next_mwOf_unit 8,
    fun _ _ _ _ => next_mwOf_unit 9,
    fun _ _ _ _ h hwait hunit => exec_tret_running h hwait hunit,
    fun _ _ _ _ => next_mwOf_unit 11, fun _ _ _ _ => next_mwOf_unit 12, fun _ _ _ _ => next_mwOf_unit 13⟩

end Sys2Proof.Machine

/-! PROOFS. The results and the flags of the rows of ALU codes (O18). -/

namespace Sys2Proof.Machine

open Reg

/-! The ALU (R573, R576). -/

@[simp] theorem CtxState.stepOn_reg (c : CtxState) (w k : Nat) : (c.stepOn w).reg k = c.reg k := by
  unfold CtxState.stepOn
  split <;> rfl

@[simp] theorem CtxState.stepOn_flags (c : CtxState) (w : Nat) :
    (c.stepOn w).z = c.z ∧ (c.stepOn w).n = c.n ∧ (c.stepOn w).c = c.c := by
  unfold CtxState.stepOn
  split <;> exact ⟨rfl, rfl, rfl⟩

@[simp] theorem CtxState.flags_reg (c : CtxState) (w : Nat) (r : Nat × Bool) (k : Nat) : (c.flags w r).reg k = c.reg k := by
  unfold CtxState.flags
  split <;> rfl

section
variable {c : CtxState} {w sqe v : Nat} (hmem : Image.nwMem w = 0) (hunit : Image.nwUnit w = 0)
include hmem hunit

/-- After a nanoword with no memory and no unit operation: the flags follow the result, which the destination register takes but
for CMP; then the wait ends. -/
theorem CtxState.after_alu : ∃ status jobs fail,
    let r := alu (nwAlu w) (c.reg (nwSrcA w)) (c.opB w sqe) (nwImm2 w)
    let x := c.flags w r
    c.after w sqe v = { if nwAlu w = 8 then x else x.setReg (nwDst w) r.1 with
      status := status, wait := .none, st := 1, jobRes := jobs, peFail := fail } := by
  unfold CtxState.after
  have hload : nwLoad w = false := by simp [nwLoad, hmem]
  have hstore : nwStore w = false := by simp [nwStore, hmem]
  simp only [hload, hstore, hunit, Bool.or_false, decide_eq_true_eq, Bool.false_eq_true, if_false, Nat.zero_ne_one, decide_false]
  split <;> exact ⟨_, _, _, rfl⟩

theorem CtxState.after_reg (k : Nat) : (c.after w sqe v).reg k =
    if nwAlu w ≠ 8 ∧ k = nwDst w then (alu (nwAlu w) (c.reg (nwSrcA w)) (c.opB w sqe) (nwImm2 w)).1 % 2 ^ 64 else c.reg k := by
  obtain ⟨status, jobs, fail, h⟩ := CtxState.after_alu (c := c) (sqe := sqe) (v := v) hmem hunit
  rw [h]
  by_cases h8 : nwAlu w = 8
  · rw [if_pos h8, if_neg (fun t => t.1 h8)]
    exact CtxState.flags_reg ..
  · rw [if_neg h8]
    refine (CtxState.setReg_reg ..).trans ?_
    simp [h8]

theorem CtxState.after_flags : let r := alu (nwAlu w) (c.reg (nwSrcA w)) (c.opB w sqe) (nwImm2 w)
    (c.after w sqe v).z = (c.flags w r).z ∧ (c.after w sqe v).n = (c.flags w r).n ∧ (c.after w sqe v).c = (c.flags w r).c := by
  obtain ⟨status, jobs, fail, h⟩ := CtxState.after_alu (c := c) (sqe := sqe) (v := v) hmem hunit
  rw [h]
  split
  · exact ⟨rfl, rfl, rfl⟩
  · exact ⟨CtxState.setReg_z .., CtxState.setReg_n .., CtxState.setReg_c ..⟩

end

section
variable {s : State} {n op mw w a b : Nat}

/-- The context once a microword of an ALU code has run (R576): its registers. -/
theorem State.aluRuns_reg (h : s.AluRuns n op mw w a b) (k : Nat) : (((s.turnOn n).mwRun n mw w false).mctx n).reg k =
    if op ≠ 8 ∧ k = nwDst w then (alu op a b (nwImm2 w)).1 % 2 ^ 64 else (s.mctx n).reg k := by
  obtain ⟨-, hseq, hmem, hunit, rfl, rfl, rfl, -, -⟩ := h
  rw [State.mwRun_next s n mw w hseq hmem hunit]
  exact (CtxState.stepOn_reg ..).trans (CtxState.after_reg hmem hunit k)

/-- Its flags. -/
theorem State.aluRuns_flagged (h : s.AluRuns n op mw w a b) :
    let c := ((s.turnOn n).mwRun n mw w false).mctx n
    let x := (s.mctx n).flags w (alu op a b (nwImm2 w))
    c.z = x.z ∧ c.n = x.n ∧ c.c = x.c := by
  obtain ⟨-, hseq, hmem, hunit, rfl, rfl, rfl, -, -⟩ := h
  intro c x
  have hc : c = _ := State.mwRun_next s n mw w hseq hmem hunit
  obtain ⟨z1, n1, c1⟩ := CtxState.after_flags (c := s.mctx n) (sqe := (s.cmd (s.mctx n).cmd).sqe) (v := (s.mctx n).memVal) hmem hunit
  obtain ⟨z2, n2, c2⟩ := CtxState.stepOn_flags ((s.mctx n).after w (s.cmd (s.mctx n).cmd).sqe (s.mctx n).memVal) w
  rw [hc]
  exact ⟨z2.trans z1, n2.trans n1, c2.trans c1⟩

theorem State.aluRuns_flags_set (h : s.AluRuns n op mw w a b) (hop : op ≠ 0) :
    let c := ((s.turnOn n).mwRun n mw w false).mctx n
    let r := alu op a b (nwImm2 w)
    c.z = decide (r.1 = 0) ∧ c.n = (bitOf r.1 63 == 1) ∧ c.c = r.2 := by
  have hx := State.aluRuns_flagged h
  obtain ⟨-, -, hmem, -, hcode, -⟩ := h
  have hflags (r : Nat × Bool) : (s.mctx n).flags w r = { s.mctx n with z := decide (r.1 = 0), n := bitOf r.1 63 == 1, c := r.2 } :=
    if_neg (by simp [hop, hcode, nwStore, hmem])
  rwa [hflags] at hx

theorem State.aluRuns_flags_kept (h : s.AluRuns n 0 mw w a b) :
    let c := ((s.turnOn n).mwRun n mw w false).mctx n
    c.z = (s.mctx n).z ∧ c.n = (s.mctx n).n ∧ c.c = (s.mctx n).c := by
  have hx := State.aluRuns_flagged h
  obtain ⟨-, -, -, -, hcode, -⟩ := h
  have hflags (r : Nat × Bool) : (s.mctx n).flags w r = s.mctx n := if_pos (by simp [hcode])
  rwa [hflags] at hx

theorem State.aluRuns_operands_lt (h : s.AluRuns n op mw w a b) : a < 2 ^ 64 ∧ b < 2 ^ 64 := by
  obtain ⟨-, -, -, -, -, -, -, ha, hb⟩ := h
  exact ⟨ha, hb⟩

/-- Bit 63 of a 64-bit number. -/
theorem bitOf_top {r : Nat} (h : r < 2 ^ 64) : (bitOf r 63 == 1) = decide (2 ^ 63 ≤ r) := by
  unfold bitOf
  rw [beq_eq_decide, decide_eq_decide]
  omega

/-- A code that sets the flags, of which `r` is the result and `carry` the carry. -/
theorem State.aluRuns_flagsFor (h : s.AluRuns n op mw w a b) (hop : op ≠ 0) {r : Nat} {carry : Bool}
    (halu : alu op a b (nwImm2 w) = (r, carry)) (hr : r < 2 ^ 64) : ((s.turnOn n).mwRun n mw w false).FlagsFor n r carry := by
  obtain ⟨hz, hn, hc⟩ := State.aluRuns_flags_set h hop
  rw [halu] at hz hn hc
  exact ⟨hz, hn.trans (bitOf_top hr), hc⟩

/-- A code that writes its result. -/
theorem State.aluRuns_result (h : s.AluRuns n op mw w a b) (hop : op ≠ 8) {r : Nat} {carry : Bool}
    (halu : alu op a b (nwImm2 w) = (r, carry)) (hr : r < 2 ^ 64) :
    (((s.turnOn n).mwRun n mw w false).mctx n).reg (nwDst w) = r := by
  rw [State.aluRuns_reg h, if_pos ⟨hop, rfl⟩, halu]
  exact Nat.mod_eq_of_lt hr

/-- A code that writes its result and sets the flags. -/
theorem State.aluRuns_both (h : s.AluRuns n op mw w a b) (h0 : op ≠ 0) (h8 : op ≠ 8) {r : Nat} {carry : Bool}
    (halu : alu op a b (nwImm2 w) = (r, carry)) (hr : r < 2 ^ 64) :
    (((s.turnOn n).mwRun n mw w false).mctx n).reg (nwDst w) = r ∧ ((s.turnOn n).mwRun n mw w false).FlagsFor n r carry :=
  ⟨State.aluRuns_result h h8 halu hr, State.aluRuns_flagsFor h h0 halu hr⟩

end

/-- The row of an ALU code answers the run of its microword. -/
theorem next_mwOf_alu {s : State} {n op mw w a b : Nat} (h : s.AluRuns n op mw w a b) :
    (Host.Outcome.next (s.mwOf n fun _ _ w => nwAlu w == op) : Host.Outcome State Fault Refusal) =
      .next ((s.turnOn n).mwRun n mw w false) :=
  congrArg Host.Outcome.next (State.mwOf_alu h)

/-- The borrow of a subtraction, as R576's two's complement. -/
theorem alu_sub {op a b k : Nat} (hop : op = 2 ∨ op = 8) (hb : b < 2 ^ 64) :
    alu op a b k = ((a + (2 ^ 64 - b)) % 2 ^ 64, decide (a < b)) := by
  have h : alu op a b k = aluSub a b := by rcases hop with rfl | rfl <;> rfl
  rw [h, aluSub, Nat.add_comm (2 ^ 64) a, Nat.add_sub_assoc (Nat.le_of_lt hb)]

theorem alu_shl {a b k : Nat} (hk : k ≤ 64) : alu 6 a b k = (b * 2 ^ k % 2 ^ 64, k != 0 && bitOf b (64 - k) == 1) := by
  show aluShl b (min k 65) = _
  rw [Nat.min_eq_left (by omega), aluShl, decide_eq_true hk, Bool.and_true, decide_not]
  rfl

theorem alu_shr {a b k : Nat} (hk : k ≤ 64) : alu 7 a b k = (b / 2 ^ k, k != 0 && bitOf b (k - 1) == 1) := by
  show aluShr b (min k 65) = _
  rw [Nat.min_eq_left (by omega), aluShr, decide_not]
  rfl

/-- Settles O18: each row's result and carry are those of `alu`. -/
theorem aluResultsAndFlags : Obligations.AluResultsAndFlags := by
  have hpos : 0 < 2 ^ 64 := by decide
  refine ⟨fun s n mw w a b h => ⟨_, next_mwOf_alu h, ?_⟩, fun s n mw w a b h => ⟨_, next_mwOf_alu h, ?_⟩,
    fun s n mw w a b h => ⟨_, next_mwOf_alu h, ?_⟩, fun s n mw w a b h => ⟨_, next_mwOf_alu h, ?_⟩,
    fun s n mw w a b h => ⟨_, next_mwOf_alu h, ?_⟩, fun s n mw w a b h => ⟨_, next_mwOf_alu h, ?_⟩,
    fun s n mw w a b h => ⟨_, next_mwOf_alu h, ?_⟩, fun s n mw w a b h => ⟨_, next_mwOf_alu h, ?_⟩,
    fun s n mw w a b k h hk hle => ⟨_, next_mwOf_alu h, ?_⟩, fun s n mw w a b k h hk hle => ⟨_, next_mwOf_alu h, ?_⟩⟩
  all_goals obtain ⟨ha, hb⟩ := State.aluRuns_operands_lt h
  · exact ⟨State.aluRuns_result h (by decide) rfl hb, State.aluRuns_flags_kept h⟩
  · exact State.aluRuns_both h (by decide) (by decide) rfl (Nat.mod_lt _ hpos)
  · exact State.aluRuns_both h (by decide) (by decide) (alu_sub (.inl rfl) hb) (Nat.mod_lt _ hpos)
  · exact ⟨fun k => (State.aluRuns_reg h k).trans (if_neg fun t => t.1 rfl),
      State.aluRuns_flagsFor h (by decide) (alu_sub (.inr rfl) hb) (Nat.mod_lt _ hpos)⟩
  · exact State.aluRuns_both h (by decide) (by decide) rfl (Nat.and_lt_two_pow _ hb)
  · exact State.aluRuns_both h (by decide) (by decide) rfl (Nat.or_lt_two_pow ha hb)
  · exact State.aluRuns_both h (by decide) (by decide) rfl (Nat.xor_lt_two_pow ha hb)
  · exact State.aluRuns_both h (by decide) (by decide) rfl (Nat.mod_lt _ hpos)
  · exact hk ▸ State.aluRuns_both h (by decide) (by decide) (alu_shl (hk ▸ hle)) (Nat.mod_lt _ hpos)
  · exact hk ▸ State.aluRuns_both h (by decide) (by decide) (alu_shr (hk ▸ hle)) (Nat.lt_of_le_of_lt (Nat.div_le_self _ _) hb)

end Sys2Proof.Machine

/-! PROOFS. Dispatch, microwords and traps, the end of waits, installation, and the store windows (O50). -/

namespace Sys2Proof.Machine

open Reg

section
variable {s : State}

/-! CONTEXT_DISPATCH (R564, R568, R595). -/

/-- A command not completed gets the context that is free, at its entry's micro-address. -/
theorem exec_contextDispatch_entry {id n : Nat} {c : Cmd} (hcmd : s.cm.table.find id = some c) (hruns : s.mcRuns = true)
    (hopen : c.status = none) (hctx : c.ctx = none) (hlib : c.lib = none)
    (hcust : 0xC0 ≤ c.opc → s.mc.install = none ∧ s.g MC_OCC_CUST < s.custMax)
    (hentry : bitOf (s.mc.disp.getD c.opc 0) 14 = 1) (hpick : s.ctxPick = some n) : exec (.contextDispatch id) s =
      .next ((s.cmdUp id (fun x => { x with late3 := false })).ctxStart id n (s.mc.disp.getD c.opc 0)) := by
  refine congrArg Host.Outcome.next ?_
  rw [hcmd]
  dsimp only
  refine (if_neg ?_).trans ((if_neg (by omega)).trans ((if_neg ?_).trans ?_))
  · rw [hruns, hopen, hctx, hlib]
    by_cases h : 0xC0 ≤ c.opc
    · simp [(hcust h).1]
    · simp [h]
  · by_cases h : 0xC0 ≤ c.opc
    · simp [(hcust h).2]
    · simp [h]
  · rw [hpick]

/-! Microwords and traps (R566, R573, R575, R585, R586). -/

section
variable {n : Fin 256} (hon : s.mcOn = true)
include hon

section
variable (imgUe : Bool) (hbusy : (s.mctx n.val).busy = true) (hheld : s.ctxHeld (s.mctx n.val) = false)
include hbusy hheld

theorem exec_microwordExecute_runs {mw w : Nat} :
    let u := s.trapSift n.val
    let c := u.mctx n.val
    c.trapDue = none → c.level = false → u.seqTurn (n.val % 8) = some n.val → u.mwUe c = none → u.mwAt c = (mw, w) →
    (u.turnOn n.val).mwIllegal c mw w = false →
    exec (.microwordExecute n imgUe) s = .next ((u.turnOn n.val).mwRun n.val mw w false) := by
  intro u c htrap hlevel hturn hgood hat hlegal
  refine congrArg Host.Outcome.next ((if_neg (by simp [hon, hbusy, hheld])).trans ?_)
  change (match c.trapDue with | some tr => _ | none => _) = _
  rw [htrap]
  refine (if_neg (ne_true_of_eq_false hlevel)).trans ((if_neg (not_not_intro hturn)).trans ?_)
  change (match u.mwUe c with | some key => _ | none => _) = _
  rw [hgood]
  dsimp only
  rw [hat]
  exact if_neg (ne_true_of_eq_false hlegal)

theorem exec_microwordExecute_traps {tr : Trap} (htrap : ((s.trapSift n.val).mctx n.val).trapDue = some tr) :
    exec (.microwordExecute n imgUe) s = .next ((s.trapSift n.val).trapRun n.val tr) := by
  refine congrArg Host.Outcome.next ((if_neg (by simp [hon, hbusy, hheld])).trans ?_)
  dsimp only
  rw [htrap]

end

/-! The end of waits (R573, R574, R586). -/

section
variable (hwaits : (s.mctx n.val).st = 2) (hheld : s.ctxHeld (s.mctx n.val) = false) (htrap : (s.mctx n.val).trapDue = none)
include hwaits hheld htrap

theorem exec_waitEventDone_occurred {mw w : Nat} (hwait : (s.mctx n.val).wait = .event) (hat : s.mwAt (s.mctx n.val) = (mw, w))
    (hmet : s.waitMet (s.mctx n.val) w = true ∨ nwWaitEv w = 3) :
    exec (.waitEventDone n) s = .next (s.mwRun n.val mw w true) := by
  refine congrArg Host.Outcome.next ?_
  dsimp only
  rw [hat]
  refine (if_neg (by simp [hon, hwaits, hheld, htrap])).trans ((if_pos hwait).trans (if_pos ?_))
  simpa using hmet

theorem exec_waitEventDone_resumes (hwait : (s.mctx n.val).wait = .xlat)
    (hok : s.dFaulted (bitsOf (s.mctx n.val).frame 256 6) = false) :
    exec (.waitEventDone n) s = .next (s.mctxUp n.val CtxState.tret) := by
  refine congrArg Host.Outcome.next ((if_neg (by simp [hon, hwaits, hheld, htrap])).trans ?_)
  exact (if_neg (by simp [hwait])).trans ((if_neg (by simp [hwait])).trans ((if_pos hwait).trans (if_neg (ne_true_of_eq_false hok))))

end

theorem exec_tret_resumes (hlevel : (s.mctx n.val).level = true) (hwait : (s.mctx n.val).wait = .xlat)
    (htrap : (s.mctx n.val).trapDue = none) (hok : s.dFaulted (bitsOf (s.mctx n.val).frame 256 6) = false) :
    exec (.tret n) s = .next (s.mctxUp n.val CtxState.tret) :=
  congrArg Host.Outcome.next ((if_pos (by simp [hon, hlevel, hwait, htrap])).trans (if_neg (ne_true_of_eq_false hok)))

end

/-! MICRO_IMAGE_INSTALL (R595) and the store windows (R600). -/

theorem exec_microImageInstall_idle {b : Nat} (himg : s.mc.install = some b)
    (hidle : s.mc.ctx.any (fun x => x.2.busy && x.2.cust) = false) :
    let a := s.pair MC_IMG_BASE_LO MC_IMG_BASE_HI
    let u := s.bWr a 40960 b
    let v := (u.custWrite (u.bRd a 40960)).mcU (fun m => { m with install := none, stored := some b })
    exec .microImageInstall s = .next ((v.custShow b).note MC_STAT_LOAD_OK 0x0E04 13 0) := by
  refine congrArg Host.Outcome.next ?_
  rw [himg]
  exact if_neg (ne_true_of_eq_false hidle)

theorem exec_storeDataRead_micro :
    let a := s.g MC_STORE_ADDR_ADDR
    s.is MC_STORE_ADDR_STORE = false → s.mc.ue.contains a = false →
    let v := BitVec.ofNat 32 (s.mc.micro.getD a 0)
    exec .storeDataRead s = .next ((({ s with rdata := v }.wr MC_STORE_DATA v).off MC_STORE_ADDR_WORD).p MC_STORE_ADDR_ADDR (a + 1)) := by
  intro a hstore hgood v
  refine congrArg Host.Outcome.next ?_
  unfold State.storeRead
  rw [hstore]
  dsimp only
  rw [if_neg Bool.false_ne_true, show s.mc.ue.contains (s.g MC_STORE_ADDR_ADDR) = false from hgood]
  rfl

end

/-- Settles O50: a vendor's command is dispatched as a customer's is, but for the customer's limits. -/
theorem engineCommandsComplete : Obligations.EngineCommandsComplete :=
  ⟨fun _ _ _ _ hcmd hruns hopen hctx hlib hvendor hentry hpick =>
      exec_contextDispatch_entry hcmd hruns hopen hctx hlib (fun h => absurd hvendor (Nat.not_lt.mpr h)) hentry hpick,
    fun _ _ _ _ hcmd hruns hopen hctx hlib _ himg hentry hroom hpick =>
      exec_contextDispatch_entry hcmd hruns hopen hctx hlib (fun _ => ⟨himg, hroom⟩) hentry hpick,
    fun _ _ imgUe _ _ hon hbusy hheld => exec_microwordExecute_runs hon imgUe hbusy hheld,
    fun _ _ imgUe _ hon hbusy hheld htrap => exec_microwordExecute_traps hon imgUe hbusy hheld htrap,
    fun _ _ _ _ hon hwaits hheld htrap hwait hat hmet => exec_waitEventDone_occurred hon hwaits hheld htrap hwait hat hmet,
    fun _ _ hon hwaits hheld htrap hwait hok => exec_waitEventDone_resumes hon hwaits hheld htrap hwait hok,
    fun _ _ hon hlevel hwait htrap hok => exec_tret_resumes hon hlevel hwait htrap hok,
    fun _ _ himg hidle => exec_microImageInstall_idle himg hidle, fun _ => rfl, fun _ => rfl,
    fun _ => exec_storeDataRead_micro⟩

end Sys2Proof.Machine

/-! PROOFS. Feeds, hold-up, regulator chains, and the standby test (O55). -/

namespace Sys2Proof.Machine

open Reg

section
variable {s : State}

/-! Feeds and hold-up (R602–R604). The measured voltage is a register; the feed's own record is as it was. -/

theorem exec_feedLoss_present {v : BitVec 11} (h : s.pw.lostB = false) :
    exec (.feedLoss true v) s = .next ((((s.feedVolt true v.toNat).pwU (fun p => { p with
      lostB := true, feedDue := setBit p.feedDue 1 })).feedShow true).note PW_STAT_FEED_B_LOST 0x1001 2 (pk [(1, 1)])) :=
  congrArg Host.Outcome.next (if_neg (ne_true_of_eq_false h))

theorem exec_feedReturn_held {v : BitVec 11} (hdue : bitOf s.pw.feedDue 0 = 0) (hlost : s.pw.lostA = true) :
    exec (.feedReturn false true v) s =
      .next (((s.feedVolt false v.toNat).pwU (fun p => { p with lostA := false })).feedShow false) := by
  have hnot : ¬ bitOf (s.feedVolt false v.toNat).pw.feedDue (b2n false) = 1 := by
    have h : bitOf (s.feedVolt false v.toNat).pw.feedDue (b2n false) = 0 := hdue
    omega
  refine congrArg Host.Outcome.next ?_
  dsimp only
  rw [if_neg hnot]
  exact if_pos hlost

theorem exec_feedReturn_late {v : BitVec 11} (hdue : bitOf s.pw.feedDue 0 = 1) :
    exec (.feedReturn false false v) s = .next ((((s.feedVolt false v.toNat).pwU (fun p => { p with
      feedDue := clrBit p.feedDue 0 })).sat PW_LATE_CNT_FEED 1).note PW_STAT_FEED_LATE 0x1009 2 (pk [(0, 1)])) :=
  congrArg Host.Outcome.next ((if_neg (by simp)).trans (if_pos hdue))

theorem exec_feedOvervoltage_connected {v : BitVec 11} (h : s.pw.isoA = false) :
    exec (.feedOvervoltage false v) s = .next ((((s.feedVolt false v.toNat).pwU (fun p => { p with isoA := true })).feedShow
      false).fault PW_STAT_FEED_A_OV 2 2 0x1002 (pk [(0, 1)])) :=
  congrArg Host.Outcome.next (if_neg (ne_true_of_eq_false h))

theorem exec_feedOvRecover_isolated {v : BitVec 11} (h : s.pw.isoB = true) :
    exec (.feedOvRecover true v) s =
      .next (((s.feedVolt true v.toNat).pwU (fun p => { p with isoB := false })).feedShow true) :=
  congrArg Host.Outcome.next (if_pos h)

theorem exec_powerFailSignal_raised (hfail : s.pw.powerFail = false) (hmode : s.mode ≠ mOff)
    (hlost : (s.pw.lostA = true ∧ s.pw.lostB = true) ∨ s.pw.stbyDead = true) :
    exec .powerFailSignal s = .next (((s.pwU (fun p => { p with powerFail := true })).raise 0x100D 2 0).rectify) := by
  have hsupply : ((s.pw.lostA && s.pw.lostB) || s.pw.stbyDead) = true := by simpa using hlost
  exact congrArg Host.Outcome.next (if_neg (by simp only [hfail, hmode, hsupply]; decide))

/-! Regulator chains (R610–R617): what the pending job makes of the two signals of the starting chain. -/

theorem exec_chainFail_running (hmode : s.mode ≠ mOff) (hgap : s.is PW_CHAIN_GAP = false) (hfail : s.pw.powerFail = false) :
    exec (.chainFail false) s = .next ((((s.pwU (fun p => { p with chainLate := true })).sat PW_SW_CNT_FAILS 1).fault
      PW_STAT_CHAIN_FAIL 2 4 0x1003 0).gapStart false) :=
  congrArg Host.Outcome.next ((if_neg Bool.false_ne_true).trans (if_neg (by simp [hmode, hgap, hfail])))

theorem exec_standbyRegulated_gap {us : BitVec 10} {f : Bool} (hjob : s.pw.job = .gap f)
    (hstart : s.g (chainState s.pw.jobChain) = 2) (hdead : s.pw.stbyDead = false) :
    exec (.standbyRegulated us) s = .next
      ((((s.pwU (fun p => { p with job := .none })).chainFlip).gapEnd.off PW_CMD_BUSY).note PW_STAT_SWITCHED 0x1004 2 0) := by
  refine congrArg Host.Outcome.next ?_
  rw [hjob]
  exact if_pos (by simp [hstart, hdead])

theorem exec_standbyRegulated_test {us : BitVec 10} (hjob : s.pw.job = .testStart) :
    exec (.standbyRegulated us) s = .next (((s.pwU (fun p => { p with job := .testLoad })).p (chainState s.pw.jobChain) 3).p
      PW_TEST_T_REG us.toNat) := by
  refine congrArg Host.Outcome.next ?_
  rw [hjob]

theorem exec_standbyRegulated_resync {us : BitVec 10} (hjob : s.pw.job = .resyncStart) :
    exec (.standbyRegulated us) s =
      .next ((s.pwU (fun p => { p with job := .resyncHold })).p PW_TEST_T_REG us.toNat) := by
  refine congrArg Host.Outcome.next ?_
  rw [hjob]

theorem exec_standbyTimeout_gap {f : Bool} (hjob : s.pw.job = .gap f) (hdead : s.pw.stbyDead = false) :
    exec .standbyTimeout s = .next ((((s.pwU (fun p => { p with job := .none, stbyDead := true, stbyLate := true })).p
      (chainState s.pw.jobChain) 5).off PW_CMD_BUSY).fault PW_STAT_STBY_FAIL 2 6 0x1005 0) := by
  refine congrArg Host.Outcome.next ?_
  rw [hjob]
  exact if_neg (ne_true_of_eq_false hdead)

theorem exec_resyncTimer_due (hauto : s.is PW_CFG_AUTO_RESYNC = true) (hdone : s.pw.autoDone = false)
    (hfailed : s.g (chainState s.standby) = 5) (hjob : s.pw.job = .none) (hheld : s.timersHeld = false) (hmode : s.mode ≠ mOff) :
    exec .resyncTimer s = .next ((s.pwU (fun p => { p with autoDone := true })).resyncStart) :=
  congrArg Host.Outcome.next (if_pos (by simp [hauto, hdone, hfailed, hjob, hheld, hmode]))

theorem exec_resyncHoldDone_holding {ok : Bool} (hjob : s.pw.job = .resyncHold) :
    exec (.resyncHoldDone ok) s = .next (s.resyncEnd (if ok then 1 else 3)) :=
  congrArg Host.Outcome.next (if_pos hjob)

theorem exec_testStandbyLoadDone_loaded (ok : Bool) (hjob : s.pw.job = .testLoad) :
    exec (.testStandbyLoadDone ok) s = .next (
      if ok then
        let u := (s.p (chainState (s.g PW_CHAIN_ACTIVE)) 0).chainFlip
        (((u.pwU (fun p => { p with job := .none, passAt := u.g EV_HOURS_HOURS })).p PW_TEST_RESULT 1).off PW_TEST_HOURS).off
          PW_CMD_BUSY
      else s.testFail 3) :=
  congrArg Host.Outcome.next (if_neg (by simp [hjob]))

/-! The commands of PW_CMD (R628): with no job, in a mode and with a chain that allow it, none is refused. -/

theorem State.pwRefuse_none {modeOk needHold : Bool} {st : Nat} (hjob : s.pw.job = .none) (hmode : modeOk = true)
    (hchain : s.g (chainState s.standby) = st) (hhold : needHold = true → s.is PW_HOLDUP_OK = true) :
    s.pwRefuse modeOk st needHold = 0 := by
  refine (if_neg (by simp [hjob])).trans ((if_neg (by simp [hmode])).trans ((if_neg (by simp [hchain])).trans (if_neg ?_)))
  cases needHold with
  | false => simp
  | true => simp [hhold rfl]

theorem exec_testStandby_starts (hbusy : s.is PW_CMD_BUSY = false) (hjob : s.pw.job = .none)
    (hmode : s.mode = mService ∨ s.mode = mMaint) (hchain : s.g (chainState s.standby) = 0) :
    exec .testStandby s = .next ((s.p PW_CMD_ERR 0).testStart) := by
  have hserve : s.serving = true := by simpa [State.serving] using hmode
  have hnone : s.pwRefuse s.serving 0 false = 0 := State.pwRefuse_none hjob hserve hchain (by simp)
  refine congrArg Host.Outcome.next ((if_neg (ne_true_of_eq_false hbusy)).trans ?_)
  rw [hnone]
  exact if_pos rfl

theorem exec_forceSwitch_starts (hbusy : s.is PW_CMD_BUSY = false) (hjob : s.pw.job = .none) (hmode : s.mode = mMaint)
    (hchain : s.g (chainState s.standby) = 0) (hhold : s.is PW_HOLDUP_OK = true) :
    exec .forceSwitch s = .next (((s.p PW_CMD_ERR 0).fault PW_STAT_CHAIN_FAIL 2 4 0x1003 0).gapStart true) := by
  have hnone : s.pwRefuse (decide (s.mode = mMaint)) 0 true = 0 :=
    State.pwRefuse_none hjob (decide_eq_true hmode) hchain (fun _ => hhold)
  refine congrArg Host.Outcome.next ((if_neg (ne_true_of_eq_false hbusy)).trans ?_)
  rw [hnone]
  exact if_pos rfl

theorem exec_pwResync_starts (hbusy : s.is PW_CMD_BUSY = false) (hjob : s.pw.job = .none)
    (hchain : s.g (chainState s.standby) = 5) :
    exec .pwResync s = .next ((s.p PW_CMD_ERR 0).resyncStart) := by
  have hnone : s.pwRefuse true 5 false = 0 := State.pwRefuse_none hjob rfl hchain (by simp)
  refine congrArg Host.Outcome.next ((if_neg (ne_true_of_eq_false hbusy)).trans ?_)
  rw [hnone]
  exact if_pos rfl

end

/-- Settles O55: the condition of each row decides its guard, and a pending job the case of the chain's signals. -/
theorem feedAndChainCommandsComplete : Obligations.FeedAndChainCommandsComplete :=
  ⟨fun _ _ h => exec_feedLoss_present h, fun _ _ hdue hlost => exec_feedReturn_held hdue hlost,
    fun _ _ hdue => exec_feedReturn_late hdue, fun _ _ h => exec_feedOvervoltage_connected h,
    fun _ _ h => exec_feedOvRecover_isolated h, fun _ hfail hmode hlost => exec_powerFailSignal_raised hfail hmode hlost,
    fun _ _ => rfl, fun _ _ => rfl, fun _ hmode hgap hfail => exec_chainFail_running hmode hgap hfail,
    fun _ _ _ hjob hstart hdead => exec_standbyRegulated_gap hjob hstart hdead,
    fun _ _ hjob => exec_standbyRegulated_test hjob, fun _ _ hjob => exec_standbyRegulated_resync hjob,
    fun _ _ hjob hdead => exec_standbyTimeout_gap hjob hdead,
    fun _ hauto hdone hfailed hjob hheld hmode => exec_resyncTimer_due hauto hdone hfailed hjob hheld hmode,
    fun _ _ hjob => exec_resyncHoldDone_holding hjob,
    fun _ hbusy hjob hmode hchain => exec_testStandby_starts hbusy hjob hmode hchain,
    fun _ hjob => ⟨exec_testStandbyLoadDone_loaded true hjob, exec_testStandbyLoadDone_loaded false hjob⟩,
    fun _ hbusy hjob hmode hchain hhold => exec_forceSwitch_starts hbusy hjob hmode hchain hhold,
    fun _ hbusy hjob hchain => exec_pwResync_starts hbusy hjob hchain⟩

end Sys2Proof.Machine

/-! PROOFS. Modes, the timebase source, the idle limits and their timers (O13, O57). -/

namespace Sys2Proof.Machine

open Reg

section
variable {s : State}

/-! Mode transitions (R631, R636). MD_CMD.ERR shares no register with the mode, so what is asked of the mode holds after
it is shown. -/

theorem State.mode_p_cmdErr (s : State) (e : Nat) : (s.p MD_CMD_ERR e).mode = s.mode := State.g_p_reg s e (by decide)

theorem State.bootEnd_clear {target : Nat} (h : s.md.safeReq = 0) :
    s.bootEnd target = s.goMode (if s.md.pfrBad then mMaint else target) := if_neg (by simp [h])

section
variable (hheld : s.is MD_MODE_HELD = false) (hrest : s.md.rest = .awake)
include hheld hrest

theorem exec_gotoService_maint (hmode : s.mode = mMaint) : exec .gotoService s = .next
    (State.each (upTo 8) (fun a t => t.off (SV_TSI_CTL_EN a)) ((s.p MD_CMD_ERR 0).goMode mService)).idleZero := by
  show Host.Outcome.next s.gotoService = _
  simp only [State.gotoService, hheld, hrest, hmode, State.mode_p_cmdErr]
  rfl

theorem exec_gotoService_boot (hmode : s.mode = mBoot) (hreq : s.md.safeReq = 0) :
    exec .gotoService s = .next ((s.p MD_CMD_ERR 0).goMode (if s.md.pfrBad then mMaint else mService)) := by
  have hend : (s.p MD_CMD_ERR 0).bootEnd mService = (s.p MD_CMD_ERR 0).goMode (if s.md.pfrBad then mMaint else mService) := by
    rw [State.bootEnd_clear (by rw [State.p_md]; exact hreq), State.p_md]
  rw [← hend]
  show Host.Outcome.next s.gotoService = _
  simp only [State.gotoService, hheld, hrest, hmode, State.mode_p_cmdErr]
  rfl

theorem exec_gotoMaint_boot (hmode : s.mode = mBoot) (hreq : s.md.safeReq = 0) :
    exec .gotoMaint s = .next ((s.p MD_CMD_ERR 0).goMode mMaint) := by
  have hend : (s.p MD_CMD_ERR 0).bootEnd mMaint = (s.p MD_CMD_ERR 0).goMode mMaint := by
    rw [State.bootEnd_clear (by rw [State.p_md]; exact hreq), ite_self]
  rw [← hend]
  show Host.Outcome.next s.gotoMaint = _
  simp only [State.gotoMaint, hheld, hrest, hmode]
  rfl

theorem exec_gotoMaint_service (hmode : s.mode = mService) :
    exec .gotoMaint s = .next (((s.p MD_CMD_ERR 0).goMode mMaint).idleZero) := by
  show Host.Outcome.next s.gotoMaint = _
  simp only [State.gotoMaint, hheld, hrest, hmode]
  rfl

theorem exec_gotoMaint_safe (hmode : s.mode = mSafe) (hcause : s.g SF_CAUSE_CAUSE = 0) (hl3 : s.unackedL3 = false) :
    exec .gotoMaint s = .next (s.p MD_CMD_ERR 0).safeExit := by
  show Host.Outcome.next s.gotoMaint = _
  simp only [State.gotoMaint, hheld, hrest, hmode, hcause, hl3]
  rfl

theorem exec_gotoRest_service (hmode : s.mode = mService) :
    exec .gotoRest s = .next (((s.p MD_CMD_ERR 0).mdU (fun m => { m with gotoRest := true })).idleStep) := by
  show Host.Outcome.next s.gotoRest = _
  simp only [State.gotoRest, hheld, hrest, hmode]
  rfl

theorem exec_gotoService_refused (hmode : s.mode ≠ mBoot ∧ s.mode ≠ mMaint) :
    exec .gotoService s = .next (s.p MD_CMD_ERR 1) := by
  show Host.Outcome.next s.gotoService = _
  simp only [State.gotoService, hheld, hrest, hmode.1, hmode.2]
  rfl

theorem exec_gotoRest_refused (hmode : s.mode ≠ mService) : exec .gotoRest s = .next (s.p MD_CMD_ERR 1) := by
  show Host.Outcome.next s.gotoRest = _
  simp only [State.gotoRest, hheld, hrest, hmode]
  rfl

end

theorem exec_goto_held (hheld : s.is MD_MODE_HELD = true) : exec .gotoService s = .next (s.p MD_CMD_ERR 2) ∧
    exec .gotoMaint s = .next (s.p MD_CMD_ERR 2) ∧ exec .gotoRest s = .next (s.p MD_CMD_ERR 2) := by
  refine ⟨congrArg Host.Outcome.next ?_, congrArg Host.Outcome.next ?_, congrArg Host.Outcome.next ?_⟩
  · simp only [State.gotoService, hheld]
    rfl
  · simp only [State.gotoMaint, hheld]
    rfl
  · simp only [State.gotoRest, hheld]
    rfl

/-! The request for SAFE (R634, R636). -/

theorem State.enterSafe_running {src : Nat} (hmode : s.mode = mService ∨ s.mode = mMaint) (hrest : s.md.rest = .awake) :
    s.enterSafe src = s.safeNow src := by
  unfold State.enterSafe
  rcases hmode with h | h
  · simp only [h, hrest]
    rfl
  · simp only [h, hrest]
    rfl

theorem State.enterSafe_boot {src : Nat} (hmode : s.mode = mBoot) (hreq : s.md.safeReq = 0) :
    s.enterSafe src = (s.mdU (fun m => { m with safeReq := src })).on MD_STAT_SAFE := by
  unfold State.enterSafe
  simp only [hmode, hreq]
  rfl

theorem State.enterSafe_safe {src : Nat} (hmode : s.mode = mSafe ∨ s.mode = mOff) : s.enterSafe src = s := by
  unfold State.enterSafe
  rcases hmode with h | h
  · simp only [h]
    rfl
  · simp only [h]
    rfl

/-! The timebase source (R32, R638). -/

theorem State.tbAsk_locked (hsw : s.switched = false) (hlock : s.is MD_TB_LOCK = true) : s.tbAsk = s.tbSwitch :=
  (if_neg (ne_true_of_eq_false hsw)).trans (if_pos hlock)

theorem State.tbAsk_unlocked (hsw : s.switched = false) (hlock : s.is MD_TB_LOCK = false) : s.tbAsk = s.on MD_TB_REFUSED :=
  (if_neg (ne_true_of_eq_false hsw)).trans (if_neg (ne_true_of_eq_false hlock))

theorem exec_crystalLock_on (hmode : s.mode ≠ mOff) : exec .crystalLock s = .next
    (if s.bt.wantSwitch then (s.on MD_TB_LOCK).romLink else s.on MD_TB_LOCK) :=
  congrArg Host.Outcome.next (if_neg hmode)

end

/-- Settles O57: each command by the mode it finds, its reason in MD_CMD.ERR shown first. -/
theorem modeTransitionCommandsComplete : Obligations.ModeTransitionCommandsComplete :=
  ⟨fun _ hheld hrest hmode => exec_gotoService_maint hheld hrest hmode,
    fun _ hheld hrest hmode hreq => ⟨exec_gotoService_boot hheld hrest hmode hreq, exec_gotoMaint_boot hheld hrest hmode hreq⟩,
    fun _ hheld hrest hmode => ⟨exec_gotoMaint_service hheld hrest hmode, exec_gotoRest_service hheld hrest hmode,
      exec_gotoService_refused hheld hrest (by rw [hmode]; decide)⟩,
    fun _ hheld hrest hmode hcause hl3 => exec_gotoMaint_safe hheld hrest hmode hcause hl3,
    fun _ hheld hrest hmode => ⟨exec_gotoService_refused hheld hrest (by rw [hmode]; decide),
      exec_gotoRest_refused hheld hrest (by rw [hmode]; decide)⟩,
    fun _ hheld => exec_goto_held hheld, fun _ _ hmode hrest => congrArg Host.Outcome.next (State.enterSafe_running hmode hrest),
    fun _ _ hmode hreq => congrArg Host.Outcome.next (State.enterSafe_boot hmode hreq),
    fun _ _ hmode => congrArg Host.Outcome.next (State.enterSafe_safe hmode),
    fun _ hsw hlock => congrArg Host.Outcome.next (State.tbAsk_locked hsw hlock),
    fun _ hsw hlock => congrArg Host.Outcome.next (State.tbAsk_unlocked hsw hlock),
    fun _ hmode hwant => (exec_crystalLock_on hmode).trans (congrArg Host.Outcome.next (if_neg (ne_true_of_eq_false hwant))),
    fun _ hmode hwant => (exec_crystalLock_on hmode).trans (congrArg Host.Outcome.next (if_pos hwant)),
    fun _ _ _ _ => rfl, fun _ => rfl⟩

/-! The idle timers stand behind the window MD_IDLE_CFG (R661). -/

theorem regFields_idleCfg : regFields MD_IDLE_CFG = some [⟨0, 4, .rw, 0⟩, ⟨4, 2, .rw, 0⟩, ⟨8, 24, .rw, 0x32⟩] := by
  decide +kernel

/-- The three fields of the window after a write of GROUP `g`, LEVEL `l` and TIME `t`. -/
def State.idleCfgShown (s : State) (g l t : Nat) : State := ((s.p MD_IDLE_CFG_GROUP g).p MD_IDLE_CFG_LEVEL l).p MD_IDLE_CFG_TIME t

theorem State.idleCfgShown_fields (s : State) {g l t : Nat} (hg : g < 16) (hl : l < 4) (ht : t < 2 ^ 24) :
    (s.idleCfgShown g l t).g MD_IDLE_CFG_GROUP = g ∧ (s.idleCfgShown g l t).g MD_IDLE_CFG_LEVEL = l ∧
    (s.idleCfgShown g l t).g MD_IDLE_CFG_TIME = t := by
  unfold State.idleCfgShown
  refine ⟨?_, ?_, ?_⟩
  · rw [State.g_p_field (f := MD_IDLE_CFG_TIME) (r := MD_IDLE_CFG_GROUP) _ _ rfl (by decide) (by decide),
      State.g_p_field (f := MD_IDLE_CFG_LEVEL) (r := MD_IDLE_CFG_GROUP) _ _ rfl (by decide) (by decide),
      State.g_p_same _ _ _ (by decide)]
    exact Nat.mod_eq_of_lt hg
  · rw [State.g_p_field (f := MD_IDLE_CFG_TIME) (r := MD_IDLE_CFG_LEVEL) _ _ rfl (by decide) (by decide),
      State.g_p_same _ _ _ (by decide)]
    exact Nat.mod_eq_of_lt hl
  · rw [State.g_p_same _ _ _ (by decide)]
    exact Nat.mod_eq_of_lt ht

theorem State.plainWrite_idleCfg (s : State) {g l t : Nat} (hg : g < 16) (hl : l < 4) (ht : t < 2 ^ 24) :
    s.plainWrite MD_IDLE_CFG (pk [(g, 4), (l, 2), (0, 2), (t, 24)]) 0 =
      (s.idleCfgShown g l t).mdU (fun m => { m with timers := m.timers.ins (4 * g + l) t }) := by
  obtain ⟨hgroup, hlevel, htime⟩ := s.idleCfgShown_fields hg hl ht
  have b0 : bitsOf (pk [(g, 4), (l, 2), (0, 2), (t, 24)]) 0 4 = g := (bitsOf_pk 0 rfl rfl).trans (Nat.mod_eq_of_lt hg)
  have b1 : bitsOf (pk [(g, 4), (l, 2), (0, 2), (t, 24)]) 4 2 = l := (bitsOf_pk 1 rfl rfl).trans (Nat.mod_eq_of_lt hl)
  have b2 : bitsOf (pk [(g, 4), (l, 2), (0, 2), (t, 24)]) 8 24 = t := (bitsOf_pk 3 rfl rfl).trans (Nat.mod_eq_of_lt ht)
  have hfields : State.each [⟨0, 4, .rw, 0⟩, ⟨4, 2, .rw, 0⟩, ⟨8, 24, .rw, 0x32⟩]
      (fun f t' => t'.fieldWrite MD_IDLE_CFG (pk [(g, 4), (l, 2), (0, 2), (t, 24)]) 0 false f) s = s.idleCfgShown g l t := by
    simp only [State.each, List.foldl, State.fieldWrite, b0, b1, b2]
    rfl
  unfold State.plainWrite
  simp only [regFields_idleCfg, hfields, if_true, hgroup, hlevel, htime]

theorem exec_idleCfgWrite (s : State) (group : Fin 16) (level : Fin 4) (time : BitVec 24) :
    exec (.idleCfgWrite group level time) s = .next ((s.idleCfgShown group.val level.val time.toNat).mdU (fun m =>
      { m with timers := m.timers.ins (4 * group.val + level.val) time.toNat })) := by
  show Host.Outcome.next (s.plainWrite MD_IDLE_CFG (pk [(group.val, 4), (level.val, 2), (0, 2), (time.toNat, 24)]) 0) = _
  rw [s.plainWrite_idleCfg group.isLt level.isLt time.isLt]

theorem State.idleTime_ins_same (s : State) (g l t : Nat) :
    (s.mdU (fun m => { m with timers := m.timers.ins (4 * g + l) t })).idleTime g l = t := by
  show ((s.md.timers.ins (4 * g + l) t).find (4 * g + l)).getD _ = t
  rw [Tbl.find_ins_same]
  rfl

theorem State.idleTime_ins_other (s : State) {g l g' l' : Nat} (t : Nat) (h : 4 * g' + l' ≠ 4 * g + l) :
    (s.mdU (fun m => { m with timers := m.timers.ins (4 * g + l) t })).idleTime g' l' = s.idleTime g' l' := by
  show ((s.md.timers.ins (4 * g + l) t).find (4 * g' + l')).getD _ = _
  rw [Tbl.find_ins_other _ _ h]
  rfl

theorem State.rd_idleCfgShown (s : State) (g l t : Nat) {a : Nat} (h : a ≠ MD_IDLE_CFG) :
    (s.idleCfgShown g l t).rd a = s.rd a :=
  (State.rd_p_other _ _ h).trans ((State.rd_p_other _ _ h).trans (State.rd_p_other _ _ h))

/-- What the window reads as: the stored GROUP and LEVEL, and in TIME the timer in force for them. -/
theorem State.peek_idleCfg (s : State) : s.peek MD_IDLE_CFG =
    setField (s.rd MD_IDLE_CFG) 8 24 (s.idleTime (s.g MD_IDLE_CFG_GROUP) (s.g MD_IDLE_CFG_LEVEL)) := by
  unfold State.peek
  dsimp only
  rw [if_neg (by decide), if_neg (by decide), if_pos rfl]

theorem exec_rcRegisterRead_idleCfg {s : State} {core : Bool} {adds : Word} (h : s.reaches core false MD_IDLE_CFG = true) :
    Answers (.rcRegisterRead (BitVec.ofNat 24 MD_IDLE_CFG) core adds) s (fun t => t.rdata = s.peek MD_IDLE_CFG) := by
  refine ⟨_, exec_rcRegisterRead (by decide) h, ?_⟩
  show (s.ctlRead MD_IDLE_CFG adds.toNat).rdata = _
  rw [State.ctlRead_plain (by decide +kernel), State.plainRead_eq regFields_idleCfg, State.keepAdded_rdata]
  rfl

/-- Settles O13: the window's three fields stay as written, and the timer table is a map of group and level. -/
theorem idleConfigurationTimers : Obligations.IdleConfigurationTimers := by
  refine ⟨fun s group level time => ?_, fun s core adds h => ?_⟩
  · obtain ⟨hgroup, hlevel, -⟩ := s.idleCfgShown_fields group.isLt level.isLt time.isLt
    refine ⟨_, exec_idleCfgWrite s group level time,
      State.idleTime_ins_same _ _ _ _, hgroup, hlevel, fun g l hne => ?_, fun a ha => ?_⟩
    · refine State.idleTime_ins_other _ _ fun hkey => hne (Prod.ext (Fin.ext ?_) (Fin.ext ?_)) <;> dsimp only <;> omega
    · rw [State.mdU_rd, s.rd_idleCfgShown _ _ _ ha]
  · obtain ⟨t, hexec, ht⟩ := exec_rcRegisterRead_idleCfg (adds := adds) h
    refine ⟨t, hexec, ?_⟩
    dsimp only
    rw [ht, State.peek_idleCfg]
    exact ⟨fieldOf_setField_below _ _ (by decide) (by decide), fieldOf_setField_below _ _ (by decide) (by decide),
      fieldOf_setField_same _ _ (by decide)⟩

end Sys2Proof.Machine

/-! PROOFS. The idle ladder, and the way into REST and out of it (O58). -/

namespace Sys2Proof.Machine

open Reg

section
variable {s : State}

/-! The idle ladder (R641–R646). -/

theorem exec_idleTimerExpiry_serving {group : Fin 16} {level : Fin 4} (hmode : s.mode = mService) (hact : s.g CM_ACT_PHASE = 0)
    (hheld : s.timersHeld = false) : exec (.idleTimerExpiry group level) s = .next (s.mdU (fun m =>
      { m with reached := m.reached.putD group.val 0 (setBit (m.reached.getD group.val 0) level.val) })).idleStep :=
  congrArg Host.Outcome.next (if_neg (by simp [hmode, hact, hheld]))

theorem exec_idleStepDone_step (hrest : s.md.rest = .awake) (hexit : s.md.exiting = false)
    (hstep : s.is MD_IDLE_STAT_STEPPING = true) (hmet : s.stepMet = true) : exec .idleStepDone s = .next (
      let u := (s.inc MD_IDLE_STAT_LEVEL).off MD_IDLE_STAT_STEPPING
      if u.is MD_IDLE_STAT_EXIT_PEND then u.exitStart else u.idleStep) := by
  refine congrArg Host.Outcome.next ?_
  rw [hrest]
  exact (if_neg (ne_true_of_eq_false hexit)).trans (if_pos (by simp [hstep, hmet]))

theorem exec_idleStepDone_exit (hrest : s.md.rest = .awake) (hexit : s.md.exiting = true) (hdone : s.exitDone = true) :
    exec .idleStepDone s = .next ((s.mdU (fun m => { m with exiting := false })).off MD_IDLE_STAT_LEVEL) := by
  refine congrArg Host.Outcome.next ?_
  rw [hrest]
  exact (if_pos hexit).trans (if_pos hdone)

theorem exec_idleStepDone_drained (hrest : s.md.rest = .draining) (hempty : s.cm.table = []) :
    exec .idleStepDone s = .next s.restStop := by
  refine congrArg Host.Outcome.next ?_
  rw [hrest, hempty]
  rfl

theorem State.serving_of (h : s.mode = mService ∨ s.mode = mMaint) : s.serving = true := by simpa [State.serving] using h

theorem exec_demand_latched (hhalt : s.is QM_HALT_HALTED = false) (hmode : s.mode = mService ∨ s.mode = mMaint)
    (hlose : s.is MD_IDLE_STAT_STEPPING = true ∨ s.md.rest ≠ .awake) :
    exec .demand s = .next ((s.on MD_IDLE_STAT_EXIT_PEND).sat MD_PEND_CNT_COUNT 1) :=
  congrArg Host.Outcome.next ((if_neg (by simp [hhalt, State.serving_of hmode])).trans (if_pos (by simpa using hlose)))

theorem exec_demand_exits (hhalt : s.is QM_HALT_HALTED = false) (hmode : s.mode = mService ∨ s.mode = mMaint)
    (hstep : s.is MD_IDLE_STAT_STEPPING = false) (hrest : s.md.rest = .awake) (hexit : s.md.exiting = false)
    (hlevel : s.is MD_IDLE_STAT_LEVEL = true) : exec .demand s = .next s.exitStart :=
  congrArg Host.Outcome.next ((if_neg (by simp [hhalt, State.serving_of hmode])).trans
    ((if_neg (by simp [hstep, hrest])).trans ((if_neg (ne_true_of_eq_false hexit)).trans (if_pos (by simp [hlevel])))))

/-! Into REST (R651). -/

theorem exec_restSpindlesStopped_stopped (hrest : s.md.rest = .stopping)
    (hstop : (upTo 4).all (fun i => decide (s.phase i = phStopped)) = true) :
    let v := State.each (upTo s.ar.pe.length) (fun _ t => t.peDone) s
    let u := (State.each restOrder (fun f t =>
      if t.g (Func.st f) = stOff then t else ((t.stopEnd f).p (Func.st f) stOff).off (Func.pend f)) v).saveArrays
    exec .restSpindlesStopped s = .next (if v.restReady = true
      then (u.mdU (fun m => { m with rest := .saved, saved := u.restRegs })).off BM_CTL_STATE else s) := by
  intro v u
  refine congrArg Host.Outcome.next ((if_neg (by simp [hrest, hstop])).trans ?_)
  cases hready : v.restReady with
  | true => exact if_neg (by simp [v, hready])
  | false => exact if_pos (by simp [v, hready])

theorem exec_restPowerOff_saved (hrest : s.md.rest = .saved) :
    let u := (((((s.off LK_CTL_STATE).passClose).raise 0x0F04 0 0).coreOff).inc MD_REST_CNT_COUNT).goMode mRest
    exec .restPowerOff s = .next (if s.is MD_IDLE_STAT_EXIT_PEND
      then (u.mdU (fun m => { m with rest := .waking false, gotoRest := false })).linkWake
      else u.mdU (fun m => { m with rest := .asleep, gotoRest := false })) :=
  congrArg Host.Outcome.next (if_neg (by simp [hrest]))

/-! Out of REST (R654–R657). -/

theorem exec_wake_asleep {trip : Bool} (hrest : s.md.rest = .asleep) : exec (.wake trip) s = .next (s.mdU (fun m => { m with
    rest := .waking trip, safeReq := if trip then 1 else m.safeReq })).linkWake := by
  refine congrArg Host.Outcome.next ?_
  rw [hrest]

theorem exec_restExitComplete_waking {trip : Bool} (hrest : s.md.rest = .waking trip) (hmode : s.mode = mRest)
    (hlink : s.is LK_CTL_EN = true → s.g LK_CTL_STATE = stOn) :
    let u := ((s.blocksOn.causesFresh).doorbellsAll).mdU (fun m => { m with rest := .awake })
    exec .restExitComplete s = .next (if trip then
      ((u.note MD_STAT_REST_EXIT 0x0F05 0 0).safeNow (if u.md.safeReq = 0 then 1 else u.md.safeReq)).mdU
        (fun m => { m with safeReq := 0 })
      else ((u.goMode mService).note MD_STAT_REST_EXIT 0x0F05 0 0).exitStart) := by
  intro u
  refine congrArg Host.Outcome.next ?_
  rw [hrest]
  exact (if_neg (by rw [hmode]; decide)).trans (if_neg (by simpa using hlink))

end

/-- Settles O58: REST's sequence names the case, and each row's condition decides its guard. -/
theorem idleAndRestCommandsComplete : Obligations.IdleAndRestCommandsComplete :=
  ⟨fun _ _ _ hmode hact hheld => exec_idleTimerExpiry_serving hmode hact hheld,
    fun _ hrest hexit hstep hmet hpend =>
      (exec_idleStepDone_step hrest hexit hstep hmet).trans (congrArg Host.Outcome.next (if_neg (ne_true_of_eq_false hpend))),
    fun _ hrest hexit hstep hmet hpend =>
      (exec_idleStepDone_step hrest hexit hstep hmet).trans (congrArg Host.Outcome.next (if_pos hpend)),
    fun _ hrest hexit hdone => exec_idleStepDone_exit hrest hexit hdone,
    fun _ hrest hempty => exec_idleStepDone_drained hrest hempty,
    fun _ hhalt hmode hlose => exec_demand_latched hhalt hmode hlose,
    fun _ hhalt hmode hstep hrest hexit hlevel => exec_demand_exits hhalt hmode hstep hrest hexit hlevel,
    fun _ hrest hstop => exec_restSpindlesStopped_stopped hrest hstop, fun _ hrest => exec_restPowerOff_saved hrest,
    fun _ _ hrest => exec_wake_asleep hrest, fun _ hrest hmode hlink => exec_restExitComplete_waking hrest hmode hlink,
    fun _ hrest hmode hlink => exec_restExitComplete_waking hrest hmode hlink⟩

end Sys2Proof.Machine

/-! PROOFS. Acknowledging faults (O14); the hourglass, histories, and the event recorder (O32). -/

namespace Sys2Proof.Machine

open Reg

/-! What an acknowledgement leaves of FT_U_PEND (R666). -/

/-- The classes pending after those of the mask are taken out. -/
def pendLeft (pend mask : Nat) : Nat := (BitVec.ofNat 32 pend &&& ~~~ (BitVec.ofNat 32 mask)).toNat

theorem bitOf_eq_testBit (n i : Nat) : bitOf n i = (n.testBit i).toNat := (Nat.toNat_testBit n i).symm

theorem bitOf_pendLeft {pend mask i : Nat} (h : i < 32) :
    bitOf (pendLeft pend mask) i = if bitOf mask i = 1 then 0 else bitOf pend i := by
  have hbit : (pendLeft pend mask).testBit i = (pend.testBit i && !mask.testBit i) := by
    rw [pendLeft, BitVec.testBit_toNat, BitVec.getLsbD_and, BitVec.getLsbD_not, BitVec.getLsbD_ofNat, BitVec.getLsbD_ofNat]
    simp [h]
  simp only [bitOf_eq_testBit, hbit]
  cases mask.testBit i <;> simp

theorem pendLeft_lt (pend mask : Nat) : pendLeft pend mask < 2 ^ 32 := BitVec.isLt _

/-- The unit with the classes of the mask no longer pending. -/
def State.pendTaken (s : State) (u mask : Nat) : State :=
  (s.p (FT_U_PEND_MASK u) (pendLeft (s.g (FT_U_PEND_MASK u)) mask)).unitUp u
    (fun x => { x with order := x.order.filter (fun b => bitOf mask b = 0) })

/-- The unit calm again: its hourglass stopped, its level 0, and no quiesce of the store asked for. -/
def State.calm (s : State) (u : Nat) : State :=
  ((s.off (FT_U_STAT_HG u)).off (FT_U_STAT_LEVEL u)).ftU (fun f => { f with storeQuiesce := f.storeQuiesce.filter (· ≠ u) })

section
variable {s : State} {u mask : Nat}

theorem State.ack_eq : s.ack u mask =
    if pendLeft (s.g (FT_U_PEND_MASK u)) mask = 0 then (s.pendTaken u mask).calm u else s.pendTaken u mask := rfl

theorem stat_ne_pend (u : Nat) : FT_U_STAT u ≠ FT_U_PEND u := by
  unfold FT_U_STAT FT_U_PEND
  omega

theorem State.pendTaken_rd {a : Nat} (h : a ≠ FT_U_PEND u) : (s.pendTaken u mask).rd a = s.rd a := by
  unfold State.pendTaken
  rw [State.unitUp_rd, State.rd_p_other _ _ h]

theorem State.pendTaken_pend : (s.pendTaken u mask).g (FT_U_PEND_MASK u) = pendLeft (s.g (FT_U_PEND_MASK u)) mask := by
  unfold State.pendTaken
  rw [State.unitUp_g, State.g_p_same _ _ _ (by simp [FT_U_PEND_MASK])]
  exact Nat.mod_eq_of_lt (pendLeft_lt _ _)

theorem State.pendTaken_unit {v : Nat} (h : v ≠ u) : (s.pendTaken u mask).unit v = s.unit v := Tbl.getD_putD_other _ _ _ _ h

theorem State.calm_rd {a : Nat} (h : a ≠ FT_U_STAT u) : (s.calm u).rd a = s.rd a := by
  unfold State.calm State.off
  rw [State.ftU_rd, State.rd_p_other (f := FT_U_STAT_LEVEL u) _ _ h, State.rd_p_other (f := FT_U_STAT_HG u) _ _ h]

theorem State.calm_pend : (s.calm u).g (FT_U_PEND_MASK u) = s.g (FT_U_PEND_MASK u) :=
  congrArg (fun w => fieldOf w 0 32) (State.calm_rd (stat_ne_pend u).symm)

theorem State.calm_hg : (s.calm u).g (FT_U_STAT_HG u) = 0 := by
  unfold State.calm
  rw [State.ftU_g, State.off, State.g_p_field (f := FT_U_STAT_LEVEL u) (r := FT_U_STAT_HG u) _ _ rfl (by simp [FT_U_STAT_LEVEL])
    (by simp [FT_U_STAT_LEVEL, FT_U_STAT_HG]), State.g_off_same _ (by simp [FT_U_STAT_HG])]

theorem State.calm_level : (s.calm u).g (FT_U_STAT_LEVEL u) = 0 := by
  unfold State.calm
  rw [State.ftU_g, State.g_off_same _ (by simp [FT_U_STAT_LEVEL])]

theorem State.ack_pend : (s.ack u mask).g (FT_U_PEND_MASK u) = pendLeft (s.g (FT_U_PEND_MASK u)) mask := by
  rw [State.ack_eq]
  split
  · rw [State.calm_pend, State.pendTaken_pend]
  · exact State.pendTaken_pend

theorem State.ack_cleared (h : (s.ack u mask).g (FT_U_PEND_MASK u) = 0) :
    (s.ack u mask).g (FT_U_STAT_HG u) = 0 ∧ (s.ack u mask).g (FT_U_STAT_LEVEL u) = 0 := by
  rw [State.ack_eq, if_pos (State.ack_pend ▸ h)]
  exact ⟨State.calm_hg, State.calm_level⟩

theorem State.ack_pending (h : (s.ack u mask).g (FT_U_PEND_MASK u) ≠ 0) : s.ack u mask = s.pendTaken u mask := by
  rw [State.ack_eq, if_neg (State.ack_pend ▸ h)]

theorem State.ack_rd {a : Nat} (hpend : a ≠ FT_U_PEND u) (hstat : a ≠ FT_U_STAT u) : (s.ack u mask).rd a = s.rd a := by
  rw [State.ack_eq]
  split
  · rw [State.calm_rd hstat, State.pendTaken_rd hpend]
  · exact State.pendTaken_rd hpend

theorem State.calm_unit (v : Nat) : (s.calm u).unit v = s.unit v := by
  unfold State.unit State.calm
  simp only [State.ftU_unitT, State.off, State.p_unitT]

theorem State.ack_unit {v : Nat} (h : v ≠ u) : (s.ack u mask).unit v = s.unit v := by
  rw [State.ack_eq]
  split
  · exact (State.calm_unit v).trans (State.pendTaken_unit h)
  · exact State.pendTaken_unit h

theorem State.pendTaken_parts :
    { s.pendTaken u mask with regs := [], ft := {}, unitT := [] } = { s with regs := [], ft := {}, unitT := [] } := rfl

theorem State.calm_parts :
    { s.calm u with regs := [], ft := {}, unitT := [] } = { s with regs := [], ft := {}, unitT := [] } := rfl

/-- Registers, the fault units, and what they ask of the store are all an acknowledgement changes. -/
theorem State.ack_parts : { s.ack u mask with regs := [], ft := {}, unitT := [] } = { s with regs := [], ft := {}, unitT := [] } := by
  rw [State.ack_eq]
  split
  · exact State.calm_parts.trans State.pendTaken_parts
  · exact State.pendTaken_parts

end

/-- Settles O14: the classes of the mask leave FT_U_PEND, and the unit's state follows what is left of it. -/
theorem faultAcknowledge : Obligations.FaultAcknowledge := by
  intro s u mask
  refine ⟨s.ack u.val mask.toNat, rfl, fun i hi => ?_, fun h => ?_, fun h => ?_, fun a hpend hstat => State.ack_rd hpend hstat,
    State.ack_parts, fun v hv => State.ack_unit hv⟩
  · rw [State.ack_pend, bitOf_pendLeft hi]
  · obtain ⟨hhg, hlevel⟩ := State.ack_cleared h
    exact ⟨by simp [State.is, hhg], hlevel⟩
  · rw [State.ack_pending h]
    exact ⟨State.pendTaken_rd (stat_ne_pend u.val), rfl⟩

section
variable {s : State}

theorem exec_hourglassExpiry_running {u : Fin 60} (hrun : s.is (FT_U_STAT_HG u.val) = true) (hheld : s.timersHeld = false) :
    exec (.hourglassExpiry u) s = .next ((s.escalate u.val 0 ((s.unit u.val).order.headD 0)).careFrom s) :=
  congrArg Host.Outcome.next (if_pos (by simp [hrun, hheld]))

theorem exec_faultAck_late {u : Fin 60} {mask : Word} (hpend : s.g (FT_U_PEND_MASK u.val) ≠ 0)
    (hempties : BitVec.ofNat 32 (s.g (FT_U_PEND_MASK u.val)) &&& ~~~ mask = 0) : exec (.faultAck u mask true) s =
      .next ((s.sat FT_LATE_CNT_COUNT 1).note (FT_U_STAT_ACK_LATE u.val) 0x0103 u.val mask.toNat) := by
  have hmask : pk [(mask.toNat, 32)] = mask.toNat := by simpa [pk] using Nat.mod_eq_of_lt mask.isLt
  rw [← hmask]
  exact congrArg Host.Outcome.next (if_pos (by simp [hpend, hempties]))

/-- A slot of the snapshot takes the two words of its entry, or 0. -/
theorem exec_historySnap (u : Fin 60) : exec (.historySnap u) s = .next (State.each (upTo 8) (fun k t =>
    (t.p (FT_U_HIST_DATA u.val (2 * k)) (match (s.unit u.val).hist[k]? with | some e => e.words.1 | none => 0)).p
      (FT_U_HIST_DATA u.val (2 * k + 1)) (match (s.unit u.val).hist[k]? with | some e => e.words.2 | none => 0)) s) := by
  refine congrArg (fun f => Host.Outcome.next (State.each (upTo 8) f s)) (funext fun k => funext fun t => ?_)
  cases (s.unit u.val).hist[k]? with
  | some e => rfl
  | none => rfl

/-! The event recorder (R682–R691). -/

theorem exec_eventRecordWritten_queued {r : EvRec} {q : List EvRec} (hclear : s.ev.clearing = none) (hqueue : s.ev.queue = r :: q) :
    exec .eventRecordWritten s = .next ((State.storeRec { s with ev := { s.ev with queue := q } } r).reportDrops) := by
  refine congrArg Host.Outcome.next ((if_neg (by simp [hclear])).trans ?_)
  rw [hqueue]

theorem rateTokenReturn_answers (code : BitVec 16) : Answers (.rateTokenReturn code) s fun t =>
    t.ev.used.getD code.toNat 0 = s.ev.used.getD code.toNat 0 - 1 ∧
    (∀ c, c ≠ code.toNat → t.ev.used.getD c 0 = s.ev.used.getD c 0) ∧ t = { s with ev := { s.ev with used := t.ev.used } } :=
  ⟨_, rfl, Tbl.getD_putD_same _ _ _ _, fun _ hc => Tbl.getD_putD_other _ _ _ _ hc, rfl⟩

/-- The clear of an area, begun (R688). -/
theorem State.evClear_starts (area : Nat) (hbusy : s.is EV_CMD_BUSY = false) (hmode : s.mode = mMaint) :
    let v := ((s.off EV_CMD_ERR).on EV_CMD_BUSY).flushEvents
    let n := nextSeq v.ev.seqAcc
    s.evClear area = State.reportDrops { v with ev := { v.ev with
      clearing := some (area, { v.mkRec 0x0112 0x40 (pk [(area, 1)]) false with seq := n }), seqAcc := n } } :=
  (if_neg (ne_true_of_eq_false hbusy)).trans (if_neg (by simp [hmode]))

theorem State.evClear_refused (area : Nat) (hbusy : s.is EV_CMD_BUSY = false) (hmode : s.mode ≠ mMaint) :
    s.evClear area = s.p EV_CMD_ERR 1 :=
  (if_neg (ne_true_of_eq_false hbusy)).trans (if_pos hmode)

theorem exec_evClearDone_first {r : EvRec} (hclear : s.ev.clearing = some (0, r)) :
    let v := ({ s with ev := { s.ev with first := [], clearing := none } }).off EV_POS_FIRST_CNT
    exec .evClearDone s = .next ((((v.storeRec r).on EV_STAT_CLEARED).flushEvents.reportDrops).off EV_CMD_BUSY) := by
  intro v
  refine congrArg Host.Outcome.next ?_
  rw [hclear]
  rfl

theorem exec_evClearDone_last {r : EvRec} (hclear : s.ev.clearing = some (1, r)) :
    let v := (({ s with ev := { s.ev with last := [], clearing := none } }).off EV_POS_LAST_HEAD).off EV_POS_LAST_WRAP
    exec .evClearDone s = .next ((((v.storeRec r).on EV_STAT_CLEARED).flushEvents.reportDrops).off EV_CMD_BUSY) := by
  intro v
  refine congrArg Host.Outcome.next ?_
  rw [hclear]
  rfl

theorem exec_eventReadData_steps :
    let w := s.g EV_RD_ADDR_WORD
    let v := ({ s with rdata := BitVec.ofNat 32 s.evWord }).p EV_RD_ADDR_WORD (w + 1)
    exec .eventReadData s = .next (if w = 7 then v.p EV_RD_ADDR_INDEX (v.g EV_RD_ADDR_INDEX + 1) else v) := by
  intro w v
  show Host.Outcome.next (if decide (w = 7) then v.p EV_RD_ADDR_INDEX (v.g EV_RD_ADDR_INDEX + 1) else v) = _
  simp only [decide_eq_true_eq]

end

/-- Settles O32: the hourglass and the acknowledgement by their guards, and the recorder by its queue and the clear that runs. -/
theorem faultAndEventCommandsComplete : Obligations.FaultAndEventCommandsComplete :=
  ⟨fun _ _ hrun hheld => exec_hourglassExpiry_running hrun hheld, fun _ _ _ => rfl,
    fun _ _ _ hpend hempties => exec_faultAck_late hpend hempties, fun _ => rfl,
    fun _ hheld => congrArg Host.Outcome.next ((if_neg Bool.false_ne_true).trans (if_neg (ne_true_of_eq_false hheld))),
    fun _ u => exec_historySnap u, fun _ _ => rfl, fun _ _ _ hclear hqueue => exec_eventRecordWritten_queued hclear hqueue,
    fun _ code => rateTokenReturn_answers code, fun _ hmode => congrArg Host.Outcome.next (if_neg hmode),
    fun _ hbusy hmode => ⟨congrArg Host.Outcome.next (State.evClear_starts 0 hbusy hmode),
      congrArg Host.Outcome.next (State.evClear_starts 1 hbusy hmode)⟩,
    fun _ hbusy hmode => ⟨congrArg Host.Outcome.next (State.evClear_refused 0 hbusy hmode),
      congrArg Host.Outcome.next (State.evClear_refused 1 hbusy hmode)⟩,
    fun _ _ hclear => exec_evClearDone_first hclear, fun _ _ hclear => exec_evClearDone_last hclear,
    fun _ => exec_eventReadData_steps⟩

end Sys2Proof.Machine

/-! PROOFS. Who writes the fuses and the firmware store (O7); boot, the gate, anti-rollback and the store (O17, O26). -/

namespace Sys2Proof.Machine

open Reg

/-! The commands whose parts hold the fuses, the revocation, and the firmware store. -/

theorem fuse_in_parts {c : Instr} (h : (partsOf c).fuse = true) : c = .romBoot ∨ c = .commitSvnDone := by
  cases c
  case romBoot => exact .inl rfl
  case commitSvnDone => exact .inr rfl
  all_goals exact absurd h Bool.false_ne_true

theorem revoked_in_parts {c : Instr} (h : (partsOf c).revoked = true) : c = .revokeVk0 ∨
    (∃ a v core sets, c = .registerWrite a v core sets) ∨
    (∃ src tag a len d rsp fcrc sets, c = .controlWriteFrame src tag a len d rsp fcrc sets) := by
  cases c
  case revokeVk0 => exact .inl rfl
  case registerWrite a v core sets => exact .inr (.inl ⟨a, v, core, sets, rfl⟩)
  case controlWriteFrame src tag a len d rsp fcrc sets => exact .inr (.inr ⟨src, tag, a, len, d, rsp, fcrc, sets, rfl⟩)
  all_goals exact absurd h Bool.false_ne_true

theorem store_in_parts {c : Instr} (h : (partsOf c).store = true) : c = .storeOpDone ∨ c = .bootRecordWrite := by
  cases c
  case storeOpDone => exact .inl rfl
  case bootRecordWrite => exact .inr rfl
  all_goals exact absurd h Bool.false_ne_true

/-- Settles O7: a command keeps to its parts, and only the named ones have these three among them. -/
theorem securityStateHasFewWriters : Obligations.SecurityStateHasFewWriters := fun c s t h =>
  ⟨fun hne => fuse_in_parts ((exec_fr c s t h).fuse.resolve_right hne),
    fun hne => revoked_in_parts ((exec_fr c s t h).revoked.resolve_right hne),
    fun hne => store_in_parts ((exec_fr c s t h).store.resolve_right hne)⟩

section
variable {s : State}

/-! Anti-rollback (R705, R706). -/

theorem exec_revokeVk0_vendorOne (hbusy : s.is BT_CMD_BUSY = false) (hvk : s.g BT_SVN_VK = 1) : exec .revokeVk0 s =
    .next ((((s.off BT_CMD_ERR).btU (fun b => { b with revoked := true })).on BT_SVN_VK0_REVOKED).raise 0x120A 1 0) :=
  congrArg Host.Outcome.next ((if_neg (ne_true_of_eq_false hbusy)).trans (if_neg (not_not_intro hvk)))

theorem exec_revokeVk0_refused (hbusy : s.is BT_CMD_BUSY = false) (hvk : s.g BT_SVN_VK ≠ 1) :
    exec .revokeVk0 s = .next (s.p BT_CMD_ERR 4) :=
  congrArg Host.Outcome.next ((if_neg (ne_true_of_eq_false hbusy)).trans (if_pos hvk))

theorem exec_revokeVk0_busy (hbusy : s.is BT_CMD_BUSY = true) : exec .revokeVk0 s = .next s :=
  congrArg Host.Outcome.next (if_pos hbusy)

theorem exec_commitSvn_allowed (hbusy : s.is BT_CMD_BUSY = false) (hmode : s.serving = true) (hact : s.g CM_ACT_PHASE = 0) :
    exec .commitSvn s = .next (if s.fuseCnt ≥ s.g BT_SVN_SVN then s.off BT_CMD_ERR else (s.off BT_CMD_ERR).on BT_CMD_BUSY) :=
  congrArg Host.Outcome.next ((if_neg (ne_true_of_eq_false hbusy)).trans ((if_neg (by simp [hmode])).trans (if_neg (by simp [hact]))))

theorem exec_commitSvnDone_busy (hbusy : s.is BT_CMD_BUSY = true) (hgate : s.bt.gating = none) :
    let u := s.blowTo (s.g BT_SVN_SVN)
    let v := (u.p BT_SVN_FUSE_CNT u.fuseCnt).off BT_CMD_BUSY
    exec .commitSvnDone s = .next (v.raise 0x1205 1 (pk [(s.fuseCnt, 7), (v.fuseCnt, 7)])) :=
  congrArg Host.Outcome.next (if_pos (by simp [hbusy, hgate]))

end

/-- Settles O17: the key the image is signed with decides, once no operation runs. -/
theorem revokeVendorKeyZero : Obligations.RevokeVendorKeyZero :=
  ⟨fun _ hbusy hvk => exec_revokeVk0_vendorOne hbusy hvk, fun _ hbusy hvk => exec_revokeVk0_refused hbusy hvk,
    fun _ hbusy => exec_revokeVk0_busy hbusy⟩

section
variable {s : State}

/-! ROM boot and the gate (R697–R702). -/

theorem exec_romBoot_boot (hmode : s.mode = mBoot) (hstage : s.g BT_BOOT_STAGE = 0) (himg : s.is BT_STAT_NO_IMAGE = false) :
    let a := s.btU (fun b => { b with fuse := (upTo 64).foldl (fun f i =>
      if bitOf f (2 * i) = 1 || bitOf f (2 * i + 1) = 1 then setBit (setBit f (2 * i)) (2 * i + 1) else f) b.fuse })
    let b := (a.p BT_SVN_FUSE_CNT a.fuseCnt).p BT_SVN_VK0_REVOKED (b2n a.bt.revoked)
    let c := State.each (upTo 4) (fun n t => t.p (BT_UID_DATA n) (Config.uid.toNat / 2 ^ (32 * n))) b
    let u := (c.setWords8 BT_DPK_DATA Config.devicePk.toNat).keysShow
    let first := match u.bootCopy with
      | some (_, _, x) => x
      | none => 0
    let v := u.slotBad first (u.slotCheck first)
    exec .romBoot s = .next (
      if u.slotCheck first = 0 then u.bootSlot first
      else if v.slotCheck (1 - first) = 0 then ((v.bootSlot (1 - first)).on BT_BOOT_FALLBACK).raise 0x1202 1 0
      else ((v.slotBad (1 - first) (v.slotCheck (1 - first))).fault BT_STAT_NO_IMAGE 1 1 0x1203 0).romLink) :=
  congrArg Host.Outcome.next (if_neg (by simp [hmode, hstage, himg]))

theorem exec_gate_gateable (hbusy : s.is BT_CMD_BUSY = false) (hstage : s.g BT_BOOT_STAGE ≠ 0)
    (hdone : s.bit BT_GATE_DONE (s.g BT_GATE_STAGE) = false) (hlow : 2 ≤ Image.stTyp s.bt.hdr (s.g BT_GATE_STAGE))
    (hhigh : Image.stTyp s.bt.hdr (s.g BT_GATE_STAGE) ≤ 4) : exec .gate s =
      .next (((s.off BT_CMD_ERR).on BT_CMD_BUSY).btU (fun b => { b with gating := some (s.g BT_GATE_STAGE) })) :=
  congrArg Host.Outcome.next ((if_neg (ne_true_of_eq_false hbusy)).trans
    (if_neg (by simp [hstage, hdone, Nat.not_lt.mpr hlow, Nat.not_lt.mpr hhigh])))

theorem State.gateRun_eq (i : Nat) : s.gateRun i =
    if Image.sha256 (Image.stLen s.bt.hdr i) (s.slotBody s.gateSlot s.bt.hdr i) = Image.stHash s.bt.hdr i then
      (s.stageLoad (Image.stTyp s.bt.hdr i) (Image.stLen s.bt.hdr i) (s.slotBody s.gateSlot s.bt.hdr i)).gatePass i
    else s.gateFail i := by
  unfold State.gateRun State.gateHolds
  simp only [decide_eq_true_eq]

theorem exec_gateComplete_running {i : Nat} (hgate : s.bt.gating = some i) :
    exec .gateComplete s = .next (((s.btU (fun b => { b with gating := none })).off BT_CMD_BUSY).gateRun i) := by
  refine congrArg Host.Outcome.next ?_
  rw [hgate]

/-! The firmware store (R707, R709, R712). -/

theorem exec_storeOpDone_piece {o : FsOp} (hlate : s.bt.fsLate = false) (hop : s.bt.fsOp = some o) :
    let u := s.btU (fun b => { b with fsOp := none })
    let p := slotPage o.slot + o.page
    let v := (u.fsErase p o.n).fsWr p o.n (u.cmd o.id).buf
    let w := v.btSlotUp o.slot (fun x => { x with
      next := o.page + o.n, digest := if o.page = 0 then Image.hdrDigest (v.slotHdr o.slot) else x.digest })
    exec .storeOpDone s = .next ((((w.stageJudge o.slot).stgShow o.slot).complete o.id 0 0).fwNext 40) := by
  intro u p v w
  refine congrArg Host.Outcome.next ((if_neg (ne_true_of_eq_false hlate)).trans ?_)
  rw [hop]

theorem exec_storeOpDone_late (hlate : s.bt.fsLate = true) : exec .storeOpDone s =
    .next (((s.btU (fun b => { b with fsLate := false })).sat BT_LATE_CNT_COUNT 1).note BT_STAT_FS_LATE 0x1208 1 0) :=
  congrArg Host.Outcome.next (if_pos hlate)

theorem exec_storeTimeout_running {o : FsOp} (hop : s.bt.fsOp = some o) :
    let u := ((s.btU (fun b => { b with fsOp := none, fsLate := true })).btSlotUp o.slot (fun x => { mark := x.mark })).stgShow o.slot
    exec .storeTimeout s = .next (((u.complete o.id 0x0303 0).fault BT_STAT_FS_TMO 1 3 0x1207 0).fwNext 40) := by
  intro u
  refine congrArg Host.Outcome.next ?_
  rw [hop]

theorem exec_bootRecordWrite_due (hdue : s.bt.recDue = true) :
    let gen := match s.bootCopy with
      | some (_, g, _) => g + 1
      | none => 1
    let copy := match s.bootCopy with
      | some (c, _, _) => 1 - c
      | none => 0
    let b := pk [(0x5A484252, 32), (gen, 32), (s.g BT_BOOT_SLOT, 8), (0, 408)]
    exec .bootRecordWrite s = .next (((s.fsWr (16 * copy) 1 (b + Code.crc32c 480 b * 2 ^ 480)).on BT_BOOT_REC_DONE).btU
      (fun x => { x with recDue := false })) :=
  congrArg Host.Outcome.next (if_pos hdue)

end

/-- Settles O26: what each row waits for decides its guard, and the gate's digest decides between load and failure. -/
theorem bootAndSecurityCommandsComplete : Obligations.BootAndSecurityCommandsComplete :=
  ⟨fun _ hmode hstage himg => exec_romBoot_boot hmode hstage himg,
    fun _ hbusy hstage hdone hlow hhigh => exec_gate_gateable hbusy hstage hdone hlow hhigh,
    fun _ i hgate => (exec_gateComplete_running hgate).trans (congrArg Host.Outcome.next (State.gateRun_eq i)),
    fun _ hbusy hmode hact => exec_commitSvn_allowed hbusy hmode hact, fun _ hbusy hgate => exec_commitSvnDone_busy hbusy hgate,
    fun _ hbusy hvk => exec_revokeVk0_vendorOne hbusy hvk, fun _ _ hlate hop => exec_storeOpDone_piece hlate hop,
    fun _ hlate => exec_storeOpDone_late hlate, fun _ _ hop => exec_storeTimeout_running hop,
    fun _ hdue => exec_bootRecordWrite_due hdue, fun _ => rfl⟩

end Sys2Proof.Machine
